-- ==== Sys2Proof/Word.lean ====
section
/-! DEFINITION. The word types of the ZCS8 and their plainest arithmetic. -/

namespace Sys2Proof

/-- One byte, the smallest unit the dictionary, the streams and the memories address. -/
abbrev Byte := BitVec 8

/-- A 64-bit word: object values of type U64, masks over sectors, doorbell addresses. -/
abbrev U64 := BitVec 64

/-- A 32-bit word: base-port words, frame addresses, sequence numbers. -/
abbrev U32 := BitVec 32

/-- A sparse table: pairs of a key and a value, keys strictly rising, no value equal to the table's default. -/
abbrev AMap (α : Type) := List (Nat × α)

end Sys2Proof
end

