-- ==== Sys2Proof/Syntax.lean ====
section
/-! DEFINITION. The commands of the ZCS8: one constructor per row of spec/opcode_table.json, and the operand shapes they carry. -/

namespace Sys2Proof

/-- Where a transport frame comes from: transport 0 port 0 UDP, 1 port 1 UDP, 2 port 0 raw, 3 port 1 raw
(DICT_SESSION_TABLE.transport), and the host's address on it (R48). -/
structure HostAddr where
  transport : Fin 4
  addr : Nat
  deriving DecidableEq, Repr

/-- The header of one transport frame (R62) without its service byte, which the command names, and its MAC; dest, the UDP port
or the EtherType that it came to (R61); rtag, the sequence number of its 802.1CB tag, where it carries one (R68). -/
structure Env where
  host : HostAddr
  dest : BitVec 16
  rtag : Option (BitVec 16)
  magic : BitVec 16
  version : Byte
  session : Byte
  flags : Byte
  transfer : BitVec 16
  seq : BitVec 32
  length : BitVec 16
  reserved : BitVec 16
  mac : List Byte
  deriving DecidableEq, Repr

/-- The fixed fields of a READ payload (R63). -/
structure ReadReq where
  index : BitVec 16
  sub : Byte
  ty : Byte
  offset : BitVec 32
  length : BitVec 32
  option : Byte
  deriving DecidableEq, Repr

/-- The fields of a WRITE or PAIRED WRITE payload (R63): for a paired write the data is value then complement. -/
structure WriteReq where
  index : BitVec 16
  sub : Byte
  ty : Byte
  offset : BitVec 32
  length : BitVec 32
  data : List Byte
  deriving DecidableEq, Repr

/-- One USDO request of a CANopen FD client node (R71, R72). kind: 0 read, 1 write, 2 segmented write begins,
3 segment, 4 last segment, 5 any other service; length is the whole length that a segmented write announces; server is the
node-ID that the request is for (R70). -/
structure UsdoReq where
  server : Fin 128
  kind : Fin 6
  index : BitVec 16
  sub : Byte
  length : BitVec 32
  data : List Byte
  deriving DecidableEq, Repr

/-- A block memory, arithmetic-free unit of a cluster: unit number within the cluster (R96). -/
structure UnitId where
  sector : Fin 48
  cluster : Fin 64
  unit : Fin 4
  deriving DecidableEq, Repr

/-- An arithmetic slice AS0 to AS7 of a cluster (R96). -/
structure SliceId where
  sector : Fin 48
  cluster : Fin 64
  unit : Fin 8
  deriving DecidableEq, Repr

/-- A flip-flop: ff0 or ff1 of one cell (R25, R104). -/
structure FfId where
  sector : Fin 48
  cluster : Fin 64
  tile : Fin 256
  cell : Fin 16
  ff : Fin 2
  deriving DecidableEq, Repr

/-- The inputs of one block memory port at one edge of its clock (R113 to R115). The low bits of addr are those of R150's
addr[14:0]; the bits above them select the block of a cascade chain whose blocks use all fifteen (R124). -/
structure BmPortIn where
  en : Bool
  we : Byte
  addr : BitVec 18
  din : BitVec 36
  regEn : Bool
  regClr : Bool
  deriving DecidableEq, Repr

/-- The operands and controls of an arithmetic slice in one cycle (R127, R128, R131). -/
structure ArithIn where
  a : BitVec 32
  b : BitVec 32
  c : BitVec 56
  acc : Bool
  sub : Bool
  ce : Bool
  rst : Bool
  deriving DecidableEq, Repr

/-- The inputs of a fabric queue in one cycle (R137, R139). -/
structure FqIn where
  push : Bool
  din : BitVec 36
  next : Bool
  mark : Bool
  rewind : Bool
  release : Bool
  rst : Bool
  deriving DecidableEq, Repr

/-- LUT modes of a cell (R99). -/
inductive LutMode where
  | whole6 | pair5 | adder
  deriving DecidableEq, Repr, Inhabited

/-- How a flip-flop works (R104). -/
inductive FfKind where
  | rising | latchHigh | latchLow
  deriving DecidableEq, Repr, Inhabited

/-- Where a flip-flop takes its data (R104), but for ff0's k5. -/
inductive FfSource where
  | ya | yb | bx
  deriving DecidableEq, Repr, Inhabited

/-- The set/reset type of a control set (R105). -/
inductive SrType where
  | none | sync | async
  deriving DecidableEq, Repr, Inhabited

/-- The settings of one flip-flop (R104, R106). -/
structure FfConf where
  kind : FfKind
  source : FfSource
  obeysCe : Bool
  obeysSr : Bool
  srSets : Bool
  deriving DecidableEq, Repr, Inhabited

/-- The settings of one cell: its LUT contents and mode (R99), whether ff0 takes k5 in place of its source, in the modes that
leave k5 free (R104), and its flip-flops. -/
structure CellConf where
  lut : BitVec 64
  mode : LutMode
  k5 : Bool
  ff0 : FfConf
  ff1 : FfConf
  deriving DecidableEq, Repr, Inhabited

/-- Where cell 0 or cell 8 of a tile takes its carry (R102). -/
inductive CarryIn where
  | zero | one | routed | below
  deriving DecidableEq, Repr, Inhabited

/-- The control set of a half-tile (R105): its clock, FCLK0 to FCLK7 or a routed wire, inverted or not, and its sr type. -/
structure ControlSet where
  clock : Option (Fin 8)
  inverted : Bool
  sr : SrType
  deriving DecidableEq, Repr, Inhabited

/-- The links of a routing node (R153): vert joins a tile's face and under nodes; seamX crosses the T0-T1 or T2-T3 seam, seamY
the T0-T2 or T1-T3 seam. -/
inductive Dir where
  | north | south | east | west | vert | base | seamX | seamY
  deriving DecidableEq, Repr, Inhabited

/-- The outputs of a cell (R150). -/
inductive CellOut where
  | ya | yb | cout | q0 | q1
  deriving DecidableEq, Repr, Inhabited

/-- What a wire or an input selects (R154): constant 0, an incoming wire of the node, an output of a cell of the tile, an
output of the unit anchored at the tile, by number, or an output of the sector's REIN primitive: 0 busy, 1 to 3 active. -/
inductive Pick where
  | zero
  | wire (d : Dir) (w : Nat)
  | cell (c : Fin 16) (o : CellOut)
  | unit (o : Nat)
  | rein (o : Fin 4)
  deriving DecidableEq, Repr, Inhabited

/-- The inputs that a face node serves (R150): k0 to k5, bx and the routed carry of cells, clk, ce and sr of the half-tiles,
and the inputs of the unit anchored at the tile, by number. -/
inductive FacePin where
  | k (c : Fin 16) (i : Fin 6)
  | bx (c : Fin 16) (i : Fin 2)
  | cin (half : Fin 2)
  | clk (half : Fin 2)
  | ce (half : Fin 2)
  | sr (half : Fin 2)
  | unit (i : Nat)
  deriving DecidableEq, Repr, Inhabited

/-- What the links did to a packet on its way (R358). -/
inductive LinkFault where
  | none | corrected | poisoned | headerLost
  deriving DecidableEq, Repr

/-- What the stored word or line that an access reads turned out to be (R405, R414, R470). -/
inductive MemErr where
  | good | corrected | uncorrectable
  deriving DecidableEq, Repr

/-- What a slice's lookup finds in the two tag copies of a way (R406): both good, one failed, or both failed. -/
inductive TagErr where
  | good
  | one (way : Fin 16)
  | both (way : Fin 16)
  deriving DecidableEq, Repr

/-- Where a configuration stream is read from (R320, R327, R344). -/
inductive StreamSrc where
  | primary | alternate | sealed | chain | feed | library
  deriving DecidableEq, Repr, Inhabited

/-- One bank of one pseudo-channel and rank of a global channel (R428). -/
structure BankId where
  channel : Fin 32
  pcB : Bool
  rank : Fin 4
  bank : Fin 32
  deriving DecidableEq, Repr

/-- The straps latched at the rise of PORST_N (R308). Each BDEF strap reads 0 open, 1 pull-down, 2 pull-up. -/
structure Straps where
  boot : BitVec 2
  bistOverride : Bool
  bdef : List (Fin 3)
  deriving DecidableEq, Repr

/-- A block that BIST or a Service test finds failing (R656, R673, R674). -/
inductive FailUnit where
  | cluster (sector : Fin 48) (c : Fin 64)
  | spareRow (sector : Fin 48)
  | faceSite (sector : Fin 48) (c : Fin 72) (tile : Fin 256) (group : Fin 42) (site : Fin 68)
  | panColumn (bank : Fin 32) (column : Nat)
  | waleWay (slice : Fin 16) (way : Fin 16)
  | waleSlice (slice : Fin 16)
  | quadrant (q : Fin 4)
  | laneQuad (q : Fin 12)
  | ioBank (b : Fin 8)
  | sensor (n : Fin 288)
  | channelRank (channel : Fin 32) (rank : Fin 4)
  | clusterVia (sector : Fin 48) (c : Fin 64) (vias : Nat)
  | towerVia (tower : Fin 4) (group : Fin 12) (copy : Fin 2) (vias : Nat)
  deriving DecidableEq, Repr

/-- A calibration item's two or three runs (R668, R669): the kind 0 to 5 in the order of R668's table, the item
number, the reference temperature in units of 1/64 degree, and the results of the runs. -/
structure CalRun where
  kind : Fin 6
  item : Nat
  temp : Int
  run1 : Int
  run2 : Int
  run3 : Int
  deriving DecidableEq, Repr

/-- A stake group: one per cluster, or one of the 12 duplicated groups of a tower (R655). -/
inductive StakeGroup where
  | cluster (sector : Fin 48) (c : Fin 64)
  | tower (t : Fin 4) (group : Fin 12) (copy : Fin 2)
  deriving DecidableEq, Repr

/-- The header fields of a hitch frame as it arrives on a chain lane (R590); up: on the upstream lane. -/
structure HFrame where
  up : Bool
  seq : Byte
  ack : Byte
  ackValid : Bool
  dst : Byte
  src : Byte
  crcOk : Bool
  deriving DecidableEq, Repr

/-- One unit decoded by a lane's receiver (R575). -/
inductive RxUnit where
  | data (bytes : List Byte)
  | kchars (chars : List Byte)
  | control (kind : Fin 5) (content : List Byte)
  | idle
  deriving DecidableEq, Repr

/-- A lane: a user lane, a service lane of a TSN port, or a chain lane (R569). -/
inductive LaneId where
  | user (n : Fin 48)
  | service (p : Fin 2)
  | chain (down : Bool)
  deriving DecidableEq, Repr

/-- A measurement of a gPTP Sync as slave: grandmaster identity, its time at the stamp, and the stamps (R537 to R539). -/
structure SyncMsg where
  port : Fin 2
  domain : Byte
  gm : U64
  gmTime : Nat
  ingress : Nat
  deriving DecidableEq, Repr

/-- A gPTP Announce: the sender's priority vector as the best master clock algorithm compares it (R537). -/
structure AnnounceMsg where
  port : Fin 2
  domain : Byte
  identity : U64
  priority1 : Byte
  clockClass : Byte
  accuracy : Byte
  variance : BitVec 16
  priority2 : Byte
  stepsRemoved : BitVec 16
  deriving DecidableEq, Repr

/-- One peer-delay exchange's four stamps in ns, and the neighbour's frequency ratio numerator over 2^32 (R537). -/
structure PdelayMsg where
  port : Fin 2
  t1 : Nat
  t2 : Nat
  t3 : Nat
  t4 : Nat
  ratio : Nat
  deriving DecidableEq, Repr

/-- A redundantly stored value that an upset can reach (R488, R462): an object's pair, a team's active plane, a remap
entry, a region's root, a sealed parameter in its working table or in the record store, the record store's counter (0), audit trail (1), stream hash (2) or key (3), or one of the three copies of a
channel's retirement state. -/
inductive PairRef where
  | object (index : BitVec 16) (sub : Byte)
  | teamActive (team : Fin 16)
  | remap (channel : Fin 32) (entry : Fin 8)
  | root (region : Fin 16)
  | sealedTable (p : Fin 256)
  | sealedStore (p : Fin 256)
  | sealedArea (area : Fin 4)
  | retirement (channel : Fin 32) (copy : Fin 3)
  deriving DecidableEq, Repr

/-- The commands (spec/opcode_table.json): one constructor per row, those with operands first, each part in
the table's order. A dictionary write of an
object with a row of its own carries its frame's envelope and the value's fields. txImageSample carries what the taps'
cyclic ports have delivered since the last sample, by index × 256 + subindex; tapAnswer's late says that it answers a request
that has already ended. sensorRead carries power in mW by number: 0 to 180 the domains of PWR_DOMAIN, 192 + 8m + d the dies of
DRAM stack m, 208 the package, 209 to 212 the towers, 213 the base die, 214 the DRAM. -/
inductive Instr where
  -- 02_dictionary
  | openSession (e : Env) (level options : Byte) (nonce : List Byte)
  | response (e : Env) (hmac : List Byte) (sealedHmac : Option (List Byte))
  | levelLockExpiry (level : Fin 6)
  | openingTimeout (n : Fin 16)
  | close (e : Env)
  | idleTimeout (n : Fin 16)
  | read (e : Env) (r : ReadReq)
  | write (e : Env) (w : WriteReq)
  | pairedWrite (e : Env) (w : WriteReq)
  | segment (e : Env) (offset : BitVec 32) (data : List Byte)
  | segmentTimeout (n : Fin 16) (transfer : BitVec 16)
  | abort (e : Env) (code : BitVec 32)
  | unknownService (e : Env) (service : Byte) (payload : List Byte)
  | dictKeysWrite (e : Env) (key : Fin 4) (wrap : List Byte)
  | dictLevelEnableWrite (e : Env) (v c : Byte)
  | canEnable (e : Env) (v : Byte)
  | usdoRequest (node : Fin 128) (r : UsdoReq)
  | canBusOff (state : Fin 4) (tec recv : BitVec 16)
  | processData (port : Fin 2) (srcMac : BitVec 48) (rtag : Option (BitVec 16)) (cycle : BitVec 32) (status : Byte) (image mac : List Byte)
  | txImageSample (taps : List (Nat × List Byte))
  | tapForward (tap : Nat)
  | tapAnswer (tap : Nat) (late : Bool) (status : BitVec 32) (data : List Byte)
  | tapTimeout (tap : Nat)
  -- 03_fabric_cells, 04_routing
  | blockmemPortAccess (u : UnitId) (a b : Option BmPortIn) (unordered : Bool) (flips : BitVec 72)
  | arithAccumulate (u : SliceId) (i : ArithIn)
  | fqueueUpdate (u : UnitId) (i : FqIn)
  | fabMemReadCommand (e : Env) (v : Byte)
  | fabMemReadDone (busError : Bool)
  | fabFclkWrite (e : Env) (n : Fin 8) (v : Byte)
  | fclkDivisorChange (n : Fin 8)
  | delayLineStep (line : Nat)
  | baseportTransaction (sector : Fin 48) (cluster : Fin 64) (words : List U32)
  -- 05_contexts
  | switchAtTime (e : Env) (team plane planeCheck : Byte) (time : U64)
  | stagePlane (e : Env) (team plane planeCheck : Byte)
  | unstage (e : Env) (team plane planeCheck : Byte)
  | cancelPendingSwitch (e : Env) (team plane planeCheck : Byte)
  | fallBackNow (e : Env) (team plane planeCheck : Byte)
  | releaseHold (e : Env) (team plane planeCheck : Byte)
  | stagingStart (tower : Fin 4)
  | stagingComplete (tower : Fin 4)
  | reinRequest (sector : Fin 48) (plane : Fin 8)
  | switchEdge (team : Fin 16)
  | fenceTimeout (team : Fin 16)
  | fallbackTrigger (team : Fin 16) (cause : Fin 6)
  | teamMembersWrite (e : Env) (team : Fin 16) (v c : U64)
  | teamSettingWrite (e : Env) (team : Fin 16) (setting : Fin 3) (v c : Byte)
  | planeClear (e : Env) (v : U64)
  | captureArm (e : Env)
  | captureDisarm (e : Env)
  | captureRelease (e : Env)
  | captureTrigger (sector : Fin 48)
  | captureEdge (routed : List (FfId × Bool))
  -- 06_streams
  | streamHeader (src : StreamSrc) (header tags : List Byte)
  | chunkVerified (chunk : List Byte)
  | forwardToChain (follow : List Byte)
  | tamperN (widthNs : Nat)
  | efuseKeyWrite (e : Env) (wrap : List Byte)
  | bbramKeyWrite (e : Env) (wrap : List Byte)
  | bbramErase (e : Env) (v : Byte)
  | fuseLockPlain (e : Env)
  | fuseLockEfuseOnly (e : Env)
  | keyProg (battery : Bool) (key check : List Byte)
  | ownershipWrite (e : Env) (sector : Fin 48) (v c : Byte)
  | ownerKeyWrite (e : Env) (owner : Fin 8) (hash : List Byte)
  -- 07_loading
  | porstN (asserted : Bool) (straps : Straps)
  | sysrstN (widthNs : Nat)
  | fuseLoadDone (critical : Fin 4) (vccioMv : List (BitVec 16))
  | bistStart (refPpm : Int)
  | bistWaitTick (refPpm : Int)
  | bistDone (critical : Fin 4) (fails : List FailUnit)
  | calibrationDone (runs : List CalRun) (flashAnswers octal : Bool) (flashId : BitVec 32) (dir0 dir1 : List Byte)
  | startupVerifyDone (mismatches : List (Fin 48 × Fin 8))
  | hostFeedData (e : Env) (data : List Byte)
  | startupOrderWrite (e : Env) (data : List Byte)
  | libraryCopy (images : List (List Byte))
  | libraryCopyDone (failed : Bool)
  | libraryAreaWrite (e : Env) (size : Bool) (v : U64)
  | writeEntry (e : Env) (v : Byte)
  | writeData (e : Env) (data : List Byte)
  | loadEntry (e : Env) (v : Byte)
  | cancelCurrent (e : Env)
  | cancelAll (e : Env)
  | position (f : HFrame) (pos : Byte)
  | stream (f : HFrame) (bytes : List Byte)
  | report (f : HFrame) (pos flags failReason : Byte) (status : BitVec 16)
  | go (f : HFrame) (countdown : BitVec 32)
  | forceGo (e : Env) (v : Byte)
  | delayReq (f : HFrame) (t1 : U64)
  | delayResp (f : HFrame) (t1 t2 t3 t4 : U64)
  | remoteReq (f : HFrame) (message : List Byte)
  | remoteResp (f : HFrame) (message : List Byte)
  | ack (f : HFrame)
  | hitchAckDue (up : Bool)
  | hitchResend (up : Bool)
  | remoteTimeout (tag : BitVec 16)
  -- 08_noc
  | nocReadRequest (k : Nat) (link : LinkFault) (tag : TagErr) (err : MemErr)
  | nocWriteRequest (k : Nat) (link : LinkFault) (tag : TagErr) (err : MemErr)
  | nocReadResponse (k : Nat) (link : LinkFault)
  | nocWriteResponse (k : Nat) (link : LinkFault)
  | responseTimeout (k : Nat)
  | packetPromotedUrgent (k : Nat)
  | reservationWrite (e : Env) (n : Fin 64) (v : U64)
  | reservationTakesEffect (n : Fin 64)
  | moverDoorbell (initiator : Byte) (m : Fin 16) (addr : U64)
  | moverStart (e : Env) (m : Byte) (addr : U64)
  | moverStop (e : Env) (mask : BitVec 16)
  | moverStartTime (m : Fin 16)
  | moverDescriptorDone (m : Fin 16)
  | statClearSelected (e : Env)
  | statClearAll (e : Env)
  -- 09_wale_pannier
  | lineFillDone (k : Nat)
  | writeBackAnswered (k : Nat) (status : Fin 8)
  | maintenanceEntryTimeout (slice : Fin 16) (line : Nat)
  | waleFlush (e : Env) (mask : BitVec 16)
  | waleInvalidate (e : Env) (mask : BitVec 16)
  | flushDone (slice : Fin 16)
  | windowPush (initiator : Byte) (n : Fin 16) (data : List Byte)
  | windowPop (initiator : Byte) (n : Fin 16) (len : Nat)
  | windowRelease (initiator : Byte) (n : Fin 16) (len : Nat)
  | windowIndexedAccess (initiator : Byte) (n : Fin 16) (offset : Nat) (len : Nat) (wdata : Option (List Byte))
  | windowStatusRead (initiator : Byte) (n : Fin 16)
  | panWindowEnable (e : Env) (n : Fin 16) (v : Byte)
  | panConflictClear (e : Env) (v : Byte)
  | backgroundTestRegion (bank31 : Bool) (failed : Bool)
  | backgroundRegionTimeout (bank31 : Bool)
  | bankClearingDone (b : Fin 32)
  -- 10_dram
  | dramRequest (k : Nat)
  | dramCommandSlot (channel : Fin 32) (pcB : Bool) (errs : List (Nat × Nat)) (spareErrs : List Bool)
  | requestUrgent (channel : Fin 32) (write : Bool) (k : Nat)
  | refreshInterval (b : BankId)
  | neighbourRefresh (b : BankId)
  | activateTableClear (b : BankId)
  | retrainBurst (channel : Fin 32) (pcB : Bool) (failing : List (Fin 36))
  | caParityError (channel : Fin 32) (rank : Fin 4)
  | migrationLineTimeout (channel : Fin 32)
  | retire (e : Env) (v : BitVec 16)
  | retrain (e : Env) (v : U32)
  | sparesWrite (e : Env) (v c : Byte)
  -- 11_integrity
  | scrubRead (channel : Fin 32) (symbols : Nat) (verifyErrs : Bool) (spareErrs : List Bool)
  | scrubWritebackTimeout (channel : Fin 32)
  | scrubPassLate (channel : Fin 32)
  | complementCheck (upset : Option (PairRef × U64))
  | clearCounts (e : Env) (v : Byte)
  | verify (e : Env) (v : U64)
  | verifySectorPlaneDone (cellFault : Bool)
  -- 12_memory_encryption
  | keyUnwrapEfuse (e : Env) (slot : Byte) (wrap : List Byte)
  | keyUnwrapBbram (e : Env) (slot : Byte) (wrap : List Byte)
  | keyGenerate (e : Env) (slot : Byte)
  | keyClear (e : Env) (slot : Byte)
  | regionEnable (e : Env) (r : Fin 16)
  | regionEnableInitialise (e : Env) (r : Fin 16)
  | regionDisable (e : Env) (r : Fin 16)
  | regionInitialised (r : Fin 16)
  -- 13_time_io
  | sync (m : SyncMsg)
  | announce (m : AnnounceMsg)
  | pdelay (m : PdelayMsg)
  | timeSet (e : Env) (v : U64)
  | inputEdge (b : Fin 8) (pin : Fin 48) (rising : Bool) (time : U64) (fraction : Byte)
  | inputDrain (b : Fin 8)
  | drainRetry (b : Fin 8)
  | outputPoll (b : Fin 8)
  | outputEntryExecute (b : Fin 8)
  | returnTimer (b : Fin 8) (pin : Fin 48)
  | ioBankStart (e : Env) (b : Fin 8)
  | ioBankStop (e : Env) (b : Fin 8)
  | ioPinWrite (e : Env) (b : Fin 8) (pin : Fin 48) (v c : U32)
  -- 14_lanes
  | laneStart (e : Env) (n : Fin 48)
  | laneStop (e : Env) (n : Fin 48)
  | laneReceiverDetected (l : LaneId)
  | laneLocked (l : LaneId) (fom : Nat)
  | laneTs2Received (l : LaneId) (maxRate : Byte) (hitch : Bool) (pre post : Byte)
  | laneStep (l : LaneId)
  | laneActive (l : LaneId) (slow : Bool)
  | laneBringupLimit (l : LaneId)
  | laneRetryTimer (l : LaneId)
  | lockLost (l : LaneId)
  | laneRxPush (n : Fin 48) (units : List RxUnit)
  | lanePushRetry (n : Fin 48)
  | laneTxPop (n : Fin 48)
  | laneAdaptStep (l : LaneId) (setting : Fin 6) (up : Bool)
  | serviceLaneAutoTry (p : Fin 2)
  -- 15_sealed
  | sealProvision (e : Env) (ownerHash wrap : List Byte)
  | sealParamWrite (e : Env) (param : Byte) (v c : U64)
  | sealKey (e : Env) (wrap : List Byte)
  | sealCommand (e : Env) (channel : Fin 16) (v : U32)
  | sealN (opened : Bool) (widthMs : Nat)
  | sampleSync (p : Fin 8)
  | sampleFrame (p : Fin 8) (bits : List Bool)
  -- 16_power_thermal
  | modeRun (e : Env)
  | modeHold (e : Env)
  | modeStable (e : Env)
  | modeService (e : Env)
  | orderlyStop (e : Env)
  | resume (e : Env)
  | restart (e : Env)
  | wakeN (widthNs : Nat)
  | sensorRead (raw : List (Fin 288 × Int)) (powerMw : List (Nat × Nat))
  | sensorExcluded (n : Fin 288)
  | sensorReadmitted (n : Fin 288)
  | readsLowFlag (n : Fin 288)
  | gaitStepSlower (t : Fin 4)
  | gaitStepFaster (t : Fin 4)
  | gaitFloorWrite (e : Env) (v : Byte)
  | safeN (asserted : Bool) (widthNs : Nat)
  | vinCoreOutOfRange (mv : Int) (widthNs : Nat)
  | vauxLow (mv : Int) (widthNs : Nat)
  | vdramVppOutOfRange (vpp : Bool) (mv : Int) (widthNs : Nat)
  | vlaneOutOfRange (high : Bool) (mv : Int) (widthNs : Nat)
  | vccioOutOfRange (b : Fin 8) (mv : Int) (widthNs : Nat)
  -- 17_test_repair
  | stakeMonitorError (g : StakeGroup) (vias : List (Fin 81))
  | shift (e : Env) (v : BitVec 16)
  | temperatureCalibration (r : CalRun)
  | calibrateNow (e : Env) (runs : List CalRun)
  | testRunStart (e : Env)
  | testComplete (fails : List FailUnit)
  | jtagOpenWrite (e : Env) (v c : Byte)
  | lockCmd (e : Env) (v : Byte)
  | extest (cells : List (Nat × Bool))
  | samplePreload (preload : List (Nat × Bool))
  | extestPulse (l : LaneId)
  | extestTrain (l : LaneId)
  | debug (write : Bool) (addr : BitVec 48) (len : Nat) (data : List Byte)
  | dieSelect (die : Fin 25)
  | bypass (tdi : List Bool)
  -- 18_observability
  | counterConfigWrite (e : Env) (v : U64)
  | counterClearSelected (e : Env)
  | counterClearAll (e : Env)
  | counterMilestone (block : BitVec 16) (counter : Fin 16)
  | snapshotNow (e : Env)
  | sampleBufferClear (e : Env)
  | monitorStart (e : Env) (n : Fin 16)
  | monitorStop (e : Env) (n : Fin 16)
  | monitorClear (e : Env) (n : Fin 16)
  | monitorSample (n : Fin 16) (level : Nat)
  | ringPacketWrite (status : Fin 8)
  | gapRecord (source : BitVec 16)
  | ackAlarm (e : Env)
  | chronicleEnable (e : Env) (v : Byte)
  | migrationCopy (channel : Fin 32) (symbols : Nat)
  | fabricClockEdge (clk : Fin 8)
  | syncInterval (port : Fin 2)
  | vauxVinCoreReached (vauxMv vinMv : Nat)
  -- without operands
  | gateListTakesEffect
  | rxImageApply
  | pdReceiveFault
  | captureCopyDone
  | unknownOpcode
  | selectPlane
  | writeFrames
  | writeFramesZr
  | initBlockmem
  | initState
  | setTeam
  | setStartupOrder
  | checkCrc
  | keyRoll
  | setObjectDefault
  | markValid
  | endPacket
  | repairDone
  | loadPhaseEnd
  | activation
  | clockLock
  | releaseOutputs
  | releaseSetReset
  | enableWrites
  | loadStart
  | reportTimeout
  | goWaitTimeout
  | remoteRequestPush
  | statWindowEnd
  | verifyRound
  | syncTimeout
  | parameterImageCheck
  | wakeTime
  | orderlyStopDrainStep
  | orderlyStopFlush
  | orderlyStopFallbacks
  | safeStopEntry
  | rootPllLockLoss
  | autoResume
  | rowShiftDone
  | idcode
  | tallySnapshot
  | snapshotReadDone
  | chronicleRecord
  | coalesceWindowEnd
  | sysrstNRelease
  | chainDataTimeout
  deriving DecidableEq, Repr

end Sys2Proof
end

