-- ==== Sys2Proof/WellFormed.lean ====
section
/-! DEFINITION. Which commands are well formed: the operands' lengths and ranges that their types do not already bound. -/

namespace Sys2Proof

/-- A MAC is absent or 16 bytes (R62). -/
def macLength (mac : List Byte) : Bool := decide (mac = []) || decide (mac.length = 16)

/-- Data that one frame carries (R64, R737). -/
def frameData (d : List Byte) : Bool := decide (d.length ≤ 1024)

/-- The services that have rows of their own (R63). -/
def knownServices : List Nat := [0x01, 0x03, 0x05, 0x10, 0x11, 0x12, 0x13, 0x14, 0x20]

/-- Whether a number names a delay line (R190): two per cluster's face crossing, two per cluster's stake group, one per copy of a
tower's duplicated group, two per seam group: 24 groups on the T0-T1 and T2-T3 seams, 32 on the others (R175). -/
def lineExists (line : Nat) : Bool :=
  decide (line < 6144) || (decide (8192 ≤ line) && decide (line < 14336)) ||
    (decide (16384 ≤ line) && decide (line < 16576) && decide (line % 2 = 0)) ||
    (decide (32768 ≤ line) && decide (line < 33024) && decide (line < 32896 → (line - 32768) / 2 % 32 < 24))

/-- Whether a bank has a pin: banks 0 to 5 have 48, banks 6 and 7 have 40 (R545). -/
def pinExists (b : Fin 8) (pin : Fin 48) : Bool := decide (b.val < 6) || decide (pin.val < 40)

/-- A hitch frame names positions of the chain, or all of them (R347, R590). -/
def frameCarries (f : HFrame) : Bool :=
  (decide (f.dst.toNat ≤ 15) || decide (f.dst = 0xFF)) && decide (f.src.toNat ≤ 15 ∨ f.src = 0xFF)

/-- A frame's MAC, and whatever else a command needs. -/
def withEnv (e : Env) (rest : Bool) : Bool := macLength e.mac && rest

/-- A command is well formed. -/
def wellFormed : Instr → Bool
  | .openSession e _ _ nonce => withEnv e (decide (nonce.length = 16))
  | .response e hmac sealedHmac => withEnv e (decide (hmac.length = 32) && sealedHmac.all fun h => decide (h.length = 32))
  | .levelLockExpiry _ => true
  | .openingTimeout _ => true
  | .close e => withEnv e true
  | .idleTimeout _ => true
  | .read e _ => withEnv e true
  | .write e w => withEnv e (decide (w.data.length ≤ 1024))
  | .pairedWrite e w => withEnv e (decide (2 ≤ w.data.length) && decide (w.data.length ≤ 16))
  | .segment e _ data => withEnv e (decide (1 ≤ data.length) && decide (data.length ≤ 1024))
  | .segmentTimeout _ _ => true
  | .abort e _ => withEnv e true
  | .unknownService e service payload => withEnv e (decide (payload.length ≤ 1040) && !(knownServices.contains service.toNat))
  | .dictKeysWrite e _ wrap => withEnv e (frameData wrap)
  | .dictLevelEnableWrite e _ _ => withEnv e true
  | .gateListTakesEffect => true
  | .canEnable e _ => withEnv e true
  | .usdoRequest _ r => decide (r.data.length ≤ 65536)
  | .canBusOff state _ _ => decide (state ≠ 0)
  | .processData _ _ _ _ _ image mac => decide (image.length ≤ 1024) && macLength mac
  | .txImageSample taps => taps.all fun t => decide (t.1 < 0x600000) && decide (t.2.length ≤ 255)
  | .rxImageApply => true
  | .pdReceiveFault => true
  | .tapForward tap => decide (tap < 384)
  | .tapAnswer tap _ _ data => decide (tap < 384) && decide (data.length ≤ 1024)
  | .tapTimeout tap => decide (tap < 384)
  | .blockmemPortAccess _ _ _ _ _ => true
  | .arithAccumulate _ _ => true
  | .fqueueUpdate _ _ => true
  | .fabMemReadCommand e _ => withEnv e true
  | .fabMemReadDone _ => true
  | .fabFclkWrite e _ _ => withEnv e true
  | .fclkDivisorChange _ => true
  | .delayLineStep line => lineExists line
  | .baseportTransaction _ _ words => decide (words ≠ [])
  | .switchAtTime e _ _ _ _ => withEnv e true
  | .stagePlane e _ _ _ => withEnv e true
  | .unstage e _ _ _ => withEnv e true
  | .cancelPendingSwitch e _ _ _ => withEnv e true
  | .fallBackNow e _ _ _ => withEnv e true
  | .releaseHold e _ _ _ => withEnv e true
  | .stagingStart _ => true
  | .stagingComplete _ => true
  | .reinRequest _ _ => true
  | .switchEdge _ => true
  | .fenceTimeout _ => true
  | .fallbackTrigger _ _ => true
  | .teamMembersWrite e _ _ _ => withEnv e true
  | .teamSettingWrite e _ _ _ _ => withEnv e true
  | .planeClear e _ => withEnv e true
  | .captureArm e => withEnv e true
  | .captureDisarm e => withEnv e true
  | .captureRelease e => withEnv e true
  | .captureTrigger _ => true
  | .captureEdge _ => true
  | .captureCopyDone => true
  | .streamHeader _ header tags => decide (header.length = 512) && decide (tags.length % 16 = 0)
  | .chunkVerified chunk => decide (chunk ≠ [])
  | .unknownOpcode => true
  | .selectPlane => true
  | .writeFrames => true
  | .writeFramesZr => true
  | .initBlockmem => true
  | .initState => true
  | .setTeam => true
  | .setStartupOrder => true
  | .checkCrc => true
  | .keyRoll => true
  | .forwardToChain _ => true
  | .setObjectDefault => true
  | .markValid => true
  | .endPacket => true
  | .tamperN _ => true
  | .efuseKeyWrite e wrap => withEnv e (frameData wrap)
  | .bbramKeyWrite e wrap => withEnv e (frameData wrap)
  | .bbramErase e _ => withEnv e true
  | .fuseLockPlain e => withEnv e true
  | .fuseLockEfuseOnly e => withEnv e true
  | .keyProg _ key check => decide (key.length = 32) && decide (check.length = 4)
  | .ownershipWrite e _ _ _ => withEnv e true
  | .ownerKeyWrite e _ hash => withEnv e (frameData hash)
  | .porstN _ straps => decide (straps.bdef.length = 8)
  | .sysrstN _ => true
  | .fuseLoadDone _ vccioMv => decide (vccioMv.length = 8)
  | .bistStart _ => true
  | .bistWaitTick _ => true
  | .bistDone _ _ => true
  | .repairDone => true
  | .calibrationDone _ _ _ _ dir0 dir1 => decide (dir0.length = 64) && decide (dir1.length = 64)
  | .startupVerifyDone _ => true
  | .loadPhaseEnd => true
  | .activation => true
  | .clockLock => true
  | .releaseOutputs => true
  | .releaseSetReset => true
  | .enableWrites => true
  | .hostFeedData e data => withEnv e (frameData data)
  | .startupOrderWrite e data => withEnv e (frameData data)
  | .libraryCopy images => decide (images.length ≤ 64)
  | .libraryCopyDone _ => true
  | .libraryAreaWrite e _ _ => withEnv e true
  | .writeEntry e _ => withEnv e true
  | .writeData e data => withEnv e (frameData data)
  | .loadEntry e _ => withEnv e true
  | .loadStart => true
  | .cancelCurrent e => withEnv e true
  | .cancelAll e => withEnv e true
  | .position f _ => frameCarries f
  | .stream f bytes => frameCarries f && decide (bytes.length ≤ 256)
  | .report _ _ _ _ _ => true
  | .reportTimeout => true
  | .go _ _ => true
  | .forceGo e _ => withEnv e true
  | .goWaitTimeout => true
  | .delayReq _ _ => true
  | .delayResp _ _ _ _ _ => true
  | .remoteReq f message => frameCarries f && decide (message.length ≤ 1088)
  | .remoteResp f message => frameCarries f && decide (message.length ≤ 1088)
  | .ack _ => true
  | .hitchAckDue _ => true
  | .hitchResend _ => true
  | .remoteRequestPush => true
  | .remoteTimeout _ => true
  | .nocReadRequest _ _ _ _ => true
  | .nocWriteRequest _ _ _ _ => true
  | .nocReadResponse _ _ => true
  | .nocWriteResponse _ _ => true
  | .responseTimeout _ => true
  | .packetPromotedUrgent _ => true
  | .reservationWrite e _ _ => withEnv e true
  | .reservationTakesEffect _ => true
  | .moverDoorbell _ _ _ => true
  | .moverStart e _ _ => withEnv e true
  | .moverStop e _ => withEnv e true
  | .moverStartTime _ => true
  | .moverDescriptorDone _ => true
  | .statClearSelected e => withEnv e true
  | .statClearAll e => withEnv e true
  | .statWindowEnd => true
  | .lineFillDone _ => true
  | .writeBackAnswered _ _ => true
  | .maintenanceEntryTimeout _ _ => true
  | .waleFlush e _ => withEnv e true
  | .waleInvalidate e _ => withEnv e true
  | .flushDone _ => true
  | .windowPush _ _ data => decide (1 ≤ data.length) && decide (data.length ≤ 1024)
  | .windowPop _ _ len => decide (1 ≤ len) && decide (len ≤ 1024)
  | .windowRelease _ _ len => decide (1 ≤ len)
  | .windowIndexedAccess _ _ _ len wdata => decide (1 ≤ len) && decide (len ≤ 1024) && wdata.all fun d => decide (d.length = len)
  | .windowStatusRead _ _ => true
  | .panWindowEnable e _ _ => withEnv e true
  | .panConflictClear e _ => withEnv e true
  | .backgroundTestRegion _ _ => true
  | .backgroundRegionTimeout _ => true
  | .bankClearingDone _ => true
  | .dramRequest _ => true
  | .dramCommandSlot _ _ _ _ => true
  | .requestUrgent _ _ _ => true
  | .refreshInterval _ => true
  | .neighbourRefresh _ => true
  | .activateTableClear _ => true
  | .retrainBurst _ _ _ => true
  | .caParityError _ _ => true
  | .migrationLineTimeout _ => true
  | .retire e _ => withEnv e true
  | .retrain e _ => withEnv e true
  | .sparesWrite e _ _ => withEnv e true
  | .scrubRead _ _ _ _ => true
  | .scrubWritebackTimeout _ => true
  | .scrubPassLate _ => true
  | .complementCheck _ => true
  | .clearCounts e _ => withEnv e true
  | .verify e _ => withEnv e true
  | .verifyRound => true
  | .verifySectorPlaneDone _ => true
  | .keyUnwrapEfuse e _ wrap => withEnv e (frameData wrap)
  | .keyUnwrapBbram e _ wrap => withEnv e (frameData wrap)
  | .keyGenerate e _ => withEnv e true
  | .keyClear e _ => withEnv e true
  | .regionEnable e _ => withEnv e true
  | .regionEnableInitialise e _ => withEnv e true
  | .regionDisable e _ => withEnv e true
  | .regionInitialised _ => true
  | .sync _ => true
  | .announce _ => true
  | .pdelay _ => true
  | .syncTimeout => true
  | .timeSet e _ => withEnv e true
  | .inputEdge b pin _ _ _ => pinExists b pin
  | .inputDrain _ => true
  | .drainRetry _ => true
  | .outputPoll _ => true
  | .outputEntryExecute _ => true
  | .returnTimer b pin => pinExists b pin
  | .ioBankStart e _ => withEnv e true
  | .ioBankStop e _ => withEnv e true
  | .ioPinWrite e b pin _ _ => withEnv e (pinExists b pin)
  | .laneStart e _ => withEnv e true
  | .laneStop e _ => withEnv e true
  | .laneReceiverDetected _ => true
  | .laneLocked _ fom => decide (fom ≤ 1023)
  | .laneTs2Received _ _ _ _ _ => true
  | .laneStep _ => true
  | .laneActive _ _ => true
  | .laneBringupLimit _ => true
  | .laneRetryTimer _ => true
  | .lockLost _ => true
  | .laneRxPush _ _ => true
  | .lanePushRetry _ => true
  | .laneTxPop _ => true
  | .laneAdaptStep _ _ _ => true
  | .serviceLaneAutoTry _ => true
  | .sealProvision e ownerHash wrap => withEnv e (frameData (ownerHash ++ wrap))
  | .sealParamWrite e _ _ _ => withEnv e true
  | .sealKey e wrap => withEnv e (frameData wrap)
  | .sealCommand e _ _ => withEnv e true
  | .sealN _ _ => true
  | .parameterImageCheck => true
  | .sampleSync _ => true
  | .sampleFrame _ bits => decide (8 ≤ bits.length) && decide (bits.length ≤ 128)
  | .modeRun e => withEnv e true
  | .modeHold e => withEnv e true
  | .modeStable e => withEnv e true
  | .modeService e => withEnv e true
  | .orderlyStop e => withEnv e true
  | .resume e => withEnv e true
  | .restart e => withEnv e true
  | .wakeN _ => true
  | .wakeTime => true
  | .sensorRead _ _ => true
  | .sensorExcluded _ => true
  | .sensorReadmitted _ => true
  | .readsLowFlag _ => true
  | .gaitStepSlower _ => true
  | .gaitStepFaster _ => true
  | .gaitFloorWrite e _ => withEnv e true
  | .orderlyStopDrainStep => true
  | .orderlyStopFlush => true
  | .orderlyStopFallbacks => true
  | .safeStopEntry => true
  | .safeN _ _ => true
  | .vinCoreOutOfRange _ _ => true
  | .vauxLow _ _ => true
  | .vdramVppOutOfRange _ _ _ => true
  | .vlaneOutOfRange _ _ _ => true
  | .vccioOutOfRange _ _ _ => true
  | .rootPllLockLoss => true
  | .autoResume => true
  | .stakeMonitorError _ _ => true
  | .shift e _ => withEnv e true
  | .rowShiftDone => true
  | .temperatureCalibration _ => true
  | .calibrateNow e _ => withEnv e true
  | .testRunStart e => withEnv e true
  | .testComplete _ => true
  | .jtagOpenWrite e _ _ => withEnv e true
  | .lockCmd e _ => withEnv e true
  | .extest _ => true
  | .idcode => true
  | .samplePreload _ => true
  | .extestPulse _ => true
  | .extestTrain _ => true
  | .debug _ _ len data => decide (1 ≤ len) && decide (len ≤ 1024) && (decide (data = []) || decide (data.length = len))
  | .dieSelect _ => true
  | .bypass _ => true
  | .counterConfigWrite e _ => withEnv e true
  | .counterClearSelected e => withEnv e true
  | .counterClearAll e => withEnv e true
  | .counterMilestone _ _ => true
  | .tallySnapshot => true
  | .snapshotNow e => withEnv e true
  | .snapshotReadDone => true
  | .sampleBufferClear e => withEnv e true
  | .monitorStart e _ => withEnv e true
  | .monitorStop e _ => withEnv e true
  | .monitorClear e _ => withEnv e true
  | .monitorSample _ _ => true
  | .chronicleRecord => true
  | .ringPacketWrite _ => true
  | .coalesceWindowEnd => true
  | .gapRecord _ => true
  | .ackAlarm e => withEnv e true
  | .chronicleEnable e _ => withEnv e true
  | .sysrstNRelease => true
  | .chainDataTimeout => true
  | .migrationCopy _ _ => true
  | .fabricClockEdge _ => true
  | .syncInterval _ => true
  | .vauxVinCoreReached _ _ => true

end Sys2Proof
end

