-- ==== Sys2Proof/Config.lean ====
section
/-! DEFINITION. What one implementation fixes and the spec leaves open: constants without a body, of which nothing can be proved. -/

namespace Sys2Proof.Config

/-- Bytes from the internal random source (R50, R693): the k-th byte drawn. Log entry 2. -/
opaque freeByte : Nat → BitVec 8

/-- A value that the spec leaves open, the k-th drawn (R119 and the like). Log entry 2. -/
opaque freeBits : Nat → BitVec 72

/-- Where the columns of the check matrix start in the list of candidates (R120, R405): the spec names a single-error-correcting,
double-error-detecting code and gives no matrix. Log entry 3. -/
opaque secdedStart : Nat

/-- The production set of a calibration item, by kind and item, held in fuses (R672). Log entry 6. -/
opaque productionSet : Nat → Nat → BitVec 6

/-! What a tile's 2,560 configuration bits say (R97): the spec gives the sizes of the fields and not their places. Log entry 5. -/

/-- The settings of a cell. -/
opaque cell : BitVec 2560 → Fin 16 → CellConf

/-- Where cell 0, and cell 8, takes its carry (R102). -/
opaque carryIn : BitVec 2560 → Fin 2 → CarryIn

/-- The control sets of the two half-tiles (R105). -/
opaque controlSet : BitVec 2560 → Fin 2 → ControlSet

/-- What an outgoing wire of the face node, or of the under node, selects (R154). -/
opaque wirePick : BitVec 2560 → Bool → Dir → Nat → Pick

/-- What the face node drives onto an input that it serves (R154). -/
opaque pinPick : BitVec 2560 → FacePin → Pick

/-- The clock that goes with an incoming link group of a face node whose registration is not chosen: a gate wire's register takes it
(R602). -/
opaque gateClock : BitVec 2560 → Dir → Fin 8

/-- The fabric clock of the register of an incoming link, where the link is registered (R161). -/
opaque linkClock : BitVec 2560 → Bool → Dir → Option (Fin 8)

/-- The seam clock of a seam group's side, from the tiles of that side (R176). -/
opaque seamClock : List (BitVec 2560) → Fin 8

/-- Which of a unit's four anchor tiles serves one of its inputs (R96): the kind of unit, as 0 fabric queue, 1 block memory,
2 arithmetic slice, and the number of the input. -/
opaque pinTile : Nat → Nat → Fin 4

/-- Zistad's manufacturer identity in the JTAG identification code (R676), whose value the spec does not give. Log entry 6. -/
opaque jtagMaker : BitVec 11

/-- Which of several candidates is taken where the spec leaves the choice open: a number for the candidates and the instant, taken modulo
their count (the metadata cache's victim, the bank that an idle slot refreshes). Log entries 15 and 17. -/
opaque choose : List Nat → Nat → Nat

end Sys2Proof.Config
end

