-- ==== Sys2Proof/Machine/State.lean ====
section
/-! DEFINITION. The state of the ZCS8 as plain data, the reasons it can stop, and the state right after reset. -/

namespace Sys2Proof.Machine

/-! ### The dictionary (02) -/

/-- An object subindex, as index × 256 + subindex (R10, R35). -/
abbrev ObjKey := Nat

/-- A stored host-written value: its bytes, least significant first (R38), and for an rwp object the stored
complement (R45); for every other object the complement is empty. -/
structure ObjVal where
  val : List Byte := []
  comp : List Byte := []
  deriving DecidableEq, Repr, Inhabited

/-- Who makes a dictionary request (R43, R66). -/
inductive Requester where
  | session (n : Fin 16)
  | anonymous
  | can (node : Fin 128)
  | loader
  | image
  deriving DecidableEq, Repr, Inhabited

/-- A session number's state (R50). -/
inductive SessPhase where
  | closed | opening | opened
  deriving DecidableEq, Repr, Inhabited

/-- One of the 16 sessions (R48 to R55, DICT_SESSION_TABLE). closing: it is to close after the response to its own write of its
level's key (R60). -/
structure Session where
  phase : SessPhase := .closed
  level : Nat := 0
  wantsSealed : Bool := false
  sealedRight : Bool := false
  subscribed : Bool := false
  host : HostAddr := ⟨0, 0⟩
  hostNonce : List Byte := []
  devNonce : List Byte := []
  heldAt : Nat := 0
  ks : List Byte := []
  high : BitVec 32 := 0
  seen : BitVec 64 := 0
  txSeq : BitVec 32 := 0
  lastValid : Nat := 0
  closing : Bool := false
  deriving DecidableEq, Repr, Inhabited

/-- A segmented write in progress (R64, R65, R71). -/
structure Transfer where
  who : Requester
  transfer : BitVec 16
  key : ObjKey
  ty : Byte
  total : Nat
  buf : List Byte
  lastAt : Nat
  deriving DecidableEq, Repr

/-- A request waiting for, or held by, a dictionary tap (R83 to R87). tap: global sector × 8 + entry; ctx: the context that was
active in the tap's sector when the request was forwarded; number: the tap's number then. -/
structure TapReq where
  tap : Nat
  who : Requester
  env : Option Env
  transfer : BitVec 16
  index : BitVec 16
  sub : Byte
  ty : Byte
  write : Bool
  offset : Nat
  length : Nat
  data : List Byte
  forwardedAt : Option Nat
  arrivedAt : Nat
  ctx : Option Nat
  number : Nat
  deriving DecidableEq, Repr

/-- The CAN FD controller (R70 to R73): the settings it runs with, latched when it starts. -/
structure CanCtl where
  running : Bool := false
  node : Nat := 127
  arbRate : Nat := 500000
  dataRate : Nat := 2000000
  level : Nat := 1
  busState : Nat := 0
  tec : Nat := 0
  recv : Nat := 0
  deriving DecidableEq, Repr, Inhabited

/-- The recovery of one 802.1CB stream: the highest sequence number taken, and which of the numbers up to it, itself first, have
been taken; the instant of the last (R68). -/
structure Recovery where
  high : BitVec 16
  seen : Nat
  at_ : Nat
  deriving DecidableEq, Repr, Inhabited

/-- The process-data images (R74 to R79). held: the images that wait for their cycle, by the cycle's count since TAI 0, with
the status byte first; lastBoundary and lastTx: the cycles last applied and sampled; tapOut and tapIn: the last bytes to and
from each tap's cyclic port, by index × 256 + subindex; tapStale: the stale flag that the taps' cyclic ports are given (R79). -/
structure ProcData where
  held : AMap (List Byte) := []
  lastApplied : Nat := 0
  lastBoundary : Nat := 0
  lastTx : Nat := 0
  missed : Nat := 0
  fault : Bool := false
  late : Nat := 0
  tapOut : AMap (List Byte) := []
  tapStale : Bool := false
  tapIn : AMap (List Byte) := []
  deriving DecidableEq, Repr, Inhabited

/-! ### Fabric, planes and teams (03, 04, 05) -/

/-- An arithmetic slice's registers (R127 to R132): input stage, multiply stage, the further stage of bf16x2, accumulator. -/
structure ArithRegs where
  a : BitVec 32 := 0
  b : BitVec 32 := 0
  c : BitVec 56 := 0
  acc : Bool := false
  sub : Bool := false
  prod : BitVec 56 := 0
  prodC : BitVec 56 := 0
  prodAcc : Bool := false
  prodSub : Bool := false
  sum : BitVec 32 := 0
  sumC : BitVec 56 := 0
  sumAcc : Bool := false
  sumSub : Bool := false
  res : BitVec 56 := 0
  deriving DecidableEq, Repr, Inhabited

/-- A fabric queue (R134, R136): items oldest first, read position, mark, sticky overflow, last dout driven. -/
structure FQueue where
  items : List (BitVec 36) := []
  rp : Nat := 0
  mark : Nat := 0
  ovf : Bool := false
  dout : BitVec 36 := 0
  deriving DecidableEq, Repr, Inhabited

/-- A base port's crossing (R172): the register on the base-die side and the words taken of the transaction that arrives, the
words, each with its context, that the base die has for the port, and the one that it presents on rx_data. -/
structure PortLink where
  cross : Option (BitVec 32) := none
  words : List (BitVec 32) := []
  wait : List (Nat × BitVec 32) := []
  rx : Option (Nat × BitVec 32) := none
  deriving DecidableEq, Repr, Inhabited

/-- The fabric's contents (03, 04). Keys: a flip-flop by its number; its shadow bit by number × 8 + plane (R197);
a block memory word by block × 512 + word, 64 data bits below 8 parity bits (R111); a port by block × 2 + port. -/
structure Fabric where
  ff : AMap Bool := []
  shadow : AMap Bool := []
  restore : AMap Bool := []
  hop : AMap Bool := []
  seamLaunch : AMap Bool := []
  seamCapture : AMap Bool := []
  bmWord : AMap (BitVec 72) := []
  bmRead : AMap (BitVec 72) := []
  bmPipe : AMap (BitVec 72) := []
  bmOut : AMap (BitVec 72) := []
  bmFlags : AMap Nat := []
  bmPipeFlags : AMap Nat := []
  loadBusy : AMap Bool := []
  arith : AMap ArithRegs := []
  fq : AMap FQueue := []
  routed : AMap Bool := []
  ports : AMap PortLink := []
  readStatus : Nat := 0
  readTarget : Nat := 0
  readData : List Byte := []
  deriving DecidableEq, Repr, Inhabited

/-- What takes an edge of its own at an instant: the cells and registers of a fabric clock at its rising edge (true) or falling
edge, a port of a block memory, a slice, a queue, a base port. -/
inductive Elem where
  | clock (n : Nat) (rising : Bool)
  | port (n : Nat)
  | slice (n : Nat)
  | queue (n : Nat)
  | base (n : Nat)
  deriving DecidableEq, Repr

/-- The states of a plane (R203), in the order of their codes. -/
inductive PlaneState where
  | idle | loading | valid | invalid | staged | active
  deriving DecidableEq, Repr, Inhabited

/-- One plane of one sector (R196, R205): its state and the CRC kept for verify (R298). -/
structure Plane where
  state : PlaneState := .idle
  crc : BitVec 32 := 0
  deriving DecidableEq, Repr, Inhabited

/-- The edges of the present instant (R181): the instant, one more than its root period; the fabric as it stood before them,
which every element that takes an edge at this instant sees, and its planes, under whose contexts it acts (R141); which have been
taken; and the bits of block memory rows, by
block × 512 + word, that a port A wrote at it (R117). -/
structure EdgeNow where
  at_ : Nat := 0
  before : Fabric := {}
  planes : AMap Plane := []
  done : List Elem := []
  masks : List (Nat × Nat) := []
  deriving DecidableEq, Repr, Inhabited

/-- What one staging operation stages for one team (R199): the plane, in these sectors of the tower. -/
structure StagePart where
  team : Nat
  plane : Nat
  sectors : BitVec 48
  deriving DecidableEq, Repr, Inhabited

/-- One staging operation (R199, R239): its parts, whether it is a fallback's, and when it started. -/
structure StageOp where
  parts : List StagePart
  fallback : Bool
  startedAt : Nat := 0
  deriving DecidableEq, Repr, Inhabited

/-- The staging engine of a tower (R199, R200): the operation in progress and those waiting, first in first out. -/
structure StageEngine where
  cur : Option StageOp := none
  waiting : List StageOp := []
  deriving DecidableEq, Repr, Inhabited

/-- What a pending switch waits for (R214, R215, R228): trigger 0 timed, 1 REIN; due, the time T in TAI of a timed switch; drainAt,
the instant at which T came or the edge at which req was sampled, where a fence's drain begins (R233); the requested edge as
found; unfenced, the edge that it would have had without its fence, where the fence has delayed it; and the edge, in root
periods, once granted. -/
structure Pending where
  trigger : Nat
  plane : Nat
  due : Nat := 0
  acceptedAt : Nat := 0
  drainAt : Option Nat := none
  requested : Nat := 0
  unfenced : Option Nat := none
  edge : Option Nat := none
  fenceDone : Bool := false
  late : Bool := false
  deriving DecidableEq, Repr, Inhabited

/-- A fallback in progress (R237): its cause and the instant of its trigger. -/
structure Fallback where
  cause : Nat
  at_ : Nat
  staged : Bool := false
  edge : Option Nat := none
  deriving DecidableEq, Repr, Inhabited

/-- A team's own state (R206 to R213, R251). The good fields are the values that last compared equal to their
complements (R213). heldFrom: the boundary at which a held team's clocks stop (R240). frozen: 0 not, 1 by a complement fault,
2 by Service. -/
structure Team where
  goodMembers : BitVec 48 := 0
  goodClock : Nat := 2
  goodLeader : Nat := 0xFF
  goodSafe : Nat := 0xFF
  active : BitVec 8 := 0
  activeComp : BitVec 8 := 0xFF
  pending : Option Pending := none
  fallback : Option Fallback := none
  held : Bool := false
  heldFrom : Nat := 0
  frozen : Nat := 0
  lastEdge : Nat := 0
  lastRoot : Option Nat := none
  deriving DecidableEq, Repr, Inhabited

/-- Capture (R242 to R247): state 0 empty, 1 armed, 2 copying, 3 full; sampled, the edge at which trig was sampled. -/
structure Capture where
  state : Nat := 0
  sectors : BitVec 48 := 0
  clock : Nat := 2
  trigger : Nat := 1
  due : Nat := 0
  sampled : Option Nat := none
  edge : Option Nat := none
  copiedAt : Nat := 0
  edgeTime : Nat := 0
  missed : Nat := 0
  buffers : AMap Bool := []
  deriving DecidableEq, Repr, Inhabited

/-- The fabric clocks (R180 to R193): codes in force, codes waiting for the alignment boundary (code + 1),
whether the clock-lock step has started them, whether Hold or a stop has stopped them, and the root period from which
stopped holds, its opposite before. -/
structure Clocks where
  roots : Nat := 0
  code : AMap Nat := []
  next : AMap Nat := []
  started : Bool := false
  stopped : Bool := false
  changeAt : Nat := 0
  rootLocked : Bool := false
  deriving DecidableEq, Repr, Inhabited

/-- A delay line: the setting in force and its target, 0 to 63 steps (R190, R191). -/
structure DelayLine where
  now : Nat := 0
  target : Nat := 0
  movedAt : Option Nat := none
  deriving DecidableEq, Repr, Inhabited

/-! ### Streams and loading (06, 07) -/

/-- A stream in progress (R258 to R303). payload holds every byte verified so far; cursor is the payload offset
of the next packet; words, how many words of an INIT_BLOCKMEM in front are written. sel: a selected (sector × 8 + plane), true once marked valid. order: the last frame position
written in each (sector × 8 + plane) under R290, plus one. -/
structure Stream where
  src : StreamSrc
  header : List Byte
  tags : List Byte
  key : List Byte
  nonce : List Byte
  chunk : Nat := 0
  payload : List Byte := []
  cursor : Nat := 0
  words : Nat := 0
  packets : Nat := 0
  crcFrom : Nat := 0
  sel : AMap Nat := []
  order : AMap Nat := []
  marks : List Nat := []
  startCtx : AMap Nat := []
  rolled : Option (List Byte × List Byte) := none
  forward : Nat := 0
  follow : List Byte := []
  deriving DecidableEq, Repr

/-- The last stream processed (CFG_STREAM_RESULT). -/
structure StreamResult where
  status : Nat := 0
  address : Nat := 0
  packet : Nat := 0
  offset : Nat := 0
  owner : Nat := 0
  build : Nat := 0
  time : Nat := 0
  deriving DecidableEq, Repr, Inhabited

/-- A library entry's directory word (CFG_LIB_DIR) in bytes, and the stream's exact length. -/
structure LibEntry where
  present : Bool := false
  writing : Bool := false
  offset : Nat := 0
  length : Nat := 0
  deriving DecidableEq, Repr, Inhabited

/-- The loader (06, 07): stream in progress, load queue, library, host feed, flash directory, boot progress. -/
structure Loader where
  cur : Option Stream := none
  result : StreamResult := {}
  queue : List Nat := []
  loading : Option Nat := none
  copyState : Nat := 0
  copied : Nat := 0
  libDir : AMap LibEntry := []
  fed : Nat := 0
  feedBuf : List Byte := []
  feedSkip : Nat := 0
  dirPrimary : Nat := 0
  dirAlternate : Nat := 0
  dirSealed : Nat := 0
  dirLibrary : Nat := 0
  dirLibLength : Nat := 0
  primaryStatus : Option Nat := none
  alternateStatus : Option Nat := none
  sealedStatus : Option Nat := none
  startCtx : AMap Nat := []
  forwardLeft : Nat := 0
  forwarded : Nat := 0
  octal : Bool := true
  flashAnswers : Bool := false
  deriving DecidableEq, Repr, Inhabited

/-- The start-up sequence (R308 to R339). sysNoted: a SYSRST_N assertion noted in phases 1 to 3; sysHeld: asserted
in phase 4 or later, waiting for its release (R319). doneOnce: phase 8 reached since PORST_N (R675). -/
structure Boot where
  porstLow : Bool := true
  strapBoot : BitVec 2 := 0
  strapBist : Bool := false
  bdef : List (Fin 3) := []
  cause : Nat := 0
  phase : Nat := 0
  bist : Nat := 0
  bistRunning : Bool := false
  bistTickAt : Nat := 0
  image : Nat := 0
  failReason : Nat := 0
  startupNs : Nat := 0
  enteredAt : Nat := 0
  flashId : BitVec 32 := 0
  sysNoted : Bool := false
  sysHeld : Bool := false
  progress : Nat := 0
  lastStepAt : Nat := 0
  verifying : Bool := false
  activated : Bool := false
  outputsReleased : Bool := false
  srReleased : Bool := false
  writesEnabled : Bool := false
  suppliesReached : Bool := false
  doneOnce : Bool := false
  deriving DecidableEq, Repr, Inhabited

/-- The device chain (R347 to R351). -/
structure Chain where
  position : Nat := 0
  joined : Bool := false
  devices : Nat := 1
  reports : AMap Nat := []
  reported : AMap Bool := []
  goAt : Option Nat := none
  goWaitFrom : Option Nat := none
  lastForwardAt : Nat := 0
  forwardFailed : Bool := false
  lastOwnStatus : Nat := 0
  lastDataAt : Nat := 0
  dataSeen : Bool := false
  buf : List Byte := []
  skip : Nat := 0
  deriving DecidableEq, Repr, Inhabited

/-- A hitch frame to be sent (R590): its type, target and sender positions and payload. -/
structure HOut where
  type : Nat
  dst : Nat
  src : Nat
  payload : List Byte
  deriving DecidableEq, Repr, Inhabited

/-- One hitch link, both directions (R590 to R593): frames sent and unacknowledged, oldest first, with their sequence
numbers; frames waiting to be sent; whether a REMOTE frame has the next turn after a STREAM frame; the numbers next to
send and next expected; since when an acknowledgement is owed; when the oldest frame was last sent; the delay
measurement. -/
structure Hitch where
  up : Bool := false
  unacked : List (Nat × HOut) := []
  waiting : List HOut := []
  remoteTurn : Bool := false
  nextSeq : Nat := 0
  expect : Nat := 0
  heard : Bool := false
  ackOwed : Option Nat := none
  sentAt : Nat := 0
  resends : Nat := 0
  delayPs : Nat := 0
  delaySum : Int := 0
  delayCount : Nat := 0
  deriving DecidableEq, Repr, Inhabited

/-- A remote request outstanding at the local hitch unit (R594, R595). -/
structure RemoteReq where
  dst : Nat
  op : Nat
  tag : BitVec 16
  length : Nat
  at_ : Nat
  deriving DecidableEq, Repr, Inhabited

/-! ### The network (08) -/

/-- What an initiator does with a response. -/
inductive TxnUse where
  | port (sector cluster : Nat)
  | moverDesc (m : Nat)
  | moverRead (m : Nat) (dst : Nat)
  | moverWrite (m : Nat)
  | moverDone (m : Nat)
  | bankDrain (b : Nat)
  | lanePush (n : Nat) (marker : Bool)
  | tally
  | notify
  | remote (src : Nat) (op : Nat) (up : Bool)
  | debug
  | scrub (channel : Nat)
  | migrate (channel : Nat)
  | tap (tap : Nat)
  | other
  deriving DecidableEq, Repr, Inhabited

/-- A packet in the network (R359, R360). id: its number among all transactions. kind: 0x01, 0x02, 0x81, 0x82.
cls: dram_class. -/
structure Pkt where
  id : Nat := 0
  kind : Nat
  initiator : Nat
  src : Nat
  dst : Nat
  tag : Nat
  address : Nat
  length : Nat
  status : Nat := 0
  ctx : Option Nat := none
  cls : Nat := 1
  guaranteed : Bool := false
  urgent : Bool := false
  direct : Bool := false
  issued : Nat := 0
  outcome : Nat := 0
  data : List Byte := []
  use : TxnUse := .other
  deriving DecidableEq, Repr, Inhabited

/-- The figures of one initiator (R388). -/
structure NocStat where
  minLat : Nat := 0xFFFFFFFF
  maxLat : Nat := 0
  bins : AMap Nat := []
  flags : Nat := 0
  readBytes : Nat := 0
  writeBytes : Nat := 0
  readNow : Nat := 0
  writeNow : Nat := 0
  timeouts : Nat := 0
  gtMiss : Nat := 0
  deriving DecidableEq, Repr, Inhabited

/-- A mover (R385 to R387). state: 0 idle, 1 running, 2 waiting, 3 error. -/
structure Mover where
  state : Nat := 0
  error : Nat := 0
  completed : Nat := 0
  descAddr : Nat := 0
  desc : List Byte := []
  row : Nat := 0
  col : Nat := 0
  outstanding : Nat := 0
  stopping : Bool := false
  failed : Nat := 0
  copied : Nat := 0
  deriving DecidableEq, Repr, Inhabited

/-- The base-die network (08). inbound: the requests each base port holds unanswered (R384), by sector × 64 + cluster. -/
structure Noc where
  flight : List Pkt := []
  open_ : List Pkt := []
  late : List Pkt := []
  inbound : AMap (List Pkt) := []
  heldResp : List Pkt := []
  nextTag : Nat := 0
  serial : Nat := 0
  gtInForce : AMap Bool := []
  gtPending : AMap Nat := []
  stats : AMap NocStat := []
  windowAt : Nat := 0
  movers : AMap Mover := []
  linkCorrected : Nat := 0
  linkDiscarded : Nat := 0
  quadrants : Nat := 0x0F
  deriving DecidableEq, Repr, Inhabited

/-! ### Wale and the pannier (09) -/

/-- One way of a Wale set (R394): the line's address divided by 64, its bytes, dirty and poison. -/
structure WLine where
  line : Nat
  data : List Byte
  dirty : Bool := false
  poison : Bool := false
  pinned : Bool := false
  deriving DecidableEq, Repr, Inhabited

/-- A request that a slice has accepted and not answered (R398): its lines still to be served, its lines out at the
controller, and the worst status so far; the packet's data gathers what is read. -/
structure SliceReq where
  pkt : Pkt
  left : List Nat
  out : List Nat := []
  status : Nat := 0
  deriving DecidableEq, Repr, Inhabited

/-- A line fill outstanding from a slice (R398): whether it allocates, and once answered its status and data. -/
structure Fill where
  slice : Nat
  line : Nat
  cls : Nat
  alloc : Bool
  answer : Option (Nat × List Byte) := none
  deriving DecidableEq, Repr, Inhabited

/-- A request from a home slice to a channel's controller (R435, R436). src: 0 fill, 1 write-back, 2 uncached access of
the packet numbered id, 3 a write that nothing waits for. seq gives the order of issue. off and data give a write's bytes within the line. -/
structure DReq where
  seq : Nat := 0
  id : Nat := 0
  src : Nat
  slice : Nat
  line : Nat
  write : Bool
  cls : Nat
  initiator : Nat
  off : Nat := 0
  data : List Byte := []
  poison : Bool := false
  at_ : Nat := 0
  urgent : Bool := false
  deriving DecidableEq, Repr, Inhabited

/-- A write-back in progress (R407, R408). -/
structure WriteBack where
  slice : Nat
  line : Nat
  data : List Byte
  poison : Bool
  evicted : Bool
  answer : Option Nat := none
  deriving DecidableEq, Repr, Inhabited

/-- One slice (R394 to R409). flush: lines still to be answered, lines written, lines left dirty, whether to
invalidate afterwards, when it began. maint: the maintenance table, line and time of read. -/
structure Slice where
  off : Bool := false
  disabled : BitVec 16 := 0
  flushing : Bool := false
  flushInvalidate : Bool := false
  flushLeft : List Nat := []
  flushWritten : Nat := 0
  flushDirty : Nat := 0
  flushAt : Nat := 0
  maint : List (Nat × Nat) := []
  dirtied : List Nat := []
  deriving DecidableEq, Repr, Inhabited

/-- A slice's port towards its requests (R402). freeAt: the root period from which it takes a packet; directNext: the direct path
has the next turn; waiting: packets that have reached it, oldest first, each with what its lookup will find. -/
structure SlicePort where
  freeAt : Nat := 0
  directNext : Bool := true
  waiting : List (Pkt × TagErr × MemErr) := []
  deriving DecidableEq, Repr, Inhabited

/-- Wale (09). Ways are keyed slice × 65,536 + set × 16 + way. -/
structure Wale where
  ways : AMap (Option WLine) := []
  plru : AMap (BitVec 15) := []
  slices : AMap Slice := []
  fills : List Fill := []
  backs : List WriteBack := []
  waiting : List SliceReq := []
  ports : AMap SlicePort := []
  toDram : List DReq := []
  deriving DecidableEq, Repr, Inhabited

/-- A circular-buffer window (R421 to R424). -/
structure Window where
  wr : Nat := 0
  rd : Nat := 0
  fill : Nat := 0
  overflows : Nat := 0
  underflows : Nat := 0
  deriving DecidableEq, Repr, Inhabited

/-- The background test of bank 30 or 31 (R416 to R418). testing: a region is in its shadow for its test, since startedAt. -/
structure BankTest where
  testing : Bool := false
  failed : Bool := false
  running : Bool := true
  region : Nat := 0
  passes : Nat := 0
  startedAt : Nat := 0
  shadow : List Byte := []
  deriving DecidableEq, Repr, Inhabited

/-- The pannier (09): its bytes by window offset (R410), bank states (0 on, 1 retention, 2 off, 3 clearing,
4 unusable), conflict counters, spare columns, windows and the background tests. cycleUse: the banks that words address in
pannier cycle cycleAt, each with the port (R412, R413). -/
structure Pannier where
  mem : List Host.Cell := []
  bank : AMap Nat := []
  conflicts : AMap Nat := []
  cycleAt : Nat := 0
  cycleUse : List (Nat × Nat) := []
  spares : AMap Nat := []
  windows : AMap Window := []
  test30 : BankTest := {}
  test31 : BankTest := {}
  deriving DecidableEq, Repr, Inhabited

/-! ### DRAM, integrity, encryption (10, 11, 12) -/

/-- Retirement state of a channel held three times (R462): rank states in two-bit codes and the hosted rank, and
the migration pointer. -/
structure RetCopy where
  ranks : Nat := 0xC0
  hosted : Nat := 7
  pointer : Nat := 0
  deriving DecidableEq, Repr, Inhabited

/-- A remap entry (R479, R483). line: bits [59:35] of its word; comp: the complement of valid and line together. -/
structure Remap where
  valid : Bool := false
  faulted : Bool := false
  spareBad : Bool := false
  line : Nat := 0
  comp : Nat := 0x3FFFFFF
  time : Nat := 0
  deriving DecidableEq, Repr, Inhabited

/-- One DRAM channel (10, 11). foundA, foundB: failing lanes that a burst found, replaced at the next. watch: the lines written back in a pass, as stored and by
address; scrubHeld: the line whose write-back waits and since when, and scrubData what it writes. mig: 0 none, 1 running, 2 complete, 3 stopped. budget and heat count in 1/6000 of a line
transfer. -/
structure Channel where
  c0 : RetCopy := {}
  c1 : RetCopy := {}
  c2 : RetCopy := {}
  mig : Nat := 0
  migRank : Nat := 0
  migHeldAt : Option Nat := none
  migPoisoned : Nat := 0
  pcDown : Nat := 0
  lanesA : Nat := 0
  lanesB : Nat := 0
  training : Nat := 0
  burstsA : Nat := 0
  burstsB : Nat := 0
  foundA : List Nat := []
  foundB : List Nat := []
  burstAtA : Nat := 0
  burstAtB : Nat := 0
  caErr : AMap Nat := []
  caTimes : List (Nat × Nat) := []
  readQ : List DReq := []
  writeQ : List DReq := []
  drain : Bool := false
  budget : Int := 240000
  budgetAt : Nat := 0
  heat : Int := 2400000
  heatAt : Nat := 0
  watch : List (Nat × Nat) := []
  remap : AMap Remap := []
  remapFullNoted : Bool := false
  scrubRank : Nat := 0
  scrubLine : Nat := 0
  scrubHeld : Option (Nat × Nat) := none
  scrubData : List Byte := []
  scrubAt : Nat := 0
  scrubLate : Bool := false
  passAt : Nat := 0
  corrected : Nat := 0
  uncorrectable : Nat := 0
  poisoned : Nat := 0
  hardFaults : Nat := 0
  saturated : Bool := false
  deriving DecidableEq, Repr, Inhabited

/-- One DRAM bank (R438, R444 to R449). halved: the window of its present interval; nref: rows whose neighbours are due, oldest
first. -/
structure DBank where
  openRow : Option Nat := none
  halved : Bool := false
  debt : Nat := 0
  nextRow : Nat := 0
  forcedAt : Option Nat := none
  intervals : Nat := 0
  intervalAt : Nat := 0
  table : List (Nat × Nat) := []
  nref : List (Nat × Nat) := []
  deriving DecidableEq, Repr, Inhabited

/-- The DRAM (10): the stored bytes by physical address, rank × 12 GiB + o, the poisoned lines, stack states
(0 off, 1 training, 2 ready, 3 self-refresh), channels, banks, counters. refreshFrom: the root count from which each stack's
controllers refresh. -/
structure Dram where
  mem : List Host.Cell := []
  poison : AMap Bool := []
  stack : AMap Nat := []
  refreshFrom : AMap Nat := []
  halved : Nat := 0
  throttled : Nat := 0
  chans : AMap Channel := []
  banks : AMap DBank := []
  forced : Nat := 0
  neighbour : Nat := 0
  retired : Nat := 0
  sparesInForce : Bool := true
  trained : Bool := false
  deriving DecidableEq, Repr, Inhabited

/-- The integrity services (11). verifyQ: the (sector × 8 + plane)s still to verify; verifyRound: it is a round. roundWaits:
what is left of a round behind which a request goes ahead, with what it had verified and found. -/
structure Integrity where
  wale : AMap Nat := []
  pan : AMap Nat := []
  blockmem : AMap Nat := []
  compFaults : Nat := 0
  lastRef : Nat := 0
  scrubPasses : Nat := 0
  scrubStopped : Bool := true
  scrubCorrected : Nat := 0
  verifyQ : List Nat := []
  verifyRunning : Bool := false
  verifyRound : Bool := false
  roundWaits : List Nat := []
  roundDone : Nat := 0
  roundMism : Nat := 0
  verifyDone : Nat := 0
  mismatches : Nat := 0
  roundAt : Nat := 0
  faulted : List ObjKey := []
  deriving DecidableEq, Repr, Inhabited

/-- A region's own state (R498, R525): 0 disabled, 1 initialising, 2 enabled, 3 locked; the root and its stored
complement (R507, R527). -/
structure Region where
  state : Nat := 0
  lock : Nat := 0
  root : U64 := 0
  rootComp : U64 := 0xFFFFFFFFFFFFFFFF
  metaLength : Nat := 0
  deriving DecidableEq, Repr, Inhabited

/-- An entry of the poisoned-subtree list (R521). -/
structure PoisonEntry where
  region : Nat
  level : Nat
  node : Nat
  time : Nat
  deriving DecidableEq, Repr, Inhabited

/-- Inline encryption (12). cache: metadata lines held, by line address, with their bytes and dirty bit. -/
structure Crypt where
  slots : AMap (List Byte) := []
  regions : AMap Region := []
  cache : AMap (List Byte × Bool) := []
  failed : List Nat := []
  poison : List PoisonEntry := []
  tagFailures : Nat := 0
  heals : Nat := 0
  minorOverflows : Nat := 0
  hits : Nat := 0
  misses : Nat := 0
  hitAt : Nat := 0
  hitPm : Nat := 0
  initAt : AMap Nat := []
  status : Nat := 0
  deriving DecidableEq, Repr, Inhabited

/-! ### Time and I/O (13), lanes (14) -/

/-- The time base (R531 to R541). state: 0 free-running, 1 grandmaster, 2 acquiring, 3 locked, 4 holdover. heard: the
priority vector of the last Announce on each port, empty for none; best: the port and grandmaster selected; sent: when
a Sync was last sent on each port. -/
structure TimeBase where
  ns : U64 := 0
  frac : BitVec 32 := 0
  addend : BitVec 40 := 0xD5555555
  state : Nat := 0
  offset : Int := 0
  gm : U64 := 0
  gmPort : Nat := 0
  roles : Nat := 0
  good : Nat := 0
  lastSync : Nat := 0
  addendAt : Nat := 0
  delay0 : Int := 0
  delay1 : Int := 0
  ratio0 : Nat := 0x100000000
  ratio1 : Nat := 0x100000000
  heard0 : List Nat := []
  heard1 : List Nat := []
  best : Option (Nat × U64) := none
  sent0 : Nat := 0
  sent1 : Nat := 0
  deriving DecidableEq, Repr, Inhabited

/-- An entry of an input or output queue of a bank: time, and bits [31:0] (R553, R555). -/
structure IoEntry where
  time : U64
  bits : BitVec 32
  deriving DecidableEq, Repr, Inhabited

/-- The level a pin drives (R555, R562): 0 low, 1 high, 2 high impedance, 3 its bank default (R328). -/
structure Pin where
  level : Nat := 3
  prev : Nat := 3
  ret : Option (Nat × Nat) := none
  changedAt : Nat := 0
  recordedAt : Nat := 0
  recordedEdges : Nat := 0
  deriving DecidableEq, Repr, Inhabited

/-- One I/O bank (R545 to R566). state: 0 stopped, 1 running, 2 safe pattern held, 3 core off. before: the state that Stable
found. std: the code of the LVCMOS standard found at fuse load (R546). -/
structure IoBank where
  state : Nat := 0
  inQ : List IoEntry := []
  seq : Nat := 0
  droppedSince : Nat := 0
  draining : Option Nat := none
  retryAt : Nat := 0
  outQ : List IoEntry := []
  polledAt : Nat := 0
  reachedAt : Nat := 0
  executed : Nat := 0
  late : Nat := 0
  droppedIn : Nat := 0
  refused : Nat := 0
  vccioMv : Nat := 0
  std : Option Nat := none
  unpowered : Bool := false
  unusable : Bool := false
  before : Nat := 0
  drainUntil : Option Nat := none
  ranAt : Option Nat := none
  deriving DecidableEq, Repr, Inhabited

/-- A lane (R569 to R588). state: 0 off, 1 detect, 2 training, 3 exchange, 4 stepping, 5 active, 6 failed, 7 relock,
8 transmit stopped. step: 1 detecting, 4 locking, 5 exchanging, 6 stepping up, 8 locking at the new rate, 9 locking at the
previous rate, 7 going active. again: it was on when Stable was entered. -/
structure Lane where
  state : Nat := 0
  rate : Nat := 0xFF
  step : Nat := 0
  stepAt : Nat := 0
  maxRate : Nat := 0
  partnerMax : Nat := 0
  partnerHitch : Bool := false
  fom : Nat := 0
  codeErrors : Nat := 0
  dropped : Nat := 0
  offset : Nat := 0
  rxBuf : List Byte := []
  lost : Nat := 0
  marks : List (List Byte) := []
  markLost : Bool := false
  pushing : Bool := false
  markPushing : Bool := false
  retryAt : Nat := 0
  markRetryAt : Nat := 0
  failedAt : Nat := 0
  lastByteAt : Nat := 0
  txEmph : Nat := 0
  equaliser : AMap Int := []
  adaptAt : AMap Nat := []
  again : Bool := false
  txStopped : Bool := false
  deriving DecidableEq, Repr, Inhabited

/-- The lanes and the hitch (14). lanes: user lanes 0 to 47, service lanes 48 and 49, chain lanes 50 up and 51 down. -/
structure Lanes where
  lanes : AMap Lane := []
  tryMode : AMap Nat := []
  hitchUp : Hitch := {}
  hitchDown : Hitch := {}
  remotes : List RemoteReq := []
  resends : Nat := 0
  deriving DecidableEq, Repr, Inhabited

/-! ### The sealed partition (15) -/

/-- An audit record (R620). -/
structure AuditRec where
  time : Nat
  counter : Nat
  param : Nat
  level : Nat
  session : Nat
  old : U64
  new : U64
  deriving DecidableEq, Repr, Inhabited

/-- A sealed parameter and its stored complement (R603). -/
structure Param where
  val : U64 := 0
  comp : U64 := 0xFFFFFFFFFFFFFFFF
  deriving DecidableEq, Repr, Inhabited

/-- A sample port (R618): state 0 off, 1 running, 2 stopped. -/
structure SamplePort where
  state : Nat := 0
  faults : Nat := 0
  syncAt : Nat := 0
  due : Option Nat := none
  written : Nat := 0
  deriving DecidableEq, Repr, Inhabited

/-- The sealed partition (15). The store fields last without supply (R600). -/
structure Sealed where
  enabled : Bool := false
  provisioned : Bool := false
  ownerHash : List Byte := []
  key : List Byte := []
  store : AMap Param := []
  table : AMap Param := []
  counter : Nat := 0
  audit : List AuditRec := []
  streamHash : List Byte := []
  isOpen : Bool := false
  changed : Bool := false
  faults : Nat := 0
  storeFault : Bool := false
  statusFault : Bool := false
  ports : AMap SamplePort := []
  identification : List Byte := []
  commands : Nat := 0
  gates : AMap U64 := []
  image : List Host.Cell := []
  flips : AMap U64 := []
  deriving DecidableEq, Repr, Inhabited

/-! ### Modes, heat, test, observability (16 to 19) -/

/-- The operating modes (R623), in the order of their codes. -/
inductive Mode where
  | startUp | run | hold | stable | service | safeStop
  deriving DecidableEq, Repr, Inhabited

/-- An orderly stop in progress (R644): when it began, the step next due (0 drain, 1 flush, 2 fallbacks,
3 Safe Stop), and whether a host began it. -/
structure OrderlyStop where
  at_ : Nat
  step : Nat
  host : Bool
  drain : Nat
  stepAt : Nat := 0
  deriving DecidableEq, Repr, Inhabited

/-- A thermal sensor (R632 to R636), in units of 1/64 degree. farAt, nearAt, lowAt, okAt: since when the
conditions of R633 and R636 have held. hist: effective temperatures with their times, newest first (R643). -/
structure Sensor where
  raw : Int := 0
  offset : Int := 0
  reading : Int := 0
  effective : Int := 0
  excluded : Bool := false
  readsLow : Bool := false
  held : Bool := false
  noted : Bool := false
  farAt : Option Nat := none
  nearAt : Option Nat := none
  lowAt : Option Nat := none
  okAt : Option Nat := none
  hist : List (Nat × Int) := []
  deriving DecidableEq, Repr, Inhabited

/-- A tower's gait (R640, R641): 0 Gallop, 1 Canter, 2 Trot, 3 Walk; the thermal gait, the gait in force, when
throttle was last stepped on, and since when it has been clear. -/
structure Gait where
  thermal : Nat := 0
  now : Nat := 0
  crossed : Bool := false
  stepAt : Nat := 0
  clearAt : Nat := 0
  deriving DecidableEq, Repr, Inhabited

/-- Modes, power and heat (16). gaitWait: a change of gait waits for the alignment boundary. domain: the logic sectors' domains. -/
structure Power where
  mode : Mode := .startUp
  lastCause : Nat := 0
  entered : Nat := 0
  stop : Option OrderlyStop := none
  gaits : AMap Gait := []
  gaitWait : Bool := false
  sensors : AMap Sensor := []
  warnFabric : Bool := false
  warnDram : AMap Bool := []
  throttleDram : AMap Bool := []
  shutTowers : Nat := 0
  shutStacks : Nat := 0
  domain : AMap Nat := []
  powerMw : AMap Nat := []
  peakMw : Nat := 0
  predictUs : Nat := 0xFFFFFFFF
  predictSensor : Nat := 0
  predictSlope : Int := 0
  resumes : List Nat := []
  resumeOkAt : Option Nat := none
  safeLowOutside : Bool := false
  safeHighAt : Nat := 0
  saved : Bool := false
  deriving DecidableEq, Repr, Inhabited

/-- Supplies and the dedicated output pins (19). mv: measured millivolts by the supply numbers of event 0x9012,
13 VAUX and 14 VBAT after them; inRangeAt: since when each has been in range. -/
structure Pins where
  mv : AMap Nat := []
  inRangeAt : AMap Nat := []
  excursions : Nat := 0
  dramLost : Bool := false
  cfgDone : Bool := false
  cfgErr : Bool := false
  alarm : Bool := false
  safeDriven : Bool := false
  deriving DecidableEq, Repr, Inhabited

/-- A calibration item's sets: reference temperature and value, at most six (R670). -/
structure CalItem where
  sets : List (Int × Int) := []
  degraded : Bool := false
  deriving DecidableEq, Repr, Inhabited

/-- Test, repair, calibration and JTAG (17). unusable: clusters marked unusable (bit c of sector). portLost: base ports that went
down since Start-up and whose logical cluster a row shift has since moved (R195). badSites: the failed sites of a face-to-face
shift group (R654), keyed ((sector × 72 + physical cluster) × 256 + tile) × 42 + group. spareVias: spares in use per stake
group; failingRows and failingCols: the clusters of a sector and the columns of a pannier bank that BIST found failing; failedGroup: groups failed; monErr: monitor errors' times per group. ioDown, quadDown, nocDown: bits of the I/O bank
cores, lane quads and NoC quadrants marked unusable. -/
structure TestRepair where
  unusable : AMap (BitVec 64) := []
  portDown : AMap (BitVec 64) := []
  portLost : AMap (BitVec 64) := []
  badSites : AMap (List Nat) := []
  shifted : AMap Nat := []
  spareBad : AMap Bool := []
  failingRows : AMap (BitVec 64) := []
  failingCols : AMap (List Nat) := []
  shiftBusy : Option (Nat × Nat × Nat) := none
  spareVias : AMap Nat := []
  failedGroup : AMap Bool := []
  monErr : AMap (List Nat) := []
  monAt : AMap Nat := []
  items : AMap CalItem := []
  lines : AMap DelayLine := []
  seamCal : AMap Bool := []
  untested : Nat := 0
  blocks : Nat := 0
  critical : Nat := 0
  ioDown : Nat := 0
  quadDown : Nat := 0
  nocDown : Nat := 0
  testState : Nat := 0
  testKind : Nat := 0
  testTarget : Nat := 0
  testAt : Nat := 0
  testResult : List Byte := []
  cells : AMap Bool := []
  preload : AMap Bool := []
  scanned : AMap Bool := []
  instruction : Nat := 0x01
  dieSelected : Option Nat := none
  tdo : List Bool := []
  bypassBit : Bool := false
  deriving DecidableEq, Repr, Inhabited

/-- A block counter (R680 to R685). due: the milestones of R684 whose Trace is still to be sent, oldest first, each with
its time and the value. -/
structure Counter where
  config : U64 := 0
  value : Nat := 0
  overflow : Bool := false
  due : List (Nat × Nat) := []
  deriving DecidableEq, Repr, Inhabited

/-- A level monitor (R695). -/
structure Monitor where
  running : Bool := false
  sampledAt : Nat := 0
  min : Nat := 0xFFFFFFFF
  max : Nat := 0
  bins : AMap Nat := []
  flags : Nat := 0
  samples : Nat := 0
  deriving DecidableEq, Repr, Inhabited

/-- A chronicle record (R697). -/
structure Rec where
  time : Nat
  source : Nat
  event : Nat
  seq : Nat
  severity : Nat
  flags : Nat
  payload : List Byte
  deriving DecidableEq, Repr, Inhabited

/-- A coalesced run followed by the writer (R702): its first record, the last counted, and the count. -/
structure Run where
  first : Rec
  last : Rec
  count : Nat
  at_ : Nat
  deriving DecidableEq, Repr, Inhabited

/-- A run of losses that a party has to report (R703). -/
structure Loss where
  first : Nat
  last : Nat
  traces : Nat
  others : Nat
  firstAt : Nat
  lastAt : Nat
  deriving DecidableEq, Repr, Inhabited

/-- The chronicle (18): sequence numbers by source, records held at the sources, the writer's buffers, the runs
followed, the ring, the losses. rr: the source served last (R699); a record of the general buffer stands with the root
period of its arrival. -/
structure Chronicle where
  seq : AMap Nat := []
  srcQ : List Rec := []
  rr : Nat := 0
  general : List (Nat × Rec) := []
  alarms : List Rec := []
  runs : List Run := []
  tracesRefused : Bool := false
  loss : AMap (Option Loss) := []
  writerLoss : Option Loss := none
  alarmLoss : Option Loss := none
  written : Nat := 0
  wraps : Nat := 0
  tracesLost : Nat := 0
  othersLost : Nat := 0
  deriving DecidableEq, Repr, Inhabited

/-- Counters, tally, sampler, monitors, chronicle and the alarm bits of DEV_ERROR_REG (18, R92). -/
structure Observe where
  counters : AMap Counter := []
  latched : Option (Nat × List U64) := none
  tally : AMap U64 := []
  tallyNext : Nat := 0
  tallyLast : Nat := 0
  snapshots : Nat := 0
  snapMissed : Nat := 0
  samples : List (List Byte) := []
  taken : Nat := 0
  sampleSkip : Nat := 0
  monitors : AMap Monitor := []
  chron : Chronicle := {}
  errorReg : Byte := 0
  deriving DecidableEq, Repr, Inhabited

/-- What the device sends (R50, R63, R76, R89, R590, R537): a response frame to a host, an emergency message,
a frame on CAN FD, a process-data image, a hitch frame on a chain lane, a gPTP message, a request to a tap,
words out of a base port, bits out of JTAG, bytes on a transmitter, an answer to an initiator's window access. can names the
device's node, then the client's; replicated says that the frame before it went out on both ports, with its 802.1CB number. -/
inductive Out where
  | response (host : HostAddr) (service session flags : Byte) (transfer : BitVec 16) (seq : BitVec 32) (payload mac : List Byte)
  | emergency (host : HostAddr) (session flags : Byte) (seq : BitVec 32) (record mac : List Byte)
  | canEmergency (node : Nat) (record : List Byte)
  | can (server client : Nat) (data : List Byte)
  | replicated (rtag : Nat)
  | image (dest : Nat) (cls : Nat) (cycle : BitVec 32) (payload mac : List Byte)
  | hitch (up : Bool) (type seq : Nat) (ack : Option Nat) (dst src : Nat) (payload : List Byte)
  | gptp (port : Nat) (kind : Nat) (time : Nat)
  | tap (tap : Nat) (ctx : Option Nat) (index : BitVec 16) (sub : Byte) (write : Bool) (level length : Nat) (data : List Byte)
  | words (sector cluster : Nat) (ctx : Nat) (data : List U32)
  | jtag (bits : List Bool)
  | lane (n : Nat) (kind : Nat) (data : List Byte)
  | sampleSync (p : Nat) (time : Nat)
  | capture (sector : Nat)
  | answer (initiator status : Nat) (data : List Byte)
  deriving DecidableEq, Repr

/-- One-time fuses and battery-backed or non-volatile contents: they outlive PORST_N (R653, R269, R272, R599). -/
structure Fuses where
  serial : BitVec 32 := 0
  speedGrade : Nat := 1
  tempRange : Nat := 0
  ordering : List Byte := []
  mac0 : BitVec 48 := 0
  mac1 : BitVec 48 := 0
  owner0 : List Byte := []
  efuseKey : List Byte := []
  vendorKey : List Byte := []
  plainLock : Bool := false
  efuseOnly : Bool := false
  debugLock : Bool := false
  rowShift : AMap Nat := []
  panColumns : AMap Nat := []
  viaSpares : AMap Nat := []
  badSites : AMap (List Nat) := []
  bbramKey : List Byte := []
  tamperSeen : Bool := false
  tamperUnreported : Bool := false
  deriving DecidableEq, Repr, Inhabited

/-- The dictionary engine, its sessions and its transports (02). lockedTill: the root period until which a locked level is refused.
gatePending: a gate list that waits for the next gate-cycle boundary, with the TAI of its write. tapTimeouts: by
(sector × 8 + plane) × 8 + entry. recovered: the 802.1CB streams by the address they come from; frerTx: the next number of the
device's own (R68). -/
structure Dict where
  sessions : AMap Session := []
  fails : AMap Nat := []
  lockedTill : AMap Nat := []
  keys : AMap (List Byte) := []
  levelFault : Bool := false
  transfers : List Transfer := []
  can : CanCtl := {}
  pd : ProcData := {}
  taps : List TapReq := []
  tapLate : List TapReq := []
  tapTimeouts : AMap Nat := []
  gateActive : List Byte := []
  gatePending : Option (Nat × List Byte) := none
  switchStatus : Nat := 0
  recovered : AMap (Option Recovery) := []
  frerTx : Nat := 0
  deriving DecidableEq, Repr, Inhabited

/-- The machine. obj holds what hosts and streams have written, where it differs from the default (R8); pending is
the queue of commands waiting, first in, first out; outs is what the device has sent, oldest first; freeCtr counts
the free values drawn so far. -/
structure State where
  pending : List Instr := []
  outs : List Out := []
  freeCtr : Nat := 0
  fuses : Fuses := {}
  obj : AMap ObjVal := []
  dict : Dict := {}
  clk : Clocks := {}
  fab : Fabric := {}
  edge : EdgeNow := {}
  planes : AMap Plane := []
  frames : AMap (List Byte) := []
  stage : AMap StageEngine := []
  grants : AMap (List (Nat × Nat)) := []
  teams : AMap Team := []
  cap : Capture := {}
  loader : Loader := {}
  boot : Boot := {}
  chain : Chain := {}
  noc : Noc := {}
  wale : Wale := {}
  pan : Pannier := {}
  dram : Dram := {}
  ecc : Integrity := {}
  crypt : Crypt := {}
  time : TimeBase := {}
  banks : AMap IoBank := []
  pins : AMap Pin := []
  lanes : Lanes := {}
  sealed : Sealed := {}
  power : Power := {}
  board : Pins := {}
  test : TestRepair := {}
  obs : Observe := {}
  deriving DecidableEq, Repr

/-- Why the machine stops. -/
inductive Fault where
  /-- Raised by the supply commands (vauxVinCoreReached, vinCoreOutOfRange, vauxLow, vdramVppOutOfRange, vlaneOutOfRange, vccioOutOfRange)
  when the measured voltage lies beyond the supply's absolute maximum of R709: R710 says that no figure of the manual
  holds then. Safe: the model stops where the manual promises nothing. -/
  | beyondAbsoluteMaximum
  deriving DecidableEq, Repr

/-- Why a command has no meaning. -/
inductive Refusal where
  /-- Raised by exec for a row whose meaning is not written yet. Safe: nothing is claimed of such a row. -/
  | notModelled (mnemonic : String)
  deriving DecidableEq, Repr

/-- The machine right after reset: Start-up, phase 0, cause 0, PORST_N asserted (R310, R312, R315), every object at
its default (R8), every plane idle (R205), time 0 with the nominal addend (R533), nothing waiting. -/
def State.reset : State := {}

end Sys2Proof.Machine
end

