-- ==== Sys2Proof/Machine/Store.lean ====
section
/-! DEFINITION. Sparse tables, byte memories, byte lists and small number helpers. -/

namespace Sys2Proof.Machine

/-! ### Sparse tables in canonical form: keys strictly rising, no entry at the default -/

/-- The entry of a table at a key; an unlisted key holds the default d. -/
def AMap.get {α : Type} (d : α) : AMap α → Nat → α
  | [], _ => d
  | (k, v) :: rest, key => if key = k then v else AMap.get d rest key

/-- The table with one entry removed. -/
def AMap.del {α : Type} : AMap α → Nat → AMap α
  | [], _ => []
  | (k, v) :: rest, key => if key = k then AMap.del rest key else (k, v) :: AMap.del rest key

/-- The table with an entry placed among rising keys. -/
def AMap.ins {α : Type} : AMap α → Nat → α → AMap α
  | [], key, x => [(key, x)]
  | (k, v) :: rest, key, x =>
    if key < k then (key, x) :: (k, v) :: rest
    else if key = k then (key, x) :: rest
    else (k, v) :: AMap.ins rest key x

/-- The table with an entry set; setting the default removes the entry. -/
def AMap.set {α : Type} [DecidableEq α] (d : α) (m : AMap α) (key : Nat) (x : α) : AMap α :=
  if x = d then AMap.del m key else AMap.ins m key x

/-- The canonical form of a table: keys strictly rising, no entry at the default. -/
def AMap.wf {α : Type} [DecidableEq α] (d : α) : AMap α → Bool
  | [] => true
  | [(_, v)] => decide (v ≠ d)
  | (k, v) :: (k2, v2) :: rest => decide (k < k2) && decide (v ≠ d) && AMap.wf d ((k2, v2) :: rest)

/-- The entry changed by a function. -/
def AMap.upd {α : Type} [DecidableEq α] (d : α) (m : AMap α) (key : Nat) (f : α → α) : AMap α :=
  AMap.set d m key (f (AMap.get d m key))

/-! ### Byte memories: lists of cells in the same canonical form, an unlisted address reading 0 -/

/-- One byte of a memory. -/
def Memory.byte (m : List Host.Cell) (a : Nat) : Byte := AMap.get 0 m a

/-- A memory with one byte written. -/
def Memory.put (m : List Host.Cell) (a : Nat) (b : Byte) : List Host.Cell := AMap.set 0 m a b

/-- The canonical form of a memory. -/
def Memory.wf (m : List Host.Cell) : Bool := AMap.wf (0 : Byte) m

/-- len bytes of a memory from address a upwards. -/
def Memory.read (m : List Host.Cell) (a : Nat) : Nat → List Byte
  | 0 => []
  | n + 1 => Memory.byte m a :: Memory.read m (a + 1) n

/-- A memory with the bytes written from address a upwards. -/
def Memory.write (m : List Host.Cell) (a : Nat) : List Byte → List Host.Cell
  | [] => m
  | b :: bs => Memory.write (Memory.put m a b) (a + 1) bs

/-- A memory with n zero bytes from address a upwards. -/
def Memory.clear (m : List Host.Cell) (a n : Nat) : List Host.Cell :=
  m.filter fun c => ¬ (a ≤ c.1 ∧ c.1 < a + n)

/-! ### Byte lists, least significant byte first (R38) -/

/-- A number as n bytes, least significant first. -/
def leBytes (v : Nat) : Nat → List Byte
  | 0 => []
  | n + 1 => BitVec.ofNat 8 v :: leBytes (v / 256) n

/-- The number that bytes spell, least significant first. -/
def leNat : List Byte → Nat
  | [] => 0
  | b :: bs => b.toNat + 256 * leNat bs

/-- A number as n bytes, most significant first. -/
def beBytes (v n : Nat) : List Byte := (leBytes v n).reverse

/-- The number that bytes spell, most significant first. -/
def beNat (bs : List Byte) : Nat := leNat bs.reverse

/-- n bytes of a list from an offset. -/
def bytesAt (bs : List Byte) (off n : Nat) : List Byte := (bs.drop off).take n

/-- The number in n bytes of a list from an offset. -/
def natAt (bs : List Byte) (off n : Nat) : Nat := leNat (bytesAt bs off n)

/-- A list of bytes brought to n bytes: cut, or filled with zeros. -/
def padTo (bs : List Byte) (n : Nat) : List Byte := bs.take n ++ List.replicate (n - bs.length) 0

/-- n zero bytes. -/
def zeros (n : Nat) : List Byte := List.replicate n 0

/-- Bitwise complement of bytes. -/
def complBytes (bs : List Byte) : List Byte := bs.map fun b => ~~~b

/-- Exclusive or of two byte lists, to the shorter. -/
def xorBytes (a b : List Byte) : List Byte := List.zipWith (fun x y => x ^^^ y) a b

/-! ### Numbers -/

/-- Field [hi:lo] of a number (R7). -/
def field (v hi lo : Nat) : Nat := v / 2 ^ lo % 2 ^ (hi + 1 - lo)

/-- Bit n of a number. -/
def bit (v n : Nat) : Bool := v.testBit n

/-- A number with bit n set or cleared. -/
def setBit (v n : Nat) (b : Bool) : Nat :=
  if bit v n = b then v else if b then v + 2 ^ n else v - 2 ^ n

/-- One more, staying at a largest value (R706). -/
def satInc (v : Nat) (mx : Nat) : Nat := if v < mx then v + 1 else mx

/-- A sum that stays at a largest value (R706). -/
def satAdd (v n mx : Nat) : Nat := if v + n ≤ mx then v + n else mx

/-- 2^32 - 1, the largest U32. -/
def maxU32 : Nat := 0xFFFFFFFF

/-- The two's complement of an integer in n bytes, as a number. -/
def twos (v : Int) (n : Nat) : Nat := (v % (2 ^ (8 * n) : Int)).toNat

/-- The signed reading of an n-byte number. -/
def signed (v n : Nat) : Int := if v < 2 ^ (8 * n - 1) then v else (v : Int) - 2 ^ (8 * n)

/-- A Bool as 0 or 1. -/
def b2n (b : Bool) : Nat := if b then 1 else 0

/-- Bits from a list of Bools, the first lowest. -/
def bitsNat : List Bool → Nat
  | [] => 0
  | b :: bs => b2n b + 2 * bitsNat bs

/-- The numbers below n whose bit is set in v, rising. -/
def bitsSet (v n : Nat) : List Nat := (List.range n).filter fun i => bit v i

/-- How many of the lowest n bits of v are set. -/
def popCount (v n : Nat) : Nat := (bitsSet v n).length

/-- The list with element i replaced. -/
def setAt {α : Type} : List α → Nat → α → List α
  | [], _, _ => []
  | _ :: xs, 0, y => y :: xs
  | x :: xs, n + 1, y => x :: setAt xs n y

/-- The list without element i. -/
def delAt {α : Type} : List α → Nat → List α
  | [], _ => []
  | _ :: xs, 0 => xs
  | x :: xs, n + 1 => x :: delAt xs n

/-- The index of the first element with a property. -/
def indexOf? {α : Type} (p : α → Bool) : List α → Option Nat
  | [] => none
  | x :: xs => if p x then some 0 else (indexOf? p xs).map (· + 1)

/-- An integer placed in a rising list. -/
def sortedIns (x : Int) : List Int → List Int
  | [] => [x]
  | y :: ys => if x ≤ y then x :: y :: ys else y :: sortedIns x ys

/-- Integers in rising order. -/
def sortInts (xs : List Int) : List Int := xs.foldr sortedIns []

/-- The median of integers, the mean of the middle two when their number is even. -/
def medianInt (xs : List Int) : Int :=
  let ys := sortInts xs
  let n := ys.length
  if n = 0 then 0
  else if n % 2 = 1 then ys.getD (n / 2) 0
  else (ys.getD (n / 2 - 1) 0 + ys.getD (n / 2) 0) / 2

end Sys2Proof.Machine
end

