-- ==== Sys2Proof/Machine/Crypto.lean ====
section
/-! DEFINITION. The published algorithms that the spec names: SHA-256 and HMAC (R50), SHA-384 and ECDSA over P-384
(R259, R274), AES-256, its key wrap (R57), GCM (R263) and XTS (R501), CRC-32C (R295) and GF(2^64) (R506). The spec
names them and gives none of their text; they are taken from their standards (PRESUMED, log entry 4). -/

namespace Sys2Proof.Machine.Crypto

/-! ### SHA-256 -/

/-- The round constants of both hashes, the first 64 bits of the fractions of the cube roots of the first 80 primes (kTable_roots),
eight to a row, the first of a row in its highest bits. -/
def kTable : List Nat :=
  [0x428a2f98d728ae227137449123ef65cdb5c0fbcfec4d3b2fe9b5dba58189dbbc3956c25bf348b53859f111f1b605d019923f82a4af194f9bab1c5ed5da6d8118,
   0xd807aa98a303024212835b0145706fbe243185be4ee4b28c550c7dc3d5ffb4e272be5d74f27b896f80deb1fe3b1696b19bdc06a725c71235c19bf174cf692694,
   0xe49b69c19ef14ad2efbe4786384f25e30fc19dc68b8cd5b5240ca1cc77ac9c652de92c6f592b02754a7484aa6ea6e4835cb0a9dcbd41fbd476f988da831153b5,
   0x983e5152ee66dfaba831c66d2db43210b00327c898fb213fbf597fc7beef0ee4c6e00bf33da88fc2d5a79147930aa72506ca6351e003826f142929670a0e6e70,
   0x27b70a8546d22ffc2e1b21385c26c9264d2c6dfc5ac42aed53380d139d95b3df650a73548baf63de766a0abb3c77b2a881c2c92e47edaee692722c851482353b,
   0xa2bfe8a14cf10364a81a664bbc423001c24b8b70d0f89791c76c51a30654be30d192e819d6ef5218d69906245565a910f40e35855771202a106aa07032bbd1b8,
   0x19a4c116b8d2d0c81e376c085141ab532748774cdf8eeb9934b0bcb5e19b48a8391c0cb3c5c95a634ed8aa4ae3418acb5b9cca4f7763e373682e6ff3d6b2b8a3,
   0x748f82ee5defb2fc78a5636f43172f6084c87814a1f0ab728cc702081a6439ec90befffa23631e28a4506cebde82bde9bef9a3f7b2c67915c67178f2e372532b,
   0xca273eceea26619cd186b8c721c0c207eada7dd6cde0eb1ef57d4f7fee6ed17806f067aa72176fba0a637dc5a2c898a6113f9804bef90dae1b710b35131c471b,
   0x28db77f523047d8432caab7b40c724933c9ebe0a15c9bebc431d67c49c100d4c4cc5d4becb3e42b6597f299cfc657e2a5fcb6fab3ad6faec6c44198c4a475817]

/-- Round constant i of SHA-384; its upper half is that of SHA-256. -/
def kConst (i : Nat) : Nat := (kTable.getD (i / 8) 0 >>> (64 * (7 - i % 8))) % 2 ^ 64

/-- The round constants of SHA-256. -/
def k256 : List (BitVec 32) := (List.range 64).map fun i => BitVec.ofNat 32 (kConst i / 2 ^ 32)

/-- The round constants of SHA-384. -/
def k512 : List (BitVec 64) := (List.range 80).map fun i => BitVec.ofNat 64 (kConst i)

/-- The initial hash of SHA-256. -/
def h256 : List (BitVec 32) :=
  [0x6a09e667, 0xbb67ae85, 0x3c6ef372, 0xa54ff53a, 0x510e527f, 0x9b05688c, 0x1f83d9ab, 0x5be0cd19]

/-- A big-endian word of n bits from bytes. -/
def beWord (n : Nat) (bs : List Byte) : BitVec n := BitVec.ofNat n (beNat bs)

/-- The message schedule: words newest first, extended n times. -/
def sched256 : Nat → List (BitVec 32) → List (BitVec 32)
  | 0, w => w
  | n + 1, w =>
    let x := w.getD 1 0
    let y := w.getD 14 0
    let s1 := x.rotateRight 17 ^^^ x.rotateRight 19 ^^^ (x >>> 10)
    let s0 := y.rotateRight 7 ^^^ y.rotateRight 18 ^^^ (y >>> 3)
    sched256 n ((s1 + w.getD 6 0 + s0 + w.getD 15 0) :: w)

/-- One round of SHA-256 on the eight working words. -/
def round256 (v : List (BitVec 32)) (kw : BitVec 32 × BitVec 32) : List (BitVec 32) :=
  match v with
  | [a, b, c, d, e, f, g, h] =>
    let t1 := h + (e.rotateRight 6 ^^^ e.rotateRight 11 ^^^ e.rotateRight 25) + ((e &&& f) ^^^ (~~~e &&& g)) + kw.1 + kw.2
    let t2 := (a.rotateRight 2 ^^^ a.rotateRight 13 ^^^ a.rotateRight 22) + ((a &&& b) ^^^ (a &&& c) ^^^ (b &&& c))
    [t1 + t2, a, b, c, d + t1, e, f, g]
  | w => w

/-- The pieces of n bytes of a list; fuel bounds their number. -/
def pieces (n : Nat) : Nat → List Byte → List (List Byte)
  | 0, _ => []
  | fuel + 1, bs => if bs = [] then [] else bs.take n :: pieces n fuel (bs.drop n)

/-- One block of SHA-256. -/
def block256 (h : List (BitVec 32)) (blk : List Byte) : List (BitVec 32) :=
  let w := (sched256 48 (((pieces 4 16 blk).map (beWord 32)).reverse)).reverse
  List.zipWith (fun x y => x + y) h ((k256.zip w).foldl round256 h)

/-- A message padded to whole blocks of n bytes, its length in bits in the last m bytes. -/
def padMsg (n m : Nat) (msg : List Byte) : List Byte :=
  let z := (n - (msg.length + 1 + m) % n) % n
  msg ++ (0x80 :: (zeros z ++ beBytes (8 * msg.length) m))

/-- SHA-256: 32 bytes. -/
@[irreducible] def sha256 (msg : List Byte) : List Byte :=
  let p := padMsg 64 8 msg
  ((pieces 64 (p.length / 64) p).foldl block256 h256).flatMap fun w => beBytes w.toNat 4

/-- HMAC-SHA-256 (R50). -/
@[irreducible] def hmac (key msg : List Byte) : List Byte :=
  let k := padTo (if key.length > 64 then sha256 key else key) 64
  sha256 (xorBytes k (List.replicate 64 0x5C) ++ sha256 (xorBytes k (List.replicate 64 0x36) ++ msg))

/-! ### SHA-384 -/

/-- The initial hash of SHA-384. -/
def h384 : List (BitVec 64) :=
  [0xcbbb9d5dc1059ed8, 0x629a292a367cd507, 0x9159015a3070dd17, 0x152fecd8f70e5939,
   0x67332667ffc00b31, 0x8eb44a8768581511, 0xdb0c2e0d64f98fa7, 0x47b5481dbefa4fa4]

/-- The message schedule of SHA-384: words newest first, extended n times. -/
def sched512 : Nat → List (BitVec 64) → List (BitVec 64)
  | 0, w => w
  | n + 1, w =>
    let x := w.getD 1 0
    let y := w.getD 14 0
    let s1 := x.rotateRight 19 ^^^ x.rotateRight 61 ^^^ (x >>> 6)
    let s0 := y.rotateRight 1 ^^^ y.rotateRight 8 ^^^ (y >>> 7)
    sched512 n ((s1 + w.getD 6 0 + s0 + w.getD 15 0) :: w)

/-- One round of SHA-384 on the eight working words. -/
def round512 (v : List (BitVec 64)) (kw : BitVec 64 × BitVec 64) : List (BitVec 64) :=
  match v with
  | [a, b, c, d, e, f, g, h] =>
    let t1 := h + (e.rotateRight 14 ^^^ e.rotateRight 18 ^^^ e.rotateRight 41) + ((e &&& f) ^^^ (~~~e &&& g)) + kw.1 + kw.2
    let t2 := (a.rotateRight 28 ^^^ a.rotateRight 34 ^^^ a.rotateRight 39) + ((a &&& b) ^^^ (a &&& c) ^^^ (b &&& c))
    [t1 + t2, a, b, c, d + t1, e, f, g]
  | w => w

/-- One block of SHA-384. -/
def block512 (h : List (BitVec 64)) (blk : List Byte) : List (BitVec 64) :=
  let w := (sched512 64 (((pieces 8 16 blk).map (beWord 64)).reverse)).reverse
  List.zipWith (fun x y => x + y) h ((k512.zip w).foldl round512 h)

/-- SHA-384: 48 bytes. -/
@[irreducible] def sha384 (msg : List Byte) : List Byte :=
  let p := padMsg 128 16 msg
  (((pieces 128 (p.length / 128) p).foldl block512 h384).flatMap fun w => beBytes w.toNat 8).take 48

/-! ### AES-256 -/

/-- The substitution box as one number, entry i in byte i. -/
def sboxNat : Nat :=
  0x16bb54b00f2d99416842e6bf0d89a18cdf2855cee9871e9b948ed9691198f8e19e1dc186b95735610ef6034866b53e708a8bbd4b1f74dde8c6b4a61c2e2578ba08ae7a65eaf4566ca94ed58d6d37c8e779e4959162acd3c25c2406490a3a32e0db0b5ede14b8ee4688902a22dc4f816073195d643d7ea7c41744975fec130ccdd2f3ff1021dab6bcf5389d928f40a351a89f3c507f02f94585334d43fbaaefd0cf584c4a39becb6a5bb1fc20ed00d153842fe329b3d63b52a05a6e1b1a2c830975b227ebe28012079a059618c323c7041531d871f1e5a534ccf73f362693fdb7c072a49cafa2d4adf04759fa7dc982ca76abd7fe2b670130c56f6bf27b777c63

/-- The inverse substitution box in the same form. -/
def invSboxNat : Nat :=
  0x7d0c2155631469e126d677ba7e042b17619953833cbbebc8b0f52aae4d3be0a0ef9cc9939f7ae52d0d4ab519a97f51605fec8027591012b131c7078833a8dd1ff45acd78fec0db9a2079d2c64b3e56fc1bbe18aa0e62b76f89c5291d711af1476edf751ce837f9e28535ade72274ac9673e6b4f0cecff297eadc674f4111913a6b8a130103bdafc1020f3fca8f1e2cd00645b3b80558e4f70ad3bc8c00abd890849d8da75746155edab9edfd5048706c92b6655dcc5ca4d41698688664f6f87225d18b6d49a25b76b224d92866a12e084ec3fa420b954cee3d23c2a632947b54cbe9dec444438e3487ff2f9b8239e37cfbd7f3819ea340bf38a53630d56a0952

/-- One byte through a box. -/
def box (t : Nat) (b : Byte) : Byte := BitVec.ofNat 8 (t / 256 ^ b.toNat)

/-- Multiplication by x in the field of AES. -/
def xtime (b : Byte) : Byte := (b <<< 1) ^^^ (if b.msb then 0x1B else 0)

/-- The multiples by a constant of AES's columns in the field of AES, that of byte i in byte i. -/
def mulNat : Nat → Nat
  | 2 => 0xe5e7e1e3edefe9ebf5f7f1f3fdfff9fbc5c7c1c3cdcfc9cbd5d7d1d3dddfd9dba5a7a1a3adafa9abb5b7b1b3bdbfb9bb858781838d8f898b959791939d9f999b656761636d6f696b757771737d7f797b454741434d4f494b555751535d5f595b252721232d2f292b353731333d3f393b050701030d0f090b151711131d1f191bfefcfaf8f6f4f2f0eeeceae8e6e4e2e0dedcdad8d6d4d2d0cecccac8c6c4c2c0bebcbab8b6b4b2b0aeacaaa8a6a4a2a09e9c9a98969492908e8c8a88868482807e7c7a78767472706e6c6a68666462605e5c5a58565452504e4c4a48464442403e3c3a38363432302e2c2a28262422201e1c1a18161412100e0c0a0806040200
  | 3 => 0x1a191c1f16151013020104070e0d080b2a292c2f26252023323134373e3d383b7a797c7f76757073626164676e6d686b4a494c4f46454043525154575e5d585bdad9dcdfd6d5d0d3c2c1c4c7cecdc8cbeae9ecefe6e5e0e3f2f1f4f7fefdf8fbbab9bcbfb6b5b0b3a2a1a4a7aeada8ab8a898c8f86858083929194979e9d989b818287848d8e8b88999a9f9c95969390b1b2b7b4bdbebbb8a9aaafaca5a6a3a0e1e2e7e4edeeebe8f9fafffcf5f6f3f0d1d2d7d4dddedbd8c9cacfccc5c6c3c0414247444d4e4b48595a5f5c55565350717277747d7e7b78696a6f6c65666360212227242d2e2b28393a3f3c35363330111217141d1e1b18090a0f0c05060300
  | 9 => 0x464f545d626b70790e071c152a233831d6dfc4cdf2fbe0e99e978c85bab3a8a17d746f6659504b42353c272e1118030aede4fff6c9c0dbd2a5acb7be8188939a3039222b141d060f78716a635c554e47a0a9b2bb848d969fe8e1faf3ccc5ded70b0219102f263d34434a5158676e757c9b928980bfb6ada4d3dac1c8f7fee5ecaaa3b8b18e879c95e2ebf0f9c6cfd4dd3a3328211e170c05727b6069565f444d9198838ab5bca7aed9d0cbc2fdf4efe60108131a252c373e49405b526d647f76dcd5cec7f8f1eae3949d868fb0b9a2ab4c455e5768617a73040d161f2029323be7eef5fcc3cad1d8afa6bdb48b829990777e656c535a41483f362d241b120900
  | 11 => 0xa3a8b5be8f849992fbf0ede6d7dcc1ca1318050e3f3429224b405d56676c717ad8d3cec5f4ffe2e9808b969daca7bab168637e75444f5259303b262d1c170a01555e434879726f640d061b10212a373ce5eef3f8c9c2dfd4bdb6aba0919a878c2e2538330209141f767d606b5a514c479e958883b2b9a4afc6cdd0dbeae1fcf7545f424978736e650c071a11202b363de4eff2f9c8c3ded5bcb7aaa1909b868d2f2439320308151e777c616a5b504d469f948982b3b8a5aec7ccd1daebe0fdf6a2a9b4bf8e859893faf1ece7d6ddc0cb1219040f3e3528234a415c57666d707bd9d2cfc4f5fee3e8818a979cada6bbb069627f74454e5358313a272c1d160b00
  | 13 => 0x979a8d80a3aeb9b4fff2e5e8cbc6d1dc474a5d50737e69642f2235381b16010c2c21363b1815020f44495e53707d6a67fcf1e6ebc8c5d2df94998e83a0adbab7faf7e0edcec3d4d9929f8885a6abbcb12a27303d1e130409424f5855767b6c61414c5b5675786f622924333e1d10070a919c8b86a5a8bfb2f9f4e3eecdc0d7da4d40575a7974636e25283f32111c0b069d90878aa9a4b3bef5f8efe2c1ccdbd6f6fbece1c2cfd8d59e938489aaa7b0bd262b3c31121f08054e4354597a77606d202d3a3714190e034845525f7c71666bf0fdeae7c4c9ded39895828faca1b6bb9b96818cafa2b5b8f3fee9e4c7caddd04b46515c7f726568232e3934171a0d00
  | _ => 0x8d83919fb5bba9a7fdf3e1efc5cbd9d76d63717f555b49471d13010f252b393756584a446e60727c26283a341e10020cb6b8aaa48e80929cc6c8dad4fef0e2ec202e3c321816040a505e4c426866747ac0cedcd2f8f6e4eab0beaca28886949afbf5e7e9c3cddfd18b859799b3bdafa11b150709232d3f316b657779535d4f41ccc2d0def4fae8e6bcb2a0ae848a98962c22303e141a08065c52404e646a787617190b052f21333d67697b755f51434df7f9ebe5cfc1d3dd87899b95bfb1a3ad616f7d735957454b111f0d032927353b818f9d93b9b7a5abf1ffede3c9c7d5dbbab4a6a8828c9e90cac4d6d8f2fceee05a544648626c7e702a243638121c0e00

/-- Multiplication in the field of AES by a constant of its columns: 1, 2, 3, 9, 11, 13 or 14. -/
def gmul (k : Nat) (b : Byte) : Byte := if k = 1 then b else box (mulNat k) b

/-- The key schedule of AES-256: words of four bytes, newest first, extended n times from count i. -/
def keySched : Nat → Nat → Byte → List (List Byte) → List (List Byte)
  | 0, _, _, w => w
  | n + 1, i, rc, w =>
    let prev := w.getD 0 []
    let t :=
      if i % 8 = 0 then xorBytes ((prev.drop 1 ++ prev.take 1).map (box sboxNat)) [rc, 0, 0, 0]
      else if i % 8 = 4 then prev.map (box sboxNat) else prev
    keySched n (i + 1) (if i % 8 = 0 then xtime rc else rc) (xorBytes (w.getD 7 []) t :: w)

/-- The fifteen round keys of 16 bytes. -/
def roundKeys (key : List Byte) : List (List Byte) :=
  pieces 16 15 ((keySched 52 8 1 (pieces 4 8 key).reverse).reverse.flatMap id)

/-- The state bytes moved by rows, forwards or backwards. -/
def shiftRows (inv : Bool) (s : List Byte) : List Byte :=
  (List.range 16).map fun i =>
    let r := i % 4
    let c := i / 4
    s.getD (4 * ((if inv then c + 4 - r else c + r) % 4) + r) 0

/-- One column multiplied by the circulant of four constants. -/
def mixColumn (k0 k1 k2 k3 : Nat) (c : List Byte) : List Byte :=
  match c with
  | [a, b, d, e] =>
    [gmul k0 a ^^^ gmul k1 b ^^^ gmul k2 d ^^^ gmul k3 e, gmul k3 a ^^^ gmul k0 b ^^^ gmul k1 d ^^^ gmul k2 e,
     gmul k2 a ^^^ gmul k3 b ^^^ gmul k0 d ^^^ gmul k1 e, gmul k1 a ^^^ gmul k2 b ^^^ gmul k3 d ^^^ gmul k0 e]
  | x => x

/-- AES-256 encryption of one block of 16 bytes. -/
@[irreducible] def aesEnc (key blk : List Byte) : List Byte :=
  let ks := roundKeys key
  let s := ((ks.drop 1).take 13).foldl (fun s k =>
    xorBytes (((pieces 4 4 (shiftRows false (s.map (box sboxNat)))).map (mixColumn 2 3 1 1)).flatMap id) k)
    (xorBytes blk (ks.getD 0 []))
  xorBytes (shiftRows false (s.map (box sboxNat))) (ks.getD 14 [])

/-- AES-256 decryption of one block of 16 bytes. -/
@[irreducible] def aesDec (key blk : List Byte) : List Byte :=
  let ks := roundKeys key
  let s := (((ks.drop 1).take 13).reverse).foldl (fun s k =>
    ((pieces 4 4 (xorBytes ((shiftRows true s).map (box invSboxNat)) k)).map (mixColumn 14 11 13 9)).flatMap id)
    (xorBytes blk (ks.getD 14 []))
  xorBytes ((shiftRows true s).map (box invSboxNat)) (ks.getD 0 [])

/-! ### AES key wrap (R57) -/

/-- One inverse step of the key wrap at counter t: registers A and R. -/
def unwrapStep (kek : List Byte) (n : Nat) (st : List Byte × List (List Byte)) (t : Nat) : List Byte × List (List Byte) :=
  let i := (t - 1) % n
  let b := aesDec kek (xorBytes st.1 (beBytes t 8) ++ st.2.getD i [])
  (b.take 8, setAt st.2 i (b.drop 8))

/-- The bytes that a wrap of 40 bytes (one key) or of 72 bytes (the pair of R524) holds under a wrapping key, where it is intact: n
blocks of 8 bytes after the check block, 6·n inverse steps. -/
@[irreducible] def unwrap (kek wrap : List Byte) : Option (List Byte) :=
  let n := wrap.length / 8 - 1
  if wrap.length ≠ 40 ∧ wrap.length ≠ 72 then none
  else
    let r := ((List.range (6 * n)).map fun i => 6 * n - i).foldl (unwrapStep kek n) (wrap.take 8, pieces 8 n (wrap.drop 8))
    if r.1 = List.replicate 8 0xA6 then some (r.2.flatMap id) else none

/-! ### GCM (R263) -/

/-- Multiplication in GF(2^128) in the bit order of GCM; blocks as numbers, first byte most significant. -/
def gcmMulGo : Nat → Nat → Nat → Nat → Nat
  | 0, _, _, z => z
  | n + 1, x, v, z =>
    gcmMulGo n x (if v % 2 = 1 then (v / 2) ^^^ (0xE1 * 2 ^ 120) else v / 2) (if bit x n then z ^^^ v else z)

/-- GHASH over whole blocks. -/
def ghash (h : Nat) (bs : List Byte) : Nat :=
  (pieces 16 ((bs.length + 15) / 16) bs).foldl (fun y b => gcmMulGo 128 (y ^^^ beNat (padTo b 16)) h 0) 0

/-- A list filled with zeros to whole blocks. -/
def fill16 (bs : List Byte) : List Byte := bs ++ zeros ((16 - bs.length % 16) % 16)

/-- The counter-mode stream over a text from counter value c under a 12-byte nonce. -/
def gcmCtr (key nonce : List Byte) (c : Nat) (text : List Byte) : List Byte :=
  ((pieces 16 ((text.length + 15) / 16) text).zipIdx).flatMap fun (b, i) =>
    xorBytes b (aesEnc key (nonce ++ beBytes (c + i) 4))

/-- The tag of AES-256-GCM over associated data and ciphertext. -/
@[irreducible] def gcmTag (key nonce aad ct : List Byte) : List Byte :=
  let h := beNat (aesEnc key (zeros 16))
  let s := ghash h (fill16 aad ++ fill16 ct ++ beBytes (8 * aad.length) 8 ++ beBytes (8 * ct.length) 8)
  xorBytes (beBytes s 16) (aesEnc key (nonce ++ beBytes 1 4))

/-- The plaintext of AES-256-GCM. -/
@[irreducible] def gcmDec (key nonce ct : List Byte) : List Byte := gcmCtr key nonce 2 ct

/-! ### XTS (R501) -/

/-- A tweak multiplied by x in GF(2^128), bytes little-endian. -/
def xtsDouble (t : Nat) : Nat := if bit t 127 then ((2 * t) % 2 ^ 128) ^^^ 0x87 else 2 * t

/-- AES-256-XTS over whole blocks from tweak t; dec decrypts. -/
def xtsGo (dec : Bool) (k : List Byte) : Nat → Nat → List Byte → List Byte
  | 0, _, _ => []
  | n + 1, t, bs =>
    let w := leBytes t 16
    let b := xorBytes (bs.take 16) w
    xorBytes (if dec then aesDec k b else aesEnc k b) w ++ xtsGo dec k n (xtsDouble t) (bs.drop 16)

/-- AES-256-XTS of a data unit with data keys k1, tweak key k2 and unit number. -/
@[irreducible] def xts (dec : Bool) (k1 k2 : List Byte) (unit : Nat) (bs : List Byte) : List Byte :=
  xtsGo dec k1 (bs.length / 16) (leNat (aesEnc k2 (leBytes unit 16))) bs

/-! ### CRC-32C (R295) -/

/-- Eight steps of the reflected CRC-32C. -/
def crcStep : Nat → Nat → Nat
  | 0, c => c
  | n + 1, c => crcStep n (if c % 2 = 1 then (c / 2) ^^^ 0x82F63B78 else c / 2)

/-- CRC-32C continued over bytes from a value without its final inversion. -/
def crcMore (c : Nat) (bs : List Byte) : Nat := bs.foldl (fun c b => crcStep 8 (c ^^^ b.toNat)) c

/-- CRC-32C of bytes. -/
@[irreducible] def crc32c (bs : List Byte) : Nat := crcMore 0xFFFFFFFF bs ^^^ 0xFFFFFFFF

/-! ### GF(2^64) (R506) -/

/-- Multiplication in GF(2^64) with the polynomial x^64 + x^4 + x^3 + x + 1. -/
def gf64Go : Nat → Nat → Nat → Nat → Nat
  | 0, _, _, z => z
  | n + 1, a, b, z =>
    gf64Go n (if bit a 63 then ((2 * a) % 2 ^ 64) ^^^ 0x1B else 2 * a) (b / 2) (if b % 2 = 1 then z ^^^ a else z)

/-- Multiplication in GF(2^64). -/
@[irreducible] def gf64 (a b : Nat) : Nat := gf64Go 64 a b 0

/-! ### ECDSA over P-384 (R259) -/

/-- The field prime of P-384. -/
def p384 : Nat := 2 ^ 384 - 2 ^ 128 - 2 ^ 96 + 2 ^ 32 - 1
/-- The order of the base point of P-384. -/
def n384 : Nat := 0xffffffffffffffffffffffffffffffffffffffffffffffffc7634d81f4372ddf581a0db248b0a77aecec196accc52973
/-- The constant b of P-384. -/
def b384 : Nat := 0xb3312fa7e23ee7e4988e056be3f82d19181d9c6efe8141120314088f5013875ac656398d8a2ed19d2a85c8edd3ec2aef
/-- The base point's x. -/
def gx384 : Nat := 0xaa87ca22be8b05378eb1c71ef320ad746e1d3b628ba79b9859f741e082542a385502f25dbf55296c3a545e3872760ab7
/-- The base point's y. -/
def gy384 : Nat := 0x3617de4a96262c6f5d9e98bf9292dc29f8f41dbd289a147ce9da3113b5f0b8c00a60b1ce1d7e819d7a431d7c90ea0e5f

/-- a to the power e modulo m, over n bits of e. -/
def powMod (m : Nat) : Nat → Nat → Nat → Nat
  | 0, _, _ => 1
  | n + 1, a, e => (if e % 2 = 1 then a else 1) * powMod m n (a * a % m) (e / 2) % m

/-- The inverse modulo a prime. -/
def invMod (m a : Nat) : Nat := powMod m 384 (a % m) (m - 2)

/-- A point of P-384 in Jacobian coordinates (x = X / Z², y = Y / Z³); Z is 0 at infinity. -/
structure EcPoint where
  x : Nat
  y : Nat
  z : Nat
  deriving DecidableEq, Repr

/-- Twice a point, on a curve whose a is -3. -/
def ecDouble (q : EcPoint) : EcPoint :=
  let d := q.z * q.z % p384
  let g := q.y * q.y % p384
  let b := q.x * g % p384
  let a := 3 * (q.x + p384 - d) * (q.x + d) % p384
  let x := (a * a + 8 * (p384 - b)) % p384
  ⟨x, (a * (4 * b + p384 - x) + 8 * g * (p384 - g)) % p384, 2 * q.y * q.z % p384⟩

/-- The sum of two points. -/
def ecAdd (p q : EcPoint) : EcPoint :=
  if p.z = 0 then q
  else if q.z = 0 then p
  else
    let zp := p.z * p.z % p384
    let zq := q.z * q.z % p384
    let u := p.x * zq % p384
    let h := (q.x * zp + p384 - u) % p384
    let s := p.y * zq * q.z % p384
    let r := (q.y * zp * p.z + p384 - s) % p384
    if h = 0 then (if r = 0 then ecDouble p else ⟨1, 1, 0⟩)
    else
      let hh := h * h % p384
      let hhh := h * hh % p384
      let v := u * hh % p384
      let x := (r * r + (p384 - hhh) + 2 * (p384 - v)) % p384
      ⟨x, (r * (v + p384 - x) + s * (p384 - hhh)) % p384, p.z * q.z * h % p384⟩

/-- The multiple of a point by the lowest n bits of k, added to a point. -/
def ecMul : Nat → Nat → EcPoint → EcPoint → EcPoint
  | 0, _, _, acc => acc
  | n + 1, k, q, acc => ecMul n (k / 2) (ecDouble q) (if k % 2 = 1 then ecAdd acc q else acc)

/-- The x coordinate of a point, none at infinity. -/
def ecX (q : EcPoint) : Option Nat := if q.z = 0 then none else some (q.x * invMod p384 (q.z * q.z) % p384)

/-- Whether (r, s) signs a SHA-384 hash under the public key (x, y). -/
@[irreducible] def ecdsa (x y r s : Nat) (hash : List Byte) : Bool :=
  if x < p384 ∧ y < p384 ∧ y * y % p384 = (x * x * x + (p384 - 3) * x + b384) % p384 ∧
      0 < r ∧ r < n384 ∧ 0 < s ∧ s < n384 then
    let w := invMod n384 s
    match ecX (ecMul 384 (r * w % n384) ⟨x, y, 1⟩ (ecMul 384 (beNat hash * w % n384) ⟨gx384, gy384, 1⟩ ⟨1, 1, 0⟩)) with
    | none => false
    | some v => decide (v % n384 = r)
  else false

end Sys2Proof.Machine.Crypto
end

