-- ==== Sys2Proof/Machine/Events.lean ====
section
/-! DEFINITION. The chronicle event codes' severities and marks, from the chapters' event tables (R95, R257, R307,
R353, R391, R427, R467, R496, R530, R568, R597, R622, R652, R679, R708, R715). -/

namespace Sys2Proof.Machine

/-- The codes of severity Warning. -/
def warningCodes : List Nat :=
  [0x1003, 0x1004, 0x1005, 0x100B, 0x100C, 0x100D, 0x100E, 0x100F, 0x1012, 0x1013, 0x2002, 0x2003, 0x2005, 0x2008,
   0x200E, 0x3003, 0x3005, 0x3007, 0x300A, 0x4004, 0x4007, 0x400C, 0x400D, 0x400F, 0x4802, 0x4804, 0x4812, 0x4813,
   0x4816, 0x5003, 0x5004, 0x5007, 0x5008, 0x500B, 0x500E, 0x600B, 0x7002, 0x7004, 0x7005, 0x7006, 0x7008, 0x7009,
   0x8002, 0x8003, 0x8004, 0x8006, 0x8007, 0x8008, 0x800A, 0x9002, 0x9003, 0x9007, 0x9009, 0x9010, 0xA002, 0xA009,
   0xA00A, 0xA00B, 0xA00F, 0xB001, 0xB013, 0xC003, 0xC004, 0xC006, 0xC00B, 0xD003, 0xD004, 0xD005, 0xD006, 0xD007,
   0xD009, 0xD00C, 0xD00E]

/-- The codes of severity Alarm. 0x9012 is an Alarm for VIN_CORE, VDRAM and VPP only (R715). -/
def alarmCodes : List Nat :=
  [0x1009, 0x1014, 0x1016, 0x2006, 0x2007, 0x200B, 0x2010, 0x2011, 0x3006, 0x3008, 0x4003, 0x4008, 0x400B, 0x4012,
   0x4803, 0x4805, 0x4807, 0x4815, 0x5002, 0x5009, 0x500C, 0x500D, 0x500F, 0x6003, 0x6005, 0x6008, 0x6009, 0x600C,
   0x7003, 0x8009, 0x9005, 0x9006, 0x900A, 0x900B, 0x9011, 0x9012, 0xA004, 0xA006, 0xA007, 0xB003, 0xC007, 0xC008,
   0xC009]

/-- The codes of severity Fatal. -/
def fatalCodes : List Nat :=
  [0x6007, 0x900F, 0xA008, 0xC00A]

/-- The codes marked coalesced (R702). -/
def coalescedCodes : List Nat :=
  [0x1003, 0x200C, 0x200E, 0x3003, 0x3004, 0x3005, 0x3007, 0x300B, 0x4004, 0x4006, 0x4007, 0x400C, 0x4802, 0x4804,
   0x4806, 0x4808, 0x4812, 0x4813, 0x4816, 0x5001, 0x5003, 0x5004, 0x500E, 0x6006, 0x600F, 0x7005, 0x7006, 0x7007,
   0x7009, 0x8007, 0x800A, 0xB012, 0xB013, 0xB015, 0xB017, 0xC007, 0xD006, 0xD00B]

/-- The codes of Trace records. -/
def traceCodes : List Nat :=
  [0xB010, 0xB011]

/-- The severity of an event code: 0 Note, 1 Warning, 2 Alarm, 3 Fatal. -/
def severityOf (code : Nat) : Nat :=
  if fatalCodes.contains code then 3
  else if alarmCodes.contains code then 2
  else if warningCodes.contains code then 1
  else 0

end Sys2Proof.Machine
end

