-- ==== Sys2Proof/Machine/ObjTable.lean ====
section
/-! DEFINITION. The object dictionary's table (R35 to R40): every object of the chapters' object tables, with its type
code (R37), access code (R11), level (R13; 6 Sealed), default (R8), value ranges (check 9 of R41), lengths and the
bits a write may change (R734). -/

namespace Sys2Proof.Machine

/-- The access codes of R11. -/
inductive Access where
  | ro | wo | rw | rwp | const
  deriving DecidableEq, Repr

/-- One row: indices lo to hi and subindices slo to shi share it. dmin and dmax bound an STR's or DOMAIN's length;
ranges lists the values accepted, and is empty where every value is; mask holds the bits a write may change, and is 0
where it may change all. -/
structure ObjRow where
  lo : Nat
  hi : Nat
  slo : Nat
  shi : Nat
  ty : Nat
  acc : Access
  lvl : Nat
  dflt : Nat := 0
  ranges : List (Nat × Nat) := []
  dmin : Nat := 0
  dmax : Nat := 0
  mask : Nat := 0
  deriving DecidableEq, Repr

/-- Objects 0x10xx. -/
def rows10a : List ObjRow :=
  [⟨0x1000, 0x1000, 0, 0, 0x07, .const, 1, 0, [], 0, 0, 0⟩,
   ⟨0x1001, 0x1001, 0, 0, 0x05, .ro, 1, 0, [], 0, 0, 0⟩,
   ⟨0x1008, 0x1008, 0, 0, 0x09, .const, 1, 0, [], 0, 255, 0⟩,
   ⟨0x1009, 0x1009, 0, 0, 0x09, .const, 1, 0, [], 0, 255, 0⟩,
   ⟨0x1018, 0x1018, 0, 0, 0x05, .const, 1, 4, [], 0, 0, 0⟩,
   ⟨0x1018, 0x1018, 1, 1, 0x07, .const, 1, 0x5A57, [], 0, 0, 0⟩,
   ⟨0x1018, 0x1018, 2, 2, 0x07, .const, 1, 0x5C08, [], 0, 0, 0⟩,
   ⟨0x1018, 0x1018, 3, 3, 0x07, .const, 1, 2, [], 0, 0, 0⟩,
   ⟨0x1018, 0x1018, 4, 4, 0x07, .const, 1, 0, [], 0, 0, 0⟩,
   ⟨0x1019, 0x1019, 0, 0, 0x05, .const, 1, 4, [], 0, 0, 0⟩,
   ⟨0x1019, 0x1019, 1, 1, 0x05, .const, 1, 0, [], 0, 0, 0⟩,
   ⟨0x1019, 0x1019, 2, 2, 0x05, .const, 1, 0, [], 0, 0, 0⟩,
   ⟨0x1019, 0x1019, 3, 3, 0x09, .const, 1, 0, [], 0, 255, 0⟩,
   ⟨0x1019, 0x1019, 4, 4, 0x05, .ro, 1, 0, [], 0, 0, 0⟩,
   ⟨0x1030, 0x1031, 0, 0, 0x05, .const, 1, 8, [], 0, 0, 0⟩,
   ⟨0x1030, 0x1031, 1, 1, 0x1B, .const, 1, 0, [], 0, 0, 0⟩,
   ⟨0x1030, 0x1031, 2, 2, 0x07, .rw, 4, 0, [], 0, 0, 0⟩,
   ⟨0x1030, 0x1031, 3, 3, 0x07, .rw, 4, 0, [], 0, 0, 0⟩,
   ⟨0x1030, 0x1031, 4, 4, 0x07, .rw, 4, 0, [], 0, 0, 0⟩,
   ⟨0x1030, 0x1031, 5, 5, 0x06, .rw, 4, 0x1CFC, [], 0, 0, 0⟩,
   ⟨0x1030, 0x1031, 6, 6, 0x06, .rw, 4, 0x88B5, [], 0, 0, 0⟩,
   ⟨0x1030, 0x1031, 7, 7, 0x05, .rw, 4, 5, [(0, 7)], 0, 0, 0⟩,
   ⟨0x1030, 0x1031, 8, 8, 0x05, .ro, 1, 0, [], 0, 0, 0⟩,
   ⟨0x1040, 0x1040, 0, 0, 0x05, .const, 1, 6, [], 0, 0, 0⟩,
   ⟨0x1040, 0x1040, 1, 1, 0x01, .rw, 4, 0, [], 0, 0, 0⟩,
   ⟨0x1040, 0x1040, 2, 2, 0x05, .rw, 4, 127, [(1, 127)], 0, 0, 0⟩,
   ⟨0x1040, 0x1040, 3, 3, 0x07, .rw, 4, 0x7A120, [(0x1E848, 0xF4240)], 0, 0, 0⟩,
   ⟨0x1040, 0x1040, 4, 4, 0x07, .rw, 4, 0x1E8480, [(0, 0x7A1200)], 0, 0, 0⟩,
   ⟨0x1040, 0x1040, 5, 5, 0x05, .rw, 4, 1, [(1, 2)], 0, 0, 0⟩,
   ⟨0x1040, 0x1040, 6, 6, 0x05, .ro, 1, 0, [], 0, 0, 0⟩,
   ⟨0x1050, 0x1050, 0, 0, 0x05, .const, 1, 3, [], 0, 0, 0⟩,
   ⟨0x1050, 0x1050, 1, 1, 0x1B, .rw, 4, 0, [], 0, 0, 0xFFFFFFFFFFFF⟩,
   ⟨0x1050, 0x1050, 2, 2, 0x05, .rw, 4, 2, [(1, 2)], 0, 0, 0⟩,
   ⟨0x1050, 0x1050, 3, 3, 0x01, .rw, 4, 1, [], 0, 0, 0⟩,
   ⟨0x1060, 0x1060, 0, 0, 0x05, .const, 1, 12, [], 0, 0, 0⟩,
   ⟨0x1060, 0x1060, 1, 1, 0x01, .rw, 2, 0, [], 0, 0, 0⟩,
   ⟨0x1060, 0x1060, 2, 2, 0x06, .rw, 4, 32, [(1, 0x7D00)], 0, 0, 0⟩,
   ⟨0x1060, 0x1060, 3, 3, 0x06, .ro, 1, 0, [], 0, 0, 0⟩,
   ⟨0x1060, 0x1060, 4, 4, 0x06, .ro, 1, 0, [], 0, 0, 0⟩,
   ⟨0x1060, 0x1060, 5, 5, 0x07, .rw, 4, 0, [], 0, 0, 0⟩,
   ⟨0x1060, 0x1060, 6, 6, 0x07, .rw, 4, 0, [], 0, 0, 0⟩,
   ⟨0x1060, 0x1060, 7, 7, 0x05, .rw, 4, 3, [(1, 255)], 0, 0, 0⟩,
   ⟨0x1060, 0x1060, 8, 8, 0x1B, .rw, 4, 0, [], 0, 0, 0xFFFFFFFFFFFF⟩,
   ⟨0x1060, 0x1060, 9, 9, 0x1B, .rw, 4, 0, [], 0, 0, 0xFFFFFFFFFFFF⟩,
   ⟨0x1060, 0x1060, 10, 10, 0x05, .rw, 4, 6, [(0, 7)], 0, 0, 0⟩,
   ⟨0x1060, 0x1060, 11, 11, 0x01, .rw, 4, 0, [], 0, 0, 0⟩,
   ⟨0x1060, 0x1060, 12, 12, 0x07, .ro, 2, 0, [], 0, 0, 0⟩,
   ⟨0x1061, 0x1062, 0, 0, 0x05, .rw, 4, 0, [], 0, 0, 0⟩,
   ⟨0x1061, 0x1062, 1, 255, 0x07, .rw, 4, 0, [], 0, 0, 0⟩,
   ⟨0x1070, 0x1071, 0, 0, 0x05, .const, 1, 128, [], 0, 0, 0⟩]

/-- Objects 0x10xx. -/
def rows10b : List ObjRow :=
  [⟨0x1070, 0x1071, 1, 128, 0x1B, .ro, 2, 0, [], 0, 0, 0⟩,
   ⟨0x1080, 0x1080, 0, 0, 0x05, .const, 1, 5, [], 0, 0, 0⟩,
   ⟨0x1080, 0x1080, 1, 1, 0x07, .rw, 4, 0xF4240, [(0x7A12, 0x3B9ACA00)], 0, 0, 0⟩,
   ⟨0x1080, 0x1080, 2, 2, 0x0F, .rw, 4, 0, [], 0, 16777216, 0⟩,
   ⟨0x1080, 0x1080, 3, 3, 0x05, .rw, 4, 0, [], 0, 0, 0⟩,
   ⟨0x1080, 0x1080, 4, 4, 0x01, .rw, 4, 0, [], 0, 0, 0⟩,
   ⟨0x1080, 0x1080, 5, 5, 0x05, .rw, 4, 32, [(2, 32)], 0, 0, 0⟩]

/-- Objects 0x11xx. -/
def rows11 : List ObjRow :=
  [⟨0x1100, 0x1100, 0, 0, 0x05, .const, 1, 16, [], 0, 0, 0⟩,
   ⟨0x1100, 0x1100, 1, 16, 0x07, .ro, 2, 0, [], 0, 0, 0⟩,
   ⟨0x1101, 0x1101, 0, 0, 0x05, .const, 1, 3, [], 0, 0, 0⟩,
   ⟨0x1101, 0x1101, 1, 1, 0x06, .rw, 4, 60, [(1, 3600)], 0, 0, 0⟩,
   ⟨0x1101, 0x1101, 2, 2, 0x05, .rw, 4, 5, [(1, 32)], 0, 0, 0⟩,
   ⟨0x1101, 0x1101, 3, 3, 0x06, .rw, 4, 60, [(1, 3600)], 0, 0, 0⟩,
   ⟨0x1110, 0x1110, 0, 0, 0x05, .rwp, 4, 15, [], 0, 0, 23⟩,
   ⟨0x1120, 0x1120, 0, 0, 0x05, .const, 1, 5, [], 0, 0, 0⟩,
   ⟨0x1120, 0x1120, 1, 4, 0x0F, .wo, 4, 0, [], 40, 40, 0⟩,
   ⟨0x1120, 0x1120, 5, 5, 0x05, .ro, 2, 0, [], 0, 0, 0⟩]

/-- Objects 0x60xx. -/
def rows60 : List ObjRow :=
  [⟨0x6000, 0x6000, 0, 0, 0x05, .const, 1, 5, [], 0, 0, 0⟩,
   ⟨0x6000, 0x6000, 1, 1, 0x05, .ro, 1, 0, [], 0, 0, 0⟩,
   ⟨0x6000, 0x6000, 2, 2, 0x05, .ro, 1, 0, [], 0, 0, 0⟩,
   ⟨0x6000, 0x6000, 3, 3, 0x05, .ro, 1, 0, [], 0, 0, 0⟩,
   ⟨0x6000, 0x6000, 4, 4, 0x1B, .ro, 1, 0, [], 0, 0, 0⟩,
   ⟨0x6000, 0x6000, 5, 5, 0x05, .ro, 1, 0, [], 0, 0, 0⟩,
   ⟨0x6001, 0x6001, 0, 0, 0x05, .wo, 2, 0, [(1, 7)], 0, 0, 0⟩,
   ⟨0x6002, 0x6002, 0, 0, 0x05, .const, 1, 5, [], 0, 0, 0⟩,
   ⟨0x6002, 0x6002, 1, 1, 0x01, .rwp, 4, 0, [], 0, 0, 0⟩,
   ⟨0x6002, 0x6002, 2, 2, 0x1B, .rw, 2, 0, [], 0, 0, 0⟩,
   ⟨0x6002, 0x6002, 3, 3, 0x01, .rw, 4, 1, [], 0, 0, 0⟩,
   ⟨0x6002, 0x6002, 4, 4, 0x01, .rwp, 4, 1, [], 0, 0, 0⟩,
   ⟨0x6002, 0x6002, 5, 5, 0x1B, .rw, 4, 0, [], 0, 0, 0⟩]

/-- Objects 0x61xx. -/
def rows61a : List ObjRow :=
  [⟨0x6100, 0x6100, 0, 0, 0x05, .const, 1, 8, [], 0, 0, 0⟩,
   ⟨0x6100, 0x6100, 1, 1, 0x07, .ro, 1, 0, [], 0, 0, 0⟩,
   ⟨0x6100, 0x6100, 2, 2, 0x05, .ro, 1, 0, [], 0, 0, 0⟩,
   ⟨0x6100, 0x6100, 3, 3, 0x05, .ro, 1, 0, [], 0, 0, 0⟩,
   ⟨0x6100, 0x6100, 4, 4, 0x05, .ro, 2, 0, [], 0, 0, 0⟩,
   ⟨0x6100, 0x6100, 5, 5, 0x05, .ro, 2, 0, [], 0, 0, 0⟩,
   ⟨0x6100, 0x6100, 6, 6, 0x05, .ro, 2, 0, [], 0, 0, 0⟩,
   ⟨0x6100, 0x6100, 7, 7, 0x1B, .ro, 2, 0, [], 0, 0, 0⟩,
   ⟨0x6100, 0x6100, 8, 8, 0x07, .ro, 2, 0, [], 0, 0, 0⟩,
   ⟨0x6101, 0x6101, 0, 0, 0x05, .const, 1, 3, [], 0, 0, 0⟩,
   ⟨0x6101, 0x6101, 1, 1, 0x0F, .wo, 4, 0, [], 0, 16777216, 0⟩,
   ⟨0x6101, 0x6101, 2, 2, 0x05, .ro, 2, 0, [], 0, 0, 0⟩,
   ⟨0x6101, 0x6101, 3, 3, 0x1B, .ro, 2, 0, [], 0, 0, 0⟩,
   ⟨0x6110, 0x6110, 0, 0, 0x05, .const, 1, 2, [], 0, 0, 0⟩,
   ⟨0x6110, 0x6110, 1, 1, 0x0F, .rw, 4, 0, [], 32, 32, 0⟩,
   ⟨0x6110, 0x6110, 2, 2, 0x05, .ro, 1, 0, [], 0, 0, 0⟩,
   ⟨0x6120, 0x6120, 0, 0, 0x05, .const, 1, 6, [], 0, 0, 0⟩,
   ⟨0x6120, 0x6120, 1, 1, 0x1B, .rw, 4, 0x8C0000000, [], 0, 0, 0⟩,
   ⟨0x6120, 0x6120, 2, 2, 0x1B, .rw, 4, 0x40000000, [], 0, 0, 0⟩,
   ⟨0x6120, 0x6120, 3, 3, 0x05, .ro, 2, 0, [], 0, 0, 0⟩,
   ⟨0x6120, 0x6120, 4, 4, 0x1B, .ro, 2, 0, [], 0, 0, 0⟩,
   ⟨0x6120, 0x6120, 5, 5, 0x05, .rw, 4, 255, [(0, 63), (255, 255)], 0, 0, 0⟩,
   ⟨0x6120, 0x6120, 6, 6, 0x0F, .wo, 4, 0, [], 0, 16777216, 0⟩,
   ⟨0x6121, 0x6121, 0, 0, 0x05, .const, 1, 64, [], 0, 0, 0⟩,
   ⟨0x6121, 0x6121, 1, 64, 0x1B, .ro, 2, 0, [], 0, 0, 0⟩,
   ⟨0x6130, 0x6130, 0, 0, 0x05, .const, 1, 4, [], 0, 0, 0⟩,
   ⟨0x6130, 0x6130, 1, 1, 0x05, .wo, 2, 0, [(0, 63)], 0, 0, 0⟩,
   ⟨0x6130, 0x6130, 2, 2, 0x05, .ro, 2, 0, [], 0, 0, 0⟩,
   ⟨0x6130, 0x6130, 3, 3, 0x05, .ro, 2, 0, [], 0, 0, 0⟩,
   ⟨0x6130, 0x6130, 4, 4, 0x05, .wo, 2, 0, [(1, 2)], 0, 0, 0⟩,
   ⟨0x6140, 0x6140, 0, 0, 0x05, .const, 1, 7, [], 0, 0, 0⟩,
   ⟨0x6140, 0x6140, 1, 1, 0x06, .ro, 2, 0, [], 0, 0, 0⟩,
   ⟨0x6140, 0x6140, 2, 2, 0x07, .ro, 2, 0, [], 0, 0, 0⟩,
   ⟨0x6140, 0x6140, 3, 3, 0x07, .ro, 2, 0, [], 0, 0, 0⟩,
   ⟨0x6140, 0x6140, 4, 4, 0x1B, .ro, 2, 0, [], 0, 0, 0⟩,
   ⟨0x6140, 0x6140, 5, 5, 0x05, .ro, 2, 0, [], 0, 0, 0⟩,
   ⟨0x6140, 0x6140, 6, 6, 0x1B, .ro, 2, 0, [], 0, 0, 0⟩,
   ⟨0x6140, 0x6140, 7, 7, 0x1B, .ro, 2, 0, [], 0, 0, 0⟩,
   ⟨0x6150, 0x6150, 0, 0, 0x05, .const, 1, 48, [], 0, 0, 0⟩,
   ⟨0x6150, 0x6150, 1, 48, 0x05, .rwp, 4, 0, [(0, 7)], 0, 0, 0⟩,
   ⟨0x6151, 0x6151, 0, 0, 0x05, .const, 1, 8, [], 0, 0, 0⟩,
   ⟨0x6151, 0x6151, 1, 1, 0x0F, .const, 1, 0, [], 48, 48, 0⟩,
   ⟨0x6151, 0x6151, 2, 7, 0x0F, .rw, 4, 0, [], 48, 48, 0⟩,
   ⟨0x6151, 0x6151, 8, 8, 0x0F, .rw, 4, 0, [], 48, 48, 0⟩,
   ⟨0x6160, 0x6160, 0, 0, 0x05, .const, 1, 7, [], 0, 0, 0⟩,
   ⟨0x6160, 0x6160, 1, 1, 0x05, .ro, 2, 0, [], 0, 0, 0⟩,
   ⟨0x6160, 0x6160, 2, 2, 0x0F, .wo, 4, 0, [], 40, 40, 0⟩,
   ⟨0x6160, 0x6160, 3, 3, 0x0F, .wo, 4, 0, [], 40, 40, 0⟩,
   ⟨0x6160, 0x6160, 4, 4, 0x05, .wo, 4, 0, [(1, 1)], 0, 0, 0⟩,
   ⟨0x6160, 0x6160, 5, 5, 0x07, .ro, 2, 0, [], 0, 0, 0⟩]

/-- Objects 0x61xx. -/
def rows61b : List ObjRow :=
  [⟨0x6160, 0x6160, 6, 6, 0x07, .ro, 2, 0, [], 0, 0, 0⟩,
   ⟨0x6160, 0x6160, 7, 7, 0x05, .wo, 4, 0, [(1, 2)], 0, 0, 0⟩,
   ⟨0x6170, 0x6170, 0, 0, 0x05, .const, 1, 5, [], 0, 0, 0⟩,
   ⟨0x6170, 0x6170, 1, 1, 0x05, .ro, 1, 0, [], 0, 0, 0⟩,
   ⟨0x6170, 0x6170, 2, 2, 0x05, .ro, 2, 1, [], 0, 0, 0⟩,
   ⟨0x6170, 0x6170, 3, 3, 0x01, .rw, 4, 0, [], 0, 0, 0⟩,
   ⟨0x6170, 0x6170, 4, 4, 0x07, .rw, 4, 2000, [(10, 0xEA60)], 0, 0, 0⟩,
   ⟨0x6170, 0x6170, 5, 5, 0x05, .wo, 4, 0, [(1, 1)], 0, 0, 0⟩,
   ⟨0x6171, 0x6171, 0, 0, 0x05, .const, 1, 16, [], 0, 0, 0⟩,
   ⟨0x6171, 0x6171, 1, 16, 0x07, .ro, 2, 0, [], 0, 0, 0⟩]

/-- Objects 0x62xx. -/
def rows62 : List ObjRow :=
  [⟨0x6200, 0x6200, 0, 0, 0x05, .const, 1, 48, [], 0, 0, 0⟩,
   ⟨0x6200, 0x6200, 1, 48, 0x07, .ro, 2, 0, [], 0, 0, 0⟩,
   ⟨0x6210, 0x621F, 0, 0, 0x05, .const, 1, 9, [], 0, 0, 0⟩,
   ⟨0x6210, 0x621F, 1, 1, 0x1B, .rwp, 4, 0, [], 0, 0, 0xFFFFFFFFFFFFFFFF⟩,
   ⟨0x6210, 0x621F, 2, 2, 0x05, .rwp, 4, 2, [(0, 7)], 0, 0, 0⟩,
   ⟨0x6210, 0x621F, 3, 3, 0x05, .rwp, 4, 255, [(0, 47), (255, 255)], 0, 0, 0⟩,
   ⟨0x6210, 0x621F, 4, 4, 0x05, .rwp, 4, 255, [(0, 7), (255, 255)], 0, 0, 0⟩,
   ⟨0x6210, 0x621F, 5, 5, 0x05, .rwp, 4, 0, [], 0, 0, 3⟩,
   ⟨0x6210, 0x621F, 6, 6, 0x07, .rw, 4, 2000, [(100, 0xF4240)], 0, 0, 0⟩,
   ⟨0x6210, 0x621F, 7, 7, 0x05, .ro, 2, 0, [], 0, 0, 0⟩,
   ⟨0x6210, 0x621F, 8, 8, 0x05, .ro, 2, 0, [], 0, 0, 0⟩,
   ⟨0x6210, 0x621F, 9, 9, 0x1B, .ro, 2, 0, [], 0, 0, 0⟩,
   ⟨0x6220, 0x6220, 0, 0, 0x05, .const, 1, 2, [], 0, 0, 0⟩,
   ⟨0x6220, 0x6220, 1, 1, 0x0F, .wo, 2, 0, [], 16, 16, 0⟩,
   ⟨0x6220, 0x6220, 2, 2, 0x07, .ro, 2, 0, [], 0, 0, 0⟩,
   ⟨0x6221, 0x6221, 0, 0, 0x05, .const, 1, 16, [], 0, 0, 0⟩,
   ⟨0x6221, 0x6221, 1, 16, 0x1B, .ro, 1, 0, [], 0, 0, 0⟩,
   ⟨0x6230, 0x6230, 0, 0, 0x05, .const, 1, 1, [], 0, 0, 0⟩,
   ⟨0x6230, 0x6230, 1, 1, 0x1B, .wo, 4, 0, [], 0, 0, 0⟩]

/-- Objects 0x63xx. -/
def rows63 : List ObjRow :=
  [⟨0x6300, 0x6300, 0, 0, 0x05, .const, 1, 48, [], 0, 0, 0⟩,
   ⟨0x6300, 0x6300, 1, 48, 0x1B, .ro, 1, 0, [], 0, 0, 0⟩,
   ⟨0x6301, 0x6301, 0, 0, 0x05, .const, 1, 48, [], 0, 0, 0⟩,
   ⟨0x6301, 0x6301, 1, 48, 0x05, .ro, 2, 0, [], 0, 0, 0⟩,
   ⟨0x6302, 0x6302, 0, 0, 0x05, .const, 1, 1, [], 0, 0, 0⟩,
   ⟨0x6302, 0x6302, 1, 1, 0x06, .wo, 3, 0, [], 0, 0, 0⟩,
   ⟨0x6310, 0x6310, 0, 0, 0x05, .const, 1, 9, [], 0, 0, 0⟩,
   ⟨0x6310, 0x6310, 1, 8, 0x05, .rw, 4, 2, [], 0, 0, 15⟩,
   ⟨0x6310, 0x6310, 9, 9, 0x01, .ro, 1, 1, [], 0, 0, 0⟩,
   ⟨0x6320, 0x6320, 0, 0, 0x05, .const, 1, 4, [], 0, 0, 0⟩,
   ⟨0x6320, 0x6320, 1, 1, 0x07, .ro, 2, 0, [], 0, 0, 0⟩,
   ⟨0x6320, 0x6320, 2, 2, 0x07, .ro, 2, 0, [], 0, 0, 0⟩,
   ⟨0x6320, 0x6320, 3, 3, 0x07, .ro, 2, 0, [], 0, 0, 0⟩,
   ⟨0x6320, 0x6320, 4, 4, 0x07, .ro, 2, 0, [], 0, 0, 0⟩,
   ⟨0x6330, 0x6330, 0, 0, 0x05, .const, 1, 48, [], 0, 0, 0⟩,
   ⟨0x6330, 0x6330, 1, 48, 0x1B, .ro, 2, 0, [], 0, 0, 0⟩,
   ⟨0x6340, 0x6340, 0, 0, 0x05, .const, 1, 4, [], 0, 0, 0⟩,
   ⟨0x6340, 0x6340, 1, 1, 0x07, .rw, 3, 0, [(0, 0xBFFFFFFF)], 0, 0, 0xFFFE0000⟩,
   ⟨0x6340, 0x6340, 2, 2, 0x05, .wo, 3, 0, [(1, 1)], 0, 0, 0⟩,
   ⟨0x6340, 0x6340, 3, 3, 0x05, .ro, 3, 0, [], 0, 0, 0⟩,
   ⟨0x6340, 0x6340, 4, 4, 0x0F, .ro, 3, 0, [], 0, 16777216, 0⟩,
   ⟨0x6350, 0x6350, 0, 0, 0x05, .const, 1, 8, [], 0, 0, 0⟩,
   ⟨0x6350, 0x6350, 1, 1, 0x1B, .rw, 3, 0, [], 0, 0, 0⟩,
   ⟨0x6350, 0x6350, 2, 2, 0x05, .rw, 3, 2, [(0, 7)], 0, 0, 0⟩,
   ⟨0x6350, 0x6350, 3, 3, 0x05, .rw, 3, 1, [(1, 2)], 0, 0, 0⟩,
   ⟨0x6350, 0x6350, 4, 4, 0x1B, .rw, 3, 0, [], 0, 0, 0⟩,
   ⟨0x6350, 0x6350, 5, 5, 0x05, .wo, 3, 0, [(1, 3)], 0, 0, 0⟩,
   ⟨0x6350, 0x6350, 6, 6, 0x05, .ro, 3, 0, [], 0, 0, 0⟩,
   ⟨0x6350, 0x6350, 7, 7, 0x1B, .ro, 3, 0, [], 0, 0, 0⟩,
   ⟨0x6350, 0x6350, 8, 8, 0x06, .ro, 3, 0, [], 0, 0, 0⟩,
   ⟨0x6351, 0x6351, 0, 0, 0x05, .const, 1, 48, [], 0, 0, 0⟩,
   ⟨0x6351, 0x6351, 1, 48, 0x0F, .ro, 3, 0, [], 65536, 65536, 0⟩]

/-- Objects 0x64xx. -/
def rows64 : List ObjRow :=
  [⟨0x6400, 0x6400, 0, 0, 0x05, .const, 1, 4, [], 0, 0, 0⟩,
   ⟨0x6400, 0x6400, 1, 1, 0x05, .ro, 1, 15, [], 0, 0, 0⟩,
   ⟨0x6400, 0x6400, 2, 2, 0x07, .rw, 4, 0x186A0, [(1000, 0x989680)], 0, 0, 0⟩,
   ⟨0x6400, 0x6400, 3, 3, 0x07, .ro, 2, 0, [], 0, 0, 0⟩,
   ⟨0x6400, 0x6400, 4, 4, 0x07, .ro, 2, 0, [], 0, 0, 0⟩,
   ⟨0x6410, 0x6410, 0, 0, 0x05, .const, 1, 64, [], 0, 0, 0⟩,
   ⟨0x6410, 0x6410, 1, 64, 0x1B, .rw, 4, 0, [], 0, 0, 0xA0FF3F000000FFFF⟩,
   ⟨0x6420, 0x6420, 0, 0, 0x05, .const, 1, 3, [], 0, 0, 0⟩,
   ⟨0x6420, 0x6420, 1, 1, 0x05, .rw, 2, 0, [], 0, 0, 0⟩,
   ⟨0x6420, 0x6420, 2, 2, 0x07, .rw, 2, 1000, [(10, 0xF4240)], 0, 0, 0⟩,
   ⟨0x6420, 0x6420, 3, 3, 0x05, .wo, 2, 0, [(1, 2)], 0, 0, 0⟩,
   ⟨0x6421, 0x6421, 0, 0, 0x05, .const, 1, 9, [], 0, 0, 0⟩,
   ⟨0x6421, 0x6421, 1, 1, 0x07, .ro, 2, 0xFFFFFFFF, [], 0, 0, 0⟩,
   ⟨0x6421, 0x6421, 2, 2, 0x07, .ro, 2, 0, [], 0, 0, 0⟩,
   ⟨0x6421, 0x6421, 3, 3, 0x0F, .ro, 2, 0, [], 64, 64, 0⟩,
   ⟨0x6421, 0x6421, 4, 4, 0x05, .ro, 2, 0, [], 0, 0, 0⟩,
   ⟨0x6421, 0x6421, 5, 5, 0x1B, .ro, 2, 0, [], 0, 0, 0⟩,
   ⟨0x6421, 0x6421, 6, 6, 0x1B, .ro, 2, 0, [], 0, 0, 0⟩,
   ⟨0x6421, 0x6421, 7, 7, 0x05, .ro, 2, 0, [], 0, 0, 0⟩,
   ⟨0x6421, 0x6421, 8, 8, 0x07, .ro, 2, 0, [], 0, 0, 0⟩,
   ⟨0x6421, 0x6421, 9, 9, 0x07, .ro, 2, 0, [], 0, 0, 0⟩,
   ⟨0x6430, 0x6430, 0, 0, 0x05, .const, 1, 16, [], 0, 0, 0⟩,
   ⟨0x6430, 0x6430, 1, 16, 0x07, .ro, 2, 0, [], 0, 0, 0⟩,
   ⟨0x6431, 0x6431, 0, 0, 0x05, .const, 1, 2, [], 0, 0, 0⟩,
   ⟨0x6431, 0x6431, 1, 1, 0x0F, .wo, 2, 0, [], 9, 9, 0⟩,
   ⟨0x6431, 0x6431, 2, 2, 0x06, .wo, 2, 0, [], 0, 0, 0⟩]

/-- Objects 0x65xx. -/
def rows65 : List ObjRow :=
  [⟨0x6500, 0x6500, 0, 0, 0x05, .const, 1, 4, [], 0, 0, 0⟩,
   ⟨0x6500, 0x6500, 1, 1, 0x06, .ro, 1, 0xFFFF, [], 0, 0, 0⟩,
   ⟨0x6500, 0x6500, 2, 2, 0x06, .ro, 2, 0, [], 0, 0, 0⟩,
   ⟨0x6500, 0x6500, 3, 3, 0x0F, .ro, 2, 0, [], 32, 32, 0⟩,
   ⟨0x6500, 0x6500, 4, 4, 0x07, .ro, 2, 0, [], 0, 0, 0⟩,
   ⟨0x6501, 0x6501, 0, 0, 0x05, .const, 1, 2, [], 0, 0, 0⟩,
   ⟨0x6501, 0x6501, 1, 1, 0x06, .wo, 2, 0, [], 0, 0, 0⟩,
   ⟨0x6501, 0x6501, 2, 2, 0x06, .wo, 3, 0, [], 0, 0, 0⟩,
   ⟨0x6510, 0x6510, 0, 0, 0x05, .const, 1, 32, [], 0, 0, 0⟩,
   ⟨0x6510, 0x6510, 1, 32, 0x05, .ro, 1, 0, [], 0, 0, 0⟩,
   ⟨0x6511, 0x6511, 0, 0, 0x05, .const, 1, 3, [], 0, 0, 0⟩,
   ⟨0x6511, 0x6511, 1, 1, 0x07, .rw, 4, 0x3FFFFFFF, [], 0, 0, 0⟩,
   ⟨0x6511, 0x6511, 2, 2, 0x07, .rw, 4, 100, [(10, 0x186A0)], 0, 0, 0⟩,
   ⟨0x6511, 0x6511, 3, 3, 0x1B, .ro, 3, 0, [], 0, 0, 0⟩,
   ⟨0x6512, 0x6512, 0, 0, 0x05, .const, 1, 2, [], 0, 0, 0⟩,
   ⟨0x6512, 0x6512, 1, 1, 0x07, .ro, 2, 0x40000000, [], 0, 0, 0⟩,
   ⟨0x6512, 0x6512, 2, 2, 0x07, .ro, 2, 0x40000000, [], 0, 0, 0⟩,
   ⟨0x6520, 0x652F, 0, 0, 0x05, .const, 1, 9, [], 0, 0, 0⟩,
   ⟨0x6520, 0x652F, 1, 1, 0x01, .rw, 2, 0, [], 0, 0, 0⟩,
   ⟨0x6520, 0x652F, 2, 2, 0x07, .rw, 2, 0, [], 0, 0, 0⟩,
   ⟨0x6520, 0x652F, 3, 3, 0x07, .rw, 2, 0, [], 0, 0, 0⟩,
   ⟨0x6520, 0x652F, 4, 4, 0x05, .rw, 2, 0, [(0, 1)], 0, 0, 0⟩,
   ⟨0x6520, 0x652F, 5, 5, 0x07, .ro, 2, 0, [], 0, 0, 0⟩,
   ⟨0x6520, 0x652F, 6, 6, 0x07, .ro, 2, 0, [], 0, 0, 0⟩,
   ⟨0x6520, 0x652F, 7, 7, 0x07, .ro, 2, 0, [], 0, 0, 0⟩,
   ⟨0x6520, 0x652F, 8, 8, 0x07, .ro, 2, 0, [], 0, 0, 0⟩,
   ⟨0x6520, 0x652F, 9, 9, 0x07, .ro, 2, 0, [], 0, 0, 0⟩,
   ⟨0x6530, 0x6530, 0, 0, 0x05, .const, 1, 114, [], 0, 0, 0⟩,
   ⟨0x6530, 0x6530, 1, 114, 0x07, .ro, 2, 0, [], 0, 0, 0⟩,
   ⟨0x6531, 0x6531, 0, 0, 0x05, .wo, 2, 0, [(1, 1)], 0, 0, 0⟩]

/-- Objects 0x66xx. -/
def rows66 : List ObjRow :=
  [⟨0x6600, 0x6600, 0, 0, 0x05, .const, 1, 6, [], 0, 0, 0⟩,
   ⟨0x6600, 0x6600, 1, 1, 0x1B, .ro, 1, 0x900000000, [], 0, 0, 0⟩,
   ⟨0x6600, 0x6600, 2, 2, 0x01, .ro, 1, 1, [], 0, 0, 0⟩,
   ⟨0x6600, 0x6600, 3, 3, 0x05, .ro, 1, 10, [], 0, 0, 0⟩,
   ⟨0x6600, 0x6600, 4, 4, 0x05, .ro, 2, 0, [], 0, 0, 0⟩,
   ⟨0x6600, 0x6600, 5, 5, 0x05, .ro, 2, 0, [], 0, 0, 0⟩,
   ⟨0x6600, 0x6600, 6, 6, 0x05, .ro, 2, 0, [], 0, 0, 0⟩,
   ⟨0x6601, 0x6601, 0, 0, 0x05, .const, 1, 6, [], 0, 0, 0⟩,
   ⟨0x6601, 0x6601, 1, 1, 0x01, .rwp, 4, 1, [], 0, 0, 0⟩,
   ⟨0x6601, 0x6601, 2, 2, 0x07, .rw, 4, 2000, [(200, 0x186A0)], 0, 0, 0⟩,
   ⟨0x6601, 0x6601, 3, 3, 0x05, .rwp, 4, 5, [(1, 25)], 0, 0, 0⟩,
   ⟨0x6601, 0x6601, 4, 4, 0x06, .rwp, 4, 1024, [(64, 2047)], 0, 0, 0⟩,
   ⟨0x6601, 0x6601, 5, 5, 0x05, .const, 1, 48, [], 0, 0, 0⟩,
   ⟨0x6601, 0x6601, 6, 6, 0x05, .const, 1, 16, [], 0, 0, 0⟩,
   ⟨0x6610, 0x6610, 0, 0, 0x05, .const, 1, 32, [], 0, 0, 0⟩,
   ⟨0x6610, 0x6610, 1, 32, 0x07, .ro, 2, 0, [], 0, 0, 0⟩,
   ⟨0x6611, 0x6611, 0, 0, 0x05, .const, 1, 32, [], 0, 0, 0⟩,
   ⟨0x6611, 0x6611, 1, 32, 0x07, .ro, 2, 0, [], 0, 0, 0⟩,
   ⟨0x6620, 0x6620, 0, 0, 0x05, .const, 1, 32, [], 0, 0, 0⟩,
   ⟨0x6620, 0x6620, 1, 32, 0x07, .ro, 2, 0, [], 0, 0, 0⟩,
   ⟨0x6630, 0x6630, 0, 0, 0x05, .const, 1, 4, [], 0, 0, 0⟩,
   ⟨0x6630, 0x6630, 1, 1, 0x07, .ro, 1, 0x7D00, [], 0, 0, 0⟩,
   ⟨0x6630, 0x6630, 2, 2, 0x07, .ro, 1, 0x7D00, [], 0, 0, 0⟩,
   ⟨0x6630, 0x6630, 3, 3, 0x07, .ro, 2, 0, [], 0, 0, 0⟩,
   ⟨0x6630, 0x6630, 4, 4, 0x07, .ro, 2, 0, [], 0, 0, 0⟩,
   ⟨0x6640, 0x6640, 0, 0, 0x05, .const, 1, 2, [], 0, 0, 0⟩,
   ⟨0x6640, 0x6640, 1, 1, 0x06, .wo, 3, 0, [], 0, 0, 0⟩,
   ⟨0x6640, 0x6640, 2, 2, 0x07, .wo, 3, 0, [], 0, 0, 0⟩]

/-- Objects 0x67xx. -/
def rows67 : List ObjRow :=
  [⟨0x6700, 0x6700, 0, 0, 0x05, .const, 1, 5, [], 0, 0, 0⟩,
   ⟨0x6700, 0x6700, 1, 1, 0x01, .rwp, 4, 1, [], 0, 0, 0⟩,
   ⟨0x6700, 0x6700, 2, 2, 0x06, .rwp, 4, 24, [(1, 720)], 0, 0, 0⟩,
   ⟨0x6700, 0x6700, 3, 3, 0x05, .ro, 2, 0, [], 0, 0, 0⟩,
   ⟨0x6700, 0x6700, 4, 4, 0x07, .ro, 2, 0, [], 0, 0, 0⟩,
   ⟨0x6700, 0x6700, 5, 5, 0x06, .ro, 2, 0, [], 0, 0, 0⟩,
   ⟨0x6710, 0x6710, 0, 0, 0x05, .const, 1, 32, [], 0, 0, 0⟩,
   ⟨0x6710, 0x6710, 1, 32, 0x1B, .ro, 2, 0, [], 0, 0, 0⟩,
   ⟨0x6711, 0x6712, 0, 0, 0x05, .const, 1, 128, [], 0, 0, 0⟩,
   ⟨0x6711, 0x6712, 1, 128, 0x1B, .ro, 3, 0, [], 0, 0, 0⟩,
   ⟨0x6720, 0x6720, 0, 0, 0x05, .const, 1, 16, [], 0, 0, 0⟩,
   ⟨0x6720, 0x6720, 1, 16, 0x07, .ro, 2, 0, [], 0, 0, 0⟩,
   ⟨0x6721, 0x6721, 0, 0, 0x05, .const, 1, 32, [], 0, 0, 0⟩,
   ⟨0x6721, 0x6721, 1, 32, 0x07, .ro, 2, 0, [], 0, 0, 0⟩,
   ⟨0x6722, 0x6722, 0, 0, 0x05, .const, 1, 48, [], 0, 0, 0⟩,
   ⟨0x6722, 0x6722, 1, 48, 0x1B, .ro, 2, 0, [], 0, 0, 0⟩,
   ⟨0x6730, 0x6730, 0, 0, 0x05, .const, 1, 5, [], 0, 0, 0⟩,
   ⟨0x6730, 0x6730, 1, 1, 0x05, .wo, 2, 0, [(1, 1)], 0, 0, 0⟩,
   ⟨0x6730, 0x6730, 2, 2, 0x1B, .wo, 2, 0, [], 0, 0, 0⟩,
   ⟨0x6730, 0x6730, 3, 3, 0x05, .ro, 2, 0, [], 0, 0, 0⟩,
   ⟨0x6730, 0x6730, 4, 4, 0x07, .ro, 2, 0, [], 0, 0, 0⟩,
   ⟨0x6730, 0x6730, 5, 5, 0x07, .rw, 4, 0, [(0, 0), (60, 0x15180)], 0, 0, 0⟩,
   ⟨0x6740, 0x6740, 0, 0, 0x05, .const, 1, 2, [], 0, 0, 0⟩,
   ⟨0x6740, 0x6740, 1, 1, 0x07, .ro, 2, 0, [], 0, 0, 0⟩,
   ⟨0x6740, 0x6740, 2, 2, 0x07, .ro, 2, 0, [], 0, 0, 0⟩]

/-- Objects 0x68xx. -/
def rows68 : List ObjRow :=
  [⟨0x6800, 0x6800, 0, 0, 0x05, .const, 1, 4, [], 0, 0, 0⟩,
   ⟨0x6800, 0x6800, 1, 1, 0x06, .ro, 1, 0, [], 0, 0, 0⟩,
   ⟨0x6800, 0x6800, 2, 2, 0x06, .ro, 1, 0, [], 0, 0, 0⟩,
   ⟨0x6800, 0x6800, 3, 3, 0x07, .ro, 2, 0, [], 0, 0, 0⟩,
   ⟨0x6800, 0x6800, 4, 4, 0x06, .ro, 2, 0, [], 0, 0, 0⟩,
   ⟨0x6810, 0x681F, 0, 0, 0x05, .const, 1, 10, [], 0, 0, 0⟩,
   ⟨0x6810, 0x681F, 1, 1, 0x05, .rwp, 4, 0, [(0, 2)], 0, 0, 0⟩,
   ⟨0x6810, 0x681F, 2, 2, 0x1B, .rw, 4, 0, [], 0, 0, 0⟩,
   ⟨0x6810, 0x681F, 3, 3, 0x1B, .rw, 4, 0, [], 0, 0, 0⟩,
   ⟨0x6810, 0x681F, 4, 4, 0x05, .rwp, 4, 0, [(0, 31)], 0, 0, 0⟩,
   ⟨0x6810, 0x681F, 5, 5, 0x1B, .rw, 4, 0, [], 0, 0, 0⟩,
   ⟨0x6810, 0x681F, 6, 6, 0x1B, .ro, 2, 0, [], 0, 0, 0⟩,
   ⟨0x6810, 0x681F, 7, 7, 0x05, .wo, 4, 0, [], 0, 0, 0⟩,
   ⟨0x6810, 0x681F, 8, 8, 0x05, .ro, 2, 0, [], 0, 0, 0⟩,
   ⟨0x6810, 0x681F, 9, 9, 0x05, .ro, 2, 0, [], 0, 0, 0⟩,
   ⟨0x6810, 0x681F, 10, 10, 0x1B, .ro, 3, 0, [], 0, 0, 0⟩,
   ⟨0x6820, 0x6820, 0, 0, 0x05, .const, 1, 2, [], 0, 0, 0⟩,
   ⟨0x6820, 0x6820, 1, 1, 0x0F, .wo, 4, 0, [], 0, 16777216, 0⟩,
   ⟨0x6820, 0x6820, 2, 2, 0x07, .ro, 4, 0, [], 0, 0, 0⟩,
   ⟨0x6821, 0x6821, 0, 0, 0x05, .const, 1, 32, [], 0, 0, 0⟩,
   ⟨0x6821, 0x6821, 1, 32, 0x07, .ro, 2, 0, [], 0, 0, 0⟩,
   ⟨0x6830, 0x6830, 0, 0, 0x05, .const, 1, 6, [], 0, 0, 0⟩,
   ⟨0x6830, 0x6830, 1, 1, 0x07, .ro, 2, 0, [], 0, 0, 0⟩,
   ⟨0x6830, 0x6830, 2, 2, 0x07, .ro, 2, 0, [], 0, 0, 0⟩,
   ⟨0x6830, 0x6830, 3, 3, 0x07, .ro, 2, 0, [], 0, 0, 0⟩,
   ⟨0x6830, 0x6830, 4, 4, 0x05, .ro, 2, 0, [], 0, 0, 0⟩,
   ⟨0x6830, 0x6830, 5, 5, 0x05, .ro, 2, 0, [], 0, 0, 0⟩,
   ⟨0x6830, 0x6830, 6, 6, 0x06, .ro, 2, 0, [], 0, 0, 0⟩,
   ⟨0x6831, 0x6831, 0, 0, 0x05, .const, 1, 32, [], 0, 0, 0⟩,
   ⟨0x6831, 0x6831, 1, 32, 0x1B, .ro, 3, 0, [], 0, 0, 0⟩]

/-- Objects 0x69xx. -/
def rows69 : List ObjRow :=
  [⟨0x6900, 0x6900, 0, 0, 0x05, .const, 1, 7, [], 0, 0, 0⟩,
   ⟨0x6900, 0x6900, 1, 1, 0x1B, .ro, 1, 0, [], 0, 0, 0⟩,
   ⟨0x6900, 0x6900, 2, 2, 0x05, .ro, 1, 0, [], 0, 0, 0⟩,
   ⟨0x6900, 0x6900, 3, 3, 0x15, .ro, 2, 0, [], 0, 0, 0⟩,
   ⟨0x6900, 0x6900, 4, 4, 0x1B, .ro, 2, 0xD5555555, [], 0, 0, 0⟩,
   ⟨0x6900, 0x6900, 5, 5, 0x1B, .ro, 1, 0, [], 0, 0, 0⟩,
   ⟨0x6900, 0x6900, 6, 6, 0x05, .ro, 1, 0, [], 0, 0, 0⟩,
   ⟨0x6900, 0x6900, 7, 7, 0x01, .ro, 2, 1, [], 0, 0, 0⟩,
   ⟨0x6901, 0x6901, 0, 0, 0x05, .const, 1, 14, [], 0, 0, 0⟩,
   ⟨0x6901, 0x6901, 1, 1, 0x05, .rw, 4, 0, [(0, 127)], 0, 0, 0⟩,
   ⟨0x6901, 0x6901, 2, 2, 0x01, .rw, 4, 0, [], 0, 0, 0⟩,
   ⟨0x6901, 0x6901, 3, 3, 0x05, .rw, 4, 246, [], 0, 0, 0⟩,
   ⟨0x6901, 0x6901, 4, 4, 0x05, .rw, 4, 248, [], 0, 0, 0⟩,
   ⟨0x6901, 0x6901, 5, 5, 0x05, .rw, 4, 248, [], 0, 0, 0⟩,
   ⟨0x6901, 0x6901, 6, 6, 0x02, .rw, 4, 253, [(249, 255), (0, 0)], 0, 0, 0⟩,
   ⟨0x6901, 0x6901, 7, 7, 0x07, .rw, 4, 100, [(10, 0x186A0)], 0, 0, 0⟩,
   ⟨0x6901, 0x6901, 8, 8, 0x07, .rw, 4, 1000, [(100, 0xF4240)], 0, 0, 0⟩,
   ⟨0x6901, 0x6901, 9, 9, 0x07, .rw, 4, 0x2710, [(1000, 0x5F5E100)], 0, 0, 0⟩,
   ⟨0x6901, 0x6901, 10, 10, 0x06, .rw, 4, 100, [(10, 500)], 0, 0, 0⟩,
   ⟨0x6901, 0x6901, 11, 11, 0x04, .rw, 4, 0, [], 0, 0, 0⟩,
   ⟨0x6901, 0x6901, 12, 12, 0x04, .rw, 4, 0, [], 0, 0, 0⟩,
   ⟨0x6901, 0x6901, 13, 13, 0x04, .rw, 4, 0, [], 0, 0, 0⟩,
   ⟨0x6901, 0x6901, 14, 14, 0x04, .rw, 4, 0, [], 0, 0, 0⟩,
   ⟨0x6902, 0x6902, 0, 0, 0x05, .const, 1, 1, [], 0, 0, 0⟩,
   ⟨0x6902, 0x6902, 1, 1, 0x1B, .wo, 3, 0, [], 0, 0, 0⟩,
   ⟨0x6910, 0x6917, 0, 0, 0x05, .const, 1, 14, [], 0, 0, 0⟩,
   ⟨0x6910, 0x6917, 1, 1, 0x05, .ro, 1, 0, [], 0, 0, 0⟩,
   ⟨0x6910, 0x6917, 2, 2, 0x05, .wo, 2, 0, [(1, 2)], 0, 0, 0⟩,
   ⟨0x6910, 0x6917, 3, 3, 0x05, .rw, 4, 255, [(0, 15), (255, 255)], 0, 0, 0⟩,
   ⟨0x6910, 0x6917, 4, 4, 0x1B, .rw, 4, 0, [], 0, 0, 0⟩,
   ⟨0x6910, 0x6917, 5, 5, 0x01, .rw, 4, 0, [], 0, 0, 0⟩,
   ⟨0x6910, 0x6917, 6, 6, 0x06, .rw, 4, 1000, [(200, 0x2710)], 0, 0, 0⟩,
   ⟨0x6910, 0x6917, 7, 7, 0x07, .rw, 4, 0, [(0, 0x989680)], 0, 0, 0⟩,
   ⟨0x6910, 0x6917, 8, 8, 0x05, .ro, 2, 0, [], 0, 0, 0⟩,
   ⟨0x6910, 0x6917, 9, 9, 0x05, .ro, 2, 0, [], 0, 0, 0⟩,
   ⟨0x6910, 0x6917, 10, 10, 0x07, .ro, 2, 0, [], 0, 0, 0⟩,
   ⟨0x6910, 0x6917, 11, 11, 0x07, .ro, 2, 0, [], 0, 0, 0⟩,
   ⟨0x6910, 0x6917, 12, 12, 0x07, .ro, 2, 0, [], 0, 0, 0⟩,
   ⟨0x6910, 0x6917, 13, 13, 0x07, .ro, 2, 0, [], 0, 0, 0⟩,
   ⟨0x6910, 0x6917, 14, 14, 0x06, .ro, 1, 0, [], 0, 0, 0⟩,
   ⟨0x6920, 0x6925, 0, 0, 0x05, .const, 1, 48, [], 0, 0, 0⟩,
   ⟨0x6920, 0x6925, 1, 48, 0x07, .rwp, 4, 0, [], 0, 0, 0x3FFFFFB⟩,
   ⟨0x6926, 0x6927, 0, 0, 0x05, .const, 1, 40, [], 0, 0, 0⟩,
   ⟨0x6926, 0x6927, 1, 40, 0x07, .rwp, 4, 0, [], 0, 0, 0x3FFFFFB⟩]

/-- Objects 0x6Axx. -/
def rows6A : List ObjRow :=
  [⟨0x6A00, 0x6A2F, 0, 0, 0x05, .const, 1, 12, [], 0, 0, 0⟩,
   ⟨0x6A00, 0x6A2F, 1, 1, 0x07, .rw, 4, 0x2800, [], 0, 0, 0xFFFFFF0⟩,
   ⟨0x6A00, 0x6A2F, 2, 2, 0x1B, .rw, 4, 0, [], 0, 0, 0⟩,
   ⟨0x6A00, 0x6A2F, 3, 3, 0x1B, .rw, 4, 0, [], 0, 0, 0⟩,
   ⟨0x6A00, 0x6A2F, 4, 4, 0x05, .rw, 4, 255, [(0, 15), (255, 255)], 0, 0, 0⟩,
   ⟨0x6A00, 0x6A2F, 5, 5, 0x1B, .rw, 4, 0x7B53C3CBC, [], 0, 0, 0⟩,
   ⟨0x6A00, 0x6A2F, 6, 6, 0x06, .rw, 4, 0, [], 0, 0, 0⟩,
   ⟨0x6A00, 0x6A2F, 7, 7, 0x05, .wo, 2, 0, [(1, 2)], 0, 0, 0⟩,
   ⟨0x6A00, 0x6A2F, 8, 8, 0x05, .ro, 1, 0, [], 0, 0, 0⟩,
   ⟨0x6A00, 0x6A2F, 9, 9, 0x05, .ro, 1, 255, [], 0, 0, 0⟩,
   ⟨0x6A00, 0x6A2F, 10, 10, 0x06, .ro, 2, 0, [], 0, 0, 0⟩,
   ⟨0x6A00, 0x6A2F, 11, 11, 0x07, .ro, 2, 0, [], 0, 0, 0⟩,
   ⟨0x6A00, 0x6A2F, 12, 12, 0x1B, .ro, 2, 0, [], 0, 0, 0⟩,
   ⟨0x6A40, 0x6A4B, 0, 0, 0x05, .const, 1, 2, [], 0, 0, 0⟩,
   ⟨0x6A40, 0x6A4B, 1, 1, 0x05, .rw, 4, 0, [(0, 6)], 0, 0, 0⟩,
   ⟨0x6A40, 0x6A4B, 2, 2, 0x05, .ro, 1, 0, [], 0, 0, 0⟩,
   ⟨0x6A50, 0x6A50, 0, 0, 0x05, .const, 1, 4, [], 0, 0, 0⟩,
   ⟨0x6A50, 0x6A50, 1, 1, 0x05, .rw, 4, 0, [(0, 3)], 0, 0, 0⟩,
   ⟨0x6A50, 0x6A50, 2, 2, 0x05, .rw, 4, 0, [(0, 3)], 0, 0, 0⟩,
   ⟨0x6A50, 0x6A50, 3, 3, 0x06, .ro, 2, 0, [], 0, 0, 0⟩,
   ⟨0x6A50, 0x6A50, 4, 4, 0x06, .ro, 2, 0, [], 0, 0, 0⟩,
   ⟨0x6A60, 0x6A60, 0, 0, 0x05, .const, 1, 9, [], 0, 0, 0⟩,
   ⟨0x6A60, 0x6A60, 1, 1, 0x01, .rw, 4, 0, [], 0, 0, 0⟩,
   ⟨0x6A60, 0x6A60, 2, 2, 0x05, .rw, 4, 255, [(0, 15), (255, 255)], 0, 0, 0⟩,
   ⟨0x6A60, 0x6A60, 3, 3, 0x05, .rw, 4, 255, [(0, 15), (255, 255)], 0, 0, 0⟩,
   ⟨0x6A60, 0x6A60, 4, 4, 0x05, .ro, 1, 0, [], 0, 0, 0⟩,
   ⟨0x6A60, 0x6A60, 5, 5, 0x05, .ro, 1, 0, [], 0, 0, 0⟩,
   ⟨0x6A60, 0x6A60, 6, 6, 0x07, .ro, 2, 0, [], 0, 0, 0⟩,
   ⟨0x6A60, 0x6A60, 7, 7, 0x07, .ro, 2, 0, [], 0, 0, 0⟩,
   ⟨0x6A60, 0x6A60, 8, 8, 0x07, .ro, 2, 0, [], 0, 0, 0⟩,
   ⟨0x6A60, 0x6A60, 9, 9, 0x05, .ro, 2, 0, [], 0, 0, 0⟩]

/-- Objects 0x6Bxx. -/
def rows6B : List ObjRow :=
  [⟨0x6B00, 0x6B00, 0, 0, 0x0F, .ro, 1, 0, [], 46, 46, 0⟩,
   ⟨0x6B01, 0x6B01, 0, 0, 0x05, .const, 1, 6, [], 0, 0, 0⟩,
   ⟨0x6B01, 0x6B01, 1, 1, 0x07, .ro, 1, 0, [], 0, 0, 0⟩,
   ⟨0x6B01, 0x6B01, 2, 2, 0x0F, .ro, 1, 0, [], 16, 16, 0⟩,
   ⟨0x6B01, 0x6B01, 3, 3, 0x07, .ro, 1, 0, [], 0, 0, 0⟩,
   ⟨0x6B01, 0x6B01, 4, 4, 0x07, .ro, 1, 0, [], 0, 0, 0⟩,
   ⟨0x6B01, 0x6B01, 5, 5, 0x06, .ro, 1, 0, [], 0, 0, 0⟩,
   ⟨0x6B01, 0x6B01, 6, 6, 0x07, .ro, 2, 0, [], 0, 0, 0⟩,
   ⟨0x6B02, 0x6B02, 0, 0, 0x05, .const, 1, 7, [], 0, 0, 0⟩,
   ⟨0x6B02, 0x6B02, 1, 1, 0x06, .ro, 1, 0, [], 0, 0, 0⟩,
   ⟨0x6B02, 0x6B02, 2, 2, 0x06, .ro, 1, 0, [], 0, 0, 0⟩,
   ⟨0x6B02, 0x6B02, 3, 3, 0x06, .ro, 1, 0, [], 0, 0, 0⟩,
   ⟨0x6B02, 0x6B02, 4, 4, 0x06, .ro, 1, 0, [], 0, 0, 0⟩,
   ⟨0x6B02, 0x6B02, 5, 5, 0x06, .ro, 1, 0, [], 0, 0, 0⟩,
   ⟨0x6B02, 0x6B02, 6, 6, 0x06, .ro, 1, 0, [], 0, 0, 0⟩,
   ⟨0x6B02, 0x6B02, 7, 7, 0x07, .ro, 2, 0, [], 0, 0, 0⟩,
   ⟨0x6B10, 0x6B10, 0, 0, 0x05, .const, 1, 192, [], 0, 0, 0⟩,
   ⟨0x6B10, 0x6B10, 1, 192, 0x1B, .ro, 1, 0, [], 0, 0, 0⟩,
   ⟨0x6B11, 0x6B11, 0, 0, 0x05, .const, 1, 96, [], 0, 0, 0⟩,
   ⟨0x6B11, 0x6B11, 1, 96, 0x1B, .ro, 1, 0, [], 0, 0, 0⟩,
   ⟨0x6B20, 0x6B20, 0, 0, 0x05, .const, 1, 8, [], 0, 0, 0⟩,
   ⟨0x6B20, 0x6B20, 1, 1, 0x05, .rwp, 4, 95, [(60, 95)], 0, 0, 0⟩,
   ⟨0x6B20, 0x6B20, 2, 2, 0x05, .rwp, 4, 100, [(61, 100)], 0, 0, 0⟩,
   ⟨0x6B20, 0x6B20, 3, 3, 0x05, .rwp, 4, 110, [(62, 110)], 0, 0, 0⟩,
   ⟨0x6B20, 0x6B20, 4, 4, 0x05, .rwp, 4, 85, [(60, 85)], 0, 0, 0⟩,
   ⟨0x6B20, 0x6B20, 5, 5, 0x05, .rwp, 4, 90, [(61, 90)], 0, 0, 0⟩,
   ⟨0x6B20, 0x6B20, 6, 6, 0x05, .rwp, 4, 95, [(62, 95)], 0, 0, 0⟩,
   ⟨0x6B20, 0x6B20, 7, 7, 0x05, .rwp, 4, 5, [(1, 15)], 0, 0, 0⟩,
   ⟨0x6B20, 0x6B20, 8, 8, 0x05, .rwp, 4, 5, [(1, 15)], 0, 0, 0⟩,
   ⟨0x6B30, 0x6B30, 0, 0, 0x05, .const, 1, 3, [], 0, 0, 0⟩,
   ⟨0x6B30, 0x6B30, 1, 1, 0x05, .rw, 4, 0, [(0, 1)], 0, 0, 0⟩,
   ⟨0x6B30, 0x6B30, 2, 2, 0x05, .rw, 2, 0, [(0, 3)], 0, 0, 0⟩,
   ⟨0x6B30, 0x6B30, 3, 3, 0x07, .rw, 4, 2000, [(500, 0xC350)], 0, 0, 0⟩,
   ⟨0x6B31, 0x6B31, 0, 0, 0x05, .const, 1, 3, [], 0, 0, 0⟩,
   ⟨0x6B31, 0x6B31, 1, 1, 0x07, .ro, 2, 0xFFFFFFFF, [], 0, 0, 0⟩,
   ⟨0x6B31, 0x6B31, 2, 2, 0x06, .ro, 2, 0, [], 0, 0, 0⟩,
   ⟨0x6B31, 0x6B31, 3, 3, 0x04, .ro, 2, 0, [], 0, 0, 0⟩,
   ⟨0x6B40, 0x6B40, 0, 0, 0x05, .const, 1, 4, [], 0, 0, 0⟩,
   ⟨0x6B40, 0x6B40, 1, 1, 0x05, .rw, 4, 8, [(2, 30)], 0, 0, 0⟩,
   ⟨0x6B40, 0x6B40, 2, 2, 0x05, .wo, 3, 0, [(1, 1)], 0, 0, 0⟩,
   ⟨0x6B40, 0x6B40, 3, 3, 0x05, .ro, 2, 0, [], 0, 0, 0⟩,
   ⟨0x6B40, 0x6B40, 4, 4, 0x07, .ro, 2, 0, [], 0, 0, 0⟩]

/-- Objects 0x6Cxx. -/
def rows6C : List ObjRow :=
  [⟨0x6C00, 0x6C00, 0, 0, 0x05, .const, 1, 3, [], 0, 0, 0⟩,
   ⟨0x6C00, 0x6C00, 1, 1, 0x05, .ro, 2, 0, [], 0, 0, 0⟩,
   ⟨0x6C00, 0x6C00, 2, 2, 0x07, .ro, 2, 0, [], 0, 0, 0⟩,
   ⟨0x6C00, 0x6C00, 3, 3, 0x05, .ro, 2, 0, [], 0, 0, 0⟩,
   ⟨0x6C01, 0x6C01, 0, 0, 0x05, .const, 1, 5, [], 0, 0, 0⟩,
   ⟨0x6C01, 0x6C01, 1, 1, 0x05, .rw, 3, 0, [(0, 7)], 0, 0, 0⟩,
   ⟨0x6C01, 0x6C01, 2, 2, 0x06, .rw, 3, 0, [], 0, 0, 0⟩,
   ⟨0x6C01, 0x6C01, 3, 3, 0x05, .wo, 3, 0, [(1, 1)], 0, 0, 0⟩,
   ⟨0x6C01, 0x6C01, 4, 4, 0x05, .ro, 3, 0, [], 0, 0, 0⟩,
   ⟨0x6C01, 0x6C01, 5, 5, 0x0F, .ro, 3, 0, [], 64, 64, 0⟩,
   ⟨0x6C10, 0x6C10, 0, 0, 0x05, .const, 1, 48, [], 0, 0, 0⟩,
   ⟨0x6C10, 0x6C10, 1, 48, 0x0F, .ro, 3, 0, [], 64, 64, 0⟩,
   ⟨0x6C11, 0x6C11, 0, 0, 0x05, .const, 1, 4, [], 0, 0, 0⟩,
   ⟨0x6C11, 0x6C11, 1, 4, 0x0F, .ro, 3, 0, [], 24, 24, 0⟩,
   ⟨0x6C20, 0x6C20, 0, 0, 0x05, .const, 1, 3, [], 0, 0, 0⟩,
   ⟨0x6C20, 0x6C20, 1, 1, 0x01, .rwp, 3, 0, [], 0, 0, 0⟩,
   ⟨0x6C20, 0x6C20, 2, 2, 0x01, .ro, 1, 0, [], 0, 0, 0⟩,
   ⟨0x6C20, 0x6C20, 3, 3, 0x05, .wo, 4, 0, [(1, 1)], 0, 0, 0⟩]

/-- Objects 0x6Dxx. -/
def rows6Da : List ObjRow :=
  [⟨0x6D00, 0x6D00, 0, 0, 0x05, .const, 1, 1, [], 0, 0, 0⟩,
   ⟨0x6D00, 0x6D00, 1, 1, 0x01, .rw, 4, 0, [], 0, 0, 0⟩,
   ⟨0x6D10, 0x6D10, 0, 0, 0x05, .const, 1, 5, [], 0, 0, 0⟩,
   ⟨0x6D10, 0x6D10, 1, 1, 0x06, .rw, 2, 0, [], 0, 0, 0⟩,
   ⟨0x6D10, 0x6D10, 2, 2, 0x05, .rw, 2, 0, [], 0, 0, 0⟩,
   ⟨0x6D10, 0x6D10, 3, 3, 0x1B, .rw, 2, 0, [], 0, 0, 0xFFFF0000FFFFFFFF⟩,
   ⟨0x6D10, 0x6D10, 4, 4, 0x1B, .ro, 2, 0, [], 0, 0, 0⟩,
   ⟨0x6D10, 0x6D10, 5, 5, 0x05, .wo, 2, 0, [(1, 2)], 0, 0, 0⟩,
   ⟨0x6D20, 0x6D20, 0, 0, 0x05, .rw, 2, 0, [], 0, 0, 0⟩,
   ⟨0x6D20, 0x6D20, 1, 255, 0x07, .rw, 2, 0, [], 0, 0, 0⟩,
   ⟨0x6D21, 0x6D21, 0, 0, 0x05, .const, 1, 255, [], 0, 0, 0⟩,
   ⟨0x6D21, 0x6D21, 1, 255, 0x1B, .ro, 2, 0, [], 0, 0, 0⟩,
   ⟨0x6D22, 0x6D22, 0, 0, 0x05, .const, 1, 7, [], 0, 0, 0⟩,
   ⟨0x6D22, 0x6D22, 1, 1, 0x1B, .rw, 2, 0, [], 0, 0, 0⟩,
   ⟨0x6D22, 0x6D22, 2, 2, 0x07, .rw, 2, 0, [(0, 0), (50, 0x989680)], 0, 0, 0⟩,
   ⟨0x6D22, 0x6D22, 3, 3, 0x1B, .rw, 2, 0, [], 0, 0, 0⟩,
   ⟨0x6D22, 0x6D22, 4, 4, 0x05, .wo, 2, 0, [(1, 1)], 0, 0, 0⟩,
   ⟨0x6D22, 0x6D22, 5, 5, 0x1B, .ro, 2, 0, [], 0, 0, 0⟩,
   ⟨0x6D22, 0x6D22, 6, 6, 0x07, .ro, 2, 0, [], 0, 0, 0⟩,
   ⟨0x6D22, 0x6D22, 7, 7, 0x07, .ro, 2, 0, [], 0, 0, 0⟩,
   ⟨0x6D30, 0x6D30, 0, 0, 0x05, .const, 1, 9, [], 0, 0, 0⟩,
   ⟨0x6D30, 0x6D30, 1, 1, 0x0F, .rw, 2, 0, [], 16, 16, 0⟩,
   ⟨0x6D30, 0x6D30, 2, 2, 0x05, .rw, 2, 0, [(0, 2)], 0, 0, 0⟩,
   ⟨0x6D30, 0x6D30, 3, 3, 0x07, .rw, 2, 1000, [(1, 0x1000000)], 0, 0, 0⟩,
   ⟨0x6D30, 0x6D30, 4, 4, 0x05, .rw, 2, 0, [(0, 1)], 0, 0, 0⟩,
   ⟨0x6D30, 0x6D30, 5, 5, 0x01, .rw, 2, 0, [], 0, 0, 0⟩,
   ⟨0x6D30, 0x6D30, 6, 6, 0x05, .wo, 2, 0, [(1, 1)], 0, 0, 0⟩,
   ⟨0x6D30, 0x6D30, 7, 7, 0x06, .ro, 2, 0, [], 0, 0, 0⟩,
   ⟨0x6D30, 0x6D30, 8, 8, 0x1B, .ro, 2, 0, [], 0, 0, 0⟩,
   ⟨0x6D30, 0x6D30, 9, 9, 0x0F, .ro, 2, 0, [], 0, 16777216, 0⟩,
   ⟨0x6D40, 0x6D4F, 0, 0, 0x05, .const, 1, 11, [], 0, 0, 0⟩,
   ⟨0x6D40, 0x6D4F, 1, 1, 0x06, .rw, 2, 0, [], 0, 0, 0⟩,
   ⟨0x6D40, 0x6D4F, 2, 2, 0x05, .rw, 2, 0, [], 0, 0, 0⟩,
   ⟨0x6D40, 0x6D4F, 3, 3, 0x06, .rw, 2, 1, [(1, 0xFFFF)], 0, 0, 0⟩,
   ⟨0x6D40, 0x6D4F, 4, 4, 0x0F, .rw, 2, 0, [], 60, 60, 0⟩,
   ⟨0x6D40, 0x6D4F, 5, 5, 0x05, .wo, 2, 0, [(1, 3)], 0, 0, 0⟩,
   ⟨0x6D40, 0x6D4F, 6, 6, 0x05, .ro, 2, 0, [], 0, 0, 0⟩,
   ⟨0x6D40, 0x6D4F, 7, 7, 0x07, .ro, 2, 0xFFFFFFFF, [], 0, 0, 0⟩,
   ⟨0x6D40, 0x6D4F, 8, 8, 0x07, .ro, 2, 0, [], 0, 0, 0⟩,
   ⟨0x6D40, 0x6D4F, 9, 9, 0x0F, .ro, 2, 0, [], 64, 64, 0⟩,
   ⟨0x6D40, 0x6D4F, 10, 10, 0x05, .ro, 2, 0, [], 0, 0, 0⟩,
   ⟨0x6D40, 0x6D4F, 11, 11, 0x1B, .ro, 2, 0, [], 0, 0, 0⟩,
   ⟨0x6D50, 0x6D50, 0, 0, 0x05, .const, 1, 8, [], 0, 0, 0⟩,
   ⟨0x6D50, 0x6D50, 1, 8, 0x06, .rw, 3, 0, [], 0, 0, 0⟩,
   ⟨0x6D60, 0x6D60, 0, 0, 0x05, .const, 1, 5, [], 0, 0, 0⟩,
   ⟨0x6D60, 0x6D60, 1, 1, 0x01, .rw, 4, 1, [], 0, 0, 0⟩,
   ⟨0x6D60, 0x6D60, 2, 2, 0x1B, .rw, 4, 0x8B0000000, [], 0, 0, 0⟩,
   ⟨0x6D60, 0x6D60, 3, 3, 0x1B, .rw, 4, 0x10000000, [], 0, 0, 0⟩,
   ⟨0x6D60, 0x6D60, 4, 4, 0x01, .rw, 2, 0, [], 0, 0, 0⟩,
   ⟨0x6D60, 0x6D60, 5, 5, 0x07, .rw, 4, 1000, [(100, 0xF4240)], 0, 0, 0⟩]

/-- Objects 0x6Dxx. -/
def rows6Db : List ObjRow :=
  [⟨0x6D61, 0x6D61, 0, 0, 0x05, .const, 1, 7, [], 0, 0, 0⟩,
   ⟨0x6D61, 0x6D61, 1, 1, 0x1B, .ro, 1, 0, [], 0, 0, 0⟩,
   ⟨0x6D61, 0x6D61, 2, 2, 0x07, .ro, 1, 0, [], 0, 0, 0⟩,
   ⟨0x6D61, 0x6D61, 3, 3, 0x06, .ro, 2, 0, [], 0, 0, 0⟩,
   ⟨0x6D61, 0x6D61, 4, 4, 0x06, .ro, 2, 0, [], 0, 0, 0⟩,
   ⟨0x6D61, 0x6D61, 5, 5, 0x1B, .ro, 2, 0, [], 0, 0, 0⟩,
   ⟨0x6D61, 0x6D61, 6, 6, 0x1B, .ro, 2, 0, [], 0, 0, 0⟩,
   ⟨0x6D61, 0x6D61, 7, 7, 0x05, .ro, 1, 0, [], 0, 0, 0⟩,
   ⟨0x6D62, 0x6D62, 0, 0, 0x05, .wo, 2, 0, [(1, 1)], 0, 0, 0⟩]

/-- Objects 0x70xx. -/
def rows70 : List ObjRow :=
  [⟨0x7000, 0x7000, 0, 0, 0x05, .const, 1, 6, [], 0, 0, 0⟩,
   ⟨0x7000, 0x7000, 1, 1, 0x01, .const, 1, 0, [], 0, 0, 0⟩,
   ⟨0x7000, 0x7000, 2, 2, 0x05, .ro, 1, 0, [], 0, 0, 0⟩,
   ⟨0x7000, 0x7000, 3, 3, 0x07, .ro, 1, 0, [], 0, 0, 0⟩,
   ⟨0x7000, 0x7000, 4, 4, 0x07, .ro, 1, 0, [], 0, 0, 0⟩,
   ⟨0x7000, 0x7000, 5, 5, 0x05, .ro, 1, 0, [], 0, 0, 0⟩,
   ⟨0x7000, 0x7000, 6, 6, 0x05, .ro, 2, 0, [], 0, 0, 0⟩,
   ⟨0x7001, 0x7001, 0, 0, 0x0F, .wo, 4, 0, [], 88, 88, 0⟩,
   ⟨0x7002, 0x7002, 0, 0, 0x05, .const, 1, 3, [], 0, 0, 0⟩,
   ⟨0x7002, 0x7002, 1, 1, 0x0F, .ro, 1, 0, [], 32, 32, 0⟩,
   ⟨0x7002, 0x7002, 2, 2, 0x09, .ro, 1, 0, [], 0, 255, 0⟩,
   ⟨0x7002, 0x7002, 3, 3, 0x0F, .ro, 1, 0, [], 32, 32, 0⟩,
   ⟨0x7008, 0x7008, 0, 0, 0x0F, .wo, 6, 0, [], 40, 40, 0⟩,
   ⟨0x7010, 0x7010, 0, 0, 0x05, .const, 1, 64, [], 0, 0, 0⟩,
   ⟨0x7010, 0x7010, 1, 48, 0x1B, .ro, 1, 0, [], 0, 0, 0⟩,
   ⟨0x7010, 0x7010, 49, 64, 0x07, .wo, 2, 0, [], 0, 0, 0⟩,
   ⟨0x7020, 0x7021, 0, 0, 0x05, .const, 1, 128, [], 0, 0, 0⟩,
   ⟨0x7020, 0x7021, 1, 128, 0x1B, .ro, 1, 0, [], 0, 0, 0⟩,
   ⟨0x7024, 0x7024, 0, 0, 0x0F, .wo, 6, 0, [], 20, 20, 0⟩,
   ⟨0x7030, 0x7030, 0, 0, 0x05, .const, 1, 2, [], 0, 0, 0⟩,
   ⟨0x7030, 0x7030, 1, 1, 0x06, .rw, 1, 0, [], 0, 0, 0⟩,
   ⟨0x7030, 0x7030, 2, 2, 0x0F, .ro, 1, 0, [], 32, 32, 0⟩,
   ⟨0x7040, 0x7040, 0, 0, 0x05, .const, 1, 8, [], 0, 0, 0⟩,
   ⟨0x7040, 0x7040, 1, 8, 0x07, .ro, 1, 0, [], 0, 0, 0⟩]

/-- The whole table. -/
def objTable : List ObjRow :=
  rows10a ++ rows10b ++ rows11 ++ rows60 ++ rows61a ++ rows61b ++ rows62 ++ rows63 ++ rows64 ++ rows65 ++ rows66 ++ rows67 ++ rows68 ++ rows69 ++ rows6A ++ rows6B ++ rows6C ++ rows6Da ++ rows6Db ++ rows70

/-- Whether a row covers an object. -/
def ObjRow.covers (r : ObjRow) (idx sub : Nat) : Bool :=
  decide (r.lo ≤ idx) && decide (idx ≤ r.hi) && decide (r.slo ≤ sub) && decide (sub ≤ r.shi)

/-- The row of an object, where it exists. -/
def rowOf (idx sub : Nat) : Option ObjRow := objTable.find? fun r => r.covers idx sub

/-- Whether an index exists (check 3 of R41). -/
def indexExists (idx : Nat) : Bool := objTable.any fun r => decide (r.lo ≤ idx) && decide (idx ≤ r.hi)

/-- The size in bytes of a type (R37); 0 for STR and DOMAIN. -/
def tySize (ty : Nat) : Nat :=
  if ty = 0x01 ∨ ty = 0x02 ∨ ty = 0x05 then 1
  else if ty = 0x03 ∨ ty = 0x06 then 2
  else if ty = 0x04 ∨ ty = 0x07 ∨ ty = 0x08 then 4
  else if ty = 0x15 ∨ ty = 0x1B then 8
  else 0

/-- The key of an object. -/
def objKey (idx sub : Nat) : ObjKey := idx * 256 + sub

end Sys2Proof.Machine
end

