-- ==== Sys2Proof/Machine/Ops.lean ====
section
/-! DEFINITION. The shared operations: outputs, free values, time, object storage, chronicle records at their sources. -/

namespace Sys2Proof.Machine

/-- What a command answers. -/
abbrev Res := Host.Outcome State Fault Refusal

/-! ### Outputs and free values -/

/-- The device sends something. -/
def State.emit (s : State) (o : Out) : State := { s with outs := s.outs ++ [o] }

/-- n bytes from the internal random source (log entry 2): free values. -/
def drawBytes (s : State) (n : Nat) : List Byte := (List.range n).map fun i => Config.freeByte (s.freeCtr + i)

/-- The count of free values advanced by n. -/
def State.drew (s : State) (n : Nat) : State := { s with freeCtr := s.freeCtr + n }

/-! ### Time: roots counts periods of the 9.6 GHz root clock (R29, R180); 48 periods are 5 ns -/

/-- Root periods since start. -/
def State.now (s : State) : Nat := s.clk.roots

/-- One of several candidates, where the spec leaves the choice open: the free choice of Config (log entries 15 and 17). -/
def chosen (s : State) : List Nat → Option Nat
  | [] => none
  | [k] => some k
  | l => l[Config.choose l s.now % l.length]?

/-- TAI nanoseconds (R531). -/
def State.tai (s : State) : Nat := s.time.ns.toNat

/-- Nanoseconds, as root periods. -/
def nsRoots (ns : Nat) : Nat := (ns * 48 + 4) / 5

/-- Whether at least ns nanoseconds have passed since root period t. -/
def State.elapsed (s : State) (t ns : Nat) : Bool := decide (ns * 48 ≤ (s.now - t) * 5)

/-- Nanoseconds since root period t. -/
def State.nsSince (s : State) (t : Nat) : Nat := (s.now - t) * 5 / 48

/-- TAI in units of 2^-32 ns at a root period not far from now: the time base counts its addend at every eighth root period
(R531 to R533), and runs on at that rate between. -/
def State.fineTai (s : State) (root : Nat) : Nat :=
  let base := s.time.ns.toNat * 2 ^ 32 + s.time.frac.toNat
  let a := s.time.addend.toNat
  let last := s.now / 8 * 8
  if last ≤ root then base + (root - last) * a / 8 else base - (last - root) * a / 8

/-- The TAI instant of a root period, in ns. -/
def State.taiAt (s : State) (root : Nat) : Nat := s.fineTai root / 2 ^ 32

/-- Whether a TAI instant has come (R183, R214). -/
def State.taiReached (s : State) (tai : Nat) : Bool := decide (tai * 2 ^ 32 ≤ s.fineTai s.now)

/-- The root period of a TAI instant not far from now, at the present addend. -/
def State.rootAt (s : State) (tai : Nat) : Nat :=
  let f := s.fineTai s.now
  let a := s.time.addend.toNat
  if tai * 2 ^ 32 ≤ f then s.now - (f - tai * 2 ^ 32) * 8 / a else s.now + ((tai * 2 ^ 32 - f) * 8 + a - 1) / a

/-! ### Little-endian fields -/

/-- One byte. -/
abbrev u8 (v : Nat) : List Byte := leBytes v 1
/-- Two bytes. -/
abbrev u16 (v : Nat) : List Byte := leBytes v 2
/-- Four bytes. -/
abbrev u32 (v : Nat) : List Byte := leBytes v 4
/-- Eight bytes. -/
abbrev u64 (v : Nat) : List Byte := leBytes v 8

/-! ### Objects: what hosts and streams have written, or the default (R8) -/

/-- The LVCMOS standards of a bank, each with its nominal VCCIO in mV (R546). -/
def lvcmos (b : Nat) : List (Nat × Nat) :=
  if b < 6 then [(0, 1000), (1, 1200), (2, 1500), (3, 1800)] else [(3, 1800), (6, 2500), (7, 3300)]

/-- Whether a measured voltage lies within 5 % of a nominal one. -/
def nearMv (mv nominal : Nat) : Bool := decide (nominal * 95 ≤ mv * 100) && decide (mv * 100 ≤ nominal * 105)

/-- The LVCMOS standard of a bank that suits a measured VCCIO. -/
def stdOf (b mv : Nat) : Option Nat := ((lvcmos b).find? fun p => nearMv mv p.2).map (·.1)

/-- I/O bank b. -/
def State.bank (s : State) (b : Nat) : IoBank := AMap.get {} s.banks b

/-- The default of an IO_PIN entry: the standard found at fuse load, code 0 or 3 where there was none (R546). -/
def pinDefault (s : State) (b : Nat) : Nat := 0x00040080 + (s.bank b).std.getD (if b < 6 then 0 else 3) * 0x100000

/-- The default of CFG_STARTUP_ORDER.order: steps 1 to 4 with gaps of 0. -/
def orderDefault : List Byte := (u64 1 ++ u64 2) ++ (u64 3 ++ u64 4)

/-- The default of an object as bytes (R8). The list that stands for all gates open, DICT_TSN.gate_list's default, is the empty one
(log entry 75). -/
def defaultBytes (s : State) (idx sub : Nat) : List Byte :=
  match rowOf idx sub with
  | none => []
  | some r =>
    if idx = 0x6110 ∧ sub = 1 then orderDefault
    else if idx = 0x6150 ∧ sub = 1 ∧ s.sealed.enabled then u8 7
    else if idx = 0x6151 ∧ sub = 8 ∧ s.sealed.enabled then padTo s.sealed.ownerHash 48
    else if 0x6920 ≤ idx ∧ idx ≤ 0x6927 ∧ sub ≠ 0 then u32 (pinDefault s (idx - 0x6920))
    else if r.ty = 0x0F then zeros r.dmin
    else leBytes r.dflt (tySize r.ty)

/-- The stored form of an object; empty where nothing has been written. -/
def State.stored (s : State) (idx sub : Nat) : ObjVal := AMap.get {} s.obj (objKey idx sub)

/-- The value of an rw, rwp or wo object as bytes. -/
def State.bytesOf (s : State) (idx sub : Nat) : List Byte :=
  if s.stored idx sub = {} then defaultBytes s idx sub else (s.stored idx sub).val

/-- The value of an object as a number. -/
def State.num (s : State) (idx sub : Nat) : Nat := leNat (s.bytesOf idx sub)

/-- Whether an rwp object's stored pair agrees (R46). -/
def State.pairOk (s : State) (idx sub : Nat) : Bool :=
  decide (s.stored idx sub = {}) || decide ((s.stored idx sub).comp = complBytes (s.stored idx sub).val)

/-- The number in use of an rwp object: its default where its pair mismatches (R46, R488). -/
def State.setting (s : State) (idx sub : Nat) : Nat :=
  if s.pairOk idx sub then s.num idx sub else leNat (defaultBytes s idx sub)

/-- Whether an object is of access rwp. -/
def isRwp (idx sub : Nat) : Bool :=
  match rowOf idx sub with
  | some r => decide (r.acc = .rwp)
  | none => false

/-- A value stored, with its complement where the object is rwp (R45). -/
def State.putObj (s : State) (idx sub : Nat) (bs : List Byte) : State :=
  { s with obj := AMap.set {} s.obj (objKey idx sub) ⟨bs, if isRwp idx sub then complBytes bs else []⟩ }

/-- An object returned to its default. -/
def State.resetObj (s : State) (idx sub : Nat) : State :=
  { s with obj := AMap.del s.obj (objKey idx sub) }

/-- A written value with the bits outside the row's mask kept (R734). -/
def keepFields (r : ObjRow) (old new : List Byte) : List Byte :=
  if r.mask = 0 then new
  else leBytes ((leNat old &&& (2 ^ 64 - 1 - r.mask)) ||| (leNat new &&& r.mask)) (tySize r.ty)

/-! ### Modes -/

/-- Whether the dictionary serves requests: from the end of fuse load (R93). -/
def State.available (s : State) : Bool := decide (2 ≤ s.boot.phase)

/-- The device's mode (R623). -/
def State.mode (s : State) : Mode := s.power.mode

/-- Run or Hold. -/
def State.runOrHold (s : State) : Bool := decide (s.mode = .run) || decide (s.mode = .hold)

/-- Run, Hold or Start-up from a step of the start-up order on. -/
def State.runHoldOrFrom (s : State) (stepTaken : Bool) : Bool :=
  s.runOrHold || (decide (s.mode = .startUp) && stepTaken)

/-- The code of a mode (R623). -/
def modeCode : Mode → Nat
  | .startUp => 0 | .run => 1 | .hold => 2 | .stable => 3 | .service => 4 | .safeStop => 5

/-! ### Chronicle records at their source (R697 to R703) -/

/-- The number of ordinary records a source holds. -/
def heldAt (s : State) (src : Nat) : Nat :=
  (s.obs.chron.srcQ.filter fun r => r.source = src ∧ r.severity < 2).length

/-- The flags of DEV_ERROR_REG that a record of a severity and code sets (R92). -/
def errorBits (sev code : Nat) : Byte :=
  if sev < 2 then 0
  else 0x01 ||| (if code / 0x1000 = 0xC then 0x40 else 0) |||
    (if code / 0x1000 = 5 ∨ code / 0x1000 = 6 then 0x20 else 0) ||| (if sev = 3 then 0x80 else 0)

/-- A run of losses at a source with one more record lost (R703). -/
def lossMore (l : Option Loss) (trace : Bool) (tai now : Nat) : Option Loss :=
  match l with
  | none => some ⟨tai, tai, b2n trace, b2n (!trace), now, now⟩
  | some x => some { x with last := tai, traces := satAdd x.traces (b2n trace) maxU32,
                             others := satAdd x.others (b2n (!trace)) 0xFFFF, lastAt := now }

/-- A record joins those held at its source; an ordinary record that finds its 6 places full is lost (R699, R703). -/
def sourceTake (s : State) (r : Rec) (trace : Bool) : State :=
  let c := s.obs.chron
  if r.severity < 2 ∧ 6 ≤ heldAt s r.source then
    { s with obs.chron := { c with loss := AMap.upd none c.loss r.source (fun l => lossMore l trace s.tai s.now)
                                   tracesLost := c.tracesLost + b2n trace, othersLost := c.othersLost + b2n (!trace) } }
  else { s with obs.chron.srcQ := c.srcQ ++ [r] }

/-- ALARM_N and DEV_ERROR_REG at an Alarm or Fatal record's source (R701, R92). -/
def raiseAlarm (s : State) (sev code : Nat) : State :=
  if sev < 2 then s
  else { s with board.alarm := true, obs.errorReg := s.obs.errorReg ||| errorBits sev code }

/-- A record with an explicit severity, flags and time, numbered by its source (R698). -/
def recordAt (s : State) (tai src code sev flags : Nat) (payload : List Byte) : State :=
  let n := AMap.get 0 s.obs.chron.seq src
  let s1 := { s with obs.chron.seq := AMap.set 0 s.obs.chron.seq src ((n + 1) % 65536) }
  raiseAlarm (sourceTake s1 ⟨tai, src, code, n, sev, flags, padTo payload 16⟩ (decide (flags % 2 = 1))) sev code

/-- An event is recorded (R697). -/
def event (s : State) (src code : Nat) (payload : List Byte) : State :=
  recordAt s s.tai src code (severityOf code) 0 payload

/-- A Trace is recorded, while trace_en is set (R684, R693). -/
def traceEvent (s : State) (tai src code : Nat) (payload : List Byte) : State :=
  if s.num 0x6D60 4 = 1 then recordAt s tai src code 0 1 payload else s

/-- Counter c of a block's counters. -/
def ctrKey (src c : Nat) : Nat := src * 16 + c

/-- One block counter that counts n more: overflow past 48 bits (R683), and the milestone of R684 falls due. -/
def counterAdd (s : State) (key : Nat) (n : Nat) : State :=
  let c := AMap.get {} s.obs.counters key
  let v := c.value + n
  let w := v % 2 ^ 48
  let shift := 16 + field c.config.toNat 60 56
  let due := if bit c.config.toNat 61 ∧ c.value / 2 ^ shift ≠ v / 2 ^ shift then c.due ++ [(s.tai, w)] else c.due
  let d := { c with value := w, overflow := c.overflow || decide (2 ^ 48 ≤ v), due := due }
  let s1 := { s with obs.counters := AMap.set {} s.obs.counters key d }
  if 2 ^ 48 ≤ v then event s1 (key / 16) 0xB015 (u8 (key % 16)) else s1

/-- Whether a counter configuration adds an event of a select with a value (R682). -/
def counts (config : Nat) (sel v : Nat) : Bool :=
  decide (field config 55 48 = sel) &&
    (decide (field config 63 62 = 1) || (decide (field config 63 62 = 3) && decide (field config 31 0 ≤ v)))

/-- n events of a select, each of value v, happen in a block (R680 to R682). -/
def counted (s : State) (src sel v n : Nat) : State :=
  if n = 0 then s
  else
    ((s.obs.counters.filter fun kv => kv.1 / 16 = src ∧ counts kv.2.config.toNat sel v).map (·.1)).foldl
      (fun s k => counterAdd s k n) s

/-- The chronicle source of a requester's records (R95). -/
def reqSource : Requester → Nat
  | .session n => 0xD010 + n.val
  | .anonymous => 0xD003
  | .can _ => 0xD002
  | .loader => 0xD020
  | .image => 0xD000

/-- The session number that a requester's records carry in their payload. -/
def reqSession : Requester → Nat
  | .session n => n.val
  | _ => 0xFF

/-! ### Complement faults (R46, R489) -/

/-- A complement fault counted in ECC_COMP (R489); refVal is index × 65,536 + subindex × 256. -/
def countComp (s : State) (idx sub : Nat) : State :=
  { s with ecc.compFaults := satInc s.ecc.compFaults maxU32, ecc.lastRef := idx * 65536 + sub * 256 }

/-- A complement fault recorded as event 0x500C with the object reference. -/
def compEvent (s : State) (idx sub : Nat) : State :=
  event (countComp s idx sub) 0x0044 0x500C (u16 idx ++ u8 sub)

/-- An rwp object compared at its use: a mismatch is recorded, and the object takes its default (R46). -/
def usePair (s : State) (idx sub : Nat) : State := if s.pairOk idx sub then s else compEvent (s.resetObj idx sub) idx sub

/-- A fault that stays in place is noted, so that it is recorded once. -/
def noteFault (s : State) (key : ObjKey) : State := { s with ecc.faulted := s.ecc.faulted ++ [key] }

/-- Session n. -/
def State.session (s : State) (n : Nat) : Session := AMap.get {} s.dict.sessions n

/-- Session n replaced. -/
def State.setSession (s : State) (n : Nat) (x : Session) : State :=
  { s with dict.sessions := AMap.set {} s.dict.sessions n x }

/-- The level at which a requester is served (R43, R49, R72, R283, R78). -/
def levelOf (s : State) : Requester → Nat
  | .session n => (s.session n.val).level
  | .anonymous => 1
  | .can _ => s.dict.can.level
  | .loader => 4
  | .image => 2

/-- Whether a requester holds the sealed right while the seal is open (R14, R52). -/
def sealedRight (s : State) : Requester → Bool
  | .session n => (s.session n.val).sealedRight && s.sealed.isOpen
  | _ => false

end Sys2Proof.Machine
end

