-- ==== Sys2Proof/Machine/Sessions.lean ====
section
/-! DEFINITION. The frames of the dictionary transport (R61, R62, R68), responses and answers (R53, R54, R736), and closing a session,
from whatever cause (R55, R60, R739). -/

namespace Sys2Proof.Machine

/-! ### Abort codes (R94) -/

/-- Segment offset or sequence error. -/
def abSegment : Nat := 0x05030000
/-- Segment timeout. -/
def abSegTimeout : Nat := 0x05040000
/-- Unknown or unsupported service. -/
def abService : Nat := 0x05040001
/-- No resources. -/
def abResources : Nat := 0x05040005
/-- Access not supported on this object. -/
def abAccess : Nat := 0x06010000
/-- Read of a write-only object. -/
def abReadWo : Nat := 0x06010001
/-- Write of a read-only or const object. -/
def abWriteRo : Nat := 0x06010002
/-- Object does not exist. -/
def abNoObject : Nat := 0x06020000
/-- Object cannot be mapped. -/
def abNoMap : Nat := 0x06040041
/-- Mapping exceeds image length. -/
def abMapLength : Nat := 0x06040042
/-- Type or length mismatch. -/
def abLength : Nat := 0x06070010
/-- Subindex does not exist. -/
def abNoSub : Nat := 0x06090011
/-- Value out of range or reserved encoding. -/
def abRange : Nat := 0x06090030
/-- General error. -/
def abGeneral : Nat := 0x08000000
/-- Not possible in the present mode or state. -/
def abState : Nat := 0x08000022
/-- Level too low. -/
def abLevel : Nat := 0x0B000001
/-- Sealed right missing or seal closed. -/
def abSealed : Nat := 0x0B000002
/-- Single-value write to an rwp object. -/
def abSingle : Nat := 0x0B000003
/-- Paired write complement mismatch. -/
def abComplement : Nat := 0x0B000004
/-- No valid session. -/
def abSession : Nat := 0x0B000005
/-- Authentication failed or level locked. -/
def abAuth : Nat := 0x0B000006
/-- Session table full. -/
def abFull : Nat := 0x0B000007
/-- Tap timeout. -/
def abTapTimeout : Nat := 0x0B000008
/-- No tap for this index in the active context. -/
def abNoTap : Nat := 0x0B000009
/-- Object mapped into the receive image. -/
def abMapped : Nat := 0x0B00000A
/-- Object held by a segmented write. -/
def abHeld : Nat := 0x0B00000B
/-- Stored complement mismatch. -/
def abStored : Nat := 0x0B00000C
/-- Sealed command not in the declared list. -/
def abUndeclared : Nat := 0x0B00000D
/-- Sealed change refused. -/
def abStuck : Nat := 0x0B00000E
/-- Level disabled. -/
def abDisabled : Nat := 0x0B00000F

/-- The codes of R94. -/
def abortCodes : List Nat :=
  [abSegment, abSegTimeout, abService, abResources, abAccess, abReadWo, abWriteRo, abNoObject, abNoMap, abMapLength,
   0x06060000, abLength, abNoSub, abRange, abGeneral, abState, abLevel, abSealed, abSingle, abComplement, abSession,
   abAuth, abFull, abTapTimeout, abNoTap, abMapped, abHeld, abStored, abUndeclared, abStuck, abDisabled]

/-! ### Frames -/

/-- The 16 header bytes of a frame (R62). -/
def headerBytes (svc : Nat) (e : Env) : List Byte :=
  u16 e.magic.toNat ++ [e.version, BitVec.ofNat 8 svc, e.session, e.flags] ++ u16 e.transfer.toNat ++
    u32 e.seq.toNat ++ u16 e.length.toNat ++ u16 e.reserved.toNat

/-- The MAC flag of a frame. -/
def hasMac (e : Env) : Bool := bit e.flags.toNat 3
/-- The segment flag of a frame. -/
def isSegment (e : Env) : Bool := bit e.flags.toNat 2
/-- The last flag of a frame. -/
def isLast (e : Env) : Bool := bit e.flags.toNat 1

/-- Check 1 of R41 but for the payload's size: magic, version, and the length fields that agree with the frame. -/
def frameOk (e : Env) (payload : List Byte) : Bool :=
  decide (e.magic = 0x445A) && decide (e.version = 1) && decide (e.length.toNat = payload.length) &&
    decide (payload.length ≤ 1040) && decide (e.mac.length = if hasMac e then 16 else 0)

/-- Whether a frame comes to the dictionary transport: by UDP to udp_port, while the port has an IPv4 address, or as a raw frame
of ethertype (R61). -/
def transportOn (s : State) (e : Env) : Bool :=
  let eth := 0x1030 + e.host.transport.val % 2
  if e.host.transport.val < 2 then decide (s.num eth 2 ≠ 0) && decide (e.dest.toNat = s.num eth 5)
  else decide (e.dest.toNat = s.num eth 6)

/-! ### 802.1CB (R68) -/

/-- A stream of frames that may come by both ports: the sender's address, and 0 UDP, 1 raw, 2 process data. -/
def frerStream (addr kind : Nat) : Nat := addr * 4 + kind

/-- The stream of a transport frame. -/
def envStream (e : Env) : Nat := frerStream e.host.addr (e.host.transport.val / 2)

/-- The vector recovery algorithm on a stream's next number: the recovery that accepts it, or none for a duplicate or a number
outside the history. A stream not heard for 1 s begins afresh (log entry 73). -/
def vectorRecovery (s : State) (x : Option Recovery) (n : BitVec 16) : Option Recovery :=
  let h := s.num 0x1080 5
  match x with
  | none => some ⟨n, 1, s.now⟩
  | some r =>
    let up := (n - r.high).toNat
    let down := (r.high - n).toNat
    if s.elapsed r.at_ 1000000000 then some ⟨n, 1, s.now⟩
    else if 1 ≤ up ∧ up < h then some ⟨n, (r.seen * 2 ^ up + 1) % 2 ^ h, s.now⟩
    else if down < h ∧ r.seen.testBit down = false then some { r with seen := r.seen + 2 ^ down, at_ := s.now }
    else none

/-- Whether a frame of a stream goes on to the device: not a duplicate, while 802.1CB is on. -/
def notDuplicate (s : State) (stream : Nat) (rtag : Option (BitVec 16)) : Bool :=
  match rtag with
  | none => true
  | some n => decide (s.num 0x1080 4 = 0) || (vectorRecovery s (AMap.get none s.dict.recovered stream) n).isSome

/-- The stream's recovery once a frame has gone on. -/
def recovered (s : State) (stream : Nat) (rtag : Option (BitVec 16)) : State :=
  match rtag with
  | none => s
  | some n =>
    if s.num 0x1080 4 = 0 then s
    else
      match vectorRecovery s (AMap.get none s.dict.recovered stream) n with
      | none => s
      | some r => { s with dict.recovered := AMap.set none s.dict.recovered stream (some r) }

/-- A frame sent by a TSN port: while 802.1CB is on it goes out on both, with the next sequence number. -/
def State.sendFrame (s : State) (o : Out) : State :=
  if s.num 0x1080 4 = 0 then s.emit o
  else { (s.emit o).emit (.replicated s.dict.frerTx) with dict.frerTx := (s.dict.frerTx + 1) % 65536 }

/-- The MAC of a frame under a key (R53). -/
def macOf (key : List Byte) (svc : Nat) (e : Env) (payload : List Byte) : List Byte :=
  (Crypto.hmac key (headerBytes svc e ++ payload)).take 16

/-- A session's sequence window with a number accepted, where R54 accepts it. -/
def acceptSeq (x : Session) (seq : BitVec 32) : Option Session :=
  let up := (seq - x.high).toNat
  let down := (x.high - seq).toNat
  if 1 ≤ up ∧ up ≤ 64 then
    some { x with high := seq, seen := ((x.seen <<< up) ||| (1#64 <<< (up - 1))) &&& 0x7FFFFFFFFFFFFFFF }
  else if 1 ≤ down ∧ down ≤ 63 ∧ x.seen.getLsbD (down - 1) = false then
    some { x with seen := x.seen ||| (1#64 <<< (down - 1)) }
  else none

/-- Event 0xD006: a frame discarded for its MAC or sequence number. -/
def badFrame (s : State) (e : Env) : State :=
  event s (0xD010 + e.session.toNat) 0xD006 (u8 e.session.toNat ++ u32 e.seq.toNat)

/-- The response's header as an envelope, to compute its MAC: the service code, session and transfer of the request,
with the response flag (R736). -/
def replyEnv (e : Env) (flags : Byte) (seq : BitVec 32) (payload : List Byte) : Env :=
  ⟨e.host, e.dest, none, 0x445A, 1, e.session, flags, e.transfer, seq, BitVec.ofNat 16 payload.length, 0, []⟩

/-- A response is sent: to an open session with the next sequence number, the first being 1, and a MAC (R53, R54), otherwise
without. Its segment and last flags are 0, whatever the request's (log entry 74). -/
def respond (s : State) (svc : Nat) (e : Env) (payload : List Byte) : State :=
  let n := e.session.toNat
  let x := s.session n
  if n < 16 ∧ x.phase = .opened then
    let seq := x.txSeq + 1
    let r := replyEnv e 0x09 seq payload
    (s.setSession n { x with txSeq := seq }).sendFrame
      (.response e.host (BitVec.ofNat 8 svc) e.session 0x09 e.transfer seq payload (macOf x.ks svc r payload))
  else s.sendFrame (.response e.host (BitVec.ofNat 8 svc) e.session 0x01 e.transfer 0 payload [])

/-! ### Payloads -/

/-- The first 12 bytes of a READ, WRITE or PAIRED WRITE payload (R63). -/
def reqHead (idx : BitVec 16) (sub ty : Byte) (offset length : BitVec 32) : List Byte :=
  u16 idx.toNat ++ [sub, ty] ++ u32 offset.toNat ++ u32 length.toNat

/-- The payload of a WRITE or PAIRED WRITE. -/
def writePayload (w : WriteReq) : List Byte := reqHead w.index w.sub w.ty w.offset w.length ++ w.data

/-- The response payload of a READ, WRITE or PAIRED WRITE: the echoed fields, status, length and data (R736). -/
def replyPayload (idx : BitVec 16) (sub ty : Byte) (status length : Nat) (data : List Byte) : List Byte :=
  u16 idx.toNat ++ [sub, ty] ++ u32 status ++ u32 length ++ data

/-- An answer to a CANopen FD client, from the device's node: the object, the status and the data (R70 to R72). -/
def canAnswer (s : State) (node : Fin 128) (idx : BitVec 16) (sub : Byte) (status : Nat) (data : List Byte) : State :=
  s.emit (.can s.dict.can.node node.val (u16 idx.toNat ++ [sub] ++ u32 status ++ data))

/-- A request at a tap is answered: length is the value's whole length. -/
def answerTap (s : State) (t : TapReq) (status length : Nat) (data : List Byte) : State :=
  match t.env, t.who with
  | some e, _ => respond s (if t.write then 0x11 else 0x10) e (replyPayload t.index t.sub t.ty status length data)
  | none, .can node => canAnswer s node t.index t.sub status data
  | none, _ => s

/-! ### Closing sessions -/

/-- Whether a request is a session's. -/
def ofSession (n : Nat) : Requester → Bool
  | .session k => decide (k.val = n)
  | _ => false

/-- Session n closes: its outstanding transfers end with 0x0B00_0005, its segmented writes are discarded, and event
0xD002 tells the reason (R55). -/
def closeSession (s : State) (n reason : Nat) : State :=
  if (s.session n).phase ≠ .opened then s
  else
    let mine := s.dict.taps.filter fun t => ofSession n t.who
    let s1 := mine.foldl (fun s t => answerTap s t abSession 0 []) s
    let s2 := { s1 with
      dict.taps := s1.dict.taps.filter (fun (t : TapReq) => !ofSession n t.who)
      dict.tapLate := s1.dict.tapLate ++ mine.filter (fun (t : TapReq) => t.forwardedAt.isSome)
      dict.transfers := s1.dict.transfers.filter (fun (t : Transfer) => !ofSession n t.who) }
    event (s2.setSession n {}) (0xD010 + n) 0xD002 (u8 n ++ u8 reason)

/-- Session n closes where it is open, or its number is freed where it awaits its RESPONSE. -/
def endSession (s : State) (n reason : Nat) : State :=
  match (s.session n).phase with
  | .opened => closeSession s n reason
  | .opening => s.setSession n {}
  | .closed => s

/-- Every session of a level closes, and every number held for one is freed (R60). -/
def closeLevel (s : State) (level reason : Nat) : State :=
  (List.range 16).foldl (fun s n => if (s.session n).level = level then endSession s n reason else s) s

/-- A fault of DICT_LEVEL_ENABLE's pair: 0x08 in force, Observer refused, every session but a Builder's closed (R739). -/
def levelFault (s : State) : State :=
  let s1 := compEvent ((s.putObj 0x1110 0 [0x08])) 0x1110 0
  [1, 2, 3, 5].foldl (fun s l => closeLevel s l 3) { s1 with dict.levelFault := true }

end Sys2Proof.Machine
end

