-- ==== Sys2Proof/Machine/Serve.lean ====
section
/-! DEFINITION. Serving a dictionary request: the checks of R41, a write's effect (R42 to R47) and its response. -/

namespace Sys2Proof.Machine

/-- What checks 1 and 2 of R41 make of a frame: discarded, answered with a code, or a request of a requester. -/
inductive Framed where
  | drop (s : State)
  | refuse (s : State) (code : Nat)
  | go (s : State) (who : Requester)
  deriving DecidableEq, Repr

/-- DICT_LEVEL_ENABLE compared at its use: a mismatch takes its fallback first (R46, R739). -/
def levelsUsed (s : State) : State := if s.pairOk 0x1110 0 then s else levelFault s

/-- Checks 1 and 2 of R41 on a frame that came through the ports' 802.1CB recovery; sizeOk says that the payload's size is the service's (R737). -/
def receive (s : State) (svc : Nat) (e : Env) (payload : List Byte) (sizeOk : Bool) : Framed :=
  if ¬ s.available ∨ ¬ transportOn s e ∨ ¬ notDuplicate s (envStream e) e.rtag ∨ ¬ frameOk e payload ∨ ¬ sizeOk then .drop s
  else
  let s := recovered s (envStream e) e.rtag
  if e.session = 0xFF then
    let s1 := levelsUsed s
    if s1.num 0x1110 0 % 2 = 1 then .go (counted s1 0x0000 1 0 1) .anonymous else .refuse s1 abDisabled
  else if h : e.session.toNat < 16 then
    let n : Fin 16 := ⟨e.session.toNat, h⟩
    let x := s.session n.val
    if x.phase ≠ .opened then .refuse s abSession
    else if x.host ≠ e.host then .drop s
    else if ¬ hasMac e ∨ e.mac ≠ macOf x.ks svc e payload then .drop (badFrame s e)
    else
      match acceptSeq x e.seq with
      | none => .drop (badFrame s e)
      | some y => .go (counted (s.setSession n.val { y with lastValid := s.now }) 0x0000 1 0 1) (.session n)
  else .refuse s abSession

/-! ### Writes -/

/-- What a write of one object means beyond the shared checks: the mode and state check (check 6), the value check
(check 9), its effect once its value is stored, from the object's old value to its new one, what its outcome
does where it passed checks 1 to 6, and the value without the reserved bytes that its layout has (R15, R734). -/
structure Action where
  state : State → Requester → List Byte → Option Nat := fun _ _ _ => none
  value : State → Requester → List Byte → Option Nat := fun _ _ _ => none
  apply : State → Requester → List Byte → List Byte → State := fun s _ _ _ => s
  late : State → List Byte → Nat → State := fun s _ _ => s
  clean : List Byte → List Byte := fun v => v
  stores : Bool := true

/-- A value's bytes with those at the reserved places of each entry of n bytes 0 (R15, R734). -/
def cleanEntries (n : Nat) (places : List Nat) (v : List Byte) : List Byte :=
  v.zipIdx.map fun b => if places.contains (b.2 % n) then 0 else b.1

/-- The first refusal among checks in order. -/
def firstOf : List (Option Nat) → Option Nat
  | [] => none
  | some c :: _ => some c
  | none :: rest => firstOf rest

/-- A check: the code where the condition fails. -/
def need (ok : Bool) (code : Nat) : Option Nat := if ok then none else some code

/-- Whether an object is mapped into the receive image (check 6 of R41). -/
def mappedRx (s : State) (idx sub : Nat) : Bool :=
  (List.range (s.num 0x1062 0)).any fun i =>
    let m := s.num 0x1062 (i + 1)
    decide (field m 31 16 = idx) && decide (field m 15 8 = sub)

/-- Whether the block of a chronicle source is powered (R631). -/
def sourceOn (s : State) (src : Nat) : Bool :=
  let n := src % 4096
  match src / 4096 with
  | 1 => decide (AMap.get 2 s.power.domain n = 2)
  | 2 => bit s.noc.quadrants (n / 16)
  | 3 => !(AMap.get {} s.wale.slices n).off
  | 4 => decide (AMap.get 0 s.pan.bank n ≠ 2)
  | 5 => decide (s.mode ≠ .stable)
  | 6 => decide (s.mode ≠ .stable)
  | 7 => decide (s.mode ≠ .stable)
  | 8 => decide (s.mode ≠ .stable) && decide (s.num (0x6A40 + n / 4) 1 ≠ 0)
  | _ => true

/-- Whether the block that holds an object's value is powered and started (R93): a counter's value stands in its block (R685); the
channels' state stands in the DRAM controllers, off in Stable and not started before training (log entry 77). -/
def blockOn (s : State) (idx sub : Nat) : Bool :=
  if idx = 0x6D10 ∧ sub = 4 then sourceOn s (s.num 0x6D10 1)
  else if (idx = 0x6610 ∨ idx = 0x6611 ∨ idx = 0x6620 ∨ idx = 0x6640) ∧ sub ≠ 0 then decide (s.mode ≠ .stable) && s.dram.trained
  else true

/-- Whether a segmented write of another transfer holds an object (R65). -/
def heldByTransfer (s : State) (idx sub : Nat) : Bool :=
  s.dict.transfers.any fun t => decide (t.key = objKey idx sub)

/-- The access, level and sealed checks of a write (checks 4 and 5 of R41). -/
def writeAccess (s : State) (who : Requester) (paired : Bool) (r : ObjRow) : Option Nat :=
  firstOf
    [need (r.acc ≠ .ro ∧ r.acc ≠ .const) abWriteRo,
     need (paired ∨ r.acc ≠ .rwp) abSingle,
     need (¬ paired ∨ r.acc = .rwp) abAccess,
     need (who ≠ .anonymous) abLevel,
     (if r.lvl = 6 then need (sealedRight s who) abSealed else need (r.lvl ≤ levelOf s who) abLevel)]

/-- Whether a decoded value lies in an accepted range (check 9 of R41). -/
def inRanges (rs : List (Nat × Nat)) (v : Nat) : Bool :=
  decide (rs = []) || rs.any fun p => decide (p.1 ≤ v) && decide (v ≤ p.2)

/-- The range check of a row on a value's bytes. -/
def rangeOk (r : ObjRow) (v : List Byte) : Bool :=
  if r.ty = 0x0F ∨ r.ty = 0x09 then true
  else inRanges r.ranges (leNat v) && (decide (r.ty ≠ 0x01) || decide (leNat v ≤ 1))

/-- Whether n bytes are a length that a row accepts (check 7 of R41). -/
def lengthOk (r : ObjRow) (n : Nat) : Bool :=
  if r.ty = 0x0F ∨ r.ty = 0x09 then decide (r.dmin ≤ n) && decide (n ≤ r.dmax) else decide (n = tySize r.ty)

/-- A value as a write stores it: what the object holds stays in the fields of access ro or const, and the reserved ones are 0
(R15, R734). -/
def storedForm (s : State) (r : ObjRow) (idx sub : Nat) (a : Action) (v : List Byte) : List Byte :=
  keepFields r (s.bytesOf idx sub) (a.clean v)

/-- The check at which a write fails, and its abort code. The state and value checks see the value as it would be stored
(R734). A WRITE with the segment flag of an object that is neither STR nor DOMAIN fails check 7 (log entry 74). -/
def writeCheck (s : State) (who : Requester) (paired segmented : Bool) (w : WriteReq) (a : Action) : Option (Nat × Nat) :=
  let idx := w.index.toNat
  let sub := w.sub.toNat
  match rowOf idx sub with
  | none => some (3, if indexExists idx then abNoSub else abNoObject)
  | some r =>
    match writeAccess s who paired r with
    | some c => some (5, c)
    | none =>
      let v := if paired then w.data.take (w.data.length / 2) else w.data
      let f := storedForm s r idx sub a v
      match firstOf [need (blockOn s idx sub) abState, a.state s who f, need (who = .image ∨ ¬ mappedRx s idx sub) abMapped,
                     need (¬ heldByTransfer s idx sub) abHeld] with
      | some c => some (6, c)
      | none =>
        if w.offset ≠ 0 then some (7, abSegment)
        else if w.ty.toNat ≠ r.ty ∨ ¬ lengthOk r w.length.toNat ∨
            (¬ segmented ∧ w.data.length ≠ (if paired then 2 else 1) * w.length.toNat) ∨
            (segmented ∧ (tySize r.ty ≠ 0 ∨ w.length.toNat < w.data.length)) then some (7, abLength)
        else if segmented then none
        else if paired ∧ w.data.drop w.length.toNat ≠ complBytes v then some (8, abComplement)
        else
          match firstOf [need (rangeOk r f) abRange, a.value s who f] with
          | some c => some (9, c)
          | none => none

/-- The records of a successful write to an rwp object (R47): one for 1 to 4 bytes, two for 8. -/
def criticalWritten (s : State) (who : Requester) (idx sub : Nat) (old new : List Byte) : State :=
  let ref := u16 idx ++ u8 sub
  if new.length ≤ 4 then event s (reqSource who) 0xD008 (ref ++ u8 0 ++ padTo old 4 ++ padTo new 4)
  else event (event s (reqSource who) 0xD008 (ref ++ u8 1 ++ padTo old 8)) (reqSource who) 0xD008 (ref ++ u8 2 ++ padTo new 8)

/-- A write that has passed every check takes effect (R42, R45, R47, R734). -/
def applyWrite (s : State) (who : Requester) (idx sub : Nat) (v : List Byte) (a : Action) : State :=
  match rowOf idx sub with
  | none => s
  | some r =>
    let old := s.bytesOf idx sub
    let new := storedForm s r idx sub a v
    let s1 := if a.stores ∧ r.acc ≠ .wo then s.putObj idx sub new else s
    let s2 := if r.acc = .rwp then criticalWritten s1 who idx sub old new else s1
    a.late (a.apply s2 who old new) v 0

/-- A write by a requester: the checks of R41, then its effect; its status. -/
def dictWrite (s : State) (who : Requester) (paired : Bool) (w : WriteReq) (a : Action) : State × Nat :=
  match writeCheck s who paired false w a with
  | some (n, c) =>
    let s1 := if n = 8 then event s (reqSource who) 0xD007 (u8 (reqSession who) ++ u16 w.index.toNat ++ u8 w.sub.toNat) else s
    (if 7 ≤ n then a.late s1 (if paired then w.data.take (w.data.length / 2) else w.data) c else s1, c)
  | none =>
    (applyWrite s who w.index.toNat w.sub.toNat (if paired then w.data.take (w.data.length / 2) else w.data) a, 0)

/-- The transfers a session has in progress: segmented writes and requests at taps (R66). -/
def outstanding (s : State) (n : Fin 16) : Nat :=
  (s.dict.transfers.filter fun t => t.who = .session n).length +
    (s.dict.taps.filter fun t => t.who = .session n).length

/-- Whether a requester that has 8 transfers in progress makes a ninth (R66). -/
def ninth (s : State) : Requester → Bool
  | .session n => decide (8 ≤ outstanding s n)
  | _ => false

/-- A segmented write begins (R64, R65): it holds its object, or is refused. -/
def beginSegmented (s : State) (n : Fin 16) (e : Env) (w : WriteReq) (a : Action) : State × Nat :=
  match writeCheck s (.session n) false true w a with
  | some (k, c) => (if 7 ≤ k then a.late s w.data c else s, c)
  | none =>
    ({ s with dict.transfers := s.dict.transfers ++
        [⟨.session n, e.transfer, objKey w.index.toNat w.sub.toNat, w.ty, w.length.toNat, w.data, s.now⟩] }, 0)

/-- A WRITE or PAIRED WRITE frame of an object whose meaning is given: checked, applied, answered. A session's ninth transfer is
refused after check 2 of R41 (log entry 74). -/
def serveWrite (e : Env) (paired : Bool) (w : WriteReq) (a : Action) (s : State) : State :=
  let svc := if paired then 0x12 else 0x11
  let n := w.data.length
  let reply := fun (s : State) (c : Nat) => respond s svc e (replyPayload w.index w.sub w.ty c 0 [])
  match receive s svc e (writePayload w) (if paired then decide (2 ≤ n) && decide (n ≤ 16) else decide (n ≤ 1024)) with
  | .drop s1 => s1
  | .refuse s1 c => reply s1 c
  | .go s1 who =>
    if ninth s1 who then reply s1 abResources
    else
    match who, isSegment e && !isLast e && !paired with
    | .session k, true => let r := beginSegmented s1 k e w a; reply r.1 r.2
    | _, _ => let r := dictWrite s1 who paired w a; reply r.1 r.2

/-- The write request of a whole value of an object: the type of its row and the value's bytes. -/
def wholeWrite (idx sub : Nat) (v : List Byte) : WriteReq :=
  ⟨BitVec.ofNat 16 idx, BitVec.ofNat 8 sub, BitVec.ofNat 8 ((rowOf idx sub).elim 0 ObjRow.ty), 0,
   BitVec.ofNat 32 v.length, v⟩

/-- The write request of a value with its complement half. -/
def pairWrite (idx sub : Nat) (v c : List Byte) : WriteReq :=
  ⟨BitVec.ofNat 16 idx, BitVec.ofNat 8 sub, BitVec.ofNat 8 ((rowOf idx sub).elim 0 ObjRow.ty), 0,
   BitVec.ofNat 32 v.length, v ++ c⟩

/-- A single-value write frame of an object with a row of its own. -/
def hostWrite (e : Env) (idx sub : Nat) (v : List Byte) (a : Action) (s : State) : Res :=
  .next (serveWrite e false (wholeWrite idx sub v) a s)

/-- A paired write frame of an object with a row of its own. -/
def hostPaired (e : Env) (idx sub : Nat) (v c : List Byte) (a : Action) (s : State) : Res :=
  .next (serveWrite e true (pairWrite idx sub v c) a s)

end Sys2Proof.Machine
end

