-- ==== Sys2Proof/Machine/Planes.lean ====
section
/-! DEFINITION. Planes and their frames (R196 to R205, R287 to R293), fabric clocks and gaits (R180 to R193, R640). -/

namespace Sys2Proof.Machine

/-! ### Unit numbers (R25, R26) -/

/-- The tower of a global sector. -/
def towerOf (g : Nat) : Nat := g / 12

/-- The number of a flip-flop. -/
def ffNum (f : FfId) : Nat :=
  (((f.sector.val * 64 + f.cluster.val) * 256 + f.tile.val) * 16 + f.cell.val) * 2 + f.ff.val

/-- The global sector of a flip-flop's number. -/
def ffSector (n : Nat) : Nat := n / 524288

/-- The global sector of a hop register's number: sector × 16,777,216 + the register's own number within it. -/
def hopSector (n : Nat) : Nat := n / 16777216

/-- The number of a block memory or fabric queue. -/
def unitNum (u : UnitId) : Nat := (u.sector.val * 64 + u.cluster.val) * 4 + u.unit.val

/-- The number of an arithmetic slice. -/
def sliceNum (u : SliceId) : Nat := (u.sector.val * 64 + u.cluster.val) * 8 + u.unit.val

/-! ### Planes -/

/-- Plane p of global sector g. -/
def State.plane (s : State) (g p : Nat) : Plane := AMap.get {} s.planes (g * 8 + p)

/-- The state of a plane. -/
def State.planeSt (s : State) (g p : Nat) : PlaneState := (s.plane g p).state

/-- A plane brought to a state. -/
def State.setPlane (s : State) (g p : Nat) (st : PlaneState) : State :=
  { s with planes := AMap.upd {} s.planes (g * 8 + p) fun x => { x with state := st } }

/-- The plane of a sector in a state, where one is (R204). -/
def State.planeIn (s : State) (g : Nat) (st : PlaneState) : Option Nat :=
  (List.range 8).find? fun p => s.planeSt g p = st

/-- The active plane of a sector. -/
def State.activePlane (s : State) (g : Nat) : Option Nat := s.planeIn g .active

/-- The staged plane of a sector. -/
def State.stagedPlane (s : State) (g : Nat) : Option Nat := s.planeIn g .staged

/-- The code of a plane state (R203). -/
def planeCode : PlaneState → Nat
  | .idle => 0 | .loading => 1 | .valid => 2 | .invalid => 3 | .staged => 4 | .active => 5

/-! ### Frames (R287 to R293): a plane's stored frames by frame address; a frame not written is zero -/

/-- The bytes of a frame of a type (R288); type 2 has no frame of fixed size. -/
def frameSize (ty : Nat) : Nat :=
  match ty with
  | 0 => 320 | 1 => 4 | 3 => 8 | 4 => 4 | 5 => 8 | 6 => 4 | 7 => 64 | _ => 0

/-- How many values the tile field takes for a type (R288). -/
def tileRange (ty : Nat) : Nat :=
  match ty with
  | 0 => 256 | 1 => 256 | 2 => 4 | 3 => 8 | 4 => 4 | 5 => 4 | 6 => 1 | 7 => 1 | _ => 0

/-- The frame address of a plane, global sector, cluster, tile and type (R287). -/
def frameAddr (plane g cluster tile ty : Nat) : Nat :=
  plane * 2 ^ 29 + (g / 12) * 2 ^ 27 + (g % 12) * 2 ^ 23 + cluster * 2 ^ 17 + tile * 2 ^ 9 + ty * 64

/-- The plane of a frame address. -/
def addrPlane (a : Nat) : Nat := field a 31 29
/-- The global sector of a frame address. -/
def addrSector (a : Nat) : Nat := field a 28 27 * 12 + field a 26 23
/-- The cluster of a frame address. -/
def addrCluster (a : Nat) : Nat := field a 22 17
/-- The tile field of a frame address. -/
def addrTile (a : Nat) : Nat := field a 16 9
/-- The frame type of a frame address. -/
def addrType (a : Nat) : Nat := field a 8 6

/-- The settings of a unit in a plane, as one number. -/
def State.settings (s : State) (plane g cluster tile ty : Nat) : Nat :=
  leNat (AMap.get [] s.frames (frameAddr plane g cluster tile ty))

/-- The settings of a unit in its sector's active context; 0 where no context is active. -/
def State.activeSettings (s : State) (g cluster tile ty : Nat) : Nat :=
  match s.activePlane g with
  | some p => s.settings p g cluster tile ty
  | none => 0

/-- The frames of one plane of one sector. -/
def planeFrames (s : State) (g p : Nat) : List (Nat × List Byte) :=
  s.frames.filter fun kv => addrSector kv.1 = g ∧ addrPlane kv.1 = p

/-- Whether a plane's state mode in a sector is kept (R202, R293). -/
def keptMode (s : State) (g p : Nat) : Bool := bit (s.settings p g 0 0 7) 0

/-- The bytes of all frames of types 0 and 3 to 7 of one plane and sector, in the order of R290, each unwritten frame
its size in zeros, continued through a CRC (R298). -/
def crcFrames (s : State) (g p : Nat) : Nat :=
  let step := fun c ty cl t =>
    Crypto.crcMore c (padTo (AMap.get [] s.frames (frameAddr p g cl t ty)) (frameSize ty))
  let one := fun c ty =>
    if ty = 7 then step c 7 0 0
    else (List.range 64).foldl (fun c cl => (List.range (tileRange ty)).foldl (fun c t => step c ty cl t) c) c
  [0, 3, 4, 5, 6, 7].foldl one 0xFFFFFFFF ^^^ 0xFFFFFFFF

/-- The plane CRC of one plane in one sector (R298). -/
@[irreducible] def planeCrc (s : State) (g p : Nat) : Nat := crcFrames s g p

/-! ### Taps (R81, R82, R293) -/

/-- One tap entry of a sector settings frame. -/
structure TapEntry where
  first : Nat
  last : Nat
  readLevel : Nat
  writeLevel : Nat
  cyclic : Bool
  present : Bool
  deriving DecidableEq, Repr

/-- Entry e of the tap table of a plane of a sector. -/
def tapEntry (s : State) (g p e : Nat) : TapEntry :=
  let fr := AMap.get [] s.frames (frameAddr p g 0 0 7)
  let o := 8 + 6 * e
  let lv := natAt fr (o + 4) 1
  let fl := natAt fr (o + 5) 1
  ⟨natAt fr o 2, natAt fr (o + 2) 2, field lv 2 0, field lv 5 3, bit fl 0, bit fl 7⟩

/-- The entries present of a plane of a sector, as tap numbers sector × 8 + entry. -/
def tapsOfPlane (s : State) (g p : Nat) : List (Nat × TapEntry) :=
  ((List.range 8).map fun e => (g * 8 + e, tapEntry s g p e)).filter fun t => t.2.present

/-- The taps in force: those of the active context of each sector (R82). -/
def tapsInForce (s : State) : List (Nat × TapEntry) :=
  (List.range 48).flatMap fun g =>
    match s.activePlane g with
    | some p => tapsOfPlane s g p
    | none => []

/-- The tap in force that covers an index. -/
def tapFor (s : State) (idx : Nat) : Option (Nat × TapEntry) :=
  (tapsInForce s).find? fun t => t.2.first ≤ idx ∧ idx ≤ t.2.last

/-! ### Power and repair of a sector, as other chapters need it -/

/-- The counter of a tap's timeouts: that of the entry in the plane active in its sector (log entry 76). -/
def timeoutKey (tap : Nat) (plane : Option Nat) : Nat := (tap / 8 * 8 + plane.getD 0) * 8 + tap % 8

/-- The state of a logic sector's power domain (R631): 0 off, 2 on. The other domains follow from the modes. -/
def State.domain (s : State) (d : Nat) : Nat := AMap.get 2 s.power.domain d

/-- Whether every fabric clock is stopped now: a change takes effect at its alignment boundary (R626). -/
def State.clkStopped (s : State) : Bool := if s.now < s.clk.changeAt then !s.clk.stopped else s.clk.stopped

/-- Every fabric clock made to stop, or to run, at the next alignment boundary. -/
def State.setStopped (s : State) (b : Bool) : State :=
  { s with clk.stopped := b, clk.changeAt := if s.clkStopped = b then 0 else (s.now + 959) / 960 * 960 }

/-- Whether the logic domain of a global sector is on. -/
def State.sectorOn (s : State) (g : Nat) : Bool := decide (s.domain g = 2)

/-- Whether a cluster is usable (R656). -/
def State.usable (s : State) (g c : Nat) : Bool := !(AMap.get 0 s.test.unusable g).getLsbD c

/-- Whether a base port is down (R173). -/
def State.portIsDown (s : State) (g c : Nat) : Bool := !s.usable g c || (AMap.get 0 s.test.portDown g).getLsbD c

/-- Whether global sector g runs apart from the design, as the sealed sector (R373, R626). -/
def State.isSealedSector (s : State) (g : Nat) : Bool := s.sealed.enabled && decide (g = 0)

/-! ### Fabric clocks (R180 to R193) -/

/-- The divisor of a code (R193); 0 for a reserved code. -/
def divisor (code : Nat) : Nat :=
  match code with
  | 0 => 8 | 1 => 10 | 2 => 12 | 3 => 16 | 4 => 20 | 5 => 24 | 6 => 32 | 7 => 48 | 8 => 64 | 9 => 96 | _ => 0

/-- The divisor in force of FCLKn. -/
def State.clockN (s : State) (n : Nat) : Nat := divisor (AMap.get 2 s.clk.code n)

/-- Whether this instant is an alignment boundary (R181). -/
def State.atBoundary (s : State) : Bool := decide (s.now % 960 = 0)

/-- Whether a gait executes edge k of a fabric clock (R640). -/
def gaitRuns (gait k : Nat) : Bool :=
  match gait with
  | 0 => true
  | 1 => decide (k % 4 ≠ 3)
  | 2 => decide (k % 2 = 0)
  | _ => decide (k % 4 = 0)

/-- The gait in force of a tower. -/
def State.gaitOf (s : State) (t : Nat) : Nat := (AMap.get {} s.power.gaits t).now

/-- Whether every listed tower executes edge k. -/
def edgeRuns (s : State) (towers : List Nat) (k : Nat) : Bool := towers.all fun t => gaitRuns (s.gaitOf t) k

/-- The first edge of a clock of divisor n, executed by every listed tower, at or after a root period. Every fourth
edge is executed at every gait, so four candidates suffice. -/
def firstEdge (s : State) (towers : List Nat) (n fromRoot : Nat) : Nat :=
  let k0 := (fromRoot + n - 1) / n
  match ([k0, k0 + 1, k0 + 2, k0 + 3].find? fun k => edgeRuns s towers k) with
  | some k => k * n
  | none => k0 * n

/-- The m-th such edge strictly after a root period. -/
def nthEdgeAfter (s : State) (towers : List Nat) (n : Nat) : Nat → Nat → Nat
  | 0, r => r
  | m + 1, r => nthEdgeAfter s towers n m (firstEdge s towers n (r + 1))

/-- The links of the under node that may be registered (R161): lateral and vertical. -/
def lateral : List Dir := [.north, .south, .east, .west, .vert]

/-- Which fabric clocks a tile's configuration selects, as a mask: in its control sets and in the registers of its links. -/
def tileClocks (fr : BitVec 2560) : Nat :=
  let sets := [0, 1].map fun h => (Config.controlSet fr h).clock
  let links := [false, true].flatMap fun under => lateral.map (Config.linkClock fr under)
  (sets ++ links).foldl (fun m c => match c with | some n => m ||| 2 ^ n.val | none => m) 0

/-- Which fabric clocks the active context of a sector uses, as a mask (R184): its slices, queues, block memories,
base ports, and its tiles under log entry 5. -/
def clocksUsed (s : State) (g : Nat) : Nat :=
  match s.activePlane g with
  | none => 0
  | some p =>
    (planeFrames s g p).foldl (fun m kv =>
      let v := leNat kv.2
      m ||| (match addrType kv.1 with
        | 0 => if v = 0 then 0 else tileClocks (BitVec.ofNat 2560 v)
        | 3 => if v = 0 then 0 else 2 ^ field v 11 9
        | 4 => if v = 0 then 0 else 2 ^ field v 2 0
        | 5 => if v = 0 then 0 else
            (if field v 9 6 < 8 then 2 ^ field v 9 6 else 0) ||| (if field v 19 16 < 8 then 2 ^ field v 19 16 else 0)
        | 6 => if bit v 0 then 2 ^ field v 3 1 else 0
        | _ => 0)) 0

/-- Whether an active context of a powered sector uses FCLKn, a team's clock among them. -/
def clockInUse (s : State) (n : Nat) : Bool :=
  ((List.range 48).any fun g => s.sectorOn g && bit (clocksUsed s g) n) ||
    ((List.range 16).any fun t =>
      let x : Team := AMap.get {} s.teams t
      decide (x.goodClock = n) &&
        (bitsSet x.goodMembers.toNat 48).any fun g => s.sectorOn g && (s.activePlane g).isSome)

end Sys2Proof.Machine
end

