-- ==== Sys2Proof/Machine/Hitch.lean ====
section
/-! DEFINITION. The hitch link's frames (R590 to R592): sending, acknowledging, receiving and forwarding. -/

namespace Sys2Proof.Machine

/-- The link of the upstream (true) or the downstream chain lane. -/
def State.link (s : State) (up : Bool) : Hitch := if up then s.lanes.hitchUp else s.lanes.hitchDown

/-- A link changed. -/
def State.updLink (s : State) (up : Bool) (f : Hitch → Hitch) : State :=
  if up then { s with lanes.hitchUp := f s.lanes.hitchUp } else { s with lanes.hitchDown := f s.lanes.hitchDown }

/-- The chronicle source of a chain lane's events (R597). -/
def chainLaneSrc (up : Bool) : Nat := if up then 0x8110 else 0x8111

/-- The acknowledgement that a frame sent on a link carries: the last number received in order (R591). -/
def ackNow (h : Hitch) : Option Nat := if h.heard then some ((h.expect + 255) % 256) else none

/-- Whether a frame type is of the first order of R592: POSITION, REPORT, GO, DELAY_REQ, DELAY_RESP. -/
def firstOrder (type : Nat) : Bool := type = 1 || type = 3 || type = 4 || type = 5 || type = 6

/-- The place of the frame that a sender picks next (R592): the first of the first order, else STREAM and REMOTE frames
in turn. -/
def pickFrame (h : Hitch) : Option Nat :=
  match indexOf? (fun x => firstOrder x.type) h.waiting with
  | some i => some i
  | none =>
    match indexOf? (fun x => decide ((x.type ≠ 2) = (h.remoteTurn = true))) h.waiting with
    | some i => some i
    | none => if h.waiting = [] then none else some 0

/-- A link sends what it may: up to 16 frames stand unacknowledged (R591). -/
def pumpLink (up : Bool) : Nat → State → State
  | 0, s => s
  | fuel + 1, s =>
    let h := s.link up
    if ¬ h.up ∨ 16 ≤ h.unacked.length then s
    else
      match pickFrame h with
      | none => s
      | some i =>
        match h.waiting[i]? with
        | none => s
        | some f =>
          let s1 := s.updLink up fun h =>
            { h with waiting := delAt h.waiting i, unacked := h.unacked ++ [(h.nextSeq, f)], nextSeq := (h.nextSeq + 1) % 256
                     remoteTurn := decide (f.type = 2), ackOwed := none
                     sentAt := if h.unacked = [] then s.now else h.sentAt, resends := if h.unacked = [] then 0 else h.resends }
          pumpLink up fuel (s1.emit (.hitch up f.type h.nextSeq (ackNow h) f.dst f.src f.payload))

/-- A link sends as many frames as it may. -/
def pump (s : State) (up : Bool) : State := pumpLink up 16 s

/-- A frame is handed to a link. -/
def hitchSend (s : State) (up : Bool) (type dst : Nat) (payload : List Byte) : State :=
  pump (s.updLink up fun h => { h with waiting := h.waiting ++ [⟨type, dst, s.chain.position, payload⟩] }) up

/-- Chain bytes passed downstream in STREAM frames of up to 1,024 bytes (R348, R590). -/
def chainSend (s : State) (bytes : List Byte) : State :=
  ((List.range ((bytes.length + 1023) / 1024)).map fun i => bytesAt bytes (i * 1024) 1024).foldl
    (fun s p => hitchSend s false 2 0xFF p) { s with chain.lastForwardAt := s.now }

/-- Frames that an acknowledgement covers are freed: all up to the number acknowledged (R591). -/
def takeAck (s : State) (up : Bool) (ack : Nat) : State :=
  let h := s.link up
  match indexOf? (fun x => decide (x.1 = ack)) h.unacked with
  | none => s
  | some i => pump (s.updLink up fun h => { h with unacked := h.unacked.drop (i + 1), resends := 0, sentAt := s.now }) up

/-- A frame as it arrives: none where it is discarded, otherwise the state with its number and acknowledgement taken
(R591). A good frame that is not the next expected is discarded, and the acknowledgement is owed again. -/
def hitchTake (s : State) (f : HFrame) : State × Bool :=
  let h := s.link f.up
  if ¬ h.up ∨ ¬ f.crcOk then (s, false)
  else if f.seq.toNat ≠ h.expect then (s.updLink f.up fun h => { h with ackOwed := some s.now }, false)
  else
    let s1 := s.updLink f.up fun h =>
      { h with expect := (h.expect + 1) % 256, heard := true, ackOwed := some (h.ackOwed.getD s.now) }
    (if f.ackValid then takeAck s1 f.up f.ack.toNat else s1, true)

/-- Whether a frame is for another position, and goes on towards it (R592). -/
def passesOn (s : State) (f : HFrame) : Bool := decide (f.dst.toNat ≠ 0xFF) && decide (f.dst.toNat ≠ s.chain.position)

/-- A frame forwarded towards its position: downstream when that is higher, upstream when it is lower. -/
def passOn (s : State) (f : HFrame) (type : Nat) (payload : List Byte) : State :=
  let up := decide (f.dst.toNat < s.chain.position)
  pump (s.updLink up fun h => { h with waiting := h.waiting ++ [⟨type, f.dst.toNat, f.src.toNat, payload⟩] }) up

/-- A hitch frame's arrival: discarded, passed on, or taken by the meaning given. -/
def hitchFrame (s : State) (f : HFrame) (type : Nat) (payload : List Byte) (take : State → State) : State :=
  let r := hitchTake s f
  if ¬ r.2 then r.1
  else if passesOn r.1 f then passOn r.1 f type payload
  else take r.1

/-- ACK: an acknowledgement frame, which takes no number of its own (R591). -/
def execAck (f : HFrame) (s : State) : Res :=
  .next (if (s.link f.up).up ∧ f.crcOk ∧ f.ackValid then takeAck s f.up f.ack.toNat else s)

/-- HITCH_ACK_DUE: an acknowledgement still owed goes out in an ACK frame, within 2 µs (R591). -/
def execHitchAckDue (up : Bool) (s : State) : Res :=
  let h := s.link up
  .next (if h.up ∧ h.ackOwed.isSome then
    (s.updLink up fun h => { h with ackOwed := none }).emit (.hitch up 9 h.nextSeq (ackNow h) 0xFF s.chain.position [])
  else s)

/-- A link taken down: event 0x8009, and its lane brings up again from step 1 (R591, R581). -/
def linkDown (s : State) (up : Bool) (seq : Nat) : State :=
  let s1 := s.updLink up fun h => { h with up := false, resends := 0 }
  let s2 := { s1 with lanes.lanes := AMap.upd {} s1.lanes.lanes (if up then 50 else 51) fun l =>
    { l with state := 1, step := 1, stepAt := s.now, rate := 0xFF, lost := 0 } }
  event s2 (chainLaneSrc up) 0x8009 (u8 (if up then 0x80 else 0x81) ++ u8 seq)

/-- HITCH_RESEND: 5 µs without acknowledgement of the oldest frame; every frame from it on is sent again, and after 16
resends the link goes down (R591). -/
def execHitchResend (up : Bool) (s : State) : Res :=
  let h := s.link up
  match h.unacked with
  | [] => .next s
  | (q, _) :: _ =>
    if ¬ h.up ∨ ¬ s.elapsed h.sentAt 5000 then .next s
    else if 16 ≤ h.resends then .next (linkDown s up q)
    else
      let s1 := h.unacked.foldl (fun s x => s.emit (.hitch up x.2.type x.1 (ackNow h) x.2.dst x.2.src x.2.payload)) s
      let s2 := s1.updLink up fun h => { h with sentAt := s.now, resends := h.resends + 1, ackOwed := none }
      .next { s2 with lanes.resends := satAdd s2.lanes.resends h.unacked.length maxU32 }

end Sys2Proof.Machine
end

