-- ==== Sys2Proof/Machine/Fabric.lean ====
section
/-! DEFINITION. Block memories, arithmetic slices, fabric queues and their readback (03), the cell's functions, fabric clocks and
seams (04): rows ARITH_ACCUMULATE to FCLK_DIVISOR_CHANGE. -/

namespace Sys2Proof.Machine

/-! ### The edges of one instant (R181) -/

/-- Whether a sector's fabric clocks are stopped: with every clock, from which the sealed partition's sector is exempt in
Hold and Stable, or by its team's hold (R240, R621, R626). -/
def clocksStopped (s : State) (g : Nat) : Bool :=
  (s.clkStopped && !(s.isSealedSector g && s.mode ≠ .service && s.mode ≠ .safeStop)) ||
    (List.range 16).any fun t =>
      let x : Team := AMap.get {} s.teams t
      x.held && decide (x.heldFrom ≤ s.now) && x.goodMembers.getLsbD g

/-- Whether the fabric clocks run in a sector: powered, clocks started and not stopped (R192). -/
def sectorRuns (s : State) (g : Nat) : Bool := s.sectorOn g && s.clk.started && !clocksStopped s g

/-- Whether a sector's tower executes the edge of FCLKn that this instant, or the latest before it, is at (R329, R640, R642). -/
def edgeExecuted (s : State) (n g root : Nat) : Bool :=
  s.isSealedSector g || gaitRuns (s.gaitOf (towerOf g)) (root / s.clockN n)

/-- Whether this instant is an edge of FCLKn (R181), rising, or falling half a period on. -/
def clockEdge (s : State) (n : Nat) (rising : Bool) : Bool :=
  decide (s.now % s.clockN n = if rising then 0 else s.clockN n / 2)

/-- Whether a sector's units take a rising edge of FCLKn now (R192). -/
def unitClocked (s : State) (n g : Nat) : Bool := sectorRuns s g && clockEdge s n true && edgeExecuted s n g s.now

/-- Whether a sector's elements take this rising edge of FCLKn: as its units, once released from set/reset. -/
def sectorClocked (s : State) (n g : Nat) : Bool := unitClocked s n g && s.boot.srReleased

/-- The fabric as it stands before the edges of this instant is kept, so that every element that takes one sees it. -/
def State.opened (s : State) : State :=
  if s.edge.at_ = s.now + 1 then s else { s with edge := { at_ := s.now + 1, before := s.fab, planes := s.planes } }

/-- The state under the contexts that this instant's edges end: the planes as they were before a switch at it (R141). -/
def State.outgoing (s : State) : State := if s.edge.at_ = s.now + 1 then { s with planes := s.edge.planes } else s

/-- The settings under which a unit acts at this instant (R141). -/
def State.settingsNow (s : State) (g cluster tile ty : Nat) : Nat := s.outgoing.activeSettings g cluster tile ty

/-- Whether an element has taken its edge of this instant. -/
def State.edgeDone (s : State) (e : Elem) : Bool := decide (s.edge.at_ = s.now + 1) && s.edge.done.contains e

/-- An element has taken its edge of this instant. -/
def State.edgeTaken (s : State) (e : Elem) : State := { s with edge.done := e :: s.edge.done }

/-! ### Block memories (R110 to R126, R151, R152) -/

/-- An aspect's data bits, parity bits and byte enables (R110). -/
def aspectBits (a : Nat) : Nat × Nat × Nat :=
  match a with
  | 0 => (1, 0, 1) | 1 => (2, 0, 1) | 2 => (4, 0, 1) | 3 => (8, 1, 1) | 4 => (16, 2, 2) | 5 => (32, 4, 4) | _ => (64, 8, 8)

/-- An aspect's address bits (R110). -/
def aspectAddr (a : Nat) : Nat :=
  match a with
  | 0 => 15 | 1 => 14 | 2 => 13 | 3 => 12 | 4 => 11 | 5 => 10 | _ => 9

/-- The stored row, 64 data bits below 8 parity bits, and the place in it that word a of an aspect takes (R111):
row, first data bit, first parity bit. -/
def wordPlace (asp a : Nat) : Nat × Nat × Nat :=
  let (w, v, _) := aspectBits asp
  (a * w / 64, a * w % 64, 64 + (if v = 0 then 0 else a * v % 8))

/-- The word of an aspect read from a row, as the port's bus carries it: data, then parity (R112). -/
def readWord (asp a : Nat) (row : BitVec 72) : Nat :=
  let (w, v, _) := aspectBits asp
  let (_, d, p) := wordPlace asp a
  row.toNat / 2 ^ d % 2 ^ w + 2 ^ w * (row.toNat / 2 ^ p % 2 ^ v)

/-- Whether the number of set bits among the lowest n of v is odd. -/
def oddParity (v n : Nat) : Bool := decide (popCount v n % 2 = 1)

/-- The mask and value of the row's bits that a write of bus value din under byte enables we sets; even parity is
generated where ev is set (R112, R120, R122). -/
def writeMask (asp a we din : Nat) (ev : Bool) : Nat × Nat :=
  let (w, v, n) := aspectBits asp
  let (_, d, p) := wordPlace asp a
  if w < 8 then (if bit we 0 then ((2 ^ w - 1) * 2 ^ d, din % 2 ^ w * 2 ^ d) else (0, 0))
  else
    (List.range n).foldl (fun acc b =>
      if bit we b then
        let byte := din / 2 ^ (8 * b) % 256
        let par := if ev then b2n (oddParity byte 8) else din / 2 ^ (w + b) % 2
        (acc.1 ||| (255 * 2 ^ (d + 8 * b)) ||| (if v = 0 then 0 else 2 ^ (p + b)),
         acc.2 ||| (byte * 2 ^ (d + 8 * b)) ||| (if v = 0 then 0 else par * 2 ^ (p + b)))
      else acc) (0, 0)

/-- A row with masked bits replaced. -/
def mergeRow (row : BitVec 72) (m v : Nat) : BitVec 72 :=
  (row &&& ~~~(BitVec.ofNat 72 m)) ||| (BitVec.ofNat 72 v &&& BitVec.ofNat 72 m)

/-- The candidates for a column of the check matrix: the bytes with three or five bits set (log entry 3). -/
def secdedColumns : List Nat := (List.range 256).filter fun v => popCount v 8 = 3 ∨ popCount v 8 = 5

/-- The check bits of a 64-bit word (R120): columns of odd weight, all different and none of weight one, make a code that corrects
one error and detects two. -/
def secded (d : BitVec 64) : BitVec 8 :=
  (List.range 64).foldl (fun c i =>
    if d.getLsbD i then c ^^^ BitVec.ofNat 8 (secdedColumns.getD ((Config.secdedStart + i) % 112) 0) else c) 0

/-- A 72-bit word checked under secded (R121): the data and check bits returned, and 0 no error, 2 ecc_fixed,
4 ecc_fail. -/
def secdedRead (row : BitVec 72) : BitVec 72 × Nat :=
  let ok := fun (r : BitVec 72) => decide (r.extractLsb' 64 8 = secded (r.extractLsb' 0 64))
  if ok row then (row, 0)
  else
    match (List.range 72).find? fun i => ok (row ^^^ BitVec.ofNat 72 (2 ^ i)) with
    | some i => (row ^^^ BitVec.ofNat 72 (2 ^ i), 2)
    | none => (row, 4)

/-- A port's settings within the frame of type 5: aspect, write mode, output register used, clock (8 a routed wire). -/
structure PortCfg where
  asp : Nat
  mode : Nat
  reg : Bool
  clock : Nat
  deriving DecidableEq, Repr

/-- The settings of port A (b false) or B from a frame of type 5 (R292). -/
def portCfg (cfg : Nat) (b : Bool) : PortCfg :=
  let f := if b then field cfg 19 10 else field cfg 9 0
  ⟨field f 2 0, field f 4 3, bit f 5, field f 9 6⟩

/-- The block of a cascade chain that an address selects, counted from the chain's first block, its number, and the
length of the chain (R123, R124). -/
def chainBlock (s : State) (g : Nat) : Nat → Nat → Nat → Nat → Option Nat
  | 0, _, _, _ => none
  | fuel + 1, cluster, k, sel =>
    if sel = 0 then some ((g * 64 + cluster) * 4 + k)
    else if bit (s.activeSettings g cluster k 5) 44 then
      if k < 3 then chainBlock s g fuel cluster (k + 1) (sel - 1)
      else if cluster < 56 then chainBlock s g fuel (cluster + 8) 0 (sel - 1)
      else none
    else none

/-- Whether port B of a block is held by the loader (R126). -/
def loadBusy (s : State) (blk : Nat) : Bool := AMap.get false s.fab.loadBusy blk

/-- The stored row of a block, in a state of the fabric. -/
def rowIn (f : Fabric) (blk row : Nat) : BitVec 72 := AMap.get 0 f.bmWord (blk * 512 + row)

/-- The stored row of a block. -/
def bmRow (s : State) (blk row : Nat) : BitVec 72 := rowIn s.fab blk row

/-- A row of a block stored. -/
def setBmRow (s : State) (blk row : Nat) (v : BitVec 72) : State :=
  { s with fab.bmWord := AMap.set 0 s.fab.bmWord (blk * 512 + row) v }

/-- What one port does at the edge: its block, row, mask and value written, and its address. -/
structure PortAct where
  blk : Nat
  row : Nat
  mask : Nat
  value : Nat
  addr : Nat
  deriving DecidableEq, Repr

/-- The act of a port, with the din that the other port's pins carry. Writes are ignored before the enable-writes step (R143)
and, on port B, while load_busy is asserted (R126); in the 512×72 aspect port A alone writes, a word of both ports' din (R152).
Address bits above the aspect's select a block of the chain, and are ignored on a block that does not cascade (R124, R151). -/
def portAct (s : State) (u : UnitId) (cfg : Nat) (b : Bool) (i : BmPortIn) (otherDin : BitVec 36) : Option PortAct :=
  let c := portCfg cfg b
  let ab := aspectAddr c.asp
  if ¬ i.en then none
  else
    match chainBlock s.outgoing u.sector.val 8 u.cluster.val u.unit.val (if bit cfg 44 then i.addr.toNat / 2 ^ ab % 8 else 0) with
    | none => none
    | some blk =>
      let a := i.addr.toNat % 2 ^ ab
      let prot := field cfg 43 42
      let wide := decide (c.asp = 6)
      let din := if wide then i.din.toNat + 2 ^ 36 * otherDin.toNat else i.din.toNat
      let we := if wide ∧ prot = 2 then (if i.we.getLsbD 0 then 255 else 0) else i.we.toNat
      let quiet := !s.boot.writesEnabled || (b && (loadBusy s blk || wide))
      let w := if quiet then (0, 0) else writeMask c.asp a we din (decide (prot = 1))
      let w := if prot = 2 ∧ wide ∧ w.1 ≠ 0 then
          (w.1, din % 2 ^ 64 + 2 ^ 64 * (secded (BitVec.ofNat 64 din)).toNat) else w
      some ⟨blk, (wordPlace c.asp a).1, w.1, w.2, a⟩

/-- The bits of a row as a reading port finds them where the other port writes the same row at the same edge: as
before the edge (R117), or either value, bit by bit, where the accesses are unordered (R119). -/
def seenRow (old new : BitVec 72) (unordered : Bool) (free : BitVec 72) : BitVec 72 :=
  if unordered then (old &&& free) ||| (new &&& ~~~free) else old

/-- The read data of a port as a bus value, with its error flags (bit 0 par_err, 1 ecc_fixed, 2 ecc_fail). -/
def portRead (cfg : Nat) (c : PortCfg) (a : Nat) (row : BitVec 72) : BitVec 72 × Nat :=
  if field cfg 43 42 = 2 ∧ c.asp = 6 then
    let r := secdedRead row
    (BitVec.ofNat 72 (readWord 6 a r.1), r.2)
  else
    let w := readWord c.asp a row
    let (d, v, n) := aspectBits c.asp
    let bad := decide (field cfg 43 42 = 1) && decide (v ≠ 0) &&
      (List.range n).any fun b => oddParity (w / 2 ^ (8 * b) % 256 + 256 * (w / 2 ^ (d + b) % 2)) 9
    (BitVec.ofNat 72 w, b2n bad)

/-- A port's read data and error flags captured: into the read latch, through the chain's further stage where the block cascades
(R124), and into the output register (R115). -/
def latchRead (s : State) (port : Nat) (chained : Bool) (i : BmPortIn) (r : Option (BitVec 72 × Nat)) : State :=
  let f := s.fab
  let latch := (AMap.get 0 f.bmRead port, AMap.get 0 f.bmFlags (port * 2))
  let pipe := (AMap.get 0 f.bmPipe port, AMap.get 0 f.bmPipeFlags port)
  let out := (AMap.get 0 f.bmOut port, AMap.get 0 f.bmFlags (port * 2 + 1))
  let pipe2 := if chained then r.getD pipe else pipe
  let latch2 := if chained then pipe else r.getD latch
  let out2 := if i.regClr then (0, 0) else if i.regEn then latch else out
  { s with fab := { f with
      bmPipe := AMap.set 0 f.bmPipe port pipe2.1
      bmPipeFlags := AMap.set 0 f.bmPipeFlags port pipe2.2
      bmRead := AMap.set 0 f.bmRead port latch2.1
      bmOut := AMap.set 0 f.bmOut port out2.1
      bmFlags := AMap.set 0 (AMap.set 0 f.bmFlags (port * 2) latch2.2) (port * 2 + 1) out2.2 } }

/-- What a port's pins dout, par_err, ecc_fixed and ecc_fail show: the output register where the settings use it, else the read
latch (R115, R120); in the 512×72 aspect the word of port B on both ports' dout (R152). Port B reads zero while load_busy is
asserted (R126). -/
def portOut (f : Fabric) (cfg blk : Nat) (b : Bool) : BitVec 36 × Nat :=
  let wide := decide ((portCfg cfg b).asp = 6)
  let from_ := b || wide
  let port := blk * 2 + b2n from_
  if from_ ∧ AMap.get false f.loadBusy blk then (0, 0)
  else
    let word := if (portCfg cfg from_).reg then (AMap.get 0 f.bmOut port, AMap.get 0 f.bmFlags (port * 2 + 1))
      else (AMap.get 0 f.bmRead port, AMap.get 0 f.bmFlags (port * 2))
    (word.1.extractLsb' (if wide ∧ b then 36 else 0) 36, word.2)

/-- A saturating 21-bit count within ECC_BLOCKMEM, the sticky bit set where it is full (R487, R706). -/
def bump21 (v lo : Nat) : Nat :=
  if field v (lo + 20) lo = 0x1FFFFF then v ||| 2 ^ 63 else v + 2 ^ lo

/-- A block memory read error counted, and recorded where uncorrectable (R487). -/
def bmError (s : State) (u : UnitId) (flags : Nat) : State :=
  if flags = 0 then s
  else
    let g := u.sector.val
    let v := AMap.get 0 s.ecc.blockmem g
    let v1 := if bit flags 0 then bump21 v 42 else v
    let v2 := if bit flags 1 then bump21 v1 21 else v1
    let v3 := if bit flags 2 then bump21 v2 0 else v2
    let s1 := counted { s with ecc.blockmem := AMap.set 0 s.ecc.blockmem g v3 } (0x1000 + g) 0x05 0 1
    if bit flags 2 then event s1 (0x1000 + g) 0x500E (u8 g ++ u8 u.cluster.val ++ u8 u.unit.val) else s1

/-- The bits of a row that port A has written at this instant (R117). -/
def maskNow (s : State) (blk row : Nat) : Nat :=
  if s.edge.at_ = s.now + 1 then ((s.edge.masks.find? fun m => m.1 = blk * 512 + row).map (·.2)).getD 0 else 0

/-- Bits that have flipped in a stored row since it was written. -/
def flipRow (s : State) (p : Option PortAct) (flips : BitVec 72) : State :=
  match p with
  | none => s
  | some p =>
    let key := p.blk * 512 + p.row
    { s with
      fab.bmWord := AMap.upd 0 s.fab.bmWord key (· ^^^ flips)
      edge.before.bmWord := AMap.upd 0 s.edge.before.bmWord key (· ^^^ flips) }

/-- The write of a port: port B leaves the bits that port A writes at the same edge, but for those that an unordered pair leaves
to either (R117, R119). -/
def writeRow (s : State) (p : Option PortAct) (keep : Nat) : State :=
  match p with
  | none => s
  | some p =>
    if p.mask = 0 then s
    else setBmRow s p.blk p.row (mergeRow (bmRow s p.blk p.row) (p.mask &&& ((2 ^ 72 - 1) ^^^ keep)) p.value)

/-- What a port delivers at the edge (R114, R117, R126): nothing new in hold_out mode, and on port A of the 512×72 aspect. s is
the state after the edge's writes; the word as it stood before them is s.edge.before's. -/
def portDelivers (s : State) (cfg : Nat) (b : Bool) (un : Bool) (p : Option PortAct) : Option (BitVec 72 × Nat) :=
  let c := portCfg cfg b
  match p with
  | none => none
  | some p =>
    let old := rowIn s.edge.before p.blk p.row
    let new := bmRow s p.blk p.row
    if b ∧ loadBusy s p.blk then some (0, 0)
    else if ¬ b ∧ c.asp = 6 then none
    else if p.mask = 0 then some (portRead cfg c p.addr (seenRow old new un (Config.freeBits (s.freeCtr + 1))))
    else if c.mode = 0 then some (portRead cfg c p.addr (mergeRow new p.mask p.value))
    else if c.mode = 1 then some (portRead cfg c p.addr old)
    else none

/-- The edge of one or both ports of a block, or of a cascade chain from its first block (R113 to R126); idleDin is what the
pins of a port B without an edge carry. -/
def blockmemEdge (s : State) (u : UnitId) (a b : Option BmPortIn) (idleDin : BitVec 36) (unordered : Bool) (flips : BitVec 72) :
    State :=
  let cfg := s.settingsNow u.sector.val u.cluster.val u.unit.val 5
  let un := unordered && (decide ((portCfg cfg false).clock = 8) || decide ((portCfg cfg true).clock = 8))
  let pa := a.bind fun i => portAct s u cfg false i ((b.map (·.din)).getD idleDin)
  let pb := b.bind fun i => portAct s u cfg true i 0
  let s0 := flipRow s (pb.or pa) flips
  let maskA := match pb with
    | none => 0
    | some y => maskNow s0 y.blk y.row ||| (match pa with
        | some x => if x.blk = y.blk ∧ x.row = y.row then x.mask else 0
        | none => 0)
  let s1 := writeRow (writeRow s0 pa 0) pb (if un then maskA &&& (Config.freeBits s.freeCtr).toNat else maskA)
  let s2 := match pa with
    | some x => if x.mask = 0 then s1 else { s1 with edge.masks := (x.blk * 512 + x.row, x.mask) :: s1.edge.masks }
    | none => s1
  let ra := portDelivers s2 cfg false un pa
  let rb := portDelivers s2 cfg true un pb
  let port := unitNum u * 2
  let s3 := match a with
    | some i => latchRead s2 port (bit cfg 44) i ra
    | none => s2
  let s4 := match b with
    | some i => latchRead s3 (port + 1) (bit cfg 44) i rb
    | none => s3
  let s5 := bmError (bmError s4 u ((ra.map (·.2)).getD 0)) u ((rb.map (·.2)).getD 0)
  if un then s5.drew 2 else s5

/-- Whether a port of a block takes an edge now: its FCLK's, or at any instant a routed clock's (R187), not taken before. -/
def portTakes (s : State) (u : UnitId) (b : Bool) : Bool :=
  let g := u.sector.val
  let c := (portCfg (s.settingsNow g u.cluster.val u.unit.val 5) b).clock
  (if c = 8 then sectorRuns s g else decide (c < 8) && unitClocked s c g) && !s.edgeDone (.port (unitNum u * 2 + b2n b))

/-- The edges of a block's ports taken, each with the levels at its pins. -/
def takeBlockEdge (s : State) (u : UnitId) (a b : Option BmPortIn) (idleDin : BitVec 36) (unordered : Bool) (flips : BitVec 72) :
    State :=
  let a1 := a.filter fun _ => portTakes s u false
  let b1 := b.filter fun _ => portTakes s u true
  if a1.isNone ∧ b1.isNone then s
  else
    let s1 := blockmemEdge s.opened u a1 b1 idleDin unordered flips
    let s2 := if a1.isSome then s1.edgeTaken (.port (unitNum u * 2)) else s1
    if b1.isSome then s2.edgeTaken (.port (unitNum u * 2 + 1)) else s2

/-! ### Binary32 and bfloat16 arithmetic of bf16x2 (R130) -/

/-- A number as the slice sees it: not a number, an infinity, or an exact value m × 2^e with its sign for zero. -/
inductive Fl where
  | nan
  | inf (neg : Bool)
  | fin (neg : Bool) (m : Nat) (e : Int)
  deriving DecidableEq, Repr

/-- A binary32 word, subnormals taken as zero. -/
def f32Of (v : BitVec 32) : Fl :=
  let e := field v.toNat 30 23
  let m := field v.toNat 22 0
  if e = 255 then (if m = 0 then .inf v.msb else .nan)
  else if e = 0 then .fin v.msb 0 0
  else .fin v.msb (m + 2 ^ 23) ((e : Int) - 150)

/-- A bfloat16 half-word: the upper half of a binary32 word. -/
def bf16Of (v : Nat) : Fl := f32Of (BitVec.ofNat 32 (v % 65536 * 65536))

/-- An exact product. -/
def flMul (a b : Fl) : Fl :=
  match a, b with
  | .nan, _ => .nan
  | _, .nan => .nan
  | .inf s, .inf t => .inf (s != t)
  | .inf s, .fin t m _ => if m = 0 then .nan else .inf (s != t)
  | .fin s m _, .inf t => if m = 0 then .nan else .inf (s != t)
  | .fin s m e, .fin t n f => .fin (s != t) (m * n) (e + f)

/-- A number's sign changed. -/
def flNeg : Fl → Fl
  | .nan => .nan
  | .inf s => .inf (!s)
  | .fin s m e => .fin (!s) m e

/-- An exact sum. -/
def flAdd (a b : Fl) : Fl :=
  match a, b with
  | .nan, _ => .nan
  | _, .nan => .nan
  | .inf s, .inf t => if s = t then .inf s else .nan
  | .inf s, _ => .inf s
  | _, .inf t => .inf t
  | .fin s m e, .fin t n f =>
    let lo := min e f
    let x : Int := (if s then -1 else 1) * (m : Int) * 2 ^ (e - lo).toNat
    let y : Int := (if t then -1 else 1) * (n : Int) * 2 ^ (f - lo).toNat
    let z := x + y
    if z = 0 then .fin (s && t) 0 0 else .fin (decide (z < 0)) z.natAbs lo

/-- A number rounded to binary32, to nearest even, a subnormal result flushed to zero (R130). -/
def flRound (a : Fl) : BitVec 32 :=
  match a with
  | .nan => 0x7FC00000
  | .inf s => if s then 0xFF800000 else 0x7F800000
  | .fin s m e =>
    let sg := if s then 2 ^ 31 else 0
    if m = 0 then BitVec.ofNat 32 sg
    else
      let n := m.log2 + 1
      let q := if n ≤ 24 then m * 2 ^ (24 - n) else
        let d := 2 ^ (n - 24)
        let q0 := m / d
        let r := m % d
        if 2 * r > d ∨ (2 * r = d ∧ q0 % 2 = 1) then q0 + 1 else q0
      let x : Int := e + (n : Int) - 24 + (if q = 2 ^ 24 then 1 else 0)
      let q1 := if q = 2 ^ 24 then 2 ^ 23 else q
      let be := x + 150
      if be ≥ 255 then BitVec.ofNat 32 (sg + 0x7F800000)
      else if be ≤ 0 then BitVec.ofNat 32 sg
      else BitVec.ofNat 32 (sg + be.toNat * 2 ^ 23 + (q1 - 2 ^ 23))

/-! ### Arithmetic slices (R127 to R133) -/

/-- An operand field as an integer, signed or not. -/
def opInt (v n : Nat) (sg : Bool) : Int :=
  let x := v % 2 ^ n
  if sg ∧ 2 ^ (n - 1) ≤ x then (x : Int) - 2 ^ n else x

/-- The product of a mode, as 56 bits (R127): in dual12x9 two fields of 28 bits, in dot4 the sum as 32 bits signed, in
bf16x2 the rounded sum of the two products in binary32. -/
def sliceProduct (cfg : Nat) (a b : BitVec 32) : BitVec 56 :=
  let sa := bit cfg 2
  let sb := bit cfg 3
  match field cfg 1 0 with
  | 0 => BitVec.ofInt 56 (opInt a.toNat 24 sa * opInt b.toNat 18 sb)
  | 1 =>
    let lo := BitVec.ofInt 28 (opInt a.toNat 12 sa * opInt b.toNat 9 sb)
    let hi := BitVec.ofInt 28 (opInt (a.toNat / 2 ^ 12) 12 sa * opInt (b.toNat / 2 ^ 9) 9 sb)
    hi ++ lo
  | 2 =>
    BitVec.ofInt 56 (((List.range 4).map fun n =>
      opInt (a.toNat / 2 ^ (8 * n)) 8 sa * opInt (b.toNat / 2 ^ (8 * n)) 8 sb).foldl (· + ·) 0)
  | _ =>
    (flRound (flAdd (flMul (bf16Of (a.toNat / 65536)) (bf16Of (b.toNat / 65536)))
      (flMul (bf16Of a.toNat) (bf16Of b.toNat)))).setWidth 56

/-- base ± product in a mode (R128 to R130). -/
def sliceSum (cfg : Nat) (base prod : BitVec 56) (sub : Bool) : BitVec 56 :=
  match field cfg 1 0 with
  | 0 => if sub then base - prod else base + prod
  | 1 =>
    let f := fun (x y : BitVec 28) => if sub then x - y else x + y
    f (base.extractLsb' 28 28) (prod.extractLsb' 28 28) ++ f (base.extractLsb' 0 28) (prod.extractLsb' 0 28)
  | 2 =>
    let x := (base.extractLsb' 0 32).toInt
    let y := prod.toInt
    let z := if sub then x - y else x + y
    let z := if bit cfg 8 then max (-2 ^ 31) (min (2 ^ 31 - 1) z) else z
    (BitVec.ofInt 32 z).signExtend 56
  | _ =>
    let x := f32Of (base.extractLsb' 0 32)
    let y := f32Of (prod.extractLsb' 0 32)
    (flRound (flAdd x (if sub then flNeg y else y))).setWidth 56

/-- The slice directly south in the link cascade (R133), where there is one in the sector. -/
def linkSouth (n : Nat) : Option Nat :=
  let j := n % 8
  let c := n / 8
  if j % 4 ≠ 0 then some (n - 1)
  else if c % 64 < 8 then none
  else some ((c - 8) * 8 + j + 3)

/-- The stages of a slice as their inputs stand: the product and its controls before the multiply stage, after it, and after the
further stage that the sum of two bfloat16 products takes; each as product, c, acc, sub (R128, R132). -/
def sliceStages (cfg : Nat) (r : ArithRegs) (i : ArithIn) :
    (BitVec 56 × BitVec 56 × Bool × Bool) × (BitVec 56 × BitVec 56 × Bool × Bool) × (BitVec 56 × BitVec 56 × Bool × Bool) :=
  let first := if bit cfg 4 then (sliceProduct cfg r.a r.b, r.c, r.acc, r.sub) else (sliceProduct cfg i.a i.b, i.c, i.acc, i.sub)
  let second := if bit cfg 5 then (r.prod, r.prodC, r.prodAcc, r.prodSub) else first
  (first, second, if field cfg 1 0 = 3 then (r.sum.setWidth 56, r.sumC, r.sumAcc, r.sumSub) else second)

/-- base ± product as the accumulator stage would take it (R128). -/
def sliceNext (cfg : Nat) (r : ArithRegs) (link : BitVec 56) (i : ArithIn) : BitVec 56 :=
  let p := (sliceStages cfg r i).2.2
  sliceSum cfg (if p.2.2.1 then r.res else if bit cfg 7 then link else p.2.1) p.1 p.2.2.2

/-- One edge of a slice: its stages advance, or it is held or cleared (R128, R131). -/
def sliceEdge (cfg : Nat) (r : ArithRegs) (link : BitVec 56) (i : ArithIn) : ArithRegs :=
  if i.rst then {}
  else if ¬ i.ce then r
  else
    let st := sliceStages cfg r i
    { a := i.a, b := i.b, c := i.c, acc := i.acc, sub := i.sub,
      prod := st.1.1, prodC := st.1.2.1, prodAcc := st.1.2.2.1, prodSub := st.1.2.2.2,
      sum := st.2.1.1.setWidth 32, sumC := st.2.1.2.1, sumAcc := st.2.1.2.2.1, sumSub := st.2.1.2.2.2,
      res := sliceNext cfg r link i }

/-- What a slice's res pins show: the accumulator register, or with its stage bypassed the sum itself (R128, R132). -/
def sliceOut (cfg : Nat) (r : ArithRegs) (link : BitVec 56) (i : ArithIn) : BitVec 56 :=
  if bit cfg 6 then r.res else sliceNext cfg r link i

/-- What reaches a slice's link_in: the accumulator register of the slice south of it (R133). -/
def linkIn (f : Fabric) (n : Nat) : BitVec 56 :=
  match linkSouth n with
  | some m => (AMap.get {} f.arith m).res
  | none => 0

/-- A slice takes its edge of this instant. Until the release-set/reset step every slice is held in rst (R143). -/
def takeSliceEdge (s : State) (u : SliceId) (i : ArithIn) : State :=
  let n := sliceNum u
  let cfg := s.settingsNow u.sector.val u.cluster.val u.unit.val 3
  if ¬ unitClocked s (field cfg 11 9) u.sector.val ∨ s.edgeDone (.slice n) then s
  else
    let s1 := s.opened
    let r := sliceEdge cfg (AMap.get {} s1.fab.arith n) (linkIn s1.edge.before n) { i with rst := i.rst || !s.boot.srReleased }
    { s1 with fab.arith := AMap.set {} s1.fab.arith n r }.edgeTaken (.slice n)

/-- ARITH_ACCUMULATE (R128): a slice's edge, with these levels at its inputs. -/
def execArithAccumulate (u : SliceId) (i : ArithIn) (s : State) : Res := .next (takeSliceEdge s u i)

/-! ### Fabric queues (R134 to R139) -/

/-- One edge of a fabric queue: rewind or next, mark, release, push, in that order; on rst it empties (R137, R139). -/
def queueEdge (writes : Bool) (q : FQueue) (i : FqIn) : FQueue :=
  if i.rst then { q with items := [], rp := 0, mark := 0, ovf := false }
  else
    let full := decide (16 ≤ q.items.length)
    let rp1 := if i.rewind then q.mark else if i.next ∧ q.rp < q.items.length then q.rp + 1 else q.rp
    let mk1 := if i.mark then rp1 else q.mark
    let items1 := if i.release then q.items.drop rp1 else q.items
    let rp2 := if i.release then 0 else rp1
    let mk2 := if i.release then 0 else mk1
    let push := i.push && writes
    let items2 := if push ∧ ¬ full then items1 ++ [i.din] else items1
    ⟨items2, rp2, mk2, q.ovf || (push && full), if rp2 < items2.length then items2.getD rp2 0 else q.dout⟩

/-- A queue takes its edge of this instant. Until the enable-writes step push is ignored and ovf stays clear (R143). -/
def takeQueueEdge (s : State) (u : UnitId) (i : FqIn) : State :=
  let n := unitNum u
  let cfg := s.settingsNow u.sector.val u.cluster.val u.unit.val 4
  if ¬ unitClocked s (field cfg 2 0) u.sector.val ∨ s.edgeDone (.queue n) then s
  else
    let s1 := s.opened
    { s1 with fab.fq := AMap.upd {} s1.fab.fq n fun q => queueEdge s.boot.writesEnabled q i }.edgeTaken (.queue n)

/-- FQUEUE_UPDATE (R137): a queue's edge, with these levels at its inputs. -/
def execFqueueUpdate (u : UnitId) (i : FqIn) (s : State) : Res := .next (takeQueueEdge s u i)

/-- The outputs of a queue during a cycle (R136). -/
structure FqOut where
  dout : BitVec 36
  valid : Bool
  empty : Bool
  full : Bool
  afull : Bool
  count : Nat
  ovf : Bool
  deriving DecidableEq, Repr

/-- What a queue drives from its state, under its context's settings. -/
def queueOut (cfg : Nat) (q : FQueue) : FqOut :=
  let n := q.items.length
  ⟨if q.rp < n then q.items.getD q.rp 0 else q.dout, decide (q.rp < n), decide (n = 0), decide (n = 16),
   decide (field cfg 7 3 ≤ n), n, q.ovf⟩

/-! ### Readback (R145 to R149) -/

/-- Whether R144 serves a readback of a sector's units in the present mode. -/
def readbackServed (s : State) (g : Nat) : Bool :=
  match s.mode with
  | .hold => true
  | .service => true
  | .safeStop => true
  | .run => clocksStopped s g
  | _ => false

/-- FAB_MEM_READ.command (R145, R146). -/
def actFabMemRead : Action where
  state := fun s who _ =>
    let g := field (s.num 0x6340 1) 31 26
    firstOf [need (¬ s.isSealedSector g ∨ sealedRight s who) abSealed, need (readbackServed s g) abState]
  apply := fun s _ _ _ =>
    { s with fab := { s.fab with readStatus := 1, readTarget := s.num 0x6340 1 } }

/-- FAB_MEM_READ_COMMAND. -/
def execFabMemReadCommand (e : Env) (v : Byte) (s : State) : Res := hostWrite e 0x6340 2 [v] actFabMemRead s

/-- The 4,608 bytes of a block memory (R147). -/
def bmBytes (s : State) (blk : Nat) : List Byte :=
  (List.range 512).flatMap fun w => leBytes (bmRow s blk w).toNat 9

/-- The 84 bytes of a fabric queue (R148). -/
def fqBytes (q : FQueue) : List Byte :=
  ((List.range 16).flatMap fun i => leBytes (q.items.getD i 0).toNat 5) ++
    u32 (q.items.length + q.rp * 32 + q.mark * 1024 + b2n q.ovf * 32768)

/-- FAB_MEM_READ_DONE (R147 to R149): the readback in progress fills data, or fails on a bus error. -/
def execFabMemReadDone (busError : Bool) (s : State) : Res :=
  if s.fab.readStatus ≠ 1 then .next s
  else if busError then .next { s with fab.readStatus := 3 }
  else
    let t := s.fab.readTarget
    let n := (field t 31 26 * 64 + field t 25 20) * 4 + field t 18 17
    .next { s with fab := { s.fab with
      readStatus := 2, readData := if bit t 19 then fqBytes (AMap.get {} s.fab.fq n) else bmBytes s n } }

/-! ### Fabric clocks and delay lines -/

/-- A write of FAB_FCLK's divisor code (R184, R185). -/
def actFclk (n : Nat) : Action where
  state := fun s _ _ => need (¬ clockInUse s n) abState
  value := fun s _ v =>
    let c := leNat v % 16
    firstOf [need (c ≤ 9) abRange, need (s.fuses.speedGrade ≠ 1 ∨ 2 ≤ c) abRange]
  apply := fun s _ _ new => { s with clk.next := AMap.set 0 s.clk.next n (leNat new % 16 + 1) }

/-- FAB_FCLK_WRITE. -/
def execFabFclkWrite (e : Env) (n : Fin 8) (v : Byte) (s : State) : Res :=
  hostWrite e 0x6310 (n.val + 1) [v] (actFclk n.val) s

/-- A waiting divisor of FCLKn put in force. -/
def takeDivisor (s : State) (n : Nat) : State :=
  let c := AMap.get 0 s.clk.next n
  if c = 0 then s
  else { s with clk := { s.clk with code := AMap.set 2 s.clk.code n (c - 1), next := AMap.set 0 s.clk.next n 0 } }

/-- FCLK_DIVISOR_CHANGE (R184): at an alignment boundary the accepted divisor takes effect. -/
def execFclkDivisorChange (n : Fin 8) (s : State) : Res := .next (if s.atBoundary then takeDivisor s n.val else s)

/-! ### Cells (R99 to R107) -/

/-- A flip-flop at an edge of its clock: its cell's function and inputs, and its controls (R99, R104 to R107). -/
structure FfEdge where
  lut : BitVec 64
  mode : LutMode
  k : BitVec 6
  cin : Bool
  bx : Bool
  k5 : Bool
  conf : FfConf
  srType : SrType
  sr : Bool
  ce : Bool
  deriving DecidableEq, Repr

/-- A cell's outputs ya and yb (R99). -/
def lutOut (m : LutMode) (l : BitVec 64) (k : BitVec 6) (cin : Bool) : Bool × Bool :=
  let lo := l.getLsbD (k.toNat % 32)
  let hi := l.getLsbD (32 + k.toNat % 32)
  match m with
  | .whole6 => (l.getLsbD k.toNat, lo)
  | .pair5 => (hi, lo)
  | .adder => (lo != cin, lo)

/-- A cell's carry out (R100). -/
def carryOut (m : LutMode) (l : BitVec 64) (k : BitVec 6) (cin : Bool) : Bool :=
  match m with
  | .adder => if l.getLsbD (k.toNat % 32) then cin else l.getLsbD (32 + k.toNat % 32)
  | _ => cin

/-- The data input that a flip-flop selects (R104). -/
def ffData (f : FfEdge) : Bool :=
  let o := lutOut f.mode f.lut f.k f.cin
  if f.k5 ∧ f.mode ≠ .whole6 then f.k.getLsbD 5
  else
    match f.conf.source with
    | .ya => o.1
    | .yb => o.2
    | .bx => f.bx

/-- A flip-flop's value once its clock has let data in (R106, R107): asynchronous sr, synchronous sr, a deasserted ce, then
data. -/
def ffNext (f : FfEdge) (q : Bool) : Bool :=
  if (f.srType = .async ∨ f.srType = .sync) ∧ f.conf.obeysSr ∧ f.sr then f.conf.srSets
  else if f.conf.obeysCe ∧ ¬ f.ce then q
  else ffData f

/-- Whether an asynchronous sr is asserted at a flip-flop (R107). -/
def asyncSr (f : FfEdge) : Bool := decide (f.srType = .async) && f.conf.obeysSr && f.sr

/-! ### Seams (R174 to R179) -/

/-- The sending and the receiving global sector of a seam group in a direction (R24, R26, R175). -/
def seamSectors (seam group : Nat) (reverse : Bool) : Nat × Nat :=
  let p := match seam with
    | 0 => (0 * 12 + 3 + 4 * (group / 8), 1 * 12 + 4 * (group / 8))
    | 1 => (2 * 12 + 3 + 4 * (group / 8), 3 * 12 + 4 * (group / 8))
    | 2 => (0 * 12 + 8 + group / 8, 2 * 12 + group / 8)
    | _ => (1 * 12 + 8 + group / 8, 3 * 12 + group / 8)
  if reverse then (p.2, p.1) else p

/-- The number of a seam wire. -/
def seamKey (seam group : Nat) (reverse : Bool) (wire : Nat) : Nat :=
  ((seam * 32 + group) * 2 + b2n reverse) * 128 + wire

/-- Whether the launch register of a seam wire stands in a sector, or its capture register does. -/
def seamIn (key g : Nat) (capture : Bool) : Bool :=
  let w := key / 128
  let p := seamSectors (w / 64) (w / 2 % 32) (decide (w % 2 = 1))
  decide ((if capture then p.2 else p.1) = g)

/-- The number of a seam group's calibration mark. -/
def seamGroup (seam group : Nat) : Nat := seam * 32 + group

/-- Whether a capture register carries data (R179). -/
def seamLive (s : State) (seam group sender : Nat) : Bool :=
  s.sectorOn sender && s.boot.srReleased && AMap.get false s.test.seamCal (seamGroup seam group)

end Sys2Proof.Machine
end

