-- ==== Sys2Proof/Machine/Teams.lean ====
section
/-! DEFINITION. Teams, staging, switches, fallback and capture (05): rows SWITCH_AT_TIME to CAPTURE_COPY_DONE. -/

namespace Sys2Proof.Machine

/-! ### Teams -/

/-- Team t. -/
def State.team (s : State) (t : Nat) : Team := AMap.get {} s.teams t

/-- Team t changed. -/
def State.updTeam (s : State) (t : Nat) (f : Team → Team) : State := { s with teams := AMap.upd {} s.teams t f }

/-- The chronicle source of a team's events (R257). -/
def teamSrc (t : Nat) : Nat := 0x0200 + t

/-- The members of a team as sectors. -/
def State.members (s : State) (t : Nat) : List Nat := bitsSet (s.team t).goodMembers.toNat 48

/-- The towers that hold a member. -/
def State.teamTowers (s : State) (t : Nat) : List Nat :=
  (List.range 4).filter fun w => (s.members t).any fun g => towerOf g = w

/-- The plane that a team's members run (R207). -/
def State.running (s : State) (t : Nat) : Option Nat := (s.members t).head?.bind s.activePlane

/-- The divisor of a team's clock. -/
def State.teamN (s : State) (t : Nat) : Nat := s.clockN (s.team t).goodClock

/-- The team that a sector belongs to. -/
def State.teamOf (s : State) (g : Nat) : Option Nat :=
  (List.range 16).find? fun t => (s.team t).goodMembers.getLsbD g

/-- CTX_TEAM_n.state (R251). -/
def teamState (x : Team) : Nat :=
  if x.goodMembers = 0 then 0
  else if x.frozen ≠ 0 ∧ ¬ x.held then 5
  else if x.held then 4
  else if x.fallback.isSome then 3
  else if x.pending.isSome then 2
  else 1

/-- Whether every member's plane p is in one of two states. -/
def allIn (s : State) (t p : Nat) (a b : PlaneState) : Bool :=
  (s.members t).all fun g => decide (s.planeSt g p = a) || decide (s.planeSt g p = b)

/-- Whether plane p is staged in every member. -/
def stagedAll (s : State) (t p : Nat) : Bool := allIn s t p .staged .staged

/-- Whether the design is past the release-set/reset step in a mode that runs it (R236, R253). -/
def switchMode (s : State) : Bool := s.runHoldOrFrom s.boot.srReleased

/-! ### Granted edges (R227 to R229) -/

/-- Whether two edges lie less than 64 ns apart. -/
def tooClose (a b : Nat) : Bool := decide ((if a ≤ b then b - a else a - b) * 5 < 3072)

/-- The edges granted in some of the listed towers. -/
def grantedIn (s : State) (towers : List Nat) : List Nat :=
  towers.flatMap fun w => (AMap.get [] s.grants w).map (·.1)

/-- A team's granted edge that is still to come is given up: its switch is cancelled, or is sought anew. -/
def dropGrants (s : State) (t : Nat) : State :=
  { s with grants := s.grants.filterMap fun kv =>
      let l := kv.2.filter fun g => g.2 ≠ t ∨ g.1 ≤ s.now
      if l = [] then none else some (kv.1, l) }

/-- The edge that a requested edge moves to: past each granted edge too close to it, at least 64 ns from all. -/
def movedEdge (s : State) (towers : List Nat) (n : Nat) (granted : List Nat) : Nat → Nat → Nat
  | 0, r => r
  | fuel + 1, r =>
    match granted.find? fun g => tooClose g r with
    | some g => movedEdge s towers n granted fuel (firstEdge s towers n (g + 615))
    | none => r

/-- The edge granted for a requested edge: itself unless a granted edge other than one at the same instant is less
than 64 ns away (R227, R228). -/
def grantEdge (s : State) (towers : List Nat) (n r : Nat) : Nat :=
  let gs := grantedIn s towers
  if gs.any fun g => g ≠ r ∧ tooClose g r then movedEdge s towers n gs (gs.length + 1) r else r

/-- A granted edge entered for every tower, with edges long past forgotten. -/
def noteGrant (s : State) (towers : List Nat) (t r : Nat) : State :=
  { s with grants := towers.foldl (fun m w =>
      AMap.upd [] m w fun l => (l.filter fun g => s.now ≤ g.1 + 615) ++ [(r, t)]) s.grants }

/-! ### Fences (R233, R234) -/

/-- Whether a base port of a plane of a sector is fenced. -/
def fencedPort (s : State) (g p c : Nat) : Bool :=
  let v := s.settings p g c 0 6
  bit v 0 && bit v 4

/-- The fenced ports of a team's outgoing context, as sector and cluster. -/
def fencedPorts (s : State) (t : Nat) : List (Nat × Nat) :=
  (s.members t).flatMap fun g =>
    match s.activePlane g with
    | none => []
    | some p =>
      ((planeFrames s g p).filter fun kv => decide (addrType kv.1 = 6) && fencedPort s g p (addrCluster kv.1)).map fun kv =>
        (g, addrCluster kv.1)

/-- Whether a base port has a transaction outstanding. -/
def portOutstanding (s : State) (g c : Nat) : Bool := s.noc.open_.any fun k => decide (k.use = .port g c)

/-- The fenced ports of a team with a transaction outstanding. -/
def fencedBusy (s : State) (t : Nat) : List (Nat × Nat) := (fencedPorts s t).filter fun p => portOutstanding s p.1 p.2

/-- Whether a fenced port holds tx_ready deasserted: a switch of its team is pending and its drain began at an earlier instant
(R233). -/
def fenceHolds (s : State) (g c : Nat) : Bool :=
  match s.teamOf g with
  | none => false
  | some t =>
    match (s.team t).pending with
    | none => false
    | some p => p.drainAt.any (fun d => decide (d < s.now)) && (s.activePlane g).any fun a => fencedPort s g a c

/-! ### Granting a pending switch -/

/-- Whether a fallback holds other switch requests in one of the towers (R237). -/
def fallbackHolds (s : State) (towers : List Nat) : Bool :=
  (List.range 16).any fun t => (s.team t).fallback.isSome && (s.teamTowers t).any fun w => towers.contains w

/-- The instant from which edges may be executed: now, or the boundary at which the clocks restart. -/
def edgeBase (s : State) : Nat := max s.now s.clk.changeAt

/-- The edge at which a pending switch would fall but for its fence, once it is known: its time come, its plane staged, the clocks
running and no fallback in its towers (R214, R215, R228). -/
def seekEdge (s : State) (t : Nat) (p : Pending) : Option Nat :=
  match p.drainAt with
  | none => none
  | some d =>
    let towers := s.teamTowers t
    if p.edge.isSome ∨ ¬ stagedAll s t p.plane ∨ s.mode = .hold ∨ ¬ switchMode s ∨ fallbackHolds s towers then none
    else some (firstEdge s towers (s.teamN t) (max (if p.trigger = 1 then p.requested else d) (edgeBase s)))

/-- Whether a fence keeps a pending switch waiting: a port has a transaction outstanding, or may yet take one at this edge
(R234). -/
def fenceWaits (s : State) (t : Nat) (p : Pending) (r : Nat) : Bool :=
  decide (fencedPorts s t ≠ []) && !p.fenceDone && (decide (fencedBusy s t ≠ []) || (p.drainAt.any fun d => decide (s.now ≤ d ∧ s.now < r)))

/-- The pending switch of a team is granted its edge once that edge is known and its fence has drained or timed out (R215, R228,
R234). -/
def tryGrant (s : State) (t : Nat) : State :=
  match (s.team t).pending with
  | none => s
  | some p =>
    match seekEdge s t p with
    | none => s
    | some r0 =>
      let towers := s.teamTowers t
      if fenceWaits s t p r0 then
        if p.unfenced.isSome then s else s.updTeam t fun x => { x with pending := some { p with unfenced := some r0 } }
      else
        let r := grantEdge s towers (s.teamN t) r0
        let s1 := noteGrant s towers t r
        let s2 := s1.updTeam t fun x => { x with pending := some { p with edge := some r, requested := r0 } }
        let s3 := if p.unfenced.any fun u => decide (u < r0) then
            event s2 (teamSrc t) 0x2004 (u8 t ++ u32 (s2.nsSince (p.drainAt.getD s.now))) else s2
        let s4 := if p.trigger = 0 ∧ p.late then
            event s3 (teamSrc t) 0x2003 (u8 t ++ zeros 3 ++ u64 p.due ++ u32 (min maxU32 (s3.taiAt r - p.due))) else s3
        if r ≠ r0 then
          event s4 (teamSrc t) 0x2002 (u8 t ++ zeros 3 ++ u64 (s4.taiAt r0) ++ u32 ((r - r0) * 5 / 48))
        else s4

/-- Whether a team of a lower number that falls back by the same trigger, in a tower of team t, has not been granted its edge
(R239). -/
def earlierFallback (s : State) (t : Nat) (f : Fallback) : Bool :=
  (List.range t).any fun u =>
    match (s.team u).fallback with
    | some h => decide (h.cause = f.cause) && decide (h.at_ = f.at_) && h.edge.isNone &&
        (s.teamTowers u).any fun w => (s.teamTowers t).contains w
    | none => false

/-- The fallback of a team is granted its edge once its safe plane is staged; in Hold the sets are exchanged without
an edge (R237, R238, R239, R249). -/
def grantFallback (s : State) (t : Nat) : State :=
  let x := s.team t
  match x.fallback with
  | none => s
  | some f =>
    if f.edge.isSome ∨ ¬ stagedAll s t x.goodSafe ∨ earlierFallback s t f then s
    else if s.mode = .hold then
      s.updTeam t fun x => { x with fallback := some { f with edge := some s.now, staged := true } }
    else
      let towers := s.teamTowers t
      let r0 := firstEdge s towers (s.teamN t) (edgeBase s)
      let r := grantEdge s towers (s.teamN t) r0
      let s1 := noteGrant s towers t r
      let s2 := s1.updTeam t fun x => { x with fallback := some { f with edge := some r, staged := true } }
      if r ≠ r0 then
        event s2 (teamSrc t) 0x2002 (u8 t ++ zeros 3 ++ u64 (s2.taiAt r0) ++ u32 ((r - r0) * 5 / 48))
      else s2

/-- The teams whose requested edges are known, in the order of those edges and then of team number (R229, log entry 78). -/
def grantOrder (s : State) : List Nat :=
  (((List.range 16).filterMap fun t => ((s.team t).pending.bind (seekEdge s t)).map fun r => (r * 16 + t, t)).foldl
    (fun m k => AMap.set 16 m k.1 k.2) []).map (·.2)

/-- Every team's waiting edge is looked at again, fallbacks first. -/
def grantAll (s : State) : State :=
  let s1 := (List.range 16).foldl grantFallback s
  (grantOrder s1).foldl tryGrant s1

/-- An edge still to come is given up, to be sought anew. -/
def seekAnew (s : State) (t : Nat) : State :=
  (dropGrants s t).updTeam t fun x =>
    { x with pending := x.pending.map fun p => { p with edge := none },
             fallback := x.fallback.map fun f => { f with edge := none } }

/-- How many of the first four edges executed after a root period come before another. -/
def edgesBefore (s : State) (towers : List Nat) (n a b : Nat) : Nat :=
  ((List.range 4).filter fun m => nthEdgeAfter s towers n (m + 1) a < b).length

/-- The towers that hold an armed sector. -/
def captureTowers (s : State) : List Nat :=
  (List.range 4).filter fun w => (bitsSet s.cap.sectors.toNat 48).any fun g => towerOf g = w

/-- Edges granted and still to come that a new gait does not execute are granted anew, and the edge of an armed capture with
them (R243, R651). -/
def regrant (s : State) : State :=
  let s1 := (List.range 16).foldl (fun s t =>
    let lost := fun (e : Option Nat) => e.any fun r => decide (s.now ≤ r) && !edgeRuns s (s.teamTowers t) (r / s.teamN t)
    if lost ((s.team t).fallback.bind (·.edge)) || ((s.team t).fallback.isNone && lost ((s.team t).pending.bind (·.edge))) then seekAnew s t
    else s) s
  let c := s1.cap
  let s2 :=
    if c.state = 1 ∧ c.edge.any fun r => decide (s1.now ≤ r) && !edgeRuns s1 (captureTowers s1) (r / s1.clockN c.clock) then
      { s1 with cap.edge := c.edge.map fun r => firstEdge s1 (captureTowers s1) (s1.clockN c.clock) r }
    else s1
  grantAll s2

/-- The clocks, stopped since a root period, run again: what was to happen at an edge of that time takes the first allowed edge
after it, the edges counted for a REIN request or a trigger going on (R217, R243, R249). -/
def resumeEdges (s : State) (stopped : Nat) : State :=
  let base := edgeBase s
  let s1 := (List.range 16).foldl (fun s t =>
    match (s.team t).pending with
    | none => s
    | some p =>
      let n := s.teamN t
      let towers := s.teamTowers t
      let gone := p.edge.any fun r => decide (stopped ≤ r) && decide (r < base)
      let s2 := if gone then seekAnew s t else s
      s2.updTeam t fun x => { x with pending := x.pending.map fun q =>
        if q.trigger = 1 ∧ stopped ≤ q.requested ∧ q.requested < base then
          { q with requested := nthEdgeAfter s towers n (4 - edgesBefore s towers n (q.drainAt.getD stopped) stopped) (base - 1) }
        else if q.trigger = 0 ∧ (gone ∨ q.drainAt.any fun d => decide (stopped ≤ d)) then { q with late := true } else q }) s
  let c := s1.cap
  let n := s1.clockN c.clock
  if c.state = 1 ∧ c.edge.any fun r => decide (stopped ≤ r) && decide (r < base) then
    { s1 with cap.edge := some (match c.sampled with
        | some a => nthEdgeAfter s1 (captureTowers s1) n (2 - min 1 (edgesBefore s1 (captureTowers s1) n a stopped)) (base - 1)
        | none => firstEdge s1 (captureTowers s1) n base) }
  else s1

/-- Times that have come: T of a timed switch, where its drain begins (R233), and the time of an armed capture, whose edge is then
found (R243); and edges that are now known are granted. -/
def dueSwitches (s : State) : State :=
  let s1 := (List.range 16).foldl (fun s t =>
    match (s.team t).pending with
    | none => s
    | some p =>
      if p.drainAt.isNone ∧ s.taiReached p.due then
        s.updTeam t fun x => { x with pending := some { p with drainAt := some s.now, late := p.late || s.clkStopped } }
      else s) s
  let c := s1.cap
  let s2 :=
    if c.state = 1 ∧ c.trigger = 1 ∧ c.edge.isNone ∧ s1.mode ≠ .hold ∧ s1.taiReached c.due then
      { s1 with cap.edge := some (firstEdge s1 (captureTowers s1) (s1.clockN c.clock) (edgeBase s1)) }
    else s1
  grantAll s2

/-! ### Staging engines (R199, R200) -/

/-- The staging engine of tower w. -/
def State.engine (s : State) (w : Nat) : StageEngine := AMap.get {} s.stage w

/-- The staging engine of tower w changed. -/
def State.updEngine (s : State) (w : Nat) (f : StageEngine → StageEngine) : State :=
  { s with stage := AMap.upd {} s.stage w f }

/-- The members of a team in a tower, as a mask. -/
def membersIn (s : State) (t w : Nat) : BitVec 48 :=
  BitVec.ofNat 48 (((s.members t).filter fun g => towerOf g = w).foldl (fun m g => m + 2 ^ g) 0)

/-- Whether every engine of a team's towers has a free place among its 16. -/
def engineRoom (s : State) (t : Nat) : Bool := (s.teamTowers t).all fun w => decide ((s.engine w).waiting.length < 16)

/-- Staging queued: in each tower one operation for every team and plane listed that has members there; a fallback's goes ahead of
all but other fallbacks' (R199, R200, R239). -/
def queueStaging (s : State) (jobs : List (Nat × Nat)) (fb : Bool) : State :=
  (List.range 4).foldl (fun s w =>
    let parts := (jobs.map fun j => (⟨j.1, j.2, membersIn s j.1 w⟩ : StagePart)).filter fun p => p.sectors ≠ 0
    if parts = [] then s
    else
      let op : StageOp := ⟨parts, fb, 0⟩
      s.updEngine w fun e =>
        { e with waiting := if fb then e.waiting.takeWhile (·.fallback) ++ op :: e.waiting.dropWhile (·.fallback)
                            else e.waiting ++ [op] }) s

/-- The sectors that an operation stages. -/
def StageOp.sectors (op : StageOp) : BitVec 48 := op.parts.foldl (fun m p => m ||| p.sectors) 0

/-- The part of a team taken out of every operation; an operation left empty ends (R211). -/
def dropStaging (s : State) (t : Nat) : State :=
  let cut := fun (op : StageOp) =>
    let q := { op with parts := op.parts.filter fun p => p.team ≠ t }
    if q.parts = [] then none else some q
  (List.range 4).foldl (fun s w => s.updEngine w fun e => { cur := e.cur.bind cut, waiting := e.waiting.filterMap cut }) s

/-- Each operation in progress in a team's towers that is not a fallback's is abandoned and stands first among those
that restart; event 0x2009 (R200, R237). -/
def abandonStaging (s : State) (t : Nat) : State :=
  (s.teamTowers t).foldl (fun s w =>
    match (s.engine w).cur with
    | some op =>
      if op.fallback then s
      else
        event (s.updEngine w fun e =>
          { cur := none, waiting := e.waiting.takeWhile (·.fallback) ++ op :: e.waiting.dropWhile (·.fallback) })
          (teamSrc t) 0x2009 (u8 w ++ u64 op.sectors.toNat)
    | none => s) s

/-- STAGING_START (R200): a waiting operation starts when its tower's engine is free; while a fallback's edge is still
to pass in the tower, only a fallback's (R237). -/
def execStagingStart (tower : Fin 4) (s : State) : Res :=
  let w := tower.val
  let e := s.engine w
  match e.cur, e.waiting with
  | none, op :: rest =>
    .next (if op.fallback ∨ ¬ fallbackHolds s [w] then
      s.updEngine w fun _ => { cur := some { op with startedAt := s.now }, waiting := rest } else s)
  | _, _ => .next s

/-- The shadow bits of a plane of a sector, as the restore latch takes them (R198). -/
def restoreFrom (s : State) (g p : Nat) (m : AMap Bool) : AMap Bool :=
  (s.fab.shadow.filter fun kv => ffSector (kv.1 / 8) = g ∧ kv.1 % 8 = p).foldl
    (fun m kv => AMap.set false m (kv.1 / 8) kv.2) (m.filter fun kv => ¬ ffSector kv.1 = g)

/-- One sector's plane becomes staged, where it is still valid; the plane staged before becomes valid (R205). -/
def stageSector (s : State) (g p : Nat) : State :=
  if s.planeSt g p = .valid then
    let s1 := match s.stagedPlane g with
      | some q => s.setPlane g q .valid
      | none => s
    let s2 := s1.setPlane g p .staged
    { s2 with fab.restore := restoreFrom s2 g p s2.fab.restore }
  else s

/-- STAGING_COMPLETE (R199). A timed switch whose staging ends after T is late (R215). -/
def execStagingComplete (tower : Fin 4) (s : State) : Res :=
  let w := tower.val
  match (s.engine w).cur with
  | none => .next s
  | some op =>
    let s1 := op.parts.foldl (fun s part =>
      let s1 := (bitsSet part.sectors.toNat 48).foldl (fun s g => stageSector s g part.plane) s
      s1.updTeam part.team fun x =>
        { x with pending := x.pending.map fun p => if p.trigger = 0 ∧ s.fineTai s.now > p.due * 2 ^ 32 then { p with late := true } else p })
      (s.updEngine w fun e => { e with cur := none })
    .next (grantAll s1)

/-! ### Cancelling, holding, falling back -/

/-- A pending switch is cancelled, with event 0x200A and a reason (R216). -/
def cancelPending (s : State) (t reason : Nat) : State :=
  if (s.team t).pending.isSome then
    event ((dropGrants s t).updTeam t fun x => { x with pending := none }) (teamSrc t) 0x200A (u8 t ++ u8 reason)
  else s

/-- A fallback that has not reached its edge is ended, with event 0x200A (R216). -/
def cancelFallback (s : State) (t reason : Nat) : State :=
  if (s.team t).fallback.isSome then
    event ((dropGrants s t).updTeam t fun x => { x with fallback := none }) (teamSrc t) 0x200A (u8 t ++ u8 reason)
  else s

/-- Every pending switch, and where asked every fallback, ends for a reason. -/
def cancelAllSwitches (s : State) (reason : Nat) (fallbacks : Bool) : State :=
  (List.range 16).foldl (fun s t =>
    let s1 := cancelPending s t reason
    if fallbacks then cancelFallback s1 t reason else s1) s

/-- A team is held: its members' clocks stop at the next alignment boundary (R240). -/
def holdTeam (s : State) (t cause : Nat) : State :=
  event ((dropGrants s t).updTeam t fun x =>
    { x with held := true, heldFrom := (s.now + 959) / 960 * 960, fallback := none, pending := none })
    (teamSrc t) 0x2007 (u8 t ++ u8 cause)

/-- A complement fault freezes a team: event 0x200B, and its pending switch is cancelled (R213, R216). -/
def freezeTeam (s : State) (t idx sub : Nat) : State :=
  event ((cancelPending s t 3).updTeam t fun x => { x with frozen := 1 }) (teamSrc t) 0x200B (u8 t ++ u16 idx ++ u8 sub)

/-- Whether a fallback cause acts in the present mode (R236). -/
def fallbackActs (s : State) (cause : Nat) : Bool :=
  switchMode s || (decide (cause = 3) && s.power.stop.isSome)

/-- A fallback cause acts on a team (R236 to R241), up to the staging of its safe plane, which the second part asks for. -/
def beginFallback (s : State) (t cause : Nat) : State × Bool :=
  let x := s.team t
  if ¬ fallbackActs s cause then
    (if cause = 2 then freezeTeam s t (0x6210 + t) 7 else s, false)
  else if x.goodMembers = 0 ∨ x.fallback.isSome ∨ x.held then (s, false)
  else
    let s1 := cancelPending s t 1
    if x.frozen ≠ 0 then (holdTeam s1 t cause, false)
    else if s.running t = some x.goodSafe then (event s1 (teamSrc t) 0x2006 (u8 t ++ u8 cause ++ u64 0), false)
    else if 7 < x.goodSafe ∨ ¬ allIn s t x.goodSafe .valid .staged then (holdTeam s1 t cause, false)
    else
      let s2 := abandonStaging s1 t
      let staged := stagedAll s2 t x.goodSafe
      (s2.updTeam t fun x => { x with fallback := some ⟨cause, s.now, staged, none⟩ }, !staged)

/-- One trigger acts on several teams: those whose safe planes are to be staged stage in one operation, and the edges follow in
order of team number (R237, R239). -/
def triggerFallbacks (s : State) (ts : List Nat) (cause : Nat) : State :=
  let r := ts.foldl (fun (a : State × List (Nat × Nat)) t =>
    let b := beginFallback a.1 t cause
    (b.1, if b.2 then a.2 ++ [(t, (a.1.team t).goodSafe)] else a.2)) (s, [])
  ts.foldl grantFallback (queueStaging r.1 r.2 true)

/-- A fallback cause acts on a team. -/
def triggerFallback (s : State) (t cause : Nat) : State := triggerFallbacks s [t] cause

/-- A pair of a team's objects found mismatched: the team is frozen, once for each fault (R213). -/
def teamFault (s : State) (t sub : Nat) : State :=
  let key := objKey (0x6210 + t) sub
  if s.ecc.faulted.contains key then s else freezeTeam (noteFault (countComp s (0x6210 + t) sub) key) t (0x6210 + t) sub

/-- A team's active plane number compared with its complement: a fault triggers a fallback, once (R213). -/
def checkActive (s : State) (t : Nat) : State :=
  let x := s.team t
  let key := objKey (0x6210 + t) 7
  if x.activeComp = ~~~x.active then { s with ecc.faulted := s.ecc.faulted.filter fun k => decide (k ≠ key) }
  else if s.ecc.faulted.contains key then s
  else triggerFallback (noteFault (compEvent s (0x6210 + t) 7) key) t 2

/-- What a team is kept by, compared at its use (R213). -/
def teamUsed (s : State) (t : Nat) : State :=
  checkActive ([1, 2, 3, 4].foldl (fun s sub => if s.pairOk (0x6210 + t) sub then s else teamFault s t sub) s) t

/-! ### CTX_SWITCH (R252, R253) -/

/-- The payload of CTX_SWITCH.request (R252). -/
def switchRequest (team op plane check : Byte) (time : Nat) : List Byte :=
  [team, op, plane, check] ++ zeros 4 ++ u64 time

/-- Whether a pending switch is a REIN request of this very instant, over which a timed switch goes (R218, R219). -/
def reinJustNow (s : State) (x : Team) : Bool :=
  x.pending.any fun p => decide (p.trigger = 1) && p.drainAt.any fun d => decide (s.now ≤ d)

/-- The condition of an operation and the code it is refused with (R214, R253). -/
def switchCondition (s : State) (t op p time : Nat) : Option Nat :=
  let x := s.team t
  let free := (x.pending.isNone || (decide (op = 1) && reinJustNow s x)) && x.fallback.isNone
  let has := decide (x.goodMembers ≠ 0)
  let running := has && decide (x.frozen = 0) && !x.held && free
  match op with
  | 1 => firstOf
      [need (switchMode s) abState, need running abState,
       need (allIn s t p .valid .staged) abState,
       need (s.tai ≤ time + 1000000000) abRange,
       need (stagedAll s t p || engineRoom s t) abResources]
  | 2 => firstOf
      [need (switchMode s) abState, need running abState,
       need (allIn s t p .valid .valid) abState, need (engineRoom s t) abResources]
  | 3 => firstOf
      [need (switchMode s) abState, need running abState,
       need ((s.members t).any fun g => (s.stagedPlane g).isSome) abState]
  | 4 => need x.pending.isSome abState
  | 5 => firstOf [need (switchMode s) abState, need has abState]
  | _ => firstOf [need s.runOrHold abState, need x.held abState]

/-- A timed switch accepted: staging queued where it is needed, and the switch pending (R215). A REIN request of the same instant
has no effect, busy (R217, R219). -/
def acceptTimed (s : State) (t p time : Nat) : State :=
  let s0 := match (s.team t).pending with
    | some q => event (dropGrants s t) (teamSrc t) 0x2008 (u8 t ++ u8 q.plane ++ u8 0)
    | none => s
  let s1 := if stagedAll s0 t p then s0 else queueStaging s0 [(t, p)] false
  tryGrant (s1.updTeam t fun x =>
    { x with pending := some { trigger := 0, plane := p, due := time, acceptedAt := s.now,
                               drainAt := if s.taiReached time then some s.now else none,
                               late := decide (time < s.tai) || (s.taiReached time && s.clkStopped) } }) t

/-- The staged plane of every member returns to valid (R205). -/
def unstageTeam (s : State) (t : Nat) : State :=
  (s.members t).foldl (fun s g =>
    match s.stagedPlane g with
    | some q => s.setPlane g q .valid
    | none => s) s

/-- A held team resumes on its active plane, with event 0x200F (R240). -/
def releaseTeam (s : State) (t : Nat) : State :=
  event (s.updTeam t fun x => { x with held := false }) (teamSrc t) 0x200F (u8 t)

/-- An accepted operation's effect. What the team is kept by is compared at this use: a team that a fault freezes takes no switch
(R213). -/
def switchApply (s0 : State) (t op p time : Nat) : State :=
  let s := teamUsed s0 t
  if (s.team t).frozen ≠ 0 ∧ op ≤ 3 then s
  else
  match op with
  | 1 => acceptTimed s t p time
  | 2 => queueStaging s [(t, p)] false
  | 3 => unstageTeam s t
  | 4 => cancelPending s t 0
  | 5 => triggerFallback s t 1
  | _ => releaseTeam s t

/-- CTX_SWITCH.request. last_status takes every outcome that passes checks 1 to 6 (R252), held at 0x6220.02. -/
def actSwitch : Action where
  state := fun s who v => need (natAt v 1 1 ≠ 6 ∨ 3 ≤ levelOf s who) abLevel
  value := fun s _ v =>
    let t := natAt v 0 1
    let op := natAt v 1 1
    let p := natAt v 2 1
    firstOf
      [need (natAt v 3 1 = 255 - p) abComplement,
       need (t ≤ 15 ∧ 1 ≤ op ∧ op ≤ 6 ∧ p ≤ (if 4 ≤ op then 0 else 7) ∧ (op = 1 ∨ natAt v 8 8 = 0)) abRange,
       switchCondition s t op p (natAt v 8 8)]
  apply := fun s _ _ v => switchApply s (natAt v 0 1) (natAt v 1 1) (natAt v 2 1) (natAt v 8 8)
  late := fun s _ c => { s with dict.switchStatus := c }

/-- SWITCH_AT_TIME. -/
def execSwitchAtTime (e : Env) (team plane planeCheck : Byte) (time : U64) (s : State) : Res :=
  hostWrite e 0x6220 1 (switchRequest team 1 plane planeCheck time.toNat) actSwitch s

/-- STAGE_PLANE. -/
def execStagePlane (e : Env) (team plane planeCheck : Byte) (s : State) : Res :=
  hostWrite e 0x6220 1 (switchRequest team 2 plane planeCheck 0) actSwitch s

/-- UNSTAGE. -/
def execUnstage (e : Env) (team plane planeCheck : Byte) (s : State) : Res :=
  hostWrite e 0x6220 1 (switchRequest team 3 plane planeCheck 0) actSwitch s

/-- CANCEL_PENDING_SWITCH. -/
def execCancelPendingSwitch (e : Env) (team plane planeCheck : Byte) (s : State) : Res :=
  hostWrite e 0x6220 1 (switchRequest team 4 plane planeCheck 0) actSwitch s

/-- FALL_BACK_NOW. -/
def execFallBackNow (e : Env) (team plane planeCheck : Byte) (s : State) : Res :=
  hostWrite e 0x6220 1 (switchRequest team 5 plane planeCheck 0) actSwitch s

/-- RELEASE_HOLD. -/
def execReleaseHold (e : Env) (team plane planeCheck : Byte) (s : State) : Res :=
  hostWrite e 0x6220 1 (switchRequest team 6 plane planeCheck 0) actSwitch s

/-! ### REIN (R217 to R219) -/

/-- The REIN output busy (R218): from the cycle after an accepted REIN request, from the acceptance of a timed switch, during a
fallback, and while the team is frozen or held. -/
def reinBusy (s : State) (t : Nat) : Bool :=
  let x := s.team t
  decide (x.frozen ≠ 0) || x.held || x.fallback.isSome ||
    x.pending.any fun p => decide (p.trigger = 0) || p.drainAt.any fun d => decide (d < s.now)

/-- The REIN output active of a team's leader (R218): the plane that its members run. -/
def reinActive (s : State) (t : Nat) : Nat := (s.running t).getD 0

/-- The reason for which a REIN request is ignored, in the order of R217. -/
def reinRefusal (s : State) (t p : Nat) : Option Nat :=
  let x := s.team t
  firstOf
    [need (x.frozen = 0 ∧ ¬ x.held) 3, need (x.pending.isNone ∧ x.fallback.isNone) 0,
     need (s.running t ≠ some p) 2, need (stagedAll s t p) 1]

/-- REIN_REQUEST (R217): req asserted at the leader's REIN, sampled at the first team-clock edge from now; the requested edge is
the fourth team-clock edge after that. In Hold, and where no team runs, REIN is not sampled (R249). -/
def execReinRequest (sector : Fin 48) (plane : Fin 8) (s : State) : Res :=
  match s.teamOf sector.val with
  | none => .next s
  | some t =>
    if (s.team t).goodLeader ≠ sector.val ∨ s.mode = .hold ∨ ¬ switchMode s then .next s
    else
      let s := teamUsed s t
      match reinRefusal s t plane.val with
      | some r => .next (event s (teamSrc t) 0x2008 (u8 t ++ u8 plane.val ++ u8 r))
      | none =>
        let a := firstEdge s (s.teamTowers t) (s.teamN t) (edgeBase s)
        let e := nthEdgeAfter s (s.teamTowers t) (s.teamN t) 4 a
        .next (tryGrant (s.updTeam t fun x =>
          { x with pending := some { trigger := 1, plane := plane.val, acceptedAt := s.now, requested := e,
                                     drainAt := some a } }) t)

/-! ### The switch edge (R220 to R226) -/

/-- The captured flip-flop values of a sector saved to the outgoing plane's shadow (R221). -/
def saveShadow (sh ff : AMap Bool) (g p : Nat) : AMap Bool :=
  (ff.filter fun kv => ffSector kv.1 = g).foldl (fun m kv => AMap.set false m (kv.1 * 8 + p) kv.2)
    (sh.filter fun kv => ¬ (ffSector (kv.1 / 8) = g ∧ kv.1 % 8 = p))

/-- The part of a bit table outside a sector, joined with another's part inside it. -/
def takeSector (g : Nat) (outside inside : AMap Bool) : AMap Bool :=
  (inside.filter fun kv => ffSector kv.1 = g).foldl (fun m kv => AMap.set false m kv.1 kv.2)
    (outside.filter fun kv => ¬ ffSector kv.1 = g)

/-- One member sector at the switch edge, once its registers have captured: its flip-flops' values are saved to the outgoing
plane's shadow and to the restore latch of the set that becomes staging; its flip-flops keep them (carried) or take the restore
latch of the set that becomes active (kept); hop and seam registers keep their values (carried) or load 0 (kept, R165, R177). -/
def switchSector (s : State) (g q : Nat) : State :=
  match s.activePlane g with
  | none => s
  | some p =>
    let f := s.fab
    let kept := keptMode s g q
    let f1 := { f with
      shadow := saveShadow f.shadow f.ff g p
      restore := takeSector g f.restore f.ff
      ff := if kept then takeSector g f.ff f.restore else f.ff
      hop := if kept then f.hop.filter (fun kv => ¬ hopSector kv.1 = g) else f.hop
      seamLaunch := if kept then f.seamLaunch.filter (fun kv => ¬ seamIn kv.1 g false) else f.seamLaunch
      seamCapture := if kept then f.seamCapture.filter (fun kv => ¬ seamIn kv.1 g true) else f.seamCapture }
    (({ s with fab := f1 }).setPlane g p .staged).setPlane g q .active

/-- Queued tap requests whose index the taps in force no longer cover end with 0x0B00_0009; the others wait for the tap that
covers it now (R87). -/
def dropUncovered (s : State) : State :=
  let gone := s.dict.taps.filter fun r => r.forwardedAt.isNone ∧ (tapFor s r.index.toNat).isNone
  let kept := (s.dict.taps.filter fun r => ¬ (r.forwardedAt.isNone ∧ (tapFor s r.index.toNat).isNone)).map fun r =>
    match r.forwardedAt, tapFor s r.index.toNat with
    | none, some (t, _) => { r with tap := t }
    | _, _ => r
  gone.foldl (fun s r => answerTap s r abNoTap 0 []) { s with dict.taps := kept }

/-- FENCE_TIMEOUT (R234): fence_timeout has elapsed since the drain began, with transactions still outstanding. -/
def execFenceTimeout (team : Fin 16) (s : State) : Res :=
  let t := team.val
  match (s.team t).pending with
  | none => .next s
  | some p =>
    let busy := fencedBusy s t
    if p.edge.isNone ∧ ¬ p.fenceDone ∧ busy ≠ [] ∧
        p.drainAt.any (fun d => decide (d ≤ s.now) && s.elapsed d (s.num (0x6210 + t) 6)) then
      let s1 := event (s.updTeam t fun x => { x with pending := some { p with fenceDone := true } })
        (teamSrc t) 0x2005 (u8 t ++ u16 busy.length)
      .next (tryGrant s1 t)
    else .next s

/-- Whether a fallback cause has its bit of fallback_mask set, or needs none (R236). -/
def causeEnabled (s : State) (t cause : Nat) : Bool :=
  if cause = 4 then bit (s.num (0x6210 + t) 5) 0 else if cause = 5 then bit (s.num (0x6210 + t) 5) 1 else true

/-- Base ports of a sector have gone down: cause 5 for its team (R236). -/
def portsDown (s : State) (g : Nat) : State :=
  match s.teamOf g with
  | some t =>
    let s := usePair s (0x6210 + t) 5
    if causeEnabled s t 5 then triggerFallback s t 5 else s
  | none => s

/-- FALLBACK_TRIGGER (R237): a cause of R236, codes 1 to 5, acts on a team; code 0 names none. -/
def execFallbackTrigger (team : Fin 16) (cause : Fin 6) (s : State) : Res :=
  let s := usePair s (0x6210 + team.val) 5
  .next (if cause.val = 0 ∨ ¬ causeEnabled s team.val cause.val then s else triggerFallback s team.val cause.val)

/-! ### Team objects (R206 to R213) -/

/-- The sectors of a mask of 48. -/
def maskSectors (v : Nat) : List Nat := bitsSet v 48

/-- Whether two sectors' active planes agree for a new set (R211). -/
def sameActive (s : State) (v : Nat) : Bool :=
  match maskSectors v with
  | [] => true
  | g :: gs => gs.all fun h => decide (s.activePlane h = s.activePlane g)

/-- The subindices 1 to 4 of a team whose stored pair mismatches. -/
def teamFaults (s : State) (t : Nat) : List Nat := [1, 2, 3, 4].filter fun sub => ¬ s.pairOk (0x6210 + t) sub

/-- A team is disbanded: its pending switch is cancelled, its staged planes become valid, a freeze ends, and subindices
still mismatched take their defaults (R211, R213). -/
def disband (s : State) (t : Nat) : State :=
  let s1 := dropStaging (unstageTeam (cancelPending s t 8) t) t
  let bad := teamFaults s1 t
  let s2 := bad.foldl (fun s sub => s.resetObj (0x6210 + t) sub) s1
  s2.updTeam t fun x =>
    { x with goodMembers := 0, frozen := 0, goodClock := s2.num (0x6210 + t) 2, goodLeader := s2.num (0x6210 + t) 3,
             goodSafe := s2.num (0x6210 + t) 4 }

/-- The effect of a new members value. -/
def setMembers (s : State) (t v : Nat) : State :=
  if v = 0 then disband s t
  else
    let s1 := s.updTeam t fun x => { x with goodMembers := BitVec.ofNat 48 v }
    match maskSectors v with
    | [] => s1
    | g :: _ =>
      match s.activePlane g with
      | some p => s1.updTeam t fun x => { x with active := BitVec.ofNat 8 p, activeComp := ~~~(BitVec.ofNat 8 p) }
      | none => s1

/-- CTX_TEAM_n.members (R208, R211). -/
def actMembers (t : Nat) : Action where
  state := fun s _ v =>
    let m := leNat v
    let x := s.team t
    if m = 0 then need (x.fallback.isNone ∧ ¬ x.held) abState
    else firstOf
      [need (x.goodMembers = 0) abState,
       need ((maskSectors m).all fun g => (s.teamOf g).isNone) abState,
       need (¬ s.boot.activated ∨ sameActive s m) abState]
  value := fun s _ v =>
    firstOf [need (leNat v < 2 ^ 48) abRange, need (¬ (s.sealed.enabled ∧ bit (leNat v) 0)) abRange]
  apply := fun s _ _ new => setMembers s t (leNat new)

/-- CTX_TEAM_n.clock, leader or safe_plane, subindex 2 to 4 (R212). -/
def actTeamSetting (t sub : Nat) : Action where
  state := fun s _ _ => need ((s.team t).pending.isNone ∧ (s.team t).fallback.isNone) abState
  value := fun s _ v =>
    if sub = 3 then need (leNat v = 0xFF ∨ (s.team t).goodMembers.getLsbD (leNat v)) abRange else none
  apply := fun s _ _ new =>
    s.updTeam t fun x =>
      match sub with
      | 2 => { x with goodClock := leNat new }
      | 3 => { x with goodLeader := leNat new }
      | _ => { x with goodSafe := leNat new }

/-- TEAM_MEMBERS_WRITE (R211). -/
def execTeamMembersWrite (e : Env) (team : Fin 16) (v c : U64) (s : State) : Res :=
  hostPaired e (0x6210 + team.val) 1 (u64 v.toNat) (u64 c.toNat) (actMembers team.val) s

/-- TEAM_SETTING_WRITE (R212): setting 0 clock, 1 leader, 2 safe plane. -/
def execTeamSettingWrite (e : Env) (team : Fin 16) (setting : Fin 3) (v c : Byte) (s : State) : Res :=
  hostPaired e (0x6210 + team.val) (setting.val + 2) [v] [c] (actTeamSetting team.val (setting.val + 2)) s

/-- CTX_PLANE_CMD.clear (R254). -/
def actPlaneClear : Action where
  state := fun s _ v =>
    let p := field (leNat v) 58 56
    need ((maskSectors (leNat v)).all fun g =>
      s.planeSt g p ≠ .active ∧ s.planeSt g p ≠ .staged ∧ s.planeSt g p ≠ .loading) abState
  value := fun _ _ v => need (leNat v < 2 ^ 59 ∧ field (leNat v) 55 48 = 0) abRange
  apply := fun s _ _ v => (maskSectors (leNat v)).foldl (fun s g => s.setPlane g (field (leNat v) 58 56) .idle) s

/-- PLANE_CLEAR. -/
def execPlaneClear (e : Env) (v : U64) (s : State) : Res := hostWrite e 0x6230 1 (u64 v.toNat) actPlaneClear s

/-! ### Capture (R242 to R248, R255) -/

/-- The sectors armed by FAB_CAPTURE. -/
def captureSectors (s : State) : Nat := s.num 0x6350 1 % 2 ^ 48

/-- The sealed condition of a capture that includes global sector 0 (R248). -/
def captureRight (s : State) (who : Requester) : Bool :=
  !(s.sealed.enabled && bit (captureSectors s) 0) || sealedRight s who

/-- FAB_CAPTURE.command (R255). -/
def actCapture : Action where
  state := fun s who v =>
    match leNat v with
    | 1 => firstOf [need (captureRight s who) abSealed, need s.runOrHold abState, need (s.cap.state = 0) abState]
    | 2 => need (s.cap.state = 1) abState
    | 3 => need (s.cap.state = 3) abState
    | _ => none
  value := fun s _ v => need (leNat v ≠ 1 ∨ s.num 0x6350 3 ≠ 1 ∨ ¬ s.taiReached (s.num 0x6350 4)) abRange
  apply := fun s _ _ v =>
    match leNat v with
    | 1 =>
      { s with cap := { s.cap with
          state := 1, sectors := BitVec.ofNat 48 (captureSectors s), clock := s.num 0x6350 2, trigger := s.num 0x6350 3,
          due := s.num 0x6350 4, sampled := none, edge := none } }
    | 2 => { s with cap := { s.cap with state := 0, edge := none } }
    | _ => { s with cap := { s.cap with state := 0, edge := none, buffers := [] } }

/-- CAPTURE_ARM. -/
def execCaptureArm (e : Env) (s : State) : Res := hostWrite e 0x6350 5 [1] actCapture s
/-- CAPTURE_DISARM. -/
def execCaptureDisarm (e : Env) (s : State) : Res := hostWrite e 0x6350 5 [2] actCapture s
/-- CAPTURE_RELEASE. -/
def execCaptureRelease (e : Env) (s : State) : Res := hostWrite e 0x6350 5 [3] actCapture s

/-- CAPTURE_TRIGGER (R243, R247): trig asserted at a CAPTURE primitive of a sector, sampled at the first edge from now. -/
def execCaptureTrigger (sector : Fin 48) (s : State) : Res :=
  let g := sector.val
  let c := s.cap
  if ¬ c.sectors.getLsbD g ∨ c.state = 0 then .next s
  else if c.state = 1 then
    if c.trigger = 2 ∧ c.edge.isNone ∧ s.mode ≠ .hold then
      let n := s.clockN c.clock
      let a := firstEdge s (captureTowers s) n (edgeBase s)
      .next (counted { s with cap.sampled := some a, cap.edge := some (nthEdgeAfter s (captureTowers s) n 2 a) } (0x1000 + g) 0x06 0 1)
    else .next s
  else .next (event { s with cap.missed := satInc c.missed 0xFFFF } (0x1000 + g) 0x200E (u8 g))

/-- The flip-flop values that a sector's buffer takes at a capture edge: as they stand after the edge, or, where the
edge is its team's switch edge, those the edge saved (R244, R245). -/
def captureValues (s : State) (g r : Nat) : AMap Bool :=
  let atSwitch := match s.teamOf g with
    | some t => decide ((s.team t).lastRoot = some r)
    | none => false
  (if atSwitch then s.fab.restore else s.fab.ff).filter fun kv => ffSector kv.1 = g

/-- CAPTURE_EDGE (R242 to R245): the capture edge has come. routed gives the values copied for flip-flops on routed
clocks that changed within 200 ps of it, each either value. -/
def execCaptureEdge (routed : List (FfId × Bool)) (s : State) : Res :=
  let c := s.cap
  match c.edge with
  | none => .next s
  | some r =>
    if c.state ≠ 1 ∨ s.now < r ∨ s.mode = .hold then .next s
    else
      let secs := maskSectors c.sectors.toNat
      let buf := secs.foldl (fun m g => (captureValues s g r).foldl (fun m kv => AMap.set false m kv.1 kv.2) m) []
      let buf2 := (routed.filter fun x => c.sectors.getLsbD x.1.sector.val).foldl
        (fun m x => AMap.set false m (ffNum x.1) x.2) buf
      .next { s with cap := { c with state := 2, copiedAt := s.now, edgeTime := s.taiAt r, buffers := buf2 } }

/-- CAPTURE_COPY_DONE (R246): the buffers are full, done is asserted in every armed sector, event 0x200D. -/
def execCaptureCopyDone (s : State) : Res :=
  if s.cap.state ≠ 2 then .next s
  else
    let s1 := (maskSectors s.cap.sectors.toNat).foldl (fun s g => s.emit (.capture g)) { s with cap.state := 3 }
    .next (event s1 0x0000 0x200D (leBytes s.cap.sectors.toNat 6 ++ u64 s.cap.edgeTime))

/-- The 65,536 bytes of a sector's capture buffer (R256). -/
def captureBytes (s : State) (g : Nat) : List Byte :=
  (List.range 16384).flatMap fun t =>
    u32 (bitsNat ((List.range 32).map fun b => AMap.get false s.cap.buffers (g * 524288 + t * 32 + b)))

end Sys2Proof.Machine
end

