-- ==== Sys2Proof/Machine/Dram.lean ====
section
/-! DEFINITION. DRAM lines as stored (10, 11): decode, classification, retirement, remap, row disturbance, and the raw
line accesses that every higher access goes through. -/

namespace Sys2Proof.Machine

/-! ### Decode (R428 to R432) -/

/-- The bytes of one rank's part of the address range: 12 GiB. -/
def rankBytes : Nat := 0x300000000
/-- The lines of a channel-rank. -/
def rankLines : Nat := 6291456

/-- Where a line lies: rank, global channel, pseudo-channel, bank, row, column, and its number idx within its
channel-rank in order of o. -/
structure DLoc where
  rank : Nat
  chan : Nat
  pc : Nat
  bank : Nat
  row : Nat
  col : Nat
  idx : Nat
  deriving DecidableEq, Repr

/-- The exclusive-or of R432 over u. -/
def foldU (u : Nat) : Nat :=
  field u 4 0 ^^^ field u 9 5 ^^^ field u 14 10 ^^^ field u 19 15 ^^^ field u 20 20

/-- The place of a DRAM window address (R431, R432). -/
def dloc (a : Nat) : DLoc :=
  let o := a % rankBytes
  let u := o / 256 / 32
  ⟨a / rankBytes, field (o / 256) 4 0 ^^^ foldU u, field o 6 6, field u 5 3 * 4 + field u 7 6, u / 256,
   field u 2 0 * 2 + field o 7 7, u * 4 + field o 7 6⟩

/-- The offset o of line i of a channel. -/
def lineOff (ch i : Nat) : Nat := (i / 4 * 32 + (ch ^^^ foldU (i / 4))) * 256 + i % 4 * 64

/-- The stored address of a remap spare: hidden row 6,159 lies past every rank's lines. -/
def spareAddr (ch rank pc e : Nat) : Nat := 4 * rankBytes + (((ch * 4 + rank) * 2 + pc) * 8 + e) * 64

/-- Bits [59:35] of a remap entry for a line of a rank. -/
def remapLine (rank : Nat) (l : DLoc) : Nat := (((rank * 2 + l.pc) * 32 + l.bank) * 8192 + l.row) * 16 + l.col

/-- The usable DRAM (R461). -/
def capacity (s : State) : Nat := if s.dram.sparesInForce then 3 * rankBytes else 4 * rankBytes

/-! ### Channels, stacks, banks -/

/-- Channel c. -/
def State.chan (s : State) (c : Nat) : Channel := AMap.get {} s.dram.chans c

/-- Channel c changed. -/
def State.updChan (s : State) (c : Nat) (f : Channel → Channel) : State :=
  { s with dram.chans := AMap.upd {} s.dram.chans c f }

/-- The chronicle source of a channel. -/
def chanSrc (c : Nat) : Nat := 0x5000 + c
/-- The chronicle source of a stack. -/
def stackSrc (m : Nat) : Nat := 0x5100 + m

/-- The state of stack m. -/
def stackState (s : State) (m : Nat) : Nat := AMap.get 0 s.dram.stack m

/-- Bitwise majority of three (R462). -/
def majority (a b c : Nat) : Nat := (a &&& b) ||| (a &&& c) ||| (b &&& c)

/-- The retirement state of a channel, by majority. -/
def retOf (c : Channel) : RetCopy :=
  ⟨majority c.c0.ranks c.c1.ranks c.c2.ranks, majority c.c0.hosted c.c1.hosted c.c2.hosted,
   majority c.c0.pointer c.c1.pointer c.c2.pointer⟩

/-- The copies of a channel's retirement state brought to their majority, with event 0x400F where one disagreed. -/
def settleRet (s : State) (ch : Nat) : State :=
  let c := s.chan ch
  let r := retOf c
  if c.c0 = r ∧ c.c1 = r ∧ c.c2 = r then s
  else event (s.updChan ch fun c => { c with c0 := r, c1 := r, c2 := r }) (chanSrc ch) 0x400F (u8 ch)

/-- A channel's retirement state replaced in its three copies. -/
def setRet (s : State) (ch : Nat) (r : RetCopy) : State := s.updChan ch fun c => { c with c0 := r, c1 := r, c2 := r }

/-- The state of rank k: 0 in service, 1 retiring, 2 retired, 3 free spare. -/
def rankState (r : RetCopy) (k : Nat) : Nat := field r.ranks (2 * k + 1) (2 * k)

/-- Rank k brought to a state. -/
def setRankState (r : RetCopy) (k v : Nat) : RetCopy := { r with ranks := r.ranks - rankState r k * 4 ^ k + v * 4 ^ k }

/-- The rank that serves line i of rank k, where one does (R456, R457). -/
def servingRank (c : Channel) (k i : Nat) : Option Nat :=
  let r := retOf c
  match rankState r k with
  | 0 => some k
  | 1 => if i < r.pointer then (if rankState r 3 = 0 then some 3 else none) else if rankState r 3 = 0 then some k else none
  | 2 => if r.hosted = k ∧ c.mig = 2 ∧ rankState r 3 = 0 then some 3 else none
  | _ => none

/-- The device ranks whose lines a physical rank of a channel stores. -/
def ranksStored (s : State) (ch k : Nat) : List Nat := (List.range 4).filter fun d => decide (servingRank (s.chan ch) d 0 = some k) || decide (d = k)

/-- Bank key. -/
def bankKey (ch pc rank bank : Nat) : Nat := ((ch * 2 + pc) * 4 + rank) * 32 + bank
/-- The key of a named bank. -/
def bankIdKey (b : BankId) : Nat := bankKey b.channel.val (b2n b.pcB) b.rank.val b.bank.val
/-- A DRAM bank. -/
def State.dbank (s : State) (k : Nat) : DBank := AMap.get {} s.dram.banks k
/-- A DRAM bank changed. -/
def State.updBank (s : State) (k : Nat) (f : DBank → DBank) : State := { s with dram.banks := AMap.upd {} s.dram.banks k f }

/-! ### Row disturbance (R447, R448) -/

/-- The entry that an activate of a row counts in: its own, a free one, a new one, or the lowest. Entries hold
row + 1, and 0 where free. -/
def activateSlot (t : List (Nat × Nat)) (row : Nat) : Nat :=
  match indexOf? (fun e => decide (e.1 = row + 1)) t with
  | some i => i
  | none =>
    match indexOf? (fun e => decide (e.1 = 0)) t with
    | some i => i
    | none =>
      if t.length < 16 then t.length
      else
        let low := t.foldl (fun m e => min m e.2) 2047
        (indexOf? (fun e => decide (e.2 = low)) t).getD 0

/-- The activate table after an activate of a row, and whether its neighbours are due. -/
def onActivate (t : List (Nat × Nat)) (row threshold : Nat) : List (Nat × Nat) × Bool :=
  let i := activateSlot t row
  let t1 := if i < t.length then t else t ++ [(0, 0)]
  let n := min ((t1.getD i (0, 0)).2 + 1) 2047
  if threshold ≤ n then (setAt t1 i (0, 0), true) else (setAt t1 i (row + 1, n), false)

/-- DRAM_CFG's maint_cap or act_threshold found mismatched: it takes 5 or 256 (R465). -/
def dramFallback (s : State) (sub : Nat) : State :=
  compEvent (s.putObj 0x6601 sub (if sub = 4 then u16 256 else u8 5)) 0x6601 sub

/-- A setting of DRAM_CFG compared at its use (R46). -/
def useDram (s : State) (sub : Nat) : State := if s.pairOk 0x6601 sub then s else dramFallback s sub

/-- An access to a row of a bank: an activate where the row is not open (R438). -/
def touchRow (s : State) (key row : Nat) : State :=
  if (s.dbank key).openRow = some row then s
  else
    let s := useDram s 4
    s.updBank key fun b =>
      let r := onActivate b.table row (s.num 0x6601 4)
      { b with openRow := some row, table := r.1,
               nref := if r.2 ∧ b.nref.length < 4 then b.nref ++ [(row, s.now)] else b.nref }

/-! ### Counting and classes (R470, ECC_DRAM) -/

/-- What a read line turns out to be. -/
inductive LineClass where
  | good | corrected | poisoned | bad
  deriving DecidableEq, Repr

/-- The class of a line with a number of symbols in error (R470). -/
def classify (poison : Bool) (symbols : Nat) : LineClass :=
  if poison then (if symbols ≤ 1 then .poisoned else .bad)
  else if symbols = 0 then .good
  else if symbols ≤ 2 then .corrected
  else .bad

/-- The class that a read gives a line: with more than six symbols in error it may be good or corrected, with wrong data (R470). -/
def lineClass (s : State) (poison : Bool) (symbols : Nat) : LineClass :=
  if ¬ poison ∧ 6 < symbols then
    match (Config.freeBits s.freeCtr).toNat % 3 with
    | 0 => .good
    | 1 => .corrected
    | _ => .bad
  else classify poison symbols

/-- The bytes that a read answers for a stored line, by its class: free where more than six symbols err. -/
def lineBytes (s : State) (symbols : Nat) (k : LineClass) (data : List Byte) : List Byte :=
  if 6 < symbols ∧ (k = .good ∨ k = .corrected) then
    (List.range 8).flatMap fun i => leBytes (Config.freeBits (s.freeCtr + 1 + i)).toNat 8
  else data

/-- The free values of a read drawn. -/
def lineDrew (s : State) (symbols : Nat) : State := if 6 < symbols then s.drew 9 else s

/-- Whether a stored line is in a channel's watch table (R478). -/
def watched (c : Channel) (phys : Nat) : Bool := c.watch.any fun w => decide (w.1 = phys / 64)

/-- ECC_DRAM with a read of a class counted. -/
def countLine (c : Channel) (k : LineClass) : Channel :=
  let d := match k with
    | .corrected => { c with corrected := satInc c.corrected 0x7FFFFF }
    | .poisoned => { c with poisoned := satInc c.poisoned 0xFFFF }
    | .bad => { c with uncorrectable := satInc c.uncorrectable 255 }
    | .good => c
  { d with saturated := d.saturated || decide (d.corrected = 0x7FFFFF) || decide (d.poisoned = 0xFFFF) || decide (d.uncorrectable = 255) }

/-- The record of a read of a class. -/
def lineEvent (s : State) (ch a init symbols : Nat) (k : LineClass) : State :=
  match k with
  | .good => s
  | .corrected => event s (chanSrc ch) 0x5001 (u64 a ++ u8 symbols)
  | .poisoned => event s (chanSrc ch) 0x5003 (u64 a ++ u8 init)
  | .bad => event s (chanSrc ch) 0x5002 (u64 a ++ u8 init)

/-! ### Retirement (R455 to R460) -/

/-- The events of a retirement. -/
def retireEvents (s : State) (ch k cause withSpare : Nat) : State :=
  let s1 := event { s with dram.retired := satInc s.dram.retired 255 } (chanSrc ch) 0x4008 (u8 ch ++ u8 k ++ u8 cause ++ u8 withSpare)
  event s1 (chanSrc ch) (if withSpare = 1 then 0x4009 else 0x400B) (u8 ch ++ u8 k)

/-- A channel-rank is retired: cause 0 uncorrectable, 1 parity, 2 host. -/
def retireRank (s0 : State) (ch k cause : Nat) : State :=
  let s := settleRet s0 ch
  let c := s.chan ch
  let r := retOf c
  let st := rankState r k
  if st = 1 ∨ st = 2 then s
  else if k = 3 ∧ st = 3 then event (setRet s ch (setRankState r 3 2)) (chanSrc ch) 0x4012 (u8 ch)
  else if k ≠ 3 ∧ s.dram.sparesInForce ∧ rankState r 3 = 3 ∧ r.hosted = 7 then
    let r1 := { setRankState (setRankState r k 1) 3 0 with hosted := k, pointer := 0 }
    retireEvents ((setRet s ch r1).updChan ch fun c => { c with mig := 1, migRank := k, migHeldAt := none, migPoisoned := 0 }) ch k cause 1
  else
    let s1 := (setRet s ch (setRankState r k 2)).updChan ch fun c =>
      if k = 3 ∧ c.mig = 1 then { c with mig := 3, migHeldAt := none } else c
    retireEvents s1 ch k cause 0

/-! ### Remap (R479 to R483) -/

/-- Whether a remap entry agrees with its complement. -/
def remapOk (e : Remap) : Bool := decide (e.comp + (b2n e.valid * 2 ^ 25 + e.line) = 2 ^ 26 - 1)

/-- The entries of a channel with their numbers. -/
def remaps (c : Channel) : List (Nat × Remap) := (List.range 8).map fun e => (e, AMap.get {} c.remap e)

/-- A complement fault in a remap entry makes it faulted (R483). -/
def faultRemap (s : State) (ch e : Nat) : State :=
  let s1 := s.updChan ch fun c => { c with remap := AMap.upd {} c.remap e fun r => { r with faulted := true } }
  event (countComp s1 (if ch < 16 then 0x6711 else 0x6712) (8 * (ch % 16) + e + 1)) (chanSrc ch) 0x500C (u8 ch ++ u8 e)

/-- The remap pairs of a channel compared at a use. -/
def checkRemaps (s : State) (ch : Nat) : State :=
  (remaps (s.chan ch)).foldl (fun s e => if e.2.faulted ∨ remapOk e.2 then s else faultRemap s ch e.1) s

/-- What the remap table makes of a line: none in place, some none refused by a faulted entry, some e an entry. -/
def remapOf (c : Channel) (rank : Nat) (l : DLoc) : Option (Option Nat) :=
  let x := remapLine rank l
  if (remaps c).any fun e => e.2.faulted && (decide (e.2.line = x) || decide ((2 ^ 26 - 1 - e.2.comp) % 2 ^ 25 = x)) then some none
  else
    match (remaps c).find? fun e => e.2.valid && !e.2.faulted && decide (e.2.line = x) with
    | some e => some (some e.1)
    | none => none

/-- A hard fault is remapped (R480, R481): spareErrs tells for each entry tried whether its read-back errs. -/
def remapGo (ch rank : Nat) (l : DLoc) (a : Nat) (data : List Byte) (tai : Nat) :
    List Nat → List Bool → State → State
  | [], _, s =>
    if (s.chan ch).remapFullNoted then s
    else event (s.updChan ch fun c => { c with remapFullNoted := true }) (chanSrc ch) 0x5009 (u8 ch ++ u64 a)
  | e :: es, errs, s =>
    let r := AMap.get {} (s.chan ch).remap e
    if r.valid ∨ r.faulted ∨ r.spareBad then remapGo ch rank l a data tai es errs s
    else if errs.headD false then
      let s1 := s.updChan ch fun c => { c with remap := AMap.set {} c.remap e { r with spareBad := true } }
      remapGo ch rank l a data tai es errs.tail (event s1 (chanSrc ch) 0x5008 (u8 ch ++ u8 e))
    else
      let x := remapLine rank l
      let s1 := s.updChan ch fun c =>
        { c with remap := AMap.set {} c.remap e
                   { r with valid := true, line := x, comp := 2 ^ 26 - 1 - (2 ^ 25 + x), time := tai / 1000000000 % 2 ^ 32 } }
      let s2 := { s1 with dram.mem := Memory.write s1.dram.mem (spareAddr ch rank l.pc e) data }
      event s2 (chanSrc ch) 0x5007 (u8 ch ++ u8 e ++ u64 a)

/-- A line is a hard fault (R476, R478). -/
def hardFault (s : State) (ch rank : Nat) (l : DLoc) (a : Nat) (data : List Byte) (spareErrs : List Bool) : State :=
  let s1 := s.updChan ch fun c =>
    let n := satInc c.hardFaults 255
    { c with hardFaults := n, saturated := c.saturated || decide (n = 255) }
  remapGo ch rank l a data s.tai (List.range 8) spareErrs s1

/-! ### Raw lines -/

/-- Where a line of an address is stored: the address of its bytes, with its rank, or the status that refuses it. -/
inductive Place where
  | at_ (phys rank : Nat) (spare : Bool)
  | no (status : Nat)
  deriving DecidableEq, Repr

/-- Whether a Service test has a channel-rank in hand (R464, R673). -/
def rankUnderTest (s : State) (ch k : Nat) : Bool :=
  decide (s.test.testState = 1) && decide (s.test.testKind = 5) && decide (s.test.testTarget = ch * 4 + k)

/-- The place of the line at device address a (R426, R453, R456, R464, R479). -/
def placeOf (s : State) (a : Nat) : Place :=
  let l := dloc a
  let c := s.chan l.chan
  if stackState s (l.chan / 16) ≠ 2 then .no 7
  else if bit c.pcDown l.pc then .no 2
  else
    match servingRank c l.rank l.idx with
    | none => .no 2
    | some k =>
      if rankUnderTest s l.chan k then .no 7
      else match remapOf c k l with
      | some none => .no 2
      | some (some e) => .at_ (spareAddr l.chan k l.pc e) k true
      | none => .at_ (k * rankBytes + a % rankBytes / 64 * 64) k false

/-- The 64 bytes stored at a stored address. -/
def storedLine (s : State) (phys : Nat) : List Byte := Memory.read s.dram.mem phys 64

/-- A line stored, poisoned or not (R471). -/
def storeLine (s : State) (phys : Nat) (data : List Byte) (poison : Bool) : State :=
  { s with dram.mem := Memory.write s.dram.mem phys (padTo data 64), dram.poison := AMap.set false s.dram.poison (phys / 64) poison }

/-- An access to a bank's row, with the channel's activates, row hits and conflicts counted (R681). -/
def useRow (s : State) (ch key row : Nat) : State :=
  match (s.dbank key).openRow with
  | none => touchRow (counted s (chanSrc ch) 0x01 0 1) key row
  | some r =>
    if r = row then counted s (chanSrc ch) 0x04 0 1
    else touchRow (counted (counted s (chanSrc ch) 0x05 0 1) (chanSrc ch) 0x01 0 1) key row

/-- The bank and row of an access. -/
def accessRow (s : State) (l : DLoc) (rank : Nat) (spare : Bool) : State :=
  if spare then useRow s l.chan (bankKey l.chan l.pc rank 31) 6159 else useRow s l.chan (bankKey l.chan l.pc rank l.bank) l.row

/-- What a raw read answers: a status (0 good or corrected, 2 refused, 3 poisoned, 7 off, 8 uncorrectable) and bytes. -/
abbrev RawRead := State × Nat × List Byte

/-- A raw read of the line at device address a by an initiator, with a number of symbols in error (R436, R470 to
R472, R478). -/
def rawRead (s0 : State) (a init symbols : Nat) (spareErrs : List Bool) : RawRead :=
  let l := dloc a
  let s := checkRemaps (settleRet s0 l.chan) l.chan
  match placeOf s a with
  | .no st => (s, st, zeros 64)
  | .at_ phys rank spare =>
    let k := lineClass s (AMap.get false s.dram.poison (phys / 64)) symbols
    let data := lineBytes s symbols k (storedLine s phys)
    let s1 := (accessRow (lineDrew s symbols) l rank spare).updChan l.chan (countLine · k)
    let s2 := counted (lineEvent s1 l.chan a init symbols k) (chanSrc l.chan) 0x02 0 1
    match k with
    | .good => (s2, 0, data)
    | .corrected =>
      let s3 := counted s2 (chanSrc l.chan) 0x0F 0 1
      (if watched (s3.chan l.chan) phys ∧ ¬ spare then hardFault s3 l.chan rank l a data spareErrs else s3, 0, data)
    | .poisoned => (s2, 3, data)
    | .bad => (retireRank s2 l.chan rank 0, 8, data)

/-- A raw write of the line at device address a; its status 0, 2 or 7. -/
def rawWrite (s0 : State) (a : Nat) (data : List Byte) (poison : Bool) : State × Nat :=
  let l := dloc a
  let s := checkRemaps (settleRet s0 l.chan) l.chan
  match placeOf s a with
  | .no st => (s, st)
  | .at_ phys rank spare => (counted (storeLine (accessRow s l rank spare) phys data poison) (chanSrc l.chan) 0x03 0 1, 0)

/-- The status that a requester sees for a raw status (R470). -/
def visible (st : Nat) : Nat := if st = 8 then 2 else st

/-! ### Budgets (R441, R454), in units of 1/6000 of a line transfer -/

/-- The units of one line transfer. -/
def perLine : Nat := 6000

/-- The maintenance budget of a channel credited up to now: maint_cap % of 800 transfers per µs, at most one µs's. -/
def refillBudget (s : State) (ch : Nat) : State :=
  let s := useDram s 3
  let cap : Int := s.num 0x6601 3
  s.updChan ch fun c =>
    { c with budget := max (min c.budget (48000 * cap)) (min (48000 * cap) (c.budget + ((s.now - c.budgetAt : Nat) : Int) * cap * 5)),
             budgetAt := s.now }

/-- The budget debited by n transfers, to no less than -1,024. -/
def debit (s : State) (ch n : Nat) : State :=
  s.updChan ch fun c => { c with budget := max (-6144000) (c.budget - ((n * perLine : Nat) : Int)) }

/-- The data-bus share of normal and bulk requests credited up to now: 400 transfers per µs. -/
def refillHeat (s : State) (ch : Nat) : State :=
  s.updChan ch fun c =>
    { c with heat := min 2400000 (c.heat + ((s.now - c.heatAt : Nat) : Int) * 250), heatAt := s.now }

/-- Whether a channel's stack is throttled (R454). -/
def stackThrottled (s : State) (ch : Nat) : Bool := bit s.dram.throttled (ch / 16)

end Sys2Proof.Machine
end

