-- ==== Sys2Proof/Machine/Regions.lean ====
section
/-! DEFINITION. The encryption engines and the metadata unit (12): what a line of a region reads as and how it is written. -/

namespace Sys2Proof.Machine

/-! ### Regions (R498 to R501) -/

/-- Whether the device holds region 15 itself (R500). -/
def heldRegion (s : State) (r : Nat) : Bool := s.sealed.enabled && decide (r = 15)

/-- The mode of region r. -/
def regionMode (s : State) (r : Nat) : Nat := if heldRegion s r then 2 else s.num (0x6810 + r) 1
/-- The base of region r. -/
def regionBase (s : State) (r : Nat) : Nat := if heldRegion s r then 0 else s.num (0x6810 + r) 2
/-- The size of region r. -/
def regionSize (s : State) (r : Nat) : Nat := if heldRegion s r then 0x4000000 else s.num (0x6810 + r) 3
/-- The key slot of region r. -/
def regionSlot (s : State) (r : Nat) : Nat := if heldRegion s r then 31 else s.num (0x6810 + r) 4
/-- The base of region r's metadata span. -/
def regionMeta (s : State) (r : Nat) : Nat := if heldRegion s r then 0x4000000 else s.num (0x6810 + r) 5

/-- Region r's own state. -/
def State.region (s : State) (r : Nat) : Region := AMap.get {} s.crypt.regions r
/-- Region r's own state changed. -/
def State.updRegion (s : State) (r : Nat) (f : Region → Region) : State :=
  { s with crypt.regions := AMap.upd {} s.crypt.regions r f }

/-- The region that covers an address with its data span. -/
def regionOf (s : State) (a : Nat) : Option Nat :=
  (List.range 16).find? fun r =>
    (s.region r).state ≠ 0 ∧ regionBase s r ≤ a ∧ a < regionBase s r + regionSize s r

/-- The authenticated region whose metadata span holds an address. -/
def metaRegionOf (s : State) (a : Nat) : Option Nat :=
  (List.range 16).find? fun r =>
    (s.region r).state ≠ 0 ∧ regionMode s r = 2 ∧ regionMeta s r ≤ a ∧ a < regionMeta s r + (s.region r).metaLength

/-- The source of a region's events. -/
def regionSrc (r : Nat) : Nat := 0x6100 + r
/-- The source of an engine's events: the stack of the line. -/
def engineSrc (a : Nat) : Nat := 0x6000 + (dloc a).chan / 16
/-- The source of the metadata unit's events. -/
def metaSrc : Nat := 0x6002

/-- Whether an initiator is outer (R376). -/
def isOuter (init : Nat) : Bool := decide (init = 0x70) || decide (init = 0x71)

/-! ### Metadata layout (R506 to R509) -/

/-- The nodes of level l over n data lines. -/
def levelNodes (n l : Nat) : Nat := (n + 64 ^ (l + 1) - 1) / 64 ^ (l + 1)
/-- The top level over n data lines: the first with one node. -/
def topLevel (n : Nat) : Nat := ((List.range 5).find? fun l => decide (levelNodes n l ≤ 1)).getD 4
/-- The nodes below level l. -/
def levelStart (n l : Nat) : Nat := (List.range l).foldl (fun m i => m + levelNodes n i) 0
/-- All nodes. -/
def nodeTotal (n : Nat) : Nat := levelStart n (topLevel n + 1)
/-- meta_length for n data lines. -/
def metaLengthOf (n : Nat) : Nat :=
  let lines := (n + 7) / 8 + nodeTotal n + (nodeTotal n + 7) / 8
  (lines * 64 + 65535) / 65536 * 65536

/-- The data lines of region r. -/
def regionLines (s : State) (r : Nat) : Nat := regionSize s r / 64
/-- The address of the tag line of data line j. -/
def tagAddr (s : State) (r j : Nat) : Nat := regionMeta s r + j / 8 * 64
/-- The address of node m of level l. -/
def nodeAddr (s : State) (r l m : Nat) : Nat :=
  let n := regionLines s r
  regionMeta s r + (n / 8 + levelStart n l + m) * 64
/-- The address of the node tag line of node m of level l, and its slot. -/
def nodeTagAddr (s : State) (r l m : Nat) : Nat × Nat :=
  let n := regionLines s r
  let k := levelStart n l + m
  (regionMeta s r + (n / 8 + nodeTotal n + k / 8) * 64, k % 8)

/-- The region, level and number of the node stored at a metadata address. -/
def nodeAt (s : State) (a : Nat) : Option (Nat × Nat × Nat) :=
  match metaRegionOf s a with
  | none => none
  | some r =>
    let n := regionLines s r
    let k := (a - regionMeta s r) / 64
    if k < n / 8 ∨ n / 8 + nodeTotal n ≤ k then none
    else
      let m := k - n / 8
      match (List.range (topLevel n + 1)).find? fun l => decide (m < levelStart n (l + 1)) with
      | some l => some (r, l, m - levelStart n l)
      | none => none

/-- The major counter of a node line. -/
def nodeMajor (b : List Byte) : Nat := leNat b % 2 ^ 48
/-- The minor counter of child k of a node line. -/
def nodeMinor (b : List Byte) (k : Nat) : Nat := field (leNat b) (7 * k + 54) (7 * k + 48)
/-- A node line with the minor of child k replaced. -/
def setMinor (b : List Byte) (k v : Nat) : List Byte :=
  leBytes (leNat b - nodeMinor b k * 2 ^ (7 * k + 48) + v * 2 ^ (7 * k + 48)) 64
/-- A node line with a major and every minor 0. -/
def freshNode (major : Nat) : List Byte := leBytes major 64

/-! ### Keystream and tags (R504, R505) -/

/-- The 16 bytes of a counter block, least significant byte first (log entry 14). -/
def counterBlock (domain a major minor block : Nat) : List Byte :=
  leBytes (domain * 2 ^ 127 + (a / 64 % 2 ^ 42) * 2 ^ 85 + major * 2 ^ 37 + minor * 2 ^ 30 + block * 2 ^ 28) 16

/-- K1 of a region. -/
def regionK1 (s : State) (r : Nat) : List Byte := (AMap.get [] s.crypt.slots (regionSlot s r)).take 32
/-- K2 of a region. -/
def regionK2 (s : State) (r : Nat) : List Byte := (AMap.get [] s.crypt.slots (regionSlot s r)).drop 32

/-- A line enciphered, or deciphered, under a version. -/
@[irreducible] def keystreamXor (k1 : List Byte) (a major minor : Nat) (data : List Byte) : List Byte :=
  xorBytes data ((List.range 4).flatMap fun i => Crypto.aesEnc k1 (counterBlock 0 a major minor i))

/-- The tag of a line's stored bytes under a version. -/
@[irreducible] def tagOf (k1 k2 : List Byte) (a major minor : Nat) (stored : List Byte) : Nat :=
  let h := leNat (k2.take 8)
  let acc := (List.range 8).foldl (fun acc i => Crypto.gf64 (acc ^^^ natAt stored (8 * i) 8) h) 0
  acc ^^^ leNat ((Crypto.aesEnc k1 (counterBlock 1 a major minor 0)).take 8)

/-- The tag of a line of a region. -/
def lineTag (s : State) (r a major minor : Nat) (stored : List Byte) : Nat :=
  tagOf (regionK1 s r) (regionK2 s r) a major minor stored

/-! ### Locks, failed lines, poisoned subtrees (R518 to R521, R527) -/

/-- A region locks for a cause. -/
def lockRegion (s : State) (r cause : Nat) : State := s.updRegion r fun x => { x with state := 3, lock := cause }

/-- A line enters the failed-line table, with event 0x6003 (R519, R520). -/
def failLine (s : State) (r a init : Nat) : State :=
  let c := s.crypt
  let s1 := event (counted { s with crypt := { c with tagFailures := satInc c.tagFailures maxU32 } } (engineSrc a) 0x05 0 1) (engineSrc a) 0x6003 (u8 r ++ u64 a ++ u8 init)
  if c.failed.contains a then s1
  else
    match c.failed with
    | old :: rest =>
      if c.failed.length < 64 then { s1 with crypt.failed := c.failed ++ [a] }
      else event { s1 with crypt.failed := rest ++ [a] } metaSrc 0x600D (u64 old)
    | [] => { s1 with crypt.failed := [a] }

/-- The subtree of a failed node is poisoned (R519, R521): cause 0 node tag, 1 uncorrectable, 2 poisoned, 3 cache word. -/
def poisonSubtree (s : State) (r l m cause : Nat) : State :=
  let s1 := event s metaSrc 0x6005 (u8 r ++ u8 l ++ u32 m ++ u8 cause)
  if s.crypt.poison.length < 32 then
    { s1 with crypt.poison := s1.crypt.poison ++ [⟨r, l, m, s.tai / 1000000000 % 2 ^ 24⟩] }
  else event (lockRegion s1 r 2) (regionSrc r) 0x600C (u8 r)

/-- Whether data line j of a region lies in a poisoned subtree. -/
def subtreePoisoned (s : State) (r j : Nat) : Bool :=
  s.crypt.poison.any fun e => decide (e.region = r) && decide (j / 64 ^ (e.level + 1) = e.node)

/-- Whether a root agrees with its complement. -/
def rootOk (x : Region) : Bool := decide (x.rootComp = ~~~x.root)

/-- A complement fault of a region's root, mode or key slot (R527); sub names the object. -/
def regionCompFault (s : State) (r sub : Nat) : State :=
  event (lockRegion (countComp s (0x6810 + r) sub) r 3) (regionSrc r) 0x6008 (u8 r ++ u16 (0x6810 + r) ++ u8 sub)

/-- A major overflow locks a region (R518). -/
def majorOverflow (s : State) (r l m : Nat) : State :=
  event (lockRegion s r 1) (regionSrc r) 0x6007 (u8 r ++ u8 l ++ u32 m)

/-! ### The metadata cache (R510 to R512) -/

/-- A metadata line held. -/
def cached (s : State) (a : Nat) : Option (List Byte × Bool) :=
  (s.crypt.cache.find? fun e => decide (e.1 = a)).map (·.2)

/-- A metadata line held, or replaced. -/
def cachePut (s : State) (a : Nat) (data : List Byte) (dirty : Bool) : State :=
  { s with crypt.cache := AMap.ins s.crypt.cache a (data, dirty) }

/-- A lookup counted; figures cover each past millisecond. -/
def cacheLook (s : State) (hit : Bool) : State :=
  let c := s.crypt
  let c1 := if 9600000 ≤ s.now - c.hitAt then
      { c with hitPm := if c.hits + c.misses = 0 then 0 else c.hits * 1000 / (c.hits + c.misses), hits := 0, misses := 0, hitAt := s.now }
    else c
  let s1 := { s with crypt := { c1 with hits := c1.hits + b2n hit, misses := c1.misses + b2n (!hit) } }
  (List.range 2).foldl (fun s m => counted s (0x6000 + m) (if hit then 0x03 else 0x04) 0 1) s1

/-- The symbols in error that a step gives for a line. -/
def symsAt (errs : List (Nat × Nat)) (a : Nat) : Nat := ((errs.find? fun e => decide (e.1 = a / 64)).map (·.2)).getD 0

/-- Whether a step gives an uncorrectable word in the metadata cache's copy of a line: the line's number with bit 42 set. -/
def cacheBad (errs : List (Nat × Nat)) (a : Nat) : Bool := errs.any fun e => decide (e.1 = 2 ^ 42 + a / 64)

/-- A line discarded from the metadata cache. -/
def cacheDrop (s : State) (a : Nat) : State := { s with crypt.cache := AMap.del s.crypt.cache a }

/-- What a lookup of a node line finds in the cache, and whether a dirty copy has an uncorrectable word; a clean copy with one is
handled as a miss (R512). -/
def cacheFind (s : State) (errs : List (Nat × Nat)) (a : Nat) : Option (List Byte × Bool) :=
  match cached s a with
  | none => none
  | some (b, dirty) => if ¬ cacheBad errs a then some (b, false) else if dirty then some (b, true) else none

/-- The version that a region's root gives its top node. -/
def rootVersion (x : Region) : Nat × Nat := (field x.root.toNat 54 7, field x.root.toNat 6 0)

/-- A node line, from the cache, or from DRAM once its tag verifies against its parent's version (R510, R512, R513, R519).
fuel is the number of levels above it; the status is 0, 2, 6 or 7. -/
def fetchNode (r init : Nat) (errs : List (Nat × Nat)) : Nat → Nat → Nat → State → RawRead
  | fuel, l, m, s0 =>
    let a := nodeAddr s0 r l m
    match cacheFind s0 errs a with
    | some (b, false) => (cacheLook s0 true, 0, b)
    | some (_, true) => (poisonSubtree (cacheDrop (cacheLook s0 true) a) r l m 3, 6, zeros 64)
    | none =>
      let s := cacheLook (cacheDrop s0 a) false
      let up : State × Nat × (Nat × Nat) := match fuel with
        | 0 => if rootOk (s.region r) then (s, 0, rootVersion (s.region r)) else (regionCompFault s r 0x0A, 6, (0, 0))
        | f + 1 =>
          let p := fetchNode r init errs f (l + 1) (m / 64) s
          (p.1, p.2.1, (nodeMajor p.2.2, nodeMinor p.2.2 (m % 64)))
      if up.2.1 ≠ 0 then (up.1, up.2.1, zeros 64)
      else
        let d := rawRead up.1 a init (symsAt errs a) []
        let ta := nodeTagAddr s r l m
        let t := rawRead d.1 ta.1 init (symsAt errs ta.1) []
        if d.2.1 = 8 then (poisonSubtree d.1 r l m 1, 6, zeros 64)
        else if d.2.1 = 3 then (poisonSubtree d.1 r l m 2, 6, zeros 64)
        else if d.2.1 ≠ 0 then (d.1, d.2.1, zeros 64)
        else if t.2.1 = 8 ∨ t.2.1 = 3 then (poisonSubtree t.1 r l m (if t.2.1 = 8 then 1 else 2), 6, zeros 64)
        else if t.2.1 ≠ 0 then (t.1, t.2.1, zeros 64)
        else if natAt t.2.2 (8 * ta.2) 8 ≠ lineTag s r a up.2.2.1 up.2.2.2 d.2.2 then (poisonSubtree t.1 r l m 0, 6, zeros 64)
        else (cachePut t.1 a d.2.2 false, 0, d.2.2)

/-- A node fetched from its level up. -/
def getNode (s : State) (r init : Nat) (errs : List (Nat × Nat)) (l m : Nat) : RawRead :=
  fetchNode r init errs (topLevel (regionLines s r) - l) l m s

/-- Eight bytes of a stored metadata line replaced, the rest as stored (R514). -/
def putSlot (s : State) (a slot v : Nat) : State :=
  match placeOf s a with
  | .at_ phys _ _ =>
    let old := storedLine s phys
    (rawWrite s a (old.take (8 * slot) ++ u64 v ++ old.drop (8 * slot + 8)) false).1
  | .no _ => s

/-- The tag of a node, as stored, rewritten under a version. -/
def retagNode (s : State) (r l m major minor : Nat) : State :=
  let a := nodeAddr s r l m
  match placeOf s a with
  | .at_ phys _ _ =>
    let ta := nodeTagAddr s r l m
    putSlot s ta.1 ta.2 (lineTag s r a major minor (storedLine s phys))
  | .no _ => s

/-- A child's minor incremented in its parent node, which becomes dirty; at 127 the parent's minors restart under the
next major and every child's node tag is rewritten (R511, R517). Answers the child's new version. -/
def bumpChild (s : State) (r l m : Nat) : State × Nat × (Nat × Nat) :=
  let n := regionLines s r
  if l = topLevel n then
    let x := s.region r
    if ¬ rootOk x then (regionCompFault s r 0x0A, 6, (0, 0))
    else if 2 ^ 55 ≤ x.root.toNat + 1 then (majorOverflow s r l m, 6, (0, 0))
    else
      let root : U64 := x.root + 1
      let s1 := s.updRegion r fun x => { x with root := root, rootComp := ~~~root }
      (s1, 0, rootVersion (s1.region r))
  else
    let p := getNode s r 0x45 [] (l + 1) (m / 64)
    if p.2.1 ≠ 0 then (p.1, p.2.1, (0, 0))
    else
      let pa := nodeAddr s r (l + 1) (m / 64)
      let major := nodeMajor p.2.2
      let minor := nodeMinor p.2.2 (m % 64)
      if minor < 127 then
        (cachePut p.1 pa (setMinor p.2.2 (m % 64) (minor + 1)) true, 0, (major, minor + 1))
      else if major + 1 = 2 ^ 48 then (majorOverflow p.1 r (l + 1) (m / 64), 6, (0, 0))
      else
        let s1 := cachePut p.1 pa (freshNode (major + 1)) true
        let s2 := event { s1 with crypt.minorOverflows := satInc s1.crypt.minorOverflows maxU32 } metaSrc 0x6006
          (u8 r ++ u8 (l + 1) ++ u32 (m / 64))
        let kids := (List.range 64).map (fun k => m / 64 * 64 + k) |>.filter fun k => decide (k < levelNodes n l)
        (kids.foldl (fun s k => retagNode s r l k (major + 1) 0) s2, 0, (major + 1, 0))

/-- A dirty node written back: its minor in its parent moves on and its node tag is written anew (R511). -/
def writeBackNode (s : State) (a : Nat) (data : List Byte) : State :=
  match nodeAt s a with
  | none => { s with crypt.cache := AMap.del s.crypt.cache a }
  | some (r, l, m) =>
    let v := bumpChild s r l m
    if v.2.1 ≠ 0 then v.1
    else
      let w := rawWrite v.1 a data false
      if w.2 ≠ 0 then w.1
      else
        let ta := nodeTagAddr s r l m
        cachePut (putSlot w.1 ta.1 ta.2 (lineTag s r a v.2.2.1 v.2.2.2 data)) a data false

/-- The lines of one of the cache's 2,048 sets. -/
def cacheSet (s : State) (k : Nat) : List (Nat × (List Byte × Bool)) := s.crypt.cache.filter fun e => decide (e.1 / 64 % 2048 = k)

/-- The cache brought back to 16 lines a set: any line of the set but the one kept goes, written back first where it is dirty
(log entry 15). -/
def trimCache (keep : Nat) : Nat → State → State
  | 0, s => s
  | fuel + 1, s =>
    match s.crypt.cache.find? fun e => decide (16 < (cacheSet s (e.1 / 64 % 2048)).length) with
    | none => s
    | some e =>
      match chosen s (((cacheSet s (e.1 / 64 % 2048)).filter fun x => decide (x.1 ≠ keep)).map (·.1)) with
      | none => s
      | some a =>
        let s1 := match cached s a with
          | some (d, true) => writeBackNode s a d
          | _ => s
        trimCache keep fuel { s1 with crypt.cache := AMap.del s1.crypt.cache a }

/-- The dirty lines of the metadata cache. -/
def dirtyMeta (s : State) : List (Nat × (List Byte × Bool)) := s.crypt.cache.filter fun e => e.2.2

/-- Every dirty line of the metadata cache written back, children before parents (R528). -/
def writeBackMeta : Nat → State → State
  | 0, s => s
  | fuel + 1, s =>
    match (List.range 6).findSome? fun l =>
        (dirtyMeta s).find? fun e => match nodeAt s e.1 with
          | some (_, k, _) => decide (k = l)
          | none => decide (l = 5) with
    | none => s
    | some e =>
      let s1 := writeBackNode s e.1 e.2.1
      writeBackMeta fuel (match cached s1 e.1 with
        | some (d, _) => cachePut s1 e.1 d false
        | none => s1)

/-! ### Authenticated lines (R513, R514, R516) -/

/-- A read of data line j of an authenticated region. -/
def authRead (s : State) (r a init : Nat) (errs : List (Nat × Nat)) (spareErrs : List Bool) : RawRead :=
  let j := (a - regionBase s r) / 64
  if subtreePoisoned s r j then (s, 6, zeros 64)
  else
    let d := rawRead s a init (symsAt errs a) spareErrs
    let ta := tagAddr s r j
    let t := rawRead d.1 ta init (symsAt errs ta) []
    let c := getNode t.1 r init errs 0 (j / 64)
    if d.2.1 ≠ 0 then (d.1, visible d.2.1, zeros 64)
    else if t.2.1 ≠ 0 then (t.1, visible t.2.1, zeros 64)
    else if c.2.1 ≠ 0 then (c.1, c.2.1, zeros 64)
    else
      let major := nodeMajor c.2.2
      let minor := nodeMinor c.2.2 (j % 64)
      if natAt t.2.2 (8 * (j % 8)) 8 ≠ lineTag s r a major minor d.2.2 then (failLine c.1 r a init, 6, zeros 64)
      else (c.1, 0, keystreamXor (regionK1 s r) a major minor d.2.2)

/-- Data line j written under a version with its tag. -/
def authStore (s : State) (r j major minor : Nat) (data : List Byte) (poison : Bool) : State × Nat :=
  let a := regionBase s r + j * 64
  let stored := keystreamXor (regionK1 s r) a major minor data
  let w := rawWrite s a stored poison
  if w.2 ≠ 0 then w
  else (putSlot w.1 (tagAddr s r j) (j % 8) (lineTag s r a major minor stored), 0)

/-- One line of a group read under its old version and written back under the new one; a line that fails its check is
written back poisoned (R516). -/
def reencrypt (r old major init : Nat) (minors : List Byte) (s : State) (j : Nat) : State :=
  let a := regionBase s r + j * 64
  let d := rawRead s a init 0 []
  let t := rawRead d.1 (tagAddr s r j) init 0 []
  let minor := nodeMinor minors (j % 64)
  if d.2.1 = 0 ∧ t.2.1 = 0 ∧ natAt t.2.2 (8 * (j % 8)) 8 = lineTag s r a old minor d.2.2 then
    (authStore t.1 r j major 0 (keystreamXor (regionK1 s r) a old minor d.2.2) false).1
  else if d.2.1 = 2 ∨ d.2.1 = 7 then t.1
  else (rawWrite (failLine t.1 r a init) a d.2.2 true).1

/-- A write of the whole of data line j of an authenticated region; its tag line is read to be written in part, and a status of
that read is the write's (R519). -/
def authWrite (s : State) (r a init : Nat) (data : List Byte) (poison : Bool) (errs : List (Nat × Nat)) : State × Nat :=
  let j := (a - regionBase s r) / 64
  let g := j / 64
  if subtreePoisoned s r j then (s, 6)
  else
    let t := rawRead s (tagAddr s r j) init (symsAt errs (tagAddr s r j)) []
    let c := getNode t.1 r init errs 0 g
    if t.2.1 ≠ 0 then (t.1, visible t.2.1)
    else if c.2.1 ≠ 0 then (c.1, c.2.1)
    else
      let s1 := if c.1.crypt.failed.contains a then
          event { c.1 with crypt.failed := c.1.crypt.failed.filter (fun x => decide (x ≠ a)),
                           crypt.heals := satInc c.1.crypt.heals maxU32 } (engineSrc a) 0x6004 (u8 r ++ u64 a)
        else c.1
      let ca := nodeAddr s r 0 g
      let major := nodeMajor c.2.2
      let minor := nodeMinor c.2.2 (j % 64)
      if minor < 127 then
        authStore (cachePut s1 ca (setMinor c.2.2 (j % 64) (minor + 1)) true) r j major (minor + 1) data poison
      else if major + 1 = 2 ^ 48 then (majorOverflow s1 r 0 g, 6)
      else
        let s2 := event (counted { s1 with crypt.minorOverflows := satInc s1.crypt.minorOverflows maxU32 } (engineSrc a) 0x06 0 1)
          metaSrc 0x6006 (u8 r ++ u8 0 ++ u32 g)
        let s3 := cachePut s2 ca (freshNode (major + 1)) true
        let others := ((List.range 64).map fun k => g * 64 + k).filter fun k => decide (k ≠ j)
        authStore (others.foldl (reencrypt r major (major + 1) init c.2.2) s3) r j (major + 1) 0 data poison

/-! ### The engines (R502 to R505, R513, R523) -/

/-- A line encrypted, or decrypted, as a confidential line (R502). -/
def confidential (s : State) (r : Nat) (dec : Bool) (a : Nat) (data : List Byte) : List Byte :=
  Crypto.xts dec (regionK1 s r) (regionK2 s r) (a / 64) data

/-- The state of a region that answers every request: locked 6, initialising 2 (R518, R525). -/
def regionStop (s : State) (r : Nat) : Option Nat :=
  if (s.region r).state = 3 then some 6 else if (s.region r).state = 1 then some 2 else none

/-- The mode and the key slot of the region that covers an address compared at their use: a mismatch locks it (R46, R527). -/
def useRegion (s : State) (a : Nat) : State :=
  match regionOf s a with
  | none => s
  | some r =>
    if heldRegion s r ∨ (s.region r).state = 3 then s
    else if ¬ s.pairOk (0x6810 + r) 1 then regionCompFault s r 1
    else if ¬ s.pairOk (0x6810 + r) 4 then regionCompFault s r 4
    else s

/-- A line read through its engine: its status and plaintext, or the stored bytes for an outer initiator; of a region's metadata
span, the stored bytes while the region answers requests (R518, R523). -/
def engineRead (s : State) (a init : Nat) (errs : List (Nat × Nat)) (spareErrs : List Bool) : RawRead :=
  let s := useRegion s a
  let raw := rawRead s a init (symsAt errs a) spareErrs
  match regionOf s a with
  | none =>
    match (metaRegionOf s a).bind (regionStop s) with
    | some st => (s, st, zeros 64)
    | none => (raw.1, visible raw.2.1, raw.2.2)
  | some r =>
    match regionStop s r with
    | some st => (s, st, zeros 64)
    | none =>
      if isOuter init ∧ regionMode s r ≠ 0 then
        if regionMode s r = 2 ∧ subtreePoisoned s r ((a - regionBase s r) / 64) then (s, 6, zeros 64)
        else (raw.1, visible raw.2.1, raw.2.2)
      else if regionMode s r = 2 then
        let x := authRead s r a init errs spareErrs
        (trimCache 0 256 (counted x.1 (engineSrc a) 0x02 0 (b2n (decide (x.2.1 = 0)))), x.2.1, x.2.2)
      else if regionMode s r = 1 ∧ raw.2.1 = 0 then
        (counted raw.1 (engineSrc a) 0x02 0 1, 0, confidential s r true a raw.2.2)
      else (raw.1, visible raw.2.1, raw.2.2)

/-- A whole line written through its engine: its status. An outer write to a confidential line stores the bytes given
(R523). -/
def engineWrite (s : State) (a init : Nat) (data : List Byte) (poison : Bool) (errs : List (Nat × Nat)) : State × Nat :=
  let s := useRegion s a
  match regionOf s a with
  | none => rawWrite s a data poison
  | some r =>
    match regionStop s r with
    | some st => (s, st)
    | none =>
      if regionMode s r = 2 then
        let x := authWrite s r a init data poison errs
        (trimCache 0 256 (counted x.1 (engineSrc a) 0x01 0 1), x.2)
      else if regionMode s r = 1 ∧ ¬ isOuter init then
        rawWrite (counted s (engineSrc a) 0x01 0 1) a (confidential s r false a data) poison
      else rawWrite s a data poison

/-- Bytes of a line replaced. -/
def mergeBytes (old : List Byte) (off : Nat) (new : List Byte) : List Byte :=
  old.take off ++ new ++ old.drop (off + new.length)

/-- A write of part of a line: read, merged and written (R436, R471, R503). -/
def enginePartial (s : State) (a init off : Nat) (data : List Byte) (errs : List (Nat × Nat)) (spareErrs : List Bool) : State × Nat :=
  if data.length = 64 then engineWrite s a init data false errs
  else
    let d := engineRead s a init errs spareErrs
    if d.2.1 ≠ 0 then (d.1, d.2.1)
    else engineWrite d.1 a init (mergeBytes d.2.2 off data) false errs

end Sys2Proof.Machine
end

