-- ==== Sys2Proof/Machine/Noc.lean ====
section
/-! DEFINITION. The base-die network (08): placement, address decode, reservations, packets issued and answered,
statistics and transaction samples. -/

namespace Sys2Proof.Machine

/-! ### Placement (R354 to R357) -/

/-- Router number of coordinates. -/
def rt (x y : Nat) : Nat := 8 * y + x
/-- The NoC quadrant of a router. -/
def quadrantOf (r : Nat) : Nat := r % 8 / 4 + r / 8 / 4 * 2
/-- The router of a global sector's base ports. -/
def sectorRouter (g : Nat) : Nat :=
  let t := g / 12
  let k := g % 12
  rt (4 * (t % 2) + k % 4) (4 * (t / 2) + k / 4)
/-- The router of a Wale slice. -/
def sliceRouter (w : Nat) : Nat := rt (4 * (w / 4 % 2) + w % 4) (4 * (w / 4 / 2) + 3)
/-- The router of pannier port q. -/
def panRouter (q : Nat) : Nat := rt (3 + q % 2) (3 + q / 2)
/-- The router of the services and the service window. -/
def serviceRouter : Nat := rt 2 3

/-- The router of an initiator (R356, R376). -/
def initRouter (i : Nat) : Nat :=
  if i < 0x30 then sectorRouter i
  else if i < 0x40 then (if i - 0x30 < 8 then rt (i - 0x30) 3 else rt (i - 0x38) 4)
  else if i < 0x46 then serviceRouter
  else if i < 0x54 then (if i - 0x48 < 6 then rt (i - 0x48 + 1) 0 else rt (i - 0x48 - 5) 7)
  else if i < 0x60 then (if i - 0x58 < 4 then rt 0 (i - 0x58) else rt 7 (i - 0x58))
  else if i = 0x60 then rt 0 0
  else if i = 0x70 then rt 7 0
  else rt 0 7

/-- Whether a number names an initiator (R376). -/
def initValid (i : Nat) : Bool :=
  decide (i < 0x46) || (decide (0x48 ≤ i) && decide (i < 0x54)) || (decide (0x58 ≤ i) && decide (i ≤ 0x60)) ||
    decide (i = 0x70) || decide (i = 0x71)

/-- The routers of a route after its first, along x and then along y. -/
def routeFrom : Nat → Nat → Nat → List Nat
  | 0, _, _ => []
  | fuel + 1, a, b =>
    if a = b then []
    else
      let n := if a % 8 < b % 8 then a + 1 else if b % 8 < a % 8 then a - 1 else if a < b then a + 8 else a - 8
      n :: routeFrom fuel n b

/-- The routers of the route from a to b. -/
def routeOf (a b : Nat) : List Nat := a :: routeFrom 14 a b

/-- The source of a router's events. -/
def routerSrc (r : Nat) : Nat := 0x2000 + r

/-! ### Address decode (R377 to R381, R392, R393) -/

/-- The home slice of a DRAM address. -/
def homeSlice (s : State) (a : Nat) : Nat :=
  if s.sealed.enabled ∧ a < 0x4000000 then 0
  else (List.range 10).foldl (fun k i => k ^^^ field (a / 256) (4 * i + 3) (4 * i)) 0

/-- What a request's address names. -/
inductive Target where
  | dram (a : Nat)
  | pan (off : Nat)
  | window (n off : Nat)
  | fabric (g c off : Nat)
  | service (off : Nat)
  | bad (status code : Nat)
  deriving DecidableEq, Repr

/-- The DRAM target of an address, in one 256-byte step and not in a metadata span of an inner initiator's; the
metadata span of the sealed region is the scrubber's and the migration engine's alone (R379). -/
def decodeDram (s : State) (init a len : Nat) (write : Bool) : Target :=
  if a / 256 ≠ (a + len - 1) / 256 then .bad 1 0x3005
  else if (metaRegionOf s a).any (heldRegion s) ∧ init ≠ 0x44 ∧ init ≠ 0x45 then .bad 4 0x3006
  else if (metaRegionOf s a).isSome then
    if ¬ isOuter init then .bad 4 0 else if write then .bad 4 0x3007 else .dram a
  else if isOuter init ∧ write then
    match regionOf s a with
    | some r => if regionMode s r = 2 then .bad 4 0x3007 else .dram a
    | none => .dram a
  else .dram a

/-- The pannier target of a window offset: bank 30 for the services, bank 31 for inner initiators while the sealed
partition is not enabled (R411). -/
def decodePan (s : State) (init off len : Nat) : Target :=
  let denied : Target := .bad 4 (if isOuter init then 0x3007 else 0)
  if 0x7C0000 < off + len ∧ (s.sealed.enabled ∨ isOuter init) then denied
  else if 0x780000 < off + len ∧ off < 0x7C0000 ∧ ¬ (0x40 ≤ init ∧ init ≤ 0x45) then denied
  else .pan off

/-- The target of a request by an initiator of len bytes at an address. -/
def decode (s : State) (init a len : Nat) (write : Bool) : Target :=
  let sealedOn := s.sealed.enabled
  let inSealed := decide (0x3E0000000000 ≤ a) && decide (a < 0x3E0010040000)
  if inSealed then
    if ¬ sealedOn ∨ (init ≠ 0x60 ∧ init ≠ 0x00) then .bad 4 0x3006
    else if a + len ≤ 0x3E0004000000 then
      (if (a - 0x3E0000000000) / 256 = (a + len - 1 - 0x3E0000000000) / 256 then .dram (a - 0x3E0000000000) else .bad 1 0x3005)
    else if 0x3E0010000000 ≤ a ∧ a + len ≤ 0x3E0010040000 then .pan (0x7C0000 + (a - 0x3E0010000000))
    else .bad 1 0x3005
  else if sealedOn ∧ init = 0x00 then .bad 4 0x3006
  else if a < 4 * rankBytes then
    if capacity s < a + len then .bad 1 0x3005
    else if sealedOn ∧ a < 0x4000000 ∧ init ≠ 0x44 ∧ init ≠ 0x45 then .bad 4 0x3006
    else decodeDram s init a len write
  else if 0x100000000000 ≤ a ∧ a + len ≤ 0x100000800000 then decodePan s init (a - 0x100000000000) len
  else if 0x100001000000 ≤ a ∧ a < 0x100011000000 then
    .window ((a - 0x100001000000) / 0x1000000) ((a - 0x100001000000) % 0x1000000)
  else if 0x200000000000 ≤ a ∧ a < 0x203000000000 then
    let g := (a - 0x200000000000) / 2 ^ 32
    let r := (a - 0x200000000000) % 2 ^ 32
    if r / 2 ^ 26 ≠ (r + len - 1) / 2 ^ 26 then .bad 1 0x3005
    else if sealedOn ∧ g = 0 ∧ init ≠ 0x60 then .bad 4 0x3006
    else .fabric g (r / 2 ^ 26) (r % 2 ^ 26)
  else if 0x3F0000000000 ≤ a ∧ a < 0x3F0010000400 then
    if isOuter init then .bad 4 0x3007 else .service (a - 0x3F0000000000)
  else .bad 1 0x3005

/-- The router of a target for an initiator. -/
def targetRouter (s : State) (init : Nat) : Target → Nat
  | .dram a => sliceRouter (homeSlice s a)
  | .pan _ => if init = 0x60 then panRouter 0 else panRouter (quadrantOf (initRouter init))
  | .window _ _ => panRouter (quadrantOf (initRouter init))
  | .fabric g _ _ => sectorRouter g
  | .service _ => serviceRouter
  | .bad _ _ => initRouter init

/-! ### Reservations (R367 to R373, R390) -/

/-- The fixed value of a reservation that the sealed partition holds (R373): entries 61 to 64. -/
def sealedReservation (n : Nat) : Nat :=
  let resp := b2n (decide (n % 2 = 0))
  let init := if n ≤ 62 then 0x60 else 0x00
  let first := if n ≤ 62 then 0 else 4
  2 ^ 63 + 2 ^ 62 + resp * 2 ^ 61 + init * 2 ^ 48 + rt 0 3 * 2 ^ 40 + 4 * 256 + first

/-- The value of reservation n, 1 to 64. -/
def reservation (s : State) (n : Nat) : Nat :=
  if s.sealed.enabled ∧ 61 ≤ n then sealedReservation n else s.num 0x6410 n

/-- Whether reservation n is in force. -/
def inForce (s : State) (n : Nat) : Bool :=
  (s.sealed.enabled && decide (61 ≤ n)) || AMap.get false s.noc.gtInForce n

/-- The initiator of a reservation value. -/
def resInit (v : Nat) : Nat := field v 55 48
/-- The target router of a reservation value. -/
def resTarget (v : Nat) : Nat := field v 45 40

/-- Whether an initiator holds a reservation in force to or from a router. -/
def hasReservation (s : State) (init router : Nat) (response : Bool) : Bool :=
  (List.range 64).any fun i =>
    let v := reservation s (i + 1)
    inForce s (i + 1) && decide (resInit v = init) && decide (resTarget v = router) && (bit v 61 == response)

/-- The links of a reservation's route, each with its first slot: a link as from × 64 + to, ejection as to itself. -/
def linkSlots : Nat → List Nat → List (Nat × Nat)
  | slot, a :: b :: rest =>
    (a * 64 + b, slot % 256) :: linkSlots (slot + (if quadrantOf a = quadrantOf b then 2 else 4)) (b :: rest)
  | slot, [a] => [(a * 64 + a, slot % 256)]
  | _, [] => []

/-- The slots that a reservation value holds, as link × 256 + slot. -/
def slotsHeld (v : Nat) : List Nat :=
  let a := initRouter (resInit v)
  let b := resTarget v
  let route := if bit v 61 then routeOf b a else routeOf a b
  (linkSlots (field v 7 0) route).flatMap fun l => (List.range (field v 15 8)).map fun i => l.1 * 256 + (l.2 + i) % 256

/-- The slots held by every enabled reservation. -/
def allSlots (s : State) : List Nat :=
  (List.range 64).flatMap fun i => if bit (reservation s (i + 1)) 63 then slotsHeld (reservation s (i + 1)) else []

/-- Whether an enabling write keeps the slot limits of R370. -/
def slotsFit (s : State) (v : Nat) : Bool :=
  let held := allSlots s
  let new := slotsHeld v
  new.all fun x => !held.contains x &&
    decide ((held.filter fun y => decide (y / 256 = x / 256)).length + (new.filter fun y => decide (y / 256 = x / 256)).length ≤ 224)

/-- Whether a reservation value keeps the third condition of R370. -/
def reservationInRange (v : Nat) : Bool :=
  initValid (resInit v) && !isOuter (resInit v) && decide (1 ≤ field v 15 8) && decide (field v 15 8 ≤ 128) &&
    (!(List.range 48).any (fun g => decide (sectorRouter g = resTarget v)) || decide (field v 15 8 ≤ 4))

/-- NOC_GT (R370, R390): reservation n, 1 to 64. While it is not enabled its slot_count may be the default, 0 (log entry 80). -/
def actReservation (n : Nat) : Action where
  state := fun s _ v =>
    let old := reservation s n
    let new := leNat v
    firstOf
      [need (¬ (s.sealed.enabled ∧ 61 ≤ n)) abWriteRo,
       (if bit old 63 then need (new % 2 ^ 63 &&& 0x20FF3F000000FFFF = old % 2 ^ 63 &&& 0x20FF3F000000FFFF ∧ ¬ bit new 63) abState
        else if bit new 63 ∧ reservationInRange new then need (slotsFit s new) abState else none)]
  value := fun _ _ v =>
    need (if bit (leNat v) 63 then reservationInRange (leNat v)
      else initValid (resInit (leNat v)) ∧ field (leNat v) 15 8 ≤ 128) abRange
  apply := fun s _ old new =>
    if bit (leNat old) 63 = bit (leNat new) 63 then s
    else { s with noc.gtPending := AMap.set 0 s.noc.gtPending n ((s.now / 1536 + 1) * 3072 + b2n (bit (leNat new) 63)) }

/-- RESERVATION_WRITE. -/
def execReservationWrite (e : Env) (n : Fin 64) (v : U64) (s : State) : Res :=
  hostWrite e 0x6410 (n.val + 1) (u64 v.toNat) (actReservation (n.val + 1)) s

/-- RESERVATION_TAKES_EFFECT (R370): an accepted enable or disable, at the next frame boundary. -/
def execReservationTakesEffect (n : Fin 64) (s : State) : Res :=
  let k := n.val + 1
  let p := AMap.get 0 s.noc.gtPending k
  if p = 0 ∨ s.now < p / 2 then .next s
  else
    let v := s.num 0x6410 k
    let s1 := { s with noc := { s.noc with gtPending := AMap.set 0 s.noc.gtPending k 0
                                           gtInForce := AMap.set false s.noc.gtInForce k (decide (p % 2 = 1)) } }
    .next (event s1 (routerSrc (initRouter (resInit v))) 0x3001 (u8 k ++ u8 (resInit v) ++ u8 (resTarget v) ++ u8 0))

/-! ### Statistics (R388) -/

/-- The figures of an initiator changed. -/
def updStat (s : State) (i : Nat) (f : NocStat → NocStat) : State := { s with noc.stats := AMap.upd {} s.noc.stats i f }

/-- The histogram bin of a latency in NoC cycles. -/
def latencyBin (c : Nat) : Nat :=
  ((List.range 15).find? fun b => decide (c < 2 ^ (b + 4))).getD 15

/-- NoC cycles of 1.6 GHz between two root periods. -/
def nocCycles (a b : Nat) : Nat := (b - a) / 6

/-- Whether two bins of figures differ in a saturation flag: event 0x300C names the figure, 0 latency, 1 a bin. -/
def statEvents (s : State) (i : Nat) (old new : Nat) : State :=
  let s1 := if bit new 0 ∧ ¬ bit old 0 then event s (routerSrc (initRouter i)) 0x300C (u8 i ++ u8 0) else s
  if bit new 1 ∧ ¬ bit old 1 then event s1 (routerSrc (initRouter i)) 0x300C (u8 i ++ u8 1) else s1

/-- A transaction's figures counted when its last response flit arrives. -/
def statDone (s : State) (p : Pkt) (status : Nat) : State :=
  let c := nocCycles p.issued s.now
  let old := (AMap.get {} s.noc.stats p.initiator).flags
  let s1 := updStat s p.initiator fun x =>
    let n := AMap.get 0 x.bins (latencyBin c)
    let sat := decide (maxU32 ≤ c)
    let bytes := if status = 0 then p.length else 0
    { x with minLat := min x.minLat (min c maxU32), maxLat := max x.maxLat (min c maxU32),
             bins := AMap.set 0 x.bins (latencyBin c) (satInc n maxU32),
             flags := x.flags ||| b2n sat ||| (if maxU32 ≤ n + 1 then 2 else 0),
             readNow := x.readNow + (if p.kind = 0x01 then bytes else 0),
             writeNow := x.writeNow + (if p.kind = 0x02 then bytes else 0) }
  let s2 := statEvents s1 p.initiator old (AMap.get {} s1.noc.stats p.initiator).flags
  if p.initiator < 48 then counted s2 (0x1000 + p.initiator) 0x07 c 1 else s2

/-! ### Transaction samples (R691 to R693, R704) -/

/-- The 32 bytes of a sample record. -/
def sampleBytes (s : State) (p : Pkt) (status : Nat) : List Byte :=
  u64 (s.taiAt p.issued) ++ u64 p.address ++ u8 p.initiator ++ u8 p.kind ++ u8 status ++ u8 p.outcome ++
    u16 (p.length - 1) ++ u16 p.tag ++ u32 (nocCycles p.issued s.now) ++ zeros 4

/-- A chosen transaction enters the sample buffer. -/
def takeSample (s : State) (p : Pkt) (status : Nat) : State :=
  let b := sampleBytes s p status
  let full := decide (4096 ≤ s.obs.samples.length)
  let wraps := decide (s.num 0x6D30 4 = 1)
  if full ∧ ¬ wraps then s
  else
    let kept := if full then s.obs.samples.drop 1 ++ [b] else s.obs.samples ++ [b]
    let s1 := { s with obs := { s.obs with samples := kept, taken := s.obs.taken + 1 } }
    let s2 := if ¬ wraps ∧ kept.length = 4096 then event s1 0x0047 0xB014 (u64 s1.obs.taken) else s1
    if s.num 0x6D30 5 = 1 then
      traceEvent s2 (s2.taiAt p.issued) 0x0047 0xB010
        (leBytes p.address 6 ++ u8 p.initiator ++ u8 p.kind ++ u8 status ++ u8 p.outcome ++
          u32 (nocCycles p.issued s.now) ++ u16 p.tag)
    else s2

/-- A transaction that ends is sampled where its turn, or its draw, comes; not in Start-up and Stable (R707). -/
def sampleTxn (s : State) (p : Pkt) (status : Nat) : State :=
  let chosen := bit (leNat (s.bytesOf 0x6D30 1)) p.initiator
  let n := s.num 0x6D30 3
  if ¬ chosen ∨ s.mode = .startUp ∨ s.mode = .stable then s
  else if s.num 0x6D30 2 = 1 then
    if s.obs.sampleSkip + 1 < n then { s with obs.sampleSkip := s.obs.sampleSkip + 1 }
    else takeSample { s with obs.sampleSkip := 0 } p status
  else if s.num 0x6D30 2 = 2 then
    if leNat (drawBytes s 4) % n = 0 then takeSample (s.drew 4) p status else s.drew 4
  else s

/-! ### Issuing and answering -/

/-- The credits of an initiator (R364). -/
def creditLimit (i : Nat) : Nat :=
  if i < 0x30 then 16 else if i < 0x41 then 32 else if 0x48 ≤ i ∧ i < 0x54 then 16 else if 0x58 ≤ i ∧ i < 0x60 then 4 else 8

/-- Whether two packets draw on the same credits: the same base port, or the same other initiator. -/
def sameCredits (a b : Pkt) : Bool :=
  decide (a.initiator = b.initiator) &&
    (match a.use, b.use with
     | .port g c, .port g' c' => decide (g = g') && decide (c = c')
     | .port _ _, _ => false
     | _, .port _ _ => false
     | _, _ => true)

/-- The credits that a packet's issuer has in use: transactions outstanding and responses held for it (R389). -/
def creditsUsed (s : State) (p : Pkt) : Nat :=
  (s.noc.open_.filter (sameCredits p)).length + (s.noc.heldResp.filter (sameCredits p)).length

/-- Whether a packet's issuer holds a free credit. -/
def hasCredit (s : State) (p : Pkt) : Bool := decide (creditsUsed s p < creditLimit p.initiator)

/-- Whether a sector reaches a slice on the direct path (R28, R401). -/
def directTo (g w : Nat) : Bool := decide (g / 12 = w / 4) && decide (g % 4 = w % 4)

/-- A request issued: numbered, routed, and given its class and kind of traffic (R363, R371, R401). One on the direct path keeps
its guaranteed flag, but uses no reserved slot, so its class is normal. -/
def issue (s : State) (p : Pkt) : State :=
  let t := decode s p.initiator p.address p.length (decide (p.kind = 0x02))
  let dst := targetRouter s p.initiator t
  let direct := match t with
    | .dram a => decide (p.initiator < 48) && directTo p.initiator (homeSlice s a)
    | _ => false
  let res := hasReservation s p.initiator dst false
  let g := p.guaranteed && (res || direct)
  let cls := if g ∧ ¬ direct then 0 else if p.cls = 3 ∧ p.initiator ≠ 0x44 ∧ p.initiator ≠ 0x45 then 2 else if p.cls = 0 then 1 else p.cls
  let q := { p with id := s.noc.serial + 1, src := initRouter p.initiator, dst := dst, cls := cls, guaranteed := g,
                    direct := direct, issued := s.now }
  let s1 := { s with noc := { s.noc with serial := s.noc.serial + 1, flight := s.noc.flight ++ [q], open_ := s.noc.open_ ++ [q] } }
  if p.guaranteed ∧ ¬ g then
    event (updStat s1 p.initiator fun x => { x with gtMiss := satInc x.gtMiss maxU32 })
      (routerSrc (initRouter p.initiator)) 0x300B (u8 p.initiator ++ u8 dst)
  else s1

/-- The next tag of an initiator that takes its tags in turn. -/
def takeTag (s : State) : Nat × State := (s.noc.nextTag, { s with noc.nextTag := (s.noc.nextTag + 1) % 65536 })

/-- A request of a base-die initiator. -/
def request (s : State) (kind init addr len cls : Nat) (data : List Byte) (use : TxnUse) (gt : Bool) : State :=
  let t := takeTag s
  issue t.2 { kind := kind, initiator := init, src := 0, dst := 0, tag := t.1, address := addr, length := len, cls := cls,
              guaranteed := gt, data := data, use := use }

/-- A response sent towards the initiator of a request (R360, R361). outcome is that of R692. -/
def answer (s : State) (p : Pkt) (status : Nat) (data : List Byte) (outcome : Nat) : State :=
  let r := { p with kind := p.kind + 0x80, src := p.dst, dst := p.src, status := status, outcome := outcome,
                    guaranteed := hasReservation s p.initiator p.dst true && p.guaranteed,
                    data := if p.kind = 0x01 then (if status = 0 then data else zeros p.length) else [] }
  { s with noc.flight := s.noc.flight ++ [r] }

/-- A request refused where it is decoded: its status, with the event that the rule names. -/
def refuse (s : State) (p : Pkt) (status code : Nat) : State :=
  let s1 := if code = 0 then s else event s (routerSrc p.src) code (u8 p.initiator ++ u64 p.address)
  answer s1 p status [] 0

/-- Whether the k-th packet in flight comes after an earlier one that R362 keeps ahead of it. -/
def overtakes (s : State) (k : Nat) (p : Pkt) : Bool :=
  (s.noc.flight.take k).any fun q =>
    decide (q.initiator = p.initiator) && decide (q.kind / 0x80 = p.kind / 0x80) &&
      (if p.kind < 0x80 then decide (q.dst = p.dst) && (q.guaranteed == p.guaranteed) else decide (q.src = p.src))

/-- Whether a packet's route reaches a quadrant that is off (R366); the direct path has no route (R401). -/
def routeOff (s : State) (p : Pkt) : Bool := !p.direct && (routeOf p.src p.dst).any fun r => !bit s.noc.quadrants (quadrantOf r)

/-- The flits of a packet (R359). -/
def flits (p : Pkt) : Nat := if p.kind = 0x02 ∨ p.kind = 0x81 then 1 + (p.length + 127) / 128 else 1

/-- A packet that leaves the network at its router: the routers it passed count its flits (R681). One on the direct path never
entered it (R401). -/
def passed (s : State) (p : Pkt) : State :=
  if p.direct then s else
  let s1 := (routeOf p.src p.dst).foldl (fun s r =>
    let s1 := counted s (routerSrc r) 0x01 0 (flits p)
    if p.guaranteed then counted s1 (routerSrc r) 0x02 0 (flits p) else s1) s
  counted s1 (routerSrc p.dst) 0x06 (nocCycles p.issued s.now) 1

/-- A corrected link error counted at a router of the route. -/
def linkCorrected (s : State) (p : Pkt) : State :=
  counted { s with noc.linkCorrected := satInc s.noc.linkCorrected maxU32 } (routerSrc p.dst) 0x05 0 1

/-- A packet discarded on a header error (R358). -/
def headerLost (s : State) (p : Pkt) : State :=
  event { s with noc.linkDiscarded := satInc s.noc.linkDiscarded maxU32 } (routerSrc p.dst) 0x3008 (u8 p.dst ++ u8 p.src)

/-- PACKET_PROMOTED_URGENT (R374): the k-th packet in flight, best effort, has reached an age of 512 NoC cycles. -/
def execPacketPromotedUrgent (k : Nat) (s : State) : Res :=
  match s.noc.flight[k]? with
  | none => .next s
  | some p =>
    if p.guaranteed ∨ p.direct ∨ p.urgent ∨ nocCycles p.issued s.now < 512 then .next s
    else .next (counted { s with noc.flight := setAt s.noc.flight k { p with urgent := true } } (routerSrc p.src) 0x03 0 1)

/-- NOC_STAT_CFG.command. -/
def actStat : Action where
  value := fun _ _ v => need (leNat v = 1 ∨ leNat v = 2) abRange
  apply := fun s _ _ v => if leNat v = 1 then { s with noc.stats := AMap.del s.noc.stats (s.num 0x6420 1) } else { s with noc.stats := [] }

/-- STAT_CLEAR_SELECTED. -/
def execStatClearSelected (e : Env) (s : State) : Res := hostWrite e 0x6420 3 [1] actStat s
/-- STAT_CLEAR_ALL. -/
def execStatClearAll (e : Env) (s : State) : Res := hostWrite e 0x6420 3 [2] actStat s

/-- STAT_WINDOW_END (R388): window_us has passed; each initiator's bytes read and written are latched. -/
def execStatWindowEnd (s : State) : Res :=
  if ¬ s.elapsed s.noc.windowAt (s.num 0x6420 2 * 1000) then .next s
  else
    .next { s with noc := { s.noc with
      windowAt := s.now,
      stats := (s.noc.stats.map fun kv =>
        (kv.1, { kv.2 with readBytes := kv.2.readNow, writeBytes := kv.2.writeNow, readNow := 0, writeNow := 0 })).filter
          fun kv => decide (kv.2 ≠ {}) } }

end Sys2Proof.Machine
end

