-- ==== Sys2Proof/Machine/Pannier.lean ====
section
/-! DEFINITION. The pannier (09): banks, words, circular-buffer windows and the background test; rows WINDOW_PUSH to
BANK_CLEARING_DONE. -/

namespace Sys2Proof.Machine

/-! ### Banks (R410 to R420) -/

/-- The bank of a window offset. -/
def panBank (off : Nat) : Nat := if off < 0x780000 then off / 8 % 30 else if off < 0x7C0000 then 30 else 31
/-- The row of a window offset in its bank. -/
def panRow (off : Nat) : Nat := if off < 0x780000 then off / 8 / 30 else if off < 0x7C0000 then off / 8 - 0xF0000 else off / 8 - 0xF8000
/-- The state of a bank. -/
def bankState (s : State) (b : Nat) : Nat := AMap.get 0 s.pan.bank b
/-- The source of a bank's events. -/
def bankSrc (b : Nat) : Nat := 0x4000 + b
/-- The source of a window's events. -/
def windowSrc (n : Nat) : Nat := 0x4100 + n

/-- A bank brought to a state, with event 0x4811 where it changes. -/
def setBank (s : State) (b v : Nat) : State :=
  if bankState s b = v then s
  else event { s with pan.bank := AMap.set 0 s.pan.bank b v } (bankSrc b) 0x4811 (u8 b ++ u8 (bankState s b) ++ u8 v)

/-- A bank's words written to zero. -/
def clearBank (s : State) (b : Nat) : State := { s with pan.mem := s.pan.mem.filter fun c => decide (panBank c.1 ≠ b) }

/-- The status with which the banks that len bytes touch refuse an access: 2 unusable, 7 not on, or not yet cleared by BIST (R426). -/
def panStatus (s : State) (off len : Nat) : Nat :=
  let bs := (List.range ((off + len - 1) / 8 + 1 - off / 8)).map fun i => bankState s (panBank (off / 8 * 8 + 8 * i))
  if bs.contains 4 then 2 else if (s.mode = .startUp ∧ s.boot.phase < 3) ∨ bs.any fun b => decide (b ≠ 0) then 7 else 0

/-- The background test of bank 30 or 31. -/
def bankTest (s : State) (bank31 : Bool) : BankTest := if bank31 then s.pan.test31 else s.pan.test30
/-- The background test of bank 30 or 31 replaced. -/
def setBankTest (s : State) (bank31 : Bool) (t : BankTest) : State :=
  if bank31 then { s with pan.test31 := t } else { s with pan.test30 := t }
/-- The window offset of a region of 64 words of bank 30 or 31. -/
def regionOff (bank31 : Bool) (region : Nat) : Nat := (if bank31 then 0x7C0000 else 0x780000) + region * 512

/-- The offset within a shadow that serves a byte: of a region during its test, or of a failed region (R417, R418). -/
def shadowAt (s : State) (off : Nat) : Option (Bool × Nat) :=
  [false, true].findSome? fun k =>
    let t := bankTest s k
    let base := regionOff k t.region
    if (t.failed ∨ t.testing) ∧ base ≤ off ∧ off < base + 512 then some (k, off - base) else none

/-- One byte of the pannier. -/
def panByte (s : State) (off : Nat) : Byte :=
  match shadowAt s off with
  | some (k, i) => (bankTest s k).shadow.getD i 0
  | none => Memory.byte s.pan.mem off

/-- One byte of the pannier written. -/
def panPut (s : State) (off : Nat) (b : Byte) : State :=
  match shadowAt s off with
  | some (k, i) => setBankTest s k { bankTest s k with shadow := setAt (padTo (bankTest s k).shadow 512) i b }
  | none => { s with pan.mem := Memory.put s.pan.mem off b }

/-- len bytes at the offsets that place gives. -/
def panBytes (s : State) (place : Nat → Nat) (len : Nat) : List Byte := (List.range len).map fun i => panByte s (place i)

/-- Bytes written at the offsets that place gives, from index i. -/
def panWrite (place : Nat → Nat) : Nat → List Byte → State → State
  | _, [], s => s
  | i, b :: bs, s => panWrite place (i + 1) bs (panPut s (place i) b)

/-- Bytes that the sealed controller writes in bank 31, of which it keeps a copy to compare with (R603, R614). -/
def controllerWrite (off : Nat) (data : List Byte) (s : State) : State :=
  panWrite (0x7C0000 + off + ·) 0 data { s with sealed.image := Memory.write s.sealed.image off data }

/-- The status word of the sealed partition in bank 31 (R614): fault (R606, R615), seal open, event counter. -/
def sealedStatus (s : State) : Nat :=
  b2n (s.sealed.statusFault || bit s.sealed.faults 0) + 2 * b2n s.sealed.isOpen + s.sealed.counter * 2 ^ 32

/-- The controller writes the status word. -/
def writeSealedStatus (s : State) : State :=
  if s.sealed.enabled then controllerWrite 0x980 (u64 (sealedStatus s)) s else s

/-- ECC_PAN of a bank with a corrected or an uncorrectable read counted (R486): corrected above bit 8, saturated in 31. -/
def countEcc (v : Nat) (bad : Bool) : Nat :=
  let c := field v 30 8
  let u := field v 7 0
  let c1 := if bad then c else satInc c 0x7FFFFF
  let u1 := if bad then satInc u 255 else u
  u1 + c1 * 256 + (if bit v 31 ∨ c1 = 0x7FFFFF ∨ u1 = 255 then 2 ^ 31 else 0)

/-- What the words that an access reads turn out to be, counted and recorded (R414, R486); whether it is refused. -/
def panErr (s : State) (off : Nat) (err : MemErr) : State × Bool :=
  let b := panBank off
  match err with
  | .good => (s, false)
  | .corrected => ({ s with ecc.pan := AMap.upd 0 s.ecc.pan b (countEcc · false) }, false)
  | .uncorrectable =>
    let s1 := event { s with ecc.pan := AMap.upd 0 s.ecc.pan b (countEcc · true) } (bankSrc b) 0x500D (u8 b ++ u16 (panRow off))
    (if b = 31 ∧ s.sealed.enabled then writeSealedStatus { s1 with sealed.statusFault := true } else s1, true)

/-- Words served counted, by bank (R681). -/
def wordsServed (s : State) (off len : Nat) : State :=
  (List.range ((off + len - 1) / 8 + 1 - off / 8)).foldl (fun s i =>
    let o := off / 8 * 8 + 8 * i
    let s1 := counted s (bankSrc (panBank o)) 0x01 0 1
    if (shadowAt s o).isSome then counted s1 (bankSrc (panBank o)) 0x03 0 1 else s1) s

/-- A read of len bytes at a window offset: state, status, data. -/
def panRead (s : State) (off len : Nat) (err : MemErr) : State × Nat × List Byte :=
  if panStatus s off len ≠ 0 then (s, panStatus s off len, zeros len)
  else
    let e := panErr s off err
    if e.2 then (e.1, 2, zeros len) else (wordsServed e.1 off len, 0, panBytes s (off + ·) len)

/-- A write at a window offset; err is what a partly written word reads as. -/
def panStore (s : State) (off : Nat) (data : List Byte) (err : MemErr) : State × Nat :=
  if panStatus s off data.length ≠ 0 then (s, panStatus s off data.length)
  else
    let part := off % 8 ≠ 0 ∨ (off + data.length) % 8 ≠ 0
    let e := if part then panErr s off err else (s, false)
    if e.2 then (e.1, 2) else (wordsServed (panWrite (off + ·) 0 data e.1) off data.length, 0)

/-- BANK_CLEARING_DONE (R419). -/
def execBankClearingDone (b : Fin 32) (s : State) : Res :=
  .next (if bankState s b.val = 3 then setBank (clearBank s b.val) b.val 0 else s)

/-! ### Circular-buffer windows (R421 to R425) -/

/-- Window n's pointers. -/
def State.window (s : State) (n : Nat) : Window := AMap.get {} s.pan.windows n
/-- Window n's pointers changed. -/
def updWindow (s : State) (n : Nat) (f : Window → Window) : State := { s with pan.windows := AMap.upd {} s.pan.windows n f }
/-- Whether window n is enabled. -/
def windowOn (s : State) (n : Nat) : Bool :=
  decide (s.num (0x6520 + n) 1 = 1) && !(decide (s.test.testState = 1) && decide (s.test.testKind = 3) && decide (s.test.testTarget < 30))
/-- The base of window n. -/
def windowBase (s : State) (n : Nat) : Nat := s.num (0x6520 + n) 2
/-- The size of window n. -/
def windowSize (s : State) (n : Nat) : Nat := s.num (0x6520 + n) 3
/-- The offset of byte i of a window from a pointer. -/
def windowPlace (s : State) (n ptr i : Nat) : Nat := windowBase s n + (ptr + i) % windowSize s n

/-- The spans of the interleaved area, each an offset and a length, that len bytes of a window take from a pointer. -/
def windowSpans (s : State) (n ptr len : Nat) : List (Nat × Nat) :=
  let sz := windowSize s n
  let a := ptr % sz
  let l := min len sz
  [(windowBase s n + a, min l (sz - a)), (windowBase s n, l - (sz - a))].filter fun x => decide (x.2 ≠ 0)

/-- The status of the banks under a window's bytes. -/
def windowBanks (s : State) (n ptr len : Nat) : Nat := (windowSpans s n ptr len).foldl (fun m x => max m (panStatus s x.1 x.2)) 0

/-- The words under a window's bytes counted as served. -/
def windowServed (s : State) (xs : List (Nat × Nat)) : State := xs.foldl (fun s x => wordsServed s x.1 x.2) s

/-- The result of a window access: state, status, data. -/
abbrev WindowRes := State × Nat × List Byte

/-- A push that overflows is counted and recorded (R423). -/
def windowOverflow (s : State) (n : Nat) : State :=
  event (updWindow s n fun w => { w with overflows := satInc w.overflows maxU32 }) (windowSrc n) 0x4812
    (u8 n ++ u8 (s.num (0x6520 + n) 4) ++ u32 (s.window n).wr)

/-- A pop or release beyond fill is counted and recorded (R424). -/
def windowUnderflow (s : State) (n len : Nat) : State :=
  event (updWindow s n fun w => { w with underflows := satInc w.underflows maxU32 }) (windowSrc n) 0x4813 (u8 n ++ u32 len)

/-- A push of bytes into window n. -/
def windowPush (s : State) (n : Nat) (data : List Byte) : WindowRes :=
  let w := s.window n
  let sz := windowSize s n
  let len := data.length
  if ¬ windowOn s n ∨ len < 8 ∨ 1024 < len ∨ len % 8 ≠ 0 then (s, 1, [])
  else if windowBanks s n w.wr len ≠ 0 then (s, windowBanks s n w.wr len, [])
  else
    let wr := (w.wr + len) % sz
    let stored := windowServed (panWrite (windowPlace s n w.wr) 0 data s) (windowSpans s n w.wr len)
    if len ≤ sz - w.fill then (updWindow stored n fun x => { x with wr := wr, fill := w.fill + len }, 0, [])
    else if s.num (0x6520 + n) 4 = 0 then (windowOverflow s n, 2, [])
    else
      let fill := min sz (w.fill + len)
      (windowOverflow (updWindow stored n fun x => { x with wr := wr, fill := fill, rd := (wr + (sz - fill)) % sz }) n, 0, [])

/-- A pop of len bytes from window n. -/
def windowPop (s : State) (n len : Nat) (err : MemErr) : WindowRes :=
  let w := s.window n
  if ¬ windowOn s n ∨ len < 8 ∨ 1024 < len ∨ len % 8 ≠ 0 then (s, 1, [])
  else if w.fill < len then (windowUnderflow s n len, 2, [])
  else if windowBanks s n w.rd len ≠ 0 then (s, windowBanks s n w.rd len, [])
  else
    let e := panErr s (windowPlace s n w.rd 0) err
    if e.2 then (e.1, 2, [])
    else
      (updWindow (windowServed e.1 (windowSpans s n w.rd len)) n fun x =>
         { x with rd := (w.rd + len) % windowSize s n, fill := w.fill - len }, 0, panBytes s (windowPlace s n w.rd) len)

/-- A release of len bytes of window n. -/
def windowRelease (s : State) (n len : Nat) : WindowRes :=
  let w := s.window n
  if ¬ windowOn s n ∨ len % 8 ≠ 0 then (s, 1, [])
  else if w.fill < len then (windowUnderflow s n len, 2, [])
  else (updWindow s n fun x => { x with rd := (w.rd + len) % windowSize s n, fill := w.fill - len }, 0, [])

/-- An indexed read, or write where wdata is given, at an offset from rd_ptr; a write of whole words reads none (R414). -/
def windowIndexed (s : State) (n off len : Nat) (wdata : Option (List Byte)) (err : MemErr) : WindowRes :=
  let w := s.window n
  let len := wdata.elim len List.length
  if ¬ windowOn s n ∨ len = 0 ∨ 1024 < len ∨ windowSize s n < off + len then (s, 1, [])
  else if windowBanks s n (w.rd + off) len ≠ 0 then (s, windowBanks s n (w.rd + off) len, [])
  else
    let whole := wdata.isSome ∧ (w.rd + off) % 8 = 0 ∧ len % 8 = 0
    let e := if whole then (s, false) else panErr s (windowPlace s n w.rd off) err
    let served := windowServed e.1 (windowSpans s n (w.rd + off) len)
    match wdata with
    | none => if e.2 then (e.1, 2, []) else (served, 0, panBytes s (windowPlace s n (w.rd + off)) len)
    | some bs => if e.2 then (e.1, 2, []) else (panWrite (windowPlace s n (w.rd + off)) 0 bs served, 0, [])

/-- The 16 bytes of a status read. -/
def windowStatus (s : State) (n : Nat) : WindowRes :=
  let w := s.window n
  if ¬ windowOn s n then (s, 1, [])
  else (s, 0, u32 w.wr ++ u32 w.rd ++ u32 w.fill ++ u32 (1 + 2 * s.num (0x6520 + n) 4))

/-- A request packet at a window's alias span (R421). -/
def windowAccess (s : State) (n off : Nat) (p : Pkt) (err : MemErr) : WindowRes :=
  let write := decide (p.kind = 0x02)
  if off < 0x800000 then windowIndexed s n off p.length (if write then some p.data else none) err
  else if off = 0x800000 ∧ write then windowPush s n p.data
  else if off = 0x801000 ∧ ¬ write then windowPop s n p.length err
  else if off = 0x802000 ∧ write ∧ p.length = 4 then windowRelease s n (leNat p.data)
  else if off = 0x803000 ∧ ¬ write ∧ p.length = 16 then windowStatus s n
  else (s, 1, [])

/-- The spans that a window access reads or writes. -/
def windowTouches (s : State) (n off : Nat) (p : Pkt) : List (Nat × Nat) :=
  if off < 0x800000 then windowSpans s n ((s.window n).rd + off) p.length
  else if off = 0x800000 then windowSpans s n (s.window n).wr p.data.length
  else if off = 0x801000 then windowSpans s n (s.window n).rd p.length
  else []

/-- A window access's answer sent to its initiator. -/
def windowAnswer (init : Byte) (r : WindowRes) : Res := .next (r.1.emit (.answer init.toNat r.2.1 r.2.2))

/-- WINDOW_PUSH (R423). -/
def execWindowPush (initiator : Byte) (n : Fin 16) (data : List Byte) (s : State) : Res :=
  windowAnswer initiator (windowPush s n.val data)
/-- WINDOW_POP (R424). -/
def execWindowPop (initiator : Byte) (n : Fin 16) (len : Nat) (s : State) : Res :=
  windowAnswer initiator (windowPop s n.val len .good)
/-- WINDOW_RELEASE (R424). -/
def execWindowRelease (initiator : Byte) (n : Fin 16) (len : Nat) (s : State) : Res :=
  windowAnswer initiator (windowRelease s n.val len)
/-- WINDOW_INDEXED_ACCESS (R421). -/
def execWindowIndexedAccess (initiator : Byte) (n : Fin 16) (offset len : Nat) (wdata : Option (List Byte)) (s : State) : Res :=
  windowAnswer initiator (windowIndexed s n.val offset len wdata .good)
/-- WINDOW_STATUS_READ (R421). -/
def execWindowStatusRead (initiator : Byte) (n : Fin 16) (s : State) : Res :=
  windowAnswer initiator (windowStatus s n.val)

/-- PAN_WINDOW_n.enable (R422, R426). -/
def actWindowEnable (n : Nat) : Action where
  value := fun s _ v =>
    let b := windowBase s n
    let z := windowSize s n
    need (leNat v = 0 ∨ windowOn s n ∨ (b % 256 = 0 ∧ z % 256 = 0 ∧ 256 ≤ z ∧ b + z ≤ 0x780000)) abRange
  apply := fun s _ old new => if leNat old = 0 ∧ leNat new = 1 then updWindow s n fun w => { w with wr := 0, rd := 0, fill := 0 } else s

/-- PAN_WINDOW_n.base, size and mode (R422). -/
def actWindowSetting (n : Nat) : Action where
  state := fun s _ _ => need (¬ windowOn s n) abState

/-- PAN_WINDOW_ENABLE. -/
def execPanWindowEnable (e : Env) (n : Fin 16) (v : Byte) (s : State) : Res :=
  hostWrite e (0x6520 + n.val) 1 [v] (actWindowEnable n.val) s

/-- PAN_CONFLICT_CLEAR (R413). -/
def actConflictClear : Action where
  value := fun _ _ v => need (leNat v = 1) abRange
  apply := fun s _ _ _ => { s with pan.conflicts := [] }

/-- PAN_CONFLICT_CLEAR. -/
def execPanConflictClear (e : Env) (v : Byte) (s : State) : Res := hostWrite e 0x6531 0 [v] actConflictClear s

/-! ### The background test (R416 to R418) -/

/-- The next region of bank 30 or 31 is copied into the shadow, once a test interval has passed since the last was (R416). -/
def startRegion (s : State) (bank31 : Bool) : State :=
  let t := bankTest s bank31
  if t.failed ∨ t.testing ∨ ¬ t.running ∨ bankState s (if bank31 then 31 else 30) ≠ 0 ∨ ¬ s.elapsed t.startedAt (s.num 0x6511 2 * 1000) then s
  else
    setBankTest s bank31 { t with testing := true, startedAt := s.now, shadow := panBytes s (regionOff bank31 t.region + ·) 512 }

/-- The shadow of bank 30 or 31 written back into its region, from where the array serves it again (R416, R417). -/
def restoreRegion (s : State) (bank31 : Bool) : State :=
  let t := bankTest s bank31
  panWrite (regionOff bank31 t.region + ·) 0 t.shadow (setBankTest s bank31 { t with testing := false, failed := false, shadow := [] })

/-- A region's test ends at the next region. -/
def nextRegion (s : State) (bank31 : Bool) : State :=
  let t := bankTest s bank31
  let r := (t.region + 1) % 512
  let passes := if r = 0 then satInc t.passes 0xFFFF else t.passes
  let b := if bank31 then 31 else 30
  let s1 := setBankTest (restoreRegion s bank31) bank31 { bankTest (restoreRegion s bank31) bank31 with region := r, passes := passes }
  if r = 0 then event s1 (bankSrc b) 0x4814 (u8 b ++ u16 passes) else s1

/-- BACKGROUND_TEST_REGION: the region of bank 30 or 31 whose turn it is has been marched and is restored, or fails and stays in
its shadow; a failure in bank 31 of the sealed partition is told to it (R615). -/
def execBackgroundTestRegion (bank31 failed : Bool) (s : State) : Res :=
  let s0 := startRegion s bank31
  let t := bankTest s0 bank31
  let b := if bank31 then 31 else 30
  if ¬ t.testing then .next s
  else if failed then
    let s1 := event (setBankTest s0 bank31 { t with failed := true, running := false, testing := false }) (bankSrc b) 0x4815
      (u8 b ++ u16 t.region)
    .next (if bank31 ∧ s.sealed.enabled then
        writeSealedStatus (event { s1 with sealed.faults := s1.sealed.faults ||| 2 } 0xA000 0xC009 (u16 t.region))
      else s1)
  else .next (nextRegion s0 bank31)

/-- BACKGROUND_REGION_TIMEOUT: the region in test is not complete within 100 µs; it is restored, and its next turn is in the next
pass. -/
def execBackgroundRegionTimeout (bank31 : Bool) (s : State) : Res :=
  let t := bankTest s bank31
  let b := if bank31 then 31 else 30
  if ¬ t.testing ∨ ¬ s.elapsed t.startedAt 100000 then .next s
  else .next (event (nextRegion s bank31) (bankSrc b) 0x4816 (u8 b ++ u16 t.region))

/-- A Start-up begins the background test of a bank that had stopped anew (R418): what its shadow holds goes back. -/
def resumeTests (s : State) : State :=
  [false, true].foldl (fun s k =>
    if (bankTest s k).failed then setBankTest (restoreRegion s k) k { bankTest (restoreRegion s k) k with running := true, startedAt := s.now }
    else s) s

end Sys2Proof.Machine
end

