-- ==== Sys2Proof/Machine/Wale.lean ====
section
/-! DEFINITION. Wale (09): slices, fills, write-backs, flushes; rows LINE_FILL_DONE to FLUSH_DONE. -/

namespace Sys2Proof.Machine

/-! ### Ways (R393 to R395, R406) -/

/-- The set of an address. -/
def setOf (a : Nat) : Nat := field a 17 6
/-- The key of a way. -/
def wayKey (sl set way : Nat) : Nat := sl * 65536 + set * 16 + way
/-- The source of a slice's events. -/
def sliceSrc (sl : Nat) : Nat := 0x3000 + sl
/-- A way. -/
def State.way (s : State) (k : Nat) : Option WLine := AMap.get none s.wale.ways k
/-- A way replaced. -/
def setWay (s : State) (k : Nat) (x : Option WLine) : State := { s with wale.ways := AMap.set none s.wale.ways k x }
/-- Slice sl. -/
def State.slice (s : State) (sl : Nat) : Slice := AMap.get {} s.wale.slices sl
/-- Slice sl changed. -/
def updSlice (s : State) (sl : Nat) (f : Slice → Slice) : State := { s with wale.slices := AMap.upd {} s.wale.slices sl f }

/-- The way that holds a line, by its number. -/
def findWay (s : State) (sl line : Nat) : Option Nat :=
  (List.range 16).find? fun w =>
    match s.way (wayKey sl (setOf (line * 64)) w) with
    | some x => decide (x.line = line)
    | none => false

/-- The line held, with the key of its way. -/
def lookup (s : State) (sl line : Nat) : Option (Nat × WLine) :=
  match findWay s sl line with
  | none => none
  | some w => (s.way (wayKey sl (setOf (line * 64)) w)).map fun x => (wayKey sl (setOf (line * 64)) w, x)

/-- Whether a way is reserved for another kind of line (R393). -/
def wayReserved (s : State) (sl w line : Nat) : Bool :=
  s.sealed.enabled && decide (sl = 0) && (decide (line * 64 < 0x4000000) != decide (14 ≤ w))

/-- Whether the maintenance table of a slice holds a line (R403). -/
def inMaint (s : State) (sl line : Nat) : Bool := (s.slice sl).maint.any fun e => decide (e.1 = line)

/-- Whether a way may be chosen for a line. -/
def wayFree (s : State) (sl line w : Nat) : Bool :=
  !(s.slice sl).disabled.getLsbD w && !wayReserved s sl w line &&
    (match s.way (wayKey sl (setOf (line * 64)) w) with
     | none => true
     | some x => !x.pinned && !inMaint s sl x.line)

/-- Whether a node of the tree of ways, depth levels above the ways, has a way that ok admits. -/
def treeHas (ok : Nat → Bool) (node depth : Nat) : Bool :=
  (List.range (2 ^ depth)).any fun i => ok (node * 2 ^ depth + i - 16)

/-- The way that the tree's bits lead to among those admitted. A bit set leads to the upper half (log entry 16). -/
def treePick (bits : BitVec 15) (ok : Nat → Bool) : Nat → Nat → Nat
  | 0, node => node - 16
  | d + 1, node =>
    let up := bits.getLsbD (node - 1)
    let first := 2 * node + b2n up
    let second := 2 * node + b2n (!up)
    treePick bits ok d (if treeHas ok first d then first else second)

/-- The victim of a set for a line (R395): an invalid way where one may be chosen, else the pseudo-LRU choice. -/
def victim (s : State) (sl line : Nat) : Option Nat :=
  let ok := wayFree s sl line
  let set := setOf (line * 64)
  match (List.range 16).find? fun w => ok w && (s.way (wayKey sl set w)).isNone with
  | some w => some w
  | none =>
    if treeHas ok 1 4 then some (treePick (AMap.get 0 s.wale.plru (sl * 4096 + set)) ok 4 1) else none

/-- The tree's bits on the path to a way made to lead away from it. -/
def treeAway (w : Nat) : Nat → Nat → BitVec 15 → BitVec 15
  | 0, _, b => b
  | d + 1, node, b =>
    let up := bit w d
    let m : BitVec 15 := 1#15 <<< (node - 1)
    treeAway w d (2 * node + b2n up) (if up then b &&& ~~~m else b ||| m)

/-- A way used. -/
def touchWay (s : State) (k : Nat) : State :=
  { s with wale.plru := AMap.upd 0 s.wale.plru (k / 16) (treeAway (k % 16) 4 1) }

/-! ### Requests to the controller -/

/-- A request sent towards its channel's controller. -/
def toController (s : State) (r : DReq) : State :=
  { s with noc.serial := s.noc.serial + 1, wale.toDram := s.wale.toDram ++ [{ r with seq := s.noc.serial + 1, at_ := s.now }] }

/-- A write-back of a line begins (R396, R407). -/
def beginBack (s : State) (sl : Nat) (x : WLine) (evicted : Bool) : State :=
  let s1 := { s with wale.backs := s.wale.backs ++ [{ slice := sl, line := x.line, data := x.data, poison := x.poison, evicted := evicted }] }
  toController s1 { src := 1, slice := sl, line := x.line, write := true, cls := 1, initiator := 0x80, data := x.data, poison := x.poison }

/-- The lines of a set that stay because DRAM answered 7 are offered again (R408). -/
def offerPinned (s : State) (sl set : Nat) : State :=
  (List.range 16).foldl (fun s w =>
    match s.way (wayKey sl set w) with
    | some x =>
      if x.pinned ∧ x.dirty ∧ ¬ s.wale.backs.any (fun b => b.slice = sl ∧ b.line = x.line) then beginBack s sl x false else s
    | none => s) s

/-- A line enters its set in a way, the line there before it evicted. -/
def placeLine (s : State) (sl w : Nat) (x : WLine) : State :=
  let set := setOf (x.line * 64)
  let k := wayKey sl set w
  let s1 := match s.way k with
    | some old =>
      if old.dirty then counted (beginBack (offerPinned s sl set) sl old true) (sliceSrc sl) 0x03 0 1 else s
    | none => s
  touchWay (setWay s1 k (some x)) k

/-- How many evicted lines a slice's victim buffer holds (R398). -/
def victimsHeld (s : State) (sl : Nat) : Nat := (s.wale.backs.filter fun b => b.slice = sl ∧ b.evicted).length

/-! ### Serving a request (R396 to R399, R403 to R405) -/

/-- The DRAM address of a packet: the sealed region's addresses name the bottom of the DRAM (R379). -/
def dramAddr (p : Pkt) : Nat := if 0x3E0000000000 ≤ p.address then p.address - 0x3E0000000000 else p.address

/-- The part of a packet that lies in a line: its offset in the line, its offset in the packet, and its length. -/
def partOf (p : Pkt) (line : Nat) : Nat × Nat × Nat :=
  let lo := max (dramAddr p) (line * 64)
  let hi := min (dramAddr p + p.length) (line * 64 + 64)
  (lo - line * 64, lo - dramAddr p, hi - lo)

/-- A request of a slice with one line served: a status, and for a read its bytes of the line. -/
def gotLine (r : SliceReq) (line status : Nat) (lineData : List Byte) : SliceReq :=
  let q := partOf r.pkt line
  { r with left := r.left.filter (fun x => decide (x ≠ line)), out := r.out.filter (fun x => decide (x ≠ line)),
           status := if r.status = 0 then status else r.status,
           pkt := if r.pkt.kind = 0x01 ∧ status = 0 then
               { r.pkt with data := mergeBytes r.pkt.data q.2.1 (bytesAt lineData q.1 q.2.2) } else r.pkt }

/-- A request's part of a line goes to the controller uncached (R395, R397, R404). -/
def sendUncached (s : State) (sl : Nat) (r : SliceReq) (line : Nat) : State × SliceReq :=
  let q := partOf r.pkt line
  let write := decide (r.pkt.kind = 0x02)
  (toController s { id := r.pkt.id, src := 2, slice := sl, line := line, write := write, cls := r.pkt.cls, initiator := r.pkt.initiator,
                    off := q.1, data := if write then bytesAt r.pkt.data q.2.1 q.2.2 else [] },
   { r with left := r.left.filter (fun x => decide (x ≠ line)), out := r.out ++ [line], pkt := { r.pkt with outcome := 2 } })

/-- Whether a request of an outer initiator bypasses slice data at a line (R404). -/
def bypasses (s : State) (r : SliceReq) (line : Nat) : Bool :=
  isOuter r.pkt.initiator && ((metaRegionOf s (line * 64)).isSome ||
    (match regionOf s (line * 64) with
     | some g => decide (regionMode s g ≠ 0)
     | none => false))

/-- A line that a slice holds serves its part of a request. -/
def serveHit (s : State) (r : SliceReq) (line k : Nat) (x : WLine) : State × SliceReq :=
  let q := partOf r.pkt line
  if r.pkt.kind = 0x01 then
    if x.poison then (touchWay s k, gotLine r line 3 []) else (touchWay s k, gotLine r line 0 x.data)
  else if x.poison ∧ q.2.2 < 64 then (s, gotLine r line 3 [])
  else
    let d := mergeBytes x.data q.1 (bytesAt r.pkt.data q.2.1 q.2.2)
    (touchWay (setWay s k (some { x with data := d, dirty := true, poison := false })) k, gotLine r line 0 [])

/-- A request's line tried: served from the slice, sent on, made to wait for a fill, or left waiting. -/
def tryLine (s : State) (earlier : List SliceReq) (r : SliceReq) (line : Nat) : State × SliceReq :=
  let sl := homeSlice s (line * 64)
  let q := partOf r.pkt line
  let write := decide (r.pkt.kind = 0x02)
  if earlier.any (fun e => e.left.contains line) ∨ s.wale.fills.any (fun f => f.slice = sl ∧ f.line = line) then (s, r)
  else if bypasses s r line then
    match lookup s sl line with
    | some (k, x) =>
      let s1 := if x.dirty then beginBack (setWay s k none) sl x true else if write then setWay s k none else s
      sendUncached s1 sl r line
    | none => sendUncached s sl r line
  else
    match lookup s sl line with
    | some (k, x) => serveHit (counted s (sliceSrc sl) 0x01 0 1) r line k x
    | none =>
      let s0 := counted s (sliceSrc sl) 0x02 0 1
      let r0 := { r with pkt := { r.pkt with outcome := 2 } }
      if r.pkt.cls = 2 then sendUncached s0 sl r line
      else if write ∧ q.2.2 = 64 then
        match victim s sl line with
        | some w =>
          if victimsHeld s sl < 16 then
            (placeLine s0 sl w { line := line, data := bytesAt r.pkt.data q.2.1 64, dirty := true }, gotLine r0 line 0 [])
          else (s, r)
        | none => sendUncached (event s0 (sliceSrc sl) 0x4808 (u8 sl ++ u16 (setOf (line * 64)))) sl r line
      else if (s.wale.fills.filter fun f => f.slice = sl).length < 64 then
        (toController { s0 with wale.fills := s0.wale.fills ++ [{ slice := sl, line := line, cls := r.pkt.cls, alloc := true }] }
          { src := 0, slice := sl, line := line, write := false, cls := r.pkt.cls, initiator := r.pkt.initiator }, r0)
      else (s, r)

/-- Each line still to be served of a request tried in turn. -/
def tryLines (earlier : List SliceReq) : List Nat → State → SliceReq → State × SliceReq
  | [], s, r => (s, r)
  | l :: ls, s, r =>
    let x := tryLine s earlier r l
    tryLines earlier ls x.1 x.2

/-- The outcome of a transaction that R692 records: 1 hit, 2 miss, and 3, 4 on the direct path. -/
def outcomeOf (p : Pkt) : Nat := (if p.outcome = 2 then 2 else 1) + (if p.direct then 2 else 0)

/-- A request that has everything is answered; otherwise it stays. -/
def settleReq (s : State) (r : SliceReq) : State × Option SliceReq :=
  if r.left = [] ∧ r.out = [] then (answer s r.pkt r.status r.pkt.data (outcomeOf r.pkt), none) else (s, some r)

/-- One waiting request tried, by its packet's number; the requests that arrived before it and have not had their lines stay ahead
of it at those (R398). -/
def tryReq (s : State) (id : Nat) : State :=
  match indexOf? (fun (r : SliceReq) => decide (r.pkt.id = id)) s.wale.waiting with
  | none => s
  | some i =>
    let r := s.wale.waiting.getD i default
    let x := tryLines (s.wale.waiting.take i) r.left s r
    let y := settleReq x.1 x.2
    match y.2 with
    | some r => { y.1 with wale.waiting := setAt y.1.wale.waiting i r }
    | none => { y.1 with wale.waiting := delAt y.1.wale.waiting i }

/-- Every request that the slices hold tried: the guaranteed ones ahead of every other (R399), each in order of arrival (R398). -/
def runSlices (s : State) : State :=
  let ids := fun (g : Bool) => (s.wale.waiting.filter fun r => r.pkt.guaranteed == g).map fun r => r.pkt.id
  (ids true ++ ids false).foldl tryReq s

/-- The lines of a packet. -/
def linesOf (p : Pkt) : List Nat :=
  (List.range ((dramAddr p + p.length - 1) / 64 + 1 - dramAddr p / 64)).map fun i => dramAddr p / 64 + i

/-- ECC_WALE of a slice with a corrected or uncorrectable read counted. -/
def waleEcc (s : State) (sl : Nat) (bad : Bool) : State := { s with ecc.wale := AMap.upd 0 s.ecc.wale sl (countEcc · bad) }

/-- What a lookup's words turn out to be (R405): an uncorrectable word discards a clean line and poisons a dirty one. -/
def lineErr (s : State) (sl line : Nat) (err : MemErr) : State :=
  match lookup s sl line with
  | none => s
  | some (k, x) =>
    match err with
    | .good => s
    | .corrected => counted (waleEcc s sl false) (sliceSrc sl) 0x07 0 1
    | .uncorrectable =>
      if x.dirty then
        event (setWay (waleEcc s sl true) k (some { x with poison := true })) (sliceSrc sl) 0x4803 (u8 sl ++ u64 (line * 64))
      else event (setWay (waleEcc s sl true) k none) (sliceSrc sl) 0x4802 (u8 sl ++ u16 (setOf (line * 64)) ++ u8 (k % 16))

/-- What a lookup finds in the tag copies of a way (R406). -/
def tagErr (s : State) (sl line : Nat) (t : TagErr) : State :=
  let set := setOf (line * 64)
  match t with
  | .good => s
  | .one w => event s (sliceSrc sl) 0x4804 (u8 sl ++ u16 set ++ u8 w.val)
  | .both w =>
    let k := wayKey sl set w.val
    let dirty := match s.way k with
      | some x => x.dirty
      | none => false
    event (setWay (updSlice s sl fun x => { x with disabled := x.disabled ||| (1#16 <<< w.val) }) k none) (sliceSrc sl) 0x4805
      (u8 sl ++ u16 set ++ u8 w.val ++ u8 (b2n dirty))

/-- A request reaches its home slice. -/
def acceptSlice (s : State) (p : Pkt) (tag : TagErr) (err : MemErr) : State :=
  let a := dramAddr p
  let s := useRegion s a
  let sl := homeSlice s a
  let stop := match regionOf s a with
    | some r => regionStop s r
    | none => none
  if (s.slice sl).off ∨ ¬ s.dram.trained then answer s p 7 [] 0
  else
    match stop with
    | some st => answer s p st [] 0
    | none =>
      let s1 := if p.direct then counted s (sliceSrc sl) 0x05 0 1 else s
      let s2 := lineErr (tagErr s1 sl (a / 64) tag) sl (a / 64) err
      let q := if p.kind = 0x01 then { p with data := zeros p.length } else p
      runSlices { s2 with wale.waiting := s2.wale.waiting ++ [{ pkt := q, left := linesOf p }] }

/-! ### The slice port (R402) -/

/-- The port of a slice. -/
def State.slicePort (s : State) (sl : Nat) : SlicePort := AMap.get {} s.wale.ports sl

/-- A packet taken by its slice's port, which is busy for one Wale cycle, six root periods, per flit; the other path has the next
turn. -/
def takeAtPort (s : State) (sl : Nat) (x : Pkt × TagErr × MemErr) : State :=
  acceptSlice { s with wale.ports := AMap.upd {} s.wale.ports sl fun q =>
    { q with freeAt := s.now + 6 * flits x.1, directNext := !x.1.direct } } x.1 x.2.1 x.2.2

/-- The packet at a port whose turn it is: a guaranteed one first; then the two paths round robin. -/
def portTurn (q : SlicePort) : Option Nat :=
  let find := fun (f : Pkt → Bool) => indexOf? (fun (x : Pkt × TagErr × MemErr) => f x.1) q.waiting
  ((find (·.guaranteed)).or (find fun p => p.direct == q.directNext)).or (find fun _ => true)

/-- The ports of the slices that are free take their next packets. -/
def runPorts (s : State) : State :=
  s.wale.ports.foldl (fun s kv =>
    let q := s.slicePort kv.1
    match portTurn q with
    | none => s
    | some i =>
      if s.now < q.freeAt then s
      else
        match q.waiting[i]? with
        | none => s
        | some x => takeAtPort { s with wale.ports := AMap.set {} s.wale.ports kv.1 { q with waiting := delAt q.waiting i } } kv.1 x) s

/-- Every packet that waits at a port taken at once, in order of arrival. -/
def emptyPorts (s : State) : State :=
  s.wale.ports.foldl (fun s kv => kv.2.waiting.foldl (fun s x => acceptSlice s x.1 x.2.1 x.2.2) s) { s with wale.ports := [] }

/-- A request reaches its home slice: its port takes it where it is free, else it waits there. -/
def reachSlice (s : State) (p : Pkt) (tag : TagErr) (err : MemErr) : State :=
  let sl := homeSlice s (dramAddr p)
  let q := s.slicePort sl
  if q.waiting = [] ∧ q.freeAt ≤ s.now then takeAtPort s sl (p, tag, err)
  else { s with wale.ports := AMap.set {} s.wale.ports sl { q with waiting := q.waiting ++ [(p, tag, err)] } }

/-! ### Answers of the controller -/

/-- The status and bytes that a request to the controller is answered with. -/
def dramAnswer (s : State) (r : DReq) (status : Nat) (data : List Byte) : State :=
  match r.src with
  | 0 =>
    { s with wale.fills := s.wale.fills.map fun f =>
        if f.slice = r.slice ∧ f.line = r.line then { f with answer := some (status, data) } else f }
  | 1 =>
    match indexOf? (fun (b : WriteBack) => decide (b.slice = r.slice) && decide (b.line = r.line) && b.answer.isNone) s.wale.backs with
    | some i => { s with wale.backs := setAt s.wale.backs i { s.wale.backs.getD i default with answer := some status } }
    | none => s
  | 2 =>
    match indexOf? (fun (q : SliceReq) => decide (q.pkt.id = r.id) && q.out.contains r.line) s.wale.waiting with
    | some i =>
      let q := gotLine (s.wale.waiting.getD i default) r.line status data
      let y := settleReq s q
      match y.2 with
      | some q => { y.1 with wale.waiting := setAt y.1.wale.waiting i q }
      | none => { y.1 with wale.waiting := delAt y.1.wale.waiting i }
    | none => s
  | _ => s

/-- A fetched line serves the requests that wait for it without being allocated: reads take its bytes, writes go on to
the controller, and a status other than 0 answers all of them (R395, R396). -/
def serveUnallocated (s : State) (sl line status : Nat) (data : List Byte) : State :=
  let go := s.wale.waiting.foldl (fun (acc : State × List SliceReq) r =>
    if ¬ r.left.contains line then (acc.1, acc.2 ++ [r])
    else
      let x := if status ≠ 0 ∨ r.pkt.kind = 0x01 then (acc.1, gotLine r line status data) else sendUncached acc.1 sl r line
      let y := settleReq x.1 x.2
      (y.1, match y.2 with
        | some r => acc.2 ++ [r]
        | none => acc.2)) (s, [])
  runSlices { go.1 with wale.waiting := go.2 }

/-- LINE_FILL_DONE (R396): the k-th fill outstanding returns; its slice allocates the line and serves those waiting. -/
def execLineFillDone (k : Nat) (s : State) : Res :=
  match s.wale.fills[k]? with
  | none => .next s
  | some f =>
    match f.answer with
    | none => .next s
    | some (st, data) =>
      let s1 := { s with wale.fills := delAt s.wale.fills k }
      if st ≠ 0 then .next (serveUnallocated s1 f.slice f.line st data)
      else
        match victim s f.slice f.line with
        | none =>
          .next (serveUnallocated (event s1 (sliceSrc f.slice) 0x4808 (u8 f.slice ++ u16 (setOf (f.line * 64)))) f.slice f.line 0 data)
        | some w =>
          if victimsHeld s f.slice < 16 then .next (runSlices (placeLine s1 f.slice w { line := f.line, data := data }))
          else .next s

/-! ### Write-backs and flushes (R407, R408) -/

/-- A flush of a slice has one line less to wait for. -/
def flushLine (s : State) (sl line status : Nat) : State :=
  if ¬ (s.slice sl).flushLeft.contains line then s
  else
    updSlice s sl fun x =>
      { x with flushLeft := x.flushLeft.filter (fun l => decide (l ≠ line)), flushWritten := x.flushWritten + b2n (decide (status = 0)),
               flushDirty := x.flushDirty + b2n (decide (status = 7)) }

/-- A write-back that DRAM answers 7 leaves its line valid, dirty and pinned; an evicted line takes a way again, or
stays in the victim buffer and is offered again. -/
def keepBack (s : State) (b : WriteBack) : State :=
  match lookup s b.slice b.line with
  | some (k, x) => setWay s k (some { x with dirty := true, pinned := true })
  | none =>
    let x : WLine := { line := b.line, data := b.data, dirty := true, poison := b.poison, pinned := true }
    match victim s b.slice b.line with
    | some w => placeLine s b.slice w x
    | none => beginBack s b.slice x b.evicted

/-- WRITE_BACK_ANSWERED (R408): the k-th write-back is answered with a status. -/
def execWriteBackAnswered (k : Nat) (status : Fin 8) (s : State) : Res :=
  match s.wale.backs[k]? with
  | none => .next s
  | some b =>
    if b.answer ≠ some status.val then .next s
    else
      let s1 := flushLine { s with wale.backs := delAt s.wale.backs k } b.slice b.line status.val
      if status.val = 0 then
        .next (runSlices (match lookup s1 b.slice b.line with
          | some (j, x) => setWay s1 j (some { x with pinned := false })
          | none => s1))
      else if status.val = 7 then .next (keepBack s1 b)
      else
        let s2 := match lookup s1 b.slice b.line with
          | some (j, x) => if x.pinned ∧ ¬ x.dirty then setWay s1 j none else s1
          | none => s1
        .next (runSlices (event s2 (sliceSrc b.slice) 0x4807 (u8 b.slice ++ u64 (b.line * 64) ++ u8 status.val)))

/-- The dirty lines of a slice, with their keys. -/
def dirtyLines (s : State) (sl : Nat) : List (Nat × WLine) :=
  s.wale.ways.filterMap fun kv =>
    if kv.1 / 65536 = sl then
      match kv.2 with
      | some x => if x.dirty then some (kv.1, x) else none
      | none => none
    else none

/-- A flush of a slice accepted: every dirty line is written back, and stays valid and clean (R407). -/
def beginFlush (s : State) (sl : Nat) (invalidate : Bool) : State :=
  let ds := dirtyLines s sl
  let s1 := ds.foldl (fun s kx => beginBack (setWay s kx.1 (some { kx.2 with dirty := false, pinned := true })) sl kx.2 false) s
  updSlice s1 sl fun x =>
    { x with flushing := true, flushInvalidate := invalidate, flushLeft := ds.map (·.2.line), flushWritten := 0, flushDirty := 0,
             flushAt := s.now }

/-- A command for a slice that is off, or already flushing, is refused. -/
def flushable (s : State) (mask : Nat) : Bool := (bitsSet mask 16).all fun sl => !(s.slice sl).off && !(s.slice sl).flushing

/-- WALE_CMD.flush and WALE_CMD.invalidate. -/
def actFlush (invalidate : Bool) : Action where
  state := fun s _ v => need (flushable s (leNat v)) abState
  apply := fun s _ _ v => (bitsSet (leNat v) 16).foldl (fun s sl => beginFlush s sl invalidate) s

/-- WALE_FLUSH. -/
def execWaleFlush (e : Env) (mask : BitVec 16) (s : State) : Res := hostWrite e 0x6501 1 (u16 mask.toNat) (actFlush false) s
/-- WALE_INVALIDATE. -/
def execWaleInvalidate (e : Env) (mask : BitVec 16) (s : State) : Res := hostWrite e 0x6501 2 (u16 mask.toNat) (actFlush true) s

/-- The clean lines of a slice made invalid. -/
def invalidateSlice (s : State) (sl : Nat) : State :=
  { s with wale.ways := s.wale.ways.filter fun kv =>
      decide (kv.1 / 65536 ≠ sl) || (match kv.2 with
        | some x => x.dirty
        | none => false) }

/-- FLUSH_DONE (R407): every line of a slice's flush has been answered. -/
def execFlushDone (slice : Fin 16) (s : State) : Res :=
  let sl := slice.val
  let x := s.slice sl
  if ¬ x.flushing ∨ x.flushLeft ≠ [] then .next s
  else
    let s1 := if x.flushInvalidate then invalidateSlice s sl else s
    let s2 := updSlice s1 sl fun x => { x with flushing := false, flushInvalidate := false }
    .next (event s2 (sliceSrc sl) 0x4801 (u16 (2 ^ sl) ++ u32 x.flushWritten ++ u32 x.flushDirty ++ u32 (s.nsSince x.flushAt)))

/-- MAINTENANCE_ENTRY_TIMEOUT (R403): an entry leaves a slice's maintenance table 10 µs after its read. -/
def execMaintenanceEntryTimeout (slice : Fin 16) (line : Nat) (s : State) : Res :=
  .next (if (s.slice slice.val).maint.any (fun e => decide (e.1 = line) && s.elapsed e.2 10000) then
    updSlice s slice.val fun x => { x with maint := x.maint.filter fun e => decide (e.1 ≠ line) }
  else s)

/-! ### Flushing at once -/

/-- What the writes that wait for DRAM make of a line's bytes, in order of issue. -/
def pendingOver (s : State) (line : Nat) (base : List Byte) : List Byte :=
  let c := s.chan (dloc (line * 64)).chan
  ((c.writeQ ++ s.wale.toDram).filter fun r => r.write ∧ r.line = line).foldl (fun b r => mergeBytes b r.off r.data) base

/-- A slice flushed, and where asked invalidated, in one step: each dirty line is written through its engine; a line
answered 7 stays dirty, and one answered otherwise is lost with event 0x4807 (R408, R409). -/
def flushNow (s : State) (sl : Nat) (invalidate : Bool) : State :=
  let s1 := (dirtyLines s sl).foldl (fun s kx =>
    let w := engineWrite s (kx.2.line * 64) 0x80 kx.2.data kx.2.poison []
    if w.2 = 0 then setWay w.1 kx.1 (some { kx.2 with dirty := false, pinned := false })
    else if w.2 = 7 then setWay w.1 kx.1 (some { kx.2 with pinned := true })
    else event (setWay w.1 kx.1 none) (sliceSrc sl) 0x4807 (u8 sl ++ u64 (kx.2.line * 64) ++ u8 w.2)) s
  if invalidate then invalidateSlice s1 sl else s1

/-- A request carried out at DRAM and answered; errs and spareErrs as DRAM_COMMAND_SLOT gives them. -/
def performDram (s : State) (r : DReq) (errs : List (Nat × Nat)) (spareErrs : List Bool) : State :=
  let a := r.line * 64
  if ¬ r.write then
    let d := engineRead s a r.initiator errs spareErrs
    dramAnswer d.1 r d.2.1 d.2.2
  else if r.data.length = 64 then
    let w := engineWrite s a r.initiator r.data r.poison errs
    dramAnswer w.1 r w.2 []
  else
    let w := enginePartial s a r.initiator r.off r.data errs spareErrs
    dramAnswer w.1 r w.2 []

/-- A request put among others in order of issue. -/
def bySeq (r : DReq) : List DReq → List DReq
  | [] => [r]
  | q :: qs => if r.seq ≤ q.seq then r :: q :: qs else q :: bySeq r qs

/-- The requests on their way to DRAM, or queued there, carried out in order of issue (R436). -/
def settleDram (s : State) : State :=
  let rs := ((List.range 32).flatMap fun c => (s.chan c).readQ ++ (s.chan c).writeQ) ++ s.wale.toDram
  let s1 := (List.range 32).foldl (fun s c =>
    if (s.chan c).writeQ = [] ∧ (s.chan c).readQ = [] then s else s.updChan c fun x => { x with readQ := [], writeQ := [], drain := false })
    { s with wale.toDram := [] }
  (rs.foldr bySeq []).foldl (fun s r => performDram s r [] []) s1

/-- Every slice flushed and invalidated, the requests on their way first (R525). -/
def flushAll (s : State) (invalidate : Bool) : State :=
  (List.range 16).foldl (fun s sl => if (s.slice sl).off then s else flushNow s sl invalidate) (settleDram s)

/-! ### Whole-access views for the services' own initiators -/

/-- A line read by an initiator as R396 serves it. -/
def peekLine (s : State) (line init : Nat) : State × Nat × List Byte :=
  let sl := homeSlice s (line * 64)
  if (s.slice sl).off then (s, 7, zeros 64)
  else
    match lookup s sl line with
    | some (_, x) => if x.poison then (s, 3, zeros 64) else (s, 0, x.data)
    | none =>
      let d := engineRead s (line * 64) init [] []
      (d.1, d.2.1, pendingOver d.1 line d.2.2)

/-- Bytes of the DRAM read by an initiator: the first status other than 0, and the bytes. -/
def peekGo (init a : Nat) : List Nat → State → Nat → List Byte → State × Nat × List Byte
  | [], s, st, acc => (s, st, acc)
  | l :: ls, s, st, acc =>
    let d := peekLine s l init
    peekGo init a ls d.1 (if st = 0 then d.2.1 else st) (acc ++ d.2.2)

/-- n bytes of the DRAM at a read by an initiator. -/
def peek (s : State) (init a n : Nat) : State × Nat × List Byte :=
  if n = 0 then (s, 0, [])
  else
    let d := peekGo init a ((List.range ((a + n - 1) / 64 + 1 - a / 64)).map fun i => a / 64 + i) s 0 []
    (d.1, d.2.1, bytesAt d.2.2 (a % 64) n)

/-- Bytes of one line written by an initiator: into the slice where it holds the line, else towards DRAM. -/
def pokeLine (s : State) (init line off : Nat) (data : List Byte) : State × Nat :=
  let sl := homeSlice s (line * 64)
  if (s.slice sl).off then (s, 7)
  else
    match lookup s sl line with
    | some (k, x) =>
      if x.poison ∧ data.length < 64 then (s, 3)
      else (setWay s k (some { x with data := mergeBytes x.data off data, dirty := true, poison := false }), 0)
    | none =>
      if ((s.chan (dloc (line * 64)).chan).writeQ ++ s.wale.toDram).any (fun r => r.write && decide (r.line = line)) then
        (toController s { src := 3, slice := sl, line := line, write := true, cls := 2, initiator := init, off := off, data := data }, 0)
      else enginePartial s (line * 64) init off data [] []

/-- Bytes written from an address up, line by line; the first status other than 0. -/
def poke (init : Nat) : Nat → Nat → List Byte → State → State × Nat
  | 0, _, _, s => (s, 0)
  | fuel + 1, a, data, s =>
    if data = [] then (s, 0)
    else
      let n := min data.length (64 - a % 64)
      let w := pokeLine s init (a / 64) (a % 64) (data.take n)
      let r := poke init fuel (a + n) (data.drop n) w.1
      (r.1, if w.2 = 0 then r.2 else w.2)

/-- Bytes of the DRAM written at a by an initiator. -/
def pokeAll (s : State) (init a : Nat) (data : List Byte) : State × Nat := poke init (data.length / 64 + 2) a data s

end Sys2Proof.Machine
end

