-- ==== Sys2Proof/Machine/BasePort.lean ====
section
/-! DEFINITION. Base ports (R172, R382 to R384): words to packets and packets to words; row BASEPORT_TRANSACTION. -/

namespace Sys2Proof.Machine

/-- Whether the active context of a sector places a BASEPORT in a cluster (R292). -/
def portPresent (s : State) (g c : Nat) : Bool := bit (s.activeSettings g c 0 6) 0

/-- The modes in which a sector's base ports move words: Run, Start-up from the enable-writes step, and for the sealed
sector also Hold and Stable (R389, R621). -/
def portMode (s : State) (g : Nat) : Bool :=
  match s.mode with
  | .run => true
  | .startUp => s.boot.writesEnabled
  | .hold => true
  | .stable => s.isSealedSector g
  | _ => false

/-- Whether a base port moves words: its sector powered, its clock running, past the enable-writes and release-set/reset
steps, and the port neither down nor absent (R172, R173, R192, R240, R389). -/
def portMoves (s : State) (g c : Nat) : Bool :=
  s.sectorOn g && s.boot.writesEnabled && s.boot.srReleased && portMode s g && !clocksStopped s g && !s.portIsDown g c &&
    portPresent s g c

/-- Bytes as 32-bit words, the last one filled with zeros. -/
def toWords (bs : List Byte) : List U32 :=
  (List.range ((bs.length + 3) / 4)).map fun i => BitVec.ofNat 32 (natAt bs (4 * i) 4)

/-- Words as bytes. -/
def fromWords (ws : List U32) : List Byte := ws.flatMap fun w => u32 w.toNat

/-- The words of a response on rx_data (R383). -/
def responseWords (p : Pkt) (status : Nat) (data : List Byte) : List U32 :=
  BitVec.ofNat 32 ((if p.kind % 0x80 = 1 then 3 else 4) * 2 ^ 28 + status * 2 ^ 24 + p.tag % 256 * 2 ^ 16 + (p.length - 1)) ::
    (if p.kind % 0x80 = 1 then toWords data else [])

/-- Words that the base die has for a port, each with the context that its transaction was issued by (R172). -/
def toPort (s : State) (g c ctx : Nat) (ws : List U32) : State :=
  counted ({ s with fab.ports := AMap.upd {} s.fab.ports (g * 64 + c) fun l => { l with wait := l.wait ++ ws.map fun w => (ctx, w) } }.emit
    (.words g c ctx ws)) (0x1000 + g) 0x02 0 ws.length

/-- A response reaches its base port: its words go in with the issuing context, are held while the port's clock is
stopped, or are discarded with event 0x200C where the context places no port (R172, R230, R231, R240, R389). -/
def portAnswer (s : State) (p : Pkt) (g c status : Nat) (data : List Byte) : State :=
  if ¬ portPresent s g c ∨ s.portIsDown g c ∨ ¬ s.sectorOn g then event s (0x1000 + g) 0x200C (u8 g ++ u8 c)
  else if portMoves s g c then toPort s g c (p.ctx.getD 0) (responseWords p status data)
  else { s with noc.heldResp := s.noc.heldResp ++ [{ p with status := status, data := data }] }

/-- What still waits for base ports that the active contexts do not place is discarded, with event 0x200C for each (R231). -/
def dropAbsent (s : State) : State :=
  let gone := s.fab.ports.filter fun kv =>
    !portPresent s (kv.1 / 64) (kv.1 % 64) && (decide (kv.2.wait ≠ []) || kv.2.rx.isSome)
  gone.foldl (fun s kv =>
    event { s with fab.ports := AMap.upd {} s.fab.ports kv.1 fun l => { l with wait := [], rx := none } }
      (0x1000 + kv.1 / 64) 0x200C (u8 (kv.1 / 64) ++ u8 (kv.1 % 64))) s

/-- The responses held for base ports that now run, or that the incoming context does not place, are delivered or discarded, oldest
first (R231, R389). -/
def deliverHeld (s : State) : State :=
  let ready := fun (p : Pkt) =>
    match p.use with
    | .port g c => portMoves s g c || !portPresent s g c
    | _ => false
  let go := s.noc.heldResp.filter ready
  dropAbsent (go.foldl (fun s p =>
    match p.use with
    | .port g c => portAnswer s p g c p.status p.data
    | _ => s) { s with noc.heldResp := s.noc.heldResp.filter fun p => !ready p })

/-- The requests that a base port holds unanswered (R384). -/
def inboundOf (s : State) (g c : Nat) : List Pkt := AMap.get [] s.noc.inbound (g * 64 + c)

/-- The words of an inbound request (R383). -/
def inboundWords (p : Pkt) (off : Nat) : List U32 :=
  let len := p.length
  [BitVec.ofNat 32 (p.kind * 2 ^ 28 + p.tag % 256 * 2 ^ 16 + (len - 1)), BitVec.ofNat 32 off, BitVec.ofNat 32 p.initiator] ++
    (if p.kind = 0x02 then toWords p.data else [])

/-- An inbound request handed to a base port. -/
def portInbound (s : State) (p : Pkt) (g c off : Nat) : State :=
  toPort { s with noc.inbound := AMap.upd [] s.noc.inbound (g * 64 + c) (· ++ [p]) } g c ((s.activePlane g).getD 0) (inboundWords p off)

/-- A request on tx_data (R382): issued where the port holds a free credit. -/
def portRequest (s : State) (g c : Nat) (ws : List U32) : State :=
  let w0 := (ws.getD 0 0).toNat
  let kind := field w0 31 28
  let len := field w0 9 0 + 1
  let addr := (ws.getD 1 0).toNat + field (ws.getD 2 0).toNat 15 0 * 2 ^ 32
  let dataWords := if kind = 2 then (len + 3) / 4 else 0
  let p : Pkt := { kind := kind, initiator := g, src := 0, dst := 0, tag := field w0 23 16, address := addr, length := len,
                   ctx := s.activePlane g, cls := if bit w0 26 then 2 else 1, guaranteed := bit w0 27,
                   data := if kind = 2 then (fromWords (ws.drop 3)).take len else [], use := .port g c }
  if ws.length ≠ 3 + dataWords ∨ ¬ hasCredit s p then s
  else counted (issue s p) (0x1000 + g) 0x01 0 ws.length

/-- A response on tx_data answers the inbound request whose tag it carries (R382). -/
def portReply (s : State) (g c : Nat) (ws : List U32) : State :=
  let w0 := (ws.getD 0 0).toNat
  let kind := field w0 31 28 - 2
  let held := inboundOf s g c
  match indexOf? (fun p => decide (p.tag % 256 = field w0 23 16) && decide (p.kind = kind)) held with
  | none => s
  | some i =>
    match held[i]? with
    | none => s
    | some p =>
      if ws.length ≠ 1 + (if kind = 1 then (p.length + 3) / 4 else 0) then s
      else
        let s1 := { s with noc.inbound := AMap.set [] s.noc.inbound (g * 64 + c) (delAt held i) }
        counted (answer s1 p (field w0 27 24) ((fromWords (ws.drop 1)).take p.length) 0) (0x1000 + g) 0x01 0 ws.length

/-- How many words the transaction has whose first word is w, where it begins one (R382). -/
def txLength (w : U32) : Option Nat :=
  let data := (field w.toNat 9 0 + 4) / 4
  match field w.toNat 31 28 with
  | 1 => some 3
  | 2 => some (3 + data)
  | 3 => some (1 + data)
  | 4 => some 1
  | _ => none

/-- A whole transaction that the base die has taken from a port: a request is issued, a response answers its request. Words that
make no transaction of R382 do nothing. -/
def portTransaction (s : State) (g c : Nat) (words : List U32) : State :=
  let kind := field (words.getD 0 0).toNat 31 28
  if kind = 1 ∨ kind = 2 then portRequest s g c words
  else if kind = 3 ∨ kind = 4 then portReply s g c words
  else s

/-- The same at the edge of this instant: the words are the context's whose last cycle ends at it (R224). -/
def portTaken (s : State) (g c : Nat) (words : List U32) : State := { portTransaction s.outgoing g c words with planes := s.planes }

/-- Whether a port takes an edge of its clock now (R172, R224), where it has not taken it. -/
def portTakesEdge (s : State) (g c : Nat) : Bool :=
  unitClocked s (field (s.settingsNow g c 0 6) 3 1) g && !s.edgeDone (.base (g * 64 + c))

/-- A credit for a request of a port (R364, R384). -/
def portCredit (s : State) (g c : Nat) : Bool :=
  hasCredit s { kind := 1, initiator := g, src := 0, dst := 0, tag := 0, address := 0, length := 1, use := .port g c }

/-- tx_ready while the port's tx_data carries a word that would begin a transaction of this kind (R172, R173, R233). -/
def txReady (s : State) (g c kind : Nat) : Bool :=
  portMoves s g c && !fenceHolds s g c &&
    (let l : PortLink := AMap.get {} s.fab.ports (g * 64 + c)
     !l.words.isEmpty || l.cross.isSome || decide (kind ≠ 1 ∧ kind ≠ 2) || portCredit s g c)

/-- BASEPORT_TRANSACTION (R382): a transaction presented on tx_data, whose last word moves at this edge of the port's clock. -/
def execBaseportTransaction (sector : Fin 48) (cluster : Fin 64) (words : List U32) (s : State) : Res :=
  let g := sector.val
  let c := cluster.val
  .next (if ¬ portMoves s.outgoing g c ∨ fenceHolds s.outgoing g c ∨ ¬ portTakesEdge s g c then s
    else portTaken (s.opened.edgeTaken (.base (g * 64 + c))) g c words)

/-- Every transaction outstanding at a base port ends with a status (R365). -/
def endPort (s : State) (g c status : Nat) : State :=
  let mine := s.noc.open_.filter fun p => decide (p.use = .port g c)
  mine.foldl (fun s p => portAnswer s p g c status (zeros p.length))
    { s with noc.open_ := s.noc.open_.filter (fun p => decide (p.use ≠ .port g c)), noc.late := s.noc.late ++ mine }

end Sys2Proof.Machine
end

