-- ==== Sys2Proof/Machine/Movers.lean ====
section
/-! DEFINITION. The movers (R385 to R387): rows MOVER_DOORBELL to MOVER_DESCRIPTOR_DONE. -/

namespace Sys2Proof.Machine

/-- Mover m. -/
def State.mover (s : State) (m : Nat) : Mover := AMap.get {} s.noc.movers m
/-- Mover m changed. -/
def updMover (s : State) (m : Nat) (f : Mover → Mover) : State := { s with noc.movers := AMap.upd {} s.noc.movers m f }
/-- The source of a mover's events. -/
def moverSrc (m : Nat) : Nat := 0x2100 + m

/-- The fields of a descriptor: bytes per row, rows, class. -/
def descLength (d : List Byte) : Nat := natAt d 16 4
/-- The rows of a descriptor. -/
def descRows (d : List Byte) : Nat := natAt d 20 4
/-- The flags of a descriptor. -/
def descFlags (d : List Byte) : Nat := natAt d 48 2

/-- Whether a descriptor keeps its reserved fields zero and its class, length and rows in range (R385, R387). -/
def descOk (d : List Byte) : Bool :=
  decide (bytesAt d 50 6 = zeros 6) && decide (field (descFlags d) 15 8 = 0) && decide (field (descFlags d) 3 0 = 0) &&
    decide (field (descFlags d) 5 4 ≠ 3) && decide (1 ≤ descLength d) && decide (1 ≤ descRows d)

/-- The traffic class of a descriptor's packets. -/
def descCls (d : List Byte) : Nat := if field (descFlags d) 5 4 = 1 then 2 else 1
/-- Whether a descriptor asks for guaranteed traffic. -/
def descGt (d : List Byte) : Bool := decide (field (descFlags d) 5 4 = 2)

/-- The bytes up to the next boundary that a packet must not cross (R377, R378). -/
def stepRoom (a : Nat) : Nat :=
  if a < 0x100000000000 then 256 - a % 256
  else if 0x200000000000 ≤ a ∧ a < 0x203000000000 then 2 ^ 26 - a % 2 ^ 26
  else 1024

/-- The source, destination and length of the next packet of a descriptor. -/
def nextPiece (x : Mover) : Nat × Nat × Nat :=
  let src := natAt x.desc 0 8 + x.row * natAt x.desc 24 4 + x.col
  let dst := natAt x.desc 8 8 + x.row * natAt x.desc 28 4 + x.col
  (src, dst, min (min (descLength x.desc - x.col) 1024) (min (stepRoom src) (stepRoom dst)))

/-- The packets that a running mover may issue: reads of its source, in address order, up to 32 outstanding (R386). -/
def moverIssue (m : Nat) : Nat → State → State
  | 0, s => s
  | fuel + 1, s =>
    let x := s.mover m
    let p := nextPiece x
    let probe : Pkt := { kind := 1, initiator := 0x30 + m, src := 0, dst := 0, tag := 0, address := 0, length := 1 }
    if x.state ≠ 1 ∨ x.stopping ∨ x.failed ≠ 0 ∨ x.desc = [] ∨ descRows x.desc ≤ x.row ∨ 32 ≤ x.outstanding ∨ ¬ hasCredit s probe then s
    else
      let s1 := request s 0x01 (0x30 + m) p.1 p.2.2 (descCls x.desc) [] (.moverRead m p.2.1) (descGt x.desc)
      let full := decide (descLength x.desc ≤ x.col + p.2.2)
      moverIssue m fuel (updMover s1 m fun y =>
        { y with outstanding := y.outstanding + 1, col := if full then 0 else y.col + p.2.2, row := if full then y.row + 1 else y.row })

/-- A mover issues what it may. -/
def moverGo (s : State) (m : Nat) : State := moverIssue m 32 s

/-- A mover that has stopped, or failed, with nothing outstanding becomes idle or enters error, with event 0x300A
(R386, R387). -/
def moverSettle (s : State) (m : Nat) : State :=
  let x := s.mover m
  if x.state = 0 ∨ x.state = 3 ∨ x.outstanding ≠ 0 then s
  else if x.failed ≠ 0 then
    event (updMover s m fun y => { y with state := 3, error := x.failed, stopping := false, failed := 0, desc := [] })
      (moverSrc m) 0x300A (u8 m ++ u64 x.descAddr ++ u8 x.failed)
  else if x.stopping ∨ (x.desc = [] ∧ x.descAddr = 0) then
    updMover s m fun y => { y with state := 0, stopping := false, desc := [] }
  else s

/-- A mover's failure with a status. -/
def moverFail (s : State) (m status : Nat) : State :=
  moverSettle (updMover s m fun y => { y with failed := if y.failed = 0 then status else y.failed }) m

/-- A mover reads the descriptor at an address. -/
def readDescriptor (s : State) (m addr : Nat) : State :=
  let s1 := updMover s m fun y => { y with descAddr := addr, desc := [], row := 0, col := 0, outstanding := y.outstanding + 1 }
  request s1 0x01 (0x30 + m) addr 64 1 [] (.moverDesc m) false

/-- A mover starts on its first descriptor. -/
def startMover (s : State) (m addr : Nat) : State :=
  readDescriptor (updMover s m fun _ => { state := 1 }) m addr

/-- Whether the modes let movers start (R389): Run, Hold, and Service for Service sessions. -/
def moversServe (s : State) (level : Nat) : Bool :=
  s.runOrHold || (decide (s.mode = .service) && decide (3 ≤ level))

/-- A descriptor has been read. -/
def gotDescriptor (s : State) (m : Nat) (d : List Byte) : State :=
  if ¬ descOk d then moverFail s m 1
  else
    let wait := decide (natAt d 32 8 ≠ 0) && decide (s.tai < natAt d 32 8)
    let s1 := updMover s m fun y => { y with desc := d, row := 0, col := 0, state := if wait then 2 else 1 }
    if wait then s1 else moverGo s1 m

/-- A response of a mover's transaction. -/
def moverResponse (s : State) (m : Nat) (use : TxnUse) (p : Pkt) (status : Nat) (data : List Byte) : State :=
  let s1 := updMover s m fun y => { y with outstanding := y.outstanding - 1 }
  if status ≠ 0 then moverFail s1 m status
  else
    match use with
    | .moverDesc _ =>
      if (s1.mover m).stopping ∨ (s1.mover m).failed ≠ 0 then moverSettle s1 m else gotDescriptor s1 m data
    | .moverRead _ dst =>
      if (s1.mover m).stopping ∨ (s1.mover m).failed ≠ 0 then moverSettle s1 m
      else
        let d := (s1.mover m).desc
        request (updMover s1 m fun y => { y with outstanding := y.outstanding + 1 }) 0x02 (0x30 + m) dst p.length (descCls d) data
          (.moverWrite m) (descGt d)
    | .moverWrite _ =>
      let c := (s1.mover m).copied
      let s2 := counted (updMover s1 m fun y => { y with copied := c + p.length }) 0x0000 0x09 0 ((c + p.length) / 1024 - c / 1024)
      moverSettle (moverGo s2 m) m
    | _ => moverSettle s1 m

/-- MOVER_DOORBELL (R381, R386): a write of 8 bytes to a mover's doorbell; status 2 where the mover is not idle, or
starts are refused. -/
def moverDoorbell (s : State) (init m addr : Nat) : State × Nat :=
  if isOuter init ∨ (s.sealed.enabled ∧ init = 0) then (s, 4)
  else if (s.mover m).state ≠ 0 ∨ ¬ moversServe s 1 then (s, 2)
  else (startMover s m addr, 0)

/-- MOVER_DOORBELL. -/
def execMoverDoorbell (initiator : Byte) (m : Fin 16) (addr : U64) (s : State) : Res :=
  let r := moverDoorbell s initiator.toNat m.val addr.toNat
  .next (r.1.emit (.answer initiator.toNat r.2 []))

/-- NOC_MOVER_CMD.start. A start in state error is refused as in any state that is not idle (R386). -/
def actMoverStart : Action where
  state := fun s who v => firstOf
    [need (moversServe s (levelOf s who)) abState, need (natAt v 0 1 ≤ 15 → (s.mover (natAt v 0 1)).state = 0) abState]
  value := fun _ _ v => need (natAt v 0 1 ≤ 15) abRange
  apply := fun s _ _ v => startMover s (natAt v 0 1) (natAt v 1 8)

/-- MOVER_START. -/
def execMoverStart (e : Env) (m : Byte) (addr : U64) (s : State) : Res :=
  hostWrite e 0x6431 1 ([m] ++ u64 addr.toNat) actMoverStart s

/-- A mover told to stop: it issues nothing more, and becomes idle once its outstanding transactions end. -/
def stopMover (s : State) (m : Nat) : State :=
  let x := s.mover m
  if x.state = 0 then s
  else if x.state = 3 then updMover s m fun y => { y with state := 0 }
  else moverSettle (updMover s m fun y => { y with stopping := true }) m

/-- NOC_MOVER_CMD.stop. -/
def actMoverStop : Action where
  apply := fun s _ _ v => (bitsSet (leNat v) 16).foldl stopMover s

/-- MOVER_STOP. -/
def execMoverStop (e : Env) (mask : BitVec 16) (s : State) : Res := hostWrite e 0x6431 2 (u16 mask.toNat) actMoverStop s

/-- MOVER_START_TIME: start_time has been reached. -/
def execMoverStartTime (m : Fin 16) (s : State) : Res :=
  let x := s.mover m.val
  .next (if x.state = 2 ∧ natAt x.desc 32 8 ≤ s.tai then
    moverGo (updMover s m.val fun y => { y with state := 1 }) m.val else s)

/-- MOVER_DESCRIPTOR_DONE (R386): every write of the descriptor has been answered with status 0; done_write and notify
are applied, and next is read. -/
def execMoverDescriptorDone (m : Fin 16) (s : State) : Res :=
  let k := m.val
  let x := s.mover k
  if x.state ≠ 1 ∨ x.desc = [] ∨ x.stopping ∨ x.failed ≠ 0 ∨ x.outstanding ≠ 0 ∨ x.row < descRows x.desc then .next s
  else
    let fl := descFlags x.desc
    let nx := natAt x.desc 40 8
    let s1 := updMover s k fun y => { y with completed := satInc y.completed 0xFFFFFF, desc := [], descAddr := nx }
    let s2 := if bit fl 6 then
        request (updMover s1 k fun y => { y with outstanding := y.outstanding + 1 }) 0x02 (0x30 + k) (x.descAddr + 56) 8
          (descCls x.desc) (u64 s.tai) (.moverDone k) false
      else s1
    let s3 := if bit fl 7 then event s2 (moverSrc k) 0x3009 (u8 k ++ leBytes x.descAddr 7 ++ u64 s.tai) else s2
    .next (if nx = 0 then moverSettle s3 k else readDescriptor s3 k nx)

end Sys2Proof.Machine
end

