-- ==== Sys2Proof/Machine/TimeIo.lean ====
section
/-! DEFINITION. The time base, the I/O banks and their queues (13); rows SYNC to IO_PIN_WRITE, and SYNC_INTERVAL. -/

namespace Sys2Proof.Machine

/-! ### The time base (R531 to R544) -/

/-- The source of the time base's events. -/
def timeSrc : Nat := 0x0100
/-- The source of an I/O bank's events. -/
def ioSrc (b : Nat) : Nat := 0x7000 + b
/-- I/O bank b changed. -/
def updBank (s : State) (b : Nat) (f : IoBank → IoBank) : State := { s with banks := AMap.upd {} s.banks b f }

/-- An object of a signed type as an integer. -/
def State.int (s : State) (idx sub n : Nat) : Int := signed (s.num idx sub) n

/-- Whether the time base is step-open (R535). -/
def stepOpen (s : State) : Bool :=
  if s.mode = .startUp ∧ ¬ s.boot.outputsReleased then true
  else
    (List.range 8).all (fun b => decide ((s.bank b).state ≠ 1)) &&
      (List.range 16).all (fun t => decide (((s.team t).pending.map Pending.trigger) ≠ some 0)) &&
      decide (s.cap.state ≠ 1) && (List.range 16).all (fun m => decide ((s.mover m).state ≠ 2)) &&
      decide (s.num 0x1060 1 = 0)

/-- The time base brought to a state, with event 0x7001 where it changes. -/
def timeState (s : State) (st : Nat) (gm : U64) : State :=
  if s.time.state = st then s
  else event { s with time := { s.time with state := st, gm := gm } } timeSrc 0x7001 (u8 s.time.state ++ u8 st ++ u64 gm.toNat)

/-- The device's clockIdentity: the EUI-64 of port 0's MAC address (log entry 47). -/
def ownIdentity (s : State) : Nat :=
  let m := s.fuses.mac0.toNat
  (m / 2 ^ 24) * 2 ^ 40 + 0xFFFE * 2 ^ 24 + m % 2 ^ 24

/-- The device's own priority vector: priority1, clock class, accuracy, variance, priority2, identity, steps removed. -/
def ownVector (s : State) : List Nat :=
  [s.num 0x6901 3, s.num 0x6901 5, 0xFE, 0x436A, s.num 0x6901 4, ownIdentity s, 0]

/-- Whether one priority vector is better than another: the lesser, field by field. -/
def better : List Nat → List Nat → Bool
  | a :: as, b :: bs => if a = b then better as bs else decide (a < b)
  | _, _ => false

/-- The vector heard on a port; empty for none. -/
def heardOn (s : State) (p : Nat) : List Nat := if p = 0 then s.time.heard0 else s.time.heard1

/-- The port and vector that the best master clock algorithm selects among those heard and, where the device may be
grandmaster, its own (R537). -/
def selected (s : State) : Option (Option Nat × List Nat) :=
  let own : List (Option Nat × List Nat) := if s.num 0x6901 2 = 1 then [(none, ownVector s)] else []
  let heard : List (Option Nat × List Nat) := ([0, 1].filter fun p => decide (heardOn s p ≠ [])).map fun p => (some p, heardOn s p)
  (own ++ heard).foldl (fun best x =>
    match best with
    | none => some x
    | some y => if better x.2 y.2 then some x else some y) none

/-- The role of a port under a selection: 2 slave, 3 passive where what it hears is better than what the device would
send there, 1 master. -/
def roleOf (s : State) (sel : Option (Option Nat × List Nat)) (p : Nat) : Nat :=
  match sel with
  | none => 0
  | some (q, v) =>
    if q = some p then 2
    else
      let mine := setAt v 6 (v.getD 6 0 + 1)
      if heardOn s p ≠ [] ∧ better (heardOn s p) (if q = none then v else mine) then 3 else 1

/-- The selection is made: the roles, and the grandmaster state where the algorithm selects this device (R541). -/
def runSelection (s : State) : State :=
  let sel := selected s
  let s1 := { s with time := { s.time with
    roles := roleOf s sel 0 + 16 * roleOf s sel 1,
    best := match sel with
      | some (some p, v) => some (p, BitVec.ofNat 64 (v.getD 5 0))
      | _ => none } }
  match sel with
  | some (none, _) => timeState s1 1 (BitVec.ofNat 64 (ownIdentity s))
  | _ => s1

/-- Whether a gPTP message is of the device's domain (R537). -/
def ourDomain (s : State) (domain : Byte) : Bool := decide (domain.toNat = s.num 0x6901 1)

/-- ANNOUNCE (R537, R541). -/
def execAnnounce (m : AnnounceMsg) (s : State) : Res :=
  if ¬ s.available ∨ ¬ ourDomain s m.domain then .next s
  else
    let v := [m.priority1.toNat, m.clockClass.toNat, m.accuracy.toNat, m.variance.toNat, m.priority2.toNat, m.identity.toNat,
              m.stepsRemoved.toNat]
    let s1 := if m.port.val = 0 then { s with time.heard0 := v } else { s with time.heard1 := v }
    .next (runSelection s1)

/-- PDELAY (R537, R538): one exchange, its stamps corrected by the port's latencies. -/
def execPdelay (m : PdelayMsg) (s : State) : Res :=
  if ¬ s.available then .next s
  else
    let p := m.port.val
    let t1 : Int := m.t1 + s.int 0x6901 (0x0C + 2 * p) 4 / 1000
    let t4 : Int := m.t4 - s.int 0x6901 (0x0B + 2 * p) 4 / 1000
    let d : Int := ((t4 - t1) * m.ratio / 0x100000000 - ((m.t3 : Int) - m.t2)) / 2
    .next (if p = 0 then { s with time := { s.time with delay0 := d, ratio0 := m.ratio } }
      else { s with time := { s.time with delay1 := d, ratio1 := m.ratio } })

/-- The nominal addend (R531). -/
def nominalAddend : Int := 0xD5555555

/-- The addend that the servo sets: nominal and a correction that the spec does not fix, within slew_max (R534, R539). -/
def servo (s : State) : State :=
  if ¬ s.elapsed s.time.addendAt 1000 then s
  else
    let lim : Int := nominalAddend * s.num 0x6901 10 / 1000000
    let draw := signed (leNat (drawBytes s 4)) 4
    let c := max (-lim) (min lim draw)
    { (s.drew 4) with time := { s.time with addend := BitVec.ofInt 40 (nominalAddend + c), addendAt := s.now } }

/-- A step of the time base by an offset (R534, R541): event 0x7002. -/
def stepTime (s : State) (off : Int) : State :=
  let ns := s.time.ns - BitVec.ofInt 64 off
  event { s with time.ns := ns } timeSrc 0x7002 (u64 (twos off 8) ++ u64 ns.toNat)

/-- A measured offset acts: step or servo, and the transitions of R541. -/
def discipline (s : State) (off : Int) : State :=
  let mag := off.natAbs
  let good := if mag < s.num 0x6901 7 then satInc s.time.good 16 else 0
  let s1 := { s with time := { s.time with offset := off, good := good, lastSync := s.now } }
  let s2 := if s1.time.state = 3 ∧ s1.num 0x6901 9 ≤ mag then
      event { s1 with time.state := 2 } timeSrc 0x7003 (u64 (twos off 8) ++ u64 s1.time.gm.toNat)
    else s1
  if stepOpen s2 ∧ s2.num 0x6901 8 ≤ mag then stepTime s2 off
  else
    let s3 := servo s2
    if s3.time.state = 2 ∧ good = 16 then timeState s3 3 s3.time.gm else s3

/-- SYNC (R539, R541): a Sync from the grandmaster selected, or in holdover from the previous one. -/
def execSync (m : SyncMsg) (s : State) : Res :=
  let p := m.port.val
  let fromBest := decide (s.time.best = some (p, m.gm))
  let fromOld := decide (s.time.state = 4) && decide (s.time.gm = m.gm) && decide (s.time.gmPort = p)
  if ¬ s.available ∨ ¬ ourDomain s m.domain ∨ ¬ (fromBest ∨ fromOld) then .next s
  else
    let off : Int := (m.ingress : Int) - s.int 0x6901 (0x0B + 2 * p) 4 / 1000
      - (m.gmTime + (if p = 0 then s.time.delay0 else s.time.delay1))
    let s1 := { s with time.gmPort := p }
    let s2 := if s.time.state = 2 ∨ s.time.state = 3 then { s1 with time.gm := m.gm } else timeState { s1 with time.good := 0 } 2 m.gm
    .next (discipline s2 off)

/-- The interval of log_sync_interval, -7 to 0, in ns. -/
def syncInterval (s : State) : Nat := 1000000000 / 2 ^ ((256 - s.num 0x6901 6) % 256)

/-- SYNC_TIMEOUT (R541): no Sync for 3 intervals; the slave port's Announce no longer counts (R537). -/
def execSyncTimeout (s : State) : Res :=
  if ¬ (s.time.state = 2 ∨ s.time.state = 3) ∨ ¬ s.elapsed s.time.lastSync (3 * syncInterval s) then .next s
  else
    let s1 := { s with time.state := 4 }
    let s2 := event s1 timeSrc 0x7004 (u64 (twos s.time.offset 8) ++ u64 s.time.addend.toNat)
    .next (runSelection (if s.time.gmPort = 0 then { s2 with time.heard0 := [] } else { s2 with time.heard1 := [] }))

/-- TIME_CMD.set (R543). -/
def actTimeSet : Action where
  state := fun s _ _ => need ((s.time.state = 0 ∨ s.time.state = 1) ∧ stepOpen s) abState
  apply := fun s _ _ v =>
    event { s with time := { s.time with ns := BitVec.ofNat 64 (leNat v), frac := 0 } } timeSrc 0x7002
      (u64 s.time.ns.toNat ++ u64 (leNat v))

/-- TIME_SET. -/
def execTimeSet (e : Env) (v : U64) (s : State) : Res := hostWrite e 0x6902 1 (u64 v.toNat) actTimeSet s

/-- SYNC_INTERVAL (R537): a master port whose lane is up sends a two-step Sync, corrected by its egress latency (R538). -/
def execSyncInterval (port : Fin 2) (s : State) : Res :=
  let p := port.val
  let last := if p = 0 then s.time.sent0 else s.time.sent1
  let up := decide ((AMap.get {} s.lanes.lanes (48 + p)).state = 5)
  if ¬ s.available ∨ field s.time.roles (4 * p + 3) (4 * p) ≠ 1 ∨ ¬ up ∨ ¬ s.elapsed last (syncInterval s) then .next s
  else
    let at_ := (s.tai + s.int 0x6901 (0x0C + 2 * p) 4 / 1000).toNat
    let s1 := if p = 0 then { s with time.sent0 := s.now } else { s with time.sent1 := s.now }
    .next ((s1.emit (.gptp p 0 s.tai)).emit (.gptp p 8 at_))

/-! ### Pins (R545 to R547) -/

/-- The pins of a bank. -/
def pinCount (b : Nat) : Nat := if b < 6 then 48 else 40
/-- The settings of a pin. -/
def pinSet (s : State) (b pin : Nat) : Nat := s.num (0x6920 + b) (pin + 1)
/-- A pin's key. -/
def pinKey (b pin : Nat) : Nat := b * 64 + pin
/-- A pin. -/
def State.pin (s : State) (b pin : Nat) : Pin := AMap.get {} s.pins (pinKey b pin)
/-- A pin changed. -/
def updPin (s : State) (b pin : Nat) (f : Pin → Pin) : State := { s with pins := AMap.upd {} s.pins (pinKey b pin) f }

/-- Whether a pin obeys its settings: in its bank, not an odd pin of a pair, not a CAN pin while CAN runs (R545). -/
def pinObeys (s : State) (b pin : Nat) : Bool :=
  decide (pin < pinCount b) && !(decide (b < 6) && decide (pin % 2 = 1) && bit (pinSet s b (pin - 1)) 24) &&
    !(decide (b = 7) && decide (pin = 38 ∨ pin = 39) && s.dict.can.running)

/-- Whether a pin is an output. -/
def pinOut (s : State) (b pin : Nat) : Bool := pinObeys s b pin && bit (pinSet s b pin) 1

/-- Whether a standard is one of a bank's, at a measured VCCIO (R546). -/
def stdSuits (b mv std : Nat) : Bool :=
  ((lvcmos b).any fun p => decide (p.1 = std) && nearMv mv p.2) ||
    (decide (b < 6) && ((decide (std = 4) && nearMv mv 1800) || (decide (std = 5) && nearMv mv 1200)))

/-- IO_PIN_Bb (R546, R547, R723). -/
def actPin (b pin : Nat) : Action where
  state := fun s _ v =>
    need ((s.bank b).state ≠ 1 ∨ leNat v &&& 0x03FF003B = pinSet s b pin &&& 0x03FF003B) abState
  value := fun s _ v =>
    let std := field (leNat v) 23 20
    firstOf
      [need (std = field (pinSet s b pin) 23 20 ∨ stdSuits b (s.bank b).vccioMv std) abRange,
       need (field (leNat v) 17 16 ≠ 3) abRange,
       need (2 ≤ std ∨ field (leNat v) 19 18 ≤ 1) abRange]

/-- IO_PIN_WRITE. -/
def execIoPinWrite (e : Env) (b : Fin 8) (pin : Fin 48) (v c : U32) (s : State) : Res :=
  hostPaired e (0x6920 + b.val) (pin.val + 1) (u32 v.toNat) (u32 c.toNat) (actPin b.val pin.val) s

/-! ### The safe pattern (R562), and the fallback of a pin's settings (R547) -/

/-- The level that a pin drives for a level: an open-drain pin releases the ball instead of driving it high. -/
def raised (openDrain : Bool) (level : Nat) : Nat := if openDrain ∧ level = 1 then 2 else level

/-- A pin under the safe pattern: its return timer is cancelled and its safe value driven, unless that is hold; zpin, a
pin whose settings' complement failed, goes to high impedance (R562, R547). -/
def safePin (b : Nat) (zpin : Option Nat) (s : State) (pin : Nat) : State :=
  let safe := if zpin = some pin then 2 else field (pinSet s b pin) 7 6
  let p := s.pin b pin
  if safe = 3 then s
  else
    let out := pinOut s b pin || decide (zpin = some pin)
    updPin s b pin fun _ =>
      { p with ret := none, level := if out then raised (bit (pinSet s b pin) 5) safe else p.level, prev := if out then p.level else p.prev,
               changedAt := if out then s.now + 1 else p.changedAt }

/-- A bank applies its safe pattern with a cause (R562); a bank that is unpowered drives no pin (R713). -/
def applySafe (s : State) (b cause : Nat) (zpin : Option Nat) : State :=
  let x := s.bank b
  if x.unpowered ∨ x.unusable then s
  else
    let n := x.outQ.length
    let s1 := updBank s b fun x =>
      { x with state := 2, outQ := [], refused := satAdd x.refused n maxU32, drainUntil := none, retryAt := 0 }
    let s2 := if n = 0 then s1 else event s1 (ioSrc b) 0x700C (u8 n)
    let s3 := (List.range (pinCount b)).foldl (safePin b zpin) s2
    let s4 := event s3 (ioSrc b) 0x700A (u8 cause)
    if x.state = 1 then event s4 (ioSrc b) 0x700B (u8 0) else s4

/-- A pin's settings found mismatched: the bank stops and applies its safe pattern with that pin at high impedance. -/
def pinFallback (s : State) (b pin : Nat) : State :=
  compEvent ((applySafe s b 5 (some pin)).resetObj (0x6920 + b) (pin + 1)) (0x6920 + b) (pin + 1)

/-- A pin's settings compared at their use (R46). -/
def usePin (s : State) (b pin : Nat) : State := if s.pairOk (0x6920 + b) (pin + 1) then s else pinFallback s b pin

/-! ### Input (R549 to R553) -/

/-- The root period of a TAI instant with a fraction in 1/256 ns. -/
def rootOf (s : State) (t frac : Nat) : Nat := s.rootAt t + frac * 96 / 2560

/-- Whether an entry comes before another: by its time, its fraction and its pin (R550). -/
def stampedBefore (a b : IoEntry) : Bool :=
  let key := fun (e : IoEntry) => (e.time.toNat * 256 + field e.bits.toNat 31 24) * 64 + field e.bits.toNat 23 18
  decide (key a < key b)

/-- An entry put among others in stamp order. -/
def inStampOrder (e : IoEntry) : List IoEntry → List IoEntry
  | [] => [e]
  | q :: qs => if stampedBefore e q then e :: q :: qs else q :: inStampOrder e qs

/-- An edge that finds the input queue full is dropped and counted (R551). -/
def dropEdge (s : State) (b pin : Nat) : State :=
  let n := satInc (s.bank b).droppedSince 0x3FFF
  event (updBank s b fun x => { x with droppedIn := satInc x.droppedIn maxU32, droppedSince := n }) (ioSrc b) 0x7007
    (u8 pin ++ u16 n)

/-- INPUT_EDGE (R549 to R551): an edge at the ball that has held for the pin's filter time. Its entry goes before those of later
stamps that no write carries yet. -/
def execInputEdge (b : Fin 8) (pin : Fin 48) (rising : Bool) (time : U64) (fraction : Byte) (s : State) : Res :=
  let s := usePin s b.val pin.val
  let v := pinSet s b.val pin.val
  let x := s.bank b.val
  let up : Bool := rising != bit v 25
  let cyc := rootOf s time.toNat fraction.toNat / 16 + 1
  let p := s.pin b.val pin.val
  let seen := if p.recordedAt = cyc then p.recordedEdges else 0
  let mark := if up then 1 else 2
  if x.state ≠ 1 ∨ ¬ pinObeys s b.val pin.val ∨ ¬ bit v 0 ∨ ¬ bit v (if up then 3 else 4) ∨ bit seen (mark - 1) then .next s
  else
    let s1 := updPin s b.val pin.val fun p => { p with recordedAt := cyc, recordedEdges := seen + mark }
    let s2 := counted s1 (ioSrc b.val) 0x05 0 1
    .next (if 32 ≤ x.inQ.length then dropEdge s2 b.val pin.val
      else
        let bits := fraction.toNat * 0x1000000 + pin.val * 0x40000 + mark * 0x10000 + x.droppedSince
        updBank s2 b.val fun x =>
          { x with inQ := x.inQ.take (x.draining.getD 0) ++ inStampOrder ⟨time, BitVec.ofNat 32 bits⟩ (x.inQ.drop (x.draining.getD 0)), seq := (x.seq + 1) % 65536, droppedSince := 0 })

/-- The 16-byte slot of the i-th entry held in a bank's input queue (R553). -/
def inputSlot (x : IoBank) (b i : Nat) (e : IoEntry) : List Byte :=
  u64 e.time.toNat ++ u32 e.bits.toNat ++ u8 b ++ u8 0 ++ u16 ((x.seq + 65536 + 1 + i - x.inQ.length) % 65536)

/-- A write of up to 16 entries to dst_addr is issued (R552). -/
def drain (s : State) (b : Nat) : State :=
  let x := s.bank b
  let n := min 16 x.inQ.length
  let slots := ((x.inQ.take n).zipIdx.map fun p => inputSlot x b p.2 p.1).flatten
  request (updBank s b fun x => { x with draining := some n, retryAt := 0 }) 0x02 (0x58 + b) (s.num (0x6910 + b) 4) (16 * n) 1 slots
    (.bankDrain b) false

/-- Whether a bank has entries to drain and somewhere to write them. -/
def drains (s : State) (b : Nat) : Bool :=
  let x := s.bank b
  decide (x.state = 1) && decide (x.draining = none) && decide (x.inQ ≠ []) && decide (s.num (0x6910 + b) 4 ≠ 0)

/-- INPUT_DRAIN. -/
def execInputDrain (b : Fin 8) (s : State) : Res :=
  .next (if drains s b.val ∧ (s.bank b.val).retryAt = 0 then drain s b.val else s)

/-- DRAIN_RETRY: poll_ns after a failed write. -/
def execDrainRetry (b : Fin 8) (s : State) : Res :=
  let x := s.bank b.val
  .next (if drains s b.val ∧ x.retryAt ≠ 0 ∧ s.elapsed (x.retryAt - 1) (s.num (0x6910 + b.val) 6) then drain s b.val else s)

/-- The answer to a bank's write: the entries are released, or kept for a retry (R552). -/
def drained (s : State) (b addr status : Nat) : State :=
  let n := (s.bank b).draining.getD 0
  if status = 0 then updBank s b fun x => { x with draining := none, inQ := x.inQ.drop n }
  else
    event (updBank s b fun x => { x with draining := none, retryAt := s.now + 1 }) (ioSrc b) 0x7009 (u64 addr ++ u8 status)

/-! ### Output (R554 to R561) -/

/-- The base of window n's alias span (R421). -/
def aliasBase (n : Nat) : Nat := 0x100001000000 + n * 0x1000000

/-- A popped slot joins the output queue, or is discarded on its check (R555). -/
def takeSlot (b : Nat) (s : State) (slot : List Byte) : State :=
  let bits := natAt slot 8 4
  let chk := natAt slot 12 4
  if bits + chk ≠ maxU32 then
    event (updBank s b fun x => { x with refused := satInc x.refused maxU32 }) (ioSrc b) 0x7008 (u32 bits ++ u32 chk)
  else
    updBank s b fun x =>
      { x with reachedAt := (if x.outQ = [] then s.now else x.reachedAt),
               outQ := x.outQ ++ [⟨BitVec.ofNat 64 (natAt slot 0 8), BitVec.ofNat 32 bits⟩] }

/-- A read of the source window that fails (R568). -/
def pollFailed (s : State) (b addr status : Nat) : State := event s (ioSrc b) 0x7009 (u64 addr ++ u8 status)

/-- OUTPUT_POLL (R554, R555). -/
def execOutputPoll (b : Fin 8) (s : State) : Res :=
  let k := b.val
  let w := s.num (0x6910 + k) 3
  let x := s.bank k
  if x.state ≠ 1 ∨ x.drainUntil.isSome ∨ 16 ≤ w ∨ 32 ≤ x.outQ.length then .next s
  else
    let s0 := updBank s k fun x => { x with polledAt := s.now }
    let st := windowStatus s0 w
    if st.2.1 ≠ 0 then .next (pollFailed s0 k (aliasBase w + 0x803000) st.2.1)
    else
      let n := min (min 16 (32 - x.outQ.length)) ((s0.window w).fill / 16)
      if n = 0 then .next s0
      else
        let r := windowPop s0 w (16 * n) .good
        .next (if r.2.1 ≠ 0 then pollFailed r.1 k (aliasBase w + 0x801000) r.2.1
          else (List.range n).foldl (fun s i => takeSlot k s (bytesAt r.2.2 (16 * i) 16)) r.1)

/-- The pin of an output entry. -/
def entryPin (e : IoEntry) : Nat := field e.bits.toNat 23 18

/-- The root period of an output entry's time. -/
def entryRoot (s : State) (e : IoEntry) : Nat := rootOf s e.time.toNat (field e.bits.toNat 31 24)

/-- The ball level that an action gives a pin at a level: 0 low, 1 high, 2 high impedance, inverted where the pin is
inverted; a toggle of a pin that drives no level leaves one that the spec does not fix, but that of an open-drain pin drives low. -/
def actLevel (inverted openDrain free : Bool) (level : Nat) : Nat → Nat
  | 0 => raised openDrain (b2n inverted)
  | 1 => raised openDrain (b2n !inverted)
  | 2 => 2
  | _ => if level < 2 then raised openDrain (1 - level) else if openDrain then 0 else b2n free

/-- A pin takes an action at an instant. -/
def drivePin (s : State) (b pin action at_ : Nat) : State :=
  let p := s.pin b pin
  let inv := bit (pinSet s b pin) 25
  let free := ((drawBytes s 1).getD 0 0).getLsbD 0
  let od := bit (pinSet s b pin) 5
  let s1 := if action = 3 ∧ 2 ≤ p.level ∧ ¬ od then s.drew 1 else s
  updPin s1 b pin fun p => { p with prev := p.level, level := actLevel inv od free p.level action, changedAt := at_ + 1 }

/-- An entry executes at an instant: its pin changes, and its return timer is armed (R556, R559, R561). -/
def runEntry (s : State) (b : Nat) (e : IoEntry) (at_ : Nat) : State :=
  let pin := entryPin e
  let act := field e.bits.toNat 17 16
  let w := field e.bits.toNat 15 0
  let s1 := counted (updBank s b fun x => { x with executed := satInc x.executed maxU32, ranAt := some at_ }) (ioSrc b) 0x01 0 1
  if ¬ pinOut s1 b pin then s1
  else
    updPin (drivePin s1 b pin act at_) b pin fun p =>
      { p with ret := if w = 0 then none else some (at_ + w * 9600, act) }

/-- The entry at the head leaves the queue; the next reaches the head. -/
def dropHead (s : State) (b : Nat) : State := updBank s b fun x => { x with outQ := x.outQ.drop 1, reachedAt := s.now }

/-- The first instant at which a bank can place the edge of its head entry: two bank cycles after it reached the head,
in a bank cycle in which its pin has not changed (R556 to R558). -/
def firstPlace (s : State) (b : Nat) (e : IoEntry) : Nat :=
  let r := (s.bank b).reachedAt + 32
  let c := (s.pin b (entryPin e)).changedAt
  if c ≠ 0 ∧ r / 16 ≤ (c - 1) / 16 then ((c - 1) / 16 + 1) * 16 else r

/-- Further entries behind the head that execute in the same bank cycle, each for a different pin (R556). -/
def runBatch (b cyc : Nat) : Nat → List Nat → State → State
  | 0, _, s => s
  | fuel + 1, used, s =>
    match (s.bank b).outQ with
    | [] => s
    | e :: _ =>
      let pin := entryPin e
      let t := entryRoot s e
      let c := (s.pin b pin).changedAt
      if used.contains pin ∨ (e.time ≠ 0 ∧ t / 16 ≠ cyc) ∨ (c ≠ 0 ∧ (c - 1) / 16 = cyc) then s
      else runBatch b cyc fuel (pin :: used) (runEntry (dropHead s b) b e (if e.time = 0 then cyc * 16 else t))

/-- OUTPUT_ENTRY_EXECUTE (R556 to R558, R566): the head entry's bank cycle has come. -/
def execOutputEntryExecute (b : Fin 8) (s : State) : Res :=
  let k := b.val
  let s := match (s.bank k).outQ with
    | e :: _ => usePin s k (entryPin e)
    | [] => s
  match (s.bank k).outQ with
  | [] => .next s
  | e :: _ =>
    let first := firstPlace s k e
    let t := entryRoot s e
    let imm := decide (e.time = 0)
    let at_ := if imm then first else max t first
    if (s.bank k).state ≠ 1 ∨ ¬ s.boot.outputsReleased ∨ s.now / 16 < at_ / 16 ∨ (s.bank k).drainUntil.any (fun u => decide (u < t)) then .next s
    else if ¬ imm ∧ t < first then
      let ns := (first - t) * 5 / 48
      let late := u8 (entryPin e) ++ u64 ns
      let s1 := counted (dropHead s k) (ioSrc k) 0x02 ns 1
      if s.num (0x6910 + k) 5 = 1 then
        .next (event (updBank s1 k fun x => { x with refused := satInc x.refused maxU32 }) (ioSrc k) 0x7006 late)
      else
        let s2 := event (updBank s1 k fun x => { x with late := satInc x.late maxU32 }) (ioSrc k) 0x7005 late
        .next (runBatch k (first / 16) 7 [entryPin e] (runEntry s2 k e first))
    else .next (runBatch k (at_ / 16) 7 [entryPin e] (runEntry (dropHead s k) k e at_))

/-- RETURN_TIMER (R559): the opposite action: high after low, low after high, the previous state after high impedance,
a toggle after a toggle. -/
def execReturnTimer (b : Fin 8) (pin : Fin 48) (s : State) : Res :=
  let s := usePin s b.val pin.val
  let p := s.pin b.val pin.val
  match p.ret with
  | none => .next s
  | some (t, act) =>
    let c := p.changedAt
    if s.now / 16 < t / 16 ∨ (c ≠ 0 ∧ t / 16 ≤ (c - 1) / 16 ∧ s.now / 16 ≤ (c - 1) / 16) then .next s
    else
      let s1 := updPin s b.val pin.val fun p => { p with ret := none }
      .next (if act = 2 then updPin s1 b.val pin.val fun p => { p with level := p.prev, prev := p.level, changedAt := t + 1 }
        else if act = 3 then drivePin s1 b.val pin.val 3 t
        else drivePin s1 b.val pin.val (1 - act) t)

/-! ### Safe patterns, starting and stopping (R562 to R567) -/

/-- Every bank that holds no safe pattern applies it (R563, R646). -/
def applySafeAll (s : State) (cause : Nat) : State :=
  (List.range 8).foldl (fun s b => if (s.bank b).state = 2 ∨ (s.bank b).state = 3 then s else applySafe s b cause none) s

/-- Whether an address is an enabled window's push alias, or lies in the fabric target window (R378, R421). -/
def pushDst (s : State) (a : Nat) : Bool :=
  ((List.range 16).any fun n => windowOn s n && decide (a = aliasBase n + 0x800000)) ||
    (decide (0x200000000000 ≤ a) && decide (a < 0x203000000000))

/-- Why a bank's settings keep it from starting (R565). -/
def bankSettings (s : State) (b : Nat) : Option Nat :=
  let w := s.num (0x6910 + b) 3
  let d := s.num (0x6910 + b) 4
  firstOf
    [need (16 ≤ w ∨ windowOn s w) abRange,
     need (d = 0 ∨ pushDst s d) abRange,
     need (w < 16 ∨ d ≠ 0) abRange]

/-- A bank starts: it fetches entries and stamps edges (R565). -/
def startBank (s : State) (b : Nat) : State :=
  if (s.bank b).state = 1 then s
  else
    event (updBank s b fun x => { x with state := 1, before := 0, polledAt := s.now, retryAt := 0 }) (ioSrc b) 0x700B (u8 1)

/-- IO_BANK_b.command (R562, R565, R567, R713). -/
def actBank (b : Nat) : Action where
  state := fun s who v => firstOf
    [need ((s.bank b).state ≠ 3) abState,
     (if leNat v = 1 then
        firstOf
          [need (s.mode ≠ .stable ∧ s.mode ≠ .safeStop ∧ (s.mode ≠ .startUp ∨ s.boot.writesEnabled)) abState,
           need (s.mode ≠ .service ∨ 3 ≤ levelOf s who) abLevel,
           need (¬ (s.bank b).unpowered ∧ ¬ (s.bank b).unusable) abState]
      else none)]
  value := fun s _ v => if leNat v = 1 ∧ (s.bank b).state ≠ 1 then bankSettings s b else none
  apply := fun s _ _ v => if leNat v = 1 then startBank s b else applySafe s b 4 none

/-- IO_BANK_START. -/
def execIoBankStart (e : Env) (b : Fin 8) (s : State) : Res := hostWrite e (0x6910 + b.val) 2 [1] (actBank b.val) s

/-- IO_BANK_STOP. -/
def execIoBankStop (e : Env) (b : Fin 8) (s : State) : Res := hostWrite e (0x6910 + b.val) 2 [2] (actBank b.val) s

/-- IO_BANK_b.src_window, dst_addr and drop_late: written only while the bank is stopped. -/
def actBankSetting (b : Nat) : Action where
  state := fun s _ _ => need ((s.bank b).state ≠ 1) abState

/-- The enable-writes step starts the banks whose source or destination is set (R565). -/
def startBanks (s : State) : State :=
  (List.range 8).foldl (fun s b =>
    if (s.num (0x6910 + b) 3 < 16 ∨ s.num (0x6910 + b) 4 ≠ 0) ∧ ¬ (s.bank b).unpowered ∧ ¬ (s.bank b).unusable ∧
        bankSettings s b = none then startBank s b else s) s

/-- The release-outputs step: the waiting heads execute under R558 (R566). -/
def releaseHeads (s : State) : State :=
  (List.range 8).foldl (fun s b =>
    if (s.bank b).outQ = [] then s else updBank s b fun x => { x with reachedAt := s.now - 32 }) s

end Sys2Proof.Machine
end

