-- ==== Sys2Proof/Machine/Lanes.lean ====
section
/-! DEFINITION. The lanes (14): bring-up, received data and markers, transmitted records; rows LANE_START to
SERVICE_LANE_AUTO_TRY but LANE_ACTIVE. -/

namespace Sys2Proof.Machine

/-! ### Lanes, rates and settings (R569 to R574, R582) -/

/-- A lane's key: user lanes 0 to 47, service lanes 48 and 49, chain lanes 50 up and 51 down. -/
def laneKey : LaneId → Nat
  | .user n => n.val
  | .service p => 48 + p.val
  | .chain down => 50 + b2n down

/-- The source of a lane's events (R597). -/
def laneSrc (k : Nat) : Nat := if k < 48 then 0x8000 + k else if k < 50 then 0x8100 + (k - 48) else 0x8110 + (k - 50)

/-- A lane. -/
def State.lane (s : State) (k : Nat) : Lane := AMap.get {} s.lanes.lanes k
/-- A lane changed. -/
def updLane (s : State) (k : Nat) (f : Lane → Lane) : State := { s with lanes.lanes := AMap.upd {} s.lanes.lanes k f }

/-- DICT_ETH_0 and DICT_ETH_1 link: 0 down, 1 SGMII, 2 2500BASE-X, 3 10GBASE-R, by the service lane's rate. -/
def ethLink (s : State) (p : Nat) : Nat :=
  let l := s.lane (48 + p)
  if l.state ≠ 5 then 0 else if l.rate = 2 then 2 else if l.rate = 6 then 3 else 1

/-- The cfg of a user lane. -/
def laneCfg (s : State) (k : Nat) : Nat := s.num (0x6A00 + k) 1
/-- How a lane brings up: 0 off, 1 fixed, 2 native. Chain lanes are native, service lanes fixed (R581, R589). -/
def laneMode (s : State) (k : Nat) : Nat := if k < 48 then field (laneCfg s k) 19 18 else if k < 50 then 1 else 2
/-- The least figure of merit with which a lane locks; chain and service lanes take the default of cfg. -/
def fomMin (s : State) (k : Nat) : Nat := if k < 48 then field (laneCfg s k) 15 6 else 160
/-- The highest rate code that a native lane offers. -/
def ownMax (s : State) (k : Nat) : Nat := if k < 48 then field (laneCfg s k) 27 24 else 6
/-- The rates that a native lane steps through (R582). -/
def stepRates (k : Nat) : List Nat := if k < 48 then [0, 1, 3, 4, 7, 8] else [0, 6]
/-- The rate of a service lane's mode (R589): 1 SGMII, 2 2500BASE-X, 3 10GBASE-R. -/
def serviceRate (mode : Nat) : Nat := if mode = 1 then 0 else if mode = 2 then 2 else 6
/-- The mode that a service lane runs or tries. -/
def serviceMode (s : State) (p : Nat) : Nat := if s.num 0x6A50 (1 + p) = 0 then AMap.get 3 s.lanes.tryMode p else s.num 0x6A50 (1 + p)

/-- The rate codes that a quad's PLL setting gives (R570). -/
def pllRates : Nat → List Nat
  | 1 => [0, 1, 3, 5]
  | 2 => [0, 1, 2, 4, 7]
  | 3 => [0, 1, 2, 3, 4, 7, 8]
  | 4 => [6]
  | 5 => [9]
  | 6 => [10]
  | _ => []

/-- Whether the quad PLL of a user lane gives the rates it is to transmit: a native lane's needs 25.0 GHz, an uplink's
1.25 Gb/s, and a lane that transmits nothing needs none (R570, R574, R582). -/
def rateFits (s : State) (k : Nat) : Bool :=
  let c := laneCfg s k
  let pll := s.num (0x6A40 + k / 4) 1
  let tx := field c 17 16
  if field c 19 18 = 2 then decide (pll = 3)
  else if tx = 0 then true
  else (pllRates pll).contains (if tx = 1 then field c 27 24 else 0)

/-- The next rate above a lane's present one, up to the common maximum (R581, R582). -/
def nextRate (s : State) (k : Nat) : Option Nat :=
  let l := s.lane k
  (stepRates k).find? fun r => decide (l.rate < r) && decide (r ≤ min (ownMax s k) l.partnerMax)

/-- The rate below a lane's present one. -/
def prevRate (k rate : Nat) : Nat := ((stepRates k).filter fun r => decide (r < rate)).getLastD 0

/-! ### Markers and received data (R575 to R578) -/

/-- The 32 bytes of a marker (R576). -/
def markerBytes (offset time kind count : Nat) (content : List Byte) : List Byte :=
  u64 offset ++ u64 time ++ u8 kind ++ u8 count ++ zeros 6 ++ padTo content 8

/-- A marker written where the buffer has room; otherwise dropped and counted (R578). -/
def putMarker (s : State) (k kind count : Nat) (content : List Byte) : State :=
  let l := s.lane k
  if 256 ≤ l.marks.length then updLane s k fun l => { l with dropped := satInc l.dropped (2 ^ 64 - 1), markLost := true }
  else counted (updLane s k fun l => { l with marks := l.marks ++ [markerBytes l.offset s.tai kind count content] }) (laneSrc k) 0x02 0 1

/-- A marker of a user lane: the first after a loss follows a gap marker with content 0; none where rx_mark_dst is 0. -/
def marker (s : State) (k kind count : Nat) (content : List Byte) : State :=
  if 48 ≤ k ∨ s.num (0x6A00 + k) 3 = 0 then s
  else
    let l := s.lane k
    let s1 := if l.markLost ∧ l.marks.length < 256 then putMarker (updLane s k fun l => { l with markLost := false }) k 5 0 [] else s
    putMarker s1 k kind count content

/-- Data bytes arrive: buffered for rx_dst, or dropped and counted where the buffer is full; the first space after a
loss writes a gap marker (R577, R578). -/
def rxData (s : State) (k : Nat) (bs : List Byte) : State :=
  if s.num (0x6A00 + k) 2 = 0 ∨ bs = [] then updLane s k fun l => { l with lastByteAt := s.now }
  else
    let room := 65536 - (s.lane k).rxBuf.length
    let n := min room bs.length
    let lost := (s.lane k).lost
    let s1 := if 0 < n ∧ lost ≠ 0 then marker (updLane s k fun l => { l with lost := 0 }) k 5 0 (u64 lost) else s
    let o := (s.lane k).offset
    counted (updLane s1 k fun l =>
      { l with rxBuf := l.rxBuf ++ bs.take n, offset := o + n, lost := l.lost + (bs.length - n),
               dropped := satAdd l.dropped (bs.length - n) (2 ^ 64 - 1), lastByteAt := s.now }) (laneSrc k) 0x01 0
      ((o + n) / 64 - o / 64)

/-- K characters arrive: up to 8 share one marker (R576). -/
def rxKchars (s : State) (k : Nat) (cs : List Byte) : State :=
  ((List.range ((cs.length + 7) / 8)).map fun i => bytesAt cs (8 * i) 8).foldl (fun s p => marker s k 1 p.length p) s

/-- The units of an idle group that is not dropped: the idle pattern's characters, or an idle block. -/
def idleUnits (s : State) (k : Nat) : List RxUnit :=
  if field (laneCfg s k) 21 20 = 0 then
    let p := s.num (0x6A00 + k) 5
    (List.range 4).map fun i =>
      let c : Byte := BitVec.ofNat 8 (p / 256 ^ i)
      if bit p (32 + i) then .kchars [c] else .data [c]
  else [.control 2 (0x1E :: zeros 7)]

/-- K characters that stand next to one another joined. -/
def joinK : List RxUnit → List RxUnit
  | [] => []
  | .kchars a :: rest =>
    match joinK rest with
    | .kchars b :: more => .kchars (a ++ b) :: more
    | other => .kchars a :: other
  | u :: rest => u :: joinK rest

/-- A decoded unit is classified (R575). A control unit of kind 0 or 1 is one with a disparity, code or header error. -/
def rxUnit (k : Nat) (s : State) : RxUnit → State
  | .data bs => rxData s k bs
  | .kchars cs => rxKchars s k cs
  | .control kind content =>
    if kind.val < 2 then
      counted (updLane s k fun l => { l with codeErrors := satInc l.codeErrors maxU32 }) (laneSrc k) 0x03 0 1
    else marker s k kind.val 8 content
  | .idle => s

/-- A lane pushes its data: 1,024 bytes, or fewer once no byte has arrived for 1 µs (R577). -/
def pushData (s : State) (k : Nat) : State :=
  let l := s.lane k
  let dst := s.num (0x6A00 + k) 2
  let n := if 1024 ≤ l.rxBuf.length then 1024 else if s.elapsed l.lastByteAt 1000 then l.rxBuf.length else 0
  if n = 0 ∨ l.pushing ∨ dst = 0 then s
  else
    request (updLane s k fun l => { l with pushing := true, retryAt := 0 }) 0x02 (0x48 + k / 4) dst n 1 (l.rxBuf.take n)
      (.lanePush k false) false

/-- A lane pushes its markers, up to 32 (R577). -/
def pushMarks (s : State) (k : Nat) : State :=
  let l := s.lane k
  let dst := s.num (0x6A00 + k) 3
  let m := l.marks.take 32
  if m = [] ∨ l.markPushing ∨ dst = 0 then s
  else
    request (updLane s k fun l => { l with markPushing := true, markRetryAt := 0 }) 0x02 (0x48 + k / 4) dst (32 * m.length) 1
      m.flatten (.lanePush k true) false

/-- LANE_RX_PUSH (R575 to R578): decoded units arrive, none where the line is idle, and the lane pushes what it may. -/
def execLaneRxPush (n : Fin 48) (units : List RxUnit) (s : State) : Res :=
  let k := n.val
  if (s.lane k).state ≠ 5 ∧ (s.lane k).state ≠ 8 then .next s
  else
    let keep := units.flatMap fun u => if u = .idle then (if bit (laneCfg s k) 23 then [] else idleUnits s k) else [u]
    let s1 := (joinK keep).foldl (rxUnit k) s
    let s2 := if (s1.lane k).retryAt = 0 then pushData s1 k else s1
    .next (if (s2.lane k).markRetryAt = 0 then pushMarks s2 k else s2)

/-- LANE_PUSH_RETRY (R578): 1 µs after a refusal. -/
def execLanePushRetry (n : Fin 48) (s : State) : Res :=
  let k := n.val
  let l := s.lane k
  let s1 := if l.retryAt ≠ 0 ∧ s.elapsed (l.retryAt - 1) 1000 then pushData s k else s
  .next (if l.markRetryAt ≠ 0 ∧ s.elapsed (l.markRetryAt - 1) 1000 then pushMarks s1 k else s1)

/-- The answer to a lane's push (R578). -/
def lanePushed (s : State) (k : Nat) (mark : Bool) (addr len status : Nat) : State :=
  let s1 := updLane s k fun l => if mark then { l with markPushing := false } else { l with pushing := false }
  if status = 0 then
    updLane s1 k fun l => if mark then { l with marks := l.marks.drop (len / 32) } else { l with rxBuf := l.rxBuf.drop len }
  else
    event (updLane s1 k fun l => if mark then { l with markRetryAt := s.now + 1 } else { l with retryAt := s.now + 1 })
      (laneSrc k) 0x8007 (u64 addr ++ u8 status)

/-! ### Transmitted data (R579, R580) -/

/-- The bytes of a record with its padding, where its header is well formed (R579, R580). -/
def recordSize (h : List Byte) : Option Nat :=
  let kind := natAt h 0 1
  let len := natAt h 2 2
  if (kind = 0 ∧ 1 ≤ len ∧ len ≤ 1016) ∨ ((kind = 1 ∨ kind = 2) ∧ len = 8) then some (8 + (len + 7) / 8 * 8) else none

/-- The bytes of the whole records at the head of a list of bytes, up to 1,024 bytes, and whether a malformed header
follows them. -/
def wholeRecords : Nat → Nat → List Byte → Nat × Bool
  | 0, done, _ => (done, false)
  | fuel + 1, done, bs =>
    if bs.length < 8 then (done, false)
    else
      match recordSize bs with
      | none => (done, true)
      | some n => if bs.length < n ∨ 1024 < done + n then (done, false) else wholeRecords fuel (done + n) (bs.drop n)

/-- Records sent on a line; a control block of 128b/130b has its last 8 bytes zero. -/
def sendRecords (k : Nat) : Nat → List Byte → State → State
  | 0, _, s => s
  | fuel + 1, bs, s =>
    match recordSize bs with
    | none => s
    | some n =>
      let kind := natAt bs 0 1
      let len := if kind = 1 then min 8 (natAt bs 1 1) else natAt bs 2 2
      let wide := decide (kind = 2) && decide (field (laneCfg s k) 21 20 = 2)
      sendRecords k fuel (bs.drop n) (s.emit (.lane k kind (bytesAt bs 8 len ++ if wide then zeros 8 else [])))

/-- Whether a lane's transmitter sends records: while the lane is active, and in fixed mode from its start (R580, R581). -/
def laneSends (s : State) (k : Nat) : Bool :=
  let l := s.lane k
  !l.txStopped && decide (field (laneCfg s k) 17 16 ≠ 0) &&
    (decide (l.state = 5) || (decide (laneMode s k = 1) && (decide (l.state = 2) || decide (l.state = 7))))

/-- The state of a lane that is active: one whose transmitter a malformed record stopped shows 8 until it is stopped (R580). -/
def activeState (l : Lane) : Nat := if l.txStopped then 8 else 5

/-- LANE_TX_POP (R579, R580): whole records are popped from tx_window and sent; a malformed record stops the transmitter. -/
def execLaneTxPop (n : Fin 48) (s : State) : Res :=
  let k := n.val
  let w := s.num (0x6A00 + k) 4
  if ¬ laneSends s k ∨ 16 ≤ w ∨ (windowStatus s w).2.1 ≠ 0 then .next s
  else
    let ahead := (windowIndexed s w 0 (min 1024 ((s.window w).fill / 8 * 8)) none .good).2.2
    let r := wholeRecords 129 0 ahead
    let p := if r.1 = 0 then (s, 0, []) else windowPop s w r.1 .good
    if p.2.1 ≠ 0 then .next p.1
    else
      let s1 := sendRecords k 129 p.2.2 p.1
      .next (if r.2 then
          event (updLane s1 k fun l => { l with state := if l.state = 5 then 8 else l.state, txStopped := true }) (laneSrc k) 0x8008 (bytesAt ahead r.1 8)
        else s1)

/-! ### Bring-up (R581 to R585, R589) -/

/-- A lane begins its bring-up: at step 1 in native mode, at step 4 at its rate in fixed mode; it stays off where its
bringup field is 0. -/
def beginLane (s : State) (k : Nat) : State :=
  let m := laneMode s k
  updLane s k fun l =>
    let l0 := { l with offset := 0, rxBuf := [], lost := 0, marks := [], markLost := false, retryAt := 0, markRetryAt := 0, again := false }
    if m = 2 then { l0 with state := 1, step := 1, stepAt := s.now, rate := 0xFF }
    else if m = 1 then
      { l0 with state := 2, step := 4, stepAt := s.now, rate := if k < 48 then ownMax s k else serviceRate (serviceMode s (k - 48)) }
    else l0

/-- A lane stops: event 0x8005 with the cause. -/
def stopLane (s : State) (k cause : Nat) : State :=
  if (s.lane k).state = 0 then s
  else event (updLane s k fun l => { codeErrors := l.codeErrors, dropped := l.dropped }) (laneSrc k) 0x8005 (u8 cause)

/-- Why a user lane's settings keep it from starting (R570, R577). -/
def laneSettings (s : State) (k : Nat) : Option Nat :=
  let ok := fun (sub : Nat) => let a := s.num (0x6A00 + k) sub; decide (a = 0) || pushDst s a
  firstOf [need (rateFits s k) abRange, need (ok 2) abRange, need (ok 3) abRange]

/-- LANE_n.command (R570, R577, R581, R596, R656). -/
def actLane (k : Nat) : Action where
  state := fun s who v =>
    if leNat v = 1 then
      firstOf
        [need (s.mode ≠ .stable ∧ s.mode ≠ .safeStop ∧ (s.mode ≠ .startUp ∨ s.boot.writesEnabled)) abState,
         need (s.mode ≠ .service ∨ 3 ≤ levelOf s who) abLevel,
         need (¬ bit s.test.quadDown (k / 4)) abState]
    else none
  value := fun s _ v => if leNat v = 1 ∧ (s.lane k).state = 0 then laneSettings s k else none
  apply := fun s _ _ v =>
    if leNat v = 1 then (if (s.lane k).state = 0 then beginLane s k else s) else stopLane s k 0

/-- LANE_START. -/
def execLaneStart (e : Env) (n : Fin 48) (s : State) : Res := hostWrite e (0x6A00 + n.val) 7 [1] (actLane n.val) s

/-- LANE_STOP. -/
def execLaneStop (e : Env) (n : Fin 48) (s : State) : Res := hostWrite e (0x6A00 + n.val) 7 [2] (actLane n.val) s

/-- LANE_n subindices 01 to 06: written only while the lane is off; reserved rate codes and bring-up are refused. -/
def actLaneSetting (k sub : Nat) : Action where
  state := fun s _ _ => need ((s.lane k).state = 0) abState
  value := fun _ _ v =>
    if sub = 1 then need (field (leNat v) 27 24 ≤ 10 ∧ field (leNat v) 19 18 ≠ 3) abRange else none

/-- LANE_QUAD_q.pll: written only while all four lanes are off (R570). The PLL locks at once. -/
def actQuad (q : Nat) : Action where
  state := fun s _ _ => need ((List.range 4).all fun i => decide ((s.lane (4 * q + i)).state = 0)) abState

/-- A lane fails: event 0x8004 with the step and a reason, 0 the time limit, 1 a partner without the hitch flag. -/
def failLane (s : State) (k step reason : Nat) : State :=
  event (updLane s k fun l => { l with state := 6, failedAt := s.now, step := 0 }) (laneSrc k) 0x8004 (u8 step ++ u8 reason)

/-- After capabilities or a step: the next rate, or step 7. -/
def afterStep (s : State) (k : Nat) : State :=
  match nextRate s k with
  | some _ => updLane s k fun l => { l with state := 4, step := 6, stepAt := s.now }
  | none => updLane s k fun l => { l with step := 7, stepAt := s.now }

/-- Whether VLANE and VLANE_H are in range: while one is not, no lane locks (R715). -/
def lanesSupplied (s : State) : Bool := decide (AMap.get 0 s.board.inRangeAt 11 ≠ 1) && decide (AMap.get 0 s.board.inRangeAt 12 ≠ 1)

/-- LANE_RECEIVER_DETECTED: step 1 ends; the lane sends TS1 at 1.25 Gb/s and locks. -/
def execLaneReceiverDetected (l : LaneId) (s : State) : Res :=
  let k := laneKey l
  .next (if (s.lane k).state = 1 ∧ lanesSupplied s then updLane s k fun l => { l with state := 2, step := 4, stepAt := s.now, rate := 0 } else s)

/-- LANE_LOCKED: step 4 ends, at any rate. -/
def execLaneLocked (l : LaneId) (fom : Nat) (s : State) : Res :=
  let k := laneKey l
  let x := s.lane k
  if fom < fomMin s k ∨ ¬ lanesSupplied s then .next s
  else
    let s1 := updLane s k fun l => { l with fom := min 1023 fom }
    if x.state = 2 ∧ x.step = 4 then
      .next (if laneMode s k = 2 then updLane s1 k fun l => { l with state := 3, step := 5, stepAt := s.now }
        else updLane s1 k fun l => { l with step := 7, stepAt := s.now })
    else if x.state = 7 ∧ x.step = 4 then .next (marker (updLane s1 k fun l => { l with state := activeState l, step := 0 }) k 7 0 [])
    else if x.state = 4 ∧ x.step = 8 then .next (afterStep s1 k)
    else if x.state = 4 ∧ x.step = 9 then .next (updLane s1 k fun l => { l with step := 7, stepAt := s.now })
    else .next s

/-- LANE_TS2_RECEIVED: step 5 ends. A chain lane whose partner does not set the hitch flag fails (R584). -/
def execLaneTs2Received (l : LaneId) (maxRate : Byte) (hitch : Bool) (pre post : Byte) (s : State) : Res :=
  let k := laneKey l
  let x := s.lane k
  if x.state ≠ 3 ∨ x.step ≠ 5 then .next s
  else
    let s1 := updLane s k fun l =>
      { l with partnerMax := maxRate.toNat, partnerHitch := hitch, txEmph := post.toNat % 32 * 256 + pre.toNat % 16 }
    .next (if 50 ≤ k ∧ ¬ hitch then failLane s1 k 5 1 else afterStep s1 k)

/-- LANE_STEP: 16 STEP each way; both sides change to the next rate and lock there (R581, R582). -/
def execLaneStep (l : LaneId) (s : State) : Res :=
  let k := laneKey l
  let x := s.lane k
  match nextRate s k with
  | none => .next s
  | some r => .next (if x.state = 4 ∧ x.step = 6 then updLane s k fun l => { l with rate := r, step := 8, stepAt := s.now } else s)

/-- A step of the rate fails: the lane goes back, or stays, and locks once more before it goes active (R583). -/
def stepFailed (s : State) (k failed reached : Nat) : State :=
  event (updLane s k fun l => { l with rate := reached, step := 9, stepAt := s.now }) (laneSrc k) 0x8003 (u8 failed ++ u8 reached)

/-- LANE_BRINGUP_LIMIT (R581, R583): the step in progress reaches its limit. -/
def execLaneBringupLimit (l : LaneId) (s : State) : Res :=
  let k := laneKey l
  let x := s.lane k
  let past := fun (ns : Nat) => s.elapsed x.stepAt ns
  .next (if x.state = 1 ∧ past 100000 then updLane s k fun l => { l with stepAt := s.now }
    else if (x.state = 2 ∨ x.state = 7) ∧ x.step = 4 ∧ past 2000000 ∧ (k < 48 ∨ 50 ≤ k) then failLane s k 4 0
    else if x.state = 3 ∧ x.step = 5 ∧ past 1000000 then failLane s k 5 0
    else if x.state = 4 ∧ x.step = 6 ∧ past 2000000 then stepFailed s k ((nextRate s k).getD 0xFF) x.rate
    else if x.state = 4 ∧ x.step = 8 ∧ past 2000000 then stepFailed s k x.rate (prevRate k x.rate)
    else if x.state = 4 ∧ x.step = 9 ∧ past 2000000 then failLane s k 4 0
    else s)

/-- LANE_RETRY_TIMER (R583): 1 s after a failure. -/
def execLaneRetryTimer (l : LaneId) (s : State) : Res :=
  let k := laneKey l
  .next (if (s.lane k).state = 6 ∧ s.elapsed (s.lane k).failedAt 1000000000 then beginLane s k else s)

/-- An active lane loses lock (R585): event 0x8002 and a kind 6 marker; a native lane starts again from step 1, a fixed
one locks again. A chain lane's link goes down with it. -/
def loseLock (s : State) (k : Nat) : State :=
  let x := s.lane k
  if x.state ≠ 5 ∧ x.state ≠ 8 then s
  else
    let s1 := marker (event s (laneSrc k) 0x8002 (u8 x.state ++ u32 x.codeErrors)) k 6 0 []
    let s2 := if laneMode s k = 2 then updLane s1 k fun l => { l with state := 1, step := 1, stepAt := s.now, rate := 0xFF }
      else if k < 48 then updLane s1 k fun l => { l with state := 7, step := 4, stepAt := s.now }
      else updLane s1 k fun l => { l with state := 2, step := 4, stepAt := s.now }
    if 50 ≤ k then s2.updLink (decide (k = 50)) fun h => { h with up := false, resends := 0 } else s2

/-- LOCK_LOST. -/
def execLockLost (l : LaneId) (s : State) : Res := .next (loseLock s (laneKey l))

/-- LANE_ADAPT_STEP (R587): an active receiver moves a setting, gain 0 to 15 first and then the taps, by one step. -/
def execLaneAdaptStep (l : LaneId) (setting : Fin 6) (up : Bool) (s : State) : Res :=
  let k := laneKey l
  let x := s.lane k
  let i := setting.val
  if (x.state ≠ 5 ∧ x.state ≠ 8) ∨ ¬ s.elapsed (AMap.get 0 x.adaptAt i) 100000 then .next s
  else
    let v := AMap.get 0 x.equaliser i + (if up then 1 else -1)
    .next (updLane s k fun l =>
      { l with adaptAt := AMap.set 0 l.adaptAt i s.now
               equaliser := AMap.set 0 l.equaliser i (if i = 0 then max 0 (min 15 v) else v) })

/-- SERVICE_LANE_AUTO_TRY (R589): 100 ms without lock; 10GBASE-R, then 2500BASE-X, then SGMII. -/
def execServiceLaneAutoTry (p : Fin 2) (s : State) : Res :=
  let k := 48 + p.val
  let x := s.lane k
  if s.num 0x6A50 (1 + p.val) ≠ 0 ∨ x.state ≠ 2 ∨ x.step ≠ 4 ∨ ¬ s.elapsed x.stepAt 100000000 then .next s
  else
    let m := AMap.get 3 s.lanes.tryMode p.val
    let m1 := if m = 1 then 3 else m - 1
    .next (updLane { s with lanes.tryMode := AMap.set 3 s.lanes.tryMode p.val m1 } k fun l =>
      { l with stepAt := s.now, rate := serviceRate m1 })

/-- LANE_SERVICE.mode_p: the lane brings up again in the new mode (R589). -/
def actServiceMode (p : Nat) : Action where
  apply := fun s _ old new => if old = new ∨ (s.lane (48 + p)).state = 0 then s else beginLane s (48 + p)

/-- The enable-writes step starts the user lanes that have somewhere to write to or read from (R596). -/
def startLanes (s : State) : State :=
  (List.range 48).foldl (fun s k =>
    if (s.num (0x6A00 + k) 2 ≠ 0 ∨ s.num (0x6A00 + k) 3 ≠ 0 ∨ s.num (0x6A00 + k) 4 < 16) ∧ (s.lane k).state = 0 ∧
        ¬ bit s.test.quadDown (k / 4) ∧ laneSettings s k = none then beginLane s k else s) s

/-- Every user lane stops for a mode change; again says that it is to bring up on the return (R596, R629). -/
def stopLanes (s : State) (again : Bool) : State :=
  (List.range 48).foldl (fun s k =>
    if (s.lane k).state = 0 then s else updLane (stopLane s k 1) k fun l => { l with again := again }) s

/-- The user lanes that were on bring up again (R629). -/
def resumeLanes (s : State) : State :=
  (List.range 48).foldl (fun s k => if (s.lane k).again then beginLane s k else s) s

end Sys2Proof.Machine
end

