-- ==== Sys2Proof/Machine/DramQueue.lean ====
section
/-! DEFINITION. The DRAM controller's queues, scheduler, refresh, training, retirement and migration (10): rows
DRAM_REQUEST to SPARES_WRITE and MIGRATION_COPY. -/

namespace Sys2Proof.Machine

/-! ### Queues (R435, R436, R439) -/

/-- How many read entries, or write entries, a class holds; a write of part of a line holds a read entry as well. -/
def entriesHeld (c : Channel) (write : Bool) (cls : Nat) : Nat :=
  let w := c.writeQ.filter fun r => decide (r.cls = cls)
  if write then w.length
  else (c.readQ.filter fun r => decide (r.cls = cls)).length + (w.filter fun r => decide (r.data.length < 64)).length

/-- Whether a class has a free entry: guaranteed 16 of its own and then free normal ones, normal 32, bulk 8. -/
def entryFree (c : Channel) (write : Bool) (cls : Nat) : Bool :=
  let g := entriesHeld c write 0
  let n := entriesHeld c write 1 + (g - 16)
  match cls with
  | 0 => decide (g < 16) || decide (n < 32)
  | 1 => decide (n < 32)
  | _ => decide (entriesHeld c write cls < 8)

/-- Drain mode after a change of the write queue. -/
def drainMode (c : Channel) : Channel :=
  { c with drain := if 48 ≤ c.writeQ.length then true else if c.writeQ.length ≤ 16 then false else c.drain }

/-- The write that a read may take its data from: the last queued to its line, if it is whole, and the reader sees
plaintext. -/
def forwardFrom (s : State) (c : Channel) (r : DReq) : Option DReq :=
  if r.write ∨ (isOuter r.initiator ∧ (regionOf s (r.line * 64)).isSome) then none
  else
    match (c.writeQ.filter fun w => decide (w.line = r.line)).getLast? with
    | some w => if w.data.length = 64 then some w else none
    | none => none

/-- DRAM_REQUEST (R436): the k-th request of the slices enters its channel's queue, takes its data from the write
queue, or is answered 7 where its stack serves nothing; it waits while its class has no entry or an earlier request
to its line has not entered. -/
def execDramRequest (k : Nat) (s : State) : Res :=
  match s.wale.toDram[k]? with
  | none => .next s
  | some r =>
    let ch := (dloc (r.line * 64)).chan
    let c := s.chan ch
    let s1 := { s with wale.toDram := delAt s.wale.toDram k }
    if (s.wale.toDram.take k).any (fun q => decide (q.line = r.line)) then .next s
    else if stackState s (ch / 16) ≠ 2 then .next (dramAnswer s1 r 7 (zeros 64))
    else
      match forwardFrom s c r with
      | some w => .next (dramAnswer s1 r (if w.poison then 3 else 0) w.data)
      | none =>
        if ¬ entryFree c r.write r.cls ∨ (r.write ∧ r.data.length < 64 ∧ ¬ entryFree c false r.cls) then .next s
        else
          .next (s1.updChan ch fun c =>
            drainMode (if r.write then { c with writeQ := c.writeQ ++ [{ r with at_ := s.now }] }
                       else { c with readQ := c.readQ ++ [{ r with at_ := s.now }] }))

/-- REQUEST_URGENT (R440): the k-th request of a channel's read or write queue has reached age_limit. -/
def execRequestUrgent (channel : Fin 32) (write : Bool) (k : Nat) (s : State) : Res :=
  let ch := channel.val
  let q := if write then (s.chan ch).writeQ else (s.chan ch).readQ
  match q[k]? with
  | none => .next s
  | some r =>
    if r.urgent ∨ r.cls = 3 ∨ ¬ s.elapsed r.at_ (s.num 0x6601 2) then .next s
    else
      let q1 := setAt q k { r with urgent := true }
      .next (counted (s.updChan ch fun c => if write then { c with writeQ := q1 } else { c with readQ := q1 }) (chanSrc ch) 0x0B 0 1)

/-! ### Refresh (R444 to R449) -/

/-- The refresh interval in root periods: the window, which may be halved, divided by 8,192. -/
def refreshRoots (halved : Bool) : Nat := if halved then 18750 else 37500

/-- Whether a stack's controllers refresh its dies: where it is ready, and where it retrains what it holds (R464). -/
def refreshing (s : State) (m : Nat) : Bool := decide (stackState s m = 2) || (decide (stackState s m = 1) && s.dram.trained)

/-- The payload that names a bank. -/
def bankRef (key : Nat) : List Byte := u8 (key / 256) ++ u8 (key / 128 % 2) ++ u8 (key / 32 % 4) ++ u8 (key % 32)

/-- REFRESH_INTERVAL (R444, R445): a change of the window is in force from the next interval of the bank on (R446). -/
def execRefreshInterval (b : BankId) (s : State) : Res :=
  let key := bankIdKey b
  let x := s.dbank key
  let ch := b.channel.val
  let ends := max x.intervalAt (AMap.get 0 s.dram.refreshFrom (ch / 16)) + refreshRoots x.halved
  if ¬ refreshing s (ch / 16) ∨ s.now < ends then .next s
  else
    let s1 := s.updBank key fun x =>
      { x with debt := x.debt + 1, intervals := x.intervals + 1, intervalAt := ends, halved := bit s.dram.halved (ch / 16),
               forcedAt := if x.debt + 1 = 9 then some s.now else x.forcedAt }
    if x.debt + 1 = 9 then
      .next (counted (event { s1 with dram.forced := satInc s1.dram.forced maxU32 } (chanSrc ch) 0x4004 (bankRef key)) (chanSrc ch) 0x07 0 1)
    else .next s1

/-- A row of a bank refreshed, in row order. -/
def refreshBank (s : State) (key : Nat) : State :=
  counted (s.updBank key fun x =>
    { x with debt := x.debt - 1, nextRow := (x.nextRow + 1) % 6160, openRow := none,
             forcedAt := if x.debt - 1 < 9 then none else x.forcedAt }) (chanSrc (key / 256)) 0x06 0 1

/-- The rows that a neighbour refresh of a row activates. -/
def neighbourRows (row : Nat) : List Nat :=
  (if 2 ≤ row then [row - 2] else []) ++ (if 1 ≤ row then [row - 1] else []) ++ ([row + 1, row + 2].filter fun r => decide (r ≤ 6159))

/-- The oldest neighbour refresh pending in a bank carried out (R448). -/
def neighbourBank (s : State) (key : Nat) : State :=
  match (s.dbank key).nref with
  | [] => s
  | (row, _) :: rest =>
    let ch := key / 256
    let s1 := debit (refillBudget (s.updBank key fun x => { x with nref := rest, openRow := none }) ch) ch (16 * (neighbourRows row).length)
    counted (event { s1 with dram.neighbour := satInc s1.dram.neighbour maxU32 } (chanSrc ch) 0x4006 (bankRef key ++ u16 row)) (chanSrc ch) 0x08 0 1

/-- NEIGHBOUR_REFRESH (R448). -/
def execNeighbourRefresh (b : BankId) (s : State) : Res :=
  .next (if refreshing s (b.channel.val / 16) then neighbourBank s (bankIdKey b) else s)

/-- ACTIVATE_TABLE_CLEAR (R449): 8,192 refresh intervals of a bank have passed. -/
def execActivateTableClear (b : BankId) (s : State) : Res :=
  .next (if (s.dbank (bankIdKey b)).intervals < 8192 then s
    else s.updBank (bankIdKey b) fun x => { x with table := [], intervals := x.intervals - 8192 })

/-! ### The scheduler (R437 to R443) -/

/-- Whether a scrub or migration holds a line (R457, R477). -/
def lineHeld (s : State) (ch line : Nat) : Bool :=
  let c := s.chan ch
  (match c.scrubHeld with
   | some (l, t) => decide (l = line) && !s.elapsed t 10000
   | none => false) ||
  (match c.migHeldAt with
   | some t =>
     decide (c.migRank * rankBytes / 64 + lineOff ch (retOf c).pointer / 64 = line) && !s.elapsed t 10000
   | none => false)

/-- Whether a queued request can issue on a pseudo-channel: no earlier request to its line, its line not held, and
its class not stopped by the throttle. -/
def canIssue (s : State) (ch pc : Nat) (r : DReq) : Bool :=
  let c := s.chan ch
  decide ((dloc (r.line * 64)).pc = pc) && !lineHeld s ch r.line &&
    !(c.readQ ++ c.writeQ).any (fun q => decide (q.line = r.line) && decide (q.seq < r.seq)) &&
    (decide (r.cls = 0) || !stackThrottled s ch || decide (0 < c.heat))

/-- The bank and the row that a request addresses, where one serves its line. -/
def requestRow (s : State) (r : DReq) : Option (Nat × Nat) :=
  let l := dloc (r.line * 64)
  match placeOf s (r.line * 64) with
  | .at_ _ rank spare =>
    some (if spare then (bankKey l.chan l.pc rank 31, 6159) else (bankKey l.chan l.pc rank l.bank, l.row))
  | .no _ => none

/-- Whether a request finds its row open. -/
def rowHit (s : State) (r : DReq) : Bool := (requestRow s r).any fun x => decide ((s.dbank x.1).openRow = some x.2)

/-- The oldest of a list of requests. -/
def oldest : List DReq → Option DReq
  | [] => none
  | r :: rs =>
    match oldest rs with
    | none => some r
    | some q => if q.seq < r.seq then some q else some r

/-- Row hits first, then oldest. -/
def hitsFirst (s : State) (rs : List DReq) : Option DReq := (oldest (rs.filter (rowHit s))).or (oldest rs)

/-- The request that a pseudo-channel's scheduler selects at steps 2 to 4 of R437; in read mode step 4 issues writes where the
pseudo-channel has no read queued (R439). -/
def pick (s : State) (ch pc : Nat) : Option DReq :=
  let c := s.chan ch
  let ok := (c.readQ ++ c.writeQ).filter (canIssue s ch pc)
  let g := ok.filter fun r => decide (r.cls = 0)
  let rest := ok.filter fun r => decide (r.cls ≠ 0)
  let reads := rest.filter fun r => !r.write
  let none_ := c.readQ.all fun r => decide ((dloc (r.line * 64)).pc ≠ pc)
  let writes := rest.filter (·.write)
  ((((oldest (g.filter (·.urgent))).or (hitsFirst s g)).or (oldest (rest.filter (·.urgent)))).or
    (if c.drain then hitsFirst s writes else if none_ then hitsFirst s writes else hitsFirst s reads))

/-- The banks of a pseudo-channel that have something due, as their keys. -/
def pcBanks (s : State) (ch pc : Nat) : List (Nat × DBank) := s.dram.banks.filter fun kv => decide (kv.1 / 128 = ch * 2 + pc)

/-- What is due at step 1 of R437, earliest first: a bank's key, its time, and whether it is a forced refresh. -/
def dueNow (s : State) (ch pc : Nat) : Option (Nat × Nat × Bool) :=
  ((pcBanks s ch pc).flatMap fun kv =>
    (match kv.2.forcedAt with
     | some t => [(kv.1, t, true)]
     | none => []) ++
    (match kv.2.nref with
     | (_, t) :: _ => [(kv.1, t, false)]
     | [] => [])).foldl (fun m x =>
      match m with
      | none => some x
      | some y => if x.2.1 < y.2.1 then some x else some y) none

/-- The bank refreshed at step 5: one with a debt and no request queued for it, any of them (log entry 17). -/
def idleRefresh (s : State) (ch pc : Nat) : Option Nat :=
  let c := s.chan ch
  let busy := (c.readQ ++ c.writeQ).filterMap fun r => (requestRow s r).map (·.1)
  chosen s (((pcBanks s ch pc).filter fun kv => decide (1 ≤ kv.2.debt) && !busy.contains kv.1).map (·.1))

/-- A selected request carried out and answered. -/
def serveDram (s : State) (ch : Nat) (r : DReq) (errs : List (Nat × Nat)) (spareErrs : List Bool) : State :=
  let s1 := counted (s.updChan ch fun c =>
    drainMode { c with readQ := c.readQ.filter (fun q => decide (q.seq ≠ r.seq)), writeQ := c.writeQ.filter (fun q => decide (q.seq ≠ r.seq)) })
    (chanSrc ch) 0x0C (s.nsSince r.at_) 1
  performDram (if r.cls = 0 ∨ ¬ stackThrottled s ch then s1 else s1.updChan ch fun c => { c with heat := c.heat - perLine }) r errs spareErrs

/-- DRAM_COMMAND_SLOT (R437): errs gives, by line number, the symbols in error of the lines read, and with bit 42 set
the lines whose copy in the metadata cache has an uncorrectable word (R512); spareErrs the
read-backs of remap spares that err. -/
def execDramCommandSlot (channel : Fin 32) (pcB : Bool) (errs : List (Nat × Nat)) (spareErrs : List Bool) (s0 : State) : Res :=
  let ch := channel.val
  let pc := b2n pcB
  if ¬ refreshing s0 (ch / 16) then .next s0
  else
    let s := refillHeat (refillBudget s0 ch) ch
    match dueNow s ch pc with
    | some (key, _, true) => .next (refreshBank s key)
    | some (key, _, false) => .next (neighbourBank s key)
    | none =>
      match if stackState s (ch / 16) = 2 then pick s ch pc else none with
      | some r => .next (serveDram s ch r errs spareErrs)
      | none =>
        match idleRefresh s ch pc with
        | some key => .next (refreshBank s key)
        | none => .next s

/-! ### Training and lane repair (R450 to R453) -/

/-- A pseudo-channel's failing lanes replaced by its spares, or the pseudo-channel down. -/
def repairLanes (s : State) (ch pc : Nat) (failing : List Nat) : State :=
  let c := s.chan ch
  let used := if pc = 0 then c.lanesA else c.lanesB
  if used + failing.length ≤ 2 then
    (failing.foldl (fun (acc : State × Nat) l =>
      (event (acc.1.updChan ch fun c => if pc = 0 then { c with lanesA := acc.2 + 1 } else { c with lanesB := acc.2 + 1 })
        (chanSrc ch) 0x4002 (u8 ch ++ u8 pc ++ u8 l ++ u8 acc.2), acc.2 + 1)) (s, used)).1
  else
    event (s.updChan ch fun c => { c with pcDown := setBit c.pcDown pc true }) (chanSrc ch) 0x4003 (u8 ch ++ u8 pc ++ u8 failing.length)

/-- RETRAIN_BURST (R451, R452): a burst of a retraining, at most one in 10 µs; the 64th of both ends it. A replacement found in a
burst takes effect at the next one. -/
def execRetrainBurst (channel : Fin 32) (pcB : Bool) (failing : List (Fin 36)) (s : State) : Res :=
  let ch := channel.val
  let c := s.chan ch
  let n := if pcB then c.burstsB else c.burstsA
  let t := if pcB then c.burstAtB else c.burstAtA
  if c.training ≠ 1 ∨ 64 ≤ n ∨ (n ≠ 0 ∧ ¬ s.elapsed t 10000) then .next s
  else
    let found := if pcB then c.foundB else c.foundA
    let s0 := if found = [] then s else repairLanes s ch (b2n pcB) found
    let next := failing.map Fin.val
    let held := (if pcB then (s0.chan ch).lanesB else (s0.chan ch).lanesA) + next.length ≤ 2
    let s1 := s0.updChan ch fun c =>
      let d := if pcB then { c with burstsB := n + 1, burstAtB := s.now, foundB := if held then next else [] }
        else { c with burstsA := n + 1, burstAtA := s.now, foundA := if held then next else [] }
      if 64 ≤ d.burstsA ∧ 64 ≤ d.burstsB then { d with training := 0 } else d
    .next (if held then s1 else repairLanes s1 ch (b2n pcB) next)

/-- A run-time retraining of a channel begins. -/
def beginRetrain (s : State) (ch : Nat) : State := s.updChan ch fun c => { c with training := 1, burstsA := 0, burstsB := 0 }

/-- Run, Hold or Service. -/
def runHoldService (s : State) : Bool := s.runOrHold || decide (s.mode = .service)

/-- DRAM_CMD.retire (R455, R466). -/
def actRetire : Action where
  state := fun s _ v =>
    let r := retOf (s.chan (field (leNat v) 4 0))
    let k := field (leNat v) 9 8
    firstOf [need (runHoldService s) abState,
             need (rankState r k ≠ 1 ∧ rankState r k ≠ 2 ∧ ¬ (k = 3 ∧ rankState r 3 = 3)) abState]
  value := fun _ _ v => need (leNat v &&& 0xFCE0 = 0) abRange
  apply := fun s _ _ v => retireRank s (field (leNat v) 4 0) (field (leNat v) 9 8) 2

/-- RETIRE. -/
def execRetire (e : Env) (v : BitVec 16) (s : State) : Res := hostWrite e 0x6640 1 (u16 v.toNat) actRetire s

/-- DRAM_CMD.retrain (R451, R466). -/
def actRetrain : Action where
  state := fun s _ v =>
    firstOf [need (runHoldService s) abState, need ((bitsSet (leNat v) 32).all fun c => decide ((s.chan c).training = 0)) abState]
  apply := fun s _ _ v => (bitsSet (leNat v) 32).foldl beginRetrain s

/-- RETRAIN. -/
def execRetrain (e : Env) (v : U32) (s : State) : Res := hostWrite e 0x6640 2 (u32 v.toNat) actRetrain s

/-- DRAM_CFG.spares (R461). -/
def actSpares : Action where
  state := fun s _ _ => need (s.mode = .startUp ∧ s.boot.cause = 0 ∧ ¬ s.boot.writesEnabled) abState
  apply := fun s _ _ v =>
    let on := decide (leNat v = 1)
    if on = s.dram.sparesInForce then s
    else
      (List.range 32).foldl (fun s ch =>
        let r := retOf (s.chan ch)
        setRet s ch (if rankState r 3 = 3 ∧ ¬ on then setRankState r 3 0 else if rankState r 3 = 0 ∧ r.hosted = 7 ∧ on then setRankState r 3 3 else r))
        { s with dram.sparesInForce := on }

/-- SPARES_WRITE. -/
def execSparesWrite (e : Env) (v c : Byte) (s : State) : Res := hostPaired e 0x6601 1 [v] [c] actSpares s

/-- CA_PARITY_ERROR (R455): the command is reissued; the third error of a channel-rank within 1 s retires it. -/
def execCaParityError (channel : Fin 32) (rank : Fin 4) (s : State) : Res :=
  let ch := channel.val
  let k := rank.val
  if stackState s (ch / 16) ≠ 2 then .next s
  else
    let times := ((s.chan ch).caTimes.filter fun e => decide (e.1 ≠ k) || !s.elapsed e.2 1000000000) ++ [(k, s.now)]
    let s1 := s.updChan ch fun c => { c with caErr := AMap.upd 0 c.caErr k (satInc · 255), caTimes := times }
    let s2 := event s1 (chanSrc ch) 0x4007 (u8 ch ++ u8 k)
    .next (if 3 ≤ (times.filter fun e => decide (e.1 = k)).length then retireRank s2 ch k 1 else s2)

/-! ### Migration (R457 to R460, R482) -/

/-- The device address of the line that a channel's migration has reached. -/
def migAddr (s : State) (ch : Nat) : Nat :=
  let c := s.chan ch
  c.migRank * rankBytes + lineOff ch (retOf c).pointer

/-- The home slice, or the metadata cache, holds a newer copy of a line (R403, R522): the event of its discard. -/
def newerCopy (s : State) (a : Nat) : Option (Nat × Nat) :=
  let sl := homeSlice s a
  match lookup s sl (a / 64) with
  | some (_, x) => if x.dirty then some (sliceSrc sl, 0x4806) else (match cached s (a / 64 * 64) with
      | some (_, true) => some (metaSrc, 0x600F)
      | _ => none)
  | none =>
    match cached s (a / 64 * 64) with
    | some (_, true) => some (metaSrc, 0x600F)
    | _ => none

/-- The migration pointer moves past a line; the last line ends the migration (R458, R459). -/
def migAdvance (s : State) (ch : Nat) : State :=
  let c := s.chan ch
  let r := retOf c
  let p := r.pointer + 1
  if p < rankLines then (setRet s ch { r with pointer := p }).updChan ch fun c => { c with migHeldAt := none }
  else
    let s1 := (setRet s ch (setRankState { r with pointer := p } c.migRank 2)).updChan ch fun x =>
      { x with mig := 2, migHeldAt := none,
               remap := x.remap.filter fun e => decide (e.2.line / 2 ^ 23 ≠ c.migRank) || !e.2.valid }
    event s1 (chanSrc ch) 0x400A (u8 ch ++ u8 c.migRank ++ u32 p ++ u32 c.migPoisoned)

/-- A migration write of the line at a: into rank 3, poisoned where its read was poisoned or uncorrectable. -/
def migWrite (s : State) (ch a symbols : Nat) : State :=
  let d := rawRead s a 0x45 symbols []
  if d.2.1 ≠ 0 ∧ d.2.1 ≠ 3 ∧ d.2.1 ≠ 8 then migAdvance d.1 ch
  else
    let bad := decide (d.2.1 ≠ 0)
    let phys := 3 * rankBytes + a % rankBytes
    let s1 := storeLine (accessRow d.1 (dloc a) 3 false) phys d.2.2 bad
    let s2 := if bad then s1.updChan ch fun c => { c with migPoisoned := c.migPoisoned + 1 } else s1
    migAdvance (if d.2.1 = 8 then event s2 (chanSrc ch) 0x400C (u64 a) else s2) ch

/-- Whether the line being copied is held between its read and its write: for 10 µs at most (R457, R458). -/
def copyHeld (s : State) (ch : Nat) : Bool :=
  match (s.chan ch).migHeldAt with
  | some t => !s.elapsed t 10000
  | none => false

/-- MIGRATION_COPY (R457): the read and the write of the next line, each as the budget allows; a line whose write must
wait is held. -/
def execMigrationCopy (channel : Fin 32) (symbols : Nat) (s0 : State) : Res :=
  let ch := channel.val
  let s := refillBudget (settleRet s0 ch) ch
  let c := s.chan ch
  if c.mig ≠ 1 ∨ stackState s (ch / 16) ≠ 2 ∨ c.budget ≤ 0 then .next s
  else
    let a := migAddr s ch
    let sl := homeSlice s a
    if ¬ copyHeld s ch ∧ 64 ≤ (s.slice sl).maint.length then .next s
    else
      let s1 := if copyHeld s ch then s
        else counted (debit (updSlice s sl fun x => { x with maint := x.maint ++ [(a / 64, s.now)] }) ch 1) (chanSrc ch) 0x0D 0 1
      if (s1.chan ch).budget ≤ 0 then .next (s1.updChan ch fun c => { c with migHeldAt := some s.now })
      else
        let s2 := counted (debit s1 ch 1) (chanSrc ch) 0x0D 0 1
        let s3 := updSlice s2 sl fun x => { x with maint := x.maint.filter fun e => decide (e.1 ≠ a / 64) }
        match newerCopy s3 a with
        | some (src, code) => .next (migAdvance (event s3 src code (if code = 0x4806 then u8 sl ++ u64 a else u64 a)) ch)
        | none => .next (migWrite s3 ch a symbols)

/-- MIGRATION_LINE_TIMEOUT (R458): a line held for 10 µs is let go and copied again; the pointer stays. -/
def execMigrationLineTimeout (channel : Fin 32) (s : State) : Res :=
  match (s.chan channel.val).migHeldAt with
  | none => .next s
  | some t => .next (if s.elapsed t 10000 then s.updChan channel.val fun c => { c with migHeldAt := none } else s)

end Sys2Proof.Machine
end

