-- ==== Sys2Proof/Machine/Keys.lean ====
section
/-! DEFINITION. Key slots and region commands (12): rows KEY_UNWRAP_EFUSE to REGION_INITIALISED. -/

namespace Sys2Proof.Machine

/-! ### Key slots (R524, R529) -/

/-- The check value of a 256-bit key: the first 4 bytes of the encryption of a zero block. -/
def checkValue (key : List Byte) : List Byte := if key = [] then zeros 4 else (Crypto.aesEnc (key.take 32) (zeros 16)).take 4

/-- What a wrap yields under Kw of the session that writes it (R57); a requester without a session key has none. -/
def unwrapBy (s : State) (who : Requester) (wrap : List Byte) : Option (List Byte) :=
  match who with
  | .session n =>
    match Crypto.unwrap (Crypto.hmac (s.session n.val).ks [0x77, 0x72, 0x61, 0x70]) wrap with
    | some k => if k.length = 32 then some k else none
    | none => none
  | _ => none

/-- Whether an enabled region uses a key slot. -/
def slotInUse (s : State) (slot : Nat) : Bool :=
  (List.range 16).any fun r =>
    (decide ((s.region r).state = 1) || decide ((s.region r).state = 2)) && decide (1 ≤ regionMode s r) && decide (regionSlot s r = slot)

/-- The key pair that a wrap yields under a key, with H not zero. -/
def unwrapPair (kek wrap : List Byte) : Option (List Byte) :=
  if kek = [] then none
  else
    match Crypto.unwrap kek wrap with
    | some k => if k.length = 64 ∧ natAt k 32 8 ≠ 0 then some k else none
    | none => none

/-- The key under which a source unwraps: 1 eFuse, 2 battery-backed. -/
def sourceKey (s : State) (src : Nat) : List Byte := if src = 1 then s.fuses.efuseKey else s.fuses.bbramKey

/-- A pair drawn from the internal random source, its H drawn again while it is zero (log entry 2). -/
def drawPair (s : State) : List Byte :=
  let d := drawBytes s 192
  let h := (((List.range 16).map fun i => bytesAt d (64 + 8 * i) 8).find? fun b => decide (leNat b ≠ 0)).getD (u64 1)
  d.take 32 ++ h ++ bytesAt d 40 24

/-- CRYPT_KEY.request (R529). -/
def actKey : Action where
  value := fun s _ v =>
    let src := natAt v 1 1
    firstOf
      [need (1 ≤ src ∧ src ≤ 4 ∧ v.length = (if src ≤ 2 then 76 else 4)) abLength,
       need (natAt v 0 1 ≤ 31) abRange,
       need (¬ (s.sealed.enabled ∧ natAt v 0 1 = 31)) abSealed,
       need (¬ slotInUse s (natAt v 0 1)) abState,
       need (2 < src ∨ (unwrapPair (sourceKey s src) (v.drop 4)).isSome) abRange]
  apply := fun s _ _ v =>
    let slot := natAt v 0 1
    let src := natAt v 1 1
    let k := if src ≤ 2 then (unwrapPair (sourceKey s src) (v.drop 4)).getD [] else if src = 3 then drawPair s else []
    let s1 := if src = 3 then s.drew 192 else s
    event { s1 with crypt.slots := AMap.set [] s1.crypt.slots slot k } metaSrc 0x600A (u8 slot ++ u8 src ++ checkValue k)
  late := fun s v c =>
    let s1 := { s with crypt.status := c }
    let src := natAt v 1 1
    if c = abRange ∧ natAt v 0 1 ≤ 31 ∧ src ≤ 2 then event s1 metaSrc 0x600B (u8 (natAt v 0 1) ++ u8 src) else s1

/-- KEY_UNWRAP_EFUSE. -/
def execKeyUnwrapEfuse (e : Env) (slot : Byte) (wrap : List Byte) (s : State) : Res :=
  hostWrite e 0x6820 1 ([slot, 1, 0, 0] ++ wrap) actKey s
/-- KEY_UNWRAP_BBRAM. -/
def execKeyUnwrapBbram (e : Env) (slot : Byte) (wrap : List Byte) (s : State) : Res :=
  hostWrite e 0x6820 1 ([slot, 2, 0, 0] ++ wrap) actKey s
/-- KEY_GENERATE. -/
def execKeyGenerate (e : Env) (slot : Byte) (s : State) : Res := hostWrite e 0x6820 1 [slot, 3, 0, 0] actKey s
/-- KEY_CLEAR. -/
def execKeyClear (e : Env) (slot : Byte) (s : State) : Res := hostWrite e 0x6820 1 [slot, 4, 0, 0] actKey s

/-! ### Region commands (R499, R525) -/

/-- The spans of region r: data, and metadata in mode 2, as first and past-last addresses. -/
def regionSpans (s : State) (r : Nat) : List (Nat × Nat) :=
  (regionBase s r, regionBase s r + regionSize s r) ::
    (if regionMode s r = 2 then [(regionMeta s r, regionMeta s r + metaLengthOf (regionLines s r))] else [])

/-- Whether two spans overlap. -/
def spansMeet (a b : Nat × Nat) : Bool := decide (a.1 < b.2) && decide (b.1 < a.2)

/-- Whether a region's spans are well placed: aligned, within capacity, and apart from those of the others. -/
def spansOk (s : State) (r : Nat) : Bool :=
  let own := regionSpans s r
  decide (regionBase s r % 65536 = 0) && decide (regionSize s r % 65536 = 0) && decide (65536 ≤ regionSize s r) &&
    decide (regionMode s r ≠ 2 ∨ regionMeta s r % 65536 = 0) && own.all (fun p => decide (p.2 ≤ capacity s)) &&
    (match own with
     | [a, b] => !spansMeet a b
     | _ => true) &&
    (List.range 16).all fun q =>
      decide (q = r) || decide ((s.region q).state = 0) || (regionSpans s q).all fun p => own.all fun x => !spansMeet p x

/-- Whether the slot of a region's mode is loaded. -/
def slotOk (s : State) (r : Nat) : Bool :=
  decide (regionMode s r = 0) || decide (AMap.get [] s.crypt.slots (regionSlot s r) ≠ [])

/-- The metadata lines of a region leave the cache. -/
def dropMeta (s : State) (r : Nat) : State :=
  { s with crypt.cache := s.crypt.cache.filter fun e =>
      match metaRegionOf s e.1 with
      | some q => decide (q ≠ r)
      | none => true }

/-- A region's poisoned subtrees and failed lines forgotten. -/
def dropFaults (s : State) (r : Nat) : State :=
  let b := regionBase s r
  let z := regionSize s r
  { s with crypt.poison := s.crypt.poison.filter (fun e => decide (e.region ≠ r))
           crypt.failed := s.crypt.failed.filter (fun a => decide (a < b) || decide (b + z ≤ a)) }

/-- A region enabled without initialising, or set to initialise (R525). -/
def enableRegion (s : State) (r cmd : Nat) : State :=
  let s1 := flushAll s true
  let s2 := s1.updRegion r fun x =>
    { x with state := if cmd = 1 then 2 else 1, lock := 0, root := 0, rootComp := ~~~(0 : U64),
             metaLength := if regionMode s r = 2 then metaLengthOf (regionLines s r) else 0 }
  let s3 := { s2 with crypt.initAt := AMap.set 0 s2.crypt.initAt r s2.now }
  event s3 (regionSrc r) 0x6001 (u8 r ++ u8 (regionMode s r) ++ u8 cmd)

/-- A region disabled (R525). -/
def disableRegion (s : State) (r : Nat) : State :=
  let mode := regionMode s r
  let s1 := dropFaults (dropMeta (flushAll s true) r) r
  let s2 := s1.updRegion r fun x => { x with state := 0, lock := 0, root := 0, rootComp := ~~~(0 : U64), metaLength := 0 }
  event (s2.resetObj (0x6810 + r) 1) (regionSrc r) 0x6001 (u8 r ++ u8 mode ++ u8 3)

/-- CRYPT_REGION_n.command. -/
def actRegion (r : Nat) : Action where
  state := fun s _ v =>
    firstOf
      [need (¬ heldRegion s r) abSealed,
       match leNat v with
       | 1 => need ((s.region r).state = 0 ∧ regionMode s r ≤ 1) abState
       | 2 => need ((s.region r).state = 0) abState
       | 3 => need ((s.region r).state = 2 ∨ (s.region r).state = 3) abState
       | _ => none]
  value := fun s _ v =>
    firstOf [need (1 ≤ leNat v ∧ leNat v ≤ 3) abRange, need (leNat v = 3 ∨ (spansOk s r ∧ slotOk s r)) abRange]
  apply := fun s _ _ v => if leNat v = 3 then disableRegion s r else enableRegion s r (leNat v)

/-- CRYPT_REGION_n.mode, base, size, key_slot and meta_base. -/
def actRegionSetting (r : Nat) : Action where
  state := fun s _ _ => firstOf [need (¬ heldRegion s r) abSealed, need ((s.region r).state = 0) abState]

/-- REGION_ENABLE. -/
def execRegionEnable (e : Env) (r : Fin 16) (s : State) : Res := hostWrite e (0x6810 + r.val) 7 [1] (actRegion r.val) s
/-- REGION_ENABLE_INITIALISE. -/
def execRegionEnableInitialise (e : Env) (r : Fin 16) (s : State) : Res := hostWrite e (0x6810 + r.val) 7 [2] (actRegion r.val) s
/-- REGION_DISABLE. -/
def execRegionDisable (e : Env) (r : Fin 16) (s : State) : Res := hostWrite e (0x6810 + r.val) 7 [3] (actRegion r.val) s

/-- Every data line of a region written as zeros under its mode, with version 0 and its tag (R525). -/
def initLines (s : State) (r : Nat) : State :=
  (List.range (regionLines s r)).foldl (fun s j =>
    let a := regionBase s r + j * 64
    if regionMode s r = 2 then (authStore s r j 0 0 (zeros 64) false).1
    else if regionMode s r = 1 then (rawWrite s a (confidential s r false a (zeros 64)) false).1
    else (rawWrite s a (zeros 64) false).1) s

/-- Every node line of an authenticated region written as zeros, with its tag under version 0. -/
def initNodes (s : State) (r : Nat) : State :=
  if regionMode s r ≠ 2 then s
  else
    let n := regionLines s r
    (List.range (topLevel n + 1)).foldl (fun s l =>
      (List.range (levelNodes n l)).foldl (fun s m =>
        let a := nodeAddr s r l m
        retagNode (rawWrite s a (zeros 64) false).1 r l m 0 0) s) s

/-- A region initialised: its lines, tags and tree stand as R525 says, and it is enabled. -/
def initRegion (s : State) (r : Nat) : State := (initNodes (initLines s r) r).updRegion r fun x => { x with state := 2 }

/-- REGION_INITIALISED (R525): the initialisation of a region ends. -/
def execRegionInitialised (r : Fin 16) (s : State) : Res :=
  let n := r.val
  if (s.region n).state ≠ 1 then .next s
  else .next (event (initRegion s n) (regionSrc n) 0x6002 (u8 n ++ u64 (s.nsSince (AMap.get 0 s.crypt.initAt n))))

end Sys2Proof.Machine
end

