-- ==== Sys2Proof/Machine/Sealed.lean ====
section
/-! DEFINITION. The sealed partition (15): rows SEAL_PROVISION to SAMPLE_FRAME, and the change of R605. -/

namespace Sys2Proof.Machine

/-- The source of the partition's events. -/
def sealSrc : Nat := 0xA000
/-- The source of a sample port's events. -/
def portSrc (p : Nat) : Nat := 0xA100 + p
/-- The window offset of a place in bank 31. -/
def bank31 (off : Nat) : Nat := 0x7C0000 + off

/-- Parameter p of the working table. -/
def sealParam (s : State) (p : Nat) : Param := AMap.get {} s.sealed.table p
/-- Parameter p of the record store. -/
def storeParam (s : State) (p : Nat) : Param := AMap.get {} s.sealed.store p
/-- Whether a parameter agrees with its complement. -/
def paramOk (p : Param) : Bool := decide (p.comp = ~~~p.val)

/-- The check of an object of 0x7000 to 0x70FF while the partition is not enabled (R598), at check 6 (log entry 20). -/
def sealGate (s : State) : Option Nat := need s.sealed.enabled abState

/-- A parameter's value written into the image of bank 31. -/
def writeImage (s : State) (p : Nat) : State := controllerWrite (8 * p) (u64 (sealParam s p).val.toNat) s

/-- The whole image written. -/
def writeImages (s : State) : State := (List.range 256).foldl writeImage s

/-! ### Layouts (R604, R618, R619) -/

/-- Whether a port parameter is accepted. -/
def portLayout (v : Nat) : Bool :=
  let div := field v 55 48
  let bits := field v 47 40
  let words := field v 39 38 + 1
  let wb := field v 37 32
  let period := field v 15 0
  !bit v 63 ||
    (decide (7 ≤ div) && decide (div ≤ 199) && decide (8 ≤ bits) && decide (bits ≤ 128) && decide (8 ≤ wb) && decide (wb ≤ 32) &&
     decide (words * wb ≤ bits) && decide (50 ≤ period) &&
     decide (field v 31 16 * 100 + bits * (div + 1) * 5 ≤ period * 1000 - 1000))

/-- Whether a value suits its parameter's layout. -/
def paramLayout (p v : Nat) : Bool :=
  if p < 16 then decide (v < 16)
  else if p < 32 then decide (popCount (field v 23 0) 24 ≤ 8)
  else if p < 40 then portLayout v
  else true

/-- A parameter's value as it is kept: reserved bits stay 0 (R734). -/
def paramKept (p v : Nat) : Nat :=
  if 16 ≤ p ∧ p < 32 then v - field v 53 24 * 2 ^ 24 else if 32 ≤ p ∧ p < 40 then v - field v 60 56 * 2 ^ 56 else v

/-! ### Identification (R611) -/

/-- The software identification. -/
def identify (s : State) : List Byte :=
  Crypto.sha256 (padTo s.sealed.streamHash 32 ++ (List.range 256).flatMap fun p => u64 (sealParam s p).val.toNat)

/-- The identification recomputed, with event 0xC00C where it changes. -/
def reidentify (s : State) : State :=
  let new := identify s
  if new = s.sealed.identification then s
  else event { s with sealed.identification := new } sealSrc 0xC00C (padTo s.sealed.identification 4 ++ new.take 4)

/-! ### Changes (R605, R608, R620) -/

/-- Step 1 of R605. -/
def changeOpen (s : State) : Bool := decide (s.sealed.counter ≠ 0xFFFFFFFF) && decide (s.sealed.audit.length < 65536)

/-- Step 3 of R605: the counter moves at the first change of an opening, and the audit record is stored. -/
def recordChange (s : State) (param level session : Nat) (old new : U64) : State :=
  let c := if s.sealed.changed then s.sealed.counter else s.sealed.counter + 1
  let n := s.sealed.audit.length
  let s1 := { s with sealed := { s.sealed with
    flips := if s.sealed.changed then s.sealed.flips else AMap.set 0 s.sealed.flips 0 0, counter := c, changed := true, audit := s.sealed.audit ++ [⟨s.tai, c, param, level, session, old, new⟩] } }
  let s2 := event s1 sealSrc 0xC003 (u16 param ++ u32 c ++ u32 n)
  if n + 1 = 64512 then event s2 sealSrc 0xC00B (u32 (n + 1)) else s2

/-- A change that step 1 refuses is recorded. -/
def changeRefused (s : State) (param : Nat) : State := event s sealSrc 0xC004 (u16 param ++ u32 abStuck)

/-- A parameter changed: store, table and image, then the identification. -/
def setParam (s : State) (who : Requester) (p : Nat) (v : U64) : State :=
  let old := (sealParam s p).val
  let s1 := recordChange s p (levelOf s who) (reqSession who) old v
  let x : Param := ⟨v, ~~~v⟩
  let s2 := { s1 with sealed := { s1.sealed with store := AMap.set {} s1.sealed.store p x, table := AMap.set {} s1.sealed.table p x } }
  writeSealedStatus (reidentify (writeImage s2 p))

/-- SEAL_PARAM_WRITE: parameter, 3 reserved bytes, value, complement. -/
def actSealParam : Action where
  state := fun s _ _ => sealGate s
  value := fun s _ v =>
    firstOf
      [need (natAt v 12 8 = 2 ^ 64 - 1 - natAt v 4 8) abComplement,
       need (changeOpen s) abStuck,
       need (paramLayout (natAt v 0 1) (natAt v 4 8)) abRange]
  apply := fun s who _ v => setParam s who (natAt v 0 1) (BitVec.ofNat 64 (paramKept (natAt v 0 1) (natAt v 4 8)))
  late := fun s v c => if c = abStuck then changeRefused s (natAt v 0 1) else s

/-- SEAL_PARAM_WRITE. -/
def execSealParamWrite (e : Env) (param : Byte) (v c : U64) (s : State) : Res :=
  hostWrite e 0x7024 0 ([param, 0, 0, 0] ++ u64 v.toNat ++ u64 c.toNat) actSealParam s

/-- SEAL_KEY (R612). -/
def actSealKey : Action where
  state := fun s _ _ => sealGate s
  value := fun s who v => firstOf [need (unwrapBy s who v).isSome abRange, need (changeOpen s) abStuck]
  apply := fun s who _ v =>
    let k := (unwrapBy s who v).getD []
    let old := BitVec.ofNat 64 (leNat (checkValue s.sealed.key))
    let s1 := recordChange s 0xFFFE (levelOf s who) (reqSession who) old (BitVec.ofNat 64 (leNat (checkValue k)))
    writeSealedStatus (reidentify { s1 with sealed := { s1.sealed with key := k, flips := AMap.set 0 s1.sealed.flips 3 0 } })
  late := fun s _ c => if c = abStuck then changeRefused s 0xFFFE else s

/-- SEAL_KEY. -/
def execSealKey (e : Env) (wrap : List Byte) (s : State) : Res := hostWrite e 0x7008 0 wrap actSealKey s

/-- SEAL_PROVISION (R599): owner 7's hash, then the wrapped sealed key. It takes effect from the next Start-up with
cause 0 (R598). -/
def actProvision : Action where
  value := fun s who v =>
    firstOf [need (¬ s.sealed.provisioned) abState, need (unwrapBy s who (v.drop 48)).isSome abState, need (s.num 0x6150 1 = 0) abState]
  apply := fun s who _ v =>
    { s with sealed := { s.sealed with provisioned := true, ownerHash := v.take 48, key := (unwrapBy s who (v.drop 48)).getD [] } }

/-- SEAL_PROVISION. -/
def execSealProvision (e : Env) (ownerHash wrap : List Byte) (s : State) : Res :=
  hostWrite e 0x7001 0 (ownerHash ++ wrap) actProvision s

/-! ### Commands (R617) -/

/-- The design's count of commands read. -/
def commandsRead (s : State) : Nat := leNat (panBytes s (bank31 0xE08 + ·) 8)

/-- An inward mailbox, channel c. -/
def actSealCommand (c : Nat) : Action where
  state := fun s _ _ => sealGate s
  value := fun s _ v =>
    let op := natAt v 3 1
    firstOf
      [need (1 ≤ op ∧ op ≤ 4 ∧ bit (sealParam s c).val.toNat (op - 1)) abUndeclared,
       need (s.sealed.commands - commandsRead s < 64) abResources]
  apply := fun s _ _ v =>
    let n := s.sealed.commands
    let s1 := controllerWrite (0xA00 + n % 64 * 16) (u64 s.tai ++ u8 c ++ u8 (natAt v 3 1) ++ zeros 2 ++ u32 (natAt v 0 3)) s
    let s2 := controllerWrite 0xE00 (u64 (n + 1)) { s1 with sealed.commands := n + 1 }
    event s2 sealSrc 0xC005 (u8 c ++ u8 (natAt v 3 1) ++ u32 (natAt v 0 3))
  late := fun s v code => if code = abUndeclared then event s sealSrc 0xC006 (u8 c ++ u8 (natAt v 3 1)) else s

/-- SEAL_COMMAND. -/
def execSealCommand (e : Env) (channel : Fin 16) (v : U32) (s : State) : Res :=
  hostWrite e 0x7010 (0x31 + channel.val) (u32 v.toNat) (actSealCommand channel.val) s

/-! ### The seal (R607, R52) -/

/-- SEAL_N: a level held for its 10 ms filter opens or closes the seal; closing withdraws the sealed right. Without the partition
the pin's level is all there is. -/
def execSealN (opened : Bool) (widthMs : Nat) (s : State) : Res :=
  if widthMs < 10 ∨ s.sealed.isOpen = opened then .next s
  else if ¬ s.sealed.enabled then .next { s with sealed := { s.sealed with isOpen := opened, changed := false } }
  else
    let s1 := { s with sealed := { s.sealed with isOpen := opened, changed := false } }
    let s2 := if opened then s1
      else (List.range 16).foldl (fun s n =>
        if (s.session n).sealedRight then s.setSession n { s.session n with sealedRight := false } else s) s1
    .next (writeSealedStatus (event s2 sealSrc 0xC002 (u8 (b2n opened))))

/-! ### The image (R603, R606, R614) -/

/-- The area of the record store whose complement fails (R600): 0 the parameters, 1 the counter, 2 the audit trail, 3 the stream
hash, 4 the key. -/
def storeArea (s : State) : Option Nat :=
  if (List.range 256).any fun p => !paramOk (storeParam s p) then some 0
  else (List.range 4).findSome? fun a => if AMap.get 0 s.sealed.flips a = 0 then none else some (a + 1)

/-- What the comparison does with a complement fault in the record store: the fault is held, and event 0xC00A is recorded. -/
def storeCheck (s : State) : State :=
  match storeArea s with
  | none => s
  | some a =>
    if s.sealed.storeFault then s
    else writeSealedStatus (event { s with sealed := { s.sealed with storeFault := true, faults := s.sealed.faults ||| 5 } } sealSrc 0xC00A (u8 a))

/-- Whether a parameter is as it should be in the working table and in the image. -/
def imageOk (s : State) (p : Nat) : Bool :=
  paramOk (sealParam s p) && decide (panBytes s (bank31 (8 * p) + ·) 8 = u64 (sealParam s p).val.toNat)

/-- A fault of a parameter in the working table or in the image: SEAL_STATE.fault, the table reloaded from the record store, the
image rewritten, event 0xC008. -/
def tableFault (s : State) (p : Nat) : State :=
  let s1 := writeImages { s with sealed := { s.sealed with table := s.sealed.store, faults := s.sealed.faults ||| 1 } }
  event (writeSealedStatus s1) sealSrc 0xC008 (u8 p)

/-- The first comparison that finds nothing wrong ends a fault that the record store does not hold (log entry 84). -/
def faultOver (s : State) : State :=
  if s.sealed.storeFault ∨ ¬ bit s.sealed.faults 0 then s
  else writeSealedStatus { s with sealed.faults := s.sealed.faults &&& 6 }

/-- Whether the controller writes an offset of bank 31, beside the parameter image (R614). -/
def controllerOnly (o : Nat) : Bool :=
  decide (0x980 ≤ o ∧ o < 0x988) || decide (0xA00 ≤ o ∧ o < 0xE08) || decide (0xE10 ≤ o ∧ o < 0xE50) || decide (0x1000 ≤ o ∧ o < 0x11000)

/-- The offsets of bank 31 at which something may stand: what the controller wrote, what the bank holds, what the shadow serves. -/
def heldOffsets (s : State) : List Nat :=
  let t := s.pan.test31
  s.sealed.image.map (·.1) ++ (s.pan.mem.filter fun c => decide (bank31 0 ≤ c.1)).map (·.1 - bank31 0) ++
    (if t.failed ∨ t.testing then (List.range 512).map (t.region * 512 + ·) else [])

/-- The controller's offsets, beside the parameter image, at which the bank differs from what it wrote there. -/
def overwritten (s : State) : List Nat :=
  (heldOffsets s).filter fun o => controllerOnly o && decide (panByte s (bank31 o) ≠ Memory.byte s.sealed.image o)

/-- What was written over in the controller's areas undone (R614). -/
def undoWrites (s : State) : State :=
  (overwritten s).foldl (fun s o => panPut s (bank31 o) (Memory.byte s.sealed.image o)) s

/-- PARAMETER_IMAGE_CHECK. -/
def execParameterImageCheck (s : State) : Res :=
  if ¬ s.sealed.enabled then .next s
  else
    let s0 := storeCheck s
    let s1 := undoWrites s0
    match (List.range 256).find? fun p => !imageOk s0 p with
    | none => .next (if overwritten s0 = [] then faultOver s1 else event (faultOver s1) sealSrc 0xC008 (u8 0xFF))
    | some p => .next (tableFault s1 p)

/-! ### Sample ports (R618, R619) -/

/-- Sample port p. -/
def samplePort (s : State) (p : Nat) : SamplePort := AMap.get {} s.sealed.ports p
/-- Sample port p changed. -/
def updPort (s : State) (p : Nat) (f : SamplePort → SamplePort) : State :=
  { s with sealed.ports := AMap.upd {} s.sealed.ports p f }
/-- The parameter of sample port p. -/
def portParam (s : State) (p : Nat) : Nat := (sealParam s (32 + p)).val.toNat

/-- Whether the modes let the sample ports run (R621). -/
def portsRun (s : State) : Bool :=
  s.sealed.enabled &&
    (match s.mode with
     | .run => true
     | .hold => true
     | .stable => true
     | .startUp => s.boot.writesEnabled
     | _ => false)

/-- Whether sample port p runs. -/
def portOn (s : State) (p : Nat) : Bool := portsRun s && bit (portParam s p) 63

/-- SEAL_LSP's state of port p: 0 off, 1 running, 2 stopped. -/
def portState (s : State) (p : Nat) : Nat := if ¬ bit (portParam s p) 63 then 0 else if portsRun s then 1 else 2

/-- SAMPLE_SYNC: a multiple of a port's period has come; its sync output rises. -/
def execSampleSync (p : Fin 8) (s : State) : Res :=
  let n := p.val
  let per := field (portParam s n) 15 0 * 1000
  let t := s.tai / per * per
  if ¬ portOn s n ∨ t ≤ (samplePort s n).syncAt then .next s
  else .next ((updPort s n fun x => { x with syncAt := t, due := some t }).emit (.sampleSync n t))

/-- The word that bits spell, first bit most significant. -/
def msbWord (bits : List Bool) : Nat := bitsNat bits.reverse

/-- A word record appended to a port's ring, and then counted. -/
def appendSample (s : State) (p t w flags raw : Nat) : State :=
  let n := (samplePort s p).written
  let s1 := controllerWrite (0x1000 + 0x2000 * p + n % 512 * 16) (u64 t ++ u8 p ++ u8 w ++ u8 flags ++ zeros 1 ++ u32 raw) s
  controllerWrite (0xE10 + 8 * p) (u64 (n + 1)) (updPort s1 p fun x => { x with written := n + 1 })

/-- SAMPLE_FRAME: the frame of the last sync has been clocked in; its words are appended. -/
def execSampleFrame (p : Fin 8) (bits : List Bool) (s : State) : Res :=
  let n := p.val
  let v := portParam s n
  match (samplePort s n).due with
  | none => .next s
  | some t =>
    let len := field v 47 40
    if ¬ portOn s n ∨ bits.length ≠ len ∨ s.tai < t + field v 31 16 * 100 + len * (field v 55 48 + 1) * 5 then .next s
    else
      let stuck := bits.all (· = true) || bits.all (· = false)
      let s1 := updPort s n fun x => { x with due := none, faults := if stuck then satInc x.faults 0xFFFF else x.faults }
      let s2 := if stuck then event s1 (portSrc n) 0xC007 (u8 n ++ u64 t) else s1
      let wb := field v 37 32
      .next ((List.range (field v 39 38 + 1)).foldl (fun s w =>
        appendSample s n t w (b2n stuck) (msbWord ((bits.drop (w * wb)).take wb))) s2)

/-! ### Start-up (R598, R611, R613) -/

/-- The partition at a Start-up with cause 0: enabled once provisioned, its table copied from the record store, its
faults and counts cleared. -/
def sealedStart (s : State) : State :=
  let x := s.sealed
  { s with sealed := { x with enabled := x.provisioned, table := x.store, faults := 0, storeFault := false, statusFault := false,
                              ports := [], commands := 0, image := [], gates := x.store.filterMap fun kv =>
                                if 16 ≤ kv.1 ∧ kv.1 < 32 then some (kv.1, kv.2.val) else none } }

/-- The controller runs from the end of fuse load: the identification is computed, and event 0xC001 recorded. -/
def sealedRun (s : State) : State :=
  if ¬ s.sealed.enabled then s
  else
    let s1 := reidentify s
    event s1 sealSrc 0xC001 (s1.sealed.identification.take 4 ++ u32 s1.sealed.counter)

/-- The image and the status word written once bank 31 is cleared, and what the controller had written before. -/
def sealedImage (s : State) : State := if s.sealed.enabled then writeSealedStatus (writeImages (undoWrites s)) else s

/-- The sealed region at a Start-up with cause 0: slot 31 generated, region 15 enabled and initialised (R500, R613). -/
def sealedRegion (s : State) : State :=
  if ¬ s.sealed.enabled then s
  else
    let k := drawPair s
    let s1 := { s.drew 192 with crypt.slots := AMap.set [] s.crypt.slots 31 k }
    let s2 := s1.updRegion 15 fun x => { x with state := 1, lock := 0, root := 0, rootComp := ~~~(0 : U64), metaLength := 0x930000 }
    initRegion s2 15

/-- H_stream met by the record store at END (R610): equal, taken as a change, or refused. -/
def sealedHash (s : State) (h : List Byte) : State × Bool :=
  if h = s.sealed.streamHash then (s, true)
  else if s.sealed.isOpen ∧ changeOpen s then
    let s1 := recordChange s 0xFFFF 4 0xFF (BitVec.ofNat 64 (natAt s.sealed.streamHash 0 8)) (BitVec.ofNat 64 (natAt h 0 8))
    (writeSealedStatus (reidentify { s1 with sealed := { s1.sealed with streamHash := h, flips := AMap.set 0 s1.sealed.flips 2 0 } }), true)
  else if s.sealed.isOpen then (changeRefused s 0xFFFF, false)
  else (s, false)

end Sys2Proof.Machine
end

