-- ==== Sys2Proof/Machine/Streams.lean ====
section
/-! DEFINITION. Configuration streams (06): rows STREAM_HEADER to OWNER_KEY_WRITE, but for SET_OBJECT_DEFAULT. -/

namespace Sys2Proof.Machine

/-- The source of the loader's events (R307). -/
def loaderSrc : Nat := 0xB000

/-! ### Stake groups of a tower (R655, R666): a copy's key is 4,096 + (tower × 12 + group) × 2 + copy -/

/-- The key of a copy of a tower's group; a cluster's group has the key sector × 64 + cluster. -/
def copyKey (t grp copy : Nat) : Nat := 4096 + (t * 12 + grp) * 2 + copy

/-- Whether a tower's group has failed: both its copies have. -/
def towerGroupFailed (s : State) (t grp : Nat) : Bool :=
  AMap.get false s.test.failedGroup (copyKey t grp 0) && AMap.get false s.test.failedGroup (copyKey t grp 1)

/-- Whether a configuration group that serves a sector has failed. -/
def configFailed (s : State) (g : Nat) : Bool := (List.range 8).any fun k => towerGroupFailed s (towerOf g) k

/-! ### Header fields (R261) -/

/-- The header's flags. -/
def hdrFlags (h : List Byte) : Nat := natAt h 9 1
/-- A start-up stream. -/
def hdrStartup (h : List Byte) : Bool := bit (hdrFlags h) 0
/-- The sealed stream. -/
def hdrSealed (h : List Byte) : Bool := bit (hdrFlags h) 1
/-- The key source: 0 none, 1 eFuse, 2 battery-backed. -/
def hdrKey (h : List Byte) : Nat := natAt h 10 1 % 4
/-- The rolled-key envelope. -/
def hdrRolled (h : List Byte) : Bool := bit (natAt h 10 1) 4
/-- The stream's owner. -/
def hdrOwner (h : List Byte) : Nat := natAt h 11 1
/-- The region's sectors. -/
def hdrSectors (h : List Byte) : Nat := natAt h 12 8
/-- The region's planes. -/
def hdrPlanes (h : List Byte) : Nat := natAt h 20 1
/-- Chunks of the stream. -/
def hdrChunks (h : List Byte) : Nat := natAt h 28 4
/-- Bytes of packet payload. -/
def hdrPayload (h : List Byte) : Nat := natAt h 32 8
/-- The build. -/
def hdrBuild (h : List Byte) : Nat := natAt h 56 8
/-- The magic bytes. -/
def streamMagic : List Byte := [0x5A, 0x43, 0x53, 0x38]

/-- The owner of a global sector; a complement fault leaves none (R276). -/
def ownerOf (s : State) (g : Nat) : Nat := if s.pairOk 0x6150 (g + 1) then s.num 0x6150 (g + 1) else 0xFF

/-- The ownership table compared at its use: an entry that mismatches becomes 0xFF (R46, R276). -/
def useOwners (s : State) : State :=
  (List.range 48).foldl (fun s g => if s.pairOk 0x6150 (g + 1) then s else compEvent (s.putObj 0x6150 (g + 1) [0xFF]) 0x6150 (g + 1)) s

/-- The registered hash of an owner's key; all zero where the owner is unregistered (R274, R275). -/
def ownerHash (s : State) (o : Nat) : List Byte :=
  if o = 0 then padTo s.fuses.owner0 48
  else if o = 7 ∧ s.sealed.enabled then padTo s.sealed.ownerHash 48
  else padTo (s.bytesOf 0x6151 (o + 1)) 48

/-- The device key of a key source, as the loader holds it. -/
def deviceKey (s : State) (k : Nat) : List Byte := if k = 1 then s.fuses.efuseKey else if k = 2 then s.fuses.bbramKey else []

/-- Step 6 of R300. -/
def headerConsistent (s : State) (h : List Byte) : Bool :=
  decide (natAt h 24 4 = 512) && decide (1 ≤ hdrChunks h) && decide (hdrChunks h ≤ 65536) &&
    decide (65536 * (hdrChunks h - 1) < hdrPayload h) && decide (hdrPayload h ≤ 65536 * hdrChunks h) &&
    decide (bytesAt h 21 3 = zeros 3) && decide (bytesAt h 161 255 = zeros 255) && decide (hdrFlags h < 4) &&
    decide (field (natAt h 10 1) 7 5 = 0) && decide (field (natAt h 10 1) 3 2 = 0) && decide (hdrKey h ≠ 3) &&
    decide (hdrOwner h ≤ 7) && decide (hdrSectors h < 2 ^ 48) && !(hdrRolled h && decide (hdrKey h = 0)) &&
    decide ((hdrSealed h = true) = (hdrOwner h = 7 ∧ s.sealed.enabled = true))

/-- Step 7 of R300. -/
def keyAvailable (s : State) (k : Nat) : Bool :=
  match k with
  | 0 => !s.fuses.plainLock
  | 1 => decide (s.fuses.efuseKey ≠ [])
  | 2 => decide (s.fuses.bbramKey ≠ []) && !s.fuses.efuseOnly
  | _ => false

/-- Whether a stream kind is permitted in the present mode (R305, R609). -/
def kindPermitted (s : State) (h : List Byte) : Bool :=
  if hdrStartup h then decide (s.mode = .startUp) else s.runOrHold && !hdrSealed h

/-- Steps 1 to 9 of R300: the status of the first that fails. -/
def headerChecks (s : State) (h : List Byte) : Option Nat :=
  firstOf
    [need (bytesAt h 0 4 = streamMagic) 0x0101, need (natAt h 4 2 = 1) 0x0102, need (natAt h 6 2 = 0x5C08) 0x0103,
     need (natAt h 8 1 = s.chain.position) 0x0104, need (kindPermitted s h) 0x0105, need (headerConsistent s h) 0x0106,
     need (keyAvailable s (hdrKey h)) 0x0107,
     need (bytesAt h 52 4 = (if hdrKey h = 0 then zeros 4 else checkValue (deviceKey s (hdrKey h)))) 0x0108,
     need (ownerHash s (hdrOwner h) ≠ zeros 48 ∧ Crypto.sha384 (bytesAt h 64 97) = ownerHash s (hdrOwner h)) 0x0109]

/-- The signature of step 10 (R262): the public key in SEC1 uncompressed form. -/
def signatureOk (h tags : List Byte) : Bool :=
  decide (bytesAt h 64 1 = [0x04]) &&
    Crypto.ecdsa (beNat (bytesAt h 65 48)) (beNat (bytesAt h 113 48)) (beNat (bytesAt h 416 48)) (beNat (bytesAt h 464 48))
      (Crypto.sha384 (h.take 416 ++ tags))

/-- Step 11 of R300. -/
def regionHeld (s : State) (h : List Byte) : Bool :=
  decide (hdrSectors h ≠ 0) && decide (hdrPlanes h ≠ 0) &&
    ((bitsSet (hdrSectors h) 48).all fun g => decide (ownerOf s g = hdrOwner h)) &&
    (!hdrSealed h || decide (hdrSectors h = 1))

/-! ### Sources -/

/-- Whether the loader reads a stream from a source now (R320, R326, R327, R336, R344). -/
def sourceOpen (s : State) (src : StreamSrc) : Bool :=
  let l := s.loader
  let flash := decide (s.boot.phase = 5) && decide (s.boot.strapBoot = 0)
  match src with
  | .primary => flash && decide (l.dirPrimary ≠ 0) && l.primaryStatus.isNone
  | .alternate =>
    flash && decide (l.dirAlternate ≠ 0) && l.alternateStatus.isNone &&
      (match l.primaryStatus with
       | some st => decide (st ≠ 0) && decide (st ≠ 0x0104)
       | none => false)
  | .sealed =>
    flash && decide (l.dirSealed ≠ 0) && l.sealedStatus.isNone &&
      (match l.primaryStatus with
       | some st => decide (st = 0) || decide (st = 0x0104) || decide (l.dirAlternate = 0) || l.alternateStatus.isSome
       | none => false)
  | .chain => decide (s.boot.phase = 5) && decide (s.boot.strapBoot = 1) && !s.chain.forwardFailed
  | .feed => (decide (s.boot.phase = 5) && decide (s.boot.strapBoot = 2)) || decide (s.boot.phase = 9)
  | .library => l.loading.isSome

/-- What a read of a source finds: the bytes, the end of the source, or bytes yet to come. -/
inductive Sourced where
  | bytes (bs : List Byte)
  | ended
  | waits
  deriving DecidableEq, Repr

/-- n bytes read from a source at an offset of its stream, with the state after the read. The flash is outside the
device: the bytes that follow in it come with the command, fewer where it ends. The chain and the feed give bytes that have arrived; the
library is read from DRAM as initiator 0x40 (R343). -/
def readSource (s : State) (src : StreamSrc) (off n : Nat) (given : List Byte) : State × Sourced :=
  match src with
  | .chain => (s, if n ≤ s.chain.buf.length then .bytes (s.chain.buf.take n) else .waits)
  | .feed => (s, if n ≤ s.loader.feedBuf.length then .bytes (s.loader.feedBuf.take n) else .waits)
  | .library =>
    match s.loader.loading with
    | none => (s, .waits)
    | some e =>
      let x := AMap.get {} s.loader.libDir e
      if x.length < off + n then (s, .ended)
      else
        let r := peek s 0x40 (s.num 0x6120 1 + x.offset + off) n
        (r.1, if r.2.1 = 0 then .bytes r.2.2 else .ended)
  | _ => (s, if n ≤ given.length then .bytes (given.take n) else .ended)

/-- Bytes fed by the host, after what is to be passed over and what goes on to the chain (R327, R285). -/
def takeFeed (s : State) (bs : List Byte) : State :=
  let k := min s.loader.feedSkip bs.length
  let b1 := bs.drop k
  let f := min s.loader.forwardLeft b1.length
  let s1 := if f = 0 then s else chainSend s (b1.take f)
  { s1 with loader.feedSkip := s.loader.feedSkip - k, loader.forwardLeft := s.loader.forwardLeft - f,
            loader.forwarded := s.loader.forwarded + f, loader.feedBuf := s1.loader.feedBuf ++ b1.drop f }

/-- Bytes arrived on the chain, after what is to be passed over. -/
def takeChain (s : State) (bs : List Byte) : State :=
  let k := min s.chain.skip bs.length
  { s with chain := { s.chain with skip := s.chain.skip - k, buf := s.chain.buf ++ bs.drop k } }

/-- n bytes at the front of a source are done with; then fwd bytes fed by the host go on to the chain. -/
def dropSource (s : State) (src : StreamSrc) (n fwd : Nat) : State :=
  match src with
  | .chain => takeChain { s with chain.buf := [], chain.skip := s.chain.skip + n } s.chain.buf
  | .feed =>
    takeFeed { s with loader.feedBuf := [], loader.feedSkip := s.loader.feedSkip + n, loader.forwardLeft := fwd } s.loader.feedBuf
  | _ => s

/-- What the end of a stream means for its source: its status is kept, and a failed primary brings the alternate
(R336, R349). A section for another position is no own section. -/
def noteSource (s : State) (src : StreamSrc) (status : Nat) : State :=
  let s1 := if status = 0x0104 then s else { s with chain.lastOwnStatus := status }
  match src with
  | .primary =>
    let s2 := { s1 with loader.primaryStatus := some status }
    if status ≠ 0 ∧ status ≠ 0x0104 ∧ s.loader.dirAlternate ≠ 0 then event s2 loaderSrc 0x100B (u16 status) else s2
  | .alternate => { s1 with loader.alternateStatus := some status }
  | .sealed => { s1 with loader.sealedStatus := some status }
  | .chain => if status = 0x0104 then s else { s1 with chain.dataSeen := true }
  | .library => { s with loader.loading := none }
  | .feed => s1

/-- CFG_STREAM_RESULT of a stream that ends. -/
def setResult (s : State) (h : List Byte) (status addr packet offset : Nat) : State :=
  { s with loader.result := ⟨status, addr, packet, offset, hdrOwner h, hdrBuild h, s.tai⟩ }

/-- A source whose stream cannot be delimited: the chain forwards nothing more, and bytes fed are dropped (R348). -/
def loseSource (s : State) (src : StreamSrc) : State :=
  match src with
  | .chain => { s with chain := { s.chain with forwardFailed := true, buf := [], skip := 0 } }
  | .feed => { s with loader.feedBuf := [] }
  | _ => s

/-! ### The header (R300 to R302) -/

/-- A section for another chain position, passed on downstream (R302, R321, R348): the chain forwards what it receives as it
arrives; the feed forwards the section's bytes as they are fed; the flash and the library give the whole section. -/
def passSection (s : State) (src : StreamSrc) (h rest : List Byte) : State :=
  let n := 512 + 16 * hdrChunks h + hdrPayload h
  match src with
  | .chain => dropSource s src n 0
  | .feed => dropSource s src 0 n
  | .library =>
    match readSource s src 0 n [] with
    | (s1, .bytes bs) => chainSend s1 bs
    | (s1, _) => s1
  | _ => chainSend s (h ++ rest.take (n - 512))

/-- A stream refused at its header: nothing changes but the record of it; the section is passed over. Status 0x0104 is no
failure: the section is passed on, and no event is recorded. rest is what the flash gives after the header. -/
def refuseHeader (s : State) (src : StreamSrc) (h rest : List Byte) (status : Nat) : State :=
  let s1 := if status = 0x0101 then loseSource s src
    else if status = 0x0104 then passSection s src h rest
    else dropSource s src (512 + 16 * hdrChunks h + hdrPayload h) 0
  let s2 := setResult s1 h status 0 0 0
  let s3 := if status = 0x0104 then s2
    else if status = 0x010B then event s2 loaderSrc 0x1014 (u16 status ++ u8 (hdrOwner h) ++ u32 0)
    else event s2 loaderSrc 0x1012 (u16 status)
  noteSource s3 src status

/-- A header accepted: the stream is in progress, with event 0x1010. -/
def acceptHeader (s : State) (src : StreamSrc) (h tags : List Byte) : State :=
  let s1 := dropSource s src (512 + tags.length) 0
  let st : Stream := { src := src, header := h, tags := tags, key := deviceKey s (hdrKey h), nonce := bytesAt h 40 12 }
  event { s1 with loader.cur := some st } loaderSrc 0x1010
    (u8 (hdrOwner h) ++ u64 (hdrBuild h) ++ leBytes (hdrSectors h) 6 ++ u8 (hdrPlanes h))

/-- STREAM_HEADER: the next stream of a source is checked through steps 1 to 11 of R300. header and tags are what the
flash gives; the other sources hold their own. A library that cannot be read, in a mode that permits no stream, is refused for
the mode (R305). -/
def execStreamHeader (src : StreamSrc) (header tags : List Byte) (s : State) : Res :=
  if s.loader.cur.isSome ∨ ¬ sourceOpen s src then .next s
  else
    match readSource (useOwners s) src 0 512 (padTo header 512) with
    | (s1, .waits) => .next s1
    | (s1, .ended) => .next (refuseHeader s1 src (zeros 512) [] (if s.mode = .startUp ∨ s.runOrHold then 0x0202 else 0x0105))
    | (s1, .bytes h) =>
      match headerChecks s1 h with
      | some st => .next (refuseHeader s1 src h tags st)
      | none =>
        match src with
        | .chain =>
          if s1.chain.buf.length < 512 + 16 * hdrChunks h then .next s1
          else
            let t := (s1.chain.buf.drop 512).take (16 * hdrChunks h)
            .next (if ¬ signatureOk h t then refuseHeader s1 src h t 0x010A
              else if ¬ regionHeld s1 h then refuseHeader s1 src h t 0x010B else acceptHeader s1 src h t)
        | .feed =>
          if s1.loader.feedBuf.length < 512 + 16 * hdrChunks h then .next s1
          else
            let t := (s1.loader.feedBuf.drop 512).take (16 * hdrChunks h)
            .next (if ¬ signatureOk h t then refuseHeader s1 src h t 0x010A
              else if ¬ regionHeld s1 h then refuseHeader s1 src h t 0x010B else acceptHeader s1 src h t)
        | _ =>
          match readSource s1 src 512 (16 * hdrChunks h) tags with
          | (s2, .bytes t) =>
            .next (if ¬ signatureOk h t then refuseHeader s2 src h t 0x010A
              else if ¬ regionHeld s2 h then refuseHeader s2 src h t 0x010B else acceptHeader s2 src h t)
          | (s2, _) => .next (refuseHeader s2 src h [] 0x0202)

/-! ### Ending a stream (R303) -/

/-- A stream leaves the loader: its working keys go with it, and the rest of its section is passed over. -/
def endStream (s : State) (st : Stream) (status addr : Nat) : State :=
  let s1 := setResult { s with loader.cur := none } st.header status addr st.packets st.cursor
  let s2 := dropSource s1 st.src (hdrPayload st.header - st.payload.length) st.forward
  let s3 := if st.follow = [] then s2
    else { chainSend s2 st.follow with loader.forwarded := s2.loader.forwarded + st.follow.length }
  noteSource s3 st.src status

/-- The planes that a stream selected and left loading become invalid (R205). -/
def invalidateLoading (s : State) (st : Stream) : State :=
  st.sel.foldl (fun s kv =>
    if s.planeSt (kv.1 / 8) (kv.1 % 8) = .loading then s.setPlane (kv.1 / 8) (kv.1 % 8) .invalid else s) s

/-- The stream in progress aborts with a status, an offending address, and what more its event carries. -/
def abortWith (s : State) (status addr : Nat) (more : List Byte) : State :=
  match s.loader.cur with
  | none => s
  | some st =>
    let s1 := invalidateLoading s st
    let s2 := if status = 0x0402 ∨ status = 0x0403 then
        event s1 loaderSrc 0x1014 (u16 status ++ u8 (hdrOwner st.header) ++ u32 addr)
      else event s1 loaderSrc 0x1013 (u16 status ++ u32 addr ++ u32 st.packets ++ more)
    endStream s2 st status addr

/-- The stream in progress aborts. -/
def abortStream (s : State) (status addr : Nat) : State := abortWith s status addr []

/-- The stream in progress changed. -/
def updStream (s : State) (f : Stream → Stream) : State := { s with loader.cur := s.loader.cur.map f }

/-! ### Chunks (R263 to R268) -/

/-- The bytes of chunk i. -/
def chunkSize (h : List Byte) (i : Nat) : Nat := min 65536 (hdrPayload h - 65536 * i)

/-- The nonce of chunk i in the native envelope, or as rolled (R263, R267). -/
def chunkNonce (st : Stream) (i : Nat) : List Byte :=
  if hdrRolled st.header then st.nonce
  else st.nonce.take 8 ++ beBytes ((beNat (st.nonce.drop 8) + i) % 2 ^ 32) 4

/-- Whether a chunk's tag verifies (R263, R266). -/
def chunkTagOk (st : Stream) (i : Nat) (c : List Byte) : Bool :=
  let tag := bytesAt st.tags (16 * i) 16
  if hdrKey st.header = 0 then decide (tag = (Crypto.sha384 c).take 16)
  else decide (tag = Crypto.gcmTag st.key (chunkNonce st i) (st.header.take 64 ++ u32 i) c)

/-- A chunk's plaintext. -/
def chunkText (st : Stream) (i : Nat) (c : List Byte) : List Byte :=
  if hdrKey st.header = 0 then c else Crypto.gcmDec st.key (chunkNonce st i) c

/-- The KEY_ROLL packets that begin at or after start, from a packet's offset on: how many end within the payload
verified, and how many do not (R268). -/
def countRolls (payload : List Byte) (start : Nat) : Nat → Nat → Nat × Nat → Nat × Nat
  | 0, _, n => n
  | fuel + 1, c, n =>
    let roll := decide (natAt payload c 1 = 9) && decide (start ≤ c)
    if payload.length ≤ c then n
    else if payload.length < c + 8 then (if roll then (n.1, n.2 + 1) else n)
    else
      let e := c + 8 + natAt payload (c + 4) 4
      countRolls payload start fuel e
        (if roll then (if e ≤ payload.length then (n.1 + 1, n.2) else (n.1, n.2 + 1)) else n)

/-- The key roll rule of a chunk (R268): exactly one KEY_ROLL, whole, in every chunk but the last; none in the last. -/
def rollRule (st : Stream) (i : Nat) (payload : List Byte) : Bool :=
  !hdrRolled st.header ||
    (let n := countRolls payload st.payload.length (payload.length / 8 + 1) st.cursor (0, 0)
     if i + 1 = hdrChunks st.header then decide (n = (0, 0)) else decide (n = (1, 0)))

/-- CHUNK_VERIFIED: the next chunk is read, its tag checked, and its plaintext joins the payload whose packets may act.
In the rolled envelope a chunk waits for the key of the one before it. -/
def execChunkVerified (chunk : List Byte) (s : State) : Res :=
  match s.loader.cur with
  | none => .next s
  | some st =>
    let i := st.chunk
    let n := chunkSize st.header i
    if hdrChunks st.header ≤ i ∨ (hdrRolled st.header ∧ 0 < i ∧ st.rolled.isNone) then .next s
    else
      let st1 := match st.rolled with
        | some k => { st with key := k.1, nonce := k.2, rolled := none }
        | none => st
      match readSource s st.src (512 + 16 * hdrChunks st.header + 65536 * i) n chunk with
      | (s1, .waits) => .next s1
      | (s1, .ended) => .next (abortStream s1 0x0202 0)
      | (s1, .bytes c) =>
        if ¬ chunkTagOk st1 i c then .next (abortStream s1 0x0201 0)
        else
          let text := st.payload ++ chunkText st1 i c
          if ¬ rollRule st1 i text then .next (abortStream s1 0x0203 0)
          else
            let s2 := dropSource { s1 with loader.cur := some { st1 with chunk := i + 1, payload := text } } st.src n 0
            .next (counted s2 0x0000 0x08 0 (text.length / 1024 - st.payload.length / 1024))

/-! ### Packets (R279, R280) -/

/-- The next packet of the stream in progress: opcode, length, and its payload as far as it goes. It is there once its
last byte has verified (R265), or once its header has where the packet would pass the payload's end. -/
def nextPacket (s : State) : Option (Stream × Nat × Nat × List Byte) :=
  match s.loader.cur with
  | none => none
  | some st =>
    if st.payload.length < st.cursor + 8 then none
    else
      let len := natAt st.payload (st.cursor + 4) 4
      let e := st.cursor + 8 + len
      if e ≤ st.payload.length ∨ hdrPayload st.header < e then
        some (st, natAt st.payload st.cursor 1, len, bytesAt st.payload (st.cursor + 8) len)
      else none

/-- Whether a packet's length is that of its opcode and fields (R280). -/
def lengthFits (op len : Nat) (d : List Byte) : Bool :=
  match op with
  | 0x01 => decide (len = 12)
  | 0x02 => decide (8 ≤ len) && (decide (addrType (natAt d 0 4) = 2) || decide (len = 8 + natAt d 4 4 * frameSize (addrType (natAt d 0 4))))
  | 0x03 => decide (12 ≤ len) && decide (len = 12 + natAt d 8 4)
  | 0x04 => decide (8 ≤ len) && decide (len = 8 + 9 * natAt d 6 2)
  | 0x05 => decide (8 ≤ len) && decide (len = 8 + 4 * natAt d 4 4)
  | 0x06 => decide (len = 40)
  | 0x07 => decide (len = 32)
  | 0x08 => decide (len = 4)
  | 0x09 => decide (len = 48)
  | 0x0A => decide (len = 16)
  | 0x0B => decide (12 ≤ len) && decide (len = 12 + (if natAt d 4 1 = 1 then 2 else 1) * natAt d 8 4)
  | 0x0C => decide (12 ≤ len) && decide (len = 12 + 4 * popCount (natAt d 4 8) 64)
  | 0x0D => decide (len = 8)
  | _ => false

/-- Whether a stream kind permits a packet (R280). -/
def permitted (st : Stream) (op : Nat) (d : List Byte) : Bool :=
  let su := hdrStartup st.header
  match op with
  | 0x07 => su
  | 0x09 => hdrRolled st.header
  | 0x0A => su && decide (natAt st.header 8 1 = 0)
  | 0x0B => su || (decide (hdrOwner st.header = 0) && (decide (natAt d 0 2 = 0x6150) || decide (natAt d 0 2 = 0x6151)))
  | 0x0C => su || !bit (natAt d 1 1) 0
  | _ => true

/-- What a packet's own work answers: the state it leaves, and the status, offending address and further event bytes
where it fails. -/
abbrev Acted := State × Option (Nat × Nat × List Byte)

/-- A packet failed. -/
def failed (s : State) (status addr : Nat) : Acted := (s, some (status, addr, []))
/-- A packet done. -/
def done (s : State) : Acted := (s, none)

/-- The cursor passes a packet whose payload has len bytes. -/
def passPacket (s : State) (len : Nat) : State :=
  updStream s fun x => { x with cursor := x.cursor + 8 + len, packets := x.packets + 1, words := 0 }

/-- The next packet, where it is of an opcode, is checked in the order of step 13 and then does its work, after which next_
says where the loader stands. Where it is of another opcode the command has no action. -/
def packetWork (op : Nat) (act : State → Stream → List Byte → Acted) (next_ : State → Nat → State) (s : State) : Res :=
  match nextPacket s with
  | none => .next s
  | some (st, o, len, d) =>
    if o ≠ op then .next s
    else if ¬ lengthFits op len d then .next (abortStream s 0x0302 0)
    else if ¬ permitted st op d then .next (abortStream s 0x0303 0)
    else if hdrPayload st.header < st.cursor + 8 + len then .next (abortStream s 0x0305 0)
    else
      match act (useOwners s) st d with
      | (s1, some (status, addr, more)) => .next (abortWith s1 status addr more)
      | (s1, none) => .next (next_ s1 len)

/-- A packet that one command does whole. -/
def packetRow (op : Nat) (act : State → Stream → List Byte → Acted) (s : State) : Res := packetWork op act passPacket s

/-- UNKNOWN_OPCODE. -/
def execUnknownOpcode (s : State) : Res :=
  match nextPacket s with
  | none => .next s
  | some (_, o, _, _) => .next (if 1 ≤ o ∧ o ≤ 13 then s else abortStream s 0x0301 0)

/-! ### Frames (R287 to R297) -/

/-- Whether a frame address is well formed (R287, R288). -/
def addrOk (a : Nat) : Bool :=
  decide (a % 64 = 0) && decide (field a 26 23 < 12) && decide (addrTile a < tileRange (addrType a)) &&
    (decide (addrType a ≠ 7) || decide (addrCluster a = 0))

/-- The address of the k-th frame after an address, within its sector (R289). -/
def addrStep (a k : Nat) : Nat :=
  let r := tileRange (addrType a)
  let l := addrCluster a * r + addrTile a + k
  a - addrCluster a * 2 ^ 17 - addrTile a * 2 ^ 9 + (l / r) * 2 ^ 17 + (l % r) * 2 ^ 9

/-- The place of a frame in the order of R290. -/
def orderOf (a : Nat) : Nat := (addrType a * 64 + addrCluster a) * 256 + addrTile a

/-- A stream's record of a plane: 0 not selected, 1 selected, 2 marked valid. -/
def selOf (st : Stream) (g p : Nat) : Nat := AMap.get 0 st.sel (g * 8 + p)

/-- The checks that every frame meets first: well formed, in the region, in the ownership table (step 14 of R300). -/
def placeCheck (s : State) (st : Stream) (a : Nat) : Option Nat :=
  firstOf
    [need (addrOk a) 0x0401,
     need (bit (hdrSectors st.header) (addrSector a) ∧ bit (hdrPlanes st.header) (addrPlane a)) 0x0402,
     need (ownerOf s (addrSector a) = hdrOwner st.header) 0x0403]

/-- Whether all of some bytes are zero. -/
def allZero (bs : List Byte) : Bool := bs.all (· = 0)

/-- The checks of a configuration frame (step 14 of R300, R306, R742). -/
def frameCheck (s : State) (st : Stream) (a : Nat) (bs : List Byte) : Option Nat :=
  let g := addrSector a
  let c := addrCluster a
  let v := leNat bs
  firstOf
    [need (addrType a ≠ 1 ∧ addrType a ≠ 2) 0x0401, placeCheck s st a,
     need (selOf st g (addrPlane a) ≠ 0 ∧ s.planeSt g (addrPlane a) = .loading) 0x0404,
     need (¬ configFailed s g) 0x0502,
     need (AMap.get 0 st.order (g * 8 + addrPlane a) ≤ orderOf a) 0x0405,
     need (allZero bs ∨ s.usable g c) 0x0406,
     need (addrType a ≠ 6 ∨ ¬ bit v 0 ∨ ¬ s.portIsDown g c) 0x0408,
     need (¬ (addrType a = 4 ∧ v ≠ 0 ∧ ¬ (1 ≤ field v 7 3 ∧ field v 7 3 ≤ 16)) ∧ ¬ (addrType a = 5 ∧ field v 43 42 = 3)) 0x0409]

/-- A frame written, and its place in the stream's order kept. -/
def putFrame (s : State) (a : Nat) (bs : List Byte) : State :=
  updStream { s with frames := AMap.set [] s.frames a (if allZero bs then [] else bs) } fun st =>
    { st with order := AMap.set 0 st.order (addrSector a * 8 + addrPlane a) (orderOf a + 1) }

/-- Frames written at successive addresses, up to the first that fails. -/
def putFrames (s : State) (a : Nat) : Nat → List (List Byte) → Acted
  | _, [] => done s
  | k, bs :: rest =>
    match s.loader.cur with
    | none => done s
    | some st =>
      match frameCheck s st (addrStep a k) bs with
      | some e => failed s e (addrStep a k)
      | none => putFrames (putFrame s (addrStep a k) bs) a (k + 1) rest

/-- Whether count frames from an address stay within its sector (R289). -/
def withinSector (a count : Nat) : Bool :=
  decide (addrCluster a * tileRange (addrType a) + addrTile a + count ≤ 64 * tileRange (addrType a))

/-- Frames given as bytes, written from an address. -/
def writeFrames (s : State) (a count : Nat) (bs : List Byte) : Acted :=
  if addrType a = 2 ∨ ¬ addrOk a ∨ ¬ withinSector a count then failed s 0x0401 a
  else putFrames s a 0 ((List.range count).map fun k => bytesAt bs (k * frameSize (addrType a)) (frameSize (addrType a)))

/-- WRITE_FRAMES. -/
def execWriteFrames (s : State) : Res := packetRow 0x02 (fun s _ d => writeFrames s (natAt d 0 4) (natAt d 4 4) (d.drop 8)) s

/-- The bytes that zero-run tokens expand to, where they are well formed (R294, R295). -/
def expandRuns : Nat → List Byte → Option (List Byte)
  | _, [] => some []
  | 0, _ => none
  | fuel + 1, c :: rest =>
    if c.toNat < 0x80 then
      if rest.length < c.toNat + 1 then none
      else (expandRuns fuel (rest.drop (c.toNat + 1))).map (rest.take (c.toNat + 1) ++ ·)
    else if c.toNat < 0xFF then (expandRuns fuel rest).map (zeros (c.toNat - 0x7F) ++ ·)
    else if rest.length < 2 ∨ natAt rest 0 2 < 128 then none
    else (expandRuns fuel (rest.drop 2)).map (zeros (natAt rest 0 2) ++ ·)

/-- WRITE_FRAMES_ZR. -/
def execWriteFramesZr (s : State) : Res :=
  packetRow 0x03 (fun s _ d =>
    let a := natAt d 0 4
    match expandRuns d.length (d.drop 12) with
    | none => failed s 0x0306 0
    | some bs =>
      if addrType a ≠ 2 ∧ bs.length ≠ natAt d 4 4 * frameSize (addrType a) then failed s 0x0306 0
      else writeFrames s a (natAt d 4 4) bs) s

/-- Whether a block memory takes the loader's words: directly before the enable-writes step, else through port B while
the sector's active context declares it loadable (R297, R125). -/
def loadable (s : State) (g c u : Nat) : Bool := !s.boot.writesEnabled || bit (s.activeSettings g c u 5) 47

/-- One word into a row of a block memory: directly before the enable-writes step; later through port B, at whose edge the bits
that port A writes at the same instant keep port A's data (R117, R125, R126). -/
def putWord (s : State) (blk w v : Nat) : State :=
  if ¬ s.boot.writesEnabled then setBmRow s blk w (BitVec.ofNat 72 v)
  else
    let s1 := s.opened
    let s2 := setBmRow s1 blk w (mergeRow (bmRow s1 blk w) ((2 ^ 72 - 1) ^^^ maskNow s1 blk w) v)
    { s2 with fab.loadBusy := AMap.set false s2.fab.loadBusy blk true }

/-- Words written into a block memory from a row, up to the first refused (R296, R297). -/
def putWords (s : State) (a : Nat) : Nat → List (List Byte) → Acted
  | _, [] => done s
  | w, bs :: rest =>
    let g := addrSector a
    let c := addrCluster a
    if ¬ allZero bs ∧ ¬ s.usable g c then failed s 0x0406 a
    else if ¬ loadable s g c (addrTile a) then failed s 0x0407 a
    else putWords (putWord s ((g * 64 + c) * 4 + addrTile a) w (leNat bs)) a (w + 1) rest

/-- The checks that a word of a type 2 frame meets (R296, step 14 of R300, R306). -/
def wordCheck (s : State) (st : Stream) (a : Nat) : Option Nat :=
  firstOf
    [need (addrType a = 2) 0x0401, placeCheck s st a, need (selOf st (addrSector a) (addrPlane a) ≠ 0) 0x0404,
     need (¬ configFailed s (addrSector a)) 0x0502]

/-- How many words of its packet one command writes: all that are left before the enable-writes step; one through port B, so that
a switch may land between two of them (R223). -/
def wordsNow (s : State) (left : Nat) : Nat := if s.boot.writesEnabled then min 1 left else left

/-- Words of an INIT_BLOCKMEM written: the packet is passed with its last word. -/
def passWords (s : State) (len : Nat) : State :=
  match s.loader.cur with
  | none => s
  | some st =>
    let left := (len - 8) / 9 - st.words
    if wordsNow s left < left then updStream s fun x => { x with words := x.words + wordsNow s left } else passPacket s len

/-- INIT_BLOCKMEM: the words of the packet in front. -/
def execInitBlockmem (s : State) : Res :=
  packetWork 0x04 (fun s st d =>
    let a := natAt d 0 4
    let first := natAt d 4 2
    let n := natAt d 6 2
    if ¬ (1 ≤ n ∧ n ≤ 512 ∧ first + n ≤ 512) then failed s 0x0307 0
    else
      match wordCheck s st a with
      | some e => failed s e a
      | none =>
        putWords s a (first + st.words)
          ((List.range (wordsNow s (n - st.words))).map fun k => bytesAt d (8 + 9 * (st.words + k)) 9)) passWords s

/-- One frame of initial bits into the shadow bits of its plane (R291). -/
def putShadow (s : State) (a : Nat) (bs : List Byte) : State :=
  let base := ((addrSector a * 64 + addrCluster a) * 256 + addrTile a) * 32
  { s with fab.shadow := (List.range 32).foldl (fun m b => AMap.set false m ((base + b) * 8 + addrPlane a) (bit (leNat bs) b)) s.fab.shadow }

/-- Frames of initial bits, up to the first that fails. -/
def putStates (s : State) (a : Nat) : Nat → List (List Byte) → Acted
  | _, [] => done s
  | k, bs :: rest =>
    match s.loader.cur with
    | none => done s
    | some st =>
      let x := addrStep a k
      match firstOf [placeCheck s st x,
                     need (selOf st (addrSector x) (addrPlane x) ≠ 0 ∧ s.planeSt (addrSector x) (addrPlane x) = .loading) 0x0404,
                     need (¬ configFailed s (addrSector x)) 0x0502,
                     need (allZero bs ∨ s.usable (addrSector x) (addrCluster x)) 0x0406] with
      | some e => failed s e x
      | none => putStates (putShadow s x bs) a (k + 1) rest

/-- INIT_STATE. -/
def execInitState (s : State) : Res :=
  packetRow 0x05 (fun s _ d =>
    let a := natAt d 0 4
    let n := natAt d 4 4
    if addrType a ≠ 1 ∨ ¬ addrOk a ∨ ¬ withinSector a n then failed s 0x0401 a
    else putStates s a 0 ((List.range n).map fun k => bytesAt d (8 + 4 * k) 4)) s

/-! ### SELECT_PLANE (R281, R301) -/

/-- A plane of a sector cleared of its configuration, settings and shadow bits. -/
def clearPlane (s : State) (g p : Nat) : State :=
  { s with frames := s.frames.filter (fun kv => ¬ (addrSector kv.1 = g ∧ addrPlane kv.1 = p))
           fab.shadow := s.fab.shadow.filter fun kv => ¬ (ffSector (kv.1 / 8) = g ∧ kv.1 % 8 = p) }

/-- One named sector's plane selected, or why not. -/
def selectSector (p : Nat) : List Nat → State → Acted
  | [], s => done s
  | g :: rest, s =>
    let s1 := (clearPlane s g p).setPlane g p .loading
    selectSector p rest (updStream s1 fun st => { st with sel := AMap.set 0 st.sel (g * 8 + p) 1 })

/-- The checks of SELECT_PLANE in their order (R301): descriptor and ownership as for frames, then the planes' states, then the
configuration stake groups, each over the named sectors; with the status, the sector at fault. -/
def selectCheck (s : State) (st : Stream) (p : Nat) (gs : List Nat) : Option (Nat × Nat) :=
  let at_ := fun (f : Nat → Option Nat) => gs.findSome? fun g => (f g).map fun e => (e, g)
  (at_ fun g => firstOf
    [need (bit (hdrSectors st.header) g ∧ bit (hdrPlanes st.header) p) 0x0402, need (ownerOf s g = hdrOwner st.header) 0x0403]).or
  ((at_ fun g => need (s.planeSt g p ≠ .active ∧ s.planeSt g p ≠ .staged ∧ s.planeSt g p ≠ .loading) 0x0501).or
    (at_ fun g => need (¬ configFailed s g) 0x0502))

/-- SELECT_PLANE. -/
def execSelectPlane (s : State) : Res :=
  packetRow 0x01 (fun s st d =>
    let p := natAt d 0 1
    let m := natAt d 4 8
    if 7 < p ∨ 2 ^ 48 ≤ m then failed s 0x0307 0
    else
      match selectCheck s st p (maskSectors m) with
      | some (e, g) => failed s e (frameAddr p g 0 0 0)
      | none => selectSector p (maskSectors m) s) s

/-! ### Teams, order, CRC, keys, forwarding -/

/-- The writes of a SET_TEAM, in the order of the team's subindices: subindex, value, action. -/
def teamWrites (t : Nat) (d : List Byte) : List (Nat × List Byte × Action) :=
  [(1, bytesAt d 8 8, actMembers t), (2, bytesAt d 1 1, actTeamSetting t 2), (3, bytesAt d 2 1, actTeamSetting t 3),
   (4, bytesAt d 3 1, actTeamSetting t 4), (5, bytesAt d 4 1, {}), (6, bytesAt d 16 4, {})]

/-- A dictionary write by the loader, paired where the object is rwp (R282, R283). -/
def loaderWrite (s : State) (idx sub : Nat) (v : List Byte) (a : Action) : State × Nat :=
  if isRwp idx sub then dictWrite s .loader true (pairWrite idx sub v (complBytes v)) a
  else dictWrite s .loader false (wholeWrite idx sub v) a

/-- Writes of the loader in order, up to the first refused. -/
def loaderWrites (idx : Nat) : List (Nat × List Byte × Action) → State → State × Nat
  | [], s => (s, 0)
  | (sub, v, a) :: rest, s =>
    let r := loaderWrite s idx sub v a
    if r.2 = 0 then loaderWrites idx rest r.1 else r

/-- The first of a team's objects whose value and complement in a SET_TEAM differ; the reserved bytes belong to none. -/
def teamMismatch (t : Nat) (d : List Byte) : Option Nat :=
  let c := d.drop 20
  ((teamWrites t d).find? fun w =>
    let o := match w.1 with | 1 => (8, 8) | 2 => (1, 1) | 3 => (2, 1) | 4 => (3, 1) | 5 => (4, 1) | _ => (16, 4)
    decide (bytesAt c o.1 o.2 ≠ complBytes (bytesAt d o.1 o.2))).map (·.1)

/-- SET_TEAM (R282): refused whole where any of its writes is. A value that differs from its complement is recorded as a paired
write's is (event 0xD007, R95). -/
def execSetTeam (s : State) : Res :=
  packetRow 0x06 (fun s st d =>
    let t := natAt d 0 1
    let members := natAt d 8 8
    let own := hdrStartup st.header || (maskSectors members).all fun g =>
      bit (hdrSectors st.header) g && decide (ownerOf s g = hdrOwner st.header)
    if 15 < t ∨ ¬ own then failed s 0x0601 0
    else if bytesAt d 20 20 ≠ complBytes (d.take 20) then
      failed (event s (reqSource .loader) 0xD007
        (u8 (reqSession .loader) ++ u16 (0x6210 + t) ++ u8 ((teamMismatch t d).getD 0))) 0x0601 0
    else
      let r := loaderWrites (0x6210 + t) (teamWrites t d) s
      if r.2 = 0 then done r.1 else failed s 0x0601 0) s

/-- The steps that an order names. -/
def orderSteps (v : List Byte) : List Nat := (List.range 4).map fun i => natAt v (8 * i) 1

/-- CFG_STARTUP_ORDER.order (R352). -/
def actStartupOrder : Action where
  state := fun s _ _ => need (¬ (1 ≤ s.boot.progress ∧ s.boot.progress ≤ 3)) abState
  value := fun _ _ v =>
    need (([1, 2, 3, 4].all fun k => (orderSteps v).contains k) ∧ (List.range 4).all fun i => natAt v (8 * i + 4) 4 ≤ 1000000000) abRange
  clean := cleanEntries 8 [1, 2, 3]

/-- SET_STARTUP_ORDER (R332). -/
def execSetStartupOrder (s : State) : Res :=
  packetRow 0x07 (fun s _ d =>
    let r := loaderWrite s 0x6110 1 d actStartupOrder
    if r.2 = 0 then done r.1 else (s, some (0x0602, 0, u32 r.2))) s

/-- CHECK_CRC (R284). -/
def execCheckCrc (s : State) : Res :=
  packetRow 0x08 (fun s st d =>
    if Crypto.crc32c (bytesAt st.payload st.crcFrom (st.cursor - st.crcFrom)) = natAt d 0 4 then
      done (updStream s fun x => { x with crcFrom := x.cursor + 12 })
    else failed s 0x0304 0) s

/-- KEY_ROLL (R267): the key and nonce of the next chunk. -/
def execKeyRoll (s : State) : Res :=
  packetRow 0x09 (fun s _ d => done (updStream s fun x => { x with rolled := some (d.take 32, bytesAt d 32 12) })) s

/-- FORWARD_TO_CHAIN (R285): the bytes after this section's end are to go on to the next position; follow gives them
where the source is the flash. -/
def execForwardToChain (follow : List Byte) (s : State) : Res :=
  packetRow 0x0A (fun s st d =>
    let n := natAt d 0 1
    let len := natAt d 8 8
    if ¬ (1 ≤ n ∧ n ≤ 15) then failed s 0x0307 0
    else if ¬ (s.link false).up then failed s 0x0603 0
    else done (updStream s fun x => if st.src = .feed then { x with forward := len } else { x with follow := follow.take len })) s

/-! ### Marking valid (R299) -/

/-- Whether tap entries are well placed: disjoint, in range, at most 256 (R81). -/
def tapsOk (ts : List (Nat × TapEntry)) : Bool :=
  decide (ts.length ≤ 256) &&
    ts.all fun a => decide (0x2000 ≤ a.2.first) && decide (a.2.first ≤ a.2.last) && decide (a.2.last ≤ 0x5FFF) &&
      ts.all fun b => decide (a.1 = b.1) || decide (a.2.last < b.2.first) || decide (b.2.last < a.2.first)

/-- The taps that plane p of the sectors of a packet would stand among. -/
def tapsAmong (s : State) (p m : Nat) : List (Nat × TapEntry) :=
  ((List.range 48).filter fun g =>
    bit m g || decide (s.planeSt g p = .valid) || decide (s.planeSt g p = .staged) || decide (s.planeSt g p = .active)).flatMap
    fun g => tapsOfPlane s g p

/-- A plane taken to valid with its CRC kept, with event 0x1015, and made the start-up context where asked. -/
def takeValid (s : State) (g p crc : Nat) (startup : Bool) : State :=
  let s1 := { s with planes := AMap.upd {} s.planes (g * 8 + p) fun _ => ⟨.valid, BitVec.ofNat 32 crc⟩ }
  let s2 := event s1 (0x1000 + g) 0x1015 (u8 p ++ u32 crc)
  if startup then { s2 with loader.startCtx := AMap.set 0 s2.loader.startCtx g (p + 1) } else s2

/-- A value joined to a list that does not hold it. -/
def insertNew (l : List Nat) (x : Nat) : List Nat := if l.contains x then l else l ++ [x]

/-- A plane that the sealed stream has marked: 1, or 2 where it is to be the start-up context, which the last one so marked is. -/
def sealedMark (m : AMap Nat) (k : Nat) (startup : Bool) : AMap Nat :=
  if startup then AMap.set 0 (m.map fun kv => (kv.1, 1)) k 2 else AMap.upd 0 m k (max 1)

/-- The steps of R299 on each named sector in turn, with its CRC. -/
def markSectors (p m : Nat) (startup : Bool) : List (Nat × Nat) → State → Acted
  | [], s => done s
  | (g, crc) :: rest, s =>
    match s.loader.cur with
    | none => done s
    | some st =>
      match firstOf
          [need (selOf st g p ≠ 0 ∧ s.planeSt g p = .loading) 0x0404, need (planeCrc s g p = crc) 0x0503,
           need (tapsOk (tapsAmong s p m) ∧ ¬ (s.sealed.enabled ∧ (tapsAmong s p m).any fun x => decide (x.1 < 8))) 0x0504] with
      | some e => failed s e (frameAddr p g 0 0 0)
      | none =>
        let s1 := updStream s fun x => { x with sel := AMap.set 0 x.sel (g * 8 + p) 2, marks := insertNew x.marks (g * 8 + p) }
        let s2 := if hdrSealed st.header ∧ g = 0 then
            updStream s1 fun x => { x with startCtx := sealedMark x.startCtx (g * 8 + p) startup }
          else takeValid s1 g p crc startup
        markSectors p m startup rest s2

/-- MARK_VALID. -/
def execMarkValid (s : State) : Res :=
  packetRow 0x0C (fun s _ d =>
    let p := natAt d 0 1
    let m := natAt d 4 8
    if 7 < p ∨ 2 ^ 48 ≤ m then failed s 0x0307 0
    else
      let gs := maskSectors m
      markSectors p m (bit (natAt d 1 1) 0) (gs.zip ((List.range gs.length).map fun i => natAt d (12 + 4 * i) 4)) s) s

/-! ### END (R286, R610) -/

/-- Whether every usable sector has a valid start-up context (R337). A sector with no usable cluster, or none of its own
towers on, needs none. -/
def contextsReady (s : State) : Bool :=
  (List.range 48).all fun g =>
    let p := AMap.get 0 s.loader.startCtx g
    decide (AMap.get 0 s.test.unusable g = (0 - 1 : BitVec 64)) || (decide (1 ≤ p) && decide (s.planeSt g (p - 1) = .valid))

/-- A phase of Start-up begun. -/
def enterPhase (s : State) (ph : Nat) : State := { s with boot.phase := ph }

/-- CFG_BOOT.image for a stream that completes (subindex 05). -/
def imageOf (src : StreamSrc) (old : Nat) : Nat :=
  match src with
  | .primary => 1
  | .alternate => 2
  | .feed => 3
  | .chain => 4
  | _ => old

/-- A stream complete: event 0x1011; streams fed in phase 9 may let Start-up go on (R338). -/
def completeStream (s : State) (st : Stream) : State :=
  let s1 := event s loaderSrc 0x1011 (u8 (hdrOwner st.header) ++ u64 (hdrBuild st.header) ++ u16 st.marks.length)
  let s2 := endStream { s1 with boot.image := if hdrStartup st.header then imageOf st.src s1.boot.image else s1.boot.image } st 0 0
  if s2.boot.phase = 9 ∧ contextsReady s2 then { enterPhase s2 6 with boot.failReason := 0, board.cfgErr := false } else s2

/-- The sealed stream's planes of global sector 0, held until END, become valid. -/
def takeSealed (s : State) (st : Stream) : State :=
  st.startCtx.foldl (fun s kv => takeValid s (kv.1 / 8) (kv.1 % 8) (planeCrc s (kv.1 / 8) (kv.1 % 8)) (decide (kv.2 = 2))) s

/-- END's own work. -/
def endWork (s : State) (st : Stream) (d : List Byte) : State :=
  if st.cursor + 16 ≠ hdrPayload st.header ∨ natAt d 0 4 ≠ st.packets then abortStream s 0x0305 0
  else if st.sel.any fun kv => decide (kv.2 = 1) then abortStream s 0x0505 0
  else if hdrSealed st.header then
    let r := sealedHash s (Crypto.sha256 st.payload)
    if r.2 then completeStream (takeSealed r.1 st) st else abortStream r.1 0x0606 0
  else completeStream s st

/-- END: the last packet. Where the payload ends without one, the stream aborts (R286). -/
def execEndPacket (s : State) : Res :=
  match s.loader.cur with
  | none => .next s
  | some st =>
    if st.payload.length = hdrPayload st.header ∧ st.payload.length < st.cursor + 8 then .next (abortStream s 0x0305 0)
    else
      match nextPacket s with
      | none => .next s
      | some (st, o, len, d) =>
        if o ≠ 0x0D then .next s
        else if len ≠ 8 then .next (abortStream s 0x0302 0)
        else .next (endWork s st d)

/-! ### Tamper and keys (R269 to R273, R526) -/

/-- Whether VAUX is present (R272): Start-up is past its reset phase, or VAUX has been measured in range. -/
def vauxPresent (s : State) : Bool := decide (1 ≤ s.boot.phase) || decide (1620 ≤ AMap.get 0 s.board.mv 13)

/-- Every key slot cleared, and every enabled confidential or authenticated region locked (R526). -/
def tamperRegions (s : State) : State :=
  let hit := (List.range 16).filter fun r => 1 ≤ regionMode s r ∧ ((s.region r).state = 1 ∨ (s.region r).state = 2)
  let s1 := hit.foldl (fun s r => lockRegion s r 4) { s with crypt.slots := [] }
  event s1 metaSrc 0x6009 (u16 (hit.foldl (fun m r => m + 2 ^ r) 0))

/-- TAMPER_N asserted for a time (R272). -/
def execTamperN (widthNs : Nat) (s : State) : Res :=
  if widthNs < 1000 then .next s
  else
    let s1 := { s with fuses.bbramKey := [], fuses.tamperSeen := true }
    let s2 := tamperRegions (abortStream s1 0x0204 0)
    .next (if vauxPresent s2 then event s2 loaderSrc 0x1016 (u64 s2.tai) else { s2 with fuses.tamperUnreported := true })

/-- Event 0x1017. -/
def keyWritten (s : State) (which : Nat) (key : List Byte) : State := event s loaderSrc 0x1017 (u8 which ++ checkValue key)

/-- CFG_KEYS.efuse_key (R270). -/
def actEfuseKey : Action where
  state := fun s _ _ => need (s.fuses.efuseKey = []) abState
  value := fun s who v => need (unwrapBy s who v).isSome abRange
  apply := fun s who _ v =>
    let k := (unwrapBy s who v).getD []
    keyWritten { s with fuses.efuseKey := k } 1 k

/-- EFUSE_KEY_WRITE. -/
def execEfuseKeyWrite (e : Env) (wrap : List Byte) (s : State) : Res := hostWrite e 0x6160 2 wrap actEfuseKey s

/-- CFG_KEYS.bbram_key. -/
def actBbramKey : Action where
  state := fun s _ _ => need (¬ s.fuses.efuseOnly) abState
  value := fun s who v => need (unwrapBy s who v).isSome abRange
  apply := fun s who _ v =>
    let k := (unwrapBy s who v).getD []
    keyWritten { s with fuses.bbramKey := k, fuses.tamperSeen := false } 2 k

/-- BBRAM_KEY_WRITE. -/
def execBbramKeyWrite (e : Env) (wrap : List Byte) (s : State) : Res := hostWrite e 0x6160 3 wrap actBbramKey s

/-- CFG_KEYS.bbram_erase. -/
def actBbramErase : Action where
  apply := fun s _ _ _ => { s with fuses.bbramKey := [] }

/-- BBRAM_ERASE. -/
def execBbramErase (e : Env) (v : Byte) (s : State) : Res := hostWrite e 0x6160 4 [v] actBbramErase s

/-- CFG_KEYS.fuse_lock (R273). -/
def actFuseLock : Action where
  apply := fun s _ _ v => if leNat v = 1 then { s with fuses.plainLock := true } else { s with fuses.efuseOnly := true }

/-- FUSE_LOCK_PLAIN. -/
def execFuseLockPlain (e : Env) (s : State) : Res := hostWrite e 0x6160 7 [1] actFuseLock s
/-- FUSE_LOCK_EFUSE_ONLY. -/
def execFuseLockEfuseOnly (e : Env) (s : State) : Res := hostWrite e 0x6160 7 [2] actFuseLock s

/-! ### JTAG's gate (R675) and KEY_PROG (R271) -/

/-- The source of test and repair events without an instance. -/
def testSrc : Nat := 0xE000

/-- TEST_JTAG.open compared at its use (R46). -/
def useJtag (s : State) : State := usePair s 0x6C20 1

/-- Whether JTAG is open. -/
def jtagOpen (s : State) : Bool :=
  (!s.boot.porstLow && !s.boot.doneOnce) || decide (s.boot.phase = 9) || (!s.fuses.debugLock && decide (s.num 0x6C20 1 = 1))

/-- An instruction that JTAG does not let act: it acts as BYPASS, and event 0xA00E is recorded where JTAG is closed. -/
def jtagRefused (s : State) : State :=
  let s1 := { s with test.instruction := 0xFF }
  if jtagOpen s then s1 else event s1 testSrc 0xA00E (u8 2)

/-- KEY_PROG: a key whose check value matches is written; the eFuse key once. Its outcome is recorded: event 0x1017, or
event 0xA00E where it is refused. -/
def execKeyProg (battery : Bool) (key check : List Byte) (s : State) : Res :=
  let s := useJtag s
  if ¬ jtagOpen s ∨ s.mode ≠ .startUp then .next (jtagRefused s)
  else
    let s1 := { s with test.instruction := 0x10 }
    if key.length ≠ 32 ∨ checkValue key ≠ check ∨ (¬ battery ∧ s.fuses.efuseKey ≠ []) then .next (event s1 testSrc 0xA00E (u8 2))
    else .next (if battery then keyWritten { s1 with fuses.bbramKey := key, fuses.tamperSeen := false } 2 key
      else keyWritten { s1 with fuses.efuseKey := key } 1 key)

/-! ### Ownership (R275 to R278) -/

/-- Whether a stream in progress has a sector in its region. -/
def streamOnSector (s : State) (g : Nat) : Bool :=
  match s.loader.cur with
  | some st => bit (hdrSectors st.header) g
  | none => false

/-- Whether a stream in progress is an owner's. -/
def streamOf (s : State) (o : Nat) : Bool :=
  match s.loader.cur with
  | some st => decide (hdrOwner st.header = o)
  | none => false

/-- A CFG_OWNERSHIP entry. -/
def actOwnership (g : Nat) : Action where
  state := fun s _ _ => need (¬ streamOnSector s g) abState
  value := fun s _ v => need (¬ s.sealed.enabled ∨ (g ≠ 0 ∧ leNat v ≠ 7)) abRange
  apply := fun s _ old new => event s loaderSrc 0x1018 (u8 g ++ old ++ new)

/-- OWNERSHIP_WRITE. -/
def execOwnershipWrite (e : Env) (sector : Fin 48) (v c : Byte) (s : State) : Res :=
  hostPaired e 0x6150 (sector.val + 1) [v] [c] (actOwnership sector.val) s

/-- A CFG_OWNER_KEY entry of owner o. -/
def actOwnerKey (o : Nat) : Action where
  state := fun s _ _ => firstOf [need (¬ (o = 7 ∧ s.sealed.enabled)) abWriteRo, need (¬ streamOf s o) abState]
  apply := fun s _ _ _ => event s loaderSrc 0x1019 (u8 o)

/-- OWNER_KEY_WRITE. -/
def execOwnerKeyWrite (e : Env) (owner : Fin 8) (hash : List Byte) (s : State) : Res :=
  hostWrite e 0x6151 (owner.val + 1) hash (actOwnerKey owner.val) s

end Sys2Proof.Machine
end

