-- ==== Sys2Proof/Machine/Modes.lean ====
section
/-! DEFINITION. The passages between modes (R623 to R651): what Hold, Stable, Service, Safe Stop and an entry at calibration do
to the other units. The rows of the power and loading chapters call them. -/

namespace Sys2Proof.Machine

/-- The source of mode events (R652). -/
def modeSrc : Nat := 0x0300

/-- The device's mode changes, with event 0x9001 (R624). -/
def setMode (s : State) (m : Mode) (cause : Nat) : State :=
  event { s with power := { s.power with mode := m, entered := s.tai } } modeSrc 0x9001
    (u8 (modeCode s.mode) ++ u8 (modeCode m) ++ u8 cause)

/-! ### Gaits (R640, R641) -/

/-- The gait that a tower is to run at. -/
def wantedGait (s : State) (t : Nat) : Nat :=
  let one := fun t => max (AMap.get {} s.power.gaits t).thermal (s.num 0x6B30 2)
  if s.num 0x6B30 1 = 1 then (List.range 4).foldl (fun m t => max m (one t)) 0 else one t

/-- Every tower brought to its gait, with event 0x9004 at each change (R641). -/
def updateGaits (s : State) : State :=
  let s1 := (List.range 4).foldl (fun s t =>
    let old := s.gaitOf t
    let new := wantedGait s t
    if old = new then s
    else
      event { s with power.gaits := AMap.upd {} s.power.gaits t fun g => { g with now := new } } (0x0310 + t) 0x9004
        (u8 t ++ u8 old ++ u8 new)) s
  regrant { s1 with power.gaitWait := false }

/-- Towers whose throttle threshold is not crossed brought to Gallop, as their floor lets them (R629). -/
def gaitsAtWake (s : State) : State :=
  updateGaits ((List.range 4).foldl (fun s t =>
    if (AMap.get {} s.power.gaits t).crossed then s
    else { s with power.gaits := AMap.upd {} s.power.gaits t fun g => { g with thermal := 0 } }) s)

/-! ### What several entries do -/

/-- A verify, or round, in progress ends, with event 0x5010 (R493). -/
def endVerify (s : State) : State :=
  if ¬ s.ecc.verifyRunning then s
  else
    event { s with ecc := { s.ecc with verifyQ := [], verifyRunning := false, verifyRound := false } } 0x0044 0x5010
      (u32 s.ecc.verifyDone ++ u32 s.ecc.mismatches)

/-- A verify in progress at entry to Stable is abandoned, and a round that waits behind it. -/
def abandonVerify (s : State) : State :=
  let s1 := endVerify s
  if s1.ecc.roundWaits = [] then s1
  else
    event { s1 with ecc := { s1.ecc with roundWaits := [] } } 0x0044 0x5010 (u32 s1.ecc.roundDone ++ u32 s1.ecc.roundMism)

/-- Capture emptied: an armed capture disarmed, its buffers lost. -/
def loseCapture (s : State) : State := { s with cap := { edgeTime := s.cap.edgeTime, missed := s.cap.missed } }

/-- An armed capture disarmed; buffers that are full, or that a copy is filling, kept (R249). -/
def disarmCapture (s : State) : State := if s.cap.state = 1 then loseCapture s else s

/-- Every flip-flop of some sectors saved into its active plane's shadow (R249). -/
def saveFfs (s : State) (gs : List Nat) : State :=
  gs.foldl (fun s g =>
    match s.activePlane g with
    | some p => { s with fab.shadow := saveShadow s.fab.shadow s.fab.ff g p }
    | none => s) s

/-- Every flip-flop of some sectors takes its active plane's shadow bit (R250). -/
def restoreFfs (s : State) (gs : List Nat) : State :=
  gs.foldl (fun s g =>
    match s.activePlane g with
    | some p =>
      { s with fab.ff := restoreFrom s g p s.fab.ff }
    | none => s) s

/-- What the logic die of some sectors holds is lost with its power (R144, R192). -/
def loseSectors (s : State) (gs : List Nat) : State :=
  let f := s.fab
  { s with
    fab := { f with
      ff := f.ff.filter fun kv => !gs.contains (ffSector kv.1)
      hop := f.hop.filter fun kv => !gs.contains (hopSector kv.1)
      seamLaunch := f.seamLaunch.filter fun kv => !(gs.any fun g => seamIn kv.1 g false)
      seamCapture := f.seamCapture.filter fun kv => !(gs.any fun g => seamIn kv.1 g true)
      bmWord := f.bmWord.filter fun kv => !gs.contains (kv.1 / 131072)
      bmRead := f.bmRead.filter fun kv => !gs.contains (kv.1 / 512)
      bmPipe := f.bmPipe.filter fun kv => !gs.contains (kv.1 / 512)
      bmOut := f.bmOut.filter fun kv => !gs.contains (kv.1 / 512)
      bmFlags := f.bmFlags.filter fun kv => !gs.contains (kv.1 / 1024)
      bmPipeFlags := f.bmPipeFlags.filter fun kv => !gs.contains (kv.1 / 512)
      loadBusy := f.loadBusy.filter fun kv => !gs.contains (kv.1 / 256)
      arith := f.arith.filter fun kv => !gs.contains (kv.1 / 512)
      fq := f.fq.filter fun kv => !gs.contains (kv.1 / 256)
      routed := f.routed.filter fun kv => !gs.contains (kv.1 / 32768)
      ports := f.ports.filter fun kv => !gs.contains (kv.1 / 64) }
    edge := {} }

/-- The block counters of some sources lose their values with their domains, their configurations kept (R685). -/
def loseCounters (s : State) (gone : Nat → Bool) : State :=
  { s with obs.counters := (s.obs.counters.map fun kv =>
      if gone (kv.1 / 16) then (kv.1, { kv.2 with value := 0, overflow := false }) else kv).filter fun kv => decide (kv.2 ≠ {}) }

/-- The transactions of some issuers are forgotten: their responses, when they come, are late (R365). -/
def dropOpen (s : State) (which : Pkt → Bool) : State :=
  { s with noc.open_ := s.noc.open_.filter fun p => !which p, noc.late := s.noc.late ++ s.noc.open_.filter which }

/-- The base ports of some sectors stop: what they have outstanding is late, responses held are lost, and the inbound
requests they hold are answered with a status. -/
def dropPorts (s : State) (gs : List Nat) (status : Nat) : State :=
  let mine := fun (p : Pkt) =>
    match p.use with
    | .port g _ => gs.contains g
    | _ => false
  let s1 := dropOpen { s with noc.heldResp := s.noc.heldResp.filter fun p => !mine p } mine
  let held := s1.noc.inbound.filter fun kv => gs.contains (kv.1 / 64)
  held.foldl (fun s kv => kv.2.foldl (fun s p => answer s p status [] 0) s)
    { s1 with noc.inbound := s1.noc.inbound.filter fun kv => !gs.contains (kv.1 / 64) }

/-- Whether a transaction is a mover's, a bank's or a lane's. -/
def ofEngine (p : Pkt) : Bool :=
  match p.use with
  | .moverDesc _ => true
  | .moverRead _ _ => true
  | .moverWrite _ => true
  | .moverDone _ => true
  | .bankDrain _ => true
  | .lanePush _ _ => true
  | _ => false

/-! ### Memories -/

/-- The queued requests of a channel completed (R463). -/
def drainChannel (s : State) (ch : Nat) : State :=
  let c := s.chan ch
  ((c.readQ ++ c.writeQ).foldr bySeq []).foldl (fun s r => serveDram s ch r [] []) s

/-- A bank's refresh debt and neighbour refreshes paid, its table cleared, its row closed. -/
def settleBank (s : State) (key : Nat) : State :=
  let x := s.dbank key
  let s1 := (List.range x.debt).foldl (fun s _ => refreshBank s key) s
  let s2 := x.nref.foldl (fun s _ => neighbourBank s key) s1
  s2.updBank key fun y => { y with table := [], openRow := none, forcedAt := none }

/-- A stack enters self-refresh (R463). -/
def selfRefresh (s : State) (m : Nat) : State :=
  if stackState s m ≠ 2 then s
  else
    let s1 := (List.range 16).foldl (fun s c => drainChannel s (16 * m + c)) s
    let keys := (s1.dram.banks.filter fun kv => decide (kv.1 / 4096 = m)).map (·.1)
    let s2 := keys.foldl settleBank s1
    let s3 := (List.range 16).foldl (fun s c => s.updChan (16 * m + c) fun x => { x with scrubHeld := none, scrubData := [] }) s2
    event { s3 with dram.stack := AMap.set 0 s3.dram.stack m 3 } (stackSrc m) 0x400E (u8 m ++ u8 1)

/-- A stack leaves self-refresh, and its channels retrain (R451, R463). -/
def wakeStack (s : State) (m : Nat) : State :=
  if stackState s m ≠ 3 then s
  else
    event ((List.range 16).foldl (fun s c => beginRetrain s (16 * m + c))
      { s with dram.stack := AMap.set 0 s.dram.stack m 2, dram.refreshFrom := AMap.set 0 s.dram.refreshFrom m s.now })
      (stackSrc m) 0x400E (u8 m ++ u8 0)

/-- Every request that Wale holds is finished: the controllers' reads answered, and those that wait served without being
allocated, or answered with status 7 (R409, R463). -/
def quiesceWale (s : State) : State :=
  let s2 := settleDram (emptyPorts s)
  let s3 := s2.wale.fills.foldl (fun s f =>
    match f.answer with
    | some (st, d) => serveUnallocated s f.slice f.line st d
    | none => s) { s2 with wale.fills := [] }
  let s4 := settleDram s3
  s4.wale.waiting.foldl (fun s r => answer s r.pkt 7 [] 0)
    { s4 with wale := { s4.wale with waiting := [], ports := [], fills := [], backs := [], toDram := [] } }

/-- Wale flushed and every line made invalid, the metadata cache written back after it (R409, R528). -/
def flushStores (s : State) : State :=
  let s1 := flushAll (quiesceWale s) true
  writeBackMeta (8 * (dirtyMeta s1).length + 8) s1

/-! ### Movers, lanes -/

/-- Every mover with a transaction in progress ends in error with status 7 (R389). -/
def failMovers (s : State) : State :=
  (List.range 16).foldl (fun s m =>
    if (s.mover m).state = 1 ∨ (s.mover m).state = 2 then
      moverSettle (updMover s m fun x => { x with outstanding := 0, failed := 7 }) m
    else s) s

/-- The chain lanes go off, to bring up again on the return (R596). -/
def chainLanesOff (s : State) : State :=
  [50, 51].foldl (fun s k =>
    let l := s.lane k
    if l.state = 0 then s
    else (updLane s k fun _ => { codeErrors := l.codeErrors, dropped := l.dropped, again := true }).updLink (decide (k = 50)) fun _ => {}) s

/-- The chain lanes that were on bring up again. -/
def chainLanesOn (s : State) : State := [50, 51].foldl (fun s k => if (s.lane k).again then beginLane s k else s) s

/-! ### Hold (R626) -/

/-- Hold is entered. -/
def enterHold (s : State) : State := event (setMode (s.setStopped true) .hold 0) modeSrc 0x900D (u8 1)

/-- Hold is left to Run: the clocks resume at an alignment boundary, and what was due at an edge of Hold takes its edge anew (R249). -/
def leaveHold (s : State) : State :=
  let s1 := setMode (s.setStopped false) .run 0
  grantAll (event (if s.clkStopped then resumeEdges s1 s.clk.changeAt else s1) modeSrc 0x900D (u8 0))

/-! ### Stable (R627 to R631) -/

/-- The sectors that Stable stops: every sector but the sealed one while the partition is enabled. -/
def stableSectors (s : State) : List Nat := (List.range 48).filter fun g => !s.isSealedSector g

/-- The I/O bank cores go off: the state found is kept for the wake, and what the inputs hold is lost. -/
def banksOff (s : State) : State :=
  (List.range 8).foldl (fun s b =>
    let was := (s.bank b).state
    let s1 := if was = 1 then applySafe s b 3 none else s
    updBank s1 b fun x => { x with before := was, state := 3, inQ := [], outQ := [], draining := none, droppedSince := 0, retryAt := 0 }) s

/-- The I/O bank cores come on: a bank that ran fetches and stamps again (R566). -/
def banksOn (s : State) : State :=
  (List.range 8).foldl (fun s b =>
    if (s.bank b).state ≠ 3 then s
    else
      let was := (s.bank b).before
      let s1 := updBank s b fun x => { x with state := if was = 1 then 2 else was, before := 0 }
      if was = 1 then startBank s1 b else s1) s

/-- The pannier banks 0 to 29 take their states of Stable (R420). -/
def panStable (s : State) : State :=
  let keep := s.num 0x6511 1
  (List.range 30).foldl (fun s b =>
    if bankState s b = 4 then s else setBank s b (if bit keep b then 1 else 2)) s

/-- The pannier banks on return: retained banks come on, the others pass through clearing, and then the windows are
disabled (R419, R420). -/
def panWake (s : State) : State :=
  let lost := (List.range 30).any fun b => decide (bankState s b = 2)
  let s1 := (List.range 30).foldl (fun s b =>
    if bankState s b = 1 then setBank s b 0 else if bankState s b = 2 then setBank s b 3 else s) s
  if lost then (List.range 16).foldl (fun s n => if windowOn s n then s.putObj (0x6520 + n) 1 (u8 0) else s) s1 else s1

/-- Whether a counter's block is in a domain that Stable switches off. -/
def offInStable (s : State) (src : Nat) : Bool :=
  let i := src % 4096
  match src / 4096 with
  | 1 => !s.isSealedSector i
  | 2 => decide (quadrantOf i ≠ 0)
  | 3 => true
  | 4 => decide (i < 30) && !bit (s.num 0x6511 1) i
  | 5 => true
  | 6 => true
  | 7 => true
  | 8 => true
  | _ => false

/-- Stable is entered: the six steps of R627, in order. -/
def enterStable (s : State) : State :=
  let gs := stableSectors s
  let s1 := loseCapture (abandonVerify (cancelAllSwitches (abortStream s 0x0604 0) 2 true))
  let s2 := stopLanes (banksOff s1) true
  let s3 := saveFfs { s2 with clk.stopped := true, clk.changeAt := 0 } gs
  let s4 := failMovers (dropOpen (dropPorts s3 gs 7) ofEngine)
  let s5 := flushStores s4
  let s6 := (List.range 16).foldl (fun s sl => updSlice s sl fun x => { x with off := true, flushing := false, maint := [] })
    { s5 with wale.ways := [], wale.plru := [] }
  let s7 := panStable (selfRefresh (selfRefresh s6 0) 1)
  let s8 := loseCounters (chainLanesOff (loseSectors s7 gs)) (offInStable s7)
  let s9 := { s8 with power.domain := gs.foldl (fun m g => AMap.set 2 m g 0) s8.power.domain, noc.quadrants := 1 }
  setMode (event s9 modeSrc 0x900E (u8 1 ++ u8 0)) .stable 0

/-- Stable is left to Run (R629): source 0 command, 1 WAKE_N, 2 timer. -/
def wake (s : State) (source : Nat) : State :=
  let gs := stableSectors s
  let s1 := { s with power.domain := gs.foldl (fun m g => AMap.set 2 m g 2) s.power.domain
                     noc.quadrants := 15 - s.test.nocDown % 16 }
  let s2 := wakeStack (wakeStack s1 0) 1
  let s3 := panWake ((List.range 16).foldl (fun s sl => updSlice s sl fun x => { x with off := false }) s2)
  let s4 := restoreFfs s3 gs
  let s5 := gaitsAtWake { s4 with clk.stopped := false, clk.changeAt := 0 }
  let s6 := setMode (event s5 modeSrc 0x900E (u8 0 ++ u8 source)) .run 0
  chainLanesOn (resumeLanes (banksOn s6))

/-! ### Service -/

/-- Teams with members freeze for Service (R249). -/
def freezeTeams (s : State) : State :=
  (List.range 16).foldl (fun s t =>
    if (s.team t).goodMembers ≠ 0 ∧ (s.team t).frozen = 0 then s.updTeam t fun x => { x with frozen := 2 } else s) s

/-- Service is entered from Run or Hold, or at the end of calibration (R320, R624). -/
def enterService (s : State) : State :=
  let s1 := cancelAllSwitches (abortStream (applySafeAll s 6) 0x0604 0) 5 true
  let s2 := stopLanes (disarmCapture (freezeTeams { s1 with clk.stopped := true, clk.changeAt := 0 })) false
  setMode s2 .service 0

/-! ### Safe Stop (R645 to R651) -/

/-- The sectors whose logic domains Safe Stop switches off: those of a tower where a fabric sensor reached shutdown. -/
def shutSectors (s : State) : List Nat := (List.range 48).filter fun g => bit s.power.shutTowers (towerOf g)

/-- Safe Stop is entered with a cause: 2 and 3 after an orderly stop, whose fallbacks have had their turn (R646, R647). -/
def enterSafeStop (s : State) (cause : Nat) : State :=
  let orderly := decide (cause = 2) || decide (cause = 3)
  let s1 := { s with power := { s.power with stop := none, lastCause := cause } }
  let s2 := applySafeAll s1 2
  let s3 := cancelAllSwitches (abortStream s2 0x0604 0) 6 (!orderly)
  let s4 := saveFfs { s3 with clk.stopped := true, clk.changeAt := 0 } ((List.range 48).filter s3.sectorOn)
  let gs := shutSectors s4
  let s5 := loseCounters (loseSectors (dropPorts s4 gs 7) gs) fun src => decide (src / 4096 = 1) && gs.contains (src % 4096)
  let s6 := { s5 with power.domain := gs.foldl (fun m g => AMap.set 2 m g 0) s5.power.domain }
  let s7 := if bit s6.power.shutStacks 0 then selfRefresh s6 0 else s6
  let s8 := if bit s7.power.shutStacks 1 then selfRefresh s7 1 else s7
  let s9 := stopLanes (disarmCapture ((List.range 16).foldl stopMover s8)) false
  let s10 := { s9 with board := { s9.board with safeDriven := true, cfgErr := s9.board.cfgErr || decide (cause = 6) }
                       test.testState := if s9.test.testState = 1 then 0 else s9.test.testState }
  setMode s10 .safeStop cause

/-- An immediate cause acts in every mode but Safe Stop (R645). -/
def immediate (s : State) (cause : Nat) : State := if s.mode = .safeStop then s else enterSafeStop s cause

/-! ### Start-up at calibration (R315 to R319, R328 to R331) -/

/-- Every pin at its bank default, every bank stopped with its queues empty (R328). -/
def banksReset (s : State) : State :=
  { s with pins := s.pins.filterMap fun kv =>
             let p : Pin := { changedAt := kv.2.changedAt, recordedAt := kv.2.recordedAt, recordedEdges := kv.2.recordedEdges }
             if p = {} then none else some (kv.1, p)
           banks := s.banks.filterMap fun kv =>
             let x := { kv.2 with state := 0, before := 0, inQ := [], outQ := [], draining := none, droppedSince := 0,
                                  retryAt := 0, drainUntil := none }
             if x = {} then none else some (kv.1, x) }

/-- The start-up flags of a new Start-up. -/
def bootFlags (s : State) (phase cause : Nat) : State :=
  { s with boot := { s.boot with phase := phase, cause := cause, image := 0, failReason := 0, enteredAt := s.now, sysNoted := false,
                                 progress := 0, lastStepAt := s.now, verifying := false, activated := false,
                                 outputsReleased := false, srReleased := false, writesEnabled := false }
           obs.errorReg := s.obs.errorReg &&& 0x7F
           board := { s.board with cfgDone := false, cfgErr := false, safeDriven := false, excursions := 0 } }

/-- What the fabric, the ports, the movers and the engines hold is cleared at the entry (R142, R329, R389). -/
def clearWork (s : State) : State :=
  let all := List.range 48
  let s1 := dropOpen (dropPorts s all 2) ofEngine
  { loseSectors s1 all with
      noc.movers := s1.noc.movers.filterMap fun kv =>
        let m : Mover := { completed := kv.2.completed, copied := kv.2.copied }
        if m = {} then none else some (kv.1, m)
      stage := [], cap := {}, clk.started := false, clk.stopped := false, clk.changeAt := 0
      power.domain := [], power.peakMw := 0, power.stop := none, power.shutTowers := 0, power.shutStacks := 0
      noc.quadrants := 15 - s1.test.nocDown % 16
      test.testState := if s1.test.testState = 1 then 0 else s1.test.testState
      test.portLost := []
      sealed.gates := s1.sealed.table.filterMap fun kv => if 16 ≤ kv.1 ∧ kv.1 < 32 then some (kv.1, kv.2.val) else none }

/-- The stores are put in order before retraining: Wale flushed, the metadata written back and emptied, the stacks that
hold data set to train again, a pseudo-channel that was down with them; parity errors and full remap
tables are noted anew (R453, R464, R481, R528). -/
def retrainStores (s : State) : State :=
  let s1 := flushStores s
  let s2 := { s1 with crypt.cache := [], wale.ways := [], wale.plru := [] }
  let s3 := (List.range 16).foldl (fun s sl => updSlice s sl fun x => { x with off := false, flushing := false, maint := [] }) s2
  let s4 := (List.range 32).foldl (fun s c =>
    s.updChan c fun x => { x with pcDown := 0, caErr := [], caTimes := [], remapFullNoted := false }) s3
  { s4 with dram.stack := s4.dram.stack.map fun kv => (kv.1, 1) }

/-- The bits of CFG_BOOT.straps. -/
def strapBits (s : State) : Nat :=
  s.boot.strapBoot.toNat * 65536 + b2n s.boot.strapBist * 262144 + s.boot.bdef.zipIdx.foldl (fun v x => v + x.1.val * 4 ^ x.2) 0

/-- The service and chain lanes that are off begin their bring-up in the calibration phase (R311, R596). -/
def calLanes (s : State) : State := [48, 49, 50, 51].foldl (fun s k => if (s.lane k).state = 0 then beginLane s k else s) s

/-- Start-up is entered at calibration, with cause 1 or 2 (R315): planes, objects, reservations, remaps and the library stay. -/
def enterCal (s : State) (cause : Nat) : State :=
  let s1 := abortStream s 0x0604 0
  let s2 := stopLanes (cancelAllSwitches s1 7 true) false
  let s3 := resumeTests (clearWork (retrainStores (banksReset s2)))
  let s4 := { s3 with
    loader := { s3.loader with queue := [], loading := none, startCtx := [], primaryStatus := none, alternateStatus := none,
                               sealedStatus := none, feedBuf := [], feedSkip := 0, fed := 0, forwardLeft := 0,
                               forwarded := 0 }
    chain := { s3.chain with goAt := none, goWaitFrom := none, forwardFailed := false, buf := [], skip := 0, dataSeen := false,
                             lastOwnStatus := 0, lastDataAt := s.now, reports := [], reported := [] } }
  let s5 := setMode (bootFlags s4 4 cause) .startUp cause
  event (calLanes s5) loaderSrc 0x1001 (u8 cause ++ u32 (strapBits s))

/-! ### The reset phase (R315, R712, R715) -/

/-- PORST_N asserted, or VAUX below its level: the device is in the reset phase of a Start-up with cause 0. What is outside it
or lasts without supply stays: the queue of commands, what was sent, the free values drawn, the fuses, the sealed record store,
the seal's level, the supplies measured, and the root clock's count. -/
def assertPorst (s : State) : State :=
  let x := s.sealed
  setMode { State.reset with
    pending := s.pending, outs := s.outs, freeCtr := s.freeCtr, fuses := s.fuses
    sealed := { provisioned := x.provisioned, ownerHash := x.ownerHash, key := x.key, store := x.store, counter := x.counter,
                audit := x.audit, streamHash := x.streamHash, isOpen := x.isOpen, changed := x.changed, flips := x.flips }
    clk.roots := s.clk.roots
    board := { mv := s.board.mv, inRangeAt := s.board.inRangeAt }
    boot := { suppliesReached := s.boot.suppliesReached, bdef := s.boot.bdef }
    power.mode := s.power.mode } .startUp 0

end Sys2Proof.Machine
end

