-- ==== Sys2Proof/Machine/Chronicle.lean ====
section
/-! DEFINITION. The chronicle (R697 to R705): the network from the sources, the writer, the runs it coalesces, the ring, gap
records, emergency messages (R89, R90); rows CHRONICLE_RECORD to CHRONICLE_ENABLE. -/

namespace Sys2Proof.Machine

/-- The source of the writer's events (R708). -/
def writerSrc : Nat := 0x0042

/-- The 32 bytes of a record (R697). -/
def recBytes (r : Rec) : List Byte :=
  u64 r.time ++ u16 r.source ++ u16 r.event ++ u16 r.seq ++ u8 (r.severity * 64 + r.source / 4096) ++ u8 r.flags ++ padTo r.payload 16

/-- Whether a Trace record. -/
def isTrace (r : Rec) : Bool := bit r.flags 0

/-! ### Emergency messages (R89, R90) -/

/-- An emergency message to a host: to a session with its next sequence number and MAC (R53, R54), to emcy_dest with session 0xFF and
without (log entry 74). Where the port's link is down it is not sent, and event 0xD010 says so. -/
def sendEmergency (s : State) (h : HostAddr) (sess : Option Nat) (r : Rec) : State :=
  let port := h.transport.val % 2
  let payload := recBytes r
  if ethLink s port = 0 then event s (0xD000 + port) 0xD010 (u8 port ++ u16 r.seq)
  else
    match sess with
    | none => s.sendFrame (.emergency h 0xFF 0x01 0 payload [])
    | some n =>
      let x := s.session n
      let seq := x.txSeq + 1
      let id := BitVec.ofNat 8 n
      (s.setSession n { x with txSeq := seq }).sendFrame (.emergency h id 0x09 seq payload
        (macOf x.ks 0x30 ⟨h, 0, none, 0x445A, 1, id, 0x09, 0, seq, 32, 0, []⟩ payload))

/-- A record sent as an emergency message where its severity asks for it: to each session that subscribed, to emcy_dest on
both ports, and over CAN FD. -/
def emergency (s : State) (r : Rec) : State :=
  if r.severity < s.num 0x1050 2 then s
  else
    let s1 := (List.range 16).foldl (fun s n =>
      let x := s.session n
      if x.phase = .opened ∧ x.subscribed then sendEmergency s x.host (some n) r else s) s
    let d := s1.num 0x1050 1
    let s2 := if d = 0 then s1 else sendEmergency s1 ⟨2, d⟩ none r
    let s3 := if d = 0 ∨ s2.num 0x1080 4 = 1 then s2 else sendEmergency s2 ⟨3, d⟩ none r
    let c := s3.dict.can
    if c.running ∧ c.busState ≠ 3 ∧ s3.num 0x1050 3 = 1 then s3.emit (.canEmergency c.node (recBytes r)) else s3

/-! ### The writer's buffers (R699, R703) -/

/-- Whether a channel-rank that holds lines of the ring is under test. -/
def ringTested (s : State) : Bool :=
  let base := s.num 0x6D60 2
  decide (s.test.testState = 1) && decide (s.test.testKind = 5) &&
    (ranksStored s (s.test.testTarget / 4) (s.test.testTarget % 4)).any fun k =>
      decide (base / rankBytes ≤ k) && decide (k ≤ (base + s.num 0x6D60 3 - 1) / rankBytes)

/-- Whether the ring may be written: enabled, its stacks serve requests, none of its channel-ranks under test (R707). -/
def ringWritable (s : State) : Bool :=
  decide (s.num 0x6D60 1 = 1) && !ringTested s && s.dram.trained && decide (stackState s 0 = 2) && decide (stackState s 1 = 2)

/-- A record the writer loses: a Trace, or another. -/
def writerLoses (s : State) (r : Rec) : State :=
  let c := s.obs.chron
  counted { s with obs.chron := { c with writerLoss := lossMore c.writerLoss (isTrace r) r.time s.now
                                         tracesLost := c.tracesLost + b2n (isTrace r), othersLost := c.othersLost + b2n (!isTrace r) } }
    0x0000 0x05 0 1

/-- A record enters a buffer of the writer: an Alarm or Fatal its own, the others the general buffer, from whose fill of
12,288 to 8,192 Traces are refused. -/
def bufferTake (s : State) (r : Rec) : State :=
  let c := s.obs.chron
  if 2 ≤ r.severity then
    if c.alarms.length < 4096 then { s with obs.chron.alarms := c.alarms ++ [r] }
    else
      counted { s with obs.chron := { c with alarmLoss := lossMore c.alarmLoss false r.time s.now, othersLost := c.othersLost + 1 } }
        0x0000 0x05 0 1
  else if isTrace r ∧ (c.tracesRefused ∨ 12288 ≤ c.general.length) then
    writerLoses { s with obs.chron.tracesRefused := true } r
  else { s with obs.chron.general := c.general ++ [(s.now, r)] }

/-- A record written, and sent as an emergency message. -/
def writeRecord (s : State) (r : Rec) : State := emergency (bufferTake s r) r

/-! ### Coalescing (R702) -/

/-- The coalesce window in ns. -/
def coalesceNs (s : State) : Nat := s.num 0x6D60 5 * 1000

/-- Whether a record is identical to a run's first. -/
def sameRun (x : Run) (r : Rec) : Bool :=
  decide (x.first.source = r.source) && decide (x.first.event = r.event) && decide (x.first.payload.take 12 = r.payload.take 12)

/-- The summary of a run, where it counted any. -/
def summarise (s : State) (x : Run) : State :=
  if x.count = 0 then s
  else writeRecord s { x.last with flags := x.first.flags ||| 2, payload := padTo (x.first.payload.take 12) 12 ++ u32 x.count }

/-- Whether the writer has no place for n more records like one: the general buffer full, or the alarm buffer full while the ring
can be written. -/
def writerFull (s : State) (r : Rec) (n : Nat) : Bool :=
  let c := s.obs.chron
  if 2 ≤ r.severity then decide (4096 < c.alarms.length + n) && ringWritable s
  else decide (16384 < c.general.length + n) && !isTrace r

/-- A coalesced record at the writer: counted into its run, or the first of a new one; the 65th run closes the oldest. -/
def coalesce (s : State) (r : Rec) : State :=
  let rs := s.obs.chron.runs
  match indexOf? (sameRun · r) rs with
  | some i =>
    let x := rs.getD i default
    if ¬ s.elapsed x.at_ (coalesceNs s) then
      { s with obs.chron.runs := setAt rs i { x with last := r, count := satInc x.count maxU32 } }
    else
      let s1 := summarise { s with obs.chron.runs := delAt rs i } x
      writeRecord { s1 with obs.chron.runs := s1.obs.chron.runs ++ [⟨r, r, 0, s.now⟩] } r
  | none =>
    let s1 := match rs with
      | x :: rest => if 64 ≤ rs.length then summarise { s with obs.chron.runs := rest } x else s
      | [] => s
    writeRecord { s1 with obs.chron.runs := s1.obs.chron.runs ++ [⟨r, r, 0, s.now⟩] } r

/-- A record reaches the writer. -/
def writerAccept (s : State) (r : Rec) : State :=
  let s1 := counted s 0x0000 0x04 0 1
  if coalescedCodes.contains r.event ∧ ¬ bit r.flags 2 then coalesce s1 r else writeRecord s1 r

/-- Whether a record has to wait at its source: it, and the summary of a run that it closes, find no place at the writer. -/
def mustWait (s : State) (r : Rec) : Bool :=
  if coalescedCodes.contains r.event ∧ ¬ bit r.flags 2 then
    let rs := s.obs.chron.runs
    match indexOf? (sameRun · r) rs with
    | some i =>
      let x := rs.getD i default
      s.elapsed x.at_ (coalesceNs s) && writerFull s r (if x.count = 0 then 1 else 2)
    | none =>
      match rs with
      | x :: _ => if 64 ≤ rs.length ∧ x.count ≠ 0 then writerFull s x.last 1 || writerFull s r 2 else writerFull s r 1
      | [] => writerFull s r 1
  else writerFull s r 1

/-- COALESCE_WINDOW_END: each run whose window has ended is closed with its summary, once the writer has a place for it. -/
def execCoalesceWindowEnd (s : State) : Res :=
  .next ((s.obs.chron.runs.filter fun x => s.elapsed x.at_ (coalesceNs s)).foldl (fun s x =>
    if x.count ≠ 0 ∧ writerFull s x.last 1 then s
    else summarise { s with obs.chron.runs := s.obs.chron.runs.erase x } x) s)

/-! ### The chronicle network (R699) -/

/-- Which held record the network carries next: the first Alarm or Fatal, else the first of the next source in turn. -/
def nextRecord (s : State) : Option Nat :=
  let q := s.obs.chron.srcQ
  match indexOf? (fun r => decide (2 ≤ r.severity)) q with
  | some i => some i
  | none =>
    let later := (q.map Rec.source).filter fun n => decide (s.obs.chron.rr < n)
    let least := fun (ns : List Nat) => ns.foldl (fun m n => match m with
      | none => some n
      | some k => some (min k n)) none
    match (least later).or (least (q.map Rec.source)) with
    | none => none
    | some n => indexOf? (fun r => decide (r.source = n)) q

/-- The i-th held record carried to the writer. -/
def carry (s : State) (i : Nat) : State :=
  match s.obs.chron.srcQ[i]? with
  | none => s
  | some r =>
    let s1 := { s with obs.chron.srcQ := delAt s.obs.chron.srcQ i, obs.chron.rr := if r.severity < 2 then r.source else s.obs.chron.rr }
    writerAccept s1 r

/-- CHRONICLE_RECORD: the network carries one record to the writer. -/
def execChronicleRecord (s : State) : Res :=
  match nextRecord s with
  | none => .next s
  | some i =>
    match s.obs.chron.srcQ[i]? with
    | none => .next s
    | some r => .next (if mustWait s r then s else carry s i)

/-- The true order of two records (R705): by time, by source, by sequence within one source. -/
def recBefore (a b : Rec) : Bool :=
  if a.time ≠ b.time then decide (a.time < b.time)
  else if a.source ≠ b.source then decide (a.source < b.source)
  else
    let d := (b.seq + 65536 - a.seq % 65536) % 65536
    decide (0 < d) && decide (d < 32768)

/-! ### The ring (R700) -/

/-- How many records of 32 bytes the ring holds. -/
def ringRecords (s : State) : Nat := s.num 0x6D60 3 / 32

/-- The address of record number i. -/
def ringAddr (s : State) (i : Nat) : Nat := s.num 0x6D60 2 + 32 * (i % ringRecords s)

/-- A packet of records written at the ring's position; a status other than 0 loses its slots, with event 0x5004 (R473). -/
def writePacket (s : State) (rs : List Rec) (status : Nat) : State :=
  let c := s.obs.chron
  let i := c.written
  let a := ringAddr s i
  let w := if status = 0 then pokeAll s 0x42 a (rs.flatMap recBytes) else (s, status)
  let n := i + rs.length
  let s1 := { w.1 with obs.chron := { w.1.obs.chron with
    written := n, wraps := if i / ringRecords s = n / ringRecords s then c.wraps else satInc c.wraps maxU32 } }
  if w.2 = 0 then s1 else event s1 0x0044 0x5004 (u8 0x42 ++ u64 a ++ u8 w.2)

/-- The general buffer after n records have left it: below 8,192 Traces are admitted again. -/
def generalLess (s : State) (n : Nat) : State :=
  let g := s.obs.chron.general.drop n
  { s with obs.chron.general := g, obs.chron.tracesRefused := s.obs.chron.tracesRefused && decide (8192 ≤ g.length) }

/-- One packet of the writer: the alarm buffer first, up to 8 records within one step of 256 bytes; whole says that a partial
packet of the general buffer is due as well. -/
def onePacket (s : State) (whole : Bool) (status : Nat) : State :=
  let c := s.obs.chron
  let room := 8 - c.written % 8
  if c.alarms ≠ [] then writePacket { s with obs.chron.alarms := c.alarms.drop room } (c.alarms.take room) status
  else if room ≤ c.general.length ∨ (whole ∧ c.general ≠ []) then
    writePacket (generalLess s room) ((c.general.take room).map (·.2)) status
  else s

/-- RING_PACKET_WRITE: the next packet of the writer, answered with a status. -/
def execRingPacketWrite (status : Fin 8) (s : State) : Res :=
  if ¬ ringWritable s then .next s
  else
    let due := match s.obs.chron.general with
      | [] => false
      | (t, _) :: _ => s.elapsed t 100000
    .next (onePacket s due status.val)

/-- The records held at the sources carried to the writer, which writes packets where it has no place, while the ring can be
written. -/
def carryAll : Nat → State → State
  | 0, s => s
  | n + 1, s =>
    match nextRecord s with
    | none => s
    | some i =>
      if (s.obs.chron.srcQ[i]?).any (mustWait s) then (if ringWritable s then carryAll n (onePacket s true 0) else s)
      else carryAll n (carry s i)

/-- Every record of the buffers written to the ring. -/
def writeAll : Nat → State → State
  | 0, s => s
  | n + 1, s => if s.obs.chron.alarms = [] ∧ s.obs.chron.general = [] then s else writeAll n (onePacket s true 0)

/-- The chronicle flushed: every buffered record is written, while the ring can be (R644). -/
def flushChronicle (s : State) : State :=
  let s1 := carryAll (2 * s.obs.chron.srcQ.length) s
  if ringWritable s1 then writeAll (s1.obs.chron.alarms.length + s1.obs.chron.general.length) s1 else s1

/-! ### Gap records (R703) -/

/-- The payload of a gap record. -/
def lossPayload (l : Loss) : List Byte := u64 l.first ++ u32 l.traces ++ u16 l.others ++ u16 0

/-- GAP_RECORD: a source that has lost records reports them in the first place that frees; the writer its Traces once they are
admitted again, and its Alarms once the ring can be written. -/
def execGapRecord (source : BitVec 16) (s : State) : Res :=
  let n := source.toNat
  let c := s.obs.chron
  if n = writerSrc ∧ ringWritable s ∧ c.alarmLoss.isSome then
    .next (recordAt { s with obs.chron.alarmLoss := none } ((c.alarmLoss.map (·.last)).getD 0) writerSrc 0xB003 2 4
      ((c.alarmLoss.map lossPayload).getD []))
  else if n = writerSrc ∧ ¬ c.tracesRefused ∧ heldAt s n < 6 ∧ c.writerLoss.isSome then
    .next (recordAt { s with obs.chron.writerLoss := none } ((c.writerLoss.map (·.last)).getD 0) writerSrc 0xB001 1 4
      ((c.writerLoss.map lossPayload).getD []))
  else
    match AMap.get none c.loss n with
    | none => .next s
    | some l =>
      if heldAt s n < 6 ∧ (s.elapsed l.lastAt 1000 ∨ s.elapsed l.firstAt 10000) then
        .next (recordAt { s with obs.chron.loss := AMap.set none c.loss n none } l.last n 0xB001 1 4 (lossPayload l))
      else .next s

/-! ### Host commands (R701, 0x6D60) -/

/-- OBS_CHRON_CMD.ack. -/
def actAck : Action where
  state := fun s _ _ => need (s.mode ≠ .safeStop) abState
  value := fun _ _ v => need (leNat v = 1) abRange
  apply := fun s who _ _ =>
    event { s with board.alarm := false, obs.errorReg := s.obs.errorReg &&& 0xBE } writerSrc 0xB016 (u8 (reqSession who))

/-- ACK_ALARM. -/
def execAckAlarm (e : Env) (s : State) : Res := hostWrite e 0x6D62 0 [1] actAck s

/-- OBS_CHRON_CFG.enable: enabling starts the ring at record number 0. -/
def actChronEnable : Action where
  apply := fun s _ old new =>
    if old = new then s
    else
      let s1 := if leNat new = 1 then { s with obs.chron.written := 0, obs.chron.wraps := 0 } else s
      event s1 writerSrc 0xB004 (u64 (s.num 0x6D60 2) ++ u64 (s.num 0x6D60 3))

/-- CHRONICLE_ENABLE. -/
def execChronicleEnable (e : Env) (v : Byte) (s : State) : Res := hostWrite e 0x6D60 1 [v] actChronEnable s

/-- OBS_CHRON_CFG.ring_base and ring_size: written only while the ring is off. -/
def actRingPlace (base : Bool) : Action where
  state := fun s _ _ => need (s.num 0x6D60 1 = 0) abState
  value := fun s _ v =>
    let n := leNat v
    if base then need (n % 65536 = 0 ∧ n < capacity s) abRange else need (n % 65536 = 0 ∧ 65536 ≤ n ∧ n ≤ 2 ^ 32) abRange

end Sys2Proof.Machine
end

