-- ==== Sys2Proof/Machine/Power.lean ====
section
/-! DEFINITION. Modes, power and heat (16) and the supplies (19): rows MODE_RUN to AUTO_RESUME. Temperatures are in units of
1/64 degree. -/

namespace Sys2Proof.Machine

/-! ### Sensors (R632 to R636) -/

/-- Sensor n. -/
def State.sensor (s : State) (n : Nat) : Sensor := AMap.get {} s.power.sensors n
/-- Sensor n changed. -/
def updSensor (s : State) (n : Nat) (f : Sensor → Sensor) : State := { s with power.sensors := AMap.upd {} s.power.sensors n f }
/-- The source of a sensor's events (R652). -/
def sensorSrc (n : Nat) : Nat := 0x9000 + n
/-- A temperature in two bytes. -/
def t16 (t : Int) : List Byte := u16 (twos t 2)

/-- The neighbour set of a sensor. -/
def neighbours (n : Nat) : List Nat :=
  (if n < 192 then (List.range 4).map fun k => n / 4 * 4 + k
   else if n < 240 then
     let g := n - 192
     ((List.range 12).filter fun k =>
       let c := g % 12
       decide (k % 4 ≤ c % 4 + 1) && decide (c % 4 ≤ k % 4 + 1) && decide (k / 4 ≤ c / 4 + 1) && decide (c / 4 ≤ k / 4 + 1)).map
         fun k => 192 + g / 12 * 12 + k
   else if n < 272 then (List.range 8).map fun k => 240 + (n - 240) / 8 * 8 + k
   else (List.range 8).map fun k => 272 + (n - 272) / 8 * 8 + k).filter fun m => decide (m ≠ n)

/-- Whether a sensor gives no reading: it failed its test, or the domain of its logic sector is off (R630). -/
def sensorOff (s : State) (n : Nat) : Bool := (s.sensor n).held || (decide (n < 192) && !s.sectorOn (n / 4))

/-- Whether a sensor is usable: neither excluded nor unpowered. -/
def sensorUsable (s : State) (n : Nat) : Bool := !(s.sensor n).excluded && !sensorOff s n

/-- What a sensor itself reads: its raw value after its offset. -/
def ownReading (s : State) (n : Nat) : Int := (s.sensor n).raw + (s.sensor n).offset

/-- The readings of a sensor's usable neighbours. -/
def usableReadings (s : State) (n : Nat) : List Int := ((neighbours n).filter (sensorUsable s)).map (ownReading s)

/-- The setting of THERM_THRESH in use, in the sensors' units. -/
def threshold (s : State) (sub : Nat) : Int := (s.setting 0x6B20 sub : Int) * 64
/-- Whether a sensor is of the DRAM class. -/
def isDramSensor (n : Nat) : Bool := decide (272 ≤ n)
/-- Level k of a sensor's class: 0 warning, 1 throttle, 2 shutdown. -/
def classLevel (s : State) (n k : Nat) : Int := threshold s (k + (if isDramSensor n then 4 else 1))
/-- The hysteresis of a sensor's class. -/
def classHyst (s : State) (n : Nat) : Int := threshold s (if isDramSensor n then 8 else 7)

/-- The reading of a sensor after R633 and R634: its own; the median of its neighbours where it is excluded; the highest of
them where fewer than 3 are usable, and the throttle threshold where none is. -/
def readingOf (s : State) (n : Nat) : Int :=
  let x := s.sensor n
  if ¬ x.excluded then ownReading s n
  else
    let rs := usableReadings s n
    if 3 ≤ rs.length then medianInt rs
    else match rs with
      | [] => classLevel s n 1
      | r :: more => more.foldl max r

/-- The mean of readings. -/
def meanOf (s : State) (ns : List Nat) : Int := (ns.map fun n => (s.sensor n).reading).foldl (· + ·) 0 / ns.length

/-- The estimate of a middle-layer sensor (R635), from the readings on either side and the power between them; none where a side
gives no reading. -/
def estimateOf (s : State) (n : Nat) : Option Int :=
  if 192 ≤ n ∧ n < 240 then
    let g := n - 192
    let t := g / 12
    let c := g % 4
    let r := g % 12 / 4
    let above := meanOf s ((List.range 4).map fun k => 4 * g + k)
    let below := meanOf s (if r = 0 then [240 + 8 * t + c] else if r = 1 then [240 + 8 * t + c, 244 + 8 * t + c] else [244 + 8 * t + c])
    if s.sectorOn g then some ((above + below) / 2 + AMap.get 0 s.power.powerMw (48 + g) * 256 / 1000) else none
  else if 272 ≤ n ∧ 1 ≤ (n - 272) % 8 ∧ (n - 272) % 8 ≤ 6 then
    some ((meanOf s [n + 1] + meanOf s [n - 1]) / 2 + AMap.get 0 s.power.powerMw (192 + (n - 272)) * 32 / 1000)
  else none

/-- The time since which a condition has held, kept, begun or ended. -/
def since (s : State) (old : Option Nat) (holds : Bool) : Option Nat := if holds then some (old.getD s.now) else none

/-- Distance of two temperatures. -/
def apart (a b : Int) : Int := if a ≤ b then b - a else a - b

/-- One sensor's reading brought up to date, with the conditions of R633, and event 0x900A where its neighbours have become
too few. -/
def readSensor (s : State) (n : Nat) : State :=
  let x := s.sensor n
  if sensorOff s n then updSensor s n fun x => { x with farAt := none, nearAt := none }
  else
    let rs := usableReadings s n
    let enough := decide (3 ≤ rs.length)
    let m := medianInt rs
    let own := ownReading s n
    let few := x.excluded && !enough
    let s1 := updSensor s n fun x =>
      { x with reading := readingOf s n, noted := few,
               farAt := since s x.farAt (!x.excluded && enough && decide (384 < apart own m)),
               nearAt := since s x.nearAt (x.excluded && enough && decide (apart own m ≤ 192)) }
    if few ∧ ¬ x.noted then event s1 (sensorSrc n) 0x900A (u16 n ++ t16 (readingOf s n)) else s1

/-- One sensor's effective temperature (R635), the conditions of R636, and its history of 10 ms (R643). -/
def effectiveSensor (s : State) (n : Nat) : State :=
  let x := s.sensor n
  if sensorOff s n then updSensor s n fun x => { x with lowAt := none, okAt := none, hist := [] }
  else
    let e := (estimateOf s n).getD x.reading
    let eff := max x.reading e
    let young := x.hist.takeWhile fun h => !s.elapsed h.1 10000000
    let old := (x.hist.dropWhile fun h => !s.elapsed h.1 10000000).take 1
    updSensor s n fun x =>
      { x with effective := eff, lowAt := since s x.lowAt (decide (512 < e - x.reading)),
               okAt := since s x.okAt (decide (e - x.reading < 256)), hist := (s.now, eff) :: (young ++ old) }

/-! ### Thresholds (R637 to R639) -/

/-- A complement fault of a threshold: its default taken, with event 0x900B (R639). -/
def thresholdFault (s : State) (sub : Nat) : State :=
  event (countComp (s.resetObj 0x6B20 sub) 0x6B20 sub) 0x9000 0x900B (u16 0x6B20 ++ u8 sub)

/-- The thresholds compared with their complements at their use. -/
def checkThresholds (s : State) : State :=
  (List.range 8).foldl (fun s i => if s.pairOk 0x6B20 (i + 1) then s else thresholdFault s (i + 1)) s

/-- The sensors of a scope: 0 the fabric class, 1 and 2 the dies of a stack, 4 + t the sensors that serve tower t. -/
def scopeSensors (s : State) (scope : Nat) : List Nat :=
  ((if scope = 0 then List.range 272
    else if scope < 3 then (List.range 8).map fun d => 272 + 8 * (scope - 1) + d
    else
      let t := scope - 4
      ((List.range 48).map fun k => 48 * t + k) ++ ((List.range 12).map fun k => 192 + 12 * t + k) ++
        ((List.range 8).map fun k => 240 + 8 * t + k))).filter fun n => !sensorOff s n

/-- The hottest sensor of a list. -/
def hottest (s : State) : List Nat → Nat
  | [] => 0
  | n :: ns => ns.foldl (fun m k => if (s.sensor m).effective < (s.sensor k).effective then k else m) n

/-- Whether a threshold of a scope is crossed, from whether it was: reached by one, cleared once all are below it by the
hysteresis. -/
def crossed (s : State) (scope k : Nat) (was : Bool) : Bool :=
  let ns := scopeSensors s scope
  match ns with
  | [] => false
  | n :: _ =>
    let e := (s.sensor (hottest s ns)).effective
    let th := classLevel s n k
    decide (th ≤ e) || (was && decide (th - classHyst s n < e))

/-- The record of a crossing or clearing. -/
def crossEvent (s : State) (scope code : Nat) (now : Bool) : State :=
  let n := hottest s (scopeSensors s scope)
  event s (sensorSrc n) code (u16 n ++ t16 (s.sensor n).effective ++ u8 (b2n now))

/-- DEV_ERROR_REG.temperature: set while a warning threshold is crossed (R92). -/
def temperatureFlag (s : State) : State :=
  let on := s.power.warnFabric || s.power.warnDram.any (·.2)
  { s with obs.errorReg := (s.obs.errorReg &&& 0xF7) ||| (if on then 0x08 else 0) }

/-- The warning thresholds: the fabric's, and each stack's with its refresh window (R446). -/
def checkWarnings (s : State) : State :=
  let w := crossed s 0 0 s.power.warnFabric
  let s1 := if w = s.power.warnFabric then s else crossEvent { s with power.warnFabric := w } 0 0x9002 w
  temperatureFlag ([0, 1].foldl (fun s m =>
    let was := AMap.get false s.power.warnDram m
    let w := crossed s (m + 1) 0 was
    if w = was then s
    else
      let s1 := crossEvent { s with power.warnDram := AMap.set false s.power.warnDram m w
                                    dram.halved := setBit s.dram.halved m w } (m + 1) 0x9002 w
      event s1 (stackSrc m) 0x4005 (u8 m ++ u32 (if w then 16000 else 32000) ++ u8 (hottest s1 (scopeSensors s1 (m + 1)) - 272 - 8 * m))) s1)

/-- The throttle thresholds: each stack's (R454), and each tower's, whose gait steps then begin or wait for their 100 ms (R641). -/
def checkThrottles (s : State) : State :=
  let s1 := [0, 1].foldl (fun s m =>
    let was := AMap.get false s.power.throttleDram m
    let w := crossed s (m + 1) 1 was
    if w = was then s
    else
      let s1 := crossEvent { s with power.throttleDram := AMap.set false s.power.throttleDram m w
                                    dram.throttled := setBit s.dram.throttled m w } (m + 1) 0x9003 w
      event s1 (stackSrc m) 0x400D (u8 m ++ u8 (b2n w))) s
  (List.range 4).foldl (fun s t =>
    let g := AMap.get {} s.power.gaits t
    let w := crossed s (4 + t) 1 g.crossed
    if w = g.crossed then s
    else
      crossEvent { s with power.gaits := AMap.upd {} s.power.gaits t fun g =>
        { g with crossed := w, stepAt := 0, clearAt := if w then 0 else s.now + 1 } } (4 + t) 0x9003 w) s1

/-- The towers, or stacks, of the sensors at shutdown, as bits. -/
def shutScopes (s : State) (first count : Nat) : Nat :=
  ((List.range count).filter fun i =>
    (scopeSensors s (first + i)).any fun n => decide (classLevel s n 2 ≤ (s.sensor n).effective)).foldl (fun v i => v + 2 ^ i) 0

/-- The shutdown thresholds (R645, R647): Safe Stop at once; in Safe Stop the towers and stacks reached later go off as well. -/
def checkShutdown (s : State) : State :=
  let ts := shutScopes s 4 4
  let ms := shutScopes s 1 2
  if ts = 0 ∧ ms = 0 then s
  else
    let s1 := { s with power.shutTowers := s.power.shutTowers ||| ts, power.shutStacks := s.power.shutStacks ||| ms }
    if s.mode ≠ .safeStop then
      let n := (((List.range 288).filter fun n => !sensorOff s n && decide (classLevel s n 2 ≤ (s.sensor n).effective)).head?).getD 0
      enterSafeStop (event s1 (sensorSrc n) 0x9006 (u16 n ++ t16 (s.sensor n).effective)) 1
    else
      let gs := (shutSectors s1).filter s1.sectorOn
      let s2 := loseCounters (loseSectors (dropPorts s1 gs 7) gs) fun src => decide (src / 4096 = 1) && gs.contains (src % 4096)
      let s3 := { s2 with power.domain := gs.foldl (fun m g => AMap.set 2 m g 0) s2.power.domain }
      let s4 := if bit s3.power.shutStacks 0 then selfRefresh s3 0 else s3
      if bit s4.power.shutStacks 1 then selfRefresh s4 1 else s4

/-! ### The prediction and the orderly stop (R643, R644) -/

/-- The orderly stop begins: its event, its notice, and, in Run and Hold, the notice written for the design. -/
def beginStop (s : State) (host : Bool) (sensor us : Nat) : State :=
  let d := ((List.range 8).filter fun b => decide ((s.bank b).state = 1)).foldl (fun m b => max m (s.num (0x6910 + b) 7)) 0
  let inStable := decide (s.mode = .stable)
  let s1 := { s with power.stop := some { at_ := s.now, step := if inStable then 1 else 0, host := host, drain := d, stepAt := s.now } }
  let s2 := event s1 modeSrc 0x9005 (u16 (if host then 0xFFFF else sensor) ++ u32 us)
  let a := s2.num 0x6002 5
  if a = 0 ∨ inStable then s2
  else request s2 0x02 0x41 a 8 1 (u64 (s2.tai + s2.num 0x6B30 3 * 1000)) .notify false

/-- The time to shutdown of a sensor, as a numerator and a denominator in µs, and its slope in mK per ms; none where it does
not rise over the last 10 ms. -/
def timeLeft (s : State) (n : Nat) : Option (Int × Int × Int) :=
  let x := s.sensor n
  match x.hist.getLast? with
  | none => none
  | some (t, e) =>
    let d := x.effective - e
    let us : Int := s.nsSince t / 1000
    if ¬ s.elapsed t 10000000 ∨ d ≤ 0 ∨ sensorOff s n then none
    else some ((classLevel s n 2 - x.effective) * us, d, d * 1000000 / (64 * us))

/-- The sensor with the shortest time to shutdown. -/
def soonest (s : State) : Option (Nat × Int × Int × Int) :=
  (List.range 288).foldl (fun best n =>
    match timeLeft s n, best with
    | none, _ => best
    | some (a, d, m), none => some (n, a, d, m)
    | some (a, d, m), some (k, a', d', m') => if a * d' < a' * d then some (n, a, d, m) else some (k, a', d', m')) none

/-- The prediction of R643, in Run, Hold and Stable. -/
def predict (s : State) : State :=
  match soonest s with
  | none => { s with power := { s.power with predictUs := maxU32, predictSensor := 0, predictSlope := 0 } }
  | some (n, a, d, m) =>
    let us := min maxU32 (a / d).toNat
    let s1 := { s with power := { s.power with predictUs := us, predictSensor := n, predictSlope := m } }
    let soon := decide (a < ((s.num 0x6B30 3 + 1000 : Nat) : Int) * d)
    if soon ∧ s1.power.stop.isNone ∧ (s1.runOrHold ∨ s1.mode = .stable) then beginStop s1 false n us else s1

/-! ### Leaving Safe Stop (R649, R650) -/

/-- Supply n's measured value in mV. -/
def supplyMv (s : State) (n : Nat) : Nat := AMap.get 0 s.board.mv n

/-- Whether a supply has been in range for a time; one never seen out of range has. -/
def suppliedFor (s : State) (n ns : Nat) : Bool :=
  match AMap.get 0 s.board.inRangeAt n with
  | 0 => true
  | 1 => false
  | t + 2 => s.elapsed t ns

/-- Whether every effective temperature is below its shutdown threshold by the hysteresis. -/
def cool (s : State) : Bool :=
  (List.range 288).all fun n => sensorOff s n || decide ((s.sensor n).effective ≤ classLevel s n 2 - classHyst s n)

/-- Whether Safe Stop may be left for Start-up. -/
def resumable (s : State) : Bool :=
  let c := s.power.lastCause
  let vin := decide (1746 ≤ supplyMv s 0) && decide (supplyMv s 0 ≤ 1854)
  decide (s.mode = .safeStop) && decide (1 ≤ c ∧ c ≤ 5) && cool s && !s.power.safeLowOutside && vin &&
    (decide (c ≠ 4) || s.elapsed s.power.safeHighAt 100000000) && (decide (c ≠ 5) || suppliedFor s 0 100000000) &&
    (!s.board.dramLost || (suppliedFor s 1 100000000 && suppliedFor s 2 100000000))

/-- Since when the conditions of R649 have held. -/
def noteResume (s : State) : State :=
  if s.mode = .safeStop then { s with power.resumeOkAt := since s s.power.resumeOkAt (resumable s) } else s

/-- Safe Stop left for Start-up with cause 2. -/
def resumeNow (s : State) (auto : Bool) : State :=
  enterCal (event { s with power.resumeOkAt := none } modeSrc 0x900C (u8 (b2n auto) ++ u8 s.power.lastCause)) 2

/-- AUTO_RESUME (R650): the conditions have held for 1 s, and fewer than 3 resumes were automatic in the last 3,600 s. -/
def execAutoResume (s : State) : Res :=
  let s := usePair s 0x6002 1
  let recent := s.power.resumes.filter fun t => !s.elapsed t 3600000000000
  let held : Bool := match s.power.resumeOkAt with
    | some t => s.elapsed t 1000000000
    | none => false
  .next (if s.num 0x6002 1 = 1 ∧ resumable s ∧ s.power.lastCause ≠ 3 ∧ held ∧ recent.length < 3 then
    resumeNow { s with power.resumes := s.now :: recent } true
  else s)

/-! ### MODE_CMD (R625) -/

/-- MODE_CMD: the level of the command, the modes that accept it, its effect. -/
def actMode : Action where
  state := fun s who v =>
    let c := leNat v
    let free := s.power.stop.isNone
    firstOf
      [need (¬ (c = 4 ∨ c = 6 ∨ c = 7) ∨ 3 ≤ levelOf s who) abLevel,
       need (c ≠ 1 ∨ ((s.mode = .hold ∨ s.mode = .stable) ∧ free)) abState,
       need (c ≠ 2 ∨ (s.mode = .run ∧ free)) abState,
       need (¬ (c = 3 ∨ c = 4) ∨ (s.runOrHold ∧ free)) abState,
       need (c ≠ 5 ∨ ((s.runOrHold ∨ s.mode = .stable) ∧ free)) abState,
       need (c ≠ 6 ∨ resumable s) abState,
       need (c ≠ 7 ∨ s.mode = .service) abState]
  apply := fun s _ _ v =>
    match leNat v with
    | 1 => if s.mode = .hold then leaveHold s else wake s 0
    | 2 => enterHold s
    | 3 => enterStable s
    | 4 => enterService s
    | 5 => beginStop s true 0 0
    | 6 => resumeNow s false
    | 7 => enterCal s 1
    | _ => s

/-- MODE_RUN (R626, R628). -/
def execModeRun (e : Env) (s : State) : Res := hostWrite e 0x6001 0 [1] actMode s
/-- MODE_HOLD (R626). -/
def execModeHold (e : Env) (s : State) : Res := hostWrite e 0x6001 0 [2] actMode s
/-- MODE_STABLE (R627). -/
def execModeStable (e : Env) (s : State) : Res := hostWrite e 0x6001 0 [3] actMode s
/-- MODE_SERVICE (R624). -/
def execModeService (e : Env) (s : State) : Res := hostWrite e 0x6001 0 [4] actMode s
/-- ORDERLY_STOP (R644), as a host begins it. -/
def execOrderlyStop (e : Env) (s : State) : Res := hostWrite e 0x6001 0 [5] actMode s
/-- RESUME (R649). -/
def execResume (e : Env) (s : State) : Res := hostWrite e 0x6001 0 [6] actMode s
/-- RESTART (R624). -/
def execRestart (e : Env) (s : State) : Res := hostWrite e 0x6001 0 [7] actMode s

/-- WAKE_N (R628): asserted for at least 1 µs. -/
def execWakeN (widthNs : Nat) (s : State) : Res :=
  .next (if s.mode = .stable ∧ 1000 ≤ widthNs ∧ s.num 0x6002 3 = 1 then wake s 1 else s)

/-- WAKE_TIME (R628). -/
def execWakeTime (s : State) : Res :=
  .next (if s.mode = .stable ∧ s.num 0x6002 2 ≠ 0 ∧ s.num 0x6002 2 ≤ s.tai then wake s 2 else s)

/-- MODE_CFG.stop_notify_addr: a fabric target address, or 0. -/
def actNotifyAddr : Action where
  value := fun _ _ v => need (leNat v = 0 ∨ (0x200000000000 ≤ leNat v ∧ leNat v < 0x203000000000)) abRange

/-! ### Sensor rows -/

/-- The measured powers: by domain 0 to 180, 192 + 8m + d for a DRAM die, 208 the package, 209 to 212 the towers, 213 the base
die, 214 the DRAM. -/
def takePower (s : State) (mw : List (Nat × Nat)) : State :=
  let m := mw.foldl (fun m p => AMap.set 0 m p.1 p.2) s.power.powerMw
  { s with power := { s.power with powerMw := m, peakMw := max s.power.peakMw (AMap.get 0 m 208) } }

/-- SENSOR_EXCLUDED (R633, R634). -/
def execSensorExcluded (n : Fin 288) (s : State) : Res :=
  let x := s.sensor n.val
  match x.farAt with
  | none => .next s
  | some t =>
    if x.excluded ∨ sensorOff s n.val ∨ (usableReadings s n.val).length < 3 ∨ ¬ s.elapsed t 50000000 then .next s
    else
      let m := medianInt (usableReadings s n.val)
      .next (event (updSensor s n.val fun x => { x with excluded := true, farAt := none, reading := m }) (sensorSrc n.val) 0x9007
        (u16 n.val ++ t16 (ownReading s n.val) ++ t16 m))

/-- The key of a calibration item: kind × 65,536 + item. -/
def itemKey (kind item : Nat) : Nat := kind * 65536 + item

/-- Whether calibration keeps a sensor excluded (R672). -/
def offsetDegraded (s : State) (n : Nat) : Bool := (AMap.get {} s.test.items (itemKey 5 n)).degraded

/-- SENSOR_READMITTED (R633). -/
def execSensorReadmitted (n : Fin 288) (s : State) : Res :=
  let x := s.sensor n.val
  match x.nearAt with
  | none => .next s
  | some t =>
    if ¬ x.excluded ∨ sensorOff s n.val ∨ offsetDegraded s n.val ∨ ¬ s.elapsed t 1000000000 then .next s
    else
      .next (event (updSensor s n.val fun x => { x with excluded := false, nearAt := none, reading := ownReading s n.val })
        (sensorSrc n.val) 0x9008 (u16 n.val))

/-- READS_LOW_FLAG (R636): set after 100 ms, cleared after 1 s. -/
def execReadsLowFlag (n : Fin 288) (s : State) : Res :=
  let x := s.sensor n.val
  let held := fun (t : Option Nat) (ns : Nat) => t.any fun t => s.elapsed t ns
  match estimateOf s n.val with
  | none => .next s
  | some e =>
    if ¬ x.readsLow ∧ held x.lowAt 100000000 then
      .next (event (updSensor s n.val fun x => { x with readsLow := true }) (sensorSrc n.val) 0x9009 (u16 n.val ++ t16 x.reading ++ t16 e))
    else if x.readsLow ∧ held x.okAt 1000000000 then .next (updSensor s n.val fun x => { x with readsLow := false })
    else .next s

/-- THERM_THRESH (R638): each class keeps warning, throttle and shutdown apart by its hysteresis. -/
def actThreshold (sub : Nat) : Action where
  value := fun s _ v =>
    let g := fun k => if k = sub then leNat v else s.setting 0x6B20 k
    let ok := fun a b c h => decide (g a < g b) && decide (g b < g c) && decide (g a + g h ≤ g b) && decide (g b + g h ≤ g c)
    need (ok 1 2 3 7 ∧ ok 4 5 6 8) abRange

/-! ### Gaits (R640 to R642) -/

/-- GAIT_STEP_SLOWER (R641): at the alignment boundary after the crossing, and every 10 ms while it lasts. -/
def execGaitStepSlower (t : Fin 4) (s : State) : Res :=
  let g := AMap.get {} s.power.gaits t.val
  if ¬ s.atBoundary ∨ ¬ g.crossed ∨ (g.stepAt ≠ 0 ∧ ¬ s.elapsed (g.stepAt - 1) 10000000) then .next s
  else
    .next (updateGaits { s with power.gaits := AMap.upd {} s.power.gaits t.val fun g =>
      { g with thermal := min 3 (g.thermal + 1), stepAt := s.now + 1 } })

/-- GAIT_STEP_FASTER (R641): after each 100 ms with the threshold cleared. -/
def execGaitStepFaster (t : Fin 4) (s : State) : Res :=
  let g := AMap.get {} s.power.gaits t.val
  if ¬ s.atBoundary ∨ g.crossed ∨ g.clearAt = 0 ∨ g.thermal = 0 ∨ ¬ s.elapsed (g.clearAt - 1) 100000000 then .next s
  else
    .next (updateGaits { s with power.gaits := AMap.upd {} s.power.gaits t.val fun g =>
      { g with thermal := g.thermal - 1, clearAt := s.now + 1 } })

/-- THERM_CFG.gait_floor and gait_scope: in force from the next alignment boundary. -/
def actGait : Action where
  apply := fun s _ _ _ => if s.atBoundary then updateGaits s else { s with power.gaitWait := true }

/-- GAIT_FLOOR_WRITE. -/
def execGaitFloorWrite (e : Env) (v : Byte) (s : State) : Res := hostWrite e 0x6B30 2 [v] actGait s

/-! ### The steps of the orderly stop (R644) -/

/-- The stop in progress at a step, once a time has passed since it began. -/
def stopAt (s : State) (step ns : Nat) : Bool := s.power.stop.any fun x => decide (x.step = step) && s.elapsed x.at_ ns

/-- The stop in progress moved on to its next step. -/
def nextStop (s : State) (step : Nat) : State :=
  { s with power.stop := s.power.stop.map fun x => { x with step := step, stepAt := s.now } }

/-- grace_us in ns. -/
def graceNs (s : State) : Nat := s.num 0x6B30 3 * 1000

/-- A started bank's drain: it takes no more entries, executes those within drain_ns, and then applies its pattern. -/
def drainBank (s : State) (b : Nat) : State :=
  let d := s.num (0x6910 + b) 7
  if (s.bank b).state ≠ 1 then s
  else if d = 0 then applySafe s b 1 none
  else updBank s b fun x => { x with drainUntil := some (s.now + nsRoots d) }

/-- The banks whose drain has ended apply their safe patterns. -/
def drainsEnded (s : State) : State :=
  (List.range 8).foldl (fun s b =>
    match (s.bank b).drainUntil with
    | some t => if t ≤ s.now then applySafe s b 1 none else s
    | none => s) s

/-- ORDERLY_STOP_DRAIN_STEP. -/
def execOrderlyStopDrainStep (s : State) : Res :=
  .next (if stopAt s 0 (graceNs s) then nextStop ((List.range 8).foldl drainBank s) 1 else s)

/-- ORDERLY_STOP_FLUSH. -/
def execOrderlyStopFlush (s : State) : Res :=
  let d := (s.power.stop.map (·.drain)).getD 0
  .next (if stopAt s 1 (graceNs s + d) then nextStop (flushChronicle (drainsEnded s)) 2 else s)

/-- ORDERLY_STOP_FALLBACKS: in Run and Hold, each team with members falls back with cause 3, or is held. -/
def execOrderlyStopFallbacks (s : State) : Res :=
  .next (if stopAt s 2 0 then
    nextStop (if s.mode = .stable then s else triggerFallbacks s (List.range 16) 3) 3
  else s)

/-- SAFE_STOP_ENTRY: once no fallback is in progress, Safe Stop with cause 3 where a host began the stop, else 2. -/
def execSafeStopEntry (s : State) : Res :=
  let going := (List.range 16).any fun t => (s.team t).fallback.isSome
  let host := s.power.stop.any (·.host)
  .next (if stopAt s 3 0 ∧ ¬ going then noteResume (enterSafeStop s (if host then 3 else 2)) else s)

/-! ### Pins and supplies (R645, R648, R715, R716) -/

/-- SAFE_N from outside, low or high, for a time. -/
def execSafeN (asserted : Bool) (widthNs : Nat) (s : State) : Res :=
  if ¬ asserted then
    .next (noteResume { s with power := { s.power with safeLowOutside := false
                                                       safeHighAt := if s.power.safeLowOutside then s.now else s.power.safeHighAt } })
  else if widthNs < 1000 ∨ ¬ s.available then .next s
  else
    let s1 := usePair { s with power.safeLowOutside := true } 0x6002 4
    if s.mode ≠ .safeStop ∧ s1.num 0x6002 4 = 1 then
      .next (noteResume (enterSafeStop (event s1 modeSrc 0x9010 []) 4))
    else .next (noteResume s1)

/-- A supply measured; ok says that it is in range. -/
def measured (s : State) (n : Nat) (mv : Int) (ok : Bool) : State :=
  let was := AMap.get 0 s.board.inRangeAt n
  { s with board := { s.board with mv := AMap.set 0 s.board.mv n mv.toNat
                                   inRangeAt := AMap.set 0 s.board.inRangeAt n (if ¬ ok then 1 else if was = 1 then s.now + 2 else was) } }

/-- An excursion of a supply: event 0x9012, an Alarm for VIN_CORE, VDRAM and VPP. -/
def excursion (s : State) (n : Nat) (mv : Int) : State :=
  recordAt { s with board.excursions := satInc s.board.excursions maxU32 } s.tai modeSrc 0x9012 (if n < 3 then 2 else 1) 0
    (u8 n ++ u16 (twos mv 2))

/-- Whether a voltage lies beyond an absolute maximum whose upper bound is hi (R709). -/
def beyond (mv hi : Int) : Bool := decide (mv < -300) || decide (hi < mv)

/-- VIN_CORE_OUT_OF_RANGE: a voltage held for a time; outside 1.70 to 1.90 V for 10 µs it stops the device. -/
def execVinCoreOutOfRange (mv : Int) (widthNs : Nat) (s : State) : Res :=
  if beyond mv 2100 then .fault .beyondAbsoluteMaximum
  else
    let s1 := measured s 0 mv (decide (1746 ≤ mv ∧ mv ≤ 1854))
    if (1700 ≤ mv ∧ mv ≤ 1900) ∨ widthNs < 10000 ∨ s.boot.phase = 0 then .next (noteResume s1)
    else .next (noteResume (immediate (excursion (event s1 modeSrc 0x9011 (u16 (twos mv 2))) 0 mv) 5))

/-- VAUX_LOW: below 1.62 V for 1 µs it acts as PORST_N. -/
def execVauxLow (mv : Int) (widthNs : Nat) (s : State) : Res :=
  if beyond mv 2100 then .fault .beyondAbsoluteMaximum
  else
    let s1 := { s with board.mv := AMap.set 0 s.board.mv 13 mv.toNat }
    if 1620 ≤ mv ∨ widthNs < 1000 then .next s1
    else
      let s2 := assertPorst s1
      .next { s2 with boot.suppliesReached := false }

/-- VDRAM_VPP_OUT_OF_RANGE: out of range for 10 µs, Safe Stop with cause 5; the DRAM's contents are no longer relied on. -/
def execVdramVppOutOfRange (vpp : Bool) (mv : Int) (widthNs : Nat) (s : State) : Res :=
  let ok := if vpp then decide (1710 ≤ mv ∧ mv ≤ 1890) else decide (1067 ≤ mv ∧ mv ≤ 1133)
  let n := if vpp then 2 else 1
  if beyond mv (if vpp then 2100 else 1400) then .fault .beyondAbsoluteMaximum
  else
    let s1 := measured s n mv ok
    if ok ∨ widthNs < 10000 ∨ s.boot.phase = 0 then .next (noteResume s1)
    else .next (noteResume (immediate (excursion { s1 with board.dramLost := true } n mv) 5))

/-- VLANE_OUT_OF_RANGE: out of range for 10 µs every lane loses lock. -/
def execVlaneOutOfRange (high : Bool) (mv : Int) (widthNs : Nat) (s : State) : Res :=
  let ok := if high then decide (1164 ≤ mv ∧ mv ≤ 1236) else decide (873 ≤ mv ∧ mv ≤ 927)
  let n := if high then 12 else 11
  if beyond mv (if high then 1500 else 1100) then .fault .beyondAbsoluteMaximum
  else
    let s1 := measured s n mv ok
    .next (if ok ∨ widthNs < 10000 ∨ s.boot.phase = 0 then s1 else (List.range 52).foldl loseLock (excursion s1 n mv))

/-- A bank stopped by its supply: its queue is discarded and every pin it drives goes to high impedance. -/
def bankLost (s : State) (b : Nat) : State :=
  let n := (s.bank b).outQ.length
  let was := (s.bank b).state
  let s1 := updBank s b fun x =>
    { x with state := if was = 3 then 3 else 0, outQ := [], refused := satAdd x.refused n maxU32, drainUntil := none, retryAt := 0 }
  let s2 := (List.range (pinCount b)).foldl (fun s pin =>
    if pinOut s b pin then updPin s b pin fun p => { p with prev := p.level, level := 2, ret := none, changedAt := s.now + 1 } else s) s1
  if was = 1 then event s2 (ioSrc b) 0x700B (u8 0) else s2

/-- VCCIO_OUT_OF_RANGE: outside the range of its standard for 10 µs bank b stops. -/
def execVccioOutOfRange (b : Fin 8) (mv : Int) (widthNs : Nat) (s : State) : Res :=
  let k := b.val
  if beyond mv (if k < 6 then 2100 else 3800) then .fault .beyondAbsoluteMaximum
  else
    let nominal := (((lvcmos k).find? fun p => some p.1 = (s.bank k).std).map (·.2)).getD 0
    let ok : Bool := decide (0 ≤ mv) && nearMv mv.toNat nominal
    let s1 := updBank s k fun x => { x with vccioMv := mv.toNat }
    .next (if ok ∨ widthNs < 10000 ∨ s.boot.phase < 2 ∨ (s.bank k).std = none then s1 else excursion (bankLost s1 k) (3 + k) mv)

/-- ROOT_PLL_LOCK_LOSS (R310, R716): a critical block failure in fuse load and in any mode after it. -/
def execRootPllLockLoss (s : State) : Res :=
  if s.boot.phase < 1 ∨ s.mode = .safeStop then .next { s with clk.rootLocked := false }
  else
    let s1 := event { s with clk.rootLocked := false, test.critical := 1 } modeSrc 0x900F (u8 6 ++ u8 1)
    .next (enterSafeStop s1 6)

end Sys2Proof.Machine
end

