-- ==== Sys2Proof/Machine/Farrier.lean ====
section
/-! DEFINITION. What BIST, the farrier and calibration do (R653 to R672): failing units, row shifts, stake groups, items. The
rows of the loading and test chapters call them. -/

namespace Sys2Proof.Machine

/-- The source of test events of a sector (R679). -/
def testSectorSrc (g : Nat) : Nat := 0xE100 + g
/-- The source of test events of a tower. -/
def testTowerSrc (t : Nat) : Nat := 0xE200 + t

/-! ### Units that fail (R656, R674). The kinds of event 0xA002, in the order of R656's table: 1 cluster, 4 stake group,
5 pannier bank, 6 Wale slice, 7 NoC quadrant, 8 lane quad, 9 I/O bank core, 10 sensor -/

/-- Event 0xA002 for a block, counted. -/
def blockDown (s : State) (src kind unit : Nat) : State :=
  event { s with test.blocks := satInc s.test.blocks maxU32 } src 0xA002 (u8 kind ++ u16 unit)

/-- Clusters of a sector marked unusable, and their base ports with them (R173, R236, R663). -/
def markClusters (s : State) (g : Nat) (m : BitVec 64) : State :=
  let new := m &&& ~~~(AMap.get 0 s.test.unusable g)
  let s1 := (bitsSet new.toNat 64).foldl (fun s c => endPort { s with test.blocks := satInc s.test.blocks maxU32 } g c 2)
    { s with test.unusable := AMap.upd 0 s.test.unusable g fun x => x ||| m }
  if new = 0 then s1 else portsDown s1 g

/-- The mask of one cluster. -/
def clusterBit (c : Nat) : BitVec 64 := BitVec.ofNat 64 (2 ^ c)

/-- A cluster found failing and marked, with event 0xA002. -/
def clusterDown (s : State) (g c : Nat) : State :=
  event (markClusters s g (clusterBit c)) (testSectorSrc g) 0xA002 (u8 1 ++ u16 (g * 64 + c))

/-- A failing column of a pannier bank replaced by a spare, or its bank unusable (R415). -/
def repairColumn (s : State) (b col : Nat) : State :=
  let used := AMap.get 0 s.pan.spares b
  if used < 2 then
    event { s with pan.spares := AMap.set 0 s.pan.spares b (used + 1) } (bankSrc b) 0x4817 (u8 b ++ u16 col)
  else if bankState s b = 4 then s
  else blockDown (setBank s b 4) testSrc 5 b

/-- The ways of a slice taken out of use: their lines go, and the ways serve no more (R406). -/
def disableWays (s : State) (sl : Nat) (m : BitVec 16) : State :=
  updSlice { s with wale.ways := s.wale.ways.filter fun kv => ¬ (kv.1 / 65536 = sl ∧ m.getLsbD (kv.1 % 16)) } sl fun x =>
    { x with disabled := x.disabled ||| m }

/-- The key of a stake group: a cluster's group by sector × 64 + cluster, a copy of a tower's by copyKey. -/
def groupKey : StakeGroup → Nat
  | .cluster g c => g.val * 64 + c.val
  | .tower t grp k => copyKey t.val grp.val k.val

/-- The spare vias of a group (R655). -/
def groupSpares (key : Nat) : Nat := if key < 4096 then 8 else 16

/-- Spares in use in a group. -/
def sparesUsed (s : State) (key : Nat) : Nat := AMap.get 0 s.test.spareVias key

/-- Whether a group has failed. -/
def groupFailed (s : State) (key : Nat) : Bool := AMap.get false s.test.failedGroup key

/-- n failing vias of a group given spares: whether it had enough of them. -/
def useSpares (s : State) (key n : Nat) : State × Bool :=
  if groupFailed s key then (s, true)
  else if sparesUsed s key + n ≤ groupSpares key then
    ({ s with test.spareVias := AMap.set 0 s.test.spareVias key (sparesUsed s key + n) }, true)
  else ({ s with test.failedGroup := AMap.set false s.test.failedGroup key true }, false)

/-- Event 0xA009: one copy of a duplicated group has failed (R666). -/
def copyDown (s : State) (t grp k : Nat) : State := event s (testTowerSrc t) 0xA009 (u8 t ++ u8 grp ++ u8 k)

/-- A tower's test group has failed: the tower is untested (R666, R667). -/
def towerUntested (s : State) (t : Nat) : State :=
  event { s with test.untested := setBit s.test.untested t true } (testTowerSrc t) 0xA00F (u8 t)

/-- The sectors of a tower. -/
def towerSectors (t : Nat) : List Nat := (List.range 12).map fun k => 12 * t + k

/-- The key of a face-to-face shift group: tile and group of a physical cluster; clusters 64 to 71 are the spare row's. -/
def siteKey (g c tile grp : Nat) : Nat := ((g * 72 + c) * 256 + tile) * 42 + grp

/-- The site that carries signal k of a shift group (R654): every signal from a failed site onwards has moved one position
towards the four spares. -/
def signalSite (s : State) (key k : Nat) : Option Nat :=
  ((List.range 68).filter fun p => !(AMap.get [] s.test.badSites key).contains p)[k]?

/-- A cluster that fails: one that BIST finds waits for the repair phase, or makes the spare row bad; one that a test finds is
not shifted. -/
def clusterFails (bist : Bool) (s : State) (g c : Nat) : State :=
  if 64 ≤ c then { s with test.spareBad := AMap.set false s.test.spareBad g true }
  else if bist then { s with test.failingRows := AMap.upd 0 s.test.failingRows g fun m => m ||| clusterBit c }
  else clusterDown s g c

/-- A unit that BIST or a Service test finds failing; bist says which. Clusters and columns that BIST finds wait for the
repair phase; those that a test finds are not shifted (R656, R667, R674). -/
def findFail (bist : Bool) (s : State) : FailUnit → State
  | .cluster g c => clusterFails bist s g.val c.val
  | .faceSite g c tile grp site =>
    let k := siteKey g.val c.val tile.val grp.val
    let bad := insertNew (AMap.get [] s.test.badSites k) site.val
    let s1 := { s with test.badSites := AMap.set [] s.test.badSites k bad }
    if bad.length ≤ 4 then s1 else clusterFails bist s1 g.val c.val
  | .spareRow g => { s with test.spareBad := AMap.set false s.test.spareBad g.val true }
  | .panColumn b col =>
    if bist then { s with test.failingCols := AMap.upd [] s.test.failingCols b.val fun l => l ++ [col] }
    else repairColumn s b.val col
  | .waleWay sl w => disableWays s sl.val (BitVec.ofNat 16 (2 ^ w.val))
  | .waleSlice sl => blockDown (disableWays s sl.val 0xFFFF) testSrc 6 sl.val
  | .quadrant q =>
    blockDown { s with test.nocDown := setBit s.test.nocDown q.val true, noc.quadrants := setBit s.noc.quadrants q.val false } testSrc 7 q.val
  | .laneQuad q => blockDown { s with test.quadDown := setBit s.test.quadDown q.val true } testSrc 8 q.val
  | .ioBank b =>
    blockDown (Machine.updBank { s with test.ioDown := setBit s.test.ioDown b.val true } b.val fun x => { x with unusable := true }) testSrc 9 b.val
  | .sensor n => blockDown (updSensor s n.val fun x => { x with held := true }) testSrc 10 n.val
  | .channelRank _ _ => s
  | .clusterVia g c n =>
    let r := useSpares s (g.val * 64 + c.val) n
    if r.2 then r.1 else clusterDown r.1 g.val c.val
  | .towerVia t grp k n =>
    let r := useSpares s (copyKey t.val grp.val k.val) n
    if r.2 then r.1
    else if ¬ towerGroupFailed r.1 t.val grp.val then copyDown r.1 t.val grp.val k.val
    else if grp.val = 11 then towerUntested r.1 t.val
    else (towerSectors t.val).foldl (fun s g => markClusters s g (BitVec.allOnes 64)) (blockDown r.1 (testTowerSrc t.val) 4 (copyKey t.val grp.val k.val))

/-- The critical block that a failure names, where it does: NoC quadrant 0 counts as the services (R656). -/
def criticalOf (critical : Nat) (fails : List FailUnit) : Nat :=
  if critical ≠ 0 then critical
  else if fails.any fun f => decide (f = .quadrant 0) then 3 else 0

/-! ### Row shift (R659, R660) -/

/-- FAB_ROW_SHIFT of a sector, but for spare_bad. -/
def rowShift (s : State) (g : Nat) : Nat := AMap.get 0 s.test.shifted g

/-- Whether a sector's spare row failed BIST. -/
def spareBad (s : State) (g : Nat) : Bool := AMap.get false s.test.spareBad g

/-- The marks of a sector's logical clusters once the rows from a row up have moved one physical row north. -/
def marksUp (m : BitVec 64) (row : Nat) : BitVec 64 :=
  (m &&& BitVec.ofNat 64 (2 ^ (8 * row) - 1)) ||| ((m >>> (8 * (row + 1))) <<< (8 * row))

/-- The entries of a table by cluster of a sector once the rows from a row up have moved. -/
def groupsUp {α : Type} (m : AMap α) (g row : Nat) : AMap α :=
  m.filterMap fun kv =>
    if kv.1 < 4096 ∧ kv.1 / 64 = g ∧ 8 * row ≤ kv.1 % 64 then
      (if kv.1 % 64 < 8 * (row + 1) then none else some (kv.1 - 8, kv.2))
    else some kv

/-- The logical rows from a row up take the physical rows one further north (R170): the marks of clusters and stake groups move
with them, and a base port that went down keeps its bit of FAB_PORT_UP clear (R195). -/
def moveRows (s : State) (g row : Nat) : State :=
  { s with test := { s.test with
      unusable := AMap.upd 0 s.test.unusable g (marksUp · row)
      portDown := AMap.upd 0 s.test.portDown g (marksUp · row)
      portLost := AMap.upd 0 s.test.portLost g fun m => m ||| AMap.get 0 s.test.unusable g ||| AMap.get 0 s.test.portDown g
      spareVias := groupsUp s.test.spareVias g row
      failedGroup := groupsUp s.test.failedGroup g row
      monErr := groupsUp s.test.monErr g row } }

/-- A physical row shifted out, and the fuse written; source 0 fuse, 1 BIST, 2 command. -/
def applyShift (s : State) (g row source : Nat) : State :=
  event { s with test.shifted := AMap.set 0 s.test.shifted g (0x80 + row), fuses.rowShift := AMap.set 0 s.fuses.rowShift g (0x80 + row) }
    (testSectorSrc g) 0xA003 (u8 g ++ u8 row ++ u8 source)

/-- Clusters that no shift can replace. -/
def shiftImpossible (s : State) (g : Nat) (m : BitVec 64) : State :=
  if m = 0 then s else event (markClusters s g m) (testSectorSrc g) 0xA004 (u8 g ++ u64 m.toNat)

/-- The repair phase in one sector: its lowest failing row is shifted out, and what fails beside it is unusable; the rows
above take the places of those beneath them. -/
def repairSector (s : State) (g : Nat) : State :=
  let m := AMap.get 0 s.test.failingRows g
  if m = 0 then s
  else if rowShift s g ≠ 0 ∨ spareBad s g then shiftImpossible s g m
  else
    let r := ((List.range 8).find? fun r => decide (field m.toNat (8 * r + 7) (8 * r) ≠ 0)).getD 0
    shiftImpossible (applyShift (moveRows s g r) g r 1) g ((m >>> (8 * (r + 1))) <<< (8 * r))

/-- The repair phase. -/
def repairAll (s : State) : State :=
  let s1 := (List.range 48).foldl repairSector s
  let s2 := s1.test.failingCols.foldl (fun s kv => kv.2.foldl (fun s col => repairColumn s kv.1 col) s) s1
  { s2 with test.failingRows := [], test.failingCols := [] }

/-! ### Stake groups in service (R665, R666) -/

/-- The logic domains of a tower go off in Safe Stop. -/
def cutTower (s : State) (t : Nat) : State :=
  let s1 := { s with power.shutTowers := setBit s.power.shutTowers t true }
  if s.mode ≠ .safeStop then enterSafeStop (event s1 modeSrc 0x900F (u8 7 ++ u8 t)) 7
  else
    let gs := (towerSectors t).filter s1.sectorOn
    let s2 := loseCounters (loseSectors (dropPorts s1 gs 7) gs) fun src => decide (src / 4096 = 1) && gs.contains (src % 4096)
    { s2 with power.domain := gs.foldl (fun m g => AMap.set 2 m g 0) s2.power.domain }

/-- A tower's group beyond its spares in both its copies. -/
def towerGroupDown (s : State) (t grp : Nat) : State :=
  if grp < 8 then event s (testTowerSrc t) 0xA007 (u8 t ++ u8 grp)
  else if grp < 11 then cutTower (event s (testTowerSrc t) 0xA008 (u8 t ++ u8 grp)) t
  else towerUntested s t

/-- A group that has failed in service. -/
def groupDown (s : State) : StakeGroup → State
  | .cluster g c =>
    portsDown (event
      (endPort { s with test.portDown := AMap.upd 0 s.test.portDown g.val fun m => m ||| clusterBit c.val } g.val c.val 2)
      (testSectorSrc g.val) 0xA006 (u8 g.val ++ u8 c.val)) g.val
  | .tower t grp k => if towerGroupFailed s t.val grp.val then towerGroupDown s t.val grp.val else copyDown s t.val grp.val k.val

/-- A group's copy failed, once. -/
def failGroup (s : State) (g : StakeGroup) : State :=
  if groupFailed s (groupKey g) then s
  else groupDown { s with test.failedGroup := AMap.set false s.test.failedGroup (groupKey g) true } g

/-! ### Calibration (R668 to R672) -/

/-- An item. -/
def State.item (s : State) (kind n : Nat) : CalItem := AMap.get {} s.test.items (itemKey kind n)

/-- Whether two runs of a kind agree (R668). -/
def runsAgree (kind : Nat) (a b : Int) : Bool :=
  match kind with
  | 3 => decide (apart a b ≤ 2)
  | 4 => decide (apart a b * 20 ≤ max a b)
  | 5 => decide (apart a b ≤ 32)
  | _ => decide (apart a b ≤ 1)

/-- What two or three runs give (R669): a mean, or nothing. -/
def decideRuns (kind : Nat) (a b c : Int) : Option Int :=
  if runsAgree kind a b then some ((a + b) / 2)
  else if runsAgree kind c a then some ((c + a) / 2)
  else if runsAgree kind c b then some ((c + b) / 2)
  else none

/-- The set nearest to a temperature, by its place. -/
def nearestSet (sets : List (Int × Int)) (t : Int) : Nat :=
  ((List.range sets.length).foldl (fun (best : Nat × Option Int) i =>
    let d := apart (sets.getD i (0, 0)).1 t
    match best.2 with
    | some e => if d < e then (i, some d) else best
    | none => (i, some d)) (0, none)).1

/-- A new set among an item's sets, newest first (R670). -/
def addSet (sets : List (Int × Int)) (t v : Int) : List (Int × Int) :=
  let far := sets.filter fun p => decide (256 < apart p.1 t)
  (t, v) :: (if 6 ≤ far.length then delAt far (nearestSet far t) else far)

/-- The value of an item's sets at a temperature (R670). -/
def valueAt (sets : List (Int × Int)) (t : Int) : Option Int :=
  let below := sets.filter fun p => decide (p.1 ≤ t)
  let above := sets.filter fun p => decide (t < p.1)
  let near := fun (l : List (Int × Int)) => l[nearestSet l t]?
  match near below, near above with
  | none, none => none
  | some p, none => some p.2
  | none, some q => some q.2
  | some p, some q => some (p.2 + (q.2 - p.2) * (t - p.1) / (q.1 - p.1))

/-- The delay lines that an item sets (R190): a cluster's face lines one by one, both lines of a cluster's stake group or of a
seam group, the one line of a copy. -/
def itemLines (kind n : Nat) : List Nat :=
  match kind with
  | 0 => [n]
  | 1 => if n < 4096 then [8192 + 2 * n, 8192 + 2 * n + 1] else [8192 + 2 * n]
  | 2 => [32768 + 2 * n, 32768 + 2 * n + 1]
  | _ => []

/-- The item that sets a delay line. -/
def lineItem (line : Nat) : Nat × Nat :=
  if line < 8192 then (0, line) else if line < 32768 then (1, (line - 8192) / 2) else (2, (line - 32768) / 2)

/-- The mean of two base sensors. -/
def meanTwo (s : State) (a b : Nat) : Int := meanOf s [a, b]

/-- The reference temperature of a delay line's item, from the sensors (R668): the context sensor of the sector; the mean of the
tower's for a duplicated group; for a seam group the base sensors on either side of it. -/
def referenceTemp (s : State) (kind n : Nat) : Int :=
  if kind = 0 then (s.sensor (192 + n / 128)).reading
  else if kind = 1 ∧ n < 4096 then (s.sensor (192 + n / 64)).reading
  else if kind = 1 then meanOf s ((List.range 12).map fun k => 192 + (n - 4096) / 24 * 12 + k)
  else
    let g := n % 32
    match n / 32 with
    | 0 => meanTwo s (240 + 3 + g / 12 * 4) (248 + g / 12 * 4)
    | 1 => meanTwo s (256 + 3 + g / 12 * 4) (264 + g / 12 * 4)
    | 2 => meanTwo s (244 + g / 8) (256 + g / 8)
    | _ => meanTwo s (252 + g / 8) (264 + g / 8)

/-- A setting of a delay line, 0 to 63. -/
def clampLine (v : Int) : Nat := (max 0 (min 63 v)).toNat

/-- The setting that calibration gives a delay line now: that of its item's sets at the present reference temperature, or the
one kept where it has none. -/
def lineTarget (s : State) (line : Nat) : Nat :=
  let i := lineItem line
  match valueAt (s.item i.1 i.2).sets (referenceTemp s i.1 i.2) with
  | some v => clampLine v
  | none => (AMap.get {} s.test.lines line : DelayLine).target

/-- The lines of an item given a setting, which they reach step by step under R191. -/
def setLines (s : State) (kind n v : Nat) : State :=
  (itemLines kind n).foldl (fun s k => { s with test.lines := AMap.upd {} s.test.lines k fun l => { l with target := v } }) s

/-- A degraded stake group failed where its reference temperature is too far from 25 °C (R672). -/
def failFar (s : State) (n : Nat) (t : Int) : State :=
  if 2 * 64 * (s.num 0x6B40 1 : Int) < apart t 1600 then
    if h : n < 3072 then failGroup s (.cluster ⟨n / 64, by omega⟩ ⟨n % 64, by omega⟩)
    else if h : 4096 ≤ n ∧ n < 4192 then
      failGroup s (.tower ⟨(n - 4096) / 24, by omega⟩ ⟨(n - 4096) / 2 % 12, by omega⟩ ⟨n % 2, by omega⟩)
    else s
  else s

/-- Degraded stake groups at the temperatures that the sensors now give. -/
def driftedGroups (s : State) : State :=
  s.test.items.foldl (fun s kv =>
    if kv.1 / 65536 = 1 ∧ kv.2.degraded then failFar s (kv.1 % 65536) (referenceTemp s 1 (kv.1 % 65536)) else s) s

/-- An item degraded, with event 0xA00B, and what that means for its kind (R672). -/
def degrade (s : State) (kind n : Nat) (t : Int) : State :=
  let s1 := event { s with test.items := AMap.upd {} s.test.items (itemKey kind n) fun x => { x with degraded := true } }
    testSrc 0xA00B (u8 kind ++ u32 n)
  match kind with
  | 0 => setLines s1 0 n (Config.productionSet 0 n).toNat
  | 1 => failFar (setLines s1 1 n (Config.productionSet 1 n).toNat) n t
  | 2 => { s1 with test.seamCal := AMap.set false s1.test.seamCal n false }
  | 3 =>
    let ch := n / 72 % 32
    let pc := n / 36 % 2
    if bit (s1.chan ch).pcDown pc then s1
    else event (s1.updChan ch fun c => { c with pcDown := setBit c.pcDown pc true }) (chanSrc ch) 0x4003 (u8 ch ++ u8 pc ++ u8 1)
  | 5 =>
    if (s1.sensor n).excluded then s1
    else event (updSensor s1 n fun x => { x with excluded := true, farAt := none }) (sensorSrc n) 0x9007
      (u16 n ++ t16 (ownReading s1 n) ++ t16 (medianInt (usableReadings s1 n)))
  | _ => s1

/-- An item's agreed value in use. -/
def useItem (s : State) (kind n : Nat) (t : Int) : State :=
  match valueAt (s.item kind n).sets t with
  | none => s
  | some v =>
    match kind with
    | 2 => setLines { s with test.seamCal := AMap.set false s.test.seamCal n true } 2 n (clampLine v)
    | 5 => updSensor s n fun x => { x with offset := v }
    | 3 => s
    | 4 => s
    | _ => setLines s kind n (clampLine v)

/-- An item calibrated from its runs (R669, R670, R672, R588). -/
def calibrate (s : State) (r : CalRun) : State :=
  let k := r.kind.val
  match decideRuns k r.run1 r.run2 r.run3 with
  | some v =>
    let was := (s.item k r.item).degraded
    let s1 := useItem { s with test.items := AMap.upd {} s.test.items (itemKey k r.item) fun x =>
      { sets := addSet x.sets r.temp v, degraded := false } } k r.item r.temp
    if k = 5 ∧ was ∧ (s1.sensor r.item).excluded then
      event (updSensor s1 r.item fun x => { x with excluded := false, nearAt := none }) (sensorSrc r.item) 0x9008 (u16 r.item)
    else s1
  | none =>
    let s1 := event s testSrc 0xA00A (u8 k ++ u32 r.item)
    let s2 := if k = 4 then event s1 (laneSrc (48 + r.item % 4)) 0x8006 (u16 r.run1.toNat ++ u16 r.run2.toNat ++ u16 r.run3.toNat) else s1
    if (s.item k r.item).sets = [] then degrade s2 k r.item r.temp else s2

/-- Items calibrated, with event 0xA00C: trigger 0 Start-up, 1 temperature, 2 command. -/
def calibrateAll (s : State) (runs : List CalRun) (trigger : Nat) : State :=
  event (runs.foldl calibrate s) testSrc 0xA00C (u32 runs.length ++ u8 trigger)

/-- How many items are degraded. -/
def degradedItems (s : State) : Nat := (s.test.items.filter fun kv => kv.2.degraded).length

/-! ### SENSOR_READ -/

/-- SENSOR_READ (R632): the sensors and the powers are read, thresholds evaluated, the time to shutdown predicted,
and degraded stake groups compared with their reference temperatures. -/
def execSensorRead (raw : List (Fin 288 × Int)) (powerMw : List (Nat × Nat)) (s : State) : Res :=
  let s1 := raw.foldl (fun s p => updSensor s p.1.val fun x => { x with raw := p.2 }) (takePower (checkThresholds s) powerMw)
  let s2 := (List.range 288).foldl effectiveSensor ((List.range 288).foldl readSensor s1)
  let s3 := checkShutdown (checkThrottles (checkWarnings s2))
  .next (noteResume (driftedGroups (predict s3)))

/-! ### DELAY_LINE_STEP (R191) -/

/-- One step of a delay line towards its target. -/
def lineStep (now target : Nat) (l : DelayLine) : DelayLine :=
  if l.movedAt = some now then l
  else if l.now < target then { now := l.now + 1, target := target, movedAt := some now }
  else if target < l.now then { now := l.now - 1, target := target, movedAt := some now }
  else { l with target := target }

/-- DELAY_LINE_STEP: at an alignment boundary, at most one step per boundary. -/
def execDelayLineStep (line : Nat) (s : State) : Res :=
  .next (if s.atBoundary then { s with test.lines := AMap.upd {} s.test.lines line (lineStep s.now (lineTarget s line)) } else s)

end Sys2Proof.Machine
end

