-- ==== Sys2Proof/Machine/Loading.lean ====
section
/-! DEFINITION. Loading, start-up order, library (07): rows PORST_N to CANCEL_ALL, SYSRST_N_RELEASE, CHAIN_DATA_TIMEOUT and
VAUX_VIN_CORE_REACHED; and the device chain's reports and GO. -/

namespace Sys2Proof.Machine

/-- Whether Start-up is in a phase with nothing holding it: PORST_N and SYSRST_N are not asserted. -/
def atPhase (s : State) (ph : Nat) : Bool :=
  decide (s.mode = .startUp) && decide (s.boot.phase = ph) && !s.boot.porstLow && !s.boot.sysHeld

/-! ### Reports and GO of the device chain (R349 to R351) -/

/-- The source of a chain position's events. -/
def chainSrc (pos : Nat) : Nat := 0xC000 + pos

/-- Whether this device is the chain's position 0 by its boot source (R347). -/
def chainHead (s : State) : Bool := decide (s.boot.strapBoot ≠ 1)

/-- The flags of this device's report, as bits [31:24] of CFG_CHAIN_STATUS (R349). -/
def reportFlags (s : State) (ready : Bool) : Nat :=
  0x80 + 0x40 * b2n ready + 0x20 * b2n s.chain.forwardFailed + 0x10 * b2n (s.boot.bist = 1 || s.boot.bist = 3)

/-- The status of this device's last own section. -/
def ownStatus (s : State) : Nat := s.chain.lastOwnStatus

/-- A report as position 0 stores it: event 0x100C where its status is not 0. -/
def noteReport (s : State) (pos flags reason status : Nat) : State :=
  let s1 := { s with chain := { s.chain with
    reports := AMap.set 0 s.chain.reports pos (flags * 0x1000000 + reason * 0x10000 + status)
    reported := AMap.set false s.chain.reported pos true } }
  if status = 0 then s1 else event s1 (chainSrc pos) 0x100C (u8 pos ++ u16 status)

/-- The device reports: stored at position 0, sent upstream elsewhere. -/
def sendReport (s : State) (ready : Bool) : State :=
  let f := reportFlags s ready
  if chainHead s then noteReport s 0 f s.boot.failReason (ownStatus s)
  else
    hitchSend s true 3 0 (u8 s.chain.position ++ u8 f ++ u8 s.boot.failReason ++ zeros 1 ++ u16 (ownStatus s) ++ zeros 2)

/-- Whether every position up to the last joined has reported done with status 0. -/
def allDone (s : State) : Bool :=
  (List.range s.chain.devices).all fun p =>
    AMap.get false s.chain.reported p && bit (AMap.get 0 s.chain.reports p) 30 && decide (AMap.get 0 s.chain.reports p % 65536 = 0)

/-- GO passed downstream with a countdown shortened by that link's delay (R593). -/
def passGo (s : State) (countdown : Nat) : State :=
  if (s.link false).up then hitchSend s false 4 0xFF (u32 (countdown - ((s.link false).delayPs + 500) / 1000)) else s

/-- Position 0 sends GO. The countdown that it chooses is a free value (log entry 2). -/
def sendGo (s : State) : State :=
  let c := (Config.freeBits s.freeCtr).toNat % 2 ^ 32
  passGo { s.drew 1 with chain := { s.chain with goAt := some (s.now + nsRoots c), goWaitFrom := none } } c

/-- GO sent once every position is done, while chain_sync is set. -/
def checkGo (s : State) : State :=
  if chainHead s ∧ s.num 0x6170 3 = 1 ∧ s.chain.goAt = none ∧ allDone s then sendGo s else s

/-! ### Failure and the load phase (R320 to R326, R336 to R339) -/

/-- Phase 9 with a reason. -/
def failStart (s : State) (reason : Nat) : State :=
  let s1 := { s with boot := { s.boot with phase := 9, failReason := reason }, board.cfgErr := true }
  sendReport (event s1 loaderSrc 0x1009 (u8 reason ++ u16 (ownStatus s1))) false

/-- Whether 64 bytes of flash are a directory (R325). -/
def dirOk (d : List Byte) : Bool :=
  decide (d.length = 64) && decide (d.take 4 = [0x5A, 0x46, 0x44, 0x31]) && decide (natAt d 60 4 = Crypto.crc32c (d.take 60))

/-- What the probing of the flash finds (R322, R323, R325). -/
def probeFlash (s : State) (answers octal : Bool) (flashId : BitVec 32) (d0 d1 : List Byte) : State :=
  let d := if dirOk d0 then d0 else if dirOk d1 then d1 else zeros 64
  { s with boot.flashId := if answers then flashId else 0
           loader := { s.loader with flashAnswers := answers, octal := octal, dirPrimary := natAt d 4 4, dirAlternate := natAt d 8 4,
                                     dirSealed := natAt d 12 4, dirLibrary := natAt d 16 4, dirLibLength := natAt d 20 4 } }

/-- The load phase begins (LOAD_PHASE_START). -/
def beginLoad (s : State) : State :=
  let s1 := { s with boot := { s.boot with phase := 5, verifying := false }, chain.lastDataAt := s.now }
  if s.boot.strapBoot ≠ 0 then s1
  else if ¬ s.loader.flashAnswers then failStart s1 5
  else
    let s2 := if s.loader.octal then s1 else event s1 loaderSrc 0x1005 (u32 s.boot.flashId.toNat)
    if s.loader.dirPrimary = 0 then failStart s2 1 else s2

/-! ### PORST_N, SYSRST_N and the supplies (R308, R309, R315, R319, R712) -/

/-- The reset phase is left once PORST_N is high and both supplies have reached their levels. -/
def leaveReset (s : State) : State :=
  if s.boot.porstLow ∨ ¬ s.boot.suppliesReached ∨ s.boot.phase ≠ 0 then s
  else
    event { s with boot := { s.boot with phase := 1, enteredAt := s.now, lastStepAt := s.now } } loaderSrc 0x1001
      (u8 0 ++ u32 (strapBits s))

/-- PORST_N. -/
def execPorstN (asserted : Bool) (straps : Straps) (s : State) : Res :=
  if asserted then .next { assertPorst s with boot.bdef := straps.bdef, boot.suppliesReached := s.boot.suppliesReached }
  else if ¬ s.boot.porstLow then .next s
  else
    .next (leaveReset { s with boot := { s.boot with porstLow := false, strapBoot := straps.boot, strapBist := straps.bistOverride,
                                                     bdef := straps.bdef } })

/-- VAUX_VIN_CORE_REACHED: the levels of R712 have been reached. -/
def execVauxVinCoreReached (vauxMv vinMv : Nat) (s : State) : Res :=
  if 2100 < vauxMv ∨ 2100 < vinMv then .fault .beyondAbsoluteMaximum
  else
    let s1 := measured { s with board.mv := AMap.set 0 s.board.mv 13 vauxMv } 0 vinMv (decide (1746 ≤ vinMv ∧ vinMv ≤ 1854))
    .next (noteResume (if 1710 ≤ vauxMv ∧ 1746 ≤ vinMv then leaveReset { s1 with boot.suppliesReached := true } else s1))

/-- SYSRST_N asserted for a time (R318, R319). Safe Stop with cause 6 or 7 leaves only through PORST_N (R649). -/
def execSysrstN (widthNs : Nat) (s : State) : Res :=
  let ph := s.boot.phase
  if widthNs < 1000 ∨ (s.mode = .startUp ∧ ph = 0) ∨ (s.mode = .safeStop ∧ 6 ≤ s.power.lastCause) then .next s
  else if s.mode = .startUp ∧ ph < 4 then .next { s with boot.sysNoted := true }
  else .next { abortStream s 0x0604 0 with boot.sysHeld := true }

/-- SYSRST_N_RELEASE: Start-up enters calibration with cause 1. -/
def execSysrstNRelease (s : State) : Res :=
  .next (if s.boot.sysHeld then enterCal { s with boot.sysHeld := false } 1 else s)

/-- A critical block found failing in Start-up: Safe Stop with cause 6, with BIST's code for it (R310, R314). -/
def criticalFailure (s : State) (block : Nat) : State :=
  enterSafeStop (event { s with boot.bist := 3, test.critical := block } modeSrc 0x900F (u8 6 ++ u8 block)) 6

/-! ### Fuse load, BIST and repair (R310, R313, R314, R546, R653, R713) -/

/-- A bank's VCCIO as measured at fuse load. -/
def measureBank (mvs : List (BitVec 16)) (s : State) (b : Nat) : State :=
  let mv := (mvs.getD b 0).toNat
  let std := stdOf b mv
  let s1 := Machine.updBank s b fun x => { x with vccioMv := mv, std := std, unpowered := std.isNone }
  if std.isNone ∧ mv ≠ 0 then excursion s1 (3 + b) mv else s1

/-- FUSE_LOAD_DONE: the root PLL locked and the fuses read; where a critical block (1 root PLL, 2 loader, 3 services) failed
instead, Safe Stop as R314 gives for one. -/
def execFuseLoadDone (critical : Fin 4) (vccioMv : List (BitVec 16)) (s : State) : Res :=
  if ¬ atPhase s 1 then .next s
  else if critical.val ≠ 0 then .next (criticalFailure s critical.val)
  else
    let s1 := sealedStart { s with clk.rootLocked := true, pan.spares := s.fuses.panColumns, test.shifted := s.fuses.rowShift
                                   test.spareVias := s.fuses.viaSpares, test.badSites := s.fuses.badSites
                                   boot := { s.boot with phase := 2, bistTickAt := s.now } }
    let s2 := (List.range 8).foldl (measureBank vccioMv) s1
    let s3 := s.fuses.rowShift.foldl (fun s kv => event s (testSectorSrc kv.1) 0xA003 (u8 kv.1 ++ u8 (kv.2 % 8) ++ u8 0)) s2
    let n := s.fuses.rowShift.length + (s.fuses.panColumns.map (·.2)).sum
    let s4 := sealedRun (event s3 loaderSrc 0x1002 (u32 s.fuses.serial.toNat ++ u32 n))
    .next (if s4.fuses.tamperUnreported then event { s4 with fuses.tamperUnreported := false } loaderSrc 0x1016 (u64 s4.tai) else s4)

/-- The conditions of BIST: supply, reference and junction temperatures. -/
def bistReady (s : State) (refPpm : Int) : Bool :=
  decide (1746 ≤ supplyMv s 0) && decide (supplyMv s 0 ≤ 1854) && decide (-100 ≤ refPpm) && decide (refPpm ≤ 100) &&
    (List.range 288).all fun n => sensorOff s n || (decide (-2560 ≤ (s.sensor n).reading) && decide ((s.sensor n).reading ≤ 6400))

/-- BIST_START. -/
def execBistStart (refPpm : Int) (s : State) : Res :=
  if ¬ atPhase s 2 ∨ s.boot.bistRunning then .next s
  else if s.boot.strapBist then
    .next (event { s with boot := { s.boot with bist := 2, phase := 3 }, test.untested := 0x0F } loaderSrc 0x1004 [])
  else if bistReady s refPpm then .next { s with boot := { s.boot with bistRunning := true, bistTickAt := s.now } }
  else .next s

/-- The hottest and the coldest sensor. -/
def extremes (s : State) : Nat × Nat :=
  match (List.range 288).filter fun n => !sensorOff s n with
  | [] => (0, 0)
  | first :: more =>
    more.foldl (fun p n =>
      (if (s.sensor p.1).reading < (s.sensor n).reading then n else p.1, if (s.sensor n).reading < (s.sensor p.2).reading then n else p.2))
      (first, first)

/-- BIST_WAIT_TICK. -/
def execBistWaitTick (refPpm : Int) (s : State) : Res :=
  if ¬ atPhase s 2 ∨ s.boot.bistRunning ∨ s.boot.strapBist ∨ bistReady s refPpm ∨ ¬ s.elapsed s.boot.bistTickAt 1000000000 then .next s
  else
    let x := extremes s
    .next (event { s with boot.bistTickAt := s.now } loaderSrc 0x1003
      (u16 (supplyMv s 0) ++ u16 (twos refPpm 2) ++ u16 x.1 ++ u16 x.2))

/-- CFG_BOOT.bist once blocks may have been marked. -/
def noteBist (s : State) : State := if s.boot.bist = 0 ∧ s.test.blocks ≠ 0 then { s with boot.bist := 1 } else s

/-- BIST_DONE. -/
def execBistDone (critical : Fin 4) (fails : List FailUnit) (s : State) : Res :=
  if ¬ atPhase s 2 ∨ ¬ s.boot.bistRunning then .next s
  else
    let c := criticalOf critical.val fails
    let dur := s.nsSince s.boot.bistTickAt
    if c ≠ 0 then
      .next (criticalFailure (event { s with boot := { s.boot with bist := 3, bistRunning := false } } testSrc 0xA001 (u8 3 ++ u32 dur)) c)
    else
      let s1 := noteBist (fails.foldl (findFail true) { s with boot := { s.boot with bistRunning := false, phase := 3 } })
      .next (event s1 testSrc 0xA001 (u8 s1.boot.bist ++ u32 dur))

/-- REPAIR_DONE: the repairs of the phase stand; an assertion of SYSRST_N noted before acts now (R319). -/
def execRepairDone (s : State) : Res :=
  if ¬ atPhase s 3 then .next s
  else
    let s1 := noteBist (repairAll s)
    let s2 := { s1 with boot := { s1.boot with phase := 4, lastStepAt := s1.now } }
    .next (if s.boot.sysNoted then enterCal s2 1 else calLanes s2)

/-! ### Calibration and verify (R316, R317, R450, R613, R715) -/

/-- A stack trained, with event 0x4001. -/
def trainStack (s : State) (m : Nat) (init : Bool) : State :=
  let s1 := (List.range 16).foldl (fun s c => s.updChan (16 * m + c) fun x => { x with training := 0 }) s
  let s2 := if init then { s1 with dram.refreshFrom := AMap.set 0 s1.dram.refreshFrom m s.now } else s1
  event { s2 with dram.stack := AMap.set 0 s2.dram.stack m 2 } (stackSrc m) 0x4001 (u8 m ++ u32 (s.nsSince s.boot.lastStepAt) ++ u8 (b2n init))

/-- After an excursion of VDRAM or VPP: every region disabled, every library entry cleared (R715). -/
def forgetDram (s : State) : State :=
  if ¬ s.board.dramLost then s
  else
    let s1 := (List.range 16).foldl (fun s r => if (s.region r).state = 0 ∧ (s.region r).lock = 0 then s else disableRegion s r) s
    { s1 with loader.libDir := [], board.dramLost := false }

/-- The training of the calibration phase. Its initialisation pass, and region 15, come at a Start-up with cause 0, after an
excursion of the DRAM's supplies, and where a Start-up with cause 0 was interrupted before them. -/
def trainDram (s : State) : State :=
  let init := decide (s.boot.cause = 0) || s.board.dramLost || !s.dram.trained
  let s1 := trainStack (trainStack s 0 init) 1 init
  if ¬ init then s1
  else
    let s2 := forgetDram s1
    sealedRegion { s2 with dram := { s2.dram with mem := [], poison := [], trained := true } }

/-- CALIBRATION_DONE: items, DRAM and lanes are calibrated. Where a stake group found failing enters Safe Stop (R666, R672),
Start-up has ended; otherwise it goes to Service, to the verify, or to the load phase,
for which the flash is probed. -/
def execCalibrationDone (runs : List CalRun) (flashAnswers octal : Bool) (flashId : BitVec 32) (dir0 dir1 : List Byte) (s : State) : Res :=
  if ¬ atPhase s 4 ∨ s.boot.verifying then .next s
  else
    let s0 := calibrateAll s runs 0
    let s1 := sealedImage (trainDram s0)
    if s0.mode ≠ .startUp then .next s0
    else if s.boot.strapBoot = 3 then .next (setMode { freezeTeams s1 with clk.stopped := true, clk.changeAt := 0 } .service 0)
    else
      let s2 := if s.boot.strapBoot = 0 then probeFlash s1 flashAnswers octal flashId dir0 dir1 else s1
      .next (if s.boot.cause = 0 then beginLoad s2 else { s2 with boot.verifying := true })

/-- The planes that the verify of R316 covers. -/
def keptPlanes (s : State) : List (Nat × Plane) :=
  s.planes.filter fun kv => kv.2.state = .valid ∨ kv.2.state = .staged ∨ kv.2.state = .active

/-- Whether a plane has a non-zero byte in a frame of an unusable cluster (R663). -/
def usesUnusable (s : State) (g p : Nat) : Bool :=
  (planeFrames s g p).any fun kv => !allZero kv.2 && decide (addrType kv.1 ≠ 7) && !s.usable g (addrCluster kv.1)

/-- Whether a plane fails the verify of R316; one behind a failed configuration group counts as verified (R666). -/
def verifyFails (s : State) (cells : List (Fin 48 × Fin 8)) (k : Nat) (x : Plane) : Bool :=
  let g := k / 8
  let p := k % 8
  !configFailed s g &&
    (cells.any (fun c => decide (c.1.val = g) && decide (c.2.val = p)) || decide (planeCrc s g p ≠ x.crc.toNat) || usesUnusable s g p)

/-- Whether a sector has a usable cluster. -/
def sectorUsable (s : State) (g : Nat) : Bool := decide (AMap.get 0 s.test.unusable g ≠ BitVec.allOnes 64)

/-- Every plane idle and every object at its default (R317), with the settings that objects had put in force. -/
def returnDefaults (s : State) : State :=
  let s1 := (List.range 15).foldl (fun s r => if (s.region r).state = 0 then s else disableRegion s r) s
  { s1 with
    planes := [], frames := [], obj := [], teams := [], grants := []
    fab := { s1.fab with shadow := [], restore := [] }
    dict := { s1.dict with keys := [], levelFault := false, transfers := [], can := {}, pd := {}, gateActive := [], gatePending := none }
    clk := { s1.clk with code := [], next := [] }
    noc := { s1.noc with gtInForce := [], gtPending := [] }
    pan := { s1.pan with windows := [] }
    obs := { s1.obs with counters := [], monitors := [] }
    ecc := { s1.ecc with faulted := [] }
    loader := { s1.loader with libDir := [], copyState := 0, copied := 0 } }

/-- STARTUP_VERIFY_DONE: cells names the planes whose configuration cells read otherwise than written. -/
def execStartupVerifyDone (cells : List (Fin 48 × Fin 8)) (s : State) : Res :=
  if ¬ atPhase s 4 ∨ ¬ s.boot.verifying then .next s
  else
    let kept := keptPlanes s
    let bad := kept.filter fun kv => verifyFails s cells kv.1 kv.2
    let all := (List.range 48).all fun g => !sectorUsable s g || (s.activePlane g).isSome
    if bad = [] ∧ all then
      .next (event { s with boot := { s.boot with verifying := false, image := 5, phase := 6 } } loaderSrc 0x1006 (u16 kept.length))
    else
      let s1 := bad.foldl (fun s kv => event s (0x1000 + kv.1 / 8) 0x2010 (u8 (kv.1 / 8) ++ u8 (kv.1 % 8) ++ u8 (planeCode kv.2.state))) s
      .next (beginLoad (returnDefaults s1))

/-! ### The end of the load phase and activation (R337, R740) -/

/-- Whether every stream from the source has been processed. -/
def sourceDone (s : State) : Bool :=
  s.loader.cur.isNone &&
    (match s.boot.strapBoot.toNat with
     | 0 => !sourceOpen s .primary && !sourceOpen s .alternate && !sourceOpen s .sealed
     | 1 => decide (s.chain.buf = []) && s.chain.dataSeen
     | _ => decide (s.loader.feedBuf = []) && (contextsReady s || decide (s.chain.lastOwnStatus ≠ 0)))

/-- The reason of a load phase that leaves a usable sector without a start-up context (R339). -/
def loadReason (s : State) : Nat :=
  let lacking := (List.range 48).filter fun g =>
    let p := AMap.get 0 s.loader.startCtx g
    sectorUsable s g && !(decide (1 ≤ p) && decide (s.planeSt g (p - 1) = .valid))
  let failed := fun (x : Option Nat) => x.any fun st => decide (st ≠ 0)
  if s.sealed.enabled ∧ failed s.loader.sealedStatus ∧ lacking = [0] then 4
  else if s.boot.strapBoot = 0 ∧ failed s.loader.primaryStatus ∧ (s.loader.dirAlternate = 0 ∨ failed s.loader.alternateStatus) then 2
  else 3

/-- LOAD_PHASE_END. -/
def execLoadPhaseEnd (s : State) : Res :=
  if ¬ atPhase s 5 ∨ ¬ sourceDone s then .next s
  else if contextsReady s then .next (checkGo (sendReport (enterPhase s 6) true))
  else .next (failStart s (loadReason s))

/-- A team whose members' planes differ at activation: its members become 0, with event 0x2011 (R740). -/
def disbandAtActivation (s : State) (t : Nat) : State :=
  event ((disband s t).putObj (0x6210 + t) 1 (u64 0)) (teamSrc t) 0x2011 (u8 t ++ u64 (s.team t).goodMembers.toNat)

/-- A team at activation: it takes its members' plane, or loses its members where they differ. -/
def activateTeam (s : State) (t : Nat) : State :=
  let x := s.team t
  if x.goodMembers = 0 then s
  else
    match (s.members t).map s.activePlane with
    | some p :: rest =>
      if rest.all fun q => decide (q = some p) then
        let s1 := s.updTeam t fun x =>
          { x with active := BitVec.ofNat 8 p, activeComp := ~~~(BitVec.ofNat 8 p), pending := none, fallback := none,
                   frozen := if x.frozen = 2 then 0 else x.frozen }
        if x.held then releaseTeam s1 t else s1
      else disbandAtActivation s t
    | _ => disbandAtActivation s t

/-- A sector's start-up context made active. -/
def activateSector (s : State) (g : Nat) : State :=
  let p := AMap.get 0 s.loader.startCtx g
  if 1 ≤ p ∧ s.planeSt g (p - 1) = .valid then s.setPlane g (p - 1) .active else s

/-- ACTIVATION. -/
def execActivation (s : State) : Res :=
  if ¬ atPhase s 6 then .next s
  else
    let all := List.range 48
    let s1 := (List.range 16).foldl activateTeam (all.foldl activateSector s)
    let s2 := restoreFfs s1 all
    .next { s2 with boot := { s2.boot with phase := 7, activated := true, progress := 0, lastStepAt := s2.now }
                    chain.goWaitFrom := if s2.num 0x6170 3 = 1 ∧ s2.chain.goAt = none then some s2.now else none }

/-! ### The start-up order (R332 to R335) -/

/-- The root period from which the next step's gap counts: that of the last step, of the end of activation, or of GO. -/
def stepBase (s : State) : Option Nat :=
  if s.boot.progress = 0 ∧ s.num 0x6170 3 = 1 then s.chain.goAt else some s.boot.lastStepAt

/-- Whether step k of R332 is taken now. -/
def stepDue (s : State) (k : Nat) : Bool :=
  let o := s.bytesOf 0x6110 1
  let i := s.boot.progress
  atPhase s 7 && s.atBoundary && decide (i < 4) && decide (natAt o (8 * i) 1 = k) &&
    (match stepBase s with
     | some t => decide (t ≤ s.now) && s.elapsed t (natAt o (8 * i + 4) 4)
     | none => false)

/-- Run entered after the fourth step (R334). -/
def enterRun (s : State) : State :=
  let ns := s.nsSince s.boot.enteredAt
  let s1 := { s with boot := { s.boot with phase := 8, startupNs := ns, doneOnce := true }, board.cfgDone := true }
  event (setMode s1 .run 0) loaderSrc 0x1008 (u64 ns ++ u8 s.boot.image)

/-- A step taken with its effect, and event 0x1007. -/
def takeStep (s : State) (k : Nat) (act : State → State) : State :=
  if ¬ stepDue s k then s
  else
    let n := s.boot.progress + 1
    let s1 := event (act { s with boot := { s.boot with progress := n, lastStepAt := s.now } }) loaderSrc 0x1007 (u8 k ++ u64 s.tai)
    if n = 4 then enterRun s1 else s1

/-- CLOCK_LOCK: waiting divisors are in force, and the fabric clocks start. -/
def execClockLock (s : State) : Res :=
  .next (takeStep s 1 fun s => { (List.range 8).foldl takeDivisor s with clk.started := true, clk.stopped := false, clk.changeAt := 0 })

/-- RELEASE_OUTPUTS. -/
def execReleaseOutputs (s : State) : Res := .next (takeStep s 2 fun s => releaseHeads { s with boot.outputsReleased := true })

/-- RELEASE_SET_RESET. -/
def execReleaseSetReset (s : State) : Res := .next (takeStep s 3 fun s => { s with boot.srReleased := true })

/-- ENABLE_WRITES: memories, queues and ports accept writes, and the banks and lanes in use start (R332, R565, R596). -/
def execEnableWrites (s : State) : Res := .next (takeStep s 4 fun s => startLanes (startBanks { s with boot.writesEnabled := true }))

/-- STARTUP_ORDER_WRITE. -/
def execStartupOrderWrite (e : Env) (data : List Byte) (s : State) : Res := hostWrite e 0x6110 1 data actStartupOrder s

/-! ### The host feed (R327) -/

/-- Whether the host feed is open. -/
def feedOpen (s : State) : Bool := (decide (s.boot.phase = 5) && decide (s.boot.strapBoot = 2)) || decide (s.boot.phase = 9)

/-- CFG_HOST_FEED.data. -/
def actHostFeed : Action where
  state := fun s _ _ => need (s.mode = .startUp ∧ feedOpen s) abState
  value := fun s _ _ => need (s.loader.feedBuf.length ≤ 0x1000000) abResources
  apply := fun s _ _ v => takeFeed { s with loader.fed := s.loader.fed + v.length } v

/-- HOST_FEED_DATA. -/
def execHostFeedData (e : Env) (data : List Byte) (s : State) : Res := hostWrite e 0x6101 1 data actHostFeed s

/-! ### The library (R340 to R343) -/

/-- Library entry n. -/
def State.libEntry (s : State) (n : Nat) : LibEntry := AMap.get {} s.loader.libDir n

/-- Library entry n replaced. -/
def setLib (s : State) (n : Nat) (x : LibEntry) : State := { s with loader.libDir := AMap.set {} s.loader.libDir n x }

/-- The first 256-byte boundary after the end of the highest present, or also writing, entry. -/
def libEnd (s : State) (writing : Bool) : Nat :=
  let e := s.loader.libDir.foldl (fun m kv =>
    if kv.2.present || (writing && kv.2.writing) then max m (kv.2.offset + kv.2.length) else m) 0
  (e + 255) / 256 * 256

/-- The length that a stream's header gives it, where its magic is valid (R260). -/
def streamLength (h : List Byte) : Option Nat :=
  if bytesAt h 0 4 = streamMagic then some (512 + 16 * hdrChunks h + hdrPayload h) else none

/-- The library copy fails, with event 0x100F. -/
def copyFailed (s : State) (n : Nat) : State :=
  event { s with loader.copyState := 3 } loaderSrc 0x100F (u8 n ++ u64 s.loader.copied)

/-- One library image copied to the lowest free entry, while the copy goes on. -/
def copyImage (s : State) (img : List Byte) : State :=
  if s.loader.copyState ≠ 1 then s
  else
    match (List.range 64).find? fun n => !(s.libEntry n).present && !(s.libEntry n).writing with
    | none => copyFailed s 0xFF
    | some n =>
      let off := libEnd s true
      if streamLength img ≠ some img.length ∨ s.num 0x6120 2 < off + img.length then copyFailed s n
      else
        let s1 := (pokeAll s 0x40 (s.num 0x6120 1 + off) img).1
        setLib { s1 with loader.copied := s1.loader.copied + img.length } n { present := true, offset := off, length := img.length }

/-- LIBRARY_COPY: the flash's library images, as they stand back to back in it, are copied into the library. The copy waits
while a host fills an entry. -/
def execLibraryCopy (images : List (List Byte)) (s : State) : Res :=
  if s.mode ≠ .run ∨ s.loader.copyState ≠ 0 ∨ s.loader.dirLibrary = 0 ∨ s.num 0x6120 5 ≠ 0xFF ∨
      s.loader.dirLibLength < (images.map List.length).sum then .next s
  else .next (images.foldl copyImage { s with loader := { s.loader with copyState := 1, copied := 0 } })

/-- LIBRARY_COPY_DONE. -/
def execLibraryCopyDone (failed : Bool) (s : State) : Res :=
  if s.loader.copyState ≠ 1 then .next s
  else if failed then .next (copyFailed s 0xFF)
  else
    let n := (s.loader.libDir.filter fun kv => kv.2.present).length
    .next (event { s with loader.copyState := 2 } loaderSrc 0x101B (u8 n ++ u64 s.loader.copied))

/-- CFG_LIBRARY.base or size (R340). -/
def actLibArea (size : Bool) : Action where
  state := fun s _ _ => need ((List.range 64).all fun n => !(s.libEntry n).present) abState
  value := fun s _ v =>
    let other := s.num 0x6120 (if size then 1 else 2)
    need (leNat v % 65536 = 0 ∧ leNat v + other ≤ capacity s) abState

/-- LIBRARY_AREA_WRITE. -/
def execLibraryAreaWrite (e : Env) (size : Bool) (v : U64) (s : State) : Res :=
  hostWrite e 0x6120 (if size then 2 else 1) (u64 v.toNat) (actLibArea size) s

/-- CFG_LIBRARY.write_entry (R342). -/
def actWriteEntry : Action where
  state := fun s _ v =>
    let n := leNat v
    need (n = 0xFF ∨ (s.loader.copyState ≠ 1 ∧ (List.range 64).all fun k => decide (k = n) || !(s.libEntry k).writing)) abState
  apply := fun s _ _ v =>
    let n := leNat v
    if n = 0xFF then
      (List.range 64).foldl (fun s k => if (s.libEntry k).writing then setLib s k { s.libEntry k with present := true, writing := false } else s) s
    else setLib s n { writing := true }

/-- WRITE_ENTRY. -/
def execWriteEntry (e : Env) (v : Byte) (s : State) : Res := hostWrite e 0x6120 5 [v] actWriteEntry s

/-- The place of the next bytes of the entry being filled: its offset, taken at its first bytes, and what it holds. -/
def fillPlace (s : State) (n : Nat) : Nat × Nat :=
  let x := s.libEntry n
  (if x.length = 0 then libEnd s false else x.offset, x.length)

/-- CFG_LIBRARY.write_data (R342). -/
def actWriteData : Action where
  state := fun s _ _ => need (s.num 0x6120 5 < 64) abState
  value := fun s _ v =>
    let p := fillPlace s (s.num 0x6120 5)
    need (p.1 + p.2 + v.length ≤ s.num 0x6120 2) abResources
  apply := fun s _ _ v =>
    let n := s.num 0x6120 5
    let p := fillPlace s n
    let s1 := (pokeAll s 0x40 (s.num 0x6120 1 + p.1 + p.2) v).1
    setLib s1 n { writing := true, offset := p.1, length := p.2 + v.length }

/-- WRITE_DATA. -/
def execWriteData (e : Env) (data : List Byte) (s : State) : Res := hostWrite e 0x6120 6 data actWriteData s

/-! ### Loads at run time (R344 to R346) -/

/-- CFG_LOAD.entry. -/
def actLoadEntry : Action where
  state := fun s _ v =>
    firstOf [need ((s.libEntry (leNat v)).present ∧ ¬ (s.libEntry (leNat v)).writing) abState, need (s.loader.queue.length < 8) abResources]
  apply := fun s _ _ v => { s with loader.queue := s.loader.queue ++ [leNat v] }

/-- LOAD_ENTRY. -/
def execLoadEntry (e : Env) (v : Byte) (s : State) : Res := hostWrite e 0x6130 1 [v] actLoadEntry s

/-- LOAD_START: the next queued load has its turn, with event 0x101A. -/
def execLoadStart (s : State) : Res :=
  match s.loader.queue with
  | [] => .next s
  | n :: rest =>
    if s.loader.cur.isSome ∨ s.loader.loading.isSome then .next s
    else
      .next (event { s with loader := { s.loader with queue := rest, loading := some n } } loaderSrc 0x101A (u8 n ++ u8 rest.length))

/-- CFG_LOAD.cancel. -/
def actLoadCancel : Action where
  apply := fun s _ _ v =>
    let s1 := { abortStream s 0x0605 0 with loader.loading := none }
    if leNat v = 2 then { s1 with loader.queue := [] } else s1

/-- CANCEL_CURRENT. -/
def execCancelCurrent (e : Env) (s : State) : Res := hostWrite e 0x6130 4 [1] actLoadCancel s

/-- CANCEL_ALL. -/
def execCancelAll (e : Env) (s : State) : Res := hostWrite e 0x6130 4 [2] actLoadCancel s

/-- report_timeout in ns. -/
def reportTimeoutNs (s : State) : Nat := s.num 0x6170 4 * 1000000

/-- CHAIN_DATA_TIMEOUT: no chain data within report_timeout in the load phase (R339). -/
def execChainDataTimeout (s : State) : Res :=
  .next (if atPhase s 5 ∧ s.boot.strapBoot = 1 ∧ s.loader.cur.isNone ∧ s.elapsed s.chain.lastDataAt (reportTimeoutNs s) then failStart s 6 else s)

end Sys2Proof.Machine
end

