-- ==== Sys2Proof/Machine/Chain.lean ====
section
/-! DEFINITION. The device chain and the hitch unit (R347 to R351, R590 to R596): rows POSITION to GO_WAIT_TIMEOUT, DELAY_REQ to
REMOTE_RESP, REMOTE_REQUEST_PUSH, REMOTE_TIMEOUT, and LANE_ACTIVE. -/

namespace Sys2Proof.Machine

/-! ### Positions (R347) -/

/-- The device at position 0 counts the positions joined by the senders of what reaches it from downstream. -/
def noteDevice (s : State) (pos : Nat) : State :=
  if chainHead s ∧ pos < 16 then { s with chain.devices := max s.chain.devices (pos + 1) } else s

/-- Whether the device has its position. -/
def hasPosition (s : State) : Bool := chainHead s || s.chain.joined

/-- The device's position sent downstream; a device at position 15 joins no further one, with event 0x100D. -/
def sendPosition (s : State) : State :=
  if ¬ hasPosition s ∨ ¬ (s.link false).up then s
  else if 15 ≤ s.chain.position then event s (chainSrc s.chain.position) 0x100D (u8 s.chain.position)
  else noteDevice (hitchSend s false 1 0xFF (u8 s.chain.position)) (s.chain.position + 1)

/-- POSITION: a device that boots from the chain takes the sender's position plus 1. -/
def execPosition (f : HFrame) (pos : Byte) (s : State) : Res :=
  .next (hitchFrame s f 1 [pos] fun s =>
    if ¬ f.up ∨ chainHead s ∨ 15 ≤ pos.toNat then s
    else
      let p := pos.toNat + 1
      sendPosition (event { s with chain := { s.chain with position := p, joined := true } } (chainSrc p) 0x100A (u8 p)))

/-! ### Chain bytes and reports (R348 to R350) -/

/-- Whether the device forwards chain bytes downstream. -/
def forwards (s : State) : Bool := (s.link false).up && decide (s.chain.position < 15) && !s.chain.forwardFailed

/-- STREAM: chain bytes go on downstream as they arrive, and a device that boots from the chain keeps them for its loader. -/
def execStream (f : HFrame) (bytes : List Byte) (s : State) : Res :=
  .next (hitchFrame s f 2 bytes fun s =>
    let s1 := if f.up ∧ forwards s then chainSend s bytes else s
    if f.up ∧ ¬ chainHead s ∧ s.mode = .startUp ∧ s.boot.phase ≤ 5 then
      takeChain { s1 with chain.lastDataAt := s.now } bytes
    else s1)

/-- The payload of a REPORT frame. -/
def reportBytes (pos flags failReason : Byte) (status : BitVec 16) : List Byte :=
  [pos, flags, failReason, 0] ++ u16 status.toNat ++ zeros 2

/-- REPORT: stored at position 0, relayed upstream elsewhere. -/
def execReport (f : HFrame) (pos flags failReason : Byte) (status : BitVec 16) (s : State) : Res :=
  .next (hitchFrame s f 3 (reportBytes pos flags failReason status) fun s =>
    if f.up then s
    else if chainHead s then
      if 16 ≤ pos.toNat then s
      else checkGo (noteReport (noteDevice s pos.toNat) pos.toNat flags.toNat failReason.toNat status.toNat)
    else
      pump (s.updLink true fun h => { h with waiting := h.waiting ++ [⟨3, 0, f.src.toNat, reportBytes pos flags failReason status⟩] }) true)

/-- REPORT_TIMEOUT: report_timeout after the last chain byte forwarded, each position without a report is marked. -/
def execReportTimeout (s : State) : Res :=
  if ¬ chainHead s ∨ s.chain.lastForwardAt = 0 ∨ ¬ s.elapsed s.chain.lastForwardAt (reportTimeoutNs s) then .next s
  else
    .next ((List.range s.chain.devices).foldl (fun s p =>
      if p = 0 ∨ AMap.get false s.chain.reported p then s
      else event { s with chain.reports := AMap.set 0 s.chain.reports p 0 } (chainSrc p) 0x100E (u8 p))
      { s with chain.lastForwardAt := 0 })

/-! ### GO (R351, R593) -/

/-- GO: the start-up order begins at the frame's arrival plus its countdown; it goes on downstream. -/
def execGo (f : HFrame) (countdown : BitVec 32) (s : State) : Res :=
  .next (hitchFrame s f 4 (u32 countdown.toNat) fun s =>
    if ¬ f.up ∨ chainHead s then s
    else
      passGo { s with chain := { s.chain with goAt := some (s.now + nsRoots countdown.toNat), goWaitFrom := none } } countdown.toNat)

/-- CFG_CHAIN.force_go. -/
def actForceGo : Action where
  state := fun s _ _ => need (chainHead s) abState
  apply := fun s _ _ _ => sendGo s

/-- FORCE_GO. -/
def execForceGo (e : Env) (v : Byte) (s : State) : Res := hostWrite e 0x6170 5 [v] actForceGo s

/-- GO_WAIT_TIMEOUT: phase 9 with reason 7. -/
def execGoWaitTimeout (s : State) : Res :=
  match s.chain.goWaitFrom with
  | none => .next s
  | some t =>
    .next (if atPhase s 7 ∧ s.chain.goAt = none ∧ s.elapsed t (reportTimeoutNs s) then
      failStart { s with chain.goWaitFrom := none } 7
    else s)

/-! ### Link delay (R593) -/

/-- DELAY_REQ: answered with its arrival and send times. -/
def execDelayReq (f : HFrame) (t1 : U64) (s : State) : Res :=
  .next (hitchFrame s f 5 (u64 t1.toNat) fun s => hitchSend s f.up 6 0xFF (u64 t1.toNat ++ u64 s.tai ++ u64 s.tai))

/-- DELAY_RESP: one exchange of the 16 whose mean is the link delay, kept in ps. -/
def execDelayResp (f : HFrame) (t1 t2 t3 t4 : U64) (s : State) : Res :=
  .next (hitchFrame s f 6 (u64 t1.toNat ++ u64 t2.toNat ++ u64 t3.toNat) fun s =>
    let h := s.link f.up
    if 16 ≤ h.delayCount then s
    else
      let d : Int := ((t4.toNat : Int) - t1.toNat) - ((t3.toNat : Int) - t2.toNat)
      let sum := h.delaySum + d * 500
      s.updLink f.up fun h => { h with delaySum := sum, delayCount := h.delayCount + 1, delayPs := (sum / (h.delayCount + 1)).toNat })

/-! ### Remote access (R594, R595) -/

/-- Data padded to a multiple of 16 bytes. -/
def pad16 (bs : List Byte) : List Byte := padTo bs ((bs.length + 15) / 16 * 16)

/-- The bytes of a request message: its header, and for a write its padded data. -/
def requestSize (h : List Byte) : Nat := 16 + (if natAt h 1 1 = 2 then (natAt h 2 2 + 16) / 16 * 16 else 0)

/-- A response message. -/
def responseMsg (src op status tag len : Nat) (data : List Byte) : List Byte :=
  u8 src ++ u8 op ++ u8 status ++ zeros 1 ++ u16 tag ++ u16 (len - 1) ++ zeros 8 ++
    (if op = 1 ∧ status = 0 then pad16 data else [])

/-- A response pushed into resp_window. -/
def pushResponse (s : State) (msg : List Byte) : State :=
  let w := s.num 0x6A60 3
  if 16 ≤ w then s else (windowPush s w msg).1

/-- A response sent back on the chain to the requester. -/
def remoteReply (s : State) (src op tag len status : Nat) (data : List Byte) : State :=
  hitchSend s (decide (src < s.chain.position)) 8 src (responseMsg s.chain.position op status tag len data)

/-- Whether initiator 0x71 holds a free credit (R364). -/
def remoteCredit (s : State) : Bool :=
  hasCredit s { kind := 1, initiator := 0x71, src := 0, dst := 0, tag := 0, address := 0, length := 1, use := .remote 0 1 false }

/-- REMOTE_REQ: the request is issued as initiator 0x71, while remote_en is set in Run and Hold. Without a free credit the frame
is not taken, and its sender sends it again (R591). -/
def execRemoteReq (f : HFrame) (message : List Byte) (s : State) : Res :=
  .next (if ¬ passesOn s f ∧ ¬ remoteCredit s then s else hitchFrame s f 7 message fun s =>
    let op := natAt message 1 1
    let len := natAt message 2 2 + 1
    let tag := natAt message 4 2
    let src := f.src.toNat
    if s.num 0x6A60 1 ≠ 1 ∨ ¬ s.runOrHold then remoteReply s src op tag len 4 []
    else if src = s.chain.position ∨ ¬ (op = 1 ∨ op = 2) ∨ 512 < len then remoteReply s src op tag len 1 []
    else
      issue s { kind := op, initiator := 0x71, src := 0, dst := 0, tag := tag, address := natAt message 8 8, length := len,
                data := if op = 2 then padTo (bytesAt message 16 len) len else [], use := .remote src op f.up })

/-- REMOTE_RESP: pushed into resp_window; one that nothing waits for is discarded. -/
def execRemoteResp (f : HFrame) (message : List Byte) (s : State) : Res :=
  .next (hitchFrame s f 8 message fun s =>
    let tag := natAt message 4 2
    match s.lanes.remotes.find? fun r => decide (r.tag.toNat = tag) with
    | none => s
    | some _ =>
      let i := (indexOf? (fun (r : RemoteReq) => decide (r.tag.toNat = tag)) s.lanes.remotes).getD 0
      pushResponse { s with lanes.remotes := delAt s.lanes.remotes i } message)

/-- The free bytes of resp_window. -/
def responseRoom (s : State) : Nat :=
  let w := s.num 0x6A60 3
  if 16 ≤ w ∨ ¬ windowOn s w then 0 else windowSize s w - (s.window w).fill

/-- REMOTE_REQUEST_PUSH: a whole request message in req_window is taken while resp_window has room for its response, and sent;
one for this device, of no known kind, or without a link to go by is answered here. -/
def execRemoteRequestPush (s : State) : Res :=
  let w := s.num 0x6A60 2
  if 16 ≤ w ∨ ¬ windowOn s w ∨ (s.window w).fill < 16 ∨ 32 ≤ s.lanes.remotes.length then .next s
  else
    let h := (windowIndexed s w 0 16 none .good).2.2
    let n := requestSize h
    let op := natAt h 1 1
    let len := natAt h 2 2 + 1
    let tag := natAt h 4 2
    let dst := natAt h 0 1
    if (s.window w).fill < n ∨ responseRoom s < 16 + (if op = 1 then (len + 15) / 16 * 16 else 0) then .next s
    else
      let p := windowPop s w n .good
      if p.2.1 ≠ 0 then .next p.1
      else
        let s1 := p.1
        let up := decide (dst < s1.chain.position)
        let here := fun (status : Nat) => pushResponse s1 (responseMsg dst op status tag len [])
        if dst = s1.chain.position ∨ 16 ≤ dst ∨ ¬ (op = 1 ∨ op = 2) ∨ 512 < len then .next (here 1)
        else if ¬ (s1.link up).up then .next (here 7)
        else
          .next (hitchSend { s1 with lanes.remotes := s1.lanes.remotes ++ [⟨dst, op, BitVec.ofNat 16 tag, len, s1.now⟩] } up 7 dst p.2.2)

/-- REMOTE_TIMEOUT: response_timeout without a response; the request is answered here with status 5. -/
def execRemoteTimeout (tag : BitVec 16) (s : State) : Res :=
  match indexOf? (fun (r : RemoteReq) => decide (r.tag = tag) && s.elapsed r.at_ (s.num 0x6400 2)) s.lanes.remotes with
  | none => .next s
  | some i =>
    match s.lanes.remotes[i]? with
    | none => .next s
    | some r =>
      let s1 := event { s with lanes.remotes := delAt s.lanes.remotes i } (chainLaneSrc (decide (r.dst < s.chain.position))) 0x800A
        (u8 r.dst ++ u16 tag.toNat)
      .next (pushResponse s1 (responseMsg r.dst r.op 5 tag.toNat r.length []))

/-! ### LANE_ACTIVE (R581, R590, R593, R347) -/

/-- A chain lane's link goes up: numbering and delay start anew; the upstream side measures the delay and gives its position. -/
def linkUp (s : State) (up : Bool) : State :=
  let s1 := s.updLink up fun h => { up := true, waiting := h.waiting }
  if up then pump s1 true
  else
    sendPosition ((List.range 16).foldl (fun s _ => hitchSend s false 5 0xFF (u64 s.tai)) (pump s1 false))

/-- LANE_ACTIVE: step 7 ends; a service lane whose partner reports 10 or 100 Mb/s over SGMII leaves its port down (R589). -/
def execLaneActive (l : LaneId) (slow : Bool) (s : State) : Res :=
  let k := laneKey l
  let x := s.lane k
  if x.step ≠ 7 ∨ (slow ∧ 48 ≤ k ∧ k < 50 ∧ x.rate = 0) then .next s
  else
    let s1 := event (updLane s k fun l => { l with state := activeState l, step := 0 }) (laneSrc k) 0x8001 (u8 x.rate ++ u16 x.fom ++ u8 (laneMode s k))
    .next (if k < 50 then s1 else linkUp s1 (decide (k = 50)))

end Sys2Proof.Machine
end

