-- ==== Sys2Proof/Machine/Integrity.lean ====
section
/-! DEFINITION. The integrity services (11): the scrubber, the integrity monitor and verify; rows SCRUB_READ to
VERIFY_SECTOR_PLANE_DONE. -/

namespace Sys2Proof.Machine

/-- The source of the integrity services' own events (R496). -/
def eccSrc : Nat := 0x0044

/-! ### The scrubber (R474 to R478, R490, R495) -/

/-- Whether the scrubber runs in a channel. -/
def scrubOn (s : State) (ch : Nat) : Bool :=
  decide (s.setting 0x6700 1 = 1) && (s.runOrHold || decide (s.mode = .safeStop)) && decide (stackState s (ch / 16) = 2)

/-- Whether the scrubber reads rank k: in service, retiring, hosting or a free spare. -/
def scrubbedRank (c : Channel) (k : Nat) : Bool := decide (rankState (retOf c) k ≠ 2)

/-- The lines of a channel that a pass reads. -/
def scrubTotal (c : Channel) : Nat := ((List.range 4).filter (scrubbedRank c)).length * rankLines

/-- The next place of a channel's scrub after a rank and line. -/
def afterLine (k i : Nat) : Nat × Nat := if i + 1 < rankLines then (k, i + 1) else (k + 1, 0)

/-- The address of line i of rank k of a channel, by the rank that stores it. -/
def scrubAddr (ch k i : Nat) : Nat := k * rankBytes + lineOff ch i

/-- The device address of a scrubbed line: rank 3 stores the lines of the rank it hosts. -/
def deviceAddr (s : State) (ch k i : Nat) : Nat :=
  let h := (retOf (s.chan ch)).hosted
  if k = 3 ∧ h < 3 then scrubAddr ch h i else scrubAddr ch k i

/-- Where a scrubbed line is stored, and whether in a spare; none where it is not read. -/
def scrubPlace (s : State) (ch k i : Nat) : Option (Nat × Bool) :=
  let c := s.chan ch
  let l := dloc (scrubAddr ch k i)
  if bit c.pcDown l.pc then none
  else
    match remapOf c k l with
    | some none => none
    | some (some e) => some (spareAddr ch k l.pc e, true)
    | none => some (scrubAddr ch k i, false)

/-- The next line that a scrub reads from a place on: past retired ranks, and past lines that are not read. -/
def nextScrub (s : State) (ch : Nat) : Nat → Nat → Nat → Nat × Nat
  | 0, k, i => (k, i)
  | fuel + 1, k, i =>
    if 4 ≤ k then (4, 0)
    else if ¬ scrubbedRank (s.chan ch) k then nextScrub s ch fuel (k + 1) 0
    else if (scrubPlace s ch k i).isSome then (k, i)
    else nextScrub s ch fuel (afterLine k i).1 (afterLine k i).2

/-- A channel's scrub moved to a place. -/
def scrubTo (s : State) (ch : Nat) (p : Nat × Nat) : State :=
  s.updChan ch fun c => { c with scrubRank := p.1, scrubLine := p.2, scrubHeld := none, scrubData := [] }

/-- A pass begins in every channel. -/
def beginPass (s : State) : State :=
  let s1 := (List.range 32).foldl (fun s ch =>
    s.updChan ch fun c => { c with scrubRank := 0, scrubLine := 0, scrubHeld := none, scrubData := [], scrubLate := false, watch := [], passAt := s.now }) s
  { s1 with ecc.scrubCorrected := 0, ecc.scrubStopped := false }

/-- The pass ends once every channel whose stack serves has read its last line, and the next begins (R475). -/
def endPass (s : State) : State :=
  if (List.range 32).all fun ch => decide (stackState s (ch / 16) ≠ 2) || decide (4 ≤ (s.chan ch).scrubRank) then
    let n := satInc s.ecc.scrubPasses maxU32
    beginPass (event { s with ecc.scrubPasses := n } eccSrc 0x500A (u32 n ++ u32 s.ecc.scrubCorrected))
  else s

/-- A channel's scrub moves past its line. -/
def scrubAdvance (s : State) (ch : Nat) : State :=
  let c := s.chan ch
  let p := afterLine c.scrubRank c.scrubLine
  endPass (scrubTo s ch (nextScrub s ch 16 p.1 p.2))

/-- A maintenance transfer of a channel: one transfer of its budget, counted. -/
def maintTransfer (s : State) (ch : Nat) : State := counted (debit s ch 1) (chanSrc ch) 0x0D 0 1

/-- A line written back enters its channel's watch table, displacing the oldest of 16 (R476, R478). -/
def watchLine (s : State) (ch phys a : Nat) : State :=
  let w := (s.chan ch).watch.filter fun x => decide (x.1 ≠ phys / 64)
  let s1 := event (s.updChan ch fun c => { c with watch := w.drop (w.length - 15) ++ [(phys / 64, a)] }) (chanSrc ch) 0x5006 (u64 a)
  match w with
  | old :: _ => if w.length = 16 then event s1 (chanSrc ch) 0x5011 (u8 ch ++ u64 old.2) else s1
  | [] => s1

/-- A corrected line, data, written back and read again: a newer copy discards the write-back, an erring verify read makes the
line a hard fault, and otherwise it is watched (R403, R476 to R478). -/
def scrubWrite (s : State) (ch : Nat) (data : List Byte) (verifyErrs : Bool) (spareErrs : List Bool) : State :=
  let c := s.chan ch
  let a := deviceAddr s ch c.scrubRank c.scrubLine
  let sl := homeSlice s a
  let s1 := updSlice (maintTransfer s ch) sl fun x => { x with maint := x.maint.filter fun e => decide (e.1 ≠ a / 64) }
  match scrubPlace s ch c.scrubRank c.scrubLine with
  | none => s1
  | some (phys, spare) =>
    match newerCopy s1 a with
    | some (src, code) => event s1 src code (if code = 0x4806 then u8 sl ++ u64 a else u64 a)
    | none =>
      let s2 := storeLine (maintTransfer s1 ch) phys data false
      if verifyErrs ∧ ¬ spare then
        hardFault s2 ch c.scrubRank (dloc (scrubAddr ch c.scrubRank c.scrubLine)) a data spareErrs
      else watchLine s2 ch phys a

/-- What the scrub read of a line does by its class (R476). -/
def scrubOutcome (s : State) (ch phys a : Nat) (spare : Bool) (symbols : Nat) (verifyErrs : Bool) (spareErrs : List Bool) : State :=
  let c := s.chan ch
  let l := dloc (scrubAddr ch c.scrubRank c.scrubLine)
  let k := lineClass s (AMap.get false s.dram.poison (phys / 64)) symbols
  let data := lineBytes s symbols k (storedLine s phys)
  let s1 := (accessRow (lineDrew s symbols) l c.scrubRank spare).updChan ch (countLine · k)
  let s2 := counted (lineEvent s1 ch a 0x44 symbols k) (chanSrc ch) 0x02 0 1
  match k with
  | .good => scrubAdvance s2 ch
  | .poisoned => scrubAdvance s2 ch
  | .bad => scrubAdvance (retireRank s2 ch c.scrubRank 0) ch
  | .corrected =>
    let s3 := counted { s2 with ecc.scrubCorrected := s2.ecc.scrubCorrected + 1 } (chanSrc ch) 0x0F 0 1
    if watched c phys ∧ ¬ spare then
      scrubAdvance (hardFault s3 ch c.scrubRank l a data spareErrs) ch
    else if (s3.chan ch).budget ≤ 0 then s3.updChan ch fun c => { c with scrubHeld := some (a / 64, s.now), scrubData := data }
    else scrubAdvance (scrubWrite s3 ch data verifyErrs spareErrs) ch

/-- The address of the line about to be read by the channel that is furthest back. -/
def scrubStop (s : State) : Nat :=
  let place := fun ch => (s.chan ch).scrubRank * rankLines + (s.chan ch).scrubLine
  let ch := (List.range 32).foldl (fun m ch => if place ch < place m then ch else m) 0
  deviceAddr s ch (s.chan ch).scrubRank (s.chan ch).scrubLine

/-- A setting of ECC_SCRUB found mismatched (R490). -/
def scrubFallback (s : State) (sub : Nat) : State :=
  event (countComp ((s.resetObj 0x6700 1).resetObj 0x6700 2) 0x6700 sub) eccSrc 0x500F (u64 (scrubStop s))

/-- ECC_SCRUB's settings compared at their use (R46). -/
def useScrub (s : State) : State :=
  [1, 2].foldl (fun s k => if s.pairOk 0x6700 k then s else scrubFallback s k) s

/-- Whether the even spread of a pass over pass_hours lets a channel read its next line (R475). -/
def scrubDue (s : State) (ch : Nat) : Bool :=
  let c := s.chan ch
  decide (s.setting 0x6700 2 * 3600000000000 * 48 ≤ (s.now - c.scrubAt) * 5 * max 1 (scrubTotal c)) || decide (c.scrubAt = 0)

/-- SCRUB_READ (R474 to R478): the next line of a channel is read, or the write-back of a line held for want of budget
goes ahead; symbols, verifyErrs and spareErrs tell what the reads of the line, its verify and the remap spares find. -/
def execScrubRead (channel : Fin 32) (symbols : Nat) (verifyErrs : Bool) (spareErrs : List Bool) (s : State) : Res :=
  let s := useScrub s
  let ch := channel.val
  if ¬ scrubOn s ch then .next s
  else
    let s0 := if s.ecc.scrubStopped then beginPass s else s
    let s1 := refillBudget (checkRemaps (settleRet s0 ch) ch) ch
    let c := s1.chan ch
    if c.budget ≤ 0 then .next s1
    else if c.scrubHeld.isSome then
      .next (scrubAdvance (if c.scrubHeld.any fun h => s1.elapsed h.2 10000 then s1 else scrubWrite s1 ch c.scrubData verifyErrs spareErrs) ch)
    else if 4 ≤ c.scrubRank ∨ ¬ scrubDue s1 ch then .next s1
    else
      let p := nextScrub s1 ch 16 c.scrubRank c.scrubLine
      let s2 := scrubTo s1 ch p
      match scrubPlace s2 ch p.1 p.2 with
      | none => .next (endPass s2)
      | some (phys, spare) =>
        let a := deviceAddr s2 ch p.1 p.2
        let sl := homeSlice s2 a
        if 64 ≤ (s2.slice sl).maint.length then .next s2
        else
          let s3 := updSlice (maintTransfer s2 ch) sl fun x => { x with maint := x.maint ++ [(a / 64, s.now)] }
          .next (scrubOutcome (s3.updChan ch fun c => { c with scrubAt := s.now }) ch phys a spare symbols verifyErrs spareErrs)

/-- SCRUB_WRITEBACK_TIMEOUT (R477). -/
def execScrubWritebackTimeout (channel : Fin 32) (s : State) : Res :=
  match (s.chan channel.val).scrubHeld with
  | none => .next s
  | some (_, t) => .next (if s.elapsed t 10000 then scrubAdvance s channel.val else s)

/-- SCRUB_PASS_LATE (R475). -/
def execScrubPassLate (channel : Fin 32) (s : State) : Res :=
  let s := useScrub s
  let ch := channel.val
  let c := s.chan ch
  if s.ecc.scrubStopped ∨ c.scrubLate ∨ 4 ≤ c.scrubRank ∨ ¬ s.elapsed c.passAt (s.setting 0x6700 2 * 3600000000000) then .next s
  else .next (event (s.updChan ch fun c => { c with scrubLate := true }) (chanSrc ch) 0x500B (u8 ch))

/-! ### The integrity monitor (R46, R488 to R490) -/

/-- An object's stored pair with bits of its value changed. -/
def upsetObj (s : State) (idx sub : Nat) (m : Nat) : State :=
  if isRwp idx sub then
    let v := s.bytesOf idx sub
    let c := if s.stored idx sub = {} then complBytes v else (s.stored idx sub).comp
    { s with obj := AMap.set {} s.obj (objKey idx sub) ⟨leBytes (leNat v ^^^ m) v.length, c⟩ }
  else s

/-- A particle strike on a redundantly stored value: the bits of a mask change. -/
def strike (s : State) (p : PairRef) (m : U64) : State :=
  match p with
  | .object idx sub => upsetObj s idx.toNat sub.toNat m.toNat
  | .teamActive t => s.updTeam t.val fun x => { x with active := x.active ^^^ m.setWidth 8 }
  | .remap ch e =>
    s.updChan ch.val fun c => { c with remap := AMap.upd {} c.remap e.val fun r =>
      let v := ((b2n r.valid * 2 ^ 25 + r.line) ^^^ m.toNat) % 2 ^ 26
      { r with valid := decide (2 ^ 25 ≤ v), line := v % 2 ^ 25 } }
  | .root r => s.updRegion r.val fun x => { x with root := x.root ^^^ m }
  | .sealedTable k => { s with sealed.table := AMap.upd {} s.sealed.table k.val fun x => { x with val := x.val ^^^ m } }
  | .sealedStore k => { s with sealed.store := AMap.upd {} s.sealed.store k.val fun x => { x with val := x.val ^^^ m } }
  | .sealedArea a =>
    let first8 := fun (b : List Byte) => leBytes (natAt b 0 8 ^^^ m.toNat) 8 ++ b.drop 8
    let x := { s.sealed with flips := AMap.set 0 s.sealed.flips a.val (AMap.get 0 s.sealed.flips a.val ^^^ m) }
    { s with sealed :=
        match a with
        | 0 => { x with counter := (x.counter ^^^ m.toNat) % 2 ^ 32 }
        | 1 => { x with audit := x.audit.modify (x.audit.length - 1) fun r => { r with new := r.new ^^^ m } }
        | 2 => { x with streamHash := first8 (padTo x.streamHash 32) }
        | _ => { x with key := first8 (padTo x.key 32) } }
  | .retirement ch k =>
    let flip : RetCopy → RetCopy := fun r => { r with ranks := r.ranks ^^^ m.toNat % 256 }
    s.updChan ch.val fun c =>
      if k.val = 0 then { c with c0 := flip c.c0 } else if k.val = 1 then { c with c1 := flip c.c1 } else { c with c2 := flip c.c2 }

/-- The fallback of an object whose stored pair mismatches (R488). -/
def objFallback (s : State) (idx sub : Nat) : State :=
  if idx = 0x1110 then levelFault s
  else if 0x6210 ≤ idx ∧ idx ≤ 0x621F ∧ sub ≤ 4 then
    teamFault s (idx - 0x6210) sub
  else if idx = 0x6150 then compEvent (s.putObj idx sub [0xFF]) idx sub
  else if idx = 0x6601 ∧ sub = 1 then compEvent (s.putObj idx sub (u8 (b2n s.dram.sparesInForce))) idx sub
  else if idx = 0x6601 then dramFallback s sub
  else if idx = 0x6700 then scrubFallback s sub
  else if 0x6810 ≤ idx ∧ idx ≤ 0x681F then
    if (s.region (idx - 0x6810)).state = 3 then s else regionCompFault s (idx - 0x6810) sub
  else if 0x6920 ≤ idx ∧ idx ≤ 0x6927 then
    pinFallback s (idx - 0x6920) (sub - 1)
  else if idx = 0x6B20 then thresholdFault s sub
  else compEvent (s.resetObj idx sub) idx sub

/-- The stored objects whose pairs mismatch. -/
def badPairs (s : State) : List ObjKey :=
  (s.obj.filter fun kv => isRwp (kv.1 / 256) (kv.1 % 256) && !s.pairOk (kv.1 / 256) (kv.1 % 256)).map (·.1)

/-- A region's root compared with its complement (R527). -/
def checkRoot (s : State) (r : Nat) : State :=
  if rootOk (s.region r) ∨ (s.region r).state = 3 then s else regionCompFault s r 0x0A

/-- The working table compared: reloaded from the record store, and the image rewritten (R606). -/
def checkTable (s : State) : State :=
  if ¬ s.sealed.enabled then s
  else
    let s0 := storeCheck s
    match (List.range 256).find? fun p => !paramOk (sealParam s0 p) with
    | none => s0
    | some p =>
      tableFault (countComp s0 (0x7020 + p / 128) (p % 128 + 1)) p

/-- Team faults that no longer stand are forgotten. -/
def dropPairFaults (s : State) : State :=
  { s with ecc.faulted := s.ecc.faulted.filter fun k => decide (k % 256 = 7) || !s.pairOk (k / 256) (k % 256) }

/-- COMPLEMENT_CHECK (R489): every pair is compared, after an upset where there was one, and each mismatch takes its
fallback. The monitor runs from fuse load (R495). -/
def execComplementCheck (upset : Option (PairRef × U64)) (s : State) : Res :=
  let s0 := match upset with
    | some (p, m) => strike s p m
    | none => s
  if ¬ s.available then .next s0
  else
    let s1 := (badPairs (dropPairFaults s0)).foldl (fun s k => if s.pairOk (k / 256) (k % 256) then s else objFallback s (k / 256) (k % 256)) (dropPairFaults s0)
    let s2 := (List.range 16).foldl checkActive s1
    let s3 := (List.range 16).foldl checkRoot s2
    let s4 := (List.range 32).foldl (fun s ch => checkRemaps (settleRet s ch) ch) s3
    .next (checkTable s4)

/-! ### Counts (R489) -/

/-- ECC_CMD.clear_counts. -/
def actClearCounts : Action where
  value := fun _ _ v => need (leNat v = 1) abRange
  apply := fun s _ _ _ =>
    let s1 := (List.range 32).foldl (fun s ch => s.updChan ch fun c =>
      { c with corrected := 0, uncorrectable := 0, poisoned := 0, hardFaults := 0, saturated := false }) s
    { s1 with ecc := { s1.ecc with wale := [], pan := [], blockmem := [], compFaults := 0, lastRef := 0 },
              obs.errorReg := s1.obs.errorReg &&& 0xDF }
  stores := false

/-- CLEAR_COUNTS. -/
def execClearCounts (e : Env) (v : Byte) (s : State) : Res := hostWrite e 0x6730 1 [v] actClearCounts s

/-! ### Verify (R491 to R495) -/

/-- Whether a plane is verified: valid, staged or active. -/
def verifiable (s : State) (g p : Nat) : Bool :=
  decide (s.planeSt g p = .valid) || decide (s.planeSt g p = .staged) || decide (s.planeSt g p = .active)

/-- The sector-planes that a request names. -/
def namedPlanes (v : Nat) : List Nat :=
  (bitsSet v 48).flatMap fun g => (bitsSet (v / 2 ^ 48 % 256) 8).map fun p => g * 8 + p

/-- A request or round ends once nothing is left: event 0x5010, and a round that waits goes on. -/
def verifyEnded (s : State) : State :=
  if ¬ s.ecc.verifyRunning ∨ s.ecc.verifyQ ≠ [] then s
  else
    let s1 := endVerify s
    match s1.ecc.roundWaits with
    | [] => s1
    | q => { s1 with ecc := { s1.ecc with verifyQ := q, verifyRunning := true, verifyRound := true, roundWaits := [],
                                          verifyDone := s1.ecc.roundDone, mismatches := s1.ecc.roundMism } }

/-- Whether ECC_CMD.verify is served in the present mode. -/
def verifyMode (s : State) : Bool := decide (s.mode ≠ .startUp) && decide (s.mode ≠ .stable)

/-- Whether a Service test has a sector's planes in hand (R495, R673). -/
def sectorUnderTest (s : State) (g : Nat) : Bool :=
  decide (s.test.testState = 1) &&
    ((decide (s.test.testKind = 1) && decide (s.test.testTarget = towerOf g)) || (decide (s.test.testKind = 2) && decide (s.test.testTarget = g)))

/-- ECC_CMD.verify (R493): a round in progress waits behind the request. -/
def actVerify : Action where
  state := fun s _ v =>
    firstOf
      [need (verifyMode s) abState,
       need (¬ (s.ecc.verifyRunning ∧ ¬ s.ecc.verifyRound)) abState,
       need ((namedPlanes (leNat v)).all fun k => decide (s.planeSt (k / 8) (k % 8) ≠ .loading)) abState,
       need ((bitsSet (leNat v) 48).all fun g => !configFailed s g && !sectorUnderTest s g) abState]
  value := fun _ _ v => need (leNat v < 2 ^ 56) abRange
  apply := fun s _ _ v =>
    let x := s.ecc
    let e := if x.verifyRunning then { x with roundWaits := x.verifyQ, roundDone := x.verifyDone, roundMism := x.mismatches } else x
    verifyEnded { s with ecc := { e with verifyQ := (namedPlanes (leNat v)).filter (fun k => verifiable s (k / 8) (k % 8)),
                                         verifyRunning := true, verifyRound := false, verifyDone := 0, mismatches := 0 } }
  stores := false

/-- VERIFY. -/
def execVerify (e : Env) (v : U64) (s : State) : Res := hostWrite e 0x6730 2 (u64 v.toNat) actVerify s

/-- The sector-planes of a round. -/
def roundPlanes (s : State) : List Nat := (List.range 384).filter fun k => verifiable s (k / 8) (k % 8) && !configFailed s (k / 8) && !sectorUnderTest s (k / 8)

/-- VERIFY_ROUND (R494): a round starts each interval; one that comes due behind a request waits for it, and one that
comes due during a round starts when that round has ended. -/
def execVerifyRound (s : State) : Res :=
  let x := s.ecc
  let t := s.num 0x6730 5
  if t = 0 ∨ ¬ verifyMode s ∨ ¬ s.elapsed x.roundAt (t * 1000000000) ∨ x.roundWaits ≠ [] ∨ (x.verifyRunning ∧ x.verifyRound) then .next s
  else if x.verifyRunning then
    .next { s with ecc := { x with roundWaits := roundPlanes s, roundDone := 0, roundMism := 0, roundAt := s.now } }
  else
    .next (verifyEnded { s with ecc := { x with verifyQ := roundPlanes s, verifyRunning := true, verifyRound := true,
                                                verifyDone := 0, mismatches := 0, roundAt := s.now } })

/-- Whether a stream writes frames into a tower: a plane there is loading. -/
def streamIn (s : State) (t : Nat) : Bool := s.planes.any fun kv => decide (towerOf (kv.1 / 8) = t) && decide (kv.2.state = .loading)

/-- A verify mismatch acts by the plane's state (R205). -/
def planeMismatch (s : State) (g p : Nat) : State :=
  let rec0 := fun (x : State) => event x (0x1000 + g) 0x2010 (u8 g ++ u8 p ++ u8 (planeCode (s.planeSt g p)))
  let losesSafe := fun (x : State) =>
    match s.teamOf g with
    | some t =>
      if (x.team t).fallback.isSome ∧ (x.team t).goodSafe = p then holdTeam x t ((x.team t).fallback.elim 0 (·.cause)) else x
    | none => x
  let owner := s.teamOf g
  match s.planeSt g p with
  | .active => rec0 s
  | .valid => losesSafe (rec0 (s.setPlane g p .invalid))
  | .staged =>
    let s1 := losesSafe (rec0 (s.setPlane g p .invalid))
    match owner with
    | none => s1
    | some t => if (s1.team t).pending.any fun q => decide (q.plane = p) then cancelPending s1 t 4 else s1
  | _ => s

/-- VERIFY_SECTOR_PLANE_DONE (R492, R205): the verify of the sector-plane at the head ends, unless a stream holds its
tower; cellFault tells that a cell of the plane store has failed. -/
def execVerifySectorPlaneDone (cellFault : Bool) (s : State) : Res :=
  match s.ecc.verifyQ with
  | [] => .next s
  | k :: rest =>
    let g := k / 8
    let p := k % 8
    if ¬ s.ecc.verifyRunning ∨ streamIn s (towerOf g) then .next s
    else
      let bad := verifiable s g p && (cellFault || decide (planeCrc s g p ≠ (s.plane g p).crc.toNat))
      let s1 := { s with ecc := { s.ecc with verifyQ := rest, verifyDone := s.ecc.verifyDone + 1,
                                             mismatches := s.ecc.mismatches + b2n bad } }
      .next (verifyEnded (if bad then planeMismatch s1 g p else s1))

end Sys2Proof.Machine
end

