-- ==== Sys2Proof/Machine/TestRepair.lean ====
section
/-! DEFINITION. Stake monitors, row shifts by command, run-time calibration, Service tests and JTAG (17): rows
STAKE_MONITOR_ERROR to BYPASS. -/

namespace Sys2Proof.Machine

/-! ### Stake monitors (R664 to R666) -/

/-- Whether a group's domains are on, and the mode has its monitor checked (R664, R678): from the end of repair. -/
def monitored (s : State) (g : StakeGroup) : Bool :=
  (decide (s.mode ≠ .startUp) || decide (4 ≤ s.boot.phase)) &&
    match g with
    | .cluster g _ => s.sectorOn g.val
    | .tower t _ _ => (towerSectors t.val).any s.sectorOn

/-- The source of a group's events. -/
def groupSrc : StakeGroup → Nat
  | .cluster g _ => testSectorSrc g.val
  | .tower t _ _ => testTowerSrc t.val

/-- A failing via replaced by a spare, with event 0xA005; a group without one is failed. -/
def replaceVia (g : StakeGroup) (s : State) (via : Fin 81) : State :=
  let key := groupKey g
  let used := sparesUsed s key
  if groupFailed s key then s
  else if used < groupSpares key then
    event { s with test.spareVias := AMap.set 0 s.test.spareVias key (used + 1) } (groupSrc g) 0xA005
      (u16 key ++ u8 via.val ++ u8 (groupSpares key - used - 1))
  else failGroup s g

/-- STAKE_MONITOR_ERROR (R665): a third error of a group within 1 ms makes the farrier find its failing vias. -/
def execStakeMonitorError (g : StakeGroup) (vias : List (Fin 81)) (s : State) : Res :=
  let key := groupKey g
  if ¬ monitored s g ∨ groupFailed s key then .next s
  else
    let times := ((AMap.get [] s.test.monErr key).filter fun t => !s.elapsed t 1000000) ++ [s.now]
    let tower := match g with
      | .cluster g _ => towerOf g.val
      | .tower t _ _ => t.val
    let s1 := { s with test.monAt := AMap.set 0 s.test.monAt tower (s.now + 1) }
    if times.length < 3 then .next { s1 with test.monErr := AMap.set [] s.test.monErr key times }
    else .next (vias.foldl (replaceVia g) { s1 with test.monErr := AMap.set [] s.test.monErr key [] })

/-! ### Row shift by command (R659 to R662) -/

/-- FAB_REPAIR_CMD.shift. -/
def actShift : Action where
  state := fun s who v =>
    let g := field (leNat v) 13 8
    firstOf
      [need (s.mode = .service) abState,
       need (¬ s.isSealedSector g ∨ sealedRight s who) abSealed,
       need (rowShift s g = 0 ∧ ¬ spareBad s g ∧ s.test.shiftBusy.isNone) abState]
  value := fun _ _ v => need (leNat v &&& 0xC0F8 = 0 ∧ field (leNat v) 13 8 < 48) abRange
  apply := fun s _ _ v => { s with test.shiftBusy := some (field (leNat v) 13 8, field (leNat v) 2 0, s.now) }
  stores := false

/-- SHIFT. -/
def execShift (e : Env) (v : BitVec 16) (s : State) : Res := hostWrite e 0x6302 1 (u16 v.toNat) actShift s

/-- ROW_SHIFT_DONE (R661): each moving row took 25 µs; the skip paths are selected, the fuse is blown, and the sector's
capture buffers are emptied. -/
def execRowShiftDone (s : State) : Res :=
  match s.test.shiftBusy with
  | none => .next s
  | some (g, row, t) =>
    if ¬ s.elapsed t ((8 - row) * 25000) then .next s
    else
      let s1 := { s with test.shiftBusy := none, cap.buffers := s.cap.buffers.filter fun kv => decide (kv.1 / 524288 ≠ g) }
      .next (applyShift (moveRows s1 g row) g row 2)

/-! ### Run-time calibration (R671) -/

/-- Whether an item's reference temperature has moved by more than cal_delta from its newest set, or from 25 °C where it runs
on its production set. -/
def itemMoved (s : State) (r : CalRun) : Bool :=
  decide ((s.num 0x6B40 1 : Int) * 64 < apart r.temp (((s.item r.kind.val r.item).sets.head?.map (·.1)).getD 1600))

/-- Items calibrated in service: delay lines, which hold no traffic, and DRAM items, whose channel retrains (R451); lanes and sensor
offsets only at Start-up. -/
def recalibrate (s : State) (runs : List CalRun) (trigger : Nat) : State :=
  let served := runs.filter fun r => decide (r.kind.val ≤ 3)
  let chans := (runs.filter fun r => decide (r.kind.val = 3)).map fun r => r.item / 72 % 32
  let s1 := calibrateAll s served trigger
  chans.foldl (fun s ch => if (s.chan ch).training = 0 then beginRetrain s ch else s) s1

/-- TEMPERATURE_CALIBRATION: in Run and Hold. -/
def execTemperatureCalibration (r : CalRun) (s : State) : Res :=
  .next (if s.runOrHold ∧ itemMoved s r ∧ r.kind.val ≤ 3 then recalibrate s [r] 1 else s)

/-- CAL_CFG.command, with what the runs of the items find. -/
def actCalibrate (runs : List CalRun) : Action where
  state := fun s _ _ => need (runHoldService s) abState
  value := fun _ _ v => need (leNat v = 1) abRange
  apply := fun s _ _ _ => recalibrate s runs 2
  stores := false

/-- CALIBRATE_NOW. -/
def execCalibrateNow (e : Env) (runs : List CalRun) (s : State) : Res := hostWrite e 0x6B40 2 [1] (actCalibrate runs) s

/-! ### Service tests (R673, R674) -/

/-- The largest target of a kind of test, plus one. -/
def testTargets (kind : Nat) : Nat :=
  match kind with
  | 1 => 4 | 2 => 48 | 3 => 32 | 4 => 16 | 5 => 128 | 6 => 12 | 7 => 4 | _ => 0

/-- How long a test takes, in ns. -/
def testNs (kind : Nat) : Nat :=
  match kind with
  | 1 => 12000000 | 2 => 18000000 | 3 => 1000000 | 4 => 6000000 | 5 => 650000000 | 6 => 40000000 | _ => 2000000

/-- Whether a test reaches what the sealed partition keeps: sector 0, pannier bank 31, the sealed DRAM region (R621). -/
def testSealed (s : State) (kind target : Nat) : Bool :=
  s.sealed.enabled &&
    match kind with
    | 1 => decide (target = 0) | 2 => decide (target = 0) | 3 => decide (target = 31)
    | 5 => decide (target % 4 = 0) | 7 => decide (target = 0) | _ => false

/-- Whether the test stake group that a test needs has failed in its tower (R666). -/
def testGroupDown (s : State) (kind target : Nat) : Bool :=
  match kind with
  | 1 => towerGroupFailed s target 11
  | 2 => towerGroupFailed s (towerOf target) 11
  | 7 => towerGroupFailed s target 11
  | _ => false

/-- Whether a region's data or metadata lies in a channel-rank's rank. -/
def regionInRank (s : State) (r k : Nat) : Bool :=
  let inRank := fun (base len : Nat) => decide (0 < len) && decide (base / rankBytes ≤ k) && decide (k ≤ (base + len - 1) / rankBytes)
  decide ((s.region r).state ≠ 0) && (inRank (regionBase s r) (regionSize s r) || inRank (regionMeta s r) (s.region r).metaLength)

/-- What a test overwrites when it starts (R144, R205, R426, R464, R528). -/
def testBegins (s : State) (kind target : Nat) : State :=
  match kind with
  | 1 => loseSectors s (towerSectors target)
  | 2 =>
    { s with
      planes := s.planes.filter fun kv => decide (kv.1 / 8 ≠ target)
      frames := s.frames.filter fun kv => decide (addrSector kv.1 ≠ target)
      fab.shadow := s.fab.shadow.filter fun kv => decide (ffSector (kv.1 / 8) ≠ target)
      cap.buffers := s.cap.buffers.filter fun kv => decide (kv.1 / 524288 ≠ target) }
  | 3 => if target < 30 then setBank s target 2 else s
  | 4 => updSlice (flushNow (settleDram s) target true) target fun x => { x with off := true }
  | 5 =>
    let ch := target / 4
    let k := target % 4
    let s1 := (List.range 16).foldl (fun s r => if (ranksStored s ch k).any (regionInRank s r) then disableRegion s r else s) s
    { s1 with
      dram.mem := s1.dram.mem.filter fun kv => !(decide (kv.1 / rankBytes = k) && decide ((dloc kv.1).chan = ch))
      dram.poison := s1.dram.poison.filter fun kv => !(decide (kv.1 * 64 / rankBytes = k) && decide ((dloc (kv.1 * 64)).chan = ch)) }
  | _ => s

/-- TEST_RUN.command. -/
def actTestRun : Action where
  state := fun s _ _ => need (s.mode = .service ∧ s.test.testState ≠ 1) abState
  value := fun s who v =>
    let kind := s.num 0x6C01 1
    let target := s.num 0x6C01 2
    firstOf
      [need (leNat v = 1 ∧ target < testTargets kind) abRange,
       need (¬ testSealed s kind target ∨ sealedRight s who) abSealed,
       need (¬ testGroupDown s kind target) abState]
  apply := fun s _ _ _ =>
    let kind := s.num 0x6C01 1
    let target := s.num 0x6C01 2
    let s1 := testBegins s kind target
    { s1 with test := { s1.test with testState := 1, testKind := kind, testTarget := target, testAt := s.now, testResult := [] } }
  late := fun s _ c => if c = abSealed ∨ c = abState then { s with test.testState := 4 } else s
  stores := false

/-- TEST_RUN_START. -/
def execTestRunStart (e : Env) (s : State) : Res := hostWrite e 0x6C01 3 [1] actTestRun s

/-- Whether a failing unit lies in what a test tests, and is more than its spares make good. -/
def failsTest (s : State) (kind target : Nat) : FailUnit → Bool
  | .cluster g _ => (decide (kind = 1) && decide (towerOf g.val = target)) || (decide (kind = 2) && decide (g.val = target))
  | .panColumn b _ => decide (kind = 3) && decide (b.val = target)
  | .waleWay sl _ => decide (kind = 4) && decide (sl.val = target)
  | .waleSlice sl => decide (kind = 4) && decide (sl.val = target)
  | .channelRank ch k => decide (kind = 5) && decide (ch.val * 4 + k.val = target)
  | .laneQuad q => decide (kind = 6) && decide (q.val = target)
  | .clusterVia g c n => decide (kind = 7) && decide (towerOf g.val = target) && decide (8 < sparesUsed s (g.val * 64 + c.val) + n)
  | .towerVia t grp k n => decide (kind = 7) && decide (t.val = target) && decide (16 < sparesUsed s (copyKey t.val grp.val k.val) + n)
  | _ => false

/-- Whether a unit that a test found takes spares without failing. -/
def takesSpares (kind target : Nat) : FailUnit → Bool
  | .clusterVia g _ _ => decide (kind = 7) && decide (towerOf g.val = target)
  | .towerVia t _ _ _ => decide (kind = 7) && decide (t.val = target)
  | .faceSite g _ _ _ _ => decide (kind = 1) && decide (towerOf g.val = target)
  | _ => false

/-- Whether a face-to-face site found failing is in a shift group with more failing sites than it repairs (R654). -/
def siteBeyond (s : State) (fails : List FailUnit) : FailUnit → Bool
  | .faceSite g c tile grp _ =>
    let k := siteKey g.val c.val tile.val grp.val
    let all := fails.foldl (fun l f => match f with
      | .faceSite g2 c2 tile2 grp2 p => if siteKey g2.val c2.val tile2.val grp2.val = k then insertNew l p.val else l
      | _ => l) (AMap.get [] s.test.badSites k)
    decide (c.val < 64) && decide (4 < all.length)
  | _ => false

/-- The entry of a failing unit in the result. -/
def resultEntry : FailUnit → Nat
  | .cluster g c => g.val * 1024 + c.val
  | .clusterVia g c _ => g.val * 1024 + c.val
  | .faceSite g c _ _ _ => g.val * 1024 + c.val
  | .towerVia t grp _ _ => t.val * 12 * 1024 + grp.val
  | .panColumn b _ => b.val
  | .waleWay sl _ => sl.val
  | .waleSlice sl => sl.val
  | .channelRank ch k => ch.val * 4 + k.val
  | .laneQuad q => q.val
  | _ => 0

/-- What was under test comes back: a bank is cleared, a slice serves again. -/
def testEnds (s : State) (kind target : Nat) : State :=
  if kind = 3 ∧ target < 30 ∧ bankState s target = 2 then setBank s target 3
  else if kind = 4 then updSlice s target fun x => { x with off := false }
  else s

/-- TEST_COMPLETE (R674): failing units are marked, the result names them, and event 0xA00D is recorded. -/
def execTestComplete (fails : List FailUnit) (s : State) : Res :=
  let kind := s.test.testKind
  let target := s.test.testTarget
  if s.test.testState ≠ 1 ∨ ¬ s.elapsed s.test.testAt (testNs kind) then .next s
  else
    let found := fails.filter fun f => failsTest s kind target f || takesSpares kind target f
    let bad := (found.filter fun f => failsTest s kind target f || siteBeyond s found f).foldl
      (fun l f => insertNew l (resultEntry f)) []
    let st := if bad = [] then 2 else 3
    let s1 := testEnds (found.foldl (findFail false) s) kind target
    let result := padTo (u8 bad.length ++ (bad.take 31).flatMap u16) 64
    .next (event { s1 with test := { s1.test with testState := st, testResult := result } } testSrc 0xA00D (u8 kind ++ u16 target ++ u8 st))

/-! ### JTAG (R675 to R677) -/

/-- TEST_JTAG.open. -/
def actJtagOpen : Action where
  state := fun s _ _ => need (¬ s.fuses.debugLock) abState
  apply := fun s _ _ v => event s testSrc 0xA00E (u8 (leNat v))

/-- JTAG_OPEN_WRITE. -/
def execJtagOpenWrite (e : Env) (v c : Byte) (s : State) : Res := hostPaired e 0x6C20 1 [v] [c] actJtagOpen s

/-- TEST_JTAG.lock_cmd. -/
def actLock : Action where
  value := fun _ _ v => need (leNat v = 1) abRange
  apply := fun s _ _ _ => { s with fuses.debugLock := true }
  stores := false

/-- LOCK_CMD. -/
def execLockCmd (e : Env) (v : Byte) (s : State) : Res := hostWrite e 0x6C20 3 [v] actLock s

/-- Whether EXTEST and its kin act: JTAG open, in Start-up before the release-outputs step, or in Service. -/
def extestActs (s : State) : Bool :=
  jtagOpen s && ((decide (s.mode = .startUp) && !s.boot.outputsReleased) || decide (s.mode = .service))

/-- Boundary cells: bank × 64 + pin for user I/O, 1,024 + 8p + i for pin i of sample port LSPp, which the sealed partition
keeps as BYPASS cells (R677; log entry 46). -/
def cellReached (s : State) (k : Nat) : Bool := !(s.sealed.enabled && decide (1024 ≤ k) && decide (k < 1088))

/-- Cells given values. -/
def setCells (s : State) (m : AMap Bool) (cells : List (Nat × Bool)) : AMap Bool :=
  (cells.filter fun c => cellReached s c.1).foldl (fun m c => AMap.set false m c.1 c.2) m

/-- EXTEST. -/
def execExtest (cells : List (Nat × Bool)) (s : State) : Res :=
  let s := useJtag s
  .next (if extestActs s then { s with test := { s.test with instruction := 0x00, cells := setCells s s.test.preload cells } } else jtagRefused s)

/-- The identification code. -/
def idcode : Nat := 2 * 2 ^ 28 + 0x5C08 * 2 ^ 12 + Config.jtagMaker.toNat * 2 + 1

/-- IDCODE: always, least significant bit first. -/
def execIdcode (s : State) : Res :=
  .next ({ s with test.instruction := 0x01 }.emit (.jtag ((List.range 32).map (bit idcode))))

/-- The level that a cell samples: what its pin drives, or a free value where it drives none. -/
def cellLevel (s : State) (i k : Nat) : Bool :=
  let l := (s.pin (k / 64) (k % 64)).level
  if k < 512 ∧ l < 2 then decide (l = 1) else (Config.freeBits (s.freeCtr + i)).getLsbD 0

/-- SAMPLE_PRELOAD: the listed cells are sampled, then preloaded. -/
def execSamplePreload (preload : List (Nat × Bool)) (s : State) : Res :=
  let s := useJtag s
  .next (if ¬ jtagOpen s then jtagRefused s
    else
      let cells := preload.filter fun c => cellReached s c.1
      let bits : List (Nat × Bool) := cells.mapIdx fun i c => (c.1, cellLevel s i c.1)
      let s1 := s.drew cells.length
      let s2 := { s1 with test := { s1.test with instruction := 0x02, preload := setCells s s.test.preload cells,
                                                 scanned := setCells s [] bits } }
      s2.emit (.jtag (bits.map Prod.snd)))

/-- EXTEST_PULSE: a lane's transmitter sends one pulse. -/
def execExtestPulse (l : LaneId) (s : State) : Res :=
  let s := useJtag s
  .next (if extestActs s then { s with test.instruction := 0x03 }.emit (.lane (laneKey l) 0x100 []) else jtagRefused s)

/-- EXTEST_TRAIN: a lane's transmitter sends a train of pulses. -/
def execExtestTrain (l : LaneId) (s : State) : Res :=
  let s := useJtag s
  .next (if extestActs s then { s with test.instruction := 0x04 }.emit (.lane (laneKey l) 0x101 []) else jtagRefused s)

/-- DEBUG (R380, R676): a request as initiator 0x70, while JTAG is open and a credit is free. -/
def execDebug (write : Bool) (addr : BitVec 48) (len : Nat) (data : List Byte) (s : State) : Res :=
  let s := useJtag s
  if ¬ jtagOpen s then .next (jtagRefused s)
  else
    let s1 := { s with test.instruction := 0x20 }
    let p : Pkt := { kind := if write then 2 else 1, initiator := 0x70, src := 0, dst := 0, tag := 0, address := addr.toNat,
                     length := len, use := .debug }
    if len = 0 ∨ 1024 < len ∨ ¬ hasCredit s1 p then .next s1
    else .next (request s1 p.kind 0x70 addr.toNat len 1 (if write then padTo data len else []) .debug false)

/-- The tower of a die, the base die 0, tower t's logic and context dies 1 + 2t and 2 + 2t, the DRAM dies after them (log entry
46). -/
def dieTower (d : Nat) : Option Nat := if 1 ≤ d ∧ d ≤ 8 then some ((d - 1) / 2) else none

/-- DIE_SELECT: in Service, while JTAG is open, where the tower's test group serves. -/
def execDieSelect (die : Fin 25) (s : State) : Res :=
  let s := useJtag s
  .next (if ¬ jtagOpen s ∨ s.mode ≠ .service then jtagRefused s
    else if (dieTower die.val).any fun t => towerGroupFailed s t 11 then event { s with test.instruction := 0xFF } testSrc 0xA00E (u8 2)
    else { s with test := { s.test with instruction := 0x30, dieSelected := some die.val } })

/-- BYPASS: TDI to TDO through one bit. -/
def execBypass (tdi : List Bool) (s : State) : Res :=
  let bits := s.test.bypassBit :: tdi
  .next ({ s with test := { s.test with instruction := 0xFF, bypassBit := bits.getLastD false } }.emit (.jtag bits.dropLast))

end Sys2Proof.Machine
end

