-- ==== Sys2Proof/Machine/Observe.lean ====
section
/-! DEFINITION. Block counters, the tally reader, the sample buffer and the level monitors (18): rows COUNTER_CONFIG_WRITE
to MONITOR_SAMPLE. -/

namespace Sys2Proof.Machine

/-! ### Blocks and selects (R680, R681) -/

/-- What a select reports: an event, an event with a value, or a level. -/
inductive SelKind where
  | evt | val | lvl
  deriving DecidableEq, Repr

/-- The selects of a class of blocks, each with its kind, from select 1 up. -/
def classSelects (cls : Nat) : List SelKind :=
  match cls with
  | 0 => [.evt, .evt, .evt, .evt, .evt, .lvl, .lvl, .evt, .evt, .evt]
  | 1 => [.evt, .evt, .lvl, .evt, .evt, .evt, .val]
  | 2 => [.evt, .evt, .evt, .lvl, .evt, .val]
  | 3 => [.evt, .evt, .evt, .lvl, .evt, .lvl, .evt]
  | 4 => [.evt, .evt, .evt]
  | 5 => [.evt, .evt, .evt, .evt, .evt, .evt, .evt, .evt, .lvl, .lvl, .evt, .val, .evt, .lvl, .evt]
  | 6 => [.evt, .evt, .evt, .evt, .evt, .evt, .lvl]
  | 7 => [.evt, .val, .lvl, .lvl, .evt]
  | 8 => [.evt, .evt, .evt, .lvl]
  | _ => []

/-- The instances and the counters per block of a class. -/
def classSize (cls : Nat) : Nat × Nat :=
  match cls with
  | 0 => (1, 16) | 1 => (48, 16) | 2 => (64, 8) | 3 => (16, 8) | 4 => (32, 4) | 5 => (32, 16) | 6 => (2, 8) | 7 => (8, 4)
  | 8 => (48, 4) | _ => (0, 0)

/-- Root periods in a cycle of a block's counting clock (R29, R680): NoC, Wale, pannier and DRAM 1.6 GHz, banks 600 MHz,
services 400 MHz. -/
def countingRoots (src : Nat) : Nat :=
  match src / 4096 with
  | 0 => 24 | 7 => 16 | 8 => 24 | _ => 6

/-- Whether a source names a block with counters. -/
def isBlock (src : Nat) : Bool := decide (src % 4096 < (classSize (src / 4096)).1)

/-- The kind of a select of a block, where it is listed. -/
def selKind (src sel : Nat) : Option SelKind := if isBlock src ∧ 1 ≤ sel then (classSelects (src / 4096))[sel - 1]? else none

/-- Whether a configuration suits its counter (R682). -/
def configOk (src ctr v : Nat) : Bool :=
  isBlock src && decide (ctr < (classSize (src / 4096)).2) &&
    match field v 63 62, selKind src (field v 55 48) with
    | 0, k => decide (field v 55 48 = 0) || k.isSome
    | 1, some .evt => true
    | 1, some .val => true
    | 2, some .lvl => true
    | 3, some .val => true
    | _, _ => false

/-- Whether the sealed partition keeps a block's counters (R686): global sector 0, pannier bank 31, source class A. -/
def sealedBlock (s : State) (src : Nat) : Bool :=
  s.sealed.enabled && (decide (src = 0x1000) || decide (src = 0x401F) || decide (src / 4096 = 10))

/-- The sealed condition of a request for a block's counters. -/
def blockRight (s : State) (who : Requester) (src : Nat) : Bool := !sealedBlock s src || sealedRight s who

/-- A level of a block now (R681). The occupancy of a router's input buffers, which stand for no state of the model, is a
free value (log entry 2). -/
def levelNow (s : State) (src sel : Nat) : Nat :=
  let n := src % 4096
  match src / 4096, sel with
  | 0, 6 => s.obs.chron.general.length
  | 0, _ => s.obs.chron.alarms.length
  | 1, _ =>
    (List.range 64).foldl (fun m c => max m ((s.noc.open_.filter fun p => decide (p.use = .port n c)).length)) 0
  | 2, _ => (Config.freeBits s.freeCtr).toNat
  | 3, 4 => (s.wale.fills.filter fun f => decide (f.slice = n)).length
  | 3, _ => (s.slice n).maint.length
  | 5, 9 => (s.chan n).readQ.length
  | 5, 10 => (s.chan n).writeQ.length
  | 5, _ => b2n (s.chan n).drain
  | 6, _ => ((dirtyMeta s).filter fun e => decide ((dloc e.1).chan / 16 = n)).length
  | 7, 3 => (s.bank n).inQ.length
  | 7, _ => (s.bank n).outQ.length
  | 8, _ => (s.lane n).fom
  | _, _ => 0

/-- Level counters over the cycles of their clocks from now to a later root period (R682). -/
def levelTick (s : State) (later : Nat) : State :=
  ((s.obs.counters.filter fun kv => decide (field kv.2.config.toNat 63 62 = 2)).map (·.1)).foldl (fun s k =>
    let src := k / 16
    let v := (AMap.get {} s.obs.counters k).config.toNat
    let cyc := later / countingRoots src - s.now / countingRoots src
    let high := decide (field v 31 0 < levelNow s src (field v 55 48))
    let s1 := if src / 4096 = 2 then s.drew 1 else s
    if high ∧ 0 < cyc then counterAdd s1 k cyc else s1) s

/-! ### OBS_CTR (R682 to R686) -/

/-- The selected counter. -/
def selCounter (s : State) : Nat := ctrKey (s.num 0x6D10 1) (s.num 0x6D10 2)

/-- OBS_CTR.config. -/
def actCounterConfig : Action where
  state := fun s who _ => need (blockRight s who (s.num 0x6D10 1)) abSealed
  value := fun s _ v => need (configOk (s.num 0x6D10 1) (s.num 0x6D10 2) (leNat v)) abRange
  apply := fun s _ _ v =>
    { s with obs.counters := AMap.upd {} s.obs.counters (selCounter s) fun c => { config := BitVec.ofNat 64 (leNat v), due := c.due } }
  stores := false

/-- COUNTER_CONFIG_WRITE. -/
def execCounterConfigWrite (e : Env) (v : U64) (s : State) : Res := hostWrite e 0x6D10 3 (u64 v.toNat) actCounterConfig s

/-- A counter's value and overflow bit cleared. -/
def clearCounter (s : State) (k : Nat) : State :=
  { s with obs.counters := AMap.upd {} s.obs.counters k fun c => { c with value := 0, overflow := false } }

/-- OBS_CTR.clear: 1 the selected counter, 2 every counter that the requester may reach. -/
def actCounterClear : Action where
  state := fun s who v => need (leNat v ≠ 1 ∨ blockRight s who (s.num 0x6D10 1)) abSealed
  value := fun _ _ v => need (leNat v = 1 ∨ leNat v = 2) abRange
  apply := fun s who _ v =>
    if leNat v = 1 then clearCounter s (selCounter s)
    else ((s.obs.counters.map (·.1)).filter fun k => blockRight s who (k / 16)).foldl clearCounter s
  stores := false

/-- COUNTER_CLEAR_SELECTED. -/
def execCounterClearSelected (e : Env) (s : State) : Res := hostWrite e 0x6D10 5 [1] actCounterClear s
/-- COUNTER_CLEAR_ALL. -/
def execCounterClearAll (e : Env) (s : State) : Res := hostWrite e 0x6D10 5 [2] actCounterClear s

/-- COUNTER_MILESTONE (R684): the oldest milestone due of a counter is sent as a Trace, with the time at which it fell. -/
def execCounterMilestone (block : BitVec 16) (counter : Fin 16) (s : State) : Res :=
  let k := ctrKey block.toNat counter.val
  match (AMap.get {} s.obs.counters k).due with
  | [] => .next s
  | (t, w) :: rest =>
    .next (traceEvent { s with obs.counters := AMap.upd {} s.obs.counters k fun c => { c with due := rest } }
      t block.toNat 0xB011 (u8 counter.val ++ leBytes w 6))

/-- OBS_CTR.value of a counter: overflow in [63], the value below. -/
def counterWord (s : State) (k : Nat) : Nat :=
  let c := AMap.get {} s.obs.counters k
  b2n c.overflow * 2 ^ 63 + c.value

/-! ### The tally reader (R687 to R690) -/

/-- The source of the tally reader's events. -/
def tallySrc : Nat := 0x0043

/-- The counters listed. -/
def tallyList (s : State) : List Nat :=
  (List.range (s.num 0x6D20 0)).map fun i =>
    let v := s.num 0x6D20 (i + 1)
    ctrKey (field v 31 16) (field v 3 0)

/-- A snapshot at T: latched, or missed while the previous one is still being read. -/
def snapshotAt (s : State) (t : Nat) : State :=
  if s.obs.latched.isSome then
    event { s with obs.snapMissed := satInc s.obs.snapMissed maxU32 } tallySrc 0xB013 (u64 t)
  else { s with obs.latched := some (t, (tallyList s).map fun k => BitVec.ofNat 64 (counterWord s k)) }

/-- TALLY_SNAPSHOT (R688): at OBS_TALLY_CFG.time, and then every interval_us. -/
def execTallySnapshot (s : State) : Res :=
  let t := s.obs.tallyNext
  if t = 0 ∨ s.tai < t ∨ s.mode = .startUp then .next s
  else
    let step := s.num 0x6D22 2 * 1000
    .next (snapshotAt { s with obs.tallyNext := if step = 0 then 0 else t + step } t)

/-- OBS_TALLY_CFG.command. -/
def actSnapshot : Action where
  state := fun s _ _ => need (s.mode ≠ .startUp) abState
  value := fun _ _ v => need (leNat v = 1) abRange
  apply := fun s _ _ _ => snapshotAt s s.tai
  stores := false

/-- SNAPSHOT_NOW. -/
def execSnapshotNow (e : Env) (s : State) : Res := hostWrite e 0x6D22 4 [1] actSnapshot s

/-- A snapshot's copy written to dest in packets of up to 1,024 bytes: to a push alias each at the alias, to a base port at
rising addresses. -/
def writeCopy (dest : Nat) : Nat → Nat → List Byte → State → State
  | 0, _, _, s => s
  | fuel + 1, off, data, s =>
    if data = [] then s
    else
      let part := data.take 1024
      let addr := if dest < 0x200000000000 then dest else dest + off
      writeCopy dest fuel (off + 1024) (data.drop 1024) (request s 2 0x43 addr part.length 1 part .tally false)

/-- SNAPSHOT_READ_DONE (R687, R689): the latches are read, OBS_TALLY_VALUE takes their values, and the copy is written. -/
def execSnapshotReadDone (s : State) : Res :=
  match s.obs.latched with
  | none => .next s
  | some (t, vs) =>
    let n := satInc s.obs.snapshots maxU32
    let copy := u64 t ++ u32 n ++ u16 vs.length ++ zeros 2 ++ vs.flatMap fun v => u64 v.toNat
    let s1 := { s with obs := { s.obs with
      latched := none, tallyLast := t, snapshots := n,
      tally := (vs.zipIdx 1).foldl (fun m v => AMap.set 0 m v.2 v.1) [] } }
    let dest := s1.num 0x6D22 3
    .next (event (if dest = 0 then s1 else writeCopy dest 3 0 copy s1) tallySrc 0xB012 (u32 n))

/-- OBS_TALLY_LIST: entries name counters that the requester may select; bits [15:4] other than 0 are refused (log entry 75). -/
def actTallyList : Action where
  state := fun s who v => need (blockRight s who (field (leNat v) 31 16)) abSealed
  value := fun _ _ v => need (field (leNat v) 15 4 = 0) abRange

/-- OBS_TALLY_CFG.time: in Start-up no snapshot is set (R707). -/
def actTallyTime : Action where
  state := fun s _ v => need (s.mode ≠ .startUp ∨ leNat v = 0) abState
  apply := fun s _ _ v => { s with obs.tallyNext := leNat v }

/-- OBS_TALLY_CFG.dest (R689). -/
def actTallyDest : Action where
  value := fun s _ v => need (leNat v = 0 ∨ pushDst s (leNat v)) abRange

/-! ### The sample buffer (R691 to R694) -/

/-- OBS_SAMPLE.command. -/
def actSampleClear : Action where
  state := fun s _ _ => need (s.mode ≠ .startUp) abState
  value := fun _ _ v => need (leNat v = 1) abRange
  apply := fun s _ _ _ => { s with obs.samples := [] }
  stores := false

/-- SAMPLE_BUFFER_CLEAR. -/
def execSampleBufferClear (e : Env) (s : State) : Res := hostWrite e 0x6D30 6 [1] actSampleClear s

/-- OBS_SAMPLE.initiators to to_chronicle: written while mode is 0, or setting mode to 0; the sealed partition's initiators
are never sampled (R694). -/
def actSample (sub : Nat) : Action where
  state := fun s _ v =>
    firstOf
      [need (¬ (sub = 1 ∧ s.sealed.enabled ∧ (bit (leNat v) 0 ∨ bit (leNat v) 0x60))) abSealed,
       need (s.num 0x6D30 2 = 0 ∨ (sub = 2 ∧ leNat v = 0)) abState,
       need (s.mode ≠ .startUp ∨ sub ≠ 2) abState]

/-! ### Level monitors (R695) -/

/-- Monitor n. -/
def State.mon (s : State) (n : Nat) : Monitor := AMap.get {} s.obs.monitors n
/-- Monitor n changed. -/
def updMon (s : State) (n : Nat) (f : Monitor → Monitor) : State := { s with obs.monitors := AMap.upd {} s.obs.monitors n f }

/-- OBS_MON.command of monitor n: 1 start, 2 stop, 3 clear. -/
def actMonitor (n : Nat) : Action where
  state := fun s who _ => need (blockRight s who (s.num (0x6D40 + n) 1)) abSealed
  value := fun s _ v =>
    firstOf
      [need (1 ≤ leNat v ∧ leNat v ≤ 3) abRange,
       need (leNat v ≠ 1 ∨ selKind (s.num (0x6D40 + n) 1) (s.num (0x6D40 + n) 2) = some .lvl) abRange]
  apply := fun s _ _ v =>
    updMon s n fun m =>
      if leNat v = 1 then { m with running := true, sampledAt := s.now }
      else if leNat v = 2 then { m with running := false }
      else { running := m.running, sampledAt := m.sampledAt }
  stores := false

/-- MONITOR_START. -/
def execMonitorStart (e : Env) (n : Fin 16) (s : State) : Res := hostWrite e (0x6D40 + n.val) 5 [1] (actMonitor n.val) s
/-- MONITOR_STOP. -/
def execMonitorStop (e : Env) (n : Fin 16) (s : State) : Res := hostWrite e (0x6D40 + n.val) 5 [2] (actMonitor n.val) s
/-- MONITOR_CLEAR. -/
def execMonitorClear (e : Env) (n : Fin 16) (s : State) : Res := hostWrite e (0x6D40 + n.val) 5 [3] (actMonitor n.val) s

/-- OBS_MON settings: block, select and edges only while the monitor is stopped; the edges do not decrease. -/
def actMonSetting (n sub : Nat) : Action where
  state := fun s who v =>
    firstOf
      [need (sub = 3 ∨ ¬ (s.mon n).running) abState,
       need (blockRight s who (if sub = 1 then leNat v else s.num (0x6D40 + n) 1)) abSealed]
  value := fun _ _ v =>
    need (sub ≠ 4 ∨ (List.range 14).all fun i => decide (natAt v (4 * i) 4 ≤ natAt v (4 * i + 4) 4)) abRange

/-- The bin of a level: how many of the 15 edges it has reached. -/
def binOf (edges : List Byte) (v : Nat) : Nat := ((List.range 15).filter fun i => decide (natAt edges (4 * i) 4 ≤ v)).length

/-- A sample of a level enters a monitor's figures. -/
def monitorTake (s : State) (n v : Nat) : State :=
  let b := binOf (s.bytesOf (0x6D40 + n) 4) v
  let m := s.mon n
  let c := satInc (AMap.get 0 m.bins b) maxU32
  let s1 := updMon s n fun m =>
    { m with min := min m.min v, max := max m.max (min v maxU32), bins := AMap.set 0 m.bins b c,
             flags := if c = maxU32 then m.flags ||| 1 else m.flags, samples := m.samples + 1, sampledAt := s.now }
  if c = maxU32 then event s1 0x0048 0xB017 (u8 n ++ u8 b) else s1

/-- MONITOR_SAMPLE: interval cycles of the block's clock have passed since the last sample. level is the fullest input of a
router, which the model does not hold; every other level is taken from the state. -/
def execMonitorSample (n : Fin 16) (level : Nat) (s : State) : Res :=
  let k := n.val
  let src := s.num (0x6D40 + k) 1
  let m := s.mon k
  if ¬ m.running ∨ s.now < m.sampledAt + s.num (0x6D40 + k) 3 * countingRoots src then .next s
  else .next (monitorTake s k (if src / 4096 = 2 then level else levelNow s src (s.num (0x6D40 + k) 2)))

/-! ### The test multiplexer (R696) -/

/-- Whether a time of an event lies within the last n root periods. -/
def within (s : State) (at_ : Option Nat) (n : Nat) : Bool := at_.any fun t => decide (t ≤ s.now) && decide (s.now < t + n)

/-- The level of pin TMUXk (R696). A lane's recovered clock is the far end's, so its level is free; a pulse at a stake monitor error
lasts a root period (log entry 83). -/
def tmuxLevel (s : State) (k : Nat) : Bool :=
  let v := s.num 0x6D50 (k + 1)
  let n := field v 11 0
  match field v 15 12 with
  | 1 => s.clk.started && !s.clkStopped && decide (s.now % (64 * s.clockN n) < 32 * s.clockN n)
  | 2 => decide (s.tai % 1000000000 < 1000)
  | 3 => within s (s.team n).lastRoot 16
  | 4 => s.board.alarm
  | 5 => (Config.freeBits s.freeCtr).getLsbD 0
  | 6 => within s (s.bank n).ranAt 16
  | 7 => decide (s.gaitOf n ≠ 0)
  | 8 => decide (AMap.get 0 s.test.monAt n = s.now + 1)
  | _ => false

/-- Whether the device drives an open-drain pin low (R312, R647, R701, R717): 0 CFG_DONE, 1 CFG_ERR_N, 2 ALARM_N, 3 SAFE_N. -/
def openDrainLow (s : State) : Fin 4 → Bool
  | 0 => !s.board.cfgDone
  | 1 => s.board.cfgErr
  | 2 => s.board.alarm
  | _ => s.board.safeDriven

/-- OBS_TMUX entries: a listed source. -/
def actTmux : Action where
  value := fun _ _ v =>
    let n := field (leNat v) 11 0
    need (match field (leNat v) 15 12 with
      | 0 => decide (n = 0) | 1 => decide (n < 8) | 2 => decide (n = 0) | 3 => decide (n < 16) | 4 => decide (n = 0)
      | 5 => decide (n < 48) | 6 => decide (n < 8) | 7 => decide (n < 4) | 8 => decide (n < 4) | _ => false) abRange

end Sys2Proof.Machine
end

