-- ==== Sys2Proof/Machine/Projection.lean ====
section
/-! DEFINITION. What a read of each object returns (R8, R42 to R46, R738): for an object that hosts write, the value stored;
for an object of access ro or const, the value that the device holds. -/

namespace Sys2Proof.Machine

/-- A whole number read at each index below n, as 4 bytes each. -/
def words4 (n : Nat) (f : Nat → Nat) : List Byte := (List.range n).flatMap fun i => u32 (f i)

/-- Bits set where a property holds of 0, 1, … n − 1. -/
def maskOf (n : Nat) (p : Nat → Bool) : Nat := bitsNat ((List.range n).map p)

/-- The image length that a map's entries give (DICT_PD_CFG.tx_len and rx_len). -/
def mapLength (s : State) (idx : Nat) : Nat :=
  ((List.range (s.num idx 0)).map fun i => field (s.num idx (i + 1)) 7 0).foldl (· + ·) 0

/-- DICT_SESSION_TABLE of session n. -/
def sessionWord (s : State) (n : Nat) : Nat :=
  let x := s.session n
  match x.phase with
  | .closed => 0
  | .opening => x.host.transport.val * 2 ^ 16 + x.level * 16 + 1
  | .opened =>
    let held := (s.dict.transfers.filter fun t => ofSession n t.who).length + (s.dict.taps.filter fun t => ofSession n t.who).length
    min 255 (s.nsSince x.lastValid / 1000000000) * 2 ^ 20 + x.host.transport.val * 2 ^ 16 + min 8 held * 256 +
      b2n (x.sealedRight && s.sealed.isOpen) * 128 + x.level * 16

/-- DICT_TAPS_LO and DICT_TAPS_HI: tap n of those in force, in the order of their sectors (R82). -/
def tapWord (s : State) (n : Nat) : Nat :=
  match (tapsInForce s)[n]? with
  | none => 0
  | some (t, e) =>
    ((((((e.first * 65536 + e.last) * 64 + t / 8) * 8 + (s.activePlane (t / 8)).getD 0) * 8 + e.readLevel) * 8 + e.writeLevel) * 2 +
      b2n e.cyclic) * 65536 + AMap.get 0 s.dict.tapTimeouts (timeoutKey t (s.activePlane (t / 8)))

/-- Objects 0x1000 to 0x1FFF. -/
def ro1 (s : State) (idx sub : Nat) : Option (List Byte) :=
  match idx, sub with
  | 0x1001, 0 =>
    some [s.obs.errorReg ||| (if s.dict.pd.fault ∨ s.dict.can.busState = 3 then 0x10 else 0)]
  | 0x1008, 0 => some [0x43, 0x72, 0x69, 0x61, 0x68, 0x20, 0x53, 0x38]
  | 0x1009, 0 => some [0x42]
  | 0x1018, 4 => some (u32 s.fuses.serial.toNat)
  | 0x1019, 1 => some (u8 s.fuses.speedGrade)
  | 0x1019, 2 => some (u8 s.fuses.tempRange)
  | 0x1019, 3 => some s.fuses.ordering
  | 0x1019, 4 => some (u8 s.chain.position)
  | 0x1030, 1 => some (u64 s.fuses.mac0.toNat)
  | 0x1030, 8 => some (u8 (ethLink s 0))
  | 0x1031, 1 => some (u64 s.fuses.mac1.toNat)
  | 0x1031, 8 => some (u8 (ethLink s 1))
  | 0x1040, 6 => some (u8 s.dict.can.busState)
  | 0x1060, 3 => some (u16 (mapLength s 0x1061))
  | 0x1060, 4 => some (u16 (mapLength s 0x1062))
  | 0x1060, 12 => some (u32 s.dict.pd.late)
  | 0x1070, n + 1 => some (u64 (tapWord s n))
  | 0x1071, n + 1 => some (u64 (tapWord s (128 + n)))
  | 0x1100, n + 1 => some (u32 (sessionWord s n))
  | 0x1120, 5 => some (u8 (maskOf 4 fun k => decide (AMap.get [] s.dict.keys (k + 1) ≠ [])))
  | _, _ => none

/-- CFG_KEYS.key_state. -/
def streamKeyState (s : State) : Nat :=
  let f := s.fuses
  maskOf 5 fun i => match i with
    | 0 => decide (f.efuseKey ≠ [])
    | 1 => decide (f.bbramKey ≠ [])
    | 2 => !f.plainLock
    | 3 => f.efuseOnly
    | _ => f.tamperSeen

/-- CFG_HOST_FEED.state: 2 while a stream that the feed gave is in progress. -/
def feedState (s : State) : Nat :=
  if ¬ feedOpen s then 0
  else if s.loader.cur.any (fun st => decide (st.src = .feed)) then 2
  else 1

/-- CFG_LIB_DIR of an entry, in units of 256 bytes. -/
def libWord (x : LibEntry) : Nat :=
  b2n x.present * 2 ^ 63 + b2n x.writing * 2 ^ 62 + (x.length + 255) / 256 % 2 ^ 24 * 2 ^ 32 + x.offset / 256 % 2 ^ 32

/-- Objects 0x6000 and 0x61xx. -/
def ro61 (s : State) (idx sub : Nat) : Option (List Byte) :=
  let l := s.loader
  match idx, sub with
  | 0x6000, 1 => some (u8 (modeCode s.mode))
  | 0x6000, 2 => some (u8 s.power.lastCause)
  | 0x6000, 3 => some (u8 ((List.range 4).foldl (fun v t => v + s.gaitOf t * 4 ^ t) 0))
  | 0x6000, 4 => some (u64 s.power.entered)
  | 0x6000, 5 => some (u8 (b2n s.power.stop.isSome))
  | 0x6100, 1 => some (u32 (strapBits s))
  | 0x6100, 2 => some (u8 s.boot.cause)
  | 0x6100, 3 => some (u8 s.boot.phase)
  | 0x6100, 4 => some (u8 s.boot.bist)
  | 0x6100, 5 => some (u8 s.boot.image)
  | 0x6100, 6 => some (u8 s.boot.failReason)
  | 0x6100, 7 => some (u64 s.boot.startupNs)
  | 0x6100, 8 => some (u32 s.boot.flashId.toNat)
  | 0x6101, 2 => some (u8 (feedState s))
  | 0x6101, 3 => some (u64 l.fed)
  | 0x6110, 2 => some (u8 s.boot.progress)
  | 0x6120, 3 => some (u8 l.copyState)
  | 0x6120, 4 => some (u64 l.copied)
  | 0x6121, n + 1 => some (u64 (libWord (s.libEntry n)))
  | 0x6130, 2 => some (u8 (b2n l.loading.isSome))
  | 0x6130, 3 => some (u8 l.queue.length)
  | 0x6140, 1 => some (u16 l.result.status)
  | 0x6140, 2 => some (u32 l.result.address)
  | 0x6140, 3 => some (u32 l.result.packet)
  | 0x6140, 4 => some (u64 l.result.offset)
  | 0x6140, 5 => some (u8 l.result.owner)
  | 0x6140, 6 => some (u64 l.result.build)
  | 0x6140, 7 => some (u64 l.result.time)
  | 0x6151, 1 => some (padTo s.fuses.owner0 48)
  | 0x6160, 1 => some (u8 (streamKeyState s))
  | 0x6160, 5 => some (checkValue s.fuses.efuseKey)
  | 0x6160, 6 => some (checkValue s.fuses.bbramKey)
  | 0x6170, 1 => some (u8 s.chain.position)
  | 0x6170, 2 => some (u8 s.chain.devices)
  | 0x6171, n + 1 => some (u32 (AMap.get 0 s.chain.reports n + b2n (AMap.get false s.chain.reported n) * 2 ^ 31))
  | _, _ => none

/-- CTX_PLANE_STATE of a global sector. -/
def planeWord (s : State) (g : Nat) : Nat :=
  let e := s.engine (towerOf g)
  let busy := match e.cur with
    | some op => op.sectors.getLsbD g
    | none => false
  let kept := match s.activePlane g with
    | some p => keptMode s g p
    | none => false
  (s.teamOf g).getD 0 * 2 ^ 28 + b2n (s.teamOf g).isSome * 2 ^ 27 + b2n busy * 2 ^ 26 + b2n kept * 2 ^ 25 +
    (List.range 8).foldl (fun v p => v + planeCode (s.planeSt g p) * 8 ^ p) 0

/-- FAB_SEAM_STATE: a group carries data while both its directions do. -/
def seamWord (s : State) (seam : Nat) : Nat :=
  maskOf (if seam < 2 then 24 else 32) fun grp =>
    let p := seamSectors seam grp false
    seamLive s seam grp p.1 && seamLive s seam grp p.2

/-- Objects 0x62xx and 0x63xx. -/
def ro62 (s : State) (idx sub : Nat) : Option (List Byte) :=
  if 0x6210 ≤ idx ∧ idx ≤ 0x621F then
    let x := s.team (idx - 0x6210)
    match sub with
    | 7 => some (u8 x.active.toNat)
    | 8 => some (u8 (teamState x))
    | 9 => some (u64 (match x.pending with
        | some p => if p.trigger = 0 then p.due else 0
        | none => 0))
    | _ => none
  else
    match idx, sub with
    | 0x6200, g + 1 => some (u32 (planeWord s g))
    | 0x6220, 2 => some (u32 s.dict.switchStatus)
    | 0x6221, t + 1 => some (u64 (s.team t).lastEdge)
    | 0x6300, g + 1 => some (u64 (2 ^ 64 - 1 - (AMap.get 0 s.test.unusable g).toNat))
    | 0x6301, g + 1 => some (u8 (rowShift s g + b2n (spareBad s g) * 64))
    | 0x6310, 9 => some (u8 (b2n s.clk.rootLocked))
    | 0x6310, n + 1 => some (u8 (s.num 0x6310 (n + 1) % 16 + b2n (clockInUse s n) * 128))
    | 0x6320, n + 1 => some (u32 (seamWord s n))
    | 0x6330, g + 1 => some (u64 (maskOf 64 fun c => !s.portIsDown g c && !(AMap.get 0 s.test.portLost g).getLsbD c))
    | 0x6340, 3 => some (u8 s.fab.readStatus)
    | 0x6340, 4 => some s.fab.readData
    | 0x6350, 6 => some (u8 s.cap.state)
    | 0x6350, 7 => some (u64 s.cap.edgeTime)
    | 0x6350, 8 => some (u16 s.cap.missed)
    | 0x6351, g + 1 => some (captureBytes s g)
    | _, _ => none

/-- NOC_STAT of the selected initiator. -/
def statBytes (s : State) (sub : Nat) : Option (List Byte) :=
  let i := s.num 0x6420 1
  let x := AMap.get {} s.noc.stats i
  match sub with
  | 1 => some (u32 x.minLat)
  | 2 => some (u32 x.maxLat)
  | 3 => some (words4 16 fun b => AMap.get 0 x.bins b)
  | 4 => some (u8 x.flags)
  | 5 => some (u64 x.readBytes)
  | 6 => some (u64 x.writeBytes)
  | 7 =>
    let mine := fun (p : Pkt) => decide (p.initiator = i)
    some (u8 (min 255 ((s.noc.open_.filter mine).length + (s.noc.heldResp.filter mine).length)))
  | 8 => some (u32 x.timeouts)
  | 9 => some (u32 x.gtMiss)
  | _ => none

/-- PAN_TEST of a background test. -/
def testWord (t : BankTest) : Nat := b2n t.failed * 2 ^ 31 + b2n t.running * 2 ^ 30 + t.region * 2 ^ 21 + min 65535 t.passes

/-- Objects 0x64xx and 0x65xx. -/
def ro64 (s : State) (idx sub : Nat) : Option (List Byte) :=
  if 0x6520 ≤ idx ∧ idx ≤ 0x652F then
    let w := s.window (idx - 0x6520)
    match sub with
    | 1 => some (u8 (b2n (windowOn s (idx - 0x6520))))
    | 5 => some (u32 w.wr)
    | 6 => some (u32 w.rd)
    | 7 => some (u32 w.fill)
    | 8 => some (u32 w.overflows)
    | 9 => some (u32 w.underflows)
    | _ => none
  else
    match idx, sub with
    | 0x6400, 1 => some (u8 s.noc.quadrants)
    | 0x6400, 3 => some (u32 s.noc.linkCorrected)
    | 0x6400, 4 => some (u32 s.noc.linkDiscarded)
    | 0x6410, n + 1 => some (u64 (reservation s n))
    | 0x6421, k => statBytes s k
    | 0x6430, m + 1 =>
      let x := s.mover m
      some (u32 (x.state * 2 ^ 28 + (if x.state = 3 then x.error else 0) * 2 ^ 24 + min 0xFFFFFF x.completed))
    | 0x6500, 1 => some (u16 (maskOf 16 fun k => !(s.slice k).off))
    | 0x6500, 2 => some (u16 (maskOf 16 fun k => (s.slice k).flushing))
    | 0x6500, 3 => some ((List.range 16).flatMap fun k => u16 (s.slice k).disabled.toNat)
    | 0x6500, 4 => some (u32 (((List.range 16).map fun k => (dirtyLines s k).length).foldl (· + ·) 0))
    | 0x6510, b + 1 => some (u8 (bankState s b))
    | 0x6511, 3 => some (u64 ((List.range 32).foldl (fun v b => v + AMap.get 0 s.pan.spares b * 4 ^ b) 0))
    | 0x6512, 1 => some (u32 (testWord s.pan.test30))
    | 0x6512, 2 => some (u32 (testWord s.pan.test31))
    | 0x6530, i + 1 => some (u32 (AMap.get 0 s.pan.conflicts i))
    | _, _ => none

/-- DRAM_CHANNEL of a channel. -/
def channelWord (c : Channel) : Nat :=
  let r := retOf c
  c.pcDown * 2 ^ 22 + c.lanesB * 2 ^ 20 + c.lanesA * 2 ^ 18 + c.training * 2 ^ 16 + r.hosted * 256 + r.ranks

/-- An entry of ECC_REMAP_M0 or ECC_REMAP_M1. -/
def remapWord (e : Remap) : Nat :=
  b2n e.valid * 2 ^ 63 + b2n e.faulted * 2 ^ 62 + b2n e.spareBad * 2 ^ 61 + e.line * 2 ^ 35 + e.time % 2 ^ 32

/-- ECC_DRAM of a channel. -/
def eccWord (c : Channel) : Nat :=
  b2n c.saturated * 2 ^ 63 + c.corrected * 2 ^ 40 + c.uncorrectable * 2 ^ 32 + c.poisoned * 2 ^ 16 + c.hardFaults * 256 +
    ((remaps c).filter fun e => e.2.valid).length * 16

/-- ECC_SCRUB.state: stopped where no channel is scrubbed; waiting where a channel that is has no budget. -/
def scrubState (s : State) : Nat :=
  let on := (List.range 32).filter (scrubOn s)
  if on = [] then 0 else if on.any fun ch => decide ((s.chan ch).budget ≤ 0) || (s.chan ch).scrubHeld.isSome then 2 else 1

/-- ECC_SCRUB.progress: per mille of the pass in the slowest channel whose stack serves. -/
def scrubProgress (s : State) : Nat :=
  let part := fun ch =>
    let c := s.chan ch
    let read := ((List.range c.scrubRank).filter (scrubbedRank c)).length * rankLines + (if c.scrubRank < 4 then c.scrubLine else 0)
    read * 1000 / max 1 (scrubTotal c)
  (((List.range 32).filter fun ch => decide (stackState s (ch / 16) = 2)).map part).foldl min
    (if (List.range 2).any fun m => decide (stackState s m = 2) then 1000 else 0)

/-- Objects 0x66xx and 0x67xx. -/
def ro66 (s : State) (idx sub : Nat) : Option (List Byte) :=
  match idx, sub with
  | 0x6600, 1 => some (u64 (capacity s))
  | 0x6600, 2 => some (u8 (b2n s.dram.sparesInForce))
  | 0x6600, 3 => some (u8 (stackState s 0 + 4 * stackState s 1))
  | 0x6600, 4 => some (u8 s.dram.halved)
  | 0x6600, 5 => some (u8 s.dram.throttled)
  | 0x6600, 6 => some (u8 s.dram.retired)
  | 0x6610, c + 1 => some (u32 (channelWord (s.chan c)))
  | 0x6611, c + 1 => some (u32 ((List.range 4).foldl (fun v r => v + AMap.get 0 (s.chan c).caErr r * 256 ^ r) 0))
  | 0x6620, c + 1 => some (u32 ((s.chan c).mig * 2 ^ 30 + (s.chan c).migRank * 2 ^ 23 + (retOf (s.chan c)).pointer))
  | 0x6630, 1 => some (u32 (if bit s.dram.halved 0 then 16000 else 32000))
  | 0x6630, 2 => some (u32 (if bit s.dram.halved 1 then 16000 else 32000))
  | 0x6630, 3 => some (u32 s.dram.forced)
  | 0x6630, 4 => some (u32 s.dram.neighbour)
  | 0x6700, 3 => some (u8 (scrubState s))
  | 0x6700, 4 => some (u32 s.ecc.scrubPasses)
  | 0x6700, 5 => some (u16 (scrubProgress s))
  | 0x6710, c + 1 => some (u64 (eccWord (s.chan c)))
  | 0x6711, n + 1 => some (u64 (remapWord (AMap.get {} (s.chan (n / 8)).remap (n % 8))))
  | 0x6712, n + 1 => some (u64 (remapWord (AMap.get {} (s.chan (16 + n / 8)).remap (n % 8))))
  | 0x6720, k + 1 => some (u32 (AMap.get 0 s.ecc.wale k))
  | 0x6721, b + 1 => some (u32 (AMap.get 0 s.ecc.pan b))
  | 0x6722, g + 1 => some (u64 (AMap.get 0 s.ecc.blockmem g))
  | 0x6730, 3 =>
    let waits := match s.ecc.verifyQ with
      | k :: _ => streamIn s (towerOf (k / 8))
      | [] => false
    some (u8 (if ¬ s.ecc.verifyRunning then 0 else if waits then 2 else 1))
  | 0x6730, 4 => some (u32 s.ecc.mismatches)
  | 0x6740, 1 => some (u32 s.ecc.compFaults)
  | 0x6740, 2 => some (u32 s.ecc.lastRef)
  | _, _ => none

/-- Objects 0x68xx. -/
def ro68 (s : State) (idx sub : Nat) : Option (List Byte) :=
  if 0x6810 ≤ idx ∧ idx ≤ 0x681F then
    let r := idx - 0x6810
    let x := s.region r
    match sub with
    | 1 => some (u8 (regionMode s r))
    | 2 => some (u64 (regionBase s r))
    | 3 => some (u64 (regionSize s r))
    | 4 => some (u8 (regionSlot s r))
    | 5 => some (u64 (regionMeta s r))
    | 6 => some (u64 x.metaLength)
    | 8 => some (u8 x.state)
    | 9 => some (u8 x.lock)
    | 10 => some (u64 (field x.root.toNat 54 0))
    | _ => none
  else
    let stateIs := fun (vs : List Nat) => maskOf 16 fun r => vs.contains (s.region r).state
    match idx, sub with
    | 0x6800, 1 => some (u16 (stateIs [1, 2]))
    | 0x6800, 2 => some (u16 (stateIs [3]))
    | 0x6800, 3 => some (u32 (maskOf 32 fun k => decide (AMap.get [] s.crypt.slots k ≠ [])))
    | 0x6800, 4 => some (u16 (dirtyMeta s).length)
    | 0x6820, 2 => some (u32 s.crypt.status)
    | 0x6821, k + 1 => some (checkValue (AMap.get [] s.crypt.slots k))
    | 0x6830, 1 => some (u32 s.crypt.tagFailures)
    | 0x6830, 2 => some (u32 s.crypt.heals)
    | 0x6830, 3 => some (u32 s.crypt.minorOverflows)
    | 0x6830, 4 => some (u8 s.crypt.poison.length)
    | 0x6830, 5 => some (u8 s.crypt.failed.length)
    | 0x6830, 6 => some (u16 s.crypt.hitPm)
    | 0x6831, k + 1 =>
      match s.crypt.poison[k]? with
      | some e => some (u64 (2 ^ 63 + e.level * 2 ^ 60 + e.region * 2 ^ 56 + e.node % 2 ^ 32 * 2 ^ 24 + e.time % 2 ^ 24))
      | none => some (u64 0)
    | _, _ => none

/-- Objects 0x69xx. -/
def ro69 (s : State) (idx sub : Nat) : Option (List Byte) :=
  if 0x6910 ≤ idx ∧ idx ≤ 0x6917 then
    let x := s.bank (idx - 0x6910)
    match sub with
    | 1 => some (u8 x.state)
    | 8 => some (u8 x.inQ.length)
    | 9 => some (u8 x.outQ.length)
    | 10 => some (u32 x.executed)
    | 11 => some (u32 x.late)
    | 12 => some (u32 x.droppedIn)
    | 13 => some (u32 x.refused)
    | 14 => some (u16 x.vccioMv)
    | _ => none
  else
    match idx, sub with
    | 0x6900, 1 => some (u64 s.tai)
    | 0x6900, 2 => some (u8 s.time.state)
    | 0x6900, 3 => some (u64 (twos s.time.offset 8))
    | 0x6900, 4 => some (u64 s.time.addend.toNat)
    | 0x6900, 5 => some (u64 s.time.gm.toNat)
    | 0x6900, 6 => some (u8 s.time.roles)
    | 0x6900, 7 => some (u8 (b2n (stepOpen s)))
    | _, _ => none

/-- LANE_QUAD_q.pll_state: 0 off, 2 locked. -/
def pllState (s : State) (q : Nat) : Nat :=
  if s.num (0x6A40 + q) 1 = 0 ∨ s.mode = .stable ∨ bit s.test.quadDown q then 0 else 2

/-- Objects 0x6Axx. -/
def ro6A (s : State) (idx sub : Nat) : Option (List Byte) :=
  if idx ≤ 0x6A2F then
    let l := s.lane (idx - 0x6A00)
    match sub with
    | 8 => some (u8 l.state)
    | 9 => some (u8 l.rate)
    | 10 => some (u16 l.fom)
    | 11 => some (u32 l.codeErrors)
    | 12 => some (u64 l.dropped)
    | _ => none
  else if idx ≤ 0x6A4B then (if sub = 2 then some (u8 (pllState s (idx - 0x6A40))) else none)
  else
    match idx, sub with
    | 0x6A50, 3 => some (u16 (s.lane 48).fom)
    | 0x6A50, 4 => some (u16 (s.lane 49).fom)
    | 0x6A60, 4 => some (u8 (s.lane 50).state)
    | 0x6A60, 5 => some (u8 (s.lane 51).state)
    | 0x6A60, 6 => some (u32 s.lanes.hitchUp.delayPs)
    | 0x6A60, 7 => some (u32 s.lanes.hitchDown.delayPs)
    | 0x6A60, 8 => some (u32 s.lanes.resends)
    | 0x6A60, 9 => some (u8 s.lanes.remotes.length)
    | _, _ => none

/-- The state of a power domain (R631): 0 off, 1 retention, 2 on. -/
def domainState (s : State) (d : Nat) : Nat :=
  let stable := decide (s.mode = .stable)
  if d < 48 then s.domain d
  else if d < 96 then (if stable ∧ ¬ s.isSealedSector (d - 48) then 1 else 2)
  else if d < 128 then
    (match bankState s (d - 96) with
     | 1 => 1
     | 2 => 0
     | _ => 2)
  else if d < 144 then (if (s.slice (d - 128)).off then 0 else 2)
  else if d < 152 then (if stable then 0 else 2)
  else if d < 156 then (if bit s.noc.quadrants (d - 152) then 2 else 0)
  else if d < 168 then (if stable ∨ s.num (0x6A40 + (d - 156)) 1 = 0 then 0 else 2)
  else if d = 178 ∨ d = 179 then 2
  else if stable then 0 else 2

/-- PWR_DOMAIN: 181 domains, two bits each. -/
def domainBytes (s : State) : List Byte := leBytes ((List.range 181).foldl (fun v d => v + domainState s d * 4 ^ d) 0) 46

/-- An entry of THERM_LOGIC or THERM_OTHER. -/
def sensorWord (s : State) (n : Nat) : Nat :=
  let x := s.sensor n
  b2n x.excluded * 2 ^ 63 + b2n x.readsLow * 2 ^ 62 + b2n (sensorOff s n) * 2 ^ 61 + twos x.raw 2 * 2 ^ 32 +
    twos x.reading 2 * 2 ^ 16 + twos x.effective 2

/-- Objects 0x6Bxx. -/
def ro6B (s : State) (idx sub : Nat) : Option (List Byte) :=
  let mw := fun k => AMap.get 0 s.power.powerMw k
  match idx, sub with
  | 0x6B00, 0 => some (domainBytes s)
  | 0x6B01, 1 => some (u32 (mw 208))
  | 0x6B01, 2 => some (words4 4 fun t => mw (209 + t))
  | 0x6B01, 3 => some (u32 (mw 213))
  | 0x6B01, 4 => some (u32 (mw 214))
  | 0x6B01, 5 => some (u16 (supplyMv s 0))
  | 0x6B01, 6 => some (u32 s.power.peakMw)
  | 0x6B02, 1 => some (u16 (supplyMv s 1))
  | 0x6B02, 2 => some (u16 (supplyMv s 2))
  | 0x6B02, 3 => some (u16 (supplyMv s 11))
  | 0x6B02, 4 => some (u16 (supplyMv s 12))
  | 0x6B02, 5 => some (u16 (supplyMv s 13))
  | 0x6B02, 6 => some (u16 (supplyMv s 14))
  | 0x6B02, 7 => some (u32 s.board.excursions)
  | 0x6B10, n + 1 => some (u64 (sensorWord s n))
  | 0x6B11, n + 1 => some (u64 (sensorWord s (192 + n)))
  | 0x6B31, 1 => some (u32 s.power.predictUs)
  | 0x6B31, 2 => some (u16 s.power.predictSensor)
  | 0x6B31, 3 => some (u32 (twos s.power.predictSlope 4))
  | 0x6B40, 4 => some (u32 (degradedItems s))
  | _, _ => none

/-- Spares in use in a stake group, 0xFF once it has failed. -/
def stakeByte (s : State) (key : Nat) : List Byte := u8 (if groupFailed s key then 0xFF else sparesUsed s key)

/-- Objects 0x6Cxx. -/
def ro6C (s : State) (idx sub : Nat) : Option (List Byte) :=
  match idx, sub with
  | 0x6C00, 1 => some (u8 s.test.untested)
  | 0x6C00, 2 => some (u32 s.test.blocks)
  | 0x6C00, 3 => some (u8 s.test.critical)
  | 0x6C01, 4 => some (u8 s.test.testState)
  | 0x6C01, 5 => some (padTo s.test.testResult 64)
  | 0x6C10, g + 1 => some ((List.range 64).flatMap fun c => stakeByte s (g * 64 + c))
  | 0x6C11, t + 1 => some ((List.range 24).flatMap fun i => stakeByte s (copyKey t (i / 2) (i % 2)))
  | 0x6C20, 2 => some (u8 (b2n s.fuses.debugLock))
  | _, _ => none

/-- Objects 0x6Dxx. -/
def ro6D (s : State) (idx sub : Nat) : Option (List Byte) :=
  let o := s.obs
  if 0x6D40 ≤ idx ∧ idx ≤ 0x6D4F then
    let m := s.mon (idx - 0x6D40)
    match sub with
    | 6 => some (u8 (b2n m.running))
    | 7 => some (u32 m.min)
    | 8 => some (u32 m.max)
    | 9 => some (words4 16 fun b => AMap.get 0 m.bins b)
    | 10 => some (u8 m.flags)
    | 11 => some (u64 m.samples)
    | _ => none
  else
    match idx, sub with
    | 0x6D10, 3 => some (u64 (AMap.get {} o.counters (selCounter s)).config.toNat)
    | 0x6D10, 4 => some (u64 (counterWord s (selCounter s)))
    | 0x6D21, n + 1 => some (u64 (AMap.get 0 o.tally (n + 1)).toNat)
    | 0x6D22, 5 => some (u64 o.tallyLast)
    | 0x6D22, 6 => some (u32 o.snapshots)
    | 0x6D22, 7 => some (u32 o.snapMissed)
    | 0x6D30, 7 => some (u16 o.samples.length)
    | 0x6D30, 8 => some (u64 o.taken)
    | 0x6D30, 9 => some o.samples.flatten
    | 0x6D61, 1 => some (u64 o.chron.written)
    | 0x6D61, 2 => some (u32 o.chron.wraps)
    | 0x6D61, 3 => some (u16 o.chron.general.length)
    | 0x6D61, 4 => some (u16 o.chron.alarms.length)
    | 0x6D61, 5 => some (u64 o.chron.tracesLost)
    | 0x6D61, 6 => some (u64 o.chron.othersLost)
    | 0x6D61, 7 => some (u8 (if s.num 0x6D60 1 = 0 then 0 else if ringWritable s then 1 else 2))
    | _, _ => none

/-- SEAL_STATE.state: not enabled, running, stopped in Service and Safe Stop, fault. -/
def sealState (s : State) : Nat :=
  if ¬ s.sealed.enabled then 0
  else if bit s.sealed.faults 0 then 3
  else if s.mode = .service ∨ s.mode = .safeStop then 2
  else 1

/-- The upper-case hexadecimal digit of a number below 16. -/
def hexDigit (n : Nat) : Byte := BitVec.ofNat 8 (if n < 10 then 48 + n else 55 + n)

/-- The short form of an identification (R611). -/
def shortForm (id : List Byte) : List Byte := (id.take 4).flatMap fun b => [hexDigit (b.toNat / 16), hexDigit (b.toNat % 16)]

/-- An audit record's 32 bytes (R620). -/
def auditBytes (r : AuditRec) : List Byte :=
  u64 r.time ++ u32 r.counter ++ u16 r.param ++ u8 r.level ++ u8 r.session ++ u64 r.old.toNat ++ u64 r.new.toNat

/-- The word of an outward mailbox (R606, R614, R616, R621). -/
def mailbox (s : State) (k : Nat) : List Byte :=
  if s.mode = .service ∨ s.mode = .safeStop ∨ s.sealed.storeFault then u64 0 else panBytes s (bank31 (0x800 + 8 * k) + ·) 8

/-- Objects 0x70xx. -/
def ro70 (s : State) (idx sub : Nat) : Option (List Byte) :=
  let x := s.sealed
  match idx, sub with
  | 0x7000, 1 => some (u8 (b2n x.enabled))
  | 0x7000, 2 => some (u8 (b2n x.isOpen))
  | 0x7000, 3 => some (u32 x.counter)
  | 0x7000, 4 => some (u32 x.audit.length)
  | 0x7000, 5 => some (u8 (sealState s))
  | 0x7000, 6 => some (u8 x.faults)
  | 0x7002, 1 => some (padTo x.identification 32)
  | 0x7002, 2 => some (shortForm (padTo x.identification 32))
  | 0x7002, 3 => some (padTo x.streamHash 32)
  | 0x7010, k + 1 => some (mailbox s k)
  | 0x7020, p + 1 => some (u64 (sealParam s p).val.toNat)
  | 0x7021, p + 1 => some (u64 (sealParam s (128 + p)).val.toNat)
  | 0x7030, 2 => some (match x.audit[s.num 0x7030 1]? with
      | some r => auditBytes r
      | none => zeros 32)
  | 0x7040, p + 1 => some (u32 (portState s p * 2 ^ 30 + (samplePort s p).faults))
  | _, _ => none

/-- What the device holds for an object that it holds itself. -/
def heldValue (s : State) (idx sub : Nat) : Option (List Byte) :=
  if sub = 0 ∧ idx ≠ 0x1001 ∧ idx ≠ 0x1008 ∧ idx ≠ 0x1009 ∧ idx ≠ 0x6B00 then none
  else
    match idx / 256 with
    | 0x10 => ro1 s idx sub
    | 0x11 => ro1 s idx sub
    | 0x60 => ro61 s idx sub
    | 0x61 => ro61 s idx sub
    | 0x62 => ro62 s idx sub
    | 0x63 => ro62 s idx sub
    | 0x64 => ro64 s idx sub
    | 0x65 => ro64 s idx sub
    | 0x66 => ro66 s idx sub
    | 0x67 => ro66 s idx sub
    | 0x68 => ro68 s idx sub
    | 0x69 => ro69 s idx sub
    | 0x6A => ro6A s idx sub
    | 0x6B => ro6B s idx sub
    | 0x6C => ro6C s idx sub
    | 0x6D => ro6D s idx sub
    | 0x70 => ro70 s idx sub
    | _ => none

/-- The value of an object as a read returns it. -/
def readValue (s : State) (idx sub : Nat) : List Byte := (heldValue s idx sub).getD (s.bytesOf idx sub)

/-! ### Reads (checks 3 to 7 of R41, R44, R46, R738) -/

/-- Whether what a read shows of the object is for the sealed right alone (R248, R686). -/
def sealedView (s : State) (idx sub : Nat) : Bool :=
  if idx = 0x6351 then s.sealed.enabled && decide (sub = 1)
  else if idx = 0x6D10 then (decide (sub = 3) || decide (sub = 4)) && sealedBlock s (s.num 0x6D10 1)
  else if idx = 0x6D21 then decide (sub ≠ 0) && decide (sub ≤ s.num 0x6D20 0) && sealedBlock s (field (s.num 0x6D20 sub) 31 16)
  else if 0x6D40 ≤ idx ∧ idx ≤ 0x6D4F then decide (6 ≤ sub) && sealedBlock s (s.num idx 1)
  else false

/-- The access, level and sealed checks of a read. -/
def readAccess (s : State) (who : Requester) (r : ObjRow) (idx sub : Nat) : Option Nat :=
  firstOf
    [need (r.acc ≠ .wo) abReadWo, need (r.lvl ≤ levelOf s who) abLevel,
     need (¬ sealedView s idx sub ∨ sealedRight s who) abSealed]

/-- Whether a request names an object of the sealed partition that is refused because it is not enabled (R598). -/
def sealAbsent (s : State) (idx sub : Nat) (write : Bool) : Bool :=
  decide (idx / 256 = 0x70) && !s.sealed.enabled &&
    !(if write then decide (idx = 0x7001)
      else (decide (idx = 0x7000) && decide (sub = 1)) ||
        (decide (sub = 0) && decide (idx ≠ 0x7001) && decide (idx ≠ 0x7008) && decide (idx ≠ 0x7024)))

/-- The state check of a read: a partition that is not enabled, a block that is off (R93), an audit record not yet written (SEAL_AUDIT), a capture
buffer that is not full (R256). -/
def readState (s : State) (idx sub : Nat) : Option Nat :=
  firstOf
    [need (¬ sealAbsent s idx sub false) abState, need (blockOn s idx sub) abState,
     need (¬ (idx = 0x7030 ∧ sub = 2) ∨ s.num 0x7030 1 < s.sealed.audit.length) abState,
     need (¬ (idx = 0x6351 ∧ sub ≠ 0) ∨ s.cap.state = 3) abState]

/-- The type, offset and length checks of a read of a value of n bytes. -/
def readShape (r : ObjRow) (q : ReadReq) (n : Nat) : Option Nat :=
  if q.ty.toNat ≠ r.ty then some abLength
  else if r.ty = 0x09 ∨ r.ty = 0x0F then need (q.offset.toNat ≤ n) abSegment
  else need (q.offset = 0 ∧ (q.length = 0 ∨ q.length.toNat = n)) abLength

/-- A complement fault that a read meets: the state once its block has applied the fallback (R46). -/
def readFault (s : State) (idx sub : Nat) : Option State :=
  if isRwp idx sub ∧ ¬ s.pairOk idx sub then some (objFallback s idx sub)
  else if 0x6810 ≤ idx ∧ idx ≤ 0x681F ∧ sub = 10 ∧ ¬ rootOk (s.region (idx - 0x6810)) ∧ (s.region (idx - 0x6810)).state ≠ 3 then
    some (checkRoot s (idx - 0x6810))
  else if (idx = 0x7020 ∨ idx = 0x7021) ∧ sub ≠ 0 ∧ s.sealed.enabled ∧ ¬ paramOk (sealParam s ((idx - 0x7020) * 128 + sub - 1)) then
    some (checkTable s)
  else none

/-- The data of a read (R738): the value, or the value and its complement, from offset, at most 1,024 bytes. -/
def readData (s : State) (r : ObjRow) (q : ReadReq) (v : List Byte) : List Byte :=
  if r.acc = .rwp ∧ bit q.option.toNat 0 then v ++ (if s.stored q.index.toNat q.sub.toNat = {} then complBytes v
    else (s.stored q.index.toNat q.sub.toNat).comp)
  else (v.drop q.offset.toNat).take (if q.length = 0 then 1024 else min 1024 q.length.toNat)

/-- A read of an object outside the tap area: the state, the status, the value's whole length and the data. -/
def dictRead (s : State) (who : Requester) (q : ReadReq) : State × Nat × Nat × List Byte :=
  let idx := q.index.toNat
  let sub := q.sub.toNat
  match rowOf idx sub with
  | none => (s, if indexExists idx then abNoSub else abNoObject, 0, [])
  | some r =>
    match firstOf [readAccess s who r idx sub, readState s idx sub] with
    | some c => (s, c, 0, [])
    | none =>
      let v := readValue s idx sub
      match readShape r q v.length with
      | some c => (s, c, 0, [])
      | none =>
        match readFault s idx sub with
        | some s1 => (s1, abStored, 0, [])
        | none => (s, 0, v.length, readData s r q v)

end Sys2Proof.Machine
end

