-- ==== Sys2Proof/Machine/NocServe.lean ====
section
/-! DEFINITION. Packets at their targets and at their initiators (R358, R361 to R366, R377 to R384, R389, R411 to R413):
rows NOC_READ_REQUEST, NOC_WRITE_REQUEST, NOC_READ_RESPONSE, NOC_WRITE_RESPONSE, RESPONSE_TIMEOUT. -/

namespace Sys2Proof.Machine

/-! ### The pannier as a target (R411 to R414) -/

/-- The pannier port that serves an initiator: that of its own quadrant (R377). -/
def panPort (init : Nat) : Nat := if init = 0x60 then 0 else quadrantOf (initRouter init)

/-- The banks that the first 16 words of a request address in its pannier cycle: a word whose bank another port addresses in the
same cycle waits, and is a conflict of its initiator (R412, R413). -/
def panCycle (s : State) (init off len : Nat) : State :=
  let cyc := s.now / 6
  let port := panPort init
  let used := if s.pan.cycleAt = cyc then s.pan.cycleUse else []
  let banks := (List.range (min 16 ((off + len - 1) / 8 + 1 - off / 8))).map fun i => panBank (off / 8 * 8 + 8 * i)
  let clash := banks.filter fun b => used.any fun u => decide (u.1 = b) && decide (u.2 ≠ port)
  let n := clash.length
  let s1 := clash.foldl (fun s b => counted s (bankSrc b) 0x02 0 1) s
  { s1 with pan := { s1.pan with cycleAt := cyc, cycleUse := used ++ banks.map fun b => (b, port),
                                 conflicts := AMap.upd 0 s1.pan.conflicts init fun v => satAdd v n maxU32 } }

/-- A window access takes its words' turns at their banks. -/
def windowCycle (s : State) (n off : Nat) (p : Pkt) : State :=
  if ¬ windowOn s n then s else (windowTouches s n off p).foldl (fun s x => panCycle s p.initiator x.1 x.2) s

/-- A request at the pannier window. -/
def panServe (s : State) (p : Pkt) (off : Nat) (err : MemErr) : State :=
  let s1 := if panStatus s off p.length = 0 then panCycle s p.initiator off p.length else s
  if p.kind = 0x01 then
    let r := panRead s1 off p.length err
    answer r.1 p r.2.1 r.2.2 0
  else
    let r := panStore s1 off p.data err
    answer r.1 p r.2 [] 0

/-! ### Base ports as targets (R384, R389) -/

/-- A request for a base port: answered by the base die, handed to the port, or left waiting in the network. none where it
waits. -/
def portServe (s : State) (p : Pkt) (g c off : Nat) : Option State :=
  if ¬ s.sectorOn g then some (answer s p 7 [] 0)
  else if s.portIsDown g c ∨ ¬ portPresent s g c ∨ (s.mode = .startUp ∧ ¬ s.boot.writesEnabled) ∨ s.mode = .service then
    some (answer s p 2 [] 0)
  else if ¬ portMoves s g c ∨ 4 ≤ (inboundOf s g c).length then none
  else some (portInbound s p g c off)

/-! ### The service window (R381, R544, R690) -/

/-- The value that the object part answers a read of an initiator with: an object that an Observer may read, of a type of fixed
size; and OBS_TALLY_VALUE for base ports while counters are open to them. -/
def windowValue (s : State) (init idx sub : Nat) : Option (List Byte) :=
  match rowOf idx sub with
  | none => none
  | some r =>
    if idx = 0x6D21 ∧ sub ≠ 0 then
      if init < 48 ∧ s.num 0x6D00 1 = 1 then some (if sealedView s idx sub then u64 0 else readValue s idx sub) else none
    else if r.acc = .wo ∨ r.ty = 0x09 ∨ r.ty = 0x0F ∨ 1 < r.lvl ∨ (readState s idx sub).isSome then none
    else some (readValue s idx sub)

/-- A request at the service window: a read of an object or of a mover's state, or a doorbell; any other access is answered with
status 4. A stored pair that mismatches is answered with status 2 (R46). -/
def serviceServe (s : State) (p : Pkt) (off : Nat) : State :=
  let idx := off / 4096
  let sub := off % 4096 / 16
  let m := (off - 0x10000000) / 64
  let denied := answer s p 4 [] 0
  if off < 0x10000000 then
    if p.kind ≠ 0x01 ∨ 8 < p.length ∨ off % 16 ≠ 0 then denied
    else
      match windowValue s p.initiator idx sub with
      | none => denied
      | some v =>
        match readFault s idx sub with
        | some s1 => answer s1 p 2 [] 0
        | none => answer s p 0 (padTo v p.length) 0
  else if p.kind = 0x02 ∧ p.length = 8 ∧ off % 64 = 0 then
    let r := moverDoorbell s p.initiator m (leNat p.data)
    answer r.1 p r.2 [] 0
  else if p.kind = 0x01 ∧ p.length = 4 ∧ off % 64 = 8 then answer s p 0 (readValue s 0x6430 (m + 1)) 0
  else denied

/-! ### Requests -/

/-- Whether a transaction carries a request to a tap (R83): its base port takes it where its sector is on. -/
def isTap : TxnUse → Bool
  | .tap _ => true
  | _ => false

/-- A request served at its target; none where it waits in the network. -/
def serveRequest (s : State) (p : Pkt) (tag : TagErr) (err : MemErr) : Option State :=
  if routeOff s p then some (answer s p 7 [] 0)
  else if isTap p.use then some (answer s p (if s.sectorOn (p.address / 2 ^ 32 % 4096) then 0 else 7) [] 0)
  else
    match decode s p.initiator p.address p.length (decide (p.kind = 0x02)) with
    | .bad st code => some (refuse s p st code)
    | .dram _ => some (reachSlice s p tag err)
    | .pan off => some (panServe s p off err)
    | .window n off =>
      let r := windowAccess (windowCycle s n off p) n off p err
      some (answer r.1 p r.2.1 r.2.2 0)
    | .fabric g c off => portServe s p g c off
    | .service off => some (serviceServe s p off)

/-- The k-th packet in flight leaves the network, where it is of a kind and none goes before it (R362). -/
def takePacket (s : State) (k kind : Nat) : Option (Pkt × State) :=
  match s.noc.flight[k]? with
  | none => none
  | some p =>
    if p.kind ≠ kind ∨ overtakes s k p then none
    else some (p, passed { s with noc.flight := delAt s.noc.flight k } p)

/-- A request of a kind reaches its target: discarded on a header error, answered with status 3 where it is poisoned (R358),
served otherwise. -/
def requestArrives (s : State) (k kind : Nat) (link : LinkFault) (tag : TagErr) (err : MemErr) : State :=
  match takePacket s k kind with
  | none => s
  | some (p, s1) =>
    match link with
    | .headerLost => headerLost s1 p
    | .poisoned => answer s1 p 3 [] 0
    | .corrected => (serveRequest (linkCorrected s1 p) p tag err).getD s
    | .none => (serveRequest s1 p tag err).getD s

/-- NOC_READ_REQUEST. -/
def execNocReadRequest (k : Nat) (link : LinkFault) (tag : TagErr) (err : MemErr) (s : State) : Res :=
  .next (requestArrives s k 0x01 link tag err)

/-- NOC_WRITE_REQUEST. -/
def execNocWriteRequest (k : Nat) (link : LinkFault) (tag : TagErr) (err : MemErr) (s : State) : Res :=
  .next (requestArrives s k 0x02 link tag err)

/-! ### Responses (R364, R365, R473) -/

/-- The tally reader finds an error status: event 0x5004 (R473). -/
def tallyAnswer (s : State) (p : Pkt) (status : Nat) : State :=
  if status = 0 then s else event s eccSrc 0x5004 (u8 p.initiator ++ u64 p.address ++ u8 status)

/-- What the issuer of a request does with the status and data of its end. -/
def deliver (s : State) (p : Pkt) (status : Nat) (data : List Byte) : State :=
  match p.use with
  | .port g c => grantAll (portAnswer s p g c status data)
  | .moverDesc m => moverResponse s m p.use p status data
  | .moverRead m _ => moverResponse s m p.use p status data
  | .moverWrite m => moverResponse s m p.use p status data
  | .moverDone m => moverResponse s m p.use p status data
  | .bankDrain b => drained s b p.address status
  | .lanePush n marker => lanePushed s n marker p.address p.length status
  | .tally => tallyAnswer s p status
  | .remote src op _ => remoteReply s src op p.tag p.length status data
  | .debug => s.emit (.answer p.initiator status data)
  | .notify => s
  | .scrub _ => s
  | .migrate _ => s
  | .tap _ => s
  | .other => s

/-- A transaction ends: it is no more outstanding, its figures are counted, and its issuer takes the outcome. -/
def finish (s : State) (p : Pkt) (status outcome : Nat) (data : List Byte) : State :=
  let s1 := { s with noc.open_ := s.noc.open_.filter fun q => decide (q.id ≠ p.id) }
  deliver (sampleTxn s1 { p with outcome := outcome } status) p status data

/-- A response reaches its initiator: it ends its transaction, or is discarded as late with event 0x3004. -/
def responseTaken (s : State) (r : Pkt) (status : Nat) : State :=
  match s.noc.open_.find? fun p => decide (p.id = r.id) with
  | some p => finish (statDone s p status) p status r.outcome (if status = 0 then r.data else zeros r.data.length)
  | none =>
    if s.noc.late.any fun p => decide (p.id = r.id) then
      event { s with noc.late := s.noc.late.filter fun p => decide (p.id ≠ r.id) } (routerSrc (initRouter r.initiator)) 0x3004
        (u8 r.initiator ++ u16 r.tag)
    else s

/-- A response of a kind reaches its initiator's router. -/
def responseArrives (s : State) (k kind : Nat) (link : LinkFault) : State :=
  match takePacket s k kind with
  | none => s
  | some (r, s1) =>
    match link with
    | .headerLost => headerLost s1 r
    | .poisoned => responseTaken s1 r (if r.status = 0 then 3 else r.status)
    | .corrected => responseTaken (linkCorrected s1 r) r r.status
    | .none => responseTaken s1 r r.status

/-- NOC_READ_RESPONSE. -/
def execNocReadResponse (k : Nat) (link : LinkFault) (s : State) : Res := .next (responseArrives s k 0x81 link)

/-- NOC_WRITE_RESPONSE. -/
def execNocWriteResponse (k : Nat) (link : LinkFault) (s : State) : Res := .next (responseArrives s k 0x82 link)

/-- RESPONSE_TIMEOUT (R365): the k-th outstanding transaction has waited response_timeout. -/
def execResponseTimeout (k : Nat) (s : State) : Res :=
  match s.noc.open_[k]? with
  | none => .next s
  | some p =>
    if ¬ s.elapsed p.issued (s.num 0x6400 2) then .next s
    else
      let s1 := updStat s p.initiator fun x => { x with timeouts := satInc x.timeouts maxU32 }
      let s2 := event { s1 with noc.late := s1.noc.late ++ [p] } (routerSrc (initRouter p.initiator)) 0x3003
        (u8 p.initiator ++ u16 p.tag ++ u64 p.address)
      .next (finish s2 p 5 0 (if p.kind = 0x01 then zeros p.length else []))

end Sys2Proof.Machine
end

