-- ==== Sys2Proof/Machine/Actions.lean ====
section
/-! DEFINITION. What a write of each object means: the action of every object whose write does more than store its value, for
the generic WRITE, PAIRED WRITE, SEGMENT, USDO, receive-image and SET_OBJECT_DEFAULT writes, and the dictionary's own
actions (R57, R60, R69, R73, R78, R80). -/

namespace Sys2Proof.Machine

/-! ### Keys and levels -/

/-- DICT_KEYS.key_n: the wrapped key of level n is unwrapped under the writing session's Ks and installed; the level's sessions
close, the writer's own after its response (R57, R60). -/
def actLevelKey (n : Nat) : Action where
  value := fun s who v => need (unwrapBy s who v).isSome abRange
  apply := fun s who _ v =>
    let s1 := event { s with dict.keys := AMap.set [] s.dict.keys n ((unwrapBy s who v).getD []) } (reqSource who) 0xD00F (u8 n)
    let own := match who with
      | .session k => if (s1.session k.val).level = n then some k.val else none
      | _ => none
    let s2 := (List.range 16).foldl (fun s k => if (s.session k).level = n ∧ own ≠ some k then endSession s k 2 else s) s1
    match own with
    | some k => s2.setSession k { s2.session k with closing := true }
    | none => s2

/-- DICT_LEVEL_ENABLE: the sessions of a level that the write disables close, the writer's own after its response; a fault of
the object's pair is over (R60, R739). -/
def actLevelEnable : Action where
  apply := fun s who old new =>
    let gone := [(2, 1), (3, 2), (5, 4)].filter fun (p : Nat × Nat) => bit (leNat old) p.2 && !bit (leNat new) p.2
    let s0 := { s with dict.levelFault := false }
    gone.foldl (fun s p => (List.range 16).foldl (fun s k =>
      if (s.session k).level ≠ p.1 then s
      else if who ≠ .anonymous ∧ ofSession k who then s.setSession k { s.session k with closing := true }
      else endSession s k 3) s) s0

/-- After a response: a session that changed its own level's key, or disabled its own level, closes (R60). -/
def closeDue (s : State) : State :=
  (List.range 16).foldl (fun s k =>
    if ¬ (s.session k).closing then s
    else closeSession s k (if (s.session k).level = 5 then 3 else 2)) s

/-! ### CAN FD, the gate list -/

/-- DICT_CAN.enable: from 0 to 1 the controller starts with the settings then held (R73). -/
def actCanEnable : Action where
  apply := fun s _ old new =>
    if leNat new = 0 then { s with dict.can := { s.dict.can with running := false, busState := 0 } }
    else if leNat old ≠ 0 then s
    else
      { s with dict.can :=
          { running := true, node := s.num 0x1040 2, arbRate := s.num 0x1040 3, dataRate := s.num 0x1040 4,
            level := s.num 0x1040 5, busState := 1 } }

/-- DICT_CAN.arb_rate and data_rate: the data rate is at least the arbitration rate. -/
def actCanRate (sub : Nat) : Action where
  value := fun s _ v => need (if sub = 3 then leNat v ≤ s.num 0x1040 4 else s.num 0x1040 3 ≤ leNat v) abRange

/-- Whether process-data images run now: enabled, in Run or Hold, or in Start-up from its enable-writes step (R93). -/
def imagesRun (s : State) : Bool := decide (s.num 0x1060 1 = 1) && s.runHoldOrFrom s.boot.writesEnabled

/-- DICT_TSN.gate_list: whole entries, at most 256, a list of another length refused at check 9 (log entry 75); written only while
process data does not run; in force from the next gate-cycle boundary (R69). -/
def actGateList : Action where
  state := fun s _ _ => need (¬ imagesRun s) abState
  value := fun _ _ v => need (v.length % 8 = 0 ∧ v.length ≤ 2048) abRange
  apply := fun s _ _ v => { s with dict.gatePending := some (s.tai, v) }
  clean := cleanEntries 8 [5, 6, 7]

/-! ### Process-data maps (R78, R80) -/

/-- The image cycle in ns (R75). -/
def cycleNs (s : State) : Nat := s.num 0x1060 2 * 31250

/-- The count of cycles since TAI 0, offset ns after their boundaries. -/
def cycleCount (s : State) (offset : Nat) : Nat := (s.tai - offset) / cycleNs s

/-- What is wrong with a map entry: the object or tap may not be mapped, or its bytes are not its size. -/
def entryFault (s : State) (rx : Bool) (v : Nat) : Option Nat :=
  let idx := field v 31 16
  let n := field v 7 0
  if 0x2000 ≤ idx ∧ idx ≤ 0x5FFF then
    match tapFor s idx with
    | some (_, e) =>
      firstOf [need (e.cyclic ∧ (if rx then e.writeLevel else e.readLevel) ≤ 2) abNoMap, need (n ≠ 0) abRange]
    | none => some abNoMap
  else
    match rowOf idx (field v 15 8) with
    | none => some abNoMap
    | some r =>
      firstOf
        [need (tySize r.ty ≠ 0 ∧ r.lvl ≤ 2 ∧ (if rx then r.acc = .wo ∨ r.acc = .rw else r.acc ≠ .wo)) abNoMap,
         need (n = tySize r.ty) abRange]

/-- A map object's subindex: entries and their count are written while enable is 0; the entries in use name what may be
mapped, and together at most 1,024 bytes. -/
def actMap (idx sub : Nat) : Action where
  state := fun s _ _ => need (s.num 0x1060 1 = 0) abState
  value := fun s _ v =>
    let rx := decide (idx = 0x1062)
    let count := if sub = 0 then leNat v else s.num idx 0
    let at_ := fun i => if i = sub then leNat v else s.num idx i
    let used := (List.range count).map fun i => at_ (i + 1)
    firstOf
      [(if sub = 0 ∨ (leNat v = 0 ∧ count < sub) then none else entryFault s rx (leNat v)),
       (if sub = 0 then firstOf (used.map (entryFault s rx)) else none),
       need ((used.map fun e => field e 7 0).foldl (· + ·) 0 ≤ 1024) abMapLength]

/-- DICT_PD_CFG.enable: the counts of cycles begin afresh. -/
def actPdEnable : Action where
  apply := fun s _ old new =>
    if leNat old = 1 ∨ leNat new = 0 then s
    else
      { s with dict.pd := { s.dict.pd with held := [], missed := 0, lastBoundary := cycleCount s (s.num 0x1060 6),
                                           lastTx := cycleCount s (s.num 0x1060 5) } }

/-- DICT_PD_CFG.cycle_n: written while enable is 0, and longer than the offsets. -/
def actPdCycle : Action where
  state := fun s _ _ => need (s.num 0x1060 1 = 0) abState
  value := fun s _ v => need (s.num 0x1060 5 < leNat v * 31250 ∧ s.num 0x1060 6 < leNat v * 31250) abRange

/-- DICT_PD_CFG.tx_offset and rx_offset: less than the cycle. -/
def actPdOffset : Action where
  value := fun s _ v => need (leNat v < cycleNs s) abRange

/-! ### Settings of other chapters without a row of their own -/

/-- FAB_CAPTURE.sectors, clock, trigger and time: written only in state empty (R255). -/
def actCaptureSetting : Action where
  state := fun s _ _ => need (s.cap.state = 0) abState

/-- CFG_CHAIN.chain_sync: a first position that waits for the others sends GO where they are all done (R350). -/
def actChainSync : Action where
  apply := fun s _ _ _ => checkGo s

/-- TIME_CFG.domain to clock_class: the best master clock algorithm selects again (R537). -/
def actTimeCfg : Action where
  apply := fun s _ _ _ => runSelection s

/-- SEAL_AUDIT.select. -/
def actAuditSelect : Action where
  state := fun s _ _ => sealGate s

/-! ### The action of each object -/

/-- One range of objects and the action of a write to each, from its index and subindex. -/
structure ActRow where
  lo : Nat
  hi : Nat
  slo : Nat
  shi : Nat
  act : Nat → Nat → Action

/-- Objects 0x10xx to 0x62xx. -/
def actRows1 : List ActRow :=
  [⟨0x1040, 0x1040, 1, 1, fun _ _ => actCanEnable⟩, ⟨0x1040, 0x1040, 3, 4, fun _ sub => actCanRate sub⟩,
   ⟨0x1060, 0x1060, 1, 1, fun _ _ => actPdEnable⟩, ⟨0x1060, 0x1060, 2, 2, fun _ _ => actPdCycle⟩,
   ⟨0x1060, 0x1060, 5, 6, fun _ _ => actPdOffset⟩, ⟨0x1061, 0x1062, 0, 255, fun idx sub => actMap idx sub⟩,
   ⟨0x1080, 0x1080, 2, 2, fun _ _ => actGateList⟩, ⟨0x1110, 0x1110, 0, 0, fun _ _ => actLevelEnable⟩,
   ⟨0x1120, 0x1120, 1, 4, fun _ sub => actLevelKey sub⟩, ⟨0x6001, 0x6001, 0, 0, fun _ _ => actMode⟩,
   ⟨0x6002, 0x6002, 5, 5, fun _ _ => actNotifyAddr⟩, ⟨0x6101, 0x6101, 1, 1, fun _ _ => actHostFeed⟩,
   ⟨0x6110, 0x6110, 1, 1, fun _ _ => actStartupOrder⟩, ⟨0x6120, 0x6120, 1, 2, fun _ sub => actLibArea (decide (sub = 2))⟩,
   ⟨0x6120, 0x6120, 5, 5, fun _ _ => actWriteEntry⟩, ⟨0x6120, 0x6120, 6, 6, fun _ _ => actWriteData⟩,
   ⟨0x6130, 0x6130, 1, 1, fun _ _ => actLoadEntry⟩, ⟨0x6130, 0x6130, 4, 4, fun _ _ => actLoadCancel⟩,
   ⟨0x6150, 0x6150, 1, 48, fun _ sub => actOwnership (sub - 1)⟩, ⟨0x6151, 0x6151, 2, 8, fun _ sub => actOwnerKey (sub - 1)⟩,
   ⟨0x6160, 0x6160, 2, 2, fun _ _ => actEfuseKey⟩, ⟨0x6160, 0x6160, 3, 3, fun _ _ => actBbramKey⟩,
   ⟨0x6160, 0x6160, 4, 4, fun _ _ => actBbramErase⟩, ⟨0x6160, 0x6160, 7, 7, fun _ _ => actFuseLock⟩,
   ⟨0x6170, 0x6170, 3, 3, fun _ _ => actChainSync⟩, ⟨0x6170, 0x6170, 5, 5, fun _ _ => actForceGo⟩,
   ⟨0x6210, 0x621F, 1, 1, fun idx _ => actMembers (idx - 0x6210)⟩,
   ⟨0x6210, 0x621F, 2, 4, fun idx sub => actTeamSetting (idx - 0x6210) sub⟩,
   ⟨0x6220, 0x6220, 1, 1, fun _ _ => actSwitch⟩, ⟨0x6230, 0x6230, 1, 1, fun _ _ => actPlaneClear⟩]

/-- Objects 0x63xx to 0x68xx. -/
def actRows2 : List ActRow :=
  [⟨0x6302, 0x6302, 1, 1, fun _ _ => actShift⟩, ⟨0x6310, 0x6310, 1, 8, fun _ sub => actFclk (sub - 1)⟩,
   ⟨0x6340, 0x6340, 2, 2, fun _ _ => actFabMemRead⟩, ⟨0x6350, 0x6350, 1, 4, fun _ _ => actCaptureSetting⟩,
   ⟨0x6350, 0x6350, 5, 5, fun _ _ => actCapture⟩, ⟨0x6410, 0x6410, 1, 64, fun _ sub => actReservation (sub - 1)⟩,
   ⟨0x6420, 0x6420, 3, 3, fun _ _ => actStat⟩, ⟨0x6431, 0x6431, 1, 1, fun _ _ => actMoverStart⟩,
   ⟨0x6431, 0x6431, 2, 2, fun _ _ => actMoverStop⟩, ⟨0x6501, 0x6501, 1, 2, fun _ sub => actFlush (decide (sub = 2))⟩,
   ⟨0x6520, 0x652F, 1, 1, fun idx _ => actWindowEnable (idx - 0x6520)⟩,
   ⟨0x6520, 0x652F, 2, 4, fun idx _ => actWindowSetting (idx - 0x6520)⟩, ⟨0x6531, 0x6531, 0, 0, fun _ _ => actConflictClear⟩,
   ⟨0x6601, 0x6601, 1, 1, fun _ _ => actSpares⟩, ⟨0x6640, 0x6640, 1, 1, fun _ _ => actRetire⟩,
   ⟨0x6640, 0x6640, 2, 2, fun _ _ => actRetrain⟩, ⟨0x6730, 0x6730, 1, 1, fun _ _ => actClearCounts⟩,
   ⟨0x6730, 0x6730, 2, 2, fun _ _ => actVerify⟩, ⟨0x6810, 0x681F, 1, 5, fun idx _ => actRegionSetting (idx - 0x6810)⟩,
   ⟨0x6810, 0x681F, 7, 7, fun idx _ => actRegion (idx - 0x6810)⟩, ⟨0x6820, 0x6820, 1, 1, fun _ _ => actKey⟩]

/-- Objects 0x69xx to 0x6Cxx. -/
def actRows3 : List ActRow :=
  [⟨0x6901, 0x6901, 1, 5, fun _ _ => actTimeCfg⟩, ⟨0x6902, 0x6902, 1, 1, fun _ _ => actTimeSet⟩,
   ⟨0x6910, 0x6917, 2, 2, fun idx _ => actBank (idx - 0x6910)⟩, ⟨0x6910, 0x6917, 3, 5, fun idx _ => actBankSetting (idx - 0x6910)⟩,
   ⟨0x6920, 0x6927, 1, 48, fun idx sub => actPin (idx - 0x6920) (sub - 1)⟩,
   ⟨0x6A00, 0x6A2F, 1, 6, fun idx sub => actLaneSetting (idx - 0x6A00) sub⟩,
   ⟨0x6A00, 0x6A2F, 7, 7, fun idx _ => actLane (idx - 0x6A00)⟩, ⟨0x6A40, 0x6A4B, 1, 1, fun idx _ => actQuad (idx - 0x6A40)⟩,
   ⟨0x6A50, 0x6A50, 1, 2, fun _ sub => actServiceMode (sub - 1)⟩, ⟨0x6B20, 0x6B20, 1, 8, fun _ sub => actThreshold sub⟩,
   ⟨0x6B30, 0x6B30, 1, 2, fun _ _ => actGait⟩, ⟨0x6B40, 0x6B40, 2, 2, fun _ _ => actCalibrate []⟩,
   ⟨0x6C01, 0x6C01, 3, 3, fun _ _ => actTestRun⟩, ⟨0x6C20, 0x6C20, 1, 1, fun _ _ => actJtagOpen⟩,
   ⟨0x6C20, 0x6C20, 3, 3, fun _ _ => actLock⟩]

/-- Objects 0x6Dxx and 0x70xx. -/
def actRows4 : List ActRow :=
  [⟨0x6D10, 0x6D10, 3, 3, fun _ _ => actCounterConfig⟩, ⟨0x6D10, 0x6D10, 5, 5, fun _ _ => actCounterClear⟩,
   ⟨0x6D20, 0x6D20, 1, 255, fun _ _ => actTallyList⟩, ⟨0x6D22, 0x6D22, 1, 1, fun _ _ => actTallyTime⟩,
   ⟨0x6D22, 0x6D22, 3, 3, fun _ _ => actTallyDest⟩, ⟨0x6D22, 0x6D22, 4, 4, fun _ _ => actSnapshot⟩,
   ⟨0x6D30, 0x6D30, 1, 5, fun _ sub => actSample sub⟩, ⟨0x6D30, 0x6D30, 6, 6, fun _ _ => actSampleClear⟩,
   ⟨0x6D40, 0x6D4F, 1, 4, fun idx sub => actMonSetting (idx - 0x6D40) sub⟩,
   ⟨0x6D40, 0x6D4F, 5, 5, fun idx _ => actMonitor (idx - 0x6D40)⟩, ⟨0x6D50, 0x6D50, 1, 8, fun _ _ => actTmux⟩,
   ⟨0x6D60, 0x6D60, 1, 1, fun _ _ => actChronEnable⟩, ⟨0x6D60, 0x6D60, 2, 2, fun _ _ => actRingPlace true⟩,
   ⟨0x6D60, 0x6D60, 3, 3, fun _ _ => actRingPlace false⟩, ⟨0x6D62, 0x6D62, 0, 0, fun _ _ => actAck⟩,
   ⟨0x7001, 0x7001, 0, 0, fun _ _ => actProvision⟩, ⟨0x7008, 0x7008, 0, 0, fun _ _ => actSealKey⟩,
   ⟨0x7010, 0x7010, 49, 64, fun _ sub => actSealCommand (sub - 49)⟩, ⟨0x7024, 0x7024, 0, 0, fun _ _ => actSealParam⟩,
   ⟨0x7030, 0x7030, 1, 1, fun _ _ => actAuditSelect⟩]

/-- What a write of an object means. -/
def actionOf (idx sub : Nat) : Action :=
  match (actRows1 ++ actRows2 ++ actRows3 ++ actRows4).find? fun r =>
      decide (r.lo ≤ idx) && decide (idx ≤ r.hi) && decide (r.slo ≤ sub) && decide (sub ≤ r.shi) with
  | some r => r.act idx sub
  | none => {}

end Sys2Proof.Machine
end

