-- ==== Sys2Proof/Machine/Dictionary.lean ====
section
/-! DEFINITION. The dictionary engine's own rows (02): sessions, requests, segmented writes, CANopen FD, process-data images and
taps; and SET_OBJECT_DEFAULT, which writes any object. -/

namespace Sys2Proof.Machine

/-! ### Opening a session (R50 to R53, R735) -/

/-- The source of a failure to authenticate: the port that its frame came by (R95). -/
def portSource (h : HostAddr) : Nat := 0xD000 + h.transport.val % 2

/-- A host's address as records carry it. -/
def addrBytes (h : HostAddr) : List Byte := leBytes h.addr 6

/-- A response outside any open session: no MAC, no sequence number. -/
def plainReply (s : State) (svc : Nat) (e : Env) (payload : List Byte) : State :=
  s.sendFrame (.response e.host (BitVec.ofNat 8 svc) e.session 0x01 e.transfer 0 payload [])

/-- A frame that this device takes at all: no duplicate of the ports' 802.1CB, and check 1 of R41. -/
def frameTaken (s : State) (e : Env) (payload : List Byte) : Bool :=
  s.available && transportOn s e && notDuplicate s (envStream e) e.rtag && frameOk e payload

/-- The state once a frame has been taken: its number is noted in its stream's recovery (R68). -/
def tookFrame (s : State) (e : Env) : State := recovered s (envStream e) e.rtag

/-- The key of a level, where it may open a session: the Vendor key from fuses, 32 zero bytes for an unset Builder key (R58, R59). -/
def levelKey (s : State) (level : Nat) : List Byte :=
  let k := if level = 5 then s.fuses.vendorKey else AMap.get [] s.dict.keys level
  if k = [] ∧ level = 4 then zeros 32 else k

/-- Whether a level may open (R735, R739). -/
def levelEnabled (s : State) (level : Nat) : Bool :=
  let v := s.num 0x1110 0
  match level with
  | 1 => !s.dict.levelFault
  | 2 => bit v 1
  | 3 => bit v 2
  | 5 => bit v 4
  | _ => true

/-- The free session number that an OPEN is given: the lowest (log entry 74). -/
def freeSession (s : State) : Option Nat := (List.range 16).find? fun n => decide ((s.session n).phase = .closed)

/-- The test of R735 that an OPEN fails. -/
def openRefusal (s : State) (level : Nat) : Option Nat :=
  firstOf
    [need (1 ≤ level ∧ level ≤ 5) abRange, need (levelEnabled s level) abDisabled,
     need (AMap.get 0 s.dict.lockedTill level ≤ s.now) abAuth, need (levelKey s level ≠ []) abAuth,
     need (freeSession s).isSome abFull]

/-- OPEN. -/
def execOpenSession (e : Env) (level options : Byte) (nonce : List Byte) (s : State) : Res :=
  let lv := level.toNat
  if ¬ frameTaken s e (level :: options :: nonce) ∨ nonce.length ≠ 16 then .next s
  else
    let s := levelsUsed (tookFrame s e)
    match openRefusal s lv, freeSession s with
    | none, some n =>
      let dev := drawBytes s 16
      let x : Session :=
        { phase := .opening, level := lv, wantsSealed := bit options.toNat 1, subscribed := bit options.toNat 0, host := e.host,
          hostNonce := nonce, devNonce := dev, heldAt := s.now }
      .next (plainReply ((s.drew 16).setSession n x) 0x02 e (u8 n ++ dev ++ u32 s.fuses.serial.toNat))
    | some c, _ =>
      let unset := levelEnabled s lv && decide (1 ≤ lv) && decide (lv ≤ 5) && decide (AMap.get 0 s.dict.lockedTill lv ≤ s.now) &&
        decide (levelKey s lv = [])
      let s1 := plainReply s 0x01 e (u32 c)
      .next (if unset then event s1 (portSource e.host) 0xD003 (level :: addrBytes e.host) else s1)
    | none, none => .next (plainReply s 0x01 e (u32 abFull))

/-- What a RESPONSE's HMAC covers (R50). -/
def challenge (s : State) (x : Session) (n : Nat) : List Byte :=
  x.devNonce ++ x.hostNonce ++ u8 x.level ++ u8 n ++ u32 s.fuses.serial.toNat

/-- A failed authentication at a level (R51, R56). -/
def authFailed (s : State) (level : Nat) (h : HostAddr) : State :=
  let s1 := event s (portSource h) 0xD003 (u8 level ++ addrBytes h)
  let n := AMap.get 0 s.dict.fails level + 1
  if s.num 0x1101 2 ≤ n then
    event { s1 with dict := { s1.dict with
        fails := AMap.set 0 s1.dict.fails level 0
        lockedTill := AMap.set 0 s1.dict.lockedTill level (s.now + nsRoots (s.num 0x1101 3 * 1000000000)) } }
      (portSource h) 0xD004 (u8 level ++ u16 (s.num 0x1101 3))
  else { s1 with dict.fails := AMap.set 0 s1.dict.fails level n }

/-- A session opens: OPENED, event 0xD001, and 0xD005 for a Builder session under an unset key. -/
def openNow (s : State) (e : Env) (n : Nat) (x : Session) (right : Bool) : State :=
  let k := levelKey s x.level
  let y : Session :=
    { phase := .opened, level := x.level, wantsSealed := x.wantsSealed, sealedRight := right, subscribed := x.subscribed,
      host := x.host, ks := Crypto.hmac k ([0x5A, 0x44, 0x54, 0x31] ++ x.devNonce ++ x.hostNonce ++ u8 n), lastValid := s.now }
  let s1 := (s.setSession n y).sendFrame (.response e.host 0x04 e.session 0x01 e.transfer 0
    (u8 x.level ++ u8 (b2n right) ++ Crypto.hmac k (x.hostNonce ++ x.devNonce ++ u32 s.fuses.serial.toNat)) [])
  let s2 := event { s1 with dict.fails := AMap.set 0 s1.dict.fails x.level 0 } (0xD010 + n) 0xD001
    (u8 n ++ u8 x.level ++ u8 x.host.transport.val ++ addrBytes x.host)
  if x.level = 4 ∧ AMap.get [] s.dict.keys 4 = [] then event s2 (0xD010 + n) 0xD005 (u8 n ++ addrBytes x.host) else s2

/-- A RESPONSE to the number n that awaits it. A right one opens the session also where its level has been locked since its OPEN: R735
tests the lock at OPEN (log entry 74). -/
def answerChallenge (s : State) (e : Env) (n : Nat) (x : Session) (hmac : List Byte) (sealedHmac : Option (List Byte)) : State :=
  if s.elapsed x.heldAt 1000000000 then plainReply (s.setSession n {}) 0x03 e (u32 abSession)
  else if hmac ≠ Crypto.hmac (levelKey s x.level) (challenge s x n) then
    authFailed (plainReply (s.setSession n {}) 0x03 e (u32 abAuth)) x.level x.host
  else
    let right := s.sealed.enabled && s.sealed.isOpen && decide (s.sealed.key ≠ []) &&
      decide (sealedHmac = some (Crypto.hmac s.sealed.key (challenge s x n)))
    openNow s e n x right

/-- RESPONSE. -/
def execResponse (e : Env) (hmac : List Byte) (sealedHmac : Option (List Byte)) (s : State) : Res :=
  let payload := hmac ++ sealedHmac.getD []
  let n := e.session.toNat
  let x := s.session n
  if ¬ frameTaken s e payload then .next s
  else if hmac.length ≠ 32 ∨ (sealedHmac ≠ none ∧ (sealedHmac.getD []).length ≠ 32) then .next s
  else if 16 ≤ n ∨ x.phase = .closed then .next (plainReply (tookFrame s e) 0x03 e (u32 abSession))
  else if x.phase = .opening then
    if x.host ≠ e.host ∨ x.wantsSealed ≠ sealedHmac.isSome then .next (tookFrame s e)
    else .next (answerChallenge (tookFrame s e) e n x hmac sealedHmac)
  else
    match receive s 0x03 e payload true with
    | .drop s1 => .next s1
    | .refuse s1 c => .next (respond s1 0x03 e (u32 c))
    | .go s1 _ => .next (respond s1 0x03 e (u32 abService))

/-- LEVEL_LOCK_EXPIRY (R56). -/
def execLevelLockExpiry (level : Fin 6) (s : State) : Res :=
  if AMap.get 0 s.dict.lockedTill level.val ≤ s.now then
    .next { s with dict.lockedTill := AMap.set 0 s.dict.lockedTill level.val 0 }
  else .next s

/-- OPENING_TIMEOUT (R51). -/
def execOpeningTimeout (n : Fin 16) (s : State) : Res :=
  if (s.session n.val).phase = .opening ∧ s.elapsed (s.session n.val).heldAt 1000000000 then .next (s.setSession n.val {})
  else .next s

/-- A frame of a service whose response is a status alone, from a session that is open; session 0xFF is none (R41, R736). -/
def statusOnly (svc : Nat) (e : Env) (payload : List Byte) (act : State → Fin 16 → State) (s : State) : State :=
  if e.session = 0xFF then (if frameTaken s e payload then plainReply (tookFrame s e) svc e (u32 abSession) else s)
  else
    match receive s svc e payload true with
    | .drop s1 => s1
    | .refuse s1 c => respond s1 svc e (u32 c)
    | .go s1 (.session n) => act s1 n
    | .go s1 _ => s1

/-- CLOSE (R55). -/
def execClose (e : Env) (s : State) : Res :=
  .next (statusOnly 0x05 e [] (fun s n => closeSession (respond s 0x05 e (u32 0)) n.val 0) s)

/-- IDLE_TIMEOUT (R55). -/
def execIdleTimeout (n : Fin 16) (s : State) : Res :=
  if (s.session n.val).phase = .opened ∧ s.elapsed (s.session n.val).lastValid (s.num 0x1101 1 * 1000000000) then
    .next (closeSession s n.val 1)
  else .next s

/-! ### Requests at taps (R83 to R88) -/

/-- Whether an index lies in the tap area (R40). -/
def inTapArea (idx : Nat) : Bool := decide (0x2000 ≤ idx) && decide (idx ≤ 0x5FFF)

/-- Whether taps are served in this mode (R93). -/
def tapsServed (s : State) : Bool := s.runHoldOrFrom s.boot.writesEnabled

/-- The checks of R41 on a request at a tap, from check 3, and the tap's queue (R85). In Start-up, before taps are served, an index
without a tap is refused like one with (R93). -/
def tapRefusal (s : State) (who : Requester) (r : TapReq) (paired : Bool) : Option Nat :=
  match tapFor s r.index.toNat with
  | none => some (if s.mode = .startUp ∧ ¬ tapsServed s then abState else abNoTap)
  | some (t, e) =>
    firstOf
      [need (¬ paired) abAccess, need (¬ r.write ∨ who ≠ .anonymous) abLevel,
       need ((if r.write then e.writeLevel else e.readLevel) ≤ levelOf s who) abLevel, need (tapsServed s) abState,
       need (¬ r.write ∨ who = .image ∨ ¬ mappedRx s r.index.toNat r.sub.toNat) abMapped,
       need (¬ r.write ∨ r.offset = 0) abSegment, need (¬ r.write ∨ (r.data.length = r.length ∧ r.length ≤ 1024)) abLength,
       need ((s.dict.taps.filter fun (q : TapReq) => decide (q.tap = t)).length < 5) abResources]

/-- A request joins its tap's queue, or is refused with a code. -/
def tapRequest (s : State) (who : Requester) (r : TapReq) (paired : Bool) : State × Option Nat :=
  match tapRefusal s who r paired, tapFor s r.index.toNat with
  | none, some (t, _) => ({ s with dict.taps := s.dict.taps ++ [{ r with tap := t }] }, none)
  | some c, _ => (s, some c)
  | none, none => (s, some abNoTap)

/-- How many anonymous requests wait (R66). -/
def anonymousWaiting (s : State) : Nat := (s.dict.taps.filter fun (q : TapReq) => decide (q.who = .anonymous)).length

/-- The first queued request at a tap that holds none. -/
def nextAtTap (s : State) (tap : Nat) : Option TapReq :=
  let mine := s.dict.taps.filter fun (q : TapReq) => decide (q.tap = tap)
  if mine.any fun q => q.forwardedAt.isSome then none else mine.head?

/-- The request that a tap holds. -/
def heldAtTap (s : State) (tap : Nat) : Option TapReq :=
  s.dict.taps.find? fun q => decide (q.tap = tap) && q.forwardedAt.isSome

/-- The number of a tap among those in force, as DICT_TAPS_LO and DICT_TAPS_HI list them. -/
def tapNumber (s : State) (tap : Nat) : Nat := (indexOf? (fun (t : Nat × TapEntry) => decide (t.1 = tap)) (tapsInForce s)).getD 0

/-- The transaction that carries a request to a tap: a write by the dictionary engine to a target port of the tap's sector (log
entry 79). -/
def tapPacket (tap : Nat) : Pkt :=
  { kind := 0x02, initiator := 0x41, src := serviceRouter, dst := sectorRouter (tap / 8), tag := 0,
    address := 0x200000000000 + tap / 8 * 2 ^ 32, length := 1, use := .tap tap }

/-- TAP_FORWARD (R83): over the NoC as initiator 0x41, once it holds a credit, the request goes to the tap with the context that is active in its sector (R87). A mode that refuses taps
refuses the request. -/
def execTapForward (tap : Nat) (s : State) : Res :=
  match nextAtTap s tap with
  | none => .next s
  | some r =>
    if ¬ tapsServed s then .next (answerTap { s with dict.taps := s.dict.taps.erase r } r abState 0 [])
    else
      let ctx := s.activePlane (tap / 8)
      if ¬ hasCredit s (tapPacket tap) then .next s
      else
      let s1 := { s with dict.taps := s.dict.taps.map fun (q : TapReq) =>
        if q = r then { q with forwardedAt := some s.now, ctx := ctx, number := tapNumber s tap } else q }
      let s2 := s1.emit (.tap tap ctx r.index r.sub r.write (levelOf s r.who) r.length r.data)
      .next (counted (request s2 0x02 0x41 (tapPacket tap).address (max 1 r.data.length) 1 r.data (.tap tap) false) 0x0000 2 0 1)

/-- TAP_ANSWER (R84, R86). -/
def execTapAnswer (tap : Nat) (late : Bool) (status : BitVec 32) (data : List Byte) (s : State) : Res :=
  let c := status.toNat
  let code := if c = 0 ∨ c ∈ abortCodes then c else abGeneral
  if late then
    match s.dict.tapLate.find? fun q => decide (q.tap = tap) with
    | none => .next s
    | some r =>
      .next (event { s with dict.tapLate := s.dict.tapLate.erase r } (reqSource r.who) 0xD00A (u16 r.number ++ u16 r.index.toNat))
  else
    match heldAtTap s tap with
    | none => .next s
    | some r =>
      let s1 := { s with dict.taps := s.dict.taps.erase r }
      if code ≠ 0 ∨ r.write then .next (answerTap s1 r code 0 [])
      else if data.length < r.offset then .next (answerTap s1 r abSegment 0 [])
      else
        .next (answerTap s1 r 0 data.length
          ((data.drop r.offset).take (if r.length = 0 then 1024 else min 1024 r.length)))

/-- TAP_TIMEOUT (R86). -/
def execTapTimeout (tap : Nat) (s : State) : Res :=
  match heldAtTap s tap with
  | none => .next s
  | some r =>
    if ¬ s.elapsed (r.forwardedAt.getD s.now) 1000000 then .next s
    else
      let s1 := { s with dict := { s.dict with
        taps := s.dict.taps.erase r, tapLate := s.dict.tapLate ++ [r],
        tapTimeouts := AMap.upd 0 s.dict.tapTimeouts (timeoutKey tap r.ctx) (satInc · 0xFFFF) } }
      .next (counted (event (answerTap s1 r abTapTimeout 0 []) (reqSource r.who) 0xD009
        (u16 r.number ++ u16 r.index.toNat ++ [r.sub])) 0x0000 3 0 1)

/-! ### READ, WRITE, PAIRED WRITE -/

/-- READ (R44, R738). -/
def execRead (e : Env) (r : ReadReq) (s : State) : Res :=
  let payload := reqHead r.index r.sub r.ty r.offset r.length ++ [r.option, 0, 0, 0]
  let reply := fun (s : State) (c : Nat) => respond s 0x10 e (replyPayload r.index r.sub r.ty c 0 [])
  match receive s 0x10 e payload true with
  | .drop s1 => .next s1
  | .refuse s1 c => .next (reply s1 c)
  | .go s1 who =>
    if ninth s1 who then .next (reply s1 abResources)
    else if inTapArea r.index.toNat then
      if who = .anonymous ∧ 8 ≤ anonymousWaiting s1 then .next s1
      else
        match tapRequest s1 who ⟨0, who, some e, e.transfer, r.index, r.sub, r.ty, false, r.offset.toNat, r.length.toNat, [], none, s.now, none, 0⟩ false with
        | (s2, none) => .next s2
        | (s2, some c) => .next (reply s2 c)
    else
      let x := dictRead s1 who r
      .next (respond x.1 0x10 e (replyPayload r.index r.sub r.ty x.2.1 x.2.2.1 x.2.2.2))

/-- A WRITE or PAIRED WRITE frame of an index in the tap area. -/
def tapWrite (e : Env) (paired : Bool) (w : WriteReq) (s : State) : State :=
  let svc := if paired then 0x12 else 0x11
  let n := w.data.length
  let reply := fun (s : State) (c : Nat) => respond s svc e (replyPayload w.index w.sub w.ty c 0 [])
  match receive s svc e (writePayload w) (if paired then decide (2 ≤ n) && decide (n ≤ 16) else decide (n ≤ 1024)) with
  | .drop s1 => s1
  | .refuse s1 c => reply s1 c
  | .go s1 who =>
    if ninth s1 who then reply s1 abResources
    else
      match tapRequest s1 who ⟨0, who, some e, e.transfer, w.index, w.sub, w.ty, true, w.offset.toNat, w.length.toNat, w.data, none, s.now, none, 0⟩ paired with
      | (s2, none) => s2
      | (s2, some c) => reply s2 c

/-- A WRITE or PAIRED WRITE frame of any object. -/
def anyWrite (e : Env) (paired : Bool) (w : WriteReq) (s : State) : State :=
  if inTapArea w.index.toNat then tapWrite e paired w s
  else closeDue (serveWrite e paired w (actionOf w.index.toNat w.sub.toNat) s)

/-- WRITE (R41 to R43, R64). -/
def execWrite (e : Env) (w : WriteReq) (s : State) : Res := .next (anyWrite e false w s)

/-- PAIRED_WRITE (R45, R47). -/
def execPairedWrite (e : Env) (w : WriteReq) (s : State) : Res := .next (anyWrite e true w s)

/-- DICT_KEYS_WRITE (R57, R60). -/
def execDictKeysWrite (e : Env) (key : Fin 4) (wrap : List Byte) (s : State) : Res :=
  .next (closeDue (serveWrite e false (wholeWrite 0x1120 (key.val + 1) wrap) (actLevelKey (key.val + 1)) s))

/-- DICT_LEVEL_ENABLE_WRITE (R60). -/
def execDictLevelEnableWrite (e : Env) (v c : Byte) (s : State) : Res :=
  .next (closeDue (serveWrite e true (pairWrite 0x1110 0 [v] [c]) actLevelEnable s))

/-- CAN_ENABLE (R73). -/
def execCanEnable (e : Env) (v : Byte) (s : State) : Res := hostWrite e 0x1040 1 [v] actCanEnable s

/-- GATE_LIST_TAKES_EFFECT (R69). -/
def execGateListTakesEffect (s : State) : Res :=
  match s.dict.gatePending with
  | some (at_, l) =>
    if s.tai / s.num 0x1080 1 ≠ at_ / s.num 0x1080 1 then
      .next { s with dict.gateActive := l, dict.gatePending := none }
    else .next s
  | none => .next s

/-! ### Segmented writes (R64, R65) -/

/-- The segmented write of a requester under a transfer number. -/
def transferOf (s : State) (who : Requester) (id : BitVec 16) : Option Transfer :=
  s.dict.transfers.find? fun t => decide (t.who = who) && decide (t.transfer = id)

/-- A transfer ends. -/
def endTransfer (s : State) (t : Transfer) : State := { s with dict.transfers := s.dict.transfers.erase t }

/-- A segmented write's whole value is written. -/
def commitTransfer (s : State) (t : Transfer) (v : List Byte) : State × Nat :=
  dictWrite (endTransfer s t) t.who false
    ⟨BitVec.ofNat 16 (t.key / 256), BitVec.ofNat 8 (t.key % 256), t.ty, 0, BitVec.ofNat 32 t.total, v⟩
    (actionOf (t.key / 256) (t.key % 256))

/-- Whether more than 1 s has passed since a transfer's last segment. -/
def gapOver (s : State) (t : Transfer) : Bool := decide (48000000000 < (s.now - t.lastAt) * 5)

/-- One segment of a segmented write: its offset follows, its data do not pass the whole; the last brings it. -/
def takeSegment (s : State) (t : Transfer) (flagged last : Bool) (offset : Nat) (data : List Byte) : State × Nat :=
  let v := t.buf ++ data
  if gapOver s t then (endTransfer s t, abSegTimeout)
  else if ¬ flagged ∨ offset ≠ t.buf.length then (endTransfer s t, abSegment)
  else if t.total < v.length ∨ (last ∧ v.length ≠ t.total) then
    ((actionOf (t.key / 256) (t.key % 256)).late (endTransfer s t) v abLength, abLength)
  else if last then commitTransfer s t v
  else ({ s with dict.transfers := s.dict.transfers.map fun (x : Transfer) => if x = t then { x with buf := v, lastAt := s.now } else x }, 0)

/-- SEGMENT. -/
def execSegment (e : Env) (offset : BitVec 32) (data : List Byte) (s : State) : Res :=
  let reply := fun (s : State) (c : Nat) => respond s 0x13 e (u32 offset.toNat ++ u32 c)
  match receive s 0x13 e (u32 offset.toNat ++ data) (decide (1 ≤ data.length) && decide (data.length ≤ 1024)) with
  | .drop s1 => .next s1
  | .refuse s1 c => .next (reply s1 c)
  | .go s1 who =>
    if who = .anonymous then .next (reply s1 abLevel)
    else
      match transferOf s1 who e.transfer with
      | none => .next (reply s1 abSegment)
      | some t =>
        let r := takeSegment s1 t (isSegment e) (isLast e) offset.toNat data
        .next (closeDue (reply r.1 r.2))

/-- SEGMENT_TIMEOUT (R64), of a session's transfer; a client's stalled one ends at its next segment (log entry 76). The abort goes out as the SEGMENT response of the offset that did not come. -/
def execSegmentTimeout (n : Fin 16) (transfer : BitVec 16) (s : State) : Res :=
  match transferOf s (.session n) transfer with
  | none => .next s
  | some t =>
    if ¬ gapOver s t then .next s
    else
      .next (respond (endTransfer s t) 0x13
        ⟨(s.session n.val).host, 0, none, 0x445A, 1, BitVec.ofNat 8 n.val, 0, transfer, 0, 0, 0, []⟩ (u32 t.buf.length ++ u32 abSegTimeout))

/-- ABORT (R63): a transfer of the session ends; there is no response. -/
def execAbort (e : Env) (code : BitVec 32) (s : State) : Res :=
  match receive s 0x14 e (u32 code.toNat) true with
  | .drop s1 => .next s1
  | .refuse s1 _ => .next s1
  | .go s1 who =>
    let mine := s1.dict.taps.filter fun (t : TapReq) => decide (t.who = who ∧ who ≠ .anonymous ∧ t.transfer = e.transfer)
    .next { s1 with dict := { s1.dict with
      transfers := s1.dict.transfers.filter fun t => ¬ (t.who = who ∧ t.transfer = e.transfer)
      taps := s1.dict.taps.filter fun (t : TapReq) => !mine.contains t
      tapLate := s1.dict.tapLate ++ mine.filter fun (t : TapReq) => t.forwardedAt.isSome } }

/-- The services that a request may name (R63). -/
def requestServices : List Nat := [0x01, 0x03, 0x05, 0x10, 0x11, 0x12, 0x13, 0x14, 0x20]

/-- UNKNOWN_SERVICE (R63, R737). -/
def execUnknownService (e : Env) (service : Byte) (payload : List Byte) (s : State) : Res :=
  let svc := service.toNat
  if requestServices.contains svc then .next s
  else if e.session = 0xFF then .next (if frameTaken s e payload then plainReply (tookFrame s e) svc e (u32 abService) else s)
  else .next (statusOnly svc e payload (fun s _ => respond s svc e (u32 abService)) s)

/-! ### CANopen FD (R70 to R73) -/

/-- Whether a client node has a transfer in progress. -/
def canBusy (s : State) (node : Fin 128) : Bool :=
  (s.dict.transfers.any fun t => decide (t.who = .can node)) || (s.dict.taps.any fun t => decide (t.who = .can node))

/-- How many client nodes other than one have a transfer in progress. -/
def canClients (s : State) (node : Fin 128) : Nat :=
  ((List.finRange 128).filter fun n => decide (n ≠ node) && canBusy s n).length

/-- A read by a client: the whole value, at most 65,536 bytes. -/
def canRead (s : State) (node : Fin 128) (r : UsdoReq) : State :=
  let idx := r.index.toNat
  let sub := r.sub.toNat
  if inTapArea idx then
    match tapRequest s (.can node) ⟨0, .can node, none, 0, r.index, r.sub, 0, false, 0, 0, [], none, s.now, none, 0⟩ false with
    | (s1, none) => s1
    | (s1, some c) => canAnswer s1 node r.index r.sub c []
  else
    let x := dictRead s (.can node) ⟨r.index, r.sub, BitVec.ofNat 8 ((rowOf idx sub).elim 0 ObjRow.ty), 0, 0, 0⟩
    let v := readValue x.1 idx sub
    if x.2.1 ≠ 0 then canAnswer x.1 node r.index r.sub x.2.1 []
    else if 65536 < v.length then canAnswer x.1 node r.index r.sub abLength []
    else canAnswer x.1 node r.index r.sub 0 v

/-- An expedited write by a client. -/
def canWrite (s : State) (node : Fin 128) (r : UsdoReq) : State :=
  let idx := r.index.toNat
  let sub := r.sub.toNat
  if inTapArea idx then
    match tapRequest s (.can node) ⟨0, .can node, none, 0, r.index, r.sub, 0, true, 0, r.data.length, r.data, none, s.now, none, 0⟩ false with
    | (s1, none) => s1
    | (s1, some c) => canAnswer s1 node r.index r.sub c []
  else
    let x := dictWrite s (.can node) false (wholeWrite idx sub r.data) (actionOf idx sub)
    canAnswer x.1 node r.index r.sub x.2 []

/-- The request of a client at a tap that a segmented write makes once it is whole. -/
def canTapReq (s : State) (node : Fin 128) (idx : BitVec 16) (sub : Byte) (data : List Byte) : TapReq :=
  ⟨0, .can node, none, 0, idx, sub, 0, true, 0, data.length, data, none, s.now, none, 0⟩

/-- A segmented write by a client begins: at most 65,536 bytes, and at a tap 1,024 (R71, R83). -/
def canBegin (s : State) (node : Fin 128) (r : UsdoReq) : State :=
  let idx := r.index.toNat
  let sub := r.sub.toNat
  let w : WriteReq :=
    ⟨r.index, r.sub, BitVec.ofNat 8 ((rowOf idx sub).elim 0 ObjRow.ty), 0, r.length, r.data⟩
  let begun := canAnswer { s with dict.transfers := s.dict.transfers ++
    [⟨.can node, 0, objKey idx sub, w.ty, r.length.toNat, r.data, s.now⟩] } node r.index r.sub 0 []
  if 65536 < r.length.toNat ∨ (inTapArea idx ∧ (1024 < r.length.toNat ∨ r.length.toNat < r.data.length)) then
    canAnswer s node r.index r.sub abLength []
  else if inTapArea idx then
    match tapRefusal s (.can node) (canTapReq s node r.index r.sub (padTo r.data r.length.toNat)) false with
    | some c => canAnswer s node r.index r.sub c []
    | none => begun
  else
    match writeCheck s (.can node) false true w (actionOf idx sub) with
    | some (k, c) => canAnswer (if 7 ≤ k then (actionOf idx sub).late s r.data c else s) node r.index r.sub c []
    | none => begun

/-- A segment of a client's write. The last of one at a tap makes its request, which the tap answers. -/
def canSegment (s : State) (node : Fin 128) (r : UsdoReq) (last : Bool) : State :=
  match transferOf s (.can node) 0 with
  | none => canAnswer s node r.index r.sub abSegment []
  | some t =>
    let v := t.buf ++ r.data
    if inTapArea (t.key / 256) ∧ last ∧ ¬ gapOver s t ∧ v.length = t.total then
      match tapRequest (endTransfer s t) (.can node)
          (canTapReq s node (BitVec.ofNat 16 (t.key / 256)) (BitVec.ofNat 8 (t.key % 256)) v) false with
      | (s1, none) => s1
      | (s1, some c) => canAnswer s1 node r.index r.sub c []
    else
      let x := takeSegment s t true last t.buf.length r.data
      canAnswer x.1 node r.index r.sub x.2 []

/-- USDO_REQUEST: served where it is for the device's node (R70). -/
def execUsdoRequest (node : Fin 128) (r : UsdoReq) (s : State) : Res :=
  if ¬ s.available ∨ ¬ s.dict.can.running ∨ s.dict.can.busState = 3 ∨ r.server.val ≠ s.dict.can.node then .next s
  else
    let s1 := counted s 0x0000 1 0 1
    match r.kind with
    | 3 => .next (canSegment s1 node r false)
    | 4 => .next (canSegment s1 node r true)
    | 5 => .next (canAnswer s1 node r.index r.sub abService [])
    | k =>
      if canBusy s1 node ∨ 4 ≤ canClients s1 node then .next (canAnswer s1 node r.index r.sub abResources [])
      else if k = 0 then .next (canRead s1 node r)
      else if k = 1 then .next (canWrite s1 node r)
      else .next (canBegin s1 node r)

/-- CAN_BUS_OFF (R73): the controller's state as ISO 11898-1 gives it; event 0xD00E where it goes error passive or bus-off. -/
def execCanBusOff (state : Fin 4) (tec recv : BitVec 16) (s : State) : Res :=
  let c := s.dict.can
  if ¬ c.running ∨ state = 0 then .next s
  else
    let s1 := { s with dict.can := { c with busState := state.val, tec := tec.toNat, recv := recv.toNat } }
    .next (if 2 ≤ state.val ∧ c.busState ≠ state.val then
      event s1 0xD002 0xD00E (u8 state.val ++ u16 tec.toNat ++ u16 recv.toNat) else s1)

/-! ### Process-data images (R74 to R80) -/

/-- The payload of an image frame (R77). -/
def imagePayload (status : Byte) (image : List Byte) : List Byte := status :: (zeros 3 ++ image)

/-- The MAC of an image frame under Kp (R77): the header carries session 0xFF and the cycle number. -/
def imageMac (s : State) (flags : Byte) (cycle : BitVec 32) (payload : List Byte) : List Byte :=
  macOf (Crypto.hmac (AMap.get [] s.dict.keys 2) [0x70, 0x64]) 0x20
    ⟨⟨0, 0⟩, 0, none, 0x445A, 1, 0xFF, flags, 0, cycle, BitVec.ofNat 16 payload.length, 0, []⟩ payload

/-- The cycle, counted since TAI 0, that a cycle number names: the nearest to the present. -/
def cycleNamed (s : State) (c : BitVec 32) : Nat :=
  let k := s.tai / cycleNs s
  ((k : Int) + (c - BitVec.ofNat 32 k).toInt).toNat

/-- PROCESS_DATA (R76, R77): an image whose MAC fails is discarded, with event 0xD006 (R95). -/
def execProcessData (port : Fin 2) (srcMac : BitVec 48) (rtag : Option (BitVec 16)) (cycle : BitVec 32) (status : Byte)
    (image mac : List Byte) (s : State) : Res :=
  let k := cycleNamed s cycle
  let stream := frerStream srcMac.toNat 2
  if ¬ imagesRun s ∨ ¬ notDuplicate s stream rtag then .next s
  else
  let s := recovered s stream rtag
  let pd := s.dict.pd
  if (s.num 0x1060 9 ≠ 0 ∧ s.num 0x1060 9 ≠ srcMac.toNat) ∨ image.length ≠ mapLength s 0x1062 then .next s
  else if s.num 0x1060 11 = 1 ∧
      (AMap.get [] s.dict.keys 2 = [] ∨ mac ≠ imageMac s 0x08 cycle (imagePayload status image)) then
    .next (event s (0xD000 + port.val) 0xD006 (u8 0xFF ++ u32 cycle.toNat))
  else if k * cycleNs s + s.num 0x1060 6 < s.tai ∨ k ≤ pd.lastBoundary then
    .next (event { s with dict.pd := { pd with late := satInc pd.late maxU32 } } (0xD000 + port.val) 0xD00B (u32 cycle.toNat))
  else .next { s with dict.pd := { pd with held := AMap.ins pd.held k (status :: image) } }

/-- One entry's bytes of the receive image: an object is written, a tap's cyclic port takes them (R78). -/
def applyEntry (s : State) (v : Nat) (bs : List Byte) : State :=
  let idx := field v 31 16
  let sub := field v 15 8
  if inTapArea idx then { s with dict.pd := { s.dict.pd with tapOut := AMap.set [] s.dict.pd.tapOut (objKey idx sub) bs } }
  else (dictWrite s .image false (wholeWrite idx sub bs) (actionOf idx sub)).1

/-- Entries of the receive image in subindex order, without gaps (R74). -/
def applyEntries (image : List Byte) : List Nat → Nat → State → State
  | [], _, s => s
  | v :: rest, off, s => applyEntries image rest (off + field v 7 0) (applyEntry s v (bytesAt image off (field v 7 0)))

/-- The map entries in use. -/
def mapEntries (s : State) (idx : Nat) : List Nat := (List.range (s.num idx 0)).map fun i => s.num idx (i + 1)

/-- RX_IMAGE_APPLY (R76, R79). -/
def execRxImageApply (s : State) : Res :=
  let k := cycleCount s (s.num 0x1060 6)
  let pd := s.dict.pd
  if ¬ imagesRun s ∨ s.tai < s.num 0x1060 6 ∨ k = pd.lastBoundary then .next s
  else
    let rest := pd.held.filter fun (p : Nat × List Byte) => decide (k < p.1)
    match AMap.get [] pd.held k with
    | [] => .next { s with dict.pd := { pd with held := rest, lastBoundary := k, missed := pd.missed + 1 } }
    | _ :: image =>
      let s1 := { s with dict.pd := { pd with held := rest, lastBoundary := k, missed := 0, lastApplied := k % 2 ^ 32, fault := false,
                                              tapStale := false } }
      let s2 := counted (applyEntries image (mapEntries s 0x1062) 0 s1) 0x0000 0x0A 0 1
      .next (if pd.fault then event s2 0xD000 0xD00D (u32 (k % 2 ^ 32)) else s2)

/-- PD_RECEIVE_FAULT (R79): the taps are given the stale flag; the fault is a fallback cause of the teams whose mask names it (R236). -/
def execPdReceiveFault (s : State) : Res :=
  let pd := s.dict.pd
  if ¬ imagesRun s ∨ pd.fault ∨ pd.missed < s.num 0x1060 7 then .next s
  else
    let s1 := event { s with dict.pd := { pd with fault := true, tapStale := true } } 0xD000 0xD00C (u32 pd.lastApplied)
    let s2 := (List.range 16).foldl (fun s t => usePair s (0x6210 + t) 5) s1
    .next (triggerFallbacks s2 ((List.range 16).filter fun t => causeEnabled s2 t 4) 4)

/-- One entry's bytes of the transmit image, and whether a tap's last value stands in for them (R78). An object that a read
by an Operator would not show gives free values. -/
def sampleEntry (taps : List (Nat × List Byte)) (s : State) (v : Nat) : State × List Byte × Bool :=
  let idx := field v 31 16
  let sub := field v 15 8
  let n := field v 7 0
  if inTapArea idx then
    let fresh := if s.mode = .hold then none else (taps.find? fun p => decide (p.1 = objKey idx sub)).map (·.2)
    match fresh with
    | some bs =>
      ({ s with dict.pd := { s.dict.pd with tapIn := AMap.set [] s.dict.pd.tapIn (objKey idx sub) (padTo bs n) } }, padTo bs n, false)
    | none => (s, padTo (AMap.get [] s.dict.pd.tapIn (objKey idx sub)) n, true)
  else
    let s1 := (readFault s idx sub).getD s
    if sealedView s1 idx sub ∨ readState s1 idx sub ≠ none then (s1.drew n, drawBytes s1 n, false)
    else (s1, padTo (readValue s1 idx sub) n, false)

/-- The entries of the transmit image in subindex order. -/
def sampleEntries (taps : List (Nat × List Byte)) : List Nat → State → State × List Byte × Bool
  | [], s => (s, [], false)
  | v :: rest, s =>
    let x := sampleEntry taps s v
    let y := sampleEntries taps rest x.1
    (y.1, x.2.1 ++ y.2.1, x.2.2 || y.2.2)

/-- TX_IMAGE_SAMPLE (R76, R77). The MAC under an Operator key that is unset is a free value. -/
def execTxImageSample (taps : List (Nat × List Byte)) (s : State) : Res :=
  let k := cycleCount s (s.num 0x1060 5)
  if ¬ imagesRun s ∨ s.tai < s.num 0x1060 5 ∨ k = s.dict.pd.lastTx then .next s
  else
    let x := sampleEntries taps (mapEntries s 0x1061) s
    let s1 := { x.1 with dict.pd := { x.1.dict.pd with lastTx := k } }
    let c := BitVec.ofNat 32 k
    let payload := imagePayload (if x.2.2 then 1 else 0) x.2.1
    let out := fun (s : State) (mac : List Byte) => s.sendFrame (.image (field (s.num 0x1060 8) 47 0) (s.num 0x1060 10) c payload mac)
    if s.num 0x1060 11 = 0 then .next (out s1 [])
    else if AMap.get [] s.dict.keys 2 = [] then .next (out (s1.drew 16) (drawBytes s1 16))
    else .next (out s1 (imageMac s1 0x09 c payload))

/-! ### SET_OBJECT_DEFAULT (R283) -/

/-- Whether a packet may not set an object. -/
def defaultRefused (idx : Nat) : Bool := decide (idx / 256 = 0x11) || decide (idx = 0x6160) || decide (idx / 256 = 0x70)

/-- The write that a packet makes, and its status: any object, or a tap. -/
def defaultWrite (s : State) (d : List Byte) : State × Nat :=
  let idx := natAt d 0 2
  let sub := natAt d 2 1
  let paired := decide (natAt d 4 1 = 1)
  let data := d.drop 12
  if defaultRefused idx then (s, abAccess)
  else if inTapArea idx then
    match tapRequest s .loader ⟨0, .loader, none, 0, BitVec.ofNat 16 idx, BitVec.ofNat 8 sub, BitVec.ofNat 8 (natAt d 3 1), true, 0,
        natAt d 8 4, data, none, s.now, none, 0⟩ paired with
    | (s1, none) => (s1, 0)
    | (s1, some c) => (s1, c)
  else
    dictWrite s .loader paired
      ⟨BitVec.ofNat 16 idx, BitVec.ofNat 8 sub, BitVec.ofNat 8 (natAt d 3 1), 0, BitVec.ofNat 32 (natAt d 8 4), data⟩
      (actionOf idx sub)

/-- SET_OBJECT_DEFAULT. -/
def execSetObjectDefault (s : State) : Res :=
  packetRow 0x0B (fun s _ d =>
    let r := defaultWrite s d
    if r.2 = 0 then done r.1 else (r.1, some (0x0602, 0, u32 r.2))) s

end Sys2Proof.Machine
end

