-- ==== Sys2Proof/Machine/Edges.lean ====
section
/-! DEFINITION. Routing and cells (03, 04): the level of every wire and input under the contexts in force; the edges of the fabric
clocks and the switch edge (05): rows BLOCKMEM_PORT_ACCESS, FABRIC_CLOCK_EDGE and SWITCH_EDGE. -/

namespace Sys2Proof.Machine

/-! ### Places and links (R25, R153, R155, R166) -/

/-- A tile by global sector, cluster and number (R25). -/
structure Spot where
  g : Nat
  c : Nat
  t : Nat
  deriving DecidableEq, Repr

/-- The physical cluster row of a sector that is passed over: the spare row 8, or the row shifted out (R166). -/
def skippedRow (s : State) (g : Nat) : Nat :=
  let v := AMap.get 0 s.test.shifted g
  if bit v 7 then field v 2 0 else 8

/-- The physical row of a logical one. -/
def physicalRow (s : State) (g r : Nat) : Nat := if r < skippedRow s g then r else r + 1

/-- The logical row of a physical one in use. -/
def logicalRow (s : State) (g p : Nat) : Nat := if p < skippedRow s g then p else p - 1

/-- The logical row that the links north of a row reach: the skip path passes over the skipped row (R166, R167). -/
def rowNorth (s : State) (g r : Nat) : Nat :=
  let p := physicalRow s g r + 1
  logicalRow s g (if p = skippedRow s g then p + 1 else p)

/-- The logical row that the links south of a row reach. -/
def rowSouth (s : State) (g r : Nat) : Nat :=
  let p := physicalRow s g r - 1
  logicalRow s g (if p = skippedRow s g then p - 1 else p)

/-- The adjacent tile in a direction within the tower, where there is one (R155). -/
def neighbour (s : State) (p : Spot) : Dir → Option Spot
  | .north =>
    if p.t / 16 < 15 then some { p with t := p.t + 16 }
    else if p.c / 8 < 7 then some ⟨p.g, rowNorth s p.g (p.c / 8) * 8 + p.c % 8, p.t - 240⟩
    else if p.g % 12 / 4 < 2 then some ⟨p.g + 4, p.c - 56, p.t - 240⟩
    else none
  | .south =>
    if 0 < p.t / 16 then some { p with t := p.t - 16 }
    else if 0 < p.c / 8 then some ⟨p.g, rowSouth s p.g (p.c / 8) * 8 + p.c % 8, p.t + 240⟩
    else if 0 < p.g % 12 / 4 then some ⟨p.g - 4, p.c + 56, p.t + 240⟩
    else none
  | .east =>
    if p.t % 16 < 15 then some { p with t := p.t + 1 }
    else if p.c % 8 < 7 then some ⟨p.g, p.c + 1, p.t - 15⟩
    else if p.g % 12 % 4 < 3 then some ⟨p.g + 1, p.c - 7, p.t - 15⟩
    else none
  | .west =>
    if 0 < p.t % 16 then some { p with t := p.t - 1 }
    else if 0 < p.c % 8 then some ⟨p.g, p.c - 1, p.t + 15⟩
    else if 0 < p.g % 12 % 4 then some ⟨p.g - 1, p.c + 7, p.t + 15⟩
    else none
  | _ => none

/-- The direction from which a neighbour's wires come. -/
def opposite : Dir → Dir
  | .north => .south | .south => .north | .east => .west | .west => .east | d => d

/-- How many wires a link carries towards a face or an under node (R153, R171). -/
def wires (under : Bool) (t : Nat) : Dir → Nat
  | .vert => 24
  | .base => if ¬ under then 0 else if t = 118 then 9 else 4
  | .seamX => if under then 8 else 0
  | .seamY => if under then 8 else 0
  | _ => if under then 16 else 24

/-- The seam that an edge tile sends across in a direction: the seam, its group, the direction, and the tile's place in the group
(R24, R175). -/
def seamPlace (p : Spot) (d : Dir) : Option (Nat × Nat × Bool × Nat) :=
  let tw := p.g / 12
  let X := 128 * (p.g % 12 % 4) + 16 * (p.c % 8) + p.t % 16
  let Y := 128 * (p.g % 12 / 4) + 16 * (p.c / 8) + p.t / 16
  match d with
  | .seamX => if X = (if tw % 2 = 0 then 511 else 0) then some (tw / 2, Y / 16, decide (tw % 2 = 1), Y % 16) else none
  | .seamY => if Y = (if tw < 2 then 383 else 0) then some (2 + tw % 2, X / 16, decide (2 ≤ tw), X % 16) else none
  | _ => none

/-- The tiles of a seam group on the side of one of them. -/
def seamSide (p : Spot) (d : Dir) : List Spot :=
  (List.range 16).map fun i => if d = .seamX then { p with t := 16 * i + p.t % 16 } else { p with t := p.t / 16 * 16 + i }

/-- The anchor tile k of a cluster's base port (R171). -/
def portTile (k : Nat) : Nat := 16 * (7 + k / 4) + 6 + k % 4

/-- Which anchor of the base port a tile is. -/
def portAnchor (t : Nat) : Option Nat := (List.range 8).find? fun k => portTile k = t

/-- The unit anchored at a tile: its kind, 0 fabric queue, 1 block memory, 2 arithmetic slice, and number (R96). -/
def unitAt (t : Nat) : Option (Nat × Nat) :=
  match t % 16 with
  | 0 => some (0, t / 64) | 4 => some (1, t / 64) | 8 => some (2, t / 64) | 12 => some (2, 4 + t / 64) | _ => none

/-- The anchor tile that serves input i of a unit. -/
def inputTile (kind unit i : Nat) : Nat :=
  16 * (4 * (unit % 4) + (Config.pinTile kind i).val) + (match kind with | 0 => 0 | 1 => 4 | _ => if unit < 4 then 8 else 12)

/-! ### The fence of the sealed partition (R601, R602) -/

/-- Whether a tile's link in a direction crosses an edge of global sector 0 while the partition is enabled. -/
def fenced (s : State) (p : Spot) (d : Dir) : Bool :=
  s.sealed.enabled && (match neighbour s p d with
    | some q => decide (q.g ≠ p.g) && (decide (p.g = 0) || decide (q.g = 0))
    | none => false)

/-- The wires that the gates let arrive at a border tile's face node from a direction, as a mask. -/
def gateWires (s : State) (p : Spot) (d : Dir) : Nat :=
  let east := decide (d = .east) || decide (d = .west)
  let pos := if east then 16 * (p.c / 8) + p.t / 16 else 16 * (p.c % 8) + p.t % 16
  s.sealed.gates.foldl (fun m kv =>
    let v := kv.2.toNat
    if bit v 63 ∧ bit v 62 = decide (p.g = 0) ∧ bit v 61 = east ∧ field v 60 54 = pos then m ||| field v 23 0 else m) 0

/-- Whether wire w of a link is a gate wire as its receiving node sees it. -/
def gateWire (s : State) (p : Spot) (under : Bool) (d : Dir) (w : Nat) : Bool :=
  !under && fenced s p d && bit (gateWires s p d) w

/-- The clock of an incoming link group of a face node: that of its register, chosen with the registration (R161). -/
def groupClock (fr : BitVec 2560) (d : Dir) : Nat := ((Config.linkClock fr false d).getD (Config.gateClock fr d)).val

/-! ### The level of a wire (R99 to R105, R154 to R156) -/

/-- What has a level: a node's selection, a wire that leaves a node, one that arrives at it, the same as its node sees it, behind
the link's register where it has one, an input that a face node serves, a cell's carry in, a cell's output, the clock of a
half-tile as its flip-flops see it. -/
inductive Net where
  | pick (p : Spot) (under : Bool) (x : Pick)
  | out (p : Spot) (under : Bool) (d : Dir) (w : Nat)
  | link (p : Spot) (under : Bool) (d : Dir) (w : Nat)
  | inn (p : Spot) (under : Bool) (d : Dir) (w : Nat)
  | pin (p : Spot) (x : FacePin)
  | cin (p : Spot) (c : Fin 16)
  | cell (p : Spot) (c : Fin 16) (o : CellOut)
  | clk (p : Spot) (half : Fin 2)
  deriving DecidableEq, Repr

/-- A tile's configuration under the active context of its powered sector; none where its frame is all zero (log entry 5). -/
def tileFrame (s : State) (p : Spot) : Option (BitVec 2560) :=
  match s.activePlane p.g with
  | none => none
  | some q =>
    let v := leNat (AMap.get [] s.frames (frameAddr q p.g p.c p.t 0))
    if s.sectorOn p.g ∧ v ≠ 0 then some (BitVec.ofNat 2560 v) else none

/-- The half-tile of a cell (R105). -/
def halfOf (c : Fin 16) : Fin 2 := if c.val < 8 then 0 else 1

/-- n levels as a word, the first in bit 0. -/
def levelsWord (n : Nat) (f : Nat → Bool) : Nat := bitsNat ((List.range n).map f)

/-- The number of a flip-flop of a tile. -/
def ffKey (p : Spot) (c : Fin 16) (i : Nat) : Nat := (((p.g * 64 + p.c) * 256 + p.t) * 16 + c.val) * 2 + i

/-- The number of the register of a wire that arrives at a node. -/
def hopKey (p : Spot) (under : Bool) (d : Dir) (w : Nat) : Nat :=
  let k := match d with | .north => 0 | .south => 1 | .east => 2 | .west => 3 | _ => 4
  ((p.g * 64 + p.c) * 256 + p.t) * 1024 + b2n under * 512 + k * 64 + w

/-- A cell's LUT inputs. -/
def cellInputs (ev : Net → Bool) (p : Spot) (c : Fin 16) : BitVec 6 :=
  BitVec.ofNat 6 (bitsNat ((List.finRange 6).map fun i => ev (.pin p (.k c i))))

/-- A flip-flop with the levels at its cell's inputs and controls (R104 to R107). -/
def ffAt (ev : Net → Bool) (fr : BitVec 2560) (p : Spot) (c : Fin 16) (i : Fin 2) : FfEdge :=
  let x := Config.cell fr c
  { lut := x.lut, mode := x.mode, k := cellInputs ev p c, cin := ev (.cin p c), bx := ev (.pin p (.bx c i)),
    k5 := x.k5 && decide (i = 0), conf := if i = 0 then x.ff0 else x.ff1,
    srType := (Config.controlSet fr (halfOf c)).sr, sr := ev (.pin p (.sr (halfOf c))), ce := ev (.pin p (.ce (halfOf c))) }

/-- What a flip-flop drives: what it holds, its sr value while an asynchronous sr is asserted, or, a latch while its clock holds
it open, its data (R104, R107). -/
def ffOut (s : State) (f : Fabric) (ev : Net → Bool) (fr : BitVec 2560) (p : Spot) (c : Fin 16) (i : Fin 2) : Bool :=
  let e := ffAt ev fr p c i
  let q := AMap.get false f.ff (ffKey p c i.val)
  let high := ev (.clk p (halfOf c))
  if ¬ s.boot.srReleased then q
  else if asyncSr e then e.conf.srSets
  else if (e.conf.kind = .latchHigh ∧ high) ∨ (e.conf.kind = .latchLow ∧ ¬ high) then ffNext e q
  else q

/-- The levels at the inputs of a slice, by number: a, b, c, acc, sub, ce, rst. -/
def drivenSlice (ev : Net → Bool) (g c unit : Nat) : ArithIn :=
  let pin := fun i => ev (.pin ⟨g, c, inputTile 2 unit i⟩ (.unit i))
  let w := fun lo n => levelsWord n fun i => pin (lo + i)
  ⟨BitVec.ofNat 32 (w 0 32), BitVec.ofNat 32 (w 32 32), BitVec.ofNat 56 (w 64 56), pin 120, pin 121, pin 122, pin 123⟩

/-- The levels at the inputs of a queue, by number: din, push, next, mark, rewind, release, rst. -/
def drivenQueue (ev : Net → Bool) (g c unit : Nat) : FqIn :=
  let pin := fun i => ev (.pin ⟨g, c, inputTile 0 unit i⟩ (.unit i))
  ⟨pin 36, BitVec.ofNat 36 (levelsWord 36 pin), pin 37, pin 38, pin 39, pin 40, pin 41⟩

/-- The levels at the inputs of a block memory's port, by number, port B's after port A's: en, we, addr, din, reg_en, reg_clr. -/
def drivenPort (ev : Net → Bool) (g c unit : Nat) (b : Bool) : BmPortIn :=
  let pin := fun i => ev (.pin ⟨g, c, inputTile 1 unit (i + 65 * b2n b)⟩ (.unit (i + 65 * b2n b)))
  let w := fun lo n => levelsWord n fun i => pin (lo + i)
  ⟨pin 0, BitVec.ofNat 8 (w 1 8), BitVec.ofNat 18 (w 9 18), BitVec.ofNat 36 (w 27 36), pin 63, pin 64⟩

/-- Output o of a unit: a queue's dout, valid, empty, full, afull, count, ovf; a block memory's dout_a, dout_b, par_err_a, par_err_b,
ecc_fixed, ecc_fail, load_busy; a slice's res (R120, R128, R136, R150). -/
def unitOut (s : State) (f : Fabric) (ev : Net → Bool) (p : Spot) (o : Nat) : Bool :=
  match unitAt p.t with
  | none => false
  | some (0, u) =>
    let q := queueOut (s.activeSettings p.g p.c u 4) (AMap.get {} f.fq ((p.g * 64 + p.c) * 4 + u))
    if o < 36 then q.dout.getLsbD o
    else
      match o - 36 with
      | 0 => q.valid | 1 => q.empty | 2 => q.full | 3 => q.afull | 9 => q.ovf
      | k => decide (k < 9) && bit q.count (k - 4)
  | some (1, u) =>
    let blk := (p.g * 64 + p.c) * 4 + u
    let cfg := s.activeSettings p.g p.c u 5
    let a := portOut f cfg blk false
    let b := portOut f cfg blk true
    if o < 36 then a.1.getLsbD o
    else if o < 72 then b.1.getLsbD (o - 36)
    else
      match o - 72 with
      | 0 => bit a.2 0 | 1 => bit b.2 0 | 2 => bit b.2 1 | 3 => bit b.2 2 | 4 => AMap.get false f.loadBusy blk | _ => false
  | some (_, u) =>
    let n := (p.g * 64 + p.c) * 8 + u
    (sliceOut (s.activeSettings p.g p.c u 3) (AMap.get {} f.arith n) (linkIn f n) (drivenSlice ev p.g p.c u)).getLsbD o

/-- Output o of the REIN primitive of a sector: busy, active (R218). -/
def reinOut (s : State) (g : Nat) (o : Fin 4) : Bool :=
  match s.teamOf g with
  | none => false
  | some t => if o = 0 then reinBusy s t else bit (reinActive s t) (o.val - 1)

/-- What a base link's wire w carries towards the under node of anchor k: rx_data, and at anchor 0 rx_valid, tx_ready and rx_ctx
(R171, R172). -/
def baseWire (s : State) (f : Fabric) (ev : Net → Bool) (p : Spot) (k w : Nat) : Bool :=
  let l : PortLink := AMap.get {} f.ports (p.g * 64 + p.c)
  let rx := if portMoves s p.g p.c then l.rx else none
  if w < 4 then rx.any fun x => x.2.getLsbD (4 * k + w)
  else if k ≠ 0 then false
  else
    match w with
    | 4 => rx.isSome
    | 5 => txReady s p.g p.c (levelsWord 4 fun i => ev (.out { p with t := portTile 7 } true .base i))
    | _ => rx.any fun x => bit x.1 (w - 6)

/-- The level of a net, followed back through at most so many steps; a loop without a register has a free level. high tells the
level of FCLKn in a sector. -/
def level (s : State) (f : Fabric) (high : Nat → Nat → Bool) : Nat → Net → Bool
  | 0, _ => (Config.freeBits s.freeCtr).getLsbD 0
  | n + 1, x =>
    let ev := level s f high n
    match x with
    | .pick p under y =>
      match y with
      | .zero => false
      | .wire d w => ev (.inn p under d w)
      | .cell c o => !under && ev (.cell p c o)
      | .unit o => !under && unitOut s f ev p o
      | .rein o => !under && reinOut s p.g o
    | .out p under d w =>
      match tileFrame s p with
      | none => false
      | some fr => ev (.pick p under (Config.wirePick fr under d w))
    | .link p under d w =>
      if wires under p.t d ≤ w then false
      else
        match d with
        | .vert => ev (.out p (!under) .vert w)
        | .base => (portAnchor p.t).any fun k => baseWire s f ev p k w
        | .seamX | .seamY =>
          match seamPlace p d with
          | none => false
          | some (sm, grp, rev, i) =>
            seamLive s sm grp (seamSectors sm grp (!rev)).1 && AMap.get false f.seamCapture (seamKey sm grp (!rev) (8 * i + w))
        | _ =>
          match neighbour s p d with
          | none => false
          | some q => (!fenced s p d || gateWire s p under d w) && ev (.out q under (opposite d) w)
    | .inn p under d w =>
      match tileFrame s p with
      | none => false
      | some fr =>
        if lateral.contains d && ((Config.linkClock fr under d).isSome || gateWire s p under d w) then AMap.get false f.hop (hopKey p under d w)
        else ev (.link p under d w)
    | .pin p y =>
      match tileFrame s p with
      | none => false
      | some fr => ev (.pick p false (Config.pinPick fr y))
    | .cin p c =>
      let below :=
        if h : 0 < c.val then ev (.cell p ⟨c.val - 1, by omega⟩ .cout)
        else
          match neighbour s p .south with
          | some q => decide (q.g = p.g) && ev (.cell q 15 .cout)
          | none => false
      match tileFrame s p with
      | none => false
      | some fr =>
        if c = 0 ∨ c = 8 then
          match Config.carryIn fr (halfOf c) with
          | .zero => false
          | .one => true
          | .routed => ev (.pin p (.cin (halfOf c)))
          | .below => below
        else below
    | .cell p c o =>
      match tileFrame s p with
      | none => false
      | some fr =>
        let y := Config.cell fr c
        match o with
        | .ya => (lutOut y.mode y.lut (cellInputs ev p c) (ev (.cin p c))).1
        | .yb => (lutOut y.mode y.lut (cellInputs ev p c) (ev (.cin p c))).2
        | .cout => carryOut y.mode y.lut (cellInputs ev p c) (ev (.cin p c))
        | .q0 => ffOut s f ev fr p c 0
        | .q1 => ffOut s f ev fr p c 1
    | .clk p half =>
      match tileFrame s p with
      | none => false
      | some fr =>
        let cs := Config.controlSet fr half
        (match cs.clock with
         | some m => high m.val p.g
         | none => ev (.pin p (.clk half))) != cs.inverted

/-- How far a level is followed back: longer than the longest carry chain with its 32 hops between registers (R101, R162). -/
def levelDepth : Nat := 65536

/-- Whether FCLKn is high in a sector at a root period: in the first half of the period of an executed edge. -/
def fclkHigh (s : State) (root n g : Nat) : Bool :=
  sectorRuns s g && decide (root % s.clockN n < s.clockN n / 2) && edgeExecuted s n g root

/-- Levels just before the edges of this instant, under the contexts whose cycle ends at them. -/
def netBefore (s : State) : Net → Bool :=
  level s.outgoing s.edge.before (fun n g => decide (0 < s.now) && fclkHigh s (s.now - 1) n g) levelDepth

/-- Levels as things stand now. -/
def netNow (s : State) : Net → Bool := level s s.fab (fclkHigh s s.now) levelDepth

/-! ### Edges of a fabric clock (R104 to R107, R161, R174 to R179) -/

/-- The tiles with a configuration under the active context of a sector. -/
def writtenTiles (s : State) (g : Nat) : List (Spot × BitVec 2560) :=
  match s.activePlane g with
  | none => []
  | some q =>
    (planeFrames s g q).filterMap fun kv =>
      let p : Spot := ⟨g, addrCluster kv.1, addrTile kv.1⟩
      if addrType kv.1 = 0 then (tileFrame s p).map fun fr => (p, fr) else none

/-- The cells whose control set takes FCLKn. -/
def cellsOn (fr : BitVec 2560) (n : Nat) : List (Fin 16) :=
  (List.finRange 16).filter fun c => (Config.controlSet fr (halfOf c)).clock.any fun m => decide (m.val = n)

/-- What a flip-flop of FCLKn holds after an edge, from the levels before it: at the rising edge of the clock as its control set
has it, a flip-flop captures; a latch keeps what it let through. -/
def ffTakes (s : State) (ev : Net → Bool) (fr : BitVec 2560) (p : Spot) (c : Fin 16) (i : Fin 2) (rising : Bool) : Bool :=
  let e := ffAt ev fr p c i
  if e.conf.kind = .rising ∧ (Config.controlSet fr (halfOf c)).inverted ≠ rising then
    ffNext e (AMap.get false s.edge.before.ff (ffKey p c i.val))
  else ffOut s s.edge.before ev fr p c i

/-- The flip-flops of one tile at an edge of FCLKn. -/
def tileFfs (s : State) (ev : Net → Bool) (n : Nat) (rising : Bool) (m : AMap Bool) (t : Spot × BitVec 2560) : AMap Bool :=
  (cellsOn t.2 n).foldl (fun m c => [0, 1].foldl (fun m i =>
    AMap.set false m (ffKey t.1 c i.val) (ffTakes s ev t.2 t.1 c i rising)) m) m

/-- The hop registers of one tile at a rising edge of FCLKn (R161), and the registers of its gate wires (R602). -/
def tileHops (s : State) (ev : Net → Bool) (n : Nat) (m : AMap Bool) (t : Spot × BitVec 2560) : AMap Bool :=
  [false, true].foldl (fun m under => lateral.foldl (fun m d =>
    if (Config.linkClock t.2 under d).any fun k => decide (k.val = n) then
      (List.range (wires under t.1.t d)).foldl (fun m w => AMap.set false m (hopKey t.1 under d w) (ev (.link t.1 under d w))) m
    else if ¬ under ∧ groupClock t.2 d = n then
      (List.range 24).foldl (fun m w =>
        if gateWire s t.1 under d w then AMap.set false m (hopKey t.1 under d w) (ev (.link t.1 under d w)) else m) m
    else m) m) m

/-- The launch and capture registers of one edge tile at a rising edge of FCLKn, where its side of the group takes that clock and
both towers execute the edge (R174, R176, R178). -/
def tileSeams (s : State) (ev : Net → Bool) (n : Nat) (f : Fabric) (t : Spot × BitVec 2560) : Fabric :=
  [Dir.seamX, Dir.seamY].foldl (fun f d =>
    match seamPlace t.1 d with
    | none => f
    | some (sm, grp, rev, i) =>
      let ends := seamSectors sm grp rev
      let clk := Config.seamClock ((seamSide t.1 d).map fun p => (tileFrame s.outgoing p).getD 0)
      if clk.val ≠ n ∨ ¬ edgeExecuted s n ends.1 s.now ∨ ¬ edgeExecuted s n ends.2 s.now then f
      else
        (List.range 8).foldl (fun f w =>
          { f with
            seamLaunch := AMap.set false f.seamLaunch (seamKey sm grp rev (8 * i + w)) (ev (.out t.1 true d w))
            seamCapture := AMap.set false f.seamCapture (seamKey sm grp (!rev) (8 * i + w))
              (seamLive s sm grp ends.2 && AMap.get false s.edge.before.seamLaunch (seamKey sm grp (!rev) (8 * i + w))) }) f) f

/-- The cells, hop registers and seam registers of some sectors take an edge of FCLKn, all from the levels before it. -/
def cellsEdge (s : State) (n : Nat) (rising : Bool) (gs : List Nat) : State :=
  let ev := netBefore s
  let tiles := gs.flatMap (writtenTiles s.outgoing)
  let f1 := { s.fab with ff := tiles.foldl (tileFfs s ev n rising) s.fab.ff }
  { s with fab := if rising then tiles.foldl (tileSeams s ev n) { f1 with hop := tiles.foldl (tileHops s ev n) f1.hop } else f1 }

/-- A base port takes an edge of its clock (R172): the word in its crossing register reaches the base die, and completes a transaction
where it is the last; a word moves on tx_data, and on rx_data, where valid and ready are both asserted; and the base die
presents its next word. -/
def takePortEdge (s : State) (g c : Nat) : State :=
  let b := s.outgoing
  if ¬ portMoves b g c ∨ ¬ portTakesEdge s g c then s
  else
    let ev := netBefore s
    let tx := fun k w => ev (.out ⟨g, c, portTile k⟩ true .base w)
    let word := BitVec.ofNat 32 (levelsWord 32 fun i => tx (i / 4) (i % 4))
    let l : PortLink := AMap.get {} s.fab.ports (g * 64 + c)
    let moved := tx 0 4 && txReady b g c (field word.toNat 31 28)
    let words := l.words ++ l.cross.toList
    let whole := (words.head?.map fun w => (txLength w).getD 1).any fun n => decide (n ≤ words.length)
    let rx := if tx 0 5 then none else l.rx
    let l1 : PortLink :=
      { cross := if moved then some word else none, words := if whole then [] else words,
        rx := if rx.isSome then rx else l.wait.head?, wait := if rx.isSome then l.wait else l.wait.drop 1 }
    let s1 := { s.edgeTaken (.base (g * 64 + c)) with fab.ports := AMap.set {} s.fab.ports (g * 64 + c) l1 }
    if whole then portTaken s1 g c words else s1

/-- One unit of a sector, by the frame of its settings, at a rising edge of FCLKn: its inputs are what the face nodes of its anchor
tiles drive (R154). -/
def unitEdge (ev : Net → Bool) (n : Nat) (s : State) (kv : Nat × List Byte) : State :=
  let v := leNat kv.2
  let g := addrSector kv.1
  let c := addrCluster kv.1
  let u := addrTile kv.1
  if h : g < 48 ∧ c < 64 ∧ v ≠ 0 then
    let uid : Fin 4 → UnitId := fun k => ⟨⟨g, h.1⟩, ⟨c, h.2.1⟩, k⟩
    match addrType kv.1 with
    | 3 => if hu : u < 8 then
        (if field v 11 9 = n then takeSliceEdge s ⟨⟨g, h.1⟩, ⟨c, h.2.1⟩, ⟨u, hu⟩⟩ (drivenSlice ev g c u) else s) else s
    | 4 => if hu : u < 4 then (if field v 2 0 = n then takeQueueEdge s (uid ⟨u, hu⟩) (drivenQueue ev g c u) else s) else s
    | 5 => if hu : u < 4 then
        (if (portCfg v false).clock = n ∨ (portCfg v true).clock = n then
          let own := fun b => decide ((portCfg v b).clock < 8)
          takeBlockEdge s (uid ⟨u, hu⟩) (if own false then some (drivenPort ev g c u false) else none)
            (if own true then some (drivenPort ev g c u true) else none) (drivenPort ev g c u true).din false 0
         else s) else s
    | 6 => if field v 3 1 = n then takePortEdge s g c else s
    | _ => s
  else s

/-- The units of some sectors take a rising edge of FCLKn. -/
def unitsEdge (s : State) (n : Nat) (gs : List Nat) : State :=
  let b := s.outgoing
  let frames := gs.flatMap fun g => match b.activePlane g with | some q => planeFrames b g q | none => []
  frames.foldl (unitEdge (netBefore s) n) s

/-! ### What follows an edge: asynchronous sr, open latches, routed clocks (R104, R107, R187, R188) -/

/-- One flip-flop, or latch, as things stand now: an asynchronous sr and an open latch act; a flip-flop whose routed clock has
risen captures, and where its data changes with that clock its value is free (R188). -/
def settleFf (rose : Bool) (now before : Net → Bool) (s : State) (t : Spot × BitVec 2560) (c : Fin 16) (i : Fin 2) : State :=
  let key := ffKey t.1 c i.val
  let q := AMap.get false s.fab.ff key
  let a := ffNext (ffAt now t.2 t.1 c i) q
  let b := ffNext (ffAt before t.2 t.1 c i) q
  if rose ∧ (ffAt now t.2 t.1 c i).conf.kind = .rising then
    let v := if a = b then a else (Config.freeBits s.freeCtr).getLsbD 0
    let s1 := if a = b then s else s.drew 1
    { s1 with fab.ff := AMap.set false s1.fab.ff key v }
  else { s with fab.ff := AMap.set false s.fab.ff key (ffOut s s.fab now t.2 t.1 c i) }

/-- One half-tile settled: its routed clock's level is kept, to find its next rise. -/
def settleHalf (now before : Net → Bool) (s : State) (x : (Spot × BitVec 2560) × Fin 2) : State :=
  let t := x.1
  let key := ((t.1.g * 64 + t.1.c) * 256 + t.1.t) * 2 + x.2.val
  let routed := (Config.controlSet t.2 x.2).clock.isNone
  let high := routed && now (.clk t.1 x.2)
  let rose := high && !AMap.get false s.fab.routed key
  ((List.finRange 16).filter fun c => halfOf c = x.2).foldl (fun s c => [0, 1].foldl (fun s i => settleFf rose now before s t c i) s)
    { s with fab.routed := AMap.set false s.fab.routed key high }

/-- The sectors whose cells run: powered, clocks running, released from set/reset. -/
def runningSectors (s : State) : List Nat := (List.range 48).filter fun g => sectorRuns s g && s.boot.srReleased

/-- Every running half-tile settled, again while something changes, at most so many times: each time a routed clock that a flip-flop
drives may rise. -/
def settle : Nat → State → State
  | 0, s => s
  | n + 1, s =>
    let halves := ((runningSectors s).flatMap (writtenTiles s)).flatMap fun t => [(t, (0 : Fin 2)), (t, 1)]
    let s1 := halves.foldl (settleHalf (netNow s) (netBefore s)) s
    if halves = [] ∨ s1.fab = s.fab then s1 else settle n s1

/-- The sectors that take this edge of FCLKn, but for those that have switched at this instant, which took it there. -/
def edgeSectors (s : State) (n : Nat) : List Nat :=
  (List.range 48).filter fun g => sectorRuns s g && edgeExecuted s n g s.now

/-- FABRIC_CLOCK_EDGE: the edge of FCLKn at this instant, rising or falling, where it is one: cells, hop and seam registers, and at the
rising edge the units and base ports that the clock drives, all from the values before it; then what follows. -/
def execFabricClockEdge (clk : Fin 8) (s : State) : Res :=
  let n := clk.val
  let rising := clockEdge s n true
  .next (if (¬ rising ∧ ¬ clockEdge s n false) ∨ s.edgeDone (.clock n rising) then s
    else
      let s0 := s.opened.edgeTaken (.clock n rising)
      let gs := edgeSectors s0 n
      let s1 := cellsEdge s0 n rising (gs.filter fun g => s0.boot.srReleased && decide (s0.activePlane g = s0.outgoing.activePlane g))
      settle 64 (if rising then unitsEdge s1 n gs else s1))

/-- BLOCKMEM_PORT_ACCESS (R113): an edge of one or both ports of a block, with these levels at their pins; unordered tells that two
accesses of which a routed clock makes one fall within 200 ps (R119), flips which bits of the row have flipped since it was
written. -/
def execBlockmemPortAccess (u : UnitId) (a b : Option BmPortIn) (unordered : Bool) (flips : BitVec 72) (s : State) : Res :=
  let din := (drivenPort (netNow s) u.sector.val u.cluster.val u.unit.val true).din
  .next (takeBlockEdge s u a b din unordered flips)

/-! ### The switch edge (R220 to R226) -/

/-- The edges that the members' cells take at the switch edge, as the outgoing context computes them (R164, R221). -/
def lastEdges (s : State) (ms : List Nat) : State :=
  (List.range 8).foldl (fun s n =>
    [true, false].foldl (fun s rising =>
      if clockEdge s n rising ∧ ¬ s.edgeDone (.clock n rising) ∧ s.boot.srReleased then
        cellsEdge s n rising (ms.filter fun g => sectorRuns s g && edgeExecuted s n g s.now)
      else s) s) s

/-- A team's members pass to plane q at root period r, with event 0x2001 (R220, R221, R222). -/
def performSwitch (s : State) (t q trigger r : Nat) : State :=
  let p := (s.running t).getD (s.team t).active.toNat
  let ms := s.members t
  let s0 := s.opened
  let s1 := ms.foldl (fun s g => switchSector s g q) (if r = s.now then lastEdges s0 ms else s0)
  let edgeTai := s.taiAt r
  let s2 := s1.updTeam t fun x =>
    { x with active := BitVec.ofNat 8 q, activeComp := ~~~(BitVec.ofNat 8 q), lastEdge := edgeTai, lastRoot := some r }
  let s3 := settle 64 (ms.foldl (fun s g => counted s (0x1000 + g) 0x04 0 1) s2)
  dropAbsent (dropUncovered (event s3 (teamSrc t) 0x2001 (u8 t ++ u8 p ++ u8 q ++ u8 trigger ++ u64 edgeTai)))

/-- SWITCH_EDGE (R220): the granted edge of a team's fallback, or of its pending switch, has come. -/
def execSwitchEdge (team : Fin 16) (s : State) : Res :=
  let t := team.val
  let s0 := tryGrant (teamUsed s t) t
  let x := s0.team t
  match x.fallback with
  | some f =>
    match f.edge with
    | some r =>
      if r ≤ s0.now then
        let s1 := performSwitch (s0.updTeam t fun x => { x with fallback := none }) t x.goodSafe 2 r
        .next (grantAll (event s1 (teamSrc t) 0x2006 (u8 t ++ u8 f.cause ++ u64 (s0.taiAt r))))
      else .next s0
    | none => .next s0
  | none =>
    match x.pending with
    | some p =>
      match p.edge with
      | some r =>
        if r ≤ s0.now ∧ s0.mode ≠ .hold then
          .next (grantAll (performSwitch (s0.updTeam t fun x => { x with pending := none }) t p.plane p.trigger r))
        else .next s0
      | none => .next s0
    | none => .next s0

end Sys2Proof.Machine
end

