-- ==== Sys2Proof/Machine/Dispatch.lean ====
section
/-! DEFINITION. The one dispatch of commands to their meanings: one arm per constructor, in the order of
spec/opcode_table.json's rows. -/

namespace Sys2Proof.Machine

/-- What a command does to everything but the queue. -/
def exec (i : Instr) (s : State) : Host.Outcome State Fault Refusal :=
  match i with
  | .openSession e level options nonce => Sys2Proof.Machine.execOpenSession e level options nonce s
  | .response e hmac sealedHmac => Sys2Proof.Machine.execResponse e hmac sealedHmac s
  | .levelLockExpiry level => Sys2Proof.Machine.execLevelLockExpiry level s
  | .openingTimeout n => Sys2Proof.Machine.execOpeningTimeout n s
  | .close e => Sys2Proof.Machine.execClose e s
  | .idleTimeout n => Sys2Proof.Machine.execIdleTimeout n s
  | .read e r => Sys2Proof.Machine.execRead e r s
  | .write e w => Sys2Proof.Machine.execWrite e w s
  | .pairedWrite e w => Sys2Proof.Machine.execPairedWrite e w s
  | .segment e offset data => Sys2Proof.Machine.execSegment e offset data s
  | .segmentTimeout n transfer => Sys2Proof.Machine.execSegmentTimeout n transfer s
  | .abort e code => Sys2Proof.Machine.execAbort e code s
  | .unknownService e service payload => Sys2Proof.Machine.execUnknownService e service payload s
  | .dictKeysWrite e key wrap => Sys2Proof.Machine.execDictKeysWrite e key wrap s
  | .dictLevelEnableWrite e v c => Sys2Proof.Machine.execDictLevelEnableWrite e v c s
  | .gateListTakesEffect => Sys2Proof.Machine.execGateListTakesEffect s
  | .canEnable e v => Sys2Proof.Machine.execCanEnable e v s
  | .usdoRequest node r => Sys2Proof.Machine.execUsdoRequest node r s
  | .canBusOff state tec recv => Sys2Proof.Machine.execCanBusOff state tec recv s
  | .processData port srcMac rtag cycle status image mac => Sys2Proof.Machine.execProcessData port srcMac rtag cycle status image mac s
  | .txImageSample taps => Sys2Proof.Machine.execTxImageSample taps s
  | .rxImageApply => Sys2Proof.Machine.execRxImageApply s
  | .pdReceiveFault => Sys2Proof.Machine.execPdReceiveFault s
  | .tapForward tap => Sys2Proof.Machine.execTapForward tap s
  | .tapAnswer tap late status data => Sys2Proof.Machine.execTapAnswer tap late status data s
  | .tapTimeout tap => Sys2Proof.Machine.execTapTimeout tap s
  | .blockmemPortAccess u a b unordered flips => Sys2Proof.Machine.execBlockmemPortAccess u a b unordered flips s
  | .arithAccumulate u x => Sys2Proof.Machine.execArithAccumulate u x s
  | .fqueueUpdate u x => Sys2Proof.Machine.execFqueueUpdate u x s
  | .fabMemReadCommand e v => Sys2Proof.Machine.execFabMemReadCommand e v s
  | .fabMemReadDone busError => Sys2Proof.Machine.execFabMemReadDone busError s
  | .fabFclkWrite e n v => Sys2Proof.Machine.execFabFclkWrite e n v s
  | .fclkDivisorChange n => Sys2Proof.Machine.execFclkDivisorChange n s
  | .delayLineStep line => Sys2Proof.Machine.execDelayLineStep line s
  | .baseportTransaction sector cluster words => Sys2Proof.Machine.execBaseportTransaction sector cluster words s
  | .switchAtTime e team plane planeCheck time => Sys2Proof.Machine.execSwitchAtTime e team plane planeCheck time s
  | .stagePlane e team plane planeCheck => Sys2Proof.Machine.execStagePlane e team plane planeCheck s
  | .unstage e team plane planeCheck => Sys2Proof.Machine.execUnstage e team plane planeCheck s
  | .cancelPendingSwitch e team plane planeCheck => Sys2Proof.Machine.execCancelPendingSwitch e team plane planeCheck s
  | .fallBackNow e team plane planeCheck => Sys2Proof.Machine.execFallBackNow e team plane planeCheck s
  | .releaseHold e team plane planeCheck => Sys2Proof.Machine.execReleaseHold e team plane planeCheck s
  | .stagingStart tower => Sys2Proof.Machine.execStagingStart tower s
  | .stagingComplete tower => Sys2Proof.Machine.execStagingComplete tower s
  | .reinRequest sector plane => Sys2Proof.Machine.execReinRequest sector plane s
  | .switchEdge team => Sys2Proof.Machine.execSwitchEdge team s
  | .fenceTimeout team => Sys2Proof.Machine.execFenceTimeout team s
  | .fallbackTrigger team cause => Sys2Proof.Machine.execFallbackTrigger team cause s
  | .teamMembersWrite e team v c => Sys2Proof.Machine.execTeamMembersWrite e team v c s
  | .teamSettingWrite e team setting v c => Sys2Proof.Machine.execTeamSettingWrite e team setting v c s
  | .planeClear e v => Sys2Proof.Machine.execPlaneClear e v s
  | .captureArm e => Sys2Proof.Machine.execCaptureArm e s
  | .captureDisarm e => Sys2Proof.Machine.execCaptureDisarm e s
  | .captureRelease e => Sys2Proof.Machine.execCaptureRelease e s
  | .captureTrigger sector => Sys2Proof.Machine.execCaptureTrigger sector s
  | .captureEdge routed => Sys2Proof.Machine.execCaptureEdge routed s
  | .captureCopyDone => Sys2Proof.Machine.execCaptureCopyDone s
  | .streamHeader src header tags => Sys2Proof.Machine.execStreamHeader src header tags s
  | .chunkVerified chunk => Sys2Proof.Machine.execChunkVerified chunk s
  | .unknownOpcode => Sys2Proof.Machine.execUnknownOpcode s
  | .selectPlane => Sys2Proof.Machine.execSelectPlane s
  | .writeFrames => Sys2Proof.Machine.execWriteFrames s
  | .writeFramesZr => Sys2Proof.Machine.execWriteFramesZr s
  | .initBlockmem => Sys2Proof.Machine.execInitBlockmem s
  | .initState => Sys2Proof.Machine.execInitState s
  | .setTeam => Sys2Proof.Machine.execSetTeam s
  | .setStartupOrder => Sys2Proof.Machine.execSetStartupOrder s
  | .checkCrc => Sys2Proof.Machine.execCheckCrc s
  | .keyRoll => Sys2Proof.Machine.execKeyRoll s
  | .forwardToChain follow => Sys2Proof.Machine.execForwardToChain follow s
  | .setObjectDefault => Sys2Proof.Machine.execSetObjectDefault s
  | .markValid => Sys2Proof.Machine.execMarkValid s
  | .endPacket => Sys2Proof.Machine.execEndPacket s
  | .tamperN widthNs => Sys2Proof.Machine.execTamperN widthNs s
  | .efuseKeyWrite e wrap => Sys2Proof.Machine.execEfuseKeyWrite e wrap s
  | .bbramKeyWrite e wrap => Sys2Proof.Machine.execBbramKeyWrite e wrap s
  | .bbramErase e v => Sys2Proof.Machine.execBbramErase e v s
  | .fuseLockPlain e => Sys2Proof.Machine.execFuseLockPlain e s
  | .fuseLockEfuseOnly e => Sys2Proof.Machine.execFuseLockEfuseOnly e s
  | .keyProg battery key check => Sys2Proof.Machine.execKeyProg battery key check s
  | .ownershipWrite e sector v c => Sys2Proof.Machine.execOwnershipWrite e sector v c s
  | .ownerKeyWrite e owner hash => Sys2Proof.Machine.execOwnerKeyWrite e owner hash s
  | .porstN asserted straps => Sys2Proof.Machine.execPorstN asserted straps s
  | .sysrstN widthNs => Sys2Proof.Machine.execSysrstN widthNs s
  | .fuseLoadDone critical vccioMv => Sys2Proof.Machine.execFuseLoadDone critical vccioMv s
  | .bistStart refPpm => Sys2Proof.Machine.execBistStart refPpm s
  | .bistWaitTick refPpm => Sys2Proof.Machine.execBistWaitTick refPpm s
  | .bistDone critical fails => Sys2Proof.Machine.execBistDone critical fails s
  | .repairDone => Sys2Proof.Machine.execRepairDone s
  | .calibrationDone runs flashAnswers octal flashId dir0 dir1 => Sys2Proof.Machine.execCalibrationDone runs flashAnswers octal flashId dir0 dir1 s
  | .startupVerifyDone mismatches => Sys2Proof.Machine.execStartupVerifyDone mismatches s
  | .loadPhaseEnd => Sys2Proof.Machine.execLoadPhaseEnd s
  | .activation => Sys2Proof.Machine.execActivation s
  | .clockLock => Sys2Proof.Machine.execClockLock s
  | .releaseOutputs => Sys2Proof.Machine.execReleaseOutputs s
  | .releaseSetReset => Sys2Proof.Machine.execReleaseSetReset s
  | .enableWrites => Sys2Proof.Machine.execEnableWrites s
  | .hostFeedData e data => Sys2Proof.Machine.execHostFeedData e data s
  | .startupOrderWrite e data => Sys2Proof.Machine.execStartupOrderWrite e data s
  | .libraryCopy images => Sys2Proof.Machine.execLibraryCopy images s
  | .libraryCopyDone failed => Sys2Proof.Machine.execLibraryCopyDone failed s
  | .libraryAreaWrite e size v => Sys2Proof.Machine.execLibraryAreaWrite e size v s
  | .writeEntry e v => Sys2Proof.Machine.execWriteEntry e v s
  | .writeData e data => Sys2Proof.Machine.execWriteData e data s
  | .loadEntry e v => Sys2Proof.Machine.execLoadEntry e v s
  | .loadStart => Sys2Proof.Machine.execLoadStart s
  | .cancelCurrent e => Sys2Proof.Machine.execCancelCurrent e s
  | .cancelAll e => Sys2Proof.Machine.execCancelAll e s
  | .position f pos => Sys2Proof.Machine.execPosition f pos s
  | .stream f bytes => Sys2Proof.Machine.execStream f bytes s
  | .report f pos flags failReason status => Sys2Proof.Machine.execReport f pos flags failReason status s
  | .reportTimeout => Sys2Proof.Machine.execReportTimeout s
  | .go f countdown => Sys2Proof.Machine.execGo f countdown s
  | .forceGo e v => Sys2Proof.Machine.execForceGo e v s
  | .goWaitTimeout => Sys2Proof.Machine.execGoWaitTimeout s
  | .delayReq f t1 => Sys2Proof.Machine.execDelayReq f t1 s
  | .delayResp f t1 t2 t3 t4 => Sys2Proof.Machine.execDelayResp f t1 t2 t3 t4 s
  | .remoteReq f message => Sys2Proof.Machine.execRemoteReq f message s
  | .remoteResp f message => Sys2Proof.Machine.execRemoteResp f message s
  | .ack f => Sys2Proof.Machine.execAck f s
  | .hitchAckDue up => Sys2Proof.Machine.execHitchAckDue up s
  | .hitchResend up => Sys2Proof.Machine.execHitchResend up s
  | .remoteRequestPush => Sys2Proof.Machine.execRemoteRequestPush s
  | .remoteTimeout tag => Sys2Proof.Machine.execRemoteTimeout tag s
  | .nocReadRequest k link tag err => Sys2Proof.Machine.execNocReadRequest k link tag err s
  | .nocWriteRequest k link tag err => Sys2Proof.Machine.execNocWriteRequest k link tag err s
  | .nocReadResponse k link => Sys2Proof.Machine.execNocReadResponse k link s
  | .nocWriteResponse k link => Sys2Proof.Machine.execNocWriteResponse k link s
  | .responseTimeout k => Sys2Proof.Machine.execResponseTimeout k s
  | .packetPromotedUrgent k => Sys2Proof.Machine.execPacketPromotedUrgent k s
  | .reservationWrite e n v => Sys2Proof.Machine.execReservationWrite e n v s
  | .reservationTakesEffect n => Sys2Proof.Machine.execReservationTakesEffect n s
  | .moverDoorbell initiator m addr => Sys2Proof.Machine.execMoverDoorbell initiator m addr s
  | .moverStart e m addr => Sys2Proof.Machine.execMoverStart e m addr s
  | .moverStop e mask => Sys2Proof.Machine.execMoverStop e mask s
  | .moverStartTime m => Sys2Proof.Machine.execMoverStartTime m s
  | .moverDescriptorDone m => Sys2Proof.Machine.execMoverDescriptorDone m s
  | .statClearSelected e => Sys2Proof.Machine.execStatClearSelected e s
  | .statClearAll e => Sys2Proof.Machine.execStatClearAll e s
  | .statWindowEnd => Sys2Proof.Machine.execStatWindowEnd s
  | .lineFillDone k => Sys2Proof.Machine.execLineFillDone k s
  | .writeBackAnswered k status => Sys2Proof.Machine.execWriteBackAnswered k status s
  | .maintenanceEntryTimeout slice line => Sys2Proof.Machine.execMaintenanceEntryTimeout slice line s
  | .waleFlush e mask => Sys2Proof.Machine.execWaleFlush e mask s
  | .waleInvalidate e mask => Sys2Proof.Machine.execWaleInvalidate e mask s
  | .flushDone slice => Sys2Proof.Machine.execFlushDone slice s
  | .windowPush initiator n data => Sys2Proof.Machine.execWindowPush initiator n data s
  | .windowPop initiator n len => Sys2Proof.Machine.execWindowPop initiator n len s
  | .windowRelease initiator n len => Sys2Proof.Machine.execWindowRelease initiator n len s
  | .windowIndexedAccess initiator n offset len wdata => Sys2Proof.Machine.execWindowIndexedAccess initiator n offset len wdata s
  | .windowStatusRead initiator n => Sys2Proof.Machine.execWindowStatusRead initiator n s
  | .panWindowEnable e n v => Sys2Proof.Machine.execPanWindowEnable e n v s
  | .panConflictClear e v => Sys2Proof.Machine.execPanConflictClear e v s
  | .backgroundTestRegion bank31 failed => Sys2Proof.Machine.execBackgroundTestRegion bank31 failed s
  | .backgroundRegionTimeout bank31 => Sys2Proof.Machine.execBackgroundRegionTimeout bank31 s
  | .bankClearingDone b => Sys2Proof.Machine.execBankClearingDone b s
  | .dramRequest k => Sys2Proof.Machine.execDramRequest k s
  | .dramCommandSlot channel pcB errs spareErrs => Sys2Proof.Machine.execDramCommandSlot channel pcB errs spareErrs s
  | .requestUrgent channel write k => Sys2Proof.Machine.execRequestUrgent channel write k s
  | .refreshInterval b => Sys2Proof.Machine.execRefreshInterval b s
  | .neighbourRefresh b => Sys2Proof.Machine.execNeighbourRefresh b s
  | .activateTableClear b => Sys2Proof.Machine.execActivateTableClear b s
  | .retrainBurst channel pcB failing => Sys2Proof.Machine.execRetrainBurst channel pcB failing s
  | .caParityError channel rank => Sys2Proof.Machine.execCaParityError channel rank s
  | .migrationLineTimeout channel => Sys2Proof.Machine.execMigrationLineTimeout channel s
  | .retire e v => Sys2Proof.Machine.execRetire e v s
  | .retrain e v => Sys2Proof.Machine.execRetrain e v s
  | .sparesWrite e v c => Sys2Proof.Machine.execSparesWrite e v c s
  | .scrubRead channel symbols verifyErrs spareErrs => Sys2Proof.Machine.execScrubRead channel symbols verifyErrs spareErrs s
  | .scrubWritebackTimeout channel => Sys2Proof.Machine.execScrubWritebackTimeout channel s
  | .scrubPassLate channel => Sys2Proof.Machine.execScrubPassLate channel s
  | .complementCheck upset => Sys2Proof.Machine.execComplementCheck upset s
  | .clearCounts e v => Sys2Proof.Machine.execClearCounts e v s
  | .verify e v => Sys2Proof.Machine.execVerify e v s
  | .verifyRound => Sys2Proof.Machine.execVerifyRound s
  | .verifySectorPlaneDone cellFault => Sys2Proof.Machine.execVerifySectorPlaneDone cellFault s
  | .keyUnwrapEfuse e slot wrap => Sys2Proof.Machine.execKeyUnwrapEfuse e slot wrap s
  | .keyUnwrapBbram e slot wrap => Sys2Proof.Machine.execKeyUnwrapBbram e slot wrap s
  | .keyGenerate e slot => Sys2Proof.Machine.execKeyGenerate e slot s
  | .keyClear e slot => Sys2Proof.Machine.execKeyClear e slot s
  | .regionEnable e r => Sys2Proof.Machine.execRegionEnable e r s
  | .regionEnableInitialise e r => Sys2Proof.Machine.execRegionEnableInitialise e r s
  | .regionDisable e r => Sys2Proof.Machine.execRegionDisable e r s
  | .regionInitialised r => Sys2Proof.Machine.execRegionInitialised r s
  | .sync m => Sys2Proof.Machine.execSync m s
  | .announce m => Sys2Proof.Machine.execAnnounce m s
  | .pdelay m => Sys2Proof.Machine.execPdelay m s
  | .syncTimeout => Sys2Proof.Machine.execSyncTimeout s
  | .timeSet e v => Sys2Proof.Machine.execTimeSet e v s
  | .inputEdge b pin rising time fraction => Sys2Proof.Machine.execInputEdge b pin rising time fraction s
  | .inputDrain b => Sys2Proof.Machine.execInputDrain b s
  | .drainRetry b => Sys2Proof.Machine.execDrainRetry b s
  | .outputPoll b => Sys2Proof.Machine.execOutputPoll b s
  | .outputEntryExecute b => Sys2Proof.Machine.execOutputEntryExecute b s
  | .returnTimer b pin => Sys2Proof.Machine.execReturnTimer b pin s
  | .ioBankStart e b => Sys2Proof.Machine.execIoBankStart e b s
  | .ioBankStop e b => Sys2Proof.Machine.execIoBankStop e b s
  | .ioPinWrite e b pin v c => Sys2Proof.Machine.execIoPinWrite e b pin v c s
  | .laneStart e n => Sys2Proof.Machine.execLaneStart e n s
  | .laneStop e n => Sys2Proof.Machine.execLaneStop e n s
  | .laneReceiverDetected l => Sys2Proof.Machine.execLaneReceiverDetected l s
  | .laneLocked l fom => Sys2Proof.Machine.execLaneLocked l fom s
  | .laneTs2Received l maxRate hitch pre post => Sys2Proof.Machine.execLaneTs2Received l maxRate hitch pre post s
  | .laneStep l => Sys2Proof.Machine.execLaneStep l s
  | .laneActive l slow => Sys2Proof.Machine.execLaneActive l slow s
  | .laneBringupLimit l => Sys2Proof.Machine.execLaneBringupLimit l s
  | .laneRetryTimer l => Sys2Proof.Machine.execLaneRetryTimer l s
  | .lockLost l => Sys2Proof.Machine.execLockLost l s
  | .laneRxPush n units => Sys2Proof.Machine.execLaneRxPush n units s
  | .lanePushRetry n => Sys2Proof.Machine.execLanePushRetry n s
  | .laneTxPop n => Sys2Proof.Machine.execLaneTxPop n s
  | .laneAdaptStep l setting up => Sys2Proof.Machine.execLaneAdaptStep l setting up s
  | .serviceLaneAutoTry p => Sys2Proof.Machine.execServiceLaneAutoTry p s
  | .sealProvision e ownerHash wrap => Sys2Proof.Machine.execSealProvision e ownerHash wrap s
  | .sealParamWrite e param v c => Sys2Proof.Machine.execSealParamWrite e param v c s
  | .sealKey e wrap => Sys2Proof.Machine.execSealKey e wrap s
  | .sealCommand e channel v => Sys2Proof.Machine.execSealCommand e channel v s
  | .sealN opened widthMs => Sys2Proof.Machine.execSealN opened widthMs s
  | .parameterImageCheck => Sys2Proof.Machine.execParameterImageCheck s
  | .sampleSync p => Sys2Proof.Machine.execSampleSync p s
  | .sampleFrame p bits => Sys2Proof.Machine.execSampleFrame p bits s
  | .modeRun e => Sys2Proof.Machine.execModeRun e s
  | .modeHold e => Sys2Proof.Machine.execModeHold e s
  | .modeStable e => Sys2Proof.Machine.execModeStable e s
  | .modeService e => Sys2Proof.Machine.execModeService e s
  | .orderlyStop e => Sys2Proof.Machine.execOrderlyStop e s
  | .resume e => Sys2Proof.Machine.execResume e s
  | .restart e => Sys2Proof.Machine.execRestart e s
  | .wakeN widthNs => Sys2Proof.Machine.execWakeN widthNs s
  | .wakeTime => Sys2Proof.Machine.execWakeTime s
  | .sensorRead raw powerMw => Sys2Proof.Machine.execSensorRead raw powerMw s
  | .sensorExcluded n => Sys2Proof.Machine.execSensorExcluded n s
  | .sensorReadmitted n => Sys2Proof.Machine.execSensorReadmitted n s
  | .readsLowFlag n => Sys2Proof.Machine.execReadsLowFlag n s
  | .gaitStepSlower t => Sys2Proof.Machine.execGaitStepSlower t s
  | .gaitStepFaster t => Sys2Proof.Machine.execGaitStepFaster t s
  | .gaitFloorWrite e v => Sys2Proof.Machine.execGaitFloorWrite e v s
  | .orderlyStopDrainStep => Sys2Proof.Machine.execOrderlyStopDrainStep s
  | .orderlyStopFlush => Sys2Proof.Machine.execOrderlyStopFlush s
  | .orderlyStopFallbacks => Sys2Proof.Machine.execOrderlyStopFallbacks s
  | .safeStopEntry => Sys2Proof.Machine.execSafeStopEntry s
  | .safeN asserted widthNs => Sys2Proof.Machine.execSafeN asserted widthNs s
  | .vinCoreOutOfRange mv widthNs => Sys2Proof.Machine.execVinCoreOutOfRange mv widthNs s
  | .vauxLow mv widthNs => Sys2Proof.Machine.execVauxLow mv widthNs s
  | .vdramVppOutOfRange vpp mv widthNs => Sys2Proof.Machine.execVdramVppOutOfRange vpp mv widthNs s
  | .vlaneOutOfRange high mv widthNs => Sys2Proof.Machine.execVlaneOutOfRange high mv widthNs s
  | .vccioOutOfRange b mv widthNs => Sys2Proof.Machine.execVccioOutOfRange b mv widthNs s
  | .rootPllLockLoss => Sys2Proof.Machine.execRootPllLockLoss s
  | .autoResume => Sys2Proof.Machine.execAutoResume s
  | .stakeMonitorError g vias => Sys2Proof.Machine.execStakeMonitorError g vias s
  | .shift e v => Sys2Proof.Machine.execShift e v s
  | .rowShiftDone => Sys2Proof.Machine.execRowShiftDone s
  | .temperatureCalibration r => Sys2Proof.Machine.execTemperatureCalibration r s
  | .calibrateNow e runs => Sys2Proof.Machine.execCalibrateNow e runs s
  | .testRunStart e => Sys2Proof.Machine.execTestRunStart e s
  | .testComplete fails => Sys2Proof.Machine.execTestComplete fails s
  | .jtagOpenWrite e v c => Sys2Proof.Machine.execJtagOpenWrite e v c s
  | .lockCmd e v => Sys2Proof.Machine.execLockCmd e v s
  | .extest cells => Sys2Proof.Machine.execExtest cells s
  | .idcode => Sys2Proof.Machine.execIdcode s
  | .samplePreload preload => Sys2Proof.Machine.execSamplePreload preload s
  | .extestPulse l => Sys2Proof.Machine.execExtestPulse l s
  | .extestTrain l => Sys2Proof.Machine.execExtestTrain l s
  | .debug write addr len data => Sys2Proof.Machine.execDebug write addr len data s
  | .dieSelect die => Sys2Proof.Machine.execDieSelect die s
  | .bypass tdi => Sys2Proof.Machine.execBypass tdi s
  | .counterConfigWrite e v => Sys2Proof.Machine.execCounterConfigWrite e v s
  | .counterClearSelected e => Sys2Proof.Machine.execCounterClearSelected e s
  | .counterClearAll e => Sys2Proof.Machine.execCounterClearAll e s
  | .counterMilestone block counter => Sys2Proof.Machine.execCounterMilestone block counter s
  | .tallySnapshot => Sys2Proof.Machine.execTallySnapshot s
  | .snapshotNow e => Sys2Proof.Machine.execSnapshotNow e s
  | .snapshotReadDone => Sys2Proof.Machine.execSnapshotReadDone s
  | .sampleBufferClear e => Sys2Proof.Machine.execSampleBufferClear e s
  | .monitorStart e n => Sys2Proof.Machine.execMonitorStart e n s
  | .monitorStop e n => Sys2Proof.Machine.execMonitorStop e n s
  | .monitorClear e n => Sys2Proof.Machine.execMonitorClear e n s
  | .monitorSample n level => Sys2Proof.Machine.execMonitorSample n level s
  | .chronicleRecord => Sys2Proof.Machine.execChronicleRecord s
  | .ringPacketWrite status => Sys2Proof.Machine.execRingPacketWrite status s
  | .coalesceWindowEnd => Sys2Proof.Machine.execCoalesceWindowEnd s
  | .gapRecord source => Sys2Proof.Machine.execGapRecord source s
  | .ackAlarm e => Sys2Proof.Machine.execAckAlarm e s
  | .chronicleEnable e v => Sys2Proof.Machine.execChronicleEnable e v s
  | .sysrstNRelease => Sys2Proof.Machine.execSysrstNRelease s
  | .chainDataTimeout => Sys2Proof.Machine.execChainDataTimeout s
  | .migrationCopy channel symbols => Sys2Proof.Machine.execMigrationCopy channel symbols s
  | .fabricClockEdge clk => Sys2Proof.Machine.execFabricClockEdge clk s
  | .syncInterval port => Sys2Proof.Machine.execSyncInterval port s
  | .vauxVinCoreReached vauxMv vinMv => Sys2Proof.Machine.execVauxVinCoreReached vauxMv vinMv s

end Sys2Proof.Machine
end

