-- ==== Sys2Proof/Machine/Tick.lean ====
section
/-! DEFINITION. What one period of the root clock does when no command waits (log entry 1). -/

namespace Sys2Proof.Machine

/-- The time base at an edge of its 1.2 GHz clock, each eighth root period: the addend is added to the count of nanoseconds and its
fraction (R531). It runs from the end of fuse load (R533). -/
def timeEdge (s : State) : State :=
  if ¬ s.available ∨ s.now % 8 ≠ 0 then s
  else
    let sum := s.time.ns.toNat * 2 ^ 32 + s.time.frac.toNat + s.time.addend.toNat
    { s with time := { s.time with ns := BitVec.ofNat 64 (sum / 2 ^ 32), frac := BitVec.ofNat 32 sum } }

/-- One root period passes (R180): level counters count, the time base advances at its edges, words being loaded are no longer busy
(R119), times that have come let switches and captures find their edges (R214, R243), responses that base ports could not take are
delivered where they now can, the ports of slices take packets that wait at them (R402), background
tests of pannier banks take their regions (R416), drains that have lasted long enough end (R644), and at an alignment boundary a change of gait that
waited takes effect (R640). -/
def tick (s : State) : State :=
  let s1 := levelTick s (s.now + 1)
  let s2 := timeEdge { s1 with clk.roots := s1.clk.roots + 1, fab.loadBusy := [] }
  let s3 := dueSwitches (drainsEnded (runPorts (deliverHeld (startRegion (startRegion s2 false) true))))
  if s3.atBoundary ∧ s3.power.gaitWait then updateGaits s3 else s3

end Sys2Proof.Machine
end

