-- ==== Sys2Proof/Safety.lean ====
section
/-! DEFINITION. What a safe run is, in the terms the claims use: memories in canonical form, what a command may change, and a
write and a packet that every check passes. -/

namespace Sys2Proof.Machine

/-- The byte memories, of the DRAM and of the pannier, are in canonical form: addresses rising, no byte at the value that an
unlisted address reads as. -/
def State.memoriesWf (s : State) : Prop := Memory.wf s.dram.mem = true ∧ Memory.wf s.pan.mem = true

/-- A run of n steps that ends in a state, with no fault or refusal on the way. -/
def runsTo (n : Nat) (s t : State) : Prop := Host.Core.run Sys2Proof.core n s = .next t

/-- The parts of State, one for each field. -/
inductive Part where
  | pending | outs | freeCtr | fuses | obj | dict | clk | fab | edge | planes | frames | stage | grants | teams | cap | loader | boot
  | chain | noc | wale | pan | dram | ecc | crypt | time | banks | pins | lanes | sealed | power | board | test | obs
  deriving DecidableEq, Repr

/-- A part holds the same in two states. -/
def Part.same (s t : State) : Part → Prop
  | .pending => t.pending = s.pending
  | .outs => t.outs = s.outs
  | .freeCtr => t.freeCtr = s.freeCtr
  | .fuses => t.fuses = s.fuses
  | .obj => t.obj = s.obj
  | .dict => t.dict = s.dict
  | .clk => t.clk = s.clk
  | .fab => t.fab = s.fab
  | .edge => t.edge = s.edge
  | .planes => t.planes = s.planes
  | .frames => t.frames = s.frames
  | .stage => t.stage = s.stage
  | .grants => t.grants = s.grants
  | .teams => t.teams = s.teams
  | .cap => t.cap = s.cap
  | .loader => t.loader = s.loader
  | .boot => t.boot = s.boot
  | .chain => t.chain = s.chain
  | .noc => t.noc = s.noc
  | .wale => t.wale = s.wale
  | .pan => t.pan = s.pan
  | .dram => t.dram = s.dram
  | .ecc => t.ecc = s.ecc
  | .crypt => t.crypt = s.crypt
  | .time => t.time = s.time
  | .banks => t.banks = s.banks
  | .pins => t.pins = s.pins
  | .lanes => t.lanes = s.lanes
  | .sealed => t.sealed = s.sealed
  | .power => t.power = s.power
  | .board => t.board = s.board
  | .test => t.test = s.test
  | .obs => t.obs = s.obs

/-- Every part outside a list is as it was. -/
def changesOnly (ps : List Part) (s t : State) : Prop := ∀ p, p ∉ ps → Part.same s t p

/-- An object is as it was, or is of an index with a pair that mismatched, which may have taken its fallback (R46). -/
def objectSame (j : ObjKey) (s t : State) : Prop :=
  AMap.get {} t.obj j = AMap.get {} s.obj j ∨ ∃ sub, s.pairOk (j / 256) sub = false

/-- Every object but the named one is as it was, but for mismatched pairs. -/
def othersSame (idx sub : Nat) (s t : State) : Prop := ∀ j, j ≠ objKey idx sub → objectSame j s t

/-- Every object is as it was, but for mismatched pairs. -/
def objectsSame (s t : State) : Prop := ∀ j, objectSame j s t

/-- The value that a write request carries, without its complement half. -/
def valueOf (paired : Bool) (w : WriteReq) : List Byte := if paired then w.data.take (w.data.length / 2) else w.data

/-- A WRITE or PAIRED WRITE frame that passes every check of R41, seen from the state s1 and the requester that checks 1 and 2
leave: whole, not a ninth transfer (R66), and accepted by checks 3 to 9. -/
structure WriteGoes (s : State) (e : Env) (paired : Bool) (w : WriteReq) (a : Action) (s1 : State) (who : Requester) : Prop where
  framed : receive s (if paired then 0x12 else 0x11) e (writePayload w)
    (if paired then decide (2 ≤ w.data.length) && decide (w.data.length ≤ 16) else decide (w.data.length ≤ 1024)) = .go s1 who
  room : ninth s1 who = false
  whole : (isSegment e && !isLast e && !paired) = false
  checked : writeCheck s1 who paired false w a = none

/-- The object's write has taken effect (R42). -/
def written (s1 : State) (who : Requester) (paired : Bool) (w : WriteReq) (a : Action) : State :=
  applyWrite s1 who w.index.toNat w.sub.toNat (valueOf paired w) a

/-- What a write that passes every check leaves: its effect, and the response with status 0 (R736). -/
def writeAnswered (s1 : State) (who : Requester) (e : Env) (paired : Bool) (w : WriteReq) (a : Action) : State :=
  respond (written s1 who paired w a) (if paired then 0x12 else 0x11) e (replyPayload w.index w.sub w.ty 0 0 [])

/-- A command that is a write frame of an object completes, wherever every check passes: the object takes its new value with the
object's own effect, the answer is status 0, and P holds of the state before the effect and the state after. -/
def rowCompletes (c : Instr) (e : Env) (paired : Bool) (w : WriteReq) (a : Action) (P : State → State → Prop) : Prop :=
  ∀ s s1 who, WriteGoes s e paired w a s1 who →
    ∃ t, exec c s = .next t ∧ t = writeAnswered s1 who e paired w a ∧ P s1 t

/-- The next packet of the stream in progress is of an opcode, with a payload of the opcode's length, permitted to the stream's kind and
within the stream's payload (step 13 of R300). -/
structure PacketGoes (s : State) (op : Nat) (st : Stream) (len : Nat) (d : List Byte) : Prop where
  next : nextPacket s = some (st, op, len, d)
  fits : lengthFits op len d = true
  allowed : permitted st op d = true
  inside : st.cursor + 8 + len ≤ hdrPayload st.header

end Sys2Proof.Machine
end

