-- ==== Sys2Proof/Certificates/Slice0/Obligations.lean ====
section
/-! DEFINITION. The statements for the provers. A completion statement says of each command named in it, on hypotheses about the
state and the operands alone, the next state that its own effect gives. -/

open Sys2Proof Sys2Proof.Machine

/-! ### The machine as a whole -/

/-- step of a state with a command at the front of its queue is exec of that command on the state with the queue's rest. -/
def Obligations.StepRunsFrontCommand : Prop :=
  ∀ (c : Instr) (s : State), step { s with pending := c :: s.pending } = exec c s

/-- DESIGN CHOICE (log entry 1): on an empty queue a step is one period of the root clock, never a fault or a refusal. The addend is
added to the time base at every eighth period once the device is available; otherwise the time base stands still. -/
def Obligations.IdleStepIsAnEdge : Prop :=
  ∀ s : State, s.pending = [] →
    ∃ t, step s = .next t ∧ t.clk.roots = s.clk.roots + 1 ∧ t.pending = [] ∧
      (s.available = false ∨ (s.clk.roots + 1) % 8 ≠ 0 → t.time = s.time) ∧
      (s.available = true → (s.clk.roots + 1) % 8 = 0 → t.time = { s.time with
        ns := BitVec.ofNat 64 ((s.time.ns.toNat * 2 ^ 32 + s.time.frac.toNat + s.time.addend.toNat) / 2 ^ 32),
        frac := BitVec.ofNat 32 (s.time.ns.toNat * 2 ^ 32 + s.time.frac.toNat + s.time.addend.toNat) })

/-- What reset leaves: Start-up in phase 0 with cause 0 and PORST_N asserted; every object at its default, every plane idle, TAI 0
with the nominal addend, nothing waiting, nothing sent, and the byte memories in canonical form. -/
def Obligations.ResetState : Prop :=
  State.reset.mode = .startUp ∧ State.reset.boot.phase = 0 ∧ State.reset.boot.cause = 0 ∧ State.reset.boot.porstLow = true ∧
  (∀ g p, (State.reset.plane g p).state = .idle) ∧ (∀ i j, State.reset.bytesOf i j = defaultBytes State.reset i j) ∧
  State.reset.time.ns = 0 ∧ State.reset.time.frac = 0 ∧ State.reset.time.addend = 0xD5555555 ∧ State.reset.pending = [] ∧
  State.reset.outs = [] ∧ State.reset.memoriesWf

/-- Every step keeps the byte memories, of the DRAM and of the pannier, in canonical form: addresses strictly rising and no byte
listed that is 0. -/
def Obligations.MemoriesStayCanonical : Prop :=
  ∀ s t : State, s.memoriesWf → step s = .next t → t.memoriesWf

/-- A command leaves the queue of waiting commands as it is. -/
def Obligations.ExecKeepsQueue : Prop :=
  ∀ (c : Instr) (s t : State), exec c s = .next t → t.pending = s.pending

/-- DESIGN CHOICE (log entry 1): a command takes no time: the root clock's count of periods moves only at idle steps. -/
def Obligations.CommandsTakeNoTime : Prop :=
  ∀ (c : Instr) (s t : State), exec c s = .next t → t.clk.roots = s.clk.roots

/-- What the device has sent, it has sent: a step only appends to the outputs. -/
def Obligations.OutputsOnlyGrow : Prop :=
  ∀ s t : State, step s = .next t → ∃ more, t.outs = s.outs ++ more

/-- The audit trail is append-only: a step adds records at its end and changes none, but for an upset that strikes the trail itself. -/
def Obligations.AuditAppendOnly : Prop :=
  ∀ s t : State, step s = .next t →
    (∀ m rest, s.pending ≠ .complementCheck (some (.sealedArea 1, m)) :: rest) → ∃ more, t.sealed.audit = s.sealed.audit ++ more

/-- One-time fuses: a lock that is blown stays blown, and the serial number, the speed grade and the Vendor key never change. -/
def Obligations.FusesStay : Prop :=
  ∀ s t : State, step s = .next t →
    (s.fuses.plainLock = true → t.fuses.plainLock = true) ∧ (s.fuses.efuseOnly = true → t.fuses.efuseOnly = true) ∧
    (s.fuses.debugLock = true → t.fuses.debugLock = true) ∧ t.fuses.serial = s.fuses.serial ∧
    t.fuses.speedGrade = s.fuses.speedGrade ∧ t.fuses.vendorKey = s.fuses.vendorKey

/-- No command is refused, and the machine stops only at a supply beyond its absolute maximum. -/
def Obligations.OnlySuppliesStop : Prop :=
  ∀ (c : Instr) (s : State), (∃ t, exec c s = .next t) ∨
    (exec c s = .fault .beyondAbsoluteMaximum ∧
      ((∃ a b, c = .vauxVinCoreReached a b) ∨ (∃ mv w, c = .vinCoreOutOfRange mv w) ∨ (∃ mv w, c = .vauxLow mv w) ∨
       (∃ v mv w, c = .vdramVppOutOfRange v mv w) ∨ (∃ h mv w, c = .vlaneOutOfRange h mv w) ∨
       (∃ b mv w, c = .vccioOutOfRange b mv w)))


/-! ### Completion, chapter 02: the dictionary -/

/-- OPEN that passes R735 holds the lowest free session number (log entry 74) for a RESPONSE and answers CHALLENGE with it, 16 random
bytes and the serial number; one that fails it is answered with its code. RESPONSE whose HMAC is right opens the session at its level.
LEVEL_LOCK_EXPIRY ends a lock that has lasted; OPENING_TIMEOUT frees a number held for 1 s; IDLE_TIMEOUT closes a session without a
valid frame for its time; CLOSE answers 0 and closes its session. -/
def Obligations.SessionCommandsComplete : Prop :=
  (∀ (e : Env) (level options : Byte) (nonce : List Byte) (s u : State) (n : Nat),
    frameTaken s e (level :: options :: nonce) = true → nonce.length = 16 → u = levelsUsed (tookFrame s e) →
    openRefusal u level.toNat = none → freeSession u = some n →
    exec (.openSession e level options nonce) s = .next (plainReply ((u.drew 16).setSession n
      { phase := .opening, level := level.toNat, wantsSealed := bit options.toNat 1, subscribed := bit options.toNat 0,
        host := e.host, hostNonce := nonce, devNonce := drawBytes u 16, heldAt := u.now })
      0x02 e (u8 n ++ drawBytes u 16 ++ u32 u.fuses.serial.toNat))) ∧
  (∀ (e : Env) (level options : Byte) (nonce : List Byte) (s u : State) (c : Nat),
    frameTaken s e (level :: options :: nonce) = true → nonce.length = 16 → u = levelsUsed (tookFrame s e) →
    openRefusal u level.toNat = some c →
    ∃ t, exec (.openSession e level options nonce) s = .next t ∧ t.outs = (plainReply u 0x01 e (u32 c)).outs ∧
      t.dict = (plainReply u 0x01 e (u32 c)).dict) ∧
  (∀ (e : Env) (hmac : List Byte) (sealedHmac : Option (List Byte)) (s : State),
    frameTaken s e (hmac ++ sealedHmac.getD []) = true → hmac.length = 32 → (∀ h, sealedHmac = some h → h.length = 32) →
    e.session.toNat < 16 → (s.session e.session.toNat).phase = .opening → (s.session e.session.toNat).host = e.host →
    (s.session e.session.toNat).wantsSealed = sealedHmac.isSome → s.elapsed (s.session e.session.toNat).heldAt 1000000000 = false →
    hmac = Crypto.hmac (levelKey s (s.session e.session.toNat).level) (challenge s (s.session e.session.toNat) e.session.toNat) →
    ∃ t, exec (.response e hmac sealedHmac) s = .next t ∧ (t.session e.session.toNat).phase = .opened ∧
      (t.session e.session.toNat).level = (s.session e.session.toNat).level ∧
      (t.session e.session.toNat).lastValid = s.now ∧
      (t.session e.session.toNat).ks = Crypto.hmac (levelKey s (s.session e.session.toNat).level)
        ([0x5A, 0x44, 0x54, 0x31] ++ (s.session e.session.toNat).devNonce ++ (s.session e.session.toNat).hostNonce ++
          u8 e.session.toNat)) ∧
  (∀ (level : Fin 6) (s : State), AMap.get 0 s.dict.lockedTill level.val ≤ s.now →
    exec (.levelLockExpiry level) s =
      .next { s with dict := { s.dict with lockedTill := AMap.set 0 s.dict.lockedTill level.val 0 } }) ∧
  (∀ (n : Fin 16) (s : State), (s.session n.val).phase = .opening → s.elapsed (s.session n.val).heldAt 1000000000 = true →
    exec (.openingTimeout n) s = .next (s.setSession n.val {})) ∧
  (∀ (n : Fin 16) (s : State), (s.session n.val).phase = .opened →
    s.elapsed (s.session n.val).lastValid (s.num 0x1101 1 * 1000000000) = true →
    exec (.idleTimeout n) s = .next (closeSession s n.val 1)) ∧
  (∀ (e : Env) (s s1 : State) (n : Fin 16), e.session ≠ 0xFF → receive s 0x05 e [] true = .go s1 (.session n) →
    exec (.close e) s = .next (closeSession (respond s1 0x05 e (u32 0)) n.val 0))

/-- READ of an object that passes its checks answers status 0 with the value's length and data. WRITE and PAIRED_WRITE of any object
outside the tap area take effect and answer status 0; a WRITE that begins a segmented one is held. A read or a write of a tap that takes
it joins the tap's queue. A SEGMENT that follows in order is kept and answered 0, and the last one makes the write; SEGMENT_TIMEOUT ends a segmented write after its gap; ABORT ends its transfer without a response; a service that the device does not have is answered
0x0504_0001. -/
def Obligations.RequestCommandsComplete : Prop :=
  (∀ (e : Env) (r : ReadReq) (s s1 s2 : State) (who : Requester) (n : Nat) (bs : List Byte),
    receive s 0x10 e (reqHead r.index r.sub r.ty r.offset r.length ++ [r.option, 0, 0, 0]) true = .go s1 who →
    ninth s1 who = false → inTapArea r.index.toNat = false → dictRead s1 who r = (s2, 0, n, bs) →
    exec (.read e r) s = .next (respond s2 0x10 e (replyPayload r.index r.sub r.ty 0 n bs))) ∧
  (∀ (e : Env) (r : ReadReq) (s s1 s2 : State) (who : Requester),
    receive s 0x10 e (reqHead r.index r.sub r.ty r.offset r.length ++ [r.option, 0, 0, 0]) true = .go s1 who →
    ninth s1 who = false → inTapArea r.index.toNat = true → (who = .anonymous → anonymousWaiting s1 < 8) →
    tapRequest s1 who ⟨0, who, some e, e.transfer, r.index, r.sub, r.ty, false, r.offset.toNat, r.length.toNat, [], none, s1.now, none, 0⟩
      false = (s2, none) → exec (.read e r) s = .next s2) ∧
  (∀ (e : Env) (w : WriteReq) (s s1 s2 : State) (who : Requester),
    receive s 0x11 e (writePayload w) (decide (w.data.length ≤ 1024)) = .go s1 who → ninth s1 who = false →
    inTapArea w.index.toNat = true →
    tapRequest s1 who ⟨0, who, some e, e.transfer, w.index, w.sub, w.ty, true, w.offset.toNat, w.length.toNat, w.data, none, s1.now, none, 0⟩
      false = (s2, none) → exec (.write e w) s = .next s2) ∧
  (∀ (e : Env) (w : WriteReq) (s s1 : State) (n : Fin 16),
    receive s 0x11 e (writePayload w) (decide (w.data.length ≤ 1024)) = .go s1 (.session n) → ninth s1 (.session n) = false →
    inTapArea w.index.toNat = false → isSegment e = true → isLast e = false →
    writeCheck s1 (.session n) false true w (actionOf w.index.toNat w.sub.toNat) = none →
    exec (.write e w) s = .next (closeDue (respond { s1 with dict := { s1.dict with transfers := s1.dict.transfers ++
        [⟨.session n, e.transfer, objKey w.index.toNat w.sub.toNat, w.ty, w.length.toNat, w.data, s1.now⟩] } } 0x11 e
      (replyPayload w.index w.sub w.ty 0 0 [])))) ∧
  (∀ (e : Env) (w : WriteReq) (s s1 : State) (who : Requester), inTapArea w.index.toNat = false →
    WriteGoes s e false w (actionOf w.index.toNat w.sub.toNat) s1 who →
    exec (.write e w) s = .next (closeDue (writeAnswered s1 who e false w (actionOf w.index.toNat w.sub.toNat)))) ∧
  (∀ (e : Env) (w : WriteReq) (s s1 : State) (who : Requester), inTapArea w.index.toNat = false →
    WriteGoes s e true w (actionOf w.index.toNat w.sub.toNat) s1 who →
    exec (.pairedWrite e w) s = .next (closeDue (writeAnswered s1 who e true w (actionOf w.index.toNat w.sub.toNat)))) ∧
  (∀ (e : Env) (offset : BitVec 32) (data : List Byte) (s s1 : State) (who : Requester) (x : Transfer),
    receive s 0x13 e (u32 offset.toNat ++ data) (decide (1 ≤ data.length) && decide (data.length ≤ 1024)) = .go s1 who →
    who ≠ .anonymous → transferOf s1 who e.transfer = some x → gapOver s1 x = false → isSegment e = true → isLast e = false →
    offset.toNat = x.buf.length → (x.buf ++ data).length ≤ x.total →
    ∃ t, exec (.segment e offset data) s = .next (closeDue (respond t 0x13 e (u32 offset.toNat ++ u32 0))) ∧
      t.dict.transfers = s1.dict.transfers.map fun y => if y = x then { y with buf := x.buf ++ data, lastAt := s1.now } else y) ∧
  (∀ (e : Env) (offset : BitVec 32) (data : List Byte) (s s1 v : State) (who : Requester) (x : Transfer),
    receive s 0x13 e (u32 offset.toNat ++ data) (decide (1 ≤ data.length) && decide (data.length ≤ 1024)) = .go s1 who →
    who ≠ .anonymous → transferOf s1 who e.transfer = some x → gapOver s1 x = false → isSegment e = true → isLast e = true →
    offset.toNat = x.buf.length → (x.buf ++ data).length = x.total → commitTransfer s1 x (x.buf ++ data) = (v, 0) →
    exec (.segment e offset data) s = .next (closeDue (respond v 0x13 e (u32 offset.toNat ++ u32 0)))) ∧
  (∀ (n : Fin 16) (transfer : BitVec 16) (s : State) (x : Transfer), transferOf s (.session n) transfer = some x →
    gapOver s x = true →
    exec (.segmentTimeout n transfer) s = .next (respond (endTransfer s x) 0x13
      ⟨(s.session n.val).host, 0, none, 0x445A, 1, BitVec.ofNat 8 n.val, 0, transfer, 0, 0, 0, []⟩
      (u32 x.buf.length ++ u32 0x05040000))) ∧
  (∀ (e : Env) (code : BitVec 32) (s s1 : State) (who : Requester), receive s 0x14 e (u32 code.toNat) true = .go s1 who →
    ∃ t, exec (.abort e code) s = .next t ∧ t.outs = s1.outs ∧ (∀ x ∈ t.dict.transfers, ¬ (x.who = who ∧ x.transfer = e.transfer)) ∧
      (who ≠ .anonymous → ∀ x ∈ t.dict.taps, ¬ (x.who = who ∧ x.transfer = e.transfer))) ∧
  (∀ (e : Env) (service : Byte) (payload : List Byte) (s s1 : State) (n : Fin 16),
    service.toNat ∉ requestServices → e.session ≠ 0xFF → receive s service.toNat e payload true = .go s1 (.session n) →
    exec (.unknownService e service payload) s = .next (respond s1 service.toNat e (u32 0x05040001)))

/-- The dictionary's own objects: a wrapped key that unwraps is the level's key; DICT_LEVEL_ENABLE holds its new byte, a fault of it is
over; DICT_CAN.enable starts the controller with the settings held, or stops it. A gate list takes effect at the next gate-cycle
boundary. A bus state reported to a running controller is held. -/
def Obligations.DictionarySettingsComplete : Prop :=
  (∀ (e : Env) (key : Fin 4) (wrap : List Byte) (s s1 : State) (who : Requester),
    WriteGoes s e false (wholeWrite 0x1120 (key.val + 1) wrap) (actLevelKey (key.val + 1)) s1 who →
    ∃ t, exec (.dictKeysWrite e key wrap) s = .next t ∧
      t = closeDue (writeAnswered s1 who e false (wholeWrite 0x1120 (key.val + 1) wrap) (actLevelKey (key.val + 1))) ∧
      t.dict.keys = AMap.set [] s1.dict.keys (key.val + 1) ((unwrapBy s1 who wrap).getD [])) ∧
  (∀ (e : Env) (v c : Byte) (s s1 : State) (who : Requester),
    WriteGoes s e true (pairWrite 0x1110 0 [v] [c]) actLevelEnable s1 who →
    ∃ t, exec (.dictLevelEnableWrite e v c) s = .next t ∧
      t = closeDue (writeAnswered s1 who e true (pairWrite 0x1110 0 [v] [c]) actLevelEnable) ∧ t.dict.levelFault = false) ∧
  (∀ (e : Env) (v : Byte), rowCompletes (.canEnable e v) e false (wholeWrite 0x1040 1 [v]) actCanEnable fun s1 t =>
    (v = 0 → t.dict.can.running = false ∧ t.dict.can.busState = 0) ∧
    (v = 1 → s1.num 0x1040 1 = 0 → t.dict.can.running = true ∧ t.dict.can.node = s1.num 0x1040 2 ∧
      t.dict.can.arbRate = s1.num 0x1040 3 ∧ t.dict.can.dataRate = s1.num 0x1040 4 ∧ t.dict.can.level = s1.num 0x1040 5)) ∧
  (∀ (s : State) (at_ : Nat) (l : List Byte), s.dict.gatePending = some (at_, l) →
    s.tai / s.num 0x1080 1 ≠ at_ / s.num 0x1080 1 →
    exec .gateListTakesEffect s = .next { s with dict := { s.dict with gateActive := l, gatePending := none } }) ∧
  (∀ (state : Fin 4) (tec recv : BitVec 16) (s : State), s.dict.can.running = true → state ≠ 0 →
    ∃ t, exec (.canBusOff state tec recv) s = .next t ∧
      t.dict = { s.dict with can := { s.dict.can with busState := state.val, tec := tec.toNat, recv := recv.toNat } })

/-- A CANopen FD client's read, write and segmented write of an object are served and answered to its node; a request at a tap that
takes it joins the tap's queue, and any other service is answered 0x0504_0001. An image frame for a cycle to come, from the sender and
with the MAC that the settings ask for, is held for its cycle; at its boundary the image held is applied, entry after entry, and ends a
receive fault; at a boundary without one the image is missed, and where enough are missed the fault is set, the taps are given the stale
flag and the teams whose mask names it fall back; at a sample boundary one image is sent. A request waiting at a tap is forwarded over
the NoC and held there; its answer, or 1 ms without one, ends it and answers its requester. -/
def Obligations.TransportCommandsComplete : Prop :=
  (∀ (node : Fin 128) (r : UsdoReq) (s u : State), s.available = true → s.dict.can.running = true → s.dict.can.busState ≠ 3 →
    r.server.val = s.dict.can.node → u = counted s 0 1 0 1 →
    (canBusy u node = false → canClients u node < 4 → inTapArea r.index.toNat = false →
      (∀ v n bs, r.kind = 0 → dictRead u (.can node)
          ⟨r.index, r.sub, BitVec.ofNat 8 ((rowOf r.index.toNat r.sub.toNat).elim 0 ObjRow.ty), 0, 0, 0⟩ = (v, 0, n, bs) →
        (readValue v r.index.toNat r.sub.toNat).length ≤ 65536 →
        exec (.usdoRequest node r) s = .next (canAnswer v node r.index r.sub 0 (readValue v r.index.toNat r.sub.toNat))) ∧
      (∀ v, r.kind = 1 → dictWrite u (.can node) false (wholeWrite r.index.toNat r.sub.toNat r.data)
          (actionOf r.index.toNat r.sub.toNat) = (v, 0) →
        exec (.usdoRequest node r) s = .next (canAnswer v node r.index r.sub 0 [])) ∧
      (r.kind = 2 → r.length.toNat ≤ 65536 → writeCheck u (.can node) false true
          ⟨r.index, r.sub, BitVec.ofNat 8 ((rowOf r.index.toNat r.sub.toNat).elim 0 ObjRow.ty), 0, r.length, r.data⟩
          (actionOf r.index.toNat r.sub.toNat) = none →
        ∃ ty, exec (.usdoRequest node r) s = .next (canAnswer { u with dict := { u.dict with transfers := u.dict.transfers ++
          [⟨.can node, 0, objKey r.index.toNat r.sub.toNat, ty, r.length.toNat, r.data, s.now⟩] } } node r.index r.sub 0 []))) ∧
    (canBusy u node = false → canClients u node < 4 → inTapArea r.index.toNat = true →
      (∀ v, r.kind = 0 → tapRequest u (.can node) ⟨0, .can node, none, 0, r.index, r.sub, 0, false, 0, 0, [], none, u.now, none, 0⟩
          false = (v, none) → exec (.usdoRequest node r) s = .next v) ∧
      (∀ v, r.kind = 1 → tapRequest u (.can node) (canTapReq u node r.index r.sub r.data) false = (v, none) →
        exec (.usdoRequest node r) s = .next v)) ∧
    (∀ x v, r.kind = 3 → transferOf u (.can node) 0 = some x → takeSegment u x true false x.buf.length r.data = (v, 0) →
      exec (.usdoRequest node r) s = .next (canAnswer v node r.index r.sub 0 [])) ∧
    (∀ x v, r.kind = 4 → transferOf u (.can node) 0 = some x → inTapArea (x.key / 256) = false →
      takeSegment u x true true x.buf.length r.data = (v, 0) →
      exec (.usdoRequest node r) s = .next (canAnswer v node r.index r.sub 0 [])) ∧
    (r.kind = 5 → exec (.usdoRequest node r) s = .next (canAnswer u node r.index r.sub 0x05040001 []))) ∧
  (∀ (port : Fin 2) (srcMac : BitVec 48) (rtag : Option (BitVec 16)) (cycle : BitVec 32) (status : Byte) (image mac : List Byte)
      (s u : State), imagesRun s = true → notDuplicate s (frerStream srcMac.toNat 2) rtag = true →
    u = recovered s (frerStream srcMac.toNat 2) rtag →
    u.num 0x1060 9 = 0 ∨ u.num 0x1060 9 = srcMac.toNat → image.length = mapLength u 0x1062 →
    (u.num 0x1060 11 = 1 → AMap.get [] u.dict.keys 2 ≠ [] ∧ mac = imageMac u 0x08 cycle (imagePayload status image)) →
    u.tai ≤ cycleNamed u cycle * cycleNs u + u.num 0x1060 6 → u.dict.pd.lastBoundary < cycleNamed u cycle →
    exec (.processData port srcMac rtag cycle status image mac) s = .next { u with dict := { u.dict with pd := { u.dict.pd with
      held := AMap.ins u.dict.pd.held (cycleNamed u cycle) (status :: image) } } }) ∧
  (∀ (s : State) (k : Nat), imagesRun s = true → s.num 0x1060 6 ≤ s.tai → k = cycleCount s (s.num 0x1060 6) →
    k ≠ s.dict.pd.lastBoundary →
    (∀ status image v, AMap.get [] s.dict.pd.held k = status :: image →
      v = counted (applyEntries image (mapEntries s 0x1062) 0 { s with dict := { s.dict with pd := { s.dict.pd with
        held := s.dict.pd.held.filter fun p => decide (k < p.1), lastBoundary := k, missed := 0, lastApplied := k % 2 ^ 32,
        fault := false, tapStale := false } } }) 0 0x0A 0 1 →
      exec .rxImageApply s = .next (if s.dict.pd.fault then event v 0xD000 0xD00D (u32 (k % 2 ^ 32)) else v)) ∧
    (AMap.get [] s.dict.pd.held k = [] → exec .rxImageApply s = .next { s with dict := { s.dict with pd := { s.dict.pd with
      held := s.dict.pd.held.filter fun p => decide (k < p.1), lastBoundary := k, missed := s.dict.pd.missed + 1 } } })) ∧
  (∀ s : State, imagesRun s = true → s.dict.pd.fault = false → s.num 0x1060 7 ≤ s.dict.pd.missed →
    ∃ t u, exec .pdReceiveFault s = .next t ∧ t.dict.pd = { s.dict.pd with fault := true, tapStale := true } ∧
      u.dict.pd = t.dict.pd ∧ t.teams = (triggerFallbacks u ((List.range 16).filter fun n => causeEnabled u n 4) 4).teams) ∧
  (∀ (taps : List (Nat × List Byte)) (s v : State) (k : Nat) (image : List Byte) (stale : Bool), imagesRun s = true →
    s.num 0x1060 5 ≤ s.tai → k = cycleCount s (s.num 0x1060 5) → k ≠ s.dict.pd.lastTx →
    sampleEntries taps (mapEntries s 0x1061) s = (v, image, stale) →
    (s.num 0x1060 11 = 0 → exec (.txImageSample taps) s = .next ({ v with dict := { v.dict with pd := { v.dict.pd with
      lastTx := k } } }.sendFrame (.image (field (s.num 0x1060 8) 47 0) (s.num 0x1060 10) (BitVec.ofNat 32 k)
        (imagePayload (if stale then 1 else 0) image) []))) ∧
    (s.num 0x1060 11 ≠ 0 → AMap.get [] s.dict.keys 2 ≠ [] → exec (.txImageSample taps) s = .next ({ v with dict := { v.dict with
      pd := { v.dict.pd with lastTx := k } } }.sendFrame (.image (field (s.num 0x1060 8) 47 0) (s.num 0x1060 10) (BitVec.ofNat 32 k)
        (imagePayload (if stale then 1 else 0) image)
        (imageMac { v with dict := { v.dict with pd := { v.dict.pd with lastTx := k } } } 0x09 (BitVec.ofNat 32 k)
          (imagePayload (if stale then 1 else 0) image)))))) ∧
  (∀ (tap : Nat) (s : State) (r : TapReq), nextAtTap s tap = some r → tapsServed s = true → hasCredit s (tapPacket tap) = true →
    exec (.tapForward tap) s = .next (counted (request (State.emit { s with dict := { s.dict with
        taps := s.dict.taps.map fun q => if q = r then
          { q with forwardedAt := some s.now, ctx := s.activePlane (tap / 8), number := tapNumber s tap } else q } }
        (.tap tap (s.activePlane (tap / 8)) r.index r.sub r.write (levelOf s r.who) r.length r.data))
      0x02 0x41 (0x200000000000 + tap / 8 * 2 ^ 32) (max 1 r.data.length) 1 r.data (.tap tap) false) 0 2 0 1)) ∧
  (∀ (tap : Nat) (status : BitVec 32) (data : List Byte) (s : State) (r : TapReq), heldAtTap s tap = some r → status = 0 →
    (r.write = false → r.offset ≤ data.length → exec (.tapAnswer tap false status data) s =
      .next (answerTap { s with dict := { s.dict with taps := s.dict.taps.erase r } } r 0
        data.length ((data.drop r.offset).take (if r.length = 0 then 1024 else min 1024 r.length)))) ∧
    (r.write = true → exec (.tapAnswer tap false status data) s =
      .next (answerTap { s with dict := { s.dict with taps := s.dict.taps.erase r } } r 0 0 []))) ∧
  (∀ (tap : Nat) (s : State) (r : TapReq), heldAtTap s tap = some r → s.elapsed (r.forwardedAt.getD s.now) 1000000 = true →
    ∃ u, exec (.tapTimeout tap) s = .next (counted (event (answerTap u r 0x0B000008 0 []) (reqSource r.who) 0xD009
        (u16 r.number ++ u16 r.index.toNat ++ [r.sub])) 0 3 0 1) ∧
      u.dict = { s.dict with taps := s.dict.taps.erase r, tapLate := s.dict.tapLate ++ [r],
                             tapTimeouts := AMap.upd 0 s.dict.tapTimeouts (timeoutKey tap r.ctx) (satInc · 0xFFFF) })


/-! ### Completion, chapters 03 and 04: the fabric's cells and its clocks -/

/-- At an edge in a powered, clocked sector: a block memory's ports act (R113 to R126), an arithmetic slice moves its stages on (R127 to
R132), a fabric queue moves its items (R134 to R136); an edge of FCLKn moves every flip-flop, hop register, seam register, unit and base
port of the sectors that execute it on at once, from the values before it, and what follows it settles. -/
def Obligations.FabricCellEdgesComplete : Prop :=
  (∀ (u : UnitId) (a b : Option BmPortIn) (unordered : Bool) (flips : BitVec 72) (s : State),
    a.isSome = true ∨ b.isSome = true → (a.isSome = true → portTakes s u false = true) → (b.isSome = true → portTakes s u true = true) →
    ∃ t, exec (.blockmemPortAccess u a b unordered flips) s = .next t ∧
      t.fab = (blockmemEdge s.opened u a b (drivenPort (netNow s) u.sector.val u.cluster.val u.unit.val true).din unordered flips).fab ∧
      t.ecc = (blockmemEdge s.opened u a b (drivenPort (netNow s) u.sector.val u.cluster.val u.unit.val true).din unordered flips).ecc ∧
      (a.isSome = true → t.edgeDone (.port (unitNum u * 2)) = true) ∧
      (b.isSome = true → t.edgeDone (.port (unitNum u * 2 + 1)) = true)) ∧
  (∀ (u : SliceId) (i : ArithIn) (s : State) (cfg : Nat),
    cfg = s.settingsNow u.sector.val u.cluster.val u.unit.val 3 → unitClocked s (field cfg 11 9) u.sector.val = true →
    s.edgeDone (.slice (sliceNum u)) = false →
    exec (.arithAccumulate u i) s = .next (State.edgeTaken { s.opened with fab := { s.opened.fab with
      arith := AMap.set {} s.opened.fab.arith (sliceNum u) (sliceEdge cfg (AMap.get {} s.opened.fab.arith (sliceNum u))
        (linkIn s.opened.edge.before (sliceNum u)) { i with rst := i.rst || !s.boot.srReleased }) } } (.slice (sliceNum u)))) ∧
  (∀ (u : UnitId) (i : FqIn) (s : State),
    unitClocked s (field (s.settingsNow u.sector.val u.cluster.val u.unit.val 4) 2 0) u.sector.val = true →
    s.edgeDone (.queue (unitNum u)) = false →
    exec (.fqueueUpdate u i) s = .next (State.edgeTaken { s.opened with fab := { s.opened.fab with
      fq := AMap.upd {} s.opened.fab.fq (unitNum u) fun q => queueEdge s.boot.writesEnabled q i } } (.queue (unitNum u)))) ∧
  (∀ (clk : Fin 8) (s u : State) (gs cs : List Nat), u = s.opened.edgeTaken (.clock clk.val true) →
    clockEdge s clk.val true = true → s.edgeDone (.clock clk.val true) = false → gs = edgeSectors u clk.val →
    cs = gs.filter (fun g => s.boot.srReleased && decide (s.activePlane g = u.outgoing.activePlane g)) →
    exec (.fabricClockEdge clk) s = .next (settle 64 (unitsEdge (cellsEdge u clk.val true cs) clk.val gs))) ∧
  (∀ (clk : Fin 8) (s u : State) (cs : List Nat), u = s.opened.edgeTaken (.clock clk.val false) →
    clockEdge s clk.val true = false → clockEdge s clk.val false = true → s.edgeDone (.clock clk.val false) = false →
    cs = (edgeSectors u clk.val).filter (fun g => s.boot.srReleased && decide (s.activePlane g = u.outgoing.activePlane g)) →
    exec (.fabricClockEdge clk) s = .next (settle 64 (cellsEdge u clk.val false cs)))

/-- The fabric's objects and clocks: a readback begins with its target and ends with its bytes, or with a bus error; a divisor code
waits for the alignment boundary and is in force from it; a delay line moves one step; the words of a base port's transaction are taken
at an edge of its clock, a request is issued where a credit is free, and a response answers the request whose tag it carries. -/
def Obligations.FabricServicesComplete : Prop :=
  (∀ (e : Env) (v : Byte), rowCompletes (.fabMemReadCommand e v) e false (wholeWrite 0x6340 2 [v]) actFabMemRead fun s1 t =>
    t.fab = { s1.fab with readStatus := 1, readTarget := s1.num 0x6340 1 }) ∧
  (∀ s : State, s.fab.readStatus = 1 →
    exec (.fabMemReadDone true) s = .next { s with fab := { s.fab with readStatus := 3 } }) ∧
  (∀ (s : State) (n : Nat), s.fab.readStatus = 1 →
    n = (field s.fab.readTarget 31 26 * 64 + field s.fab.readTarget 25 20) * 4 + field s.fab.readTarget 18 17 →
    exec (.fabMemReadDone false) s = .next { s with fab := { s.fab with
      readStatus := 2, readData := if bit s.fab.readTarget 19 then fqBytes (AMap.get {} s.fab.fq n) else bmBytes s n } }) ∧
  (∀ (e : Env) (n : Fin 8) (v : Byte),
    rowCompletes (.fabFclkWrite e n v) e false (wholeWrite 0x6310 (n.val + 1) [v]) (actFclk n.val) fun s1 t =>
      t.clk = { s1.clk with next := AMap.set 0 s1.clk.next n.val (v.toNat % 16 + 1) }) ∧
  (∀ (n : Fin 8) (s : State), s.atBoundary = true → AMap.get 0 s.clk.next n.val ≠ 0 →
    exec (.fclkDivisorChange n) s = .next { s with clk := { s.clk with
      code := AMap.set 2 s.clk.code n.val (AMap.get 0 s.clk.next n.val - 1), next := AMap.set 0 s.clk.next n.val 0 } }) ∧
  (∀ (line : Nat) (s : State), s.atBoundary = true → (AMap.get {} s.test.lines line : DelayLine).movedAt ≠ some s.now →
    ∃ l, exec (.delayLineStep line) s = .next { s with test := { s.test with lines := AMap.set {} s.test.lines line l } } ∧
      l.target = lineTarget s line ∧
      ((AMap.get {} s.test.lines line : DelayLine).now < lineTarget s line → l.now = (AMap.get {} s.test.lines line : DelayLine).now + 1) ∧
      (lineTarget s line < (AMap.get {} s.test.lines line : DelayLine).now → l.now = (AMap.get {} s.test.lines line : DelayLine).now - 1) ∧
      ((AMap.get {} s.test.lines line : DelayLine).now = lineTarget s line → l.now = lineTarget s line)) ∧
  (∀ (sector : Fin 48) (cluster : Fin 64) (ws : List U32) (s b : State) (k : Nat),
    portMoves s.outgoing sector.val cluster.val = true → fenceHolds s.outgoing sector.val cluster.val = false →
    portTakesEdge s sector.val cluster.val = true → k = field (ws.getD 0 0).toNat 31 28 →
    b = State.outgoing (s.opened.edgeTaken (.base (sector.val * 64 + cluster.val))) →
    (k = 1 ∨ k = 2 → exec (.baseportTransaction sector cluster ws) s =
      .next { portRequest b sector.val cluster.val ws with planes := s.planes }) ∧
    (k = 3 ∨ k = 4 → exec (.baseportTransaction sector cluster ws) s =
      .next { portReply b sector.val cluster.val ws with planes := s.planes }))


/-! ### Completion, chapter 05: contexts -/

/-- The operations of CTX_SWITCH, each accepted with last_status 0: what the team is kept by is compared (R213), and then, where that
freezes no team, a timed switch pends with its plane and time; a plane's staging is queued in the team's towers; staged planes return to
valid; a pending switch is cancelled; a team falls back; a held team resumes. -/
def Obligations.SwitchCommandsComplete : Prop :=
  (∀ (e : Env) (team plane check : Byte) (time : U64),
    rowCompletes (.switchAtTime e team plane check time) e false
      (wholeWrite 0x6220 1 (switchRequest team 1 plane check time.toNat)) actSwitch fun s1 t =>
        t.dict.switchStatus = 0 ∧ (((teamUsed s1 team.toNat).team team.toNat).frozen = 0 →
          ∃ p, (t.team team.toNat).pending = some p ∧ p.trigger = 0 ∧ p.plane = plane.toNat ∧
            p.due = time.toNat ∧ p.acceptedAt = s1.now)) ∧
  (∀ (e : Env) (team plane check : Byte),
    rowCompletes (.stagePlane e team plane check) e false
      (wholeWrite 0x6220 1 (switchRequest team 2 plane check 0)) actSwitch fun s1 t =>
        t.dict.switchStatus = 0 ∧ t.teams = (teamUsed s1 team.toNat).teams ∧
        (((teamUsed s1 team.toNat).team team.toNat).frozen = 0 →
          t.stage = (queueStaging (teamUsed s1 team.toNat) [(team.toNat, plane.toNat)] false).stage)) ∧
  (∀ (e : Env) (team plane check : Byte),
    rowCompletes (.unstage e team plane check) e false
      (wholeWrite 0x6220 1 (switchRequest team 3 plane check 0)) actSwitch fun s1 t =>
        t.dict.switchStatus = 0 ∧ t.teams = (teamUsed s1 team.toNat).teams ∧
        (((teamUsed s1 team.toNat).team team.toNat).frozen = 0 →
          t.planes = (unstageTeam (teamUsed s1 team.toNat) team.toNat).planes)) ∧
  (∀ (e : Env) (team plane check : Byte),
    rowCompletes (.cancelPendingSwitch e team plane check) e false
      (wholeWrite 0x6220 1 (switchRequest team 4 plane check 0)) actSwitch fun s1 t =>
        t.dict.switchStatus = 0 ∧ (t.team team.toNat).pending = none ∧
        (∀ k, k ≠ team.toNat → t.team k = (teamUsed s1 team.toNat).team k)) ∧
  (∀ (e : Env) (team plane check : Byte),
    rowCompletes (.fallBackNow e team plane check) e false
      (wholeWrite 0x6220 1 (switchRequest team 5 plane check 0)) actSwitch fun s1 t =>
        t.dict.switchStatus = 0 ∧ t.teams = (triggerFallback (teamUsed s1 team.toNat) team.toNat 1).teams ∧
        t.stage = (triggerFallback (teamUsed s1 team.toNat) team.toNat 1).stage) ∧
  (∀ (e : Env) (team plane check : Byte),
    rowCompletes (.releaseHold e team plane check) e false
      (wholeWrite 0x6220 1 (switchRequest team 6 plane check 0)) actSwitch fun s1 t =>
        t.dict.switchStatus = 0 ∧
        t.teams = AMap.upd {} (teamUsed s1 team.toNat).teams team.toNat fun x => { x with held := false })

/-- Staging and switching: a free engine takes the oldest operation; a staging that ends stages its sectors' valid planes; a plane asked
for over REIN pends, with its edge found from the one at which req is sampled, or is refused with event 0x2008; at its granted edge a
team's members pass to the pending plane, or in a fallback to the safe plane; a fence that lasts too long is given up; an enabled cause
makes its team fall back, and one that is not does nothing to it. -/
def Obligations.SwitchEventsComplete : Prop :=
  (∀ (tower : Fin 4) (s : State) (op : StageOp) (rest : List StageOp), (s.engine tower.val).cur = none →
    (s.engine tower.val).waiting = op :: rest → (op.fallback = true ∨ fallbackHolds s [tower.val] = false) →
    exec (.stagingStart tower) s = .next (s.updEngine tower.val fun _ =>
      { cur := some { op with startedAt := s.now }, waiting := rest })) ∧
  (∀ (tower : Fin 4) (s : State) (op : StageOp), (s.engine tower.val).cur = some op →
    ∃ t, exec (.stagingComplete tower) s = .next t ∧
      t.stage = AMap.upd {} s.stage tower.val (fun e => { e with cur := none }) ∧
      t.planes = (op.parts.foldl (fun s part =>
        (bitsSet part.sectors.toNat 48).foldl (fun s g => stageSector s g part.plane) s) s).planes) ∧
  (∀ (sector : Fin 48) (plane : Fin 8) (s u : State) (n : Nat), s.teamOf sector.val = some n →
    (s.team n).goodLeader = sector.val → s.mode ≠ .hold → switchMode s = true → u = teamUsed s n →
    (reinRefusal u n plane.val = none →
      ∃ t p, exec (.reinRequest sector plane) s = .next t ∧ (t.team n).pending = some p ∧ p.trigger = 1 ∧ p.plane = plane.val ∧
        p.acceptedAt = u.now ∧ p.drainAt = some (firstEdge u (u.teamTowers n) (u.teamN n) (edgeBase u))) ∧
    (∀ r, reinRefusal u n plane.val = some r →
      exec (.reinRequest sector plane) s = .next (event u (teamSrc n) 0x2008 (u8 n ++ u8 plane.val ++ u8 r)))) ∧
  (∀ (team : Fin 16) (s u : State) (p : Pending) (r : Nat), u = tryGrant (teamUsed s team.val) team.val →
    (u.team team.val).fallback = none → (u.team team.val).pending = some p → p.edge = some r → r ≤ u.now → u.mode ≠ .hold →
    ∃ t, exec (.switchEdge team) s = .next t ∧
      t = grantAll (performSwitch (u.updTeam team.val fun x => { x with pending := none }) team.val p.plane p.trigger r) ∧
      (t.team team.val).active = BitVec.ofNat 8 p.plane) ∧
  (∀ (team : Fin 16) (s u : State) (f : Fallback) (r : Nat), u = tryGrant (teamUsed s team.val) team.val →
    (u.team team.val).fallback = some f → f.edge = some r → r ≤ u.now →
    ∃ t, exec (.switchEdge team) s = .next t ∧
      t = grantAll (event (performSwitch (u.updTeam team.val fun x => { x with fallback := none }) team.val
        (u.team team.val).goodSafe 2 r) (teamSrc team.val) 0x2006 (u8 team.val ++ u8 f.cause ++ u64 (u.taiAt r))) ∧
      (t.team team.val).active = BitVec.ofNat 8 (u.team team.val).goodSafe) ∧
  (∀ (team : Fin 16) (s : State) (p : Pending) (d : Nat), (s.team team.val).pending = some p → p.edge = none → p.fenceDone = false →
    fencedBusy s team.val ≠ [] → p.drainAt = some d → d ≤ s.now → s.elapsed d (s.num (0x6210 + team.val) 6) = true →
    exec (.fenceTimeout team) s = .next (tryGrant (event (s.updTeam team.val fun x => { x with pending := some { p with fenceDone := true } })
      (teamSrc team.val) 0x2005 (u8 team.val ++ u16 (fencedBusy s team.val).length)) team.val)) ∧
  (∀ (team : Fin 16) (cause : Fin 6) (s u : State), cause ≠ 0 → u = usePair s (0x6210 + team.val) 5 →
    (causeEnabled u team.val cause.val = true → exec (.fallbackTrigger team cause) s = .next (triggerFallback u team.val cause.val)) ∧
    (causeEnabled u team.val cause.val = false → exec (.fallbackTrigger team cause) s = .next u))

/-- Team settings, plane clear and capture: each write that passes its checks sets what it names; an armed capture waiting for a trigger
takes its edge from it, and one that is copying or full counts it as missed; it copies at its edge and is full when the copy is done. -/
def Obligations.TeamAndCaptureCommandsComplete : Prop :=
  (∀ (e : Env) (team : Fin 16) (v c : U64),
    rowCompletes (.teamMembersWrite e team v c) e true (pairWrite (0x6210 + team.val) 1 (u64 v.toNat) (u64 c.toNat))
      (actMembers team.val) fun _ t => v ≠ 0 → (t.team team.val).goodMembers = v.setWidth 48) ∧
  (∀ (e : Env) (team : Fin 16) (setting : Fin 3) (v c : Byte),
    rowCompletes (.teamSettingWrite e team setting v c) e true (pairWrite (0x6210 + team.val) (setting.val + 2) [v] [c])
      (actTeamSetting team.val (setting.val + 2)) fun s1 t =>
        t.teams = AMap.upd {} s1.teams team.val fun x =>
          match setting with
          | 0 => { x with goodClock := v.toNat }
          | 1 => { x with goodLeader := v.toNat }
          | 2 => { x with goodSafe := v.toNat }) ∧
  (∀ (e : Env) (v : U64),
    rowCompletes (.planeClear e v) e false (wholeWrite 0x6230 1 (u64 v.toNat)) actPlaneClear fun s1 t =>
      t.planes = ((maskSectors v.toNat).foldl (fun s g => s.setPlane g (field v.toNat 58 56) .idle) s1).planes) ∧
  (∀ e : Env, rowCompletes (.captureArm e) e false (wholeWrite 0x6350 5 [1]) actCapture fun s1 t =>
    t.cap = { s1.cap with
      state := 1, sectors := BitVec.ofNat 48 (captureSectors s1), clock := s1.num 0x6350 2, trigger := s1.num 0x6350 3,
      due := s1.num 0x6350 4, sampled := none, edge := none }) ∧
  (∀ e : Env, rowCompletes (.captureDisarm e) e false (wholeWrite 0x6350 5 [2]) actCapture fun s1 t =>
    t.cap = { s1.cap with state := 0, edge := none }) ∧
  (∀ e : Env, rowCompletes (.captureRelease e) e false (wholeWrite 0x6350 5 [3]) actCapture fun s1 t =>
    t.cap = { s1.cap with state := 0, edge := none, buffers := [] }) ∧
  (∀ (sector : Fin 48) (s : State), s.cap.sectors.getLsbD sector.val = true → s.cap.state = 1 → s.cap.trigger = 2 →
    s.cap.edge = none → s.mode ≠ .hold → ∃ t a, exec (.captureTrigger sector) s = .next t ∧
      a = firstEdge s (captureTowers s) (s.clockN s.cap.clock) (edgeBase s) ∧
      t.cap = { s.cap with sampled := some a, edge := some (nthEdgeAfter s (captureTowers s) (s.clockN s.cap.clock) 2 a) }) ∧
  (∀ (sector : Fin 48) (s : State), s.cap.sectors.getLsbD sector.val = true → s.cap.state = 2 ∨ s.cap.state = 3 →
    exec (.captureTrigger sector) s = .next (event { s with cap := { s.cap with missed := satInc s.cap.missed 0xFFFF } }
      (0x1000 + sector.val) 0x200E (u8 sector.val))) ∧
  (∀ (routed : List (FfId × Bool)) (s : State) (r : Nat), s.cap.edge = some r → s.cap.state = 1 → r ≤ s.now → s.mode ≠ .hold →
    exec (.captureEdge routed) s = .next { s with cap := { s.cap with
      state := 2, copiedAt := s.now, edgeTime := s.taiAt r,
      buffers := (routed.filter fun x => s.cap.sectors.getLsbD x.1.sector.val).foldl (fun m x => AMap.set false m (ffNum x.1) x.2)
        ((maskSectors s.cap.sectors.toNat).foldl (fun m g =>
          (captureValues s g r).foldl (fun m kv => AMap.set false m kv.1 kv.2) m) []) } }) ∧
  (∀ s : State, s.cap.state = 2 → ∃ t, exec .captureCopyDone s = .next t ∧ t.cap = { s.cap with state := 3 } ∧
    t.outs = s.outs ++ (maskSectors s.cap.sectors.toNat).map Out.capture)


/-! ### Completion, chapter 06: streams, keys, ownership -/

/-- A header that passes every check is accepted: its stream is in progress, event 0x1010 is recorded. A chunk whose tag verifies joins the
payload. A packet of an opcode that no packet has aborts the stream with 0x0301. END of a complete stream ends it with status 0. -/
def Obligations.StreamProgressCompletes : Prop :=
  (∀ (src : StreamSrc) (header tags h tg : List Byte) (s s1 s2 : State), s.loader.cur = none → sourceOpen s src = true →
    readSource (useOwners s) src 0 512 (padTo header 512) = (s1, .bytes h) → headerChecks s1 h = none →
    (src = .chain ∧ s2 = s1 ∧ 512 + 16 * hdrChunks h ≤ s1.chain.buf.length ∧
        tg = (s1.chain.buf.drop 512).take (16 * hdrChunks h)) ∨
      (src = .feed ∧ s2 = s1 ∧ 512 + 16 * hdrChunks h ≤ s1.loader.feedBuf.length ∧
        tg = (s1.loader.feedBuf.drop 512).take (16 * hdrChunks h)) ∨
      (src ≠ .chain ∧ src ≠ .feed ∧ readSource s1 src 512 (16 * hdrChunks h) tags = (s2, .bytes tg)) →
    signatureOk h tg = true → regionHeld s2 h = true →
    ∃ t st, exec (.streamHeader src header tags) s = .next t ∧ t = acceptHeader s2 src h tg ∧ t.loader.cur = some st ∧
      st.header = h ∧ st.tags = tg ∧ st.src = src ∧ st.payload = [] ∧ st.cursor = 0) ∧
  (∀ (chunk c : List Byte) (s s1 : State) (st st1 : Stream), s.loader.cur = some st → st.chunk < hdrChunks st.header →
    (hdrRolled st.header = true → st.chunk = 0 ∨ st.rolled.isSome = true) →
    st1 = (match st.rolled with
      | some k => { st with key := k.1, nonce := k.2, rolled := none }
      | none => st) →
    readSource s st.src (512 + 16 * hdrChunks st.header + 65536 * st.chunk) (chunkSize st.header st.chunk) chunk = (s1, .bytes c) →
    chunkTagOk st1 st.chunk c = true → rollRule st1 st.chunk (st.payload ++ chunkText st1 st.chunk c) = true →
    ∃ t, exec (.chunkVerified chunk) s = .next t ∧ t.loader.cur =
      some { st1 with chunk := st.chunk + 1, payload := st.payload ++ chunkText st1 st.chunk c }) ∧
  (∀ (s : State) (st : Stream) (op len : Nat) (d : List Byte), nextPacket s = some (st, op, len, d) → ¬ (1 ≤ op ∧ op ≤ 13) →
    ∃ t, exec .unknownOpcode s = .next t ∧ t = abortStream s 0x0301 0 ∧ t.loader.cur = none ∧ t.loader.result.status = 0x0301) ∧
  (∀ (s : State) (st : Stream) (d : List Byte), nextPacket s = some (st, 0x0D, 8, d) → st.cursor + 16 = hdrPayload st.header →
    natAt d 0 4 = st.packets → (∀ kv ∈ st.sel, kv.2 ≠ 1) → hdrSealed st.header = false →
    ∃ t, exec .endPacket s = .next t ∧ t = completeStream s st ∧ t.loader.cur = none ∧ t.loader.result.status = 0) ∧
  (∀ (s s1 : State) (st : Stream) (d : List Byte), nextPacket s = some (st, 0x0D, 8, d) → st.cursor + 16 = hdrPayload st.header →
    natAt d 0 4 = st.packets → (∀ kv ∈ st.sel, kv.2 ≠ 1) → hdrSealed st.header = true →
    sealedHash s (Crypto.sha256 st.payload) = (s1, true) →
    ∃ t, exec .endPacket s = .next t ∧ t = completeStream (takeSealed s1 st) st ∧ t.loader.cur = none ∧ t.loader.result.status = 0)

/-- A packet of a stream that passes step 13 of R300 and whose own work succeeds leaves what that work leaves, and the stream passes to its
next packet: SELECT_PLANE makes the planes it names loading, CHECK_CRC begins the next checked range, KEY_ROLL gives the next chunk's key
and nonce, FORWARD_TO_CHAIN the bytes that follow; frames, block memory words (one at a time once writes are enabled, R223), initial
bits, team settings, the start-up order and object defaults are written; planes are marked valid. Each begins with the ownership table
compared (R276). -/
def Obligations.StreamPacketsComplete : Prop :=
  (∀ (s u : State) (st : Stream) (len : Nat) (d : List Byte), PacketGoes s 1 st len d → u = useOwners s →
    natAt d 0 1 ≤ 7 → natAt d 4 8 < 2 ^ 48 → selectCheck u st (natAt d 0 1) (maskSectors (natAt d 4 8)) = none →
    ∃ t, exec .selectPlane s = .next t ∧ ∀ g ∈ maskSectors (natAt d 4 8), (t.plane g (natAt d 0 1)).state = .loading) ∧
  (∀ (s u s1 : State) (st : Stream) (len : Nat) (d : List Byte), PacketGoes s 2 st len d → u = useOwners s →
    writeFrames u (natAt d 0 4) (natAt d 4 4) (d.drop 8) = done s1 → exec .writeFrames s = .next (passPacket s1 len)) ∧
  (∀ (s u s1 : State) (st : Stream) (len : Nat) (d bs : List Byte), PacketGoes s 3 st len d → u = useOwners s →
    expandRuns d.length (d.drop 12) = some bs → bs.length = natAt d 4 4 * frameSize (addrType (natAt d 0 4)) →
    writeFrames u (natAt d 0 4) (natAt d 4 4) bs = done s1 → exec .writeFramesZr s = .next (passPacket s1 len)) ∧
  (∀ (s u s1 : State) (st : Stream) (len : Nat) (d : List Byte), PacketGoes s 4 st len d → u = useOwners s →
    1 ≤ natAt d 6 2 → natAt d 6 2 ≤ 512 → natAt d 4 2 + natAt d 6 2 ≤ 512 → wordCheck u st (natAt d 0 4) = none →
    putWords u (natAt d 0 4) (natAt d 4 2 + st.words)
      ((List.range (wordsNow u (natAt d 6 2 - st.words))).map fun k => bytesAt d (8 + 9 * (st.words + k)) 9) = done s1 →
    exec .initBlockmem s = .next (passWords s1 len)) ∧
  (∀ (s u s1 : State) (st : Stream) (len : Nat) (d : List Byte), PacketGoes s 5 st len d → u = useOwners s →
    addrType (natAt d 0 4) = 1 → addrOk (natAt d 0 4) = true → withinSector (natAt d 0 4) (natAt d 4 4) = true →
    putStates u (natAt d 0 4) 0 ((List.range (natAt d 4 4)).map fun k => bytesAt d (8 + 4 * k) 4) = done s1 →
    exec .initState s = .next (passPacket s1 len)) ∧
  (∀ (s u s1 : State) (st : Stream) (len : Nat) (d : List Byte), PacketGoes s 6 st len d → u = useOwners s →
    bytesAt d 20 20 = complBytes (d.take 20) → natAt d 0 1 ≤ 15 →
    hdrStartup st.header = true ∨ (∀ g ∈ maskSectors (natAt d 8 8), bit (hdrSectors st.header) g = true ∧ ownerOf u g = hdrOwner st.header) →
    loaderWrites (0x6210 + natAt d 0 1) (teamWrites (natAt d 0 1) d) u = (s1, 0) →
    exec .setTeam s = .next (passPacket s1 len)) ∧
  (∀ (s u s1 : State) (st : Stream) (len : Nat) (d : List Byte), PacketGoes s 7 st len d → u = useOwners s →
    loaderWrite u 0x6110 1 d actStartupOrder = (s1, 0) → exec .setStartupOrder s = .next (passPacket s1 len)) ∧
  (∀ (s : State) (st : Stream) (len : Nat) (d : List Byte), PacketGoes s 8 st len d →
    Crypto.crc32c (bytesAt st.payload st.crcFrom (st.cursor - st.crcFrom)) = natAt d 0 4 →
    ∃ t, exec .checkCrc s = .next t ∧ t.loader.cur = some { st with
      crcFrom := st.cursor + 12, cursor := st.cursor + 8 + len, packets := st.packets + 1, words := 0 }) ∧
  (∀ (s : State) (st : Stream) (len : Nat) (d : List Byte), PacketGoes s 9 st len d →
    ∃ t, exec .keyRoll s = .next t ∧ t.loader.cur = some { st with
      rolled := some (d.take 32, bytesAt d 32 12), cursor := st.cursor + 8 + len, packets := st.packets + 1, words := 0 }) ∧
  (∀ (follow : List Byte) (s : State) (st : Stream) (len : Nat) (d : List Byte), PacketGoes s 10 st len d →
    1 ≤ natAt d 0 1 → natAt d 0 1 ≤ 15 → (s.link false).up = true →
    ∃ t, exec (.forwardToChain follow) s = .next t ∧ t.loader.cur =
      some { (if st.src = .feed then { st with forward := natAt d 8 8 } else { st with follow := follow.take (natAt d 8 8) }) with
        cursor := st.cursor + 8 + len, packets := st.packets + 1, words := 0 }) ∧
  (∀ (s u s1 : State) (st : Stream) (len : Nat) (d : List Byte), PacketGoes s 11 st len d → u = useOwners s →
    defaultWrite u d = (s1, 0) → exec .setObjectDefault s = .next (passPacket s1 len)) ∧
  (∀ (s u s1 : State) (st : Stream) (len : Nat) (d : List Byte), PacketGoes s 12 st len d → u = useOwners s →
    natAt d 0 1 ≤ 7 → natAt d 4 8 < 2 ^ 48 →
    markSectors (natAt d 0 1) (natAt d 4 8) (bit (natAt d 1 1) 0) ((maskSectors (natAt d 4 8)).zip
      ((List.range (maskSectors (natAt d 4 8)).length).map fun i => natAt d (12 + 4 * i) 4)) u = done s1 →
    exec .markValid s = .next (passPacket s1 len))

/-- Keys, fuses, tamper and ownership: a wrapped key that unwraps is stored; an erase clears the battery key; a lock is blown; KEY_PROG with
the right check value writes its key; 1,000 ns of TAMPER_N clear the battery key and every key slot; an ownership byte and an owner's key
hash are stored. -/
def Obligations.KeyAndOwnerCommandsComplete : Prop :=
  (∀ (e : Env) (wrap : List Byte), rowCompletes (.efuseKeyWrite e wrap) e false (wholeWrite 0x6160 2 wrap) actEfuseKey fun s1 t =>
    ∃ k, t.fuses = { s1.fuses with efuseKey := k } ∧ k.length = 32) ∧
  (∀ (e : Env) (wrap : List Byte), rowCompletes (.bbramKeyWrite e wrap) e false (wholeWrite 0x6160 3 wrap) actBbramKey fun s1 t =>
    ∃ k, t.fuses = { s1.fuses with bbramKey := k, tamperSeen := false } ∧ k.length = 32) ∧
  (∀ (e : Env) (v : Byte), rowCompletes (.bbramErase e v) e false (wholeWrite 0x6160 4 [v]) actBbramErase fun s1 t =>
    t.fuses = { s1.fuses with bbramKey := [] }) ∧
  (∀ e : Env, rowCompletes (.fuseLockPlain e) e false (wholeWrite 0x6160 7 [1]) actFuseLock fun s1 t =>
    t.fuses = { s1.fuses with plainLock := true }) ∧
  (∀ e : Env, rowCompletes (.fuseLockEfuseOnly e) e false (wholeWrite 0x6160 7 [2]) actFuseLock fun s1 t =>
    t.fuses = { s1.fuses with efuseOnly := true }) ∧
  (∀ (battery : Bool) (key check : List Byte) (s : State), jtagOpen s = true → s.mode = .startUp → key.length = 32 →
    checkValue key = check → battery = true ∨ s.fuses.efuseKey = [] →
    ∃ t, exec (.keyProg battery key check) s = .next t ∧ t.fuses =
      (if battery then { s.fuses with bbramKey := key, tamperSeen := false } else { s.fuses with efuseKey := key }) ∧
      t.test = { s.test with instruction := 0x10 }) ∧
  (∀ (widthNs : Nat) (s : State), 1000 ≤ widthNs →
    ∃ t, exec (.tamperN widthNs) s = .next t ∧ t.fuses.bbramKey = [] ∧ t.fuses.tamperSeen = true ∧ t.crypt.slots = []) ∧
  (∀ (e : Env) (sector : Fin 48) (v c : Byte),
    rowCompletes (.ownershipWrite e sector v c) e true (pairWrite 0x6150 (sector.val + 1) [v] [c]) (actOwnership sector.val)
      fun _ t => t.bytesOf 0x6150 (sector.val + 1) = [v]) ∧
  (∀ (e : Env) (owner : Fin 8) (hash : List Byte),
    rowCompletes (.ownerKeyWrite e owner hash) e false (wholeWrite 0x6151 (owner.val + 1) hash) (actOwnerKey owner.val)
      fun _ t => t.bytesOf 0x6151 (owner.val + 1) = hash)


/-! ### Completion, chapter 07: Start-up, the library and the chain -/

/-- The reset inputs: PORST_N asserted puts the device in the reset phase with every object at its default, the fuses kept; released with
the supplies at their levels, or the supplies reached with it high, it leaves the reset phase. SYSRST_N held 1,000 ns is noted before
calibration and held from it on; its release enters calibration with cause 1. -/
def Obligations.ResetInputsComplete : Prop :=
  (∀ (straps : Straps) (s : State), ∃ t, exec (.porstN true straps) s = .next t ∧ t.mode = .startUp ∧ t.boot.phase = 0 ∧
    t.boot.cause = 0 ∧ t.boot.porstLow = true ∧ t.obj = [] ∧ t.planes = [] ∧ t.time = {} ∧ t.fuses = s.fuses ∧
    t.sealed.store = s.sealed.store ∧ t.sealed.counter = s.sealed.counter ∧ t.sealed.audit = s.sealed.audit) ∧
  (∀ (straps : Straps) (s : State), s.boot.porstLow = true → ∃ t, exec (.porstN false straps) s = .next t ∧ t.boot.porstLow = false ∧
    t.boot.strapBoot = straps.boot ∧ t.boot.strapBist = straps.bistOverride ∧ t.boot.bdef = straps.bdef ∧
    (s.boot.phase = 0 → t.boot.phase = if s.boot.suppliesReached then 1 else 0)) ∧
  (∀ (vaux vin : Nat) (s : State), 1710 ≤ vaux → vaux ≤ 2100 → 1746 ≤ vin → vin ≤ 2100 →
    ∃ t, exec (.vauxVinCoreReached vaux vin) s = .next t ∧ t.boot.suppliesReached = true ∧
      (s.boot.phase = 0 → t.boot.phase = if s.boot.porstLow then 0 else 1)) ∧
  (∀ (widthNs : Nat) (s : State), 1000 ≤ widthNs → s.mode = .startUp → s.boot.phase ≠ 0 → s.boot.phase < 4 →
    exec (.sysrstN widthNs) s = .next { s with boot := { s.boot with sysNoted := true } }) ∧
  (∀ (widthNs : Nat) (s : State), 1000 ≤ widthNs → (s.mode = .startUp → 4 ≤ s.boot.phase) →
    (s.mode = .safeStop → s.power.lastCause < 6) →
    ∃ t, exec (.sysrstN widthNs) s = .next t ∧ t.boot.sysHeld = true ∧ t.loader.cur = none) ∧
  (∀ s : State, s.boot.sysHeld = true → ∃ t, exec .sysrstNRelease s = .next t ∧ t.mode = .startUp ∧ t.boot.phase = 4 ∧
    t.boot.cause = 1 ∧ t.loader.queue = [] ∧ t.chain.goAt = none)

/-- The phases of Start-up, each begun as the one before it ends: fuse load and BIST (to Safe Stop where a critical block fails), repair,
calibration (to the load phase, the verify or Service, or to Safe Stop by a stake group that it finds failing), the verify, the load
phase (to activation, or to failure), activation. -/
def Obligations.StartUpPhasesComplete : Prop :=
  (∀ (mv : List (BitVec 16)) (s : State), atPhase s 1 = true → ∃ t, exec (.fuseLoadDone 0 mv) s = .next t ∧ t.boot.phase = 2 ∧
    t.clk.rootLocked = true ∧ t.test.shifted = s.fuses.rowShift ∧ t.pan.spares = s.fuses.panColumns ∧
    t.test.spareVias = s.fuses.viaSpares ∧ t.test.badSites = s.fuses.badSites ∧ t.sealed.enabled = s.sealed.provisioned) ∧
  (∀ (critical : Fin 4) (mv : List (BitVec 16)) (s : State), atPhase s 1 = true → critical ≠ 0 →
    ∃ t, exec (.fuseLoadDone critical mv) s = .next t ∧ t.mode = .safeStop ∧ t.power.lastCause = 6) ∧
  (∀ (ppm : Int) (s : State), atPhase s 2 = true → s.boot.bistRunning = false → s.boot.strapBist = true →
    ∃ t, exec (.bistStart ppm) s = .next t ∧ t.boot.phase = 3 ∧ t.boot.bist = 2 ∧ t.test.untested = 0x0F) ∧
  (∀ (ppm : Int) (s : State), atPhase s 2 = true → s.boot.bistRunning = false → s.boot.strapBist = false → bistReady s ppm = true →
    exec (.bistStart ppm) s = .next { s with boot := { s.boot with bistRunning := true, bistTickAt := s.now } }) ∧
  (∀ (ppm : Int) (s : State), atPhase s 2 = true → s.boot.bistRunning = false → s.boot.strapBist = false → bistReady s ppm = false →
    s.elapsed s.boot.bistTickAt 1000000000 = true →
    ∃ t, exec (.bistWaitTick ppm) s = .next t ∧ t.boot = { s.boot with bistTickAt := s.now }) ∧
  (∀ (critical : Fin 4) (fails : List FailUnit) (s : State), atPhase s 2 = true → s.boot.bistRunning = true →
    ∃ t, exec (.bistDone critical fails) s = .next t ∧ t.boot.bistRunning = false ∧
      (criticalOf critical.val fails = 0 → t.boot.phase = 3) ∧
      (criticalOf critical.val fails ≠ 0 → t.mode = .safeStop ∧ t.power.lastCause = 6)) ∧
  (∀ s : State, atPhase s 3 = true → ∃ t, exec .repairDone s = .next t ∧ t.mode = .startUp ∧ t.boot.phase = 4) ∧
  (∀ (runs : List CalRun) (answers octal : Bool) (flashId : BitVec 32) (d0 d1 : List Byte) (s : State), atPhase s 4 = true →
    s.boot.verifying = false → (calibrateAll s runs 0).mode = .startUp →
    ∃ t, exec (.calibrationDone runs answers octal flashId d0 d1) s = .next t ∧
      (s.boot.strapBoot = 3 → t.mode = .service) ∧
      (s.boot.strapBoot ≠ 3 → s.boot.cause ≠ 0 → t.boot.verifying = true ∧ t.mode = .startUp) ∧
      (s.boot.strapBoot ≠ 3 → s.boot.cause = 0 → t.boot.phase = 5 ∨ t.boot.phase = 9)) ∧
  (∀ (runs : List CalRun) (answers octal : Bool) (flashId : BitVec 32) (d0 d1 : List Byte) (s : State), atPhase s 4 = true →
    s.boot.verifying = false → (calibrateAll s runs 0).mode ≠ .startUp →
    exec (.calibrationDone runs answers octal flashId d0 d1) s = .next (calibrateAll s runs 0)) ∧
  (∀ (cells : List (Fin 48 × Fin 8)) (s : State), atPhase s 4 = true → s.boot.verifying = true →
    ∃ t, exec (.startupVerifyDone cells) s = .next t ∧ t.boot.verifying = false ∧
      (((keptPlanes s).any fun kv => verifyFails s cells kv.1 kv.2) = false →
        ((List.range 48).all fun g => !sectorUsable s g || (s.activePlane g).isSome) = true →
          t.boot.phase = 6 ∧ t.boot.image = 5) ∧
      (((keptPlanes s).any fun kv => verifyFails s cells kv.1 kv.2) = true ∨
          ((List.range 48).all fun g => !sectorUsable s g || (s.activePlane g).isSome) = false →
        t.planes = [] ∧ t.obj = [] ∧ t.teams = [] ∧ (t.boot.phase = 5 ∨ t.boot.phase = 9))) ∧
  (∀ s : State, atPhase s 5 = true → sourceDone s = true → ∃ t, exec .loadPhaseEnd s = .next t ∧
    (contextsReady s = true → t.boot.phase = 6) ∧
    (contextsReady s = false → t.boot.phase = 9 ∧ t.boot.failReason = loadReason s ∧ t.board.cfgErr = true)) ∧
  (∀ s : State, atPhase s 6 = true → ∃ t, exec .activation s = .next t ∧ t.boot.phase = 7 ∧ t.boot.activated = true ∧
    t.boot.progress = 0)

/-- The steps of the start-up order, each where it is due: the fabric clocks start; the outputs, the set/reset and the writes are released;
the fourth step taken enters Run. The order itself is written. -/
def Obligations.StartUpOrderCompletes : Prop :=
  (∀ s : State, stepDue s 1 = true → ∃ t, exec .clockLock s = .next t ∧ t.boot.progress = s.boot.progress + 1 ∧
    t.clk.started = true ∧ t.clk.stopped = false ∧ (s.boot.progress = 3 → t.mode = .run ∧ t.boot.phase = 8 ∧ t.board.cfgDone = true)) ∧
  (∀ s : State, stepDue s 2 = true → ∃ t, exec .releaseOutputs s = .next t ∧ t.boot.progress = s.boot.progress + 1 ∧
    t.boot.outputsReleased = true ∧ (s.boot.progress = 3 → t.mode = .run ∧ t.boot.phase = 8 ∧ t.board.cfgDone = true)) ∧
  (∀ s : State, stepDue s 3 = true → ∃ t, exec .releaseSetReset s = .next t ∧ t.boot.progress = s.boot.progress + 1 ∧
    t.boot.srReleased = true ∧ (s.boot.progress = 3 → t.mode = .run ∧ t.boot.phase = 8 ∧ t.board.cfgDone = true)) ∧
  (∀ s : State, stepDue s 4 = true → ∃ t, exec .enableWrites s = .next t ∧ t.boot.progress = s.boot.progress + 1 ∧
    t.boot.writesEnabled = true ∧ (s.boot.progress = 3 → t.mode = .run ∧ t.boot.phase = 8 ∧ t.board.cfgDone = true)) ∧
  (∀ (e : Env) (data : List Byte), rowCompletes (.startupOrderWrite e data) e false (wholeWrite 0x6110 1 data) actStartupOrder
    fun _ t => t.bytesOf 0x6110 1 = actStartupOrder.clean data)

/-- The loader's sources at run time: bytes fed by a host; the library's copy from flash, its area, its entries filled by a host; a load
queued, started and cancelled. -/
def Obligations.LibraryCommandsComplete : Prop :=
  (∀ (e : Env) (data : List Byte), rowCompletes (.hostFeedData e data) e false (wholeWrite 0x6101 1 data) actHostFeed fun s1 t =>
    t.loader.fed = s1.loader.fed + data.length ∧ t.loader.feedSkip = s1.loader.feedSkip - min s1.loader.feedSkip data.length) ∧
  (∀ (images : List (List Byte)) (s : State), s.mode = .run → s.loader.copyState = 0 → s.loader.dirLibrary ≠ 0 →
    s.num 0x6120 5 = 0xFF → (images.map List.length).sum ≤ s.loader.dirLibLength →
    exec (.libraryCopy images) s =
      .next (images.foldl copyImage { s with loader := { s.loader with copyState := 1, copied := 0 } })) ∧
  (∀ (bad : Bool) (s : State), s.loader.copyState = 1 → ∃ t, exec (.libraryCopyDone bad) s = .next t ∧
    t.loader = { s.loader with copyState := if bad then 3 else 2 }) ∧
  (∀ (e : Env) (size : Bool) (v : U64),
    rowCompletes (.libraryAreaWrite e size v) e false (wholeWrite 0x6120 (if size then 2 else 1) (u64 v.toNat)) (actLibArea size)
      fun _ t => t.num 0x6120 (if size then 2 else 1) = v.toNat) ∧
  (∀ (e : Env) (v : Byte), rowCompletes (.writeEntry e v) e false (wholeWrite 0x6120 5 [v]) actWriteEntry fun _ t =>
    t.num 0x6120 5 = v.toNat ∧ (v ≠ 0xFF → t.libEntry v.toNat = { writing := true })) ∧
  (∀ (e : Env) (data : List Byte), rowCompletes (.writeData e data) e false (wholeWrite 0x6120 6 data) actWriteData fun s1 t =>
    t.libEntry (s1.num 0x6120 5) = { writing := true, offset := (fillPlace s1 (s1.num 0x6120 5)).1,
                                     length := (fillPlace s1 (s1.num 0x6120 5)).2 + data.length }) ∧
  (∀ (e : Env) (v : Byte), rowCompletes (.loadEntry e v) e false (wholeWrite 0x6130 1 [v]) actLoadEntry fun s1 t =>
    t.loader = { s1.loader with queue := s1.loader.queue ++ [v.toNat] }) ∧
  (∀ (s : State) (n : Nat) (rest : List Nat), s.loader.queue = n :: rest → s.loader.cur = none → s.loader.loading = none →
    ∃ t, exec .loadStart s = .next t ∧ t.loader = { s.loader with queue := rest, loading := some n }) ∧
  (∀ e : Env, rowCompletes (.cancelCurrent e) e false (wholeWrite 0x6130 4 [1]) actLoadCancel fun s1 t =>
    t.loader.cur = none ∧ t.loader.loading = none ∧ t.loader.queue = s1.loader.queue) ∧
  (∀ e : Env, rowCompletes (.cancelAll e) e false (wholeWrite 0x6130 4 [2]) actLoadCancel fun _ t =>
    t.loader.cur = none ∧ t.loader.loading = none ∧ t.loader.queue = [])

/-- The chain's frames, each where it is taken (in order, its CRC good, for this device): a position, chain bytes, a report, GO, the
delay measurement, remote requests and responses; and the chain's timeouts and FORCE_GO. -/
def Obligations.ChainCommandsComplete : Prop :=
  (∀ (f : HFrame) (pos : Byte) (s s1 : State), hitchTake s f = (s1, true) → passesOn s1 f = false → f.up = true →
    chainHead s1 = false → pos.toNat < 15 →
    ∃ t, exec (.position f pos) s = .next t ∧ t.chain.position = pos.toNat + 1 ∧ t.chain.joined = true) ∧
  (∀ (f : HFrame) (bytes : List Byte) (s s1 : State), hitchTake s f = (s1, true) → passesOn s1 f = false → f.up = true →
    chainHead s1 = false → s1.mode = .startUp → s1.boot.phase ≤ 5 →
    ∃ t, exec (.stream f bytes) s = .next t ∧ t.chain.buf = s1.chain.buf ++ bytes.drop (min s1.chain.skip bytes.length) ∧
      t.chain.lastDataAt = s1.now) ∧
  (∀ (f : HFrame) (pos flags reason : Byte) (status : BitVec 16) (s s1 : State), hitchTake s f = (s1, true) →
    passesOn s1 f = false → f.up = false → chainHead s1 = true → pos.toNat < 16 →
    ∃ t, exec (.report f pos flags reason status) s = .next t ∧ AMap.get false t.chain.reported pos.toNat = true ∧
      t.chain.reports = AMap.set 0 s1.chain.reports pos.toNat
        (flags.toNat * 0x1000000 + reason.toNat * 0x10000 + status.toNat)) ∧
  (∀ (f : HFrame) (pos flags reason : Byte) (status : BitVec 16) (s s1 : State), hitchTake s f = (s1, true) →
    passesOn s1 f = false → f.up = false → chainHead s1 = false →
    exec (.report f pos flags reason status) s = .next (pump (s1.updLink true fun h =>
      { h with waiting := h.waiting ++ [⟨3, 0, f.src.toNat, reportBytes pos flags reason status⟩] }) true)) ∧
  (∀ s : State, chainHead s = true → s.chain.lastForwardAt ≠ 0 → s.elapsed s.chain.lastForwardAt (reportTimeoutNs s) = true →
    ∃ t, exec .reportTimeout s = .next t ∧ t.chain.lastForwardAt = 0 ∧ t.chain.reported = s.chain.reported) ∧
  (∀ (f : HFrame) (countdown : BitVec 32) (s s1 : State), hitchTake s f = (s1, true) → passesOn s1 f = false → f.up = true →
    chainHead s1 = false → ∃ t, exec (.go f countdown) s = .next t ∧ t.chain.goAt = some (s1.now + nsRoots countdown.toNat) ∧
      t.chain.goWaitFrom = none) ∧
  (∀ (e : Env) (v : Byte), rowCompletes (.forceGo e v) e false (wholeWrite 0x6170 5 [v]) actForceGo fun s1 t =>
    t.chain.goAt.isSome = true ∧ t.chain.goWaitFrom = none ∧ t.freeCtr = s1.freeCtr + 1) ∧
  (∀ (s : State) (at_ : Nat), s.chain.goWaitFrom = some at_ → atPhase s 7 = true → s.chain.goAt = none →
    s.elapsed at_ (reportTimeoutNs s) = true →
    ∃ t, exec .goWaitTimeout s = .next t ∧ t.boot.phase = 9 ∧ t.boot.failReason = 7 ∧ t.board.cfgErr = true) ∧
  (∀ s : State, atPhase s 5 = true → s.boot.strapBoot = 1 → s.loader.cur = none →
    s.elapsed s.chain.lastDataAt (reportTimeoutNs s) = true →
    ∃ t, exec .chainDataTimeout s = .next t ∧ t.boot.phase = 9 ∧ t.boot.failReason = 6 ∧ t.board.cfgErr = true) ∧
  (∀ (f : HFrame) (t1 : U64) (s s1 : State), hitchTake s f = (s1, true) → passesOn s1 f = false →
    exec (.delayReq f t1) s = .next (hitchSend s1 f.up 6 0xFF (u64 t1.toNat ++ u64 s1.tai ++ u64 s1.tai))) ∧
  (∀ (f : HFrame) (t1 t2 t3 t4 : U64) (s s1 : State), hitchTake s f = (s1, true) → passesOn s1 f = false →
    (s1.link f.up).delayCount < 16 →
    ∃ t, exec (.delayResp f t1 t2 t3 t4) s = .next t ∧ (t.link f.up).delayCount = (s1.link f.up).delayCount + 1 ∧
      (t.link f.up).delaySum = (s1.link f.up).delaySum +
        (((t4.toNat : Int) - t1.toNat) - ((t3.toNat : Int) - t2.toNat)) * 500 ∧
      (t.link f.up).delayPs = ((t.link f.up).delaySum / ((s1.link f.up).delayCount + 1)).toNat)

/-- The hitch unit: a remote request is issued as initiator 0x71; a remote response that is waited for goes to its window; an
acknowledgement frees what it covers; one that is owed is sent; frames unacknowledged for 5 µs are sent again; a request message is
taken from its window and sent; one without a response is answered with status 5. -/
def Obligations.HitchCommandsComplete : Prop :=
  (∀ (f : HFrame) (message : List Byte) (s s1 : State), remoteCredit s = true → hitchTake s f = (s1, true) → passesOn s1 f = false →
    s1.num 0x6A60 1 = 1 → s1.runOrHold = true → f.src.toNat ≠ s1.chain.position →
    natAt message 1 1 = 1 ∨ natAt message 1 1 = 2 → natAt message 2 2 < 512 →
    ∃ p, exec (.remoteReq f message) s = .next (issue s1 p) ∧ p.kind = natAt message 1 1 ∧ p.initiator = 0x71 ∧
      p.tag = natAt message 4 2 ∧ p.address = natAt message 8 8 ∧ p.length = natAt message 2 2 + 1) ∧
  (∀ (f : HFrame) (message : List Byte) (s s1 : State) (i : Nat), hitchTake s f = (s1, true) → passesOn s1 f = false →
    indexOf? (fun r => decide (r.tag.toNat = natAt message 4 2)) s1.lanes.remotes = some i →
    exec (.remoteResp f message) s =
      .next (pushResponse { s1 with lanes := { s1.lanes with remotes := delAt s1.lanes.remotes i } } message)) ∧
  (∀ (f : HFrame) (s : State), (s.link f.up).up = true → f.crcOk = true → f.ackValid = true →
    exec (.ack f) s = .next (takeAck s f.up f.ack.toNat)) ∧
  (∀ (up : Bool) (s : State), (s.link up).up = true → (s.link up).ackOwed.isSome = true →
    ∃ t, exec (.hitchAckDue up) s = .next t ∧ t.link up = { s.link up with ackOwed := none } ∧
      t.outs = s.outs ++ [.hitch up 9 (s.link up).nextSeq (ackNow (s.link up)) 0xFF s.chain.position []]) ∧
  (∀ (up : Bool) (s : State), (s.link up).up = true → (s.link up).unacked ≠ [] → s.elapsed (s.link up).sentAt 5000 = true →
    (s.link up).resends < 16 →
    ∃ t, exec (.hitchResend up) s = .next t ∧ (t.link up).unacked = (s.link up).unacked ∧
      (t.link up).resends = (s.link up).resends + 1 ∧
      t.outs = s.outs ++ (s.link up).unacked.map fun x => .hitch up x.2.type x.1 (ackNow (s.link up)) x.2.dst x.2.src x.2.payload) ∧
  (∀ (s s1 : State) (h msg : List Byte), s.num 0x6A60 2 < 16 → windowOn s (s.num 0x6A60 2) = true →
    h = (windowIndexed s (s.num 0x6A60 2) 0 16 none .good).2.2 → 16 ≤ (s.window (s.num 0x6A60 2)).fill →
    requestSize h ≤ (s.window (s.num 0x6A60 2)).fill → s.lanes.remotes.length < 32 →
    16 + (if natAt h 1 1 = 1 then (natAt h 2 2 + 16) / 16 * 16 else 0) ≤ responseRoom s →
    windowPop s (s.num 0x6A60 2) (requestSize h) .good = (s1, 0, msg) → natAt h 0 1 ≠ s1.chain.position → natAt h 0 1 < 16 →
    natAt h 1 1 = 1 ∨ natAt h 1 1 = 2 → natAt h 2 2 < 512 → (s1.link (decide (natAt h 0 1 < s1.chain.position))).up = true →
    exec .remoteRequestPush s = .next (hitchSend { s1 with lanes := { s1.lanes with remotes := s1.lanes.remotes ++
      [⟨natAt h 0 1, natAt h 1 1, BitVec.ofNat 16 (natAt h 4 2), natAt h 2 2 + 1, s1.now⟩] } }
      (decide (natAt h 0 1 < s1.chain.position)) 7 (natAt h 0 1) msg)) ∧
  (∀ (tag : BitVec 16) (s : State) (i : Nat) (r : RemoteReq),
    indexOf? (fun r => decide (r.tag = tag) && s.elapsed r.at_ (s.num 0x6400 2)) s.lanes.remotes = some i →
    s.lanes.remotes[i]? = some r →
    ∃ s1, exec (.remoteTimeout tag) s = .next (pushResponse s1 (responseMsg r.dst r.op 5 tag.toNat r.length [])) ∧
      s1.lanes = { s.lanes with remotes := delAt s.lanes.remotes i })


/-! ### Completion, chapter 08: the network and its movers -/

/-- Packets: a request whose turn it is leaves the network and is served at what its address decodes to: answered 7 where its route is
off, refused where it decodes to nothing, handed to its slice or its port, answered by the pannier, a window or the service window. A
poisoned one is answered with status 3; a header error discards it. A response ends the transaction that waits for it, with zeros for
data where its status is not 0; one unanswered for response_timeout ends with status 5; an old best-effort packet becomes urgent. -/
def Obligations.PacketCommandsComplete : Prop :=
  (∀ (k kind : Nat) (link : LinkFault) (tag : TagErr) (err : MemErr) (s s1 u : State) (p : Pkt) (c : Instr),
    (kind = 0x01 ∧ c = .nocReadRequest k link tag err ∨ kind = 0x02 ∧ c = .nocWriteRequest k link tag err) →
    takePacket s k kind = some (p, s1) →
    (link = .none ∧ u = s1 ∨ link = .corrected ∧ u = Machine.linkCorrected s1 p) →
    (routeOff u p = true → exec c s = .next (answer u p 7 [] 0)) ∧
    (routeOff u p = false → isTap p.use = true →
      exec c s = .next (answer u p (if u.sectorOn (p.address / 2 ^ 32 % 4096) then 0 else 7) [] 0)) ∧
    (routeOff u p = false → isTap p.use = false →
      (∀ st code, decode u p.initiator p.address p.length (decide (p.kind = 0x02)) = .bad st code →
        exec c s = .next (refuse u p st code)) ∧
      (∀ a, decode u p.initiator p.address p.length (decide (p.kind = 0x02)) = .dram a → exec c s = .next (reachSlice u p tag err)) ∧
      (∀ off, decode u p.initiator p.address p.length (decide (p.kind = 0x02)) = .pan off → exec c s = .next (panServe u p off err)) ∧
      (∀ n off, decode u p.initiator p.address p.length (decide (p.kind = 0x02)) = .window n off →
        exec c s = .next (answer (windowAccess (windowCycle u n off p) n off p err).1 p
          (windowAccess (windowCycle u n off p) n off p err).2.1 (windowAccess (windowCycle u n off p) n off p err).2.2 0)) ∧
      (∀ g cl off t, decode u p.initiator p.address p.length (decide (p.kind = 0x02)) = .fabric g cl off →
        portServe u p g cl off = some t → exec c s = .next t) ∧
      (∀ off, decode u p.initiator p.address p.length (decide (p.kind = 0x02)) = .service off →
        exec c s = .next (serviceServe u p off)))) ∧
  (∀ (k : Nat) (tag : TagErr) (err : MemErr) (s s1 : State) (p : Pkt), takePacket s k 0x01 = some (p, s1) →
    exec (.nocReadRequest k .poisoned tag err) s = .next (answer s1 p 3 [] 0) ∧
    exec (.nocReadRequest k .headerLost tag err) s = .next (Machine.headerLost s1 p)) ∧
  (∀ (k : Nat) (tag : TagErr) (err : MemErr) (s s1 : State) (p : Pkt), takePacket s k 0x02 = some (p, s1) →
    exec (.nocWriteRequest k .poisoned tag err) s = .next (answer s1 p 3 [] 0) ∧
    exec (.nocWriteRequest k .headerLost tag err) s = .next (Machine.headerLost s1 p)) ∧
  (∀ (k kind : Nat) (link : LinkFault) (s s1 u : State) (r p : Pkt) (c : Instr),
    (kind = 0x81 ∧ c = .nocReadResponse k link ∨ kind = 0x82 ∧ c = .nocWriteResponse k link) →
    takePacket s k kind = some (r, s1) → u.noc.open_.find? (fun q => decide (q.id = r.id)) = some p →
    ((link = .none ∧ u = s1 ∨ link = .corrected ∧ u = Machine.linkCorrected s1 r) → exec c s =
      .next (finish (statDone u p r.status) p r.status r.outcome (if r.status = 0 then r.data else zeros r.data.length))) ∧
    (link = .poisoned → u = s1 → exec c s = .next (finish (statDone u p (if r.status = 0 then 3 else r.status)) p
      (if r.status = 0 then 3 else r.status) r.outcome (zeros r.data.length))) ∧
    (link = .headerLost → exec c s = .next (Machine.headerLost s1 r))) ∧
  (∀ (k : Nat) (s : State) (p : Pkt), s.noc.open_[k]? = some p → s.elapsed p.issued (s.num 0x6400 2) = true →
    ∃ s2, exec (.responseTimeout k) s = .next (finish s2 p 5 0 (if p.kind = 0x01 then zeros p.length else [])) ∧
      s2.noc.late = s.noc.late ++ [p] ∧ s2.noc.open_ = s.noc.open_ ∧ s2.noc.flight = s.noc.flight) ∧
  (∀ (k : Nat) (s : State) (p : Pkt), s.noc.flight[k]? = some p → p.guaranteed = false → p.direct = false → p.urgent = false →
    512 ≤ nocCycles p.issued s.now →
    ∃ t, exec (.packetPromotedUrgent k) s = .next t ∧
      t.noc = { s.noc with flight := setAt s.noc.flight k { p with urgent := true } })

/-- Reservations, movers and figures: a reservation's enable pends for the next frame boundary and takes effect there; a doorbell or a
command starts an idle mover on its descriptor; a stop, a start time and a descriptor's end act on theirs; figures are cleared and
latched. -/
def Obligations.MoverCommandsComplete : Prop :=
  (∀ (e : Env) (n : Fin 64) (v : U64),
    rowCompletes (.reservationWrite e n v) e false (wholeWrite 0x6410 (n.val + 1) (u64 v.toNat)) (actReservation (n.val + 1)) fun s1 t =>
      (bit (s1.num 0x6410 (n.val + 1)) 63 ≠ bit v.toNat 63 → t.noc.gtPending = AMap.set 0 s1.noc.gtPending (n.val + 1)
        ((s1.now / 1536 + 1) * 3072 + b2n (bit v.toNat 63))) ∧ t.noc.gtInForce = s1.noc.gtInForce) ∧
  (∀ (n : Fin 64) (s : State), AMap.get 0 s.noc.gtPending (n.val + 1) ≠ 0 → AMap.get 0 s.noc.gtPending (n.val + 1) / 2 ≤ s.now →
    ∃ t, exec (.reservationTakesEffect n) s = .next t ∧ t.noc = { s.noc with
      gtPending := AMap.set 0 s.noc.gtPending (n.val + 1) 0,
      gtInForce := AMap.set false s.noc.gtInForce (n.val + 1) (decide (AMap.get 0 s.noc.gtPending (n.val + 1) % 2 = 1)) }) ∧
  (∀ (initiator : Byte) (m : Fin 16) (addr : U64) (s : State), isOuter initiator.toNat = false →
    (s.sealed.enabled = true → initiator ≠ 0) → (s.mover m.val).state = 0 → moversServe s 1 = true →
    ∃ t, exec (.moverDoorbell initiator m addr) s = .next t ∧ (t.mover m.val).state = 1 ∧ (t.mover m.val).descAddr = addr.toNat ∧
      t.outs = s.outs ++ [.answer initiator.toNat 0 []]) ∧
  (∀ (e : Env) (m : Byte) (addr : U64),
    rowCompletes (.moverStart e m addr) e false (wholeWrite 0x6431 1 ([m] ++ u64 addr.toNat)) actMoverStart fun _ t =>
      (t.mover m.toNat).state = 1 ∧ (t.mover m.toNat).descAddr = addr.toNat) ∧
  (∀ (e : Env) (mask : BitVec 16),
    rowCompletes (.moverStop e mask) e false (wholeWrite 0x6431 2 (u16 mask.toNat)) actMoverStop fun s1 t =>
      t.noc = ((bitsSet mask.toNat 16).foldl stopMover s1).noc) ∧
  (∀ (m : Fin 16) (s : State), (s.mover m.val).state = 2 → natAt (s.mover m.val).desc 32 8 ≤ s.tai →
    exec (.moverStartTime m) s = .next (moverGo (updMover s m.val fun y => { y with state := 1 }) m.val)) ∧
  (∀ (m : Fin 16) (s : State), (s.mover m.val).state = 1 → (s.mover m.val).desc ≠ [] → (s.mover m.val).stopping = false →
    (s.mover m.val).failed = 0 → (s.mover m.val).outstanding = 0 → descRows (s.mover m.val).desc ≤ (s.mover m.val).row →
    ∃ t, exec (.moverDescriptorDone m) s = .next t ∧ (t.mover m.val).completed = satInc (s.mover m.val).completed 0xFFFFFF ∧
      (t.mover m.val).descAddr = natAt (s.mover m.val).desc 40 8) ∧
  (∀ e : Env, rowCompletes (.statClearSelected e) e false (wholeWrite 0x6420 3 [1]) actStat fun s1 t =>
    t.noc = { s1.noc with stats := AMap.del s1.noc.stats (s1.num 0x6420 1) }) ∧
  (∀ e : Env, rowCompletes (.statClearAll e) e false (wholeWrite 0x6420 3 [2]) actStat fun s1 t =>
    t.noc = { s1.noc with stats := [] }) ∧
  (∀ s : State, s.elapsed s.noc.windowAt (s.num 0x6420 2 * 1000) = true →
    ∃ x, exec .statWindowEnd s = .next { s with noc := { s.noc with windowAt := s.now, stats := x } } ∧
      ∀ kv ∈ x, kv.2.readNow = 0 ∧ kv.2.writeNow = 0 ∧ ∃ old ∈ s.noc.stats, old.1 = kv.1 ∧ kv.2.readBytes = old.2.readNow ∧
        kv.2.writeBytes = old.2.writeNow)


/-! ### Completion, chapter 09: Wale and the pannier -/

/-- Wale: a fill that has been answered places its line in a way, or serves its requests without one; a write-back that has been answered
leaves the table; a maintenance entry lapses; a flush or an invalidate begins in the slices named, and ends when nothing of it is left. -/
def Obligations.WaleCommandsComplete : Prop :=
  (∀ (k : Nat) (s : State) (f : Fill) (data : List Byte), s.wale.fills[k]? = some f → f.answer = some (0, data) →
    (∀ w, victim s f.slice f.line = some w → victimsHeld s f.slice < 16 →
      exec (.lineFillDone k) s = .next (runSlices (placeLine { s with wale := { s.wale with fills := delAt s.wale.fills k } } f.slice w
        { line := f.line, data := data }))) ∧
    (victim s f.slice f.line = none → ∃ s2, exec (.lineFillDone k) s = .next (serveUnallocated s2 f.slice f.line 0 data) ∧
      s2.wale = { s.wale with fills := delAt s.wale.fills k })) ∧
  (∀ (k : Nat) (s : State) (f : Fill) (st : Nat) (data : List Byte), s.wale.fills[k]? = some f → f.answer = some (st, data) → st ≠ 0 →
    exec (.lineFillDone k) s =
      .next (serveUnallocated { s with wale := { s.wale with fills := delAt s.wale.fills k } } f.slice f.line st data)) ∧
  (∀ (k : Nat) (s : State) (b : WriteBack), s.wale.backs[k]? = some b → b.answer = some 0 →
    exec (.writeBackAnswered k 0) s = .next (runSlices
      (match lookup (flushLine { s with wale := { s.wale with backs := delAt s.wale.backs k } } b.slice b.line 0) b.slice b.line with
       | some (j, x) => setWay (flushLine { s with wale := { s.wale with backs := delAt s.wale.backs k } } b.slice b.line 0) j
           (some { x with pinned := false })
       | none => flushLine { s with wale := { s.wale with backs := delAt s.wale.backs k } } b.slice b.line 0))) ∧
  (∀ (k : Nat) (s : State) (b : WriteBack) (status : Fin 8), s.wale.backs[k]? = some b → b.answer = some status.val → status ≠ 0 →
    (status = 7 → exec (.writeBackAnswered k status) s =
      .next (keepBack (flushLine { s with wale := { s.wale with backs := delAt s.wale.backs k } } b.slice b.line 7) b)) ∧
    (status ≠ 7 → ∃ s1 s2, exec (.writeBackAnswered k status) s =
        .next (runSlices (event s2 (sliceSrc b.slice) 0x4807 (u8 b.slice ++ u64 (b.line * 64) ++ u8 status.val))) ∧
      s1 = flushLine { s with wale := { s.wale with backs := delAt s.wale.backs k } } b.slice b.line status.val ∧
      (lookup s1 b.slice b.line = none → s2 = s1) ∧
      (∀ j x, lookup s1 b.slice b.line = some (j, x) →
        s2 = if x.pinned = true ∧ x.dirty = false then setWay s1 j none else s1))) ∧
  (∀ (slice : Fin 16) (line : Nat) (s : State),
    ((s.slice slice.val).maint.any fun e => decide (e.1 = line) && s.elapsed e.2 10000) = true →
    exec (.maintenanceEntryTimeout slice line) s = .next (updSlice s slice.val fun x =>
      { x with maint := x.maint.filter fun e => decide (e.1 ≠ line) })) ∧
  (∀ (e : Env) (mask : BitVec 16),
    rowCompletes (.waleFlush e mask) e false (wholeWrite 0x6501 1 (u16 mask.toNat)) (actFlush false) fun s1 t =>
      t.wale = ((bitsSet mask.toNat 16).foldl (fun s sl => beginFlush s sl false) s1).wale) ∧
  (∀ (e : Env) (mask : BitVec 16),
    rowCompletes (.waleInvalidate e mask) e false (wholeWrite 0x6501 2 (u16 mask.toNat)) (actFlush true) fun s1 t =>
      t.wale = ((bitsSet mask.toNat 16).foldl (fun s sl => beginFlush s sl true) s1).wale) ∧
  (∀ (slice : Fin 16) (s : State), (s.slice slice.val).flushing = true → (s.slice slice.val).flushLeft = [] →
    ∃ t, exec (.flushDone slice) s = .next t ∧
      t.wale.slices = AMap.upd {} (if (s.slice slice.val).flushInvalidate then invalidateSlice s slice.val else s).wale.slices slice.val
        fun x => { x with flushing := false, flushInvalidate := false })

/-- The pannier's windows: a push that has room stores its bytes and moves wr_ptr on; a pop gives the oldest bytes and moves rd_ptr on, a
release moves it without them; an indexed access reads or writes bytes from rd_ptr; a status read gives the pointers. A window is
enabled, conflicts are cleared; the background test goes on to its next region; a bank is cleared. -/
def Obligations.PannierCommandsComplete : Prop :=
  (∀ (initiator : Byte) (n : Fin 16) (data : List Byte) (s : State), windowOn s n.val = true → 8 ≤ data.length →
    data.length ≤ 1024 → data.length % 8 = 0 → data.length ≤ windowSize s n.val - (s.window n.val).fill →
    windowBanks s n.val (s.window n.val).wr data.length = 0 →
    ∃ t, exec (.windowPush initiator n data) s = .next t ∧ t.outs = s.outs ++ [.answer initiator.toNat 0 []] ∧
      (t.window n.val).wr = ((s.window n.val).wr + data.length) % windowSize s n.val ∧
      (t.window n.val).fill = (s.window n.val).fill + data.length ∧ (t.window n.val).rd = (s.window n.val).rd) ∧
  (∀ (initiator : Byte) (n : Fin 16) (len : Nat) (s : State), windowOn s n.val = true → 8 ≤ len → len ≤ 1024 → len % 8 = 0 →
    len ≤ (s.window n.val).fill → windowBanks s n.val (s.window n.val).rd len = 0 →
    ∃ t, exec (.windowPop initiator n len) s = .next t ∧
      t.outs = s.outs ++ [.answer initiator.toNat 0 (panBytes s (windowPlace s n.val (s.window n.val).rd) len)] ∧
      t.pan.windows = AMap.upd {} s.pan.windows n.val fun x =>
        { x with rd := ((s.window n.val).rd + len) % windowSize s n.val, fill := (s.window n.val).fill - len }) ∧
  (∀ (initiator : Byte) (n : Fin 16) (len : Nat) (s : State), windowOn s n.val = true → len % 8 = 0 → len ≤ (s.window n.val).fill →
    ∃ t, exec (.windowRelease initiator n len) s = .next t ∧ t.outs = s.outs ++ [.answer initiator.toNat 0 []] ∧
      t.pan.windows = AMap.upd {} s.pan.windows n.val fun x =>
        { x with rd := ((s.window n.val).rd + len) % windowSize s n.val, fill := (s.window n.val).fill - len }) ∧
  (∀ (initiator : Byte) (n : Fin 16) (off len : Nat) (s : State), windowOn s n.val = true → 0 < len → len ≤ 1024 →
    off + len ≤ windowSize s n.val → windowBanks s n.val ((s.window n.val).rd + off) len = 0 →
    ∃ t, exec (.windowIndexedAccess initiator n off len none) s = .next t ∧
      t.outs = s.outs ++ [.answer initiator.toNat 0 (panBytes s (windowPlace s n.val ((s.window n.val).rd + off)) len)] ∧
      t.pan.windows = s.pan.windows) ∧
  (∀ (initiator : Byte) (n : Fin 16) (off len : Nat) (bs : List Byte) (s : State), windowOn s n.val = true → bs ≠ [] →
    bs.length ≤ 1024 → off + bs.length ≤ windowSize s n.val → windowBanks s n.val ((s.window n.val).rd + off) bs.length = 0 →
    ∃ t, exec (.windowIndexedAccess initiator n off len (some bs)) s = .next t ∧
      t.outs = s.outs ++ [.answer initiator.toNat 0 []] ∧
      t.pan = (panWrite (windowPlace s n.val ((s.window n.val).rd + off)) 0 bs s).pan) ∧
  (∀ (initiator : Byte) (n : Fin 16) (s : State), windowOn s n.val = true →
    exec (.windowStatusRead initiator n) s = .next (s.emit (.answer initiator.toNat 0 (u32 (s.window n.val).wr ++
      u32 (s.window n.val).rd ++ u32 (s.window n.val).fill ++ u32 (1 + 2 * s.num (0x6520 + n.val) 4)))) ) ∧
  (∀ (e : Env) (n : Fin 16) (v : Byte),
    rowCompletes (.panWindowEnable e n v) e false (wholeWrite (0x6520 + n.val) 1 [v]) (actWindowEnable n.val) fun s1 t =>
      t.num (0x6520 + n.val) 1 = v.toNat ∧ (s1.num (0x6520 + n.val) 1 = 0 → v = 1 →
        t.pan.windows = AMap.upd {} s1.pan.windows n.val fun w => { w with wr := 0, rd := 0, fill := 0 })) ∧
  (∀ (e : Env) (v : Byte), rowCompletes (.panConflictClear e v) e false (wholeWrite 0x6531 0 [v]) actConflictClear fun s1 t =>
    t.pan = { s1.pan with conflicts := [] }) ∧
  (∀ (bank31 : Bool) (s u : State), u = startRegion s bank31 → (bankTest u bank31).testing = true →
    exec (.backgroundTestRegion bank31 false) s = .next (nextRegion u bank31) ∧
    (bankTest (nextRegion u bank31) bank31).region = ((bankTest u bank31).region + 1) % 512 ∧
    (∃ t, exec (.backgroundTestRegion bank31 true) s = .next t ∧ (bankTest t bank31).failed = true ∧
      (bankTest t bank31).running = false ∧ (bankTest t bank31).testing = false)) ∧
  (∀ (bank31 : Bool) (s : State), (bankTest s bank31).testing = true → s.elapsed (bankTest s bank31).startedAt 100000 = true →
    exec (.backgroundRegionTimeout bank31) s = .next (event (nextRegion s bank31) (bankSrc (if bank31 then 31 else 30)) 0x4816
      (u8 (if bank31 then 31 else 30) ++ u16 (bankTest s bank31).region))) ∧
  (∀ (b : Fin 32) (s : State), bankState s b.val = 3 →
    ∃ t, exec (.bankClearingDone b) s = .next t ∧ t.pan = { s.pan with
      mem := s.pan.mem.filter (fun c => decide (panBank c.1 ≠ b.val)), bank := AMap.set 0 s.pan.bank b.val 0 })


/-! ### Completion, chapter 10: the DRAM channels -/

/-- A request of the slices whose line has no earlier one waiting enters the queue of its channel where its class has an entry, takes its data
from the write queue, or is answered 7 where its stack serves nothing. A command slot of a pseudo-channel whose stack is refreshed carries out
the forced refresh or the neighbour refresh that came due first, else the request that the scheduler picks where the stack serves, else a
refresh of an idle bank. -/
def Obligations.DramQueueCommandsComplete : Prop :=
  (∀ (k : Nat) (s : State) (r : DReq), s.wale.toDram[k]? = some r →
    ((s.wale.toDram.take k).any fun q => decide (q.line = r.line)) = false →
    (stackState s ((dloc (r.line * 64)).chan / 16) ≠ 2 →
      exec (.dramRequest k) s = .next (dramAnswer { s with wale.toDram := delAt s.wale.toDram k } r 7 (zeros 64))) ∧
    (∀ w, stackState s ((dloc (r.line * 64)).chan / 16) = 2 → forwardFrom s (s.chan (dloc (r.line * 64)).chan) r = some w →
      exec (.dramRequest k) s = .next (dramAnswer { s with wale.toDram := delAt s.wale.toDram k } r (if w.poison then 3 else 0) w.data)) ∧
    (stackState s ((dloc (r.line * 64)).chan / 16) = 2 → forwardFrom s (s.chan (dloc (r.line * 64)).chan) r = none →
      entryFree (s.chan (dloc (r.line * 64)).chan) r.write r.cls = true →
      (r.write = true → r.data.length < 64 → entryFree (s.chan (dloc (r.line * 64)).chan) false r.cls = true) →
      ∃ t, exec (.dramRequest k) s = .next t ∧ t.wale.toDram = delAt s.wale.toDram k ∧
        (t.chan (dloc (r.line * 64)).chan).writeQ =
          (s.chan (dloc (r.line * 64)).chan).writeQ ++ (if r.write then [{ r with at_ := s.now }] else []) ∧
        (t.chan (dloc (r.line * 64)).chan).readQ =
          (s.chan (dloc (r.line * 64)).chan).readQ ++ (if r.write then [] else [{ r with at_ := s.now }]))) ∧
  (∀ (channel : Fin 32) (pcB : Bool) (errs : List (Nat × Nat)) (spareErrs : List Bool) (s u : State),
    refreshing s (channel.val / 16) = true → u = refillHeat (refillBudget s channel.val) channel.val →
    (∀ key at_, dueNow u channel.val (b2n pcB) = some (key, at_, true) →
      exec (.dramCommandSlot channel pcB errs spareErrs) s = .next (refreshBank u key)) ∧
    (∀ key at_, dueNow u channel.val (b2n pcB) = some (key, at_, false) →
      exec (.dramCommandSlot channel pcB errs spareErrs) s = .next (neighbourBank u key)) ∧
    (∀ r, dueNow u channel.val (b2n pcB) = none → stackState u (channel.val / 16) = 2 → pick u channel.val (b2n pcB) = some r →
      exec (.dramCommandSlot channel pcB errs spareErrs) s = .next (serveDram u channel.val r errs spareErrs)) ∧
    (∀ key, dueNow u channel.val (b2n pcB) = none →
      stackState u (channel.val / 16) ≠ 2 ∨ pick u channel.val (b2n pcB) = none →
      idleRefresh u channel.val (b2n pcB) = some key →
      exec (.dramCommandSlot channel pcB errs spareErrs) s = .next (refreshBank u key)))

/-- The events of a channel: a request that has waited for age_limit is urgent; a bank's refresh interval adds to its debt; a neighbour
refresh is carried out; the activation table is cleared; a burst of a retraining is counted, and a failing lane that it
finds takes a spare at the next one where there is a spare, else its pseudo-channel is down; a CA parity
error is counted; a held migration line is let go. -/
def Obligations.DramEventsComplete : Prop :=
  (∀ (channel : Fin 32) (write : Bool) (k : Nat) (s : State) (r : DReq),
    (if write then (s.chan channel.val).writeQ else (s.chan channel.val).readQ)[k]? = some r → r.urgent = false → r.cls ≠ 3 →
    s.elapsed r.at_ (s.num 0x6601 2) = true →
    ∃ t, exec (.requestUrgent channel write k) s = .next t ∧
      (if write then (t.chan channel.val).writeQ else (t.chan channel.val).readQ)[k]? = some { r with urgent := true }) ∧
  (∀ (b : BankId) (s : State) (ends : Nat), refreshing s (b.channel.val / 16) = true →
    ends = max (s.dbank (bankIdKey b)).intervalAt (AMap.get 0 s.dram.refreshFrom (b.channel.val / 16)) +
      refreshRoots (s.dbank (bankIdKey b)).halved → ends ≤ s.now →
    ∃ t, exec (.refreshInterval b) s = .next t ∧ t.dram.banks = AMap.upd {} s.dram.banks (bankIdKey b) fun x =>
      { x with debt := x.debt + 1, intervals := x.intervals + 1, intervalAt := ends,
               halved := bit s.dram.halved (b.channel.val / 16),
               forcedAt := if x.debt + 1 = 9 then some s.now else x.forcedAt }) ∧
  (∀ (b : BankId) (s : State), refreshing s (b.channel.val / 16) = true →
    exec (.neighbourRefresh b) s = .next (neighbourBank s (bankIdKey b))) ∧
  (∀ (b : BankId) (s : State), 8192 ≤ (s.dbank (bankIdKey b)).intervals →
    exec (.activateTableClear b) s = .next (s.updBank (bankIdKey b) fun x => { x with table := [], intervals := x.intervals - 8192 })) ∧
  (∀ (channel : Fin 32) (failing : List (Fin 36)) (s u : State), (s.chan channel.val).training = 1 →
    (s.chan channel.val).burstsA < 64 → ((s.chan channel.val).burstsA ≠ 0 → s.elapsed (s.chan channel.val).burstAtA 10000 = true) →
    u = (if (s.chan channel.val).foundA = [] then s else repairLanes s channel.val 0 (s.chan channel.val).foundA) →
    ∃ t, exec (.retrainBurst channel false failing) s = .next t ∧
      (t.chan channel.val).burstsA = (s.chan channel.val).burstsA + 1 ∧ (t.chan channel.val).burstsB = (s.chan channel.val).burstsB ∧
      ((u.chan channel.val).lanesA + failing.length ≤ 2 → (t.chan channel.val).foundA = failing.map Fin.val ∧
        (t.chan channel.val).lanesA = (u.chan channel.val).lanesA ∧ (t.chan channel.val).pcDown = (u.chan channel.val).pcDown) ∧
      (2 < (u.chan channel.val).lanesA + failing.length → bit (t.chan channel.val).pcDown 0 = true) ∧
      ((t.chan channel.val).training = 0 ↔ (s.chan channel.val).burstsA = 63 ∧ 64 ≤ (s.chan channel.val).burstsB)) ∧
  (∀ (channel : Fin 32) (failing : List (Fin 36)) (s u : State), (s.chan channel.val).training = 1 →
    (s.chan channel.val).burstsB < 64 → ((s.chan channel.val).burstsB ≠ 0 → s.elapsed (s.chan channel.val).burstAtB 10000 = true) →
    u = (if (s.chan channel.val).foundB = [] then s else repairLanes s channel.val 1 (s.chan channel.val).foundB) →
    ∃ t, exec (.retrainBurst channel true failing) s = .next t ∧
      (t.chan channel.val).burstsB = (s.chan channel.val).burstsB + 1 ∧ (t.chan channel.val).burstsA = (s.chan channel.val).burstsA ∧
      ((u.chan channel.val).lanesB + failing.length ≤ 2 → (t.chan channel.val).foundB = failing.map Fin.val ∧
        (t.chan channel.val).lanesB = (u.chan channel.val).lanesB ∧ (t.chan channel.val).pcDown = (u.chan channel.val).pcDown) ∧
      (2 < (u.chan channel.val).lanesB + failing.length → bit (t.chan channel.val).pcDown 1 = true) ∧
      ((t.chan channel.val).training = 0 ↔ 64 ≤ (s.chan channel.val).burstsA ∧ (s.chan channel.val).burstsB = 63)) ∧
  (∀ (channel : Fin 32) (rank : Fin 4) (s : State), stackState s (channel.val / 16) = 2 →
    ∃ t, exec (.caParityError channel rank) s = .next t ∧
      (t.chan channel.val).caErr = AMap.upd 0 (s.chan channel.val).caErr rank.val (satInc · 255)) ∧
  (∀ (channel : Fin 32) (s : State) (at_ : Nat), (s.chan channel.val).migHeldAt = some at_ → s.elapsed at_ 10000 = true →
    exec (.migrationLineTimeout channel) s = .next (s.updChan channel.val fun c => { c with migHeldAt := none }))

/-- The DRAM commands of the host, and a migration's next line: RETIRE retires the named channel-rank, RETRAIN begins in every named
channel, the spares setting is in force, and a migration that has budget reads its line and writes it into rank 3, holds it where the
write must wait, or drops it for a newer copy; its pointer moves on. -/
def Obligations.DramCommandsComplete : Prop :=
  (∀ (e : Env) (v : BitVec 16), rowCompletes (.retire e v) e false (wholeWrite 0x6640 1 (u16 v.toNat)) actRetire fun s1 t =>
    t.dram = (retireRank s1 (field v.toNat 4 0) (field v.toNat 9 8) 2).dram) ∧
  (∀ (e : Env) (v : U32), rowCompletes (.retrain e v) e false (wholeWrite 0x6640 2 (u32 v.toNat)) actRetrain fun s1 t =>
    t.dram = ((bitsSet v.toNat 32).foldl beginRetrain s1).dram) ∧
  (∀ (e : Env) (v c : Byte), rowCompletes (.sparesWrite e v c) e true (pairWrite 0x6601 1 [v] [c]) actSpares fun s1 t =>
    t.dram.sparesInForce = decide (v = 1) ∧ t.dram.mem = s1.dram.mem ∧ (s1.dram.sparesInForce = decide (v = 1) → t.dram = s1.dram)) ∧
  (∀ (channel : Fin 32) (symbols : Nat) (s u v w : State) (a sl : Nat), u = refillBudget (settleRet s channel.val) channel.val →
    (u.chan channel.val).mig = 1 → stackState u (channel.val / 16) = 2 → 0 < (u.chan channel.val).budget →
    a = migAddr u channel.val → sl = homeSlice u a → (copyHeld u channel.val = false → (u.slice sl).maint.length < 64) →
    v = (if copyHeld u channel.val then u else
      counted (debit (updSlice u sl fun x => { x with maint := x.maint ++ [(a / 64, u.now)] }) channel.val 1) (chanSrc channel.val) 0x0D 0 1) →
    w = updSlice (counted (debit v channel.val 1) (chanSrc channel.val) 0x0D 0 1) sl
      (fun x => { x with maint := x.maint.filter fun e => decide (e.1 ≠ a / 64) }) →
    ((v.chan channel.val).budget ≤ 0 → exec (.migrationCopy channel symbols) s =
      .next (v.updChan channel.val fun c => { c with migHeldAt := some u.now })) ∧
    (0 < (v.chan channel.val).budget → newerCopy w a = none →
      exec (.migrationCopy channel symbols) s = .next (migWrite w channel.val a symbols)) ∧
    (∀ src code, 0 < (v.chan channel.val).budget → newerCopy w a = some (src, code) →
      exec (.migrationCopy channel symbols) s =
        .next (migAdvance (event w src code (if code = 0x4806 then u8 sl ++ u64 a else u64 a)) channel.val))) ∧
  (∀ (s : State) (ch : Nat), (retOf ((migAdvance s ch).chan ch)).pointer = (retOf (s.chan ch)).pointer + 1)


/-! ### Completion, chapter 11: integrity -/

/-- The scrubber and the monitors: a scrub read whose line is due and has a maintenance entry reads it and finishes with what it found; the
held write-back goes ahead once there is budget; one held for 10 µs lapses and the scrub goes on; a late pass is recorded; an upset strikes its pair, and every pair is compared; the
counts are cleared. -/
def Obligations.ScrubCommandsComplete : Prop :=
  (∀ (channel : Fin 32) (symbols : Nat) (verifyErrs : Bool) (spareErrs : List Bool) (s u s1 : State) (p : Nat × Nat)
      (phys : Nat) (spare : Bool), u = useScrub s → scrubOn u channel.val = true →
    s1 = refillBudget (checkRemaps (settleRet (if u.ecc.scrubStopped then beginPass u else u) channel.val) channel.val) channel.val →
    0 < (s1.chan channel.val).budget → (s1.chan channel.val).scrubHeld = none → (s1.chan channel.val).scrubRank < 4 →
    scrubDue s1 channel.val = true → p = nextScrub s1 channel.val 16 (s1.chan channel.val).scrubRank (s1.chan channel.val).scrubLine →
    scrubPlace (scrubTo s1 channel.val p) channel.val p.1 p.2 = some (phys, spare) →
    ((scrubTo s1 channel.val p).slice (homeSlice (scrubTo s1 channel.val p) (deviceAddr (scrubTo s1 channel.val p) channel.val p.1 p.2))).maint.length < 64 →
    exec (.scrubRead channel symbols verifyErrs spareErrs) s = .next (scrubOutcome
      ((updSlice (maintTransfer (scrubTo s1 channel.val p) channel.val)
          (homeSlice (scrubTo s1 channel.val p) (deviceAddr (scrubTo s1 channel.val p) channel.val p.1 p.2))
          fun x => { x with maint := x.maint ++ [(deviceAddr (scrubTo s1 channel.val p) channel.val p.1 p.2 / 64, u.now)] }).updChan
        channel.val fun c => { c with scrubAt := u.now })
      channel.val phys (deviceAddr (scrubTo s1 channel.val p) channel.val p.1 p.2) spare symbols verifyErrs spareErrs)) ∧
  (∀ (channel : Fin 32) (symbols : Nat) (verifyErrs : Bool) (spareErrs : List Bool) (s u s1 : State) (phys at_ : Nat),
    u = useScrub s → scrubOn u channel.val = true →
    s1 = refillBudget (checkRemaps (settleRet (if u.ecc.scrubStopped then beginPass u else u) channel.val) channel.val) channel.val →
    0 < (s1.chan channel.val).budget → (s1.chan channel.val).scrubHeld = some (phys, at_) →
    (s1.elapsed at_ 10000 = false → exec (.scrubRead channel symbols verifyErrs spareErrs) s = .next (scrubAdvance
      (scrubWrite s1 channel.val (s1.chan channel.val).scrubData verifyErrs spareErrs) channel.val)) ∧
    (s1.elapsed at_ 10000 = true →
      exec (.scrubRead channel symbols verifyErrs spareErrs) s = .next (scrubAdvance s1 channel.val))) ∧
  (∀ (channel : Fin 32) (s : State) (at_ : Nat), (s.chan channel.val).scrubHeld.map Prod.snd = some at_ →
    s.elapsed at_ 10000 = true → exec (.scrubWritebackTimeout channel) s = .next (scrubAdvance s channel.val)) ∧
  (∀ (channel : Fin 32) (s u : State), u = useScrub s → u.ecc.scrubStopped = false → (u.chan channel.val).scrubLate = false →
    (u.chan channel.val).scrubRank < 4 →
    u.elapsed (u.chan channel.val).passAt (u.setting 0x6700 2 * 3600000000000) = true →
    exec (.scrubPassLate channel) s = .next (event (u.updChan channel.val fun c => { c with scrubLate := true })
      (chanSrc channel.val) 0x500B (u8 channel.val))) ∧
  (∀ (upset : Option (PairRef × U64)) (s : State), (upset.elim s fun x => strike s x.1 x.2).available = true →
    ∃ t, exec (.complementCheck upset) s = .next t ∧
      t = checkTable ((List.range 32).foldl (fun s ch => checkRemaps (settleRet s ch) ch)
        ((List.range 16).foldl checkRoot ((List.range 16).foldl checkActive
          ((badPairs (dropPairFaults (upset.elim s fun x => strike s x.1 x.2))).foldl
            (fun s k => if s.pairOk (k / 256) (k % 256) then s else objFallback s (k / 256) (k % 256))
            (dropPairFaults (upset.elim s fun x => strike s x.1 x.2))))))) ∧
  (∀ (e : Env) (v : Byte), rowCompletes (.clearCounts e v) e false (wholeWrite 0x6730 1 [v]) actClearCounts fun s1 t =>
    t.ecc = { s1.ecc with wale := [], pan := [], blockmem := [], compFaults := 0, lastRef := 0 } ∧
    t.dram.chans = ((List.range 32).foldl (fun s ch => s.updChan ch fun c =>
      { c with corrected := 0, uncorrectable := 0, poisoned := 0, hardFaults := 0, saturated := false }) s1).dram.chans)

/-- Verify: a request puts the planes it names in the queue; a round of every staged, valid and active plane starts when its interval has
passed; a sector-plane's verify ends as its frames' CRC says, and a mismatch acts by the plane's state. -/
def Obligations.VerifyCommandsComplete : Prop :=
  (∀ (e : Env) (v : U64), rowCompletes (.verify e v) e false (wholeWrite 0x6730 2 (u64 v.toNat)) actVerify fun s1 t =>
    ((namedPlanes v.toNat).filter (fun k => verifiable s1 (k / 8) (k % 8)) ≠ [] →
      t.ecc.verifyQ = (namedPlanes v.toNat).filter (fun k => verifiable s1 (k / 8) (k % 8)) ∧ t.ecc.verifyRunning = true ∧
      t.ecc.verifyRound = false ∧ t.ecc.verifyDone = 0 ∧ t.ecc.mismatches = 0)) ∧
  (∀ s : State, s.num 0x6730 5 ≠ 0 → verifyMode s = true → s.elapsed s.ecc.roundAt (s.num 0x6730 5 * 1000000000) = true →
    s.ecc.roundWaits = [] →
    (s.ecc.verifyRunning = false → exec .verifyRound s = .next (verifyEnded { s with ecc := { s.ecc with
      verifyQ := roundPlanes s, verifyRunning := true, verifyRound := true, verifyDone := 0, mismatches := 0, roundAt := s.now } })) ∧
    (s.ecc.verifyRunning = true → s.ecc.verifyRound = false → exec .verifyRound s = .next { s with ecc := { s.ecc with
      roundWaits := roundPlanes s, roundDone := 0, roundMism := 0, roundAt := s.now } })) ∧
  (∀ (cellFault : Bool) (s : State) (k : Nat) (rest : List Nat), s.ecc.verifyQ = k :: rest → s.ecc.verifyRunning = true →
    streamIn s (towerOf (k / 8)) = false →
    (verifiable s (k / 8) (k % 8) = true → cellFault = false → planeCrc s (k / 8) (k % 8) = (s.plane (k / 8) (k % 8)).crc.toNat →
      exec (.verifySectorPlaneDone cellFault) s = .next (verifyEnded { s with ecc := { s.ecc with
        verifyQ := rest, verifyDone := s.ecc.verifyDone + 1 } })) ∧
    (verifiable s (k / 8) (k % 8) = true → (cellFault = true ∨ planeCrc s (k / 8) (k % 8) ≠ (s.plane (k / 8) (k % 8)).crc.toNat) →
      exec (.verifySectorPlaneDone cellFault) s = .next (verifyEnded (planeMismatch { s with ecc := { s.ecc with
        verifyQ := rest, verifyDone := s.ecc.verifyDone + 1, mismatches := s.ecc.mismatches + 1 } } (k / 8) (k % 8)))) ∧
    (verifiable s (k / 8) (k % 8) = false →
      exec (.verifySectorPlaneDone cellFault) s = .next (verifyEnded { s with ecc := { s.ecc with
        verifyQ := rest, verifyDone := s.ecc.verifyDone + 1 } })))


/-! ### Completion, chapter 12: keys and regions of the DRAM -/

/-- CRYPT_KEY.request: a wrap unwrapped under the eFuse key or the battery-backed key is loaded into its slot; a generated key is drawn from
the random source; a slot is cleared. CRYPT_REGION_n.command: a region is enabled, set to initialise, or disabled; its initialisation
ends with the region enabled. -/
def Obligations.CryptCommandsComplete : Prop :=
  (∀ (e : Env) (slot : Byte) (wrap : List Byte),
    rowCompletes (.keyUnwrapEfuse e slot wrap) e false (wholeWrite 0x6820 1 ([slot, 1, 0, 0] ++ wrap)) actKey fun s1 t =>
      ∀ k, unwrapPair s1.fuses.efuseKey wrap = some k →
        t.crypt = { s1.crypt with slots := AMap.set [] s1.crypt.slots slot.toNat k, status := 0 }) ∧
  (∀ (e : Env) (slot : Byte) (wrap : List Byte),
    rowCompletes (.keyUnwrapBbram e slot wrap) e false (wholeWrite 0x6820 1 ([slot, 2, 0, 0] ++ wrap)) actKey fun s1 t =>
      ∀ k, unwrapPair s1.fuses.bbramKey wrap = some k →
        t.crypt = { s1.crypt with slots := AMap.set [] s1.crypt.slots slot.toNat k, status := 0 }) ∧
  (∀ (e : Env) (slot : Byte), rowCompletes (.keyGenerate e slot) e false (wholeWrite 0x6820 1 [slot, 3, 0, 0]) actKey fun s1 t =>
    t.crypt = { s1.crypt with slots := AMap.set [] s1.crypt.slots slot.toNat (drawPair s1), status := 0 } ∧
    t.freeCtr = s1.freeCtr + 192) ∧
  (∀ (e : Env) (slot : Byte), rowCompletes (.keyClear e slot) e false (wholeWrite 0x6820 1 [slot, 4, 0, 0]) actKey fun s1 t =>
    t.crypt = { s1.crypt with slots := AMap.set [] s1.crypt.slots slot.toNat [], status := 0 } ∧ t.freeCtr = s1.freeCtr) ∧
  (∀ (e : Env) (r : Fin 16),
    rowCompletes (.regionEnable e r) e false (wholeWrite (0x6810 + r.val) 7 [1]) (actRegion r.val) fun _ t =>
      (t.region r.val).state = 2 ∧ (t.region r.val).lock = 0 ∧ (t.region r.val).root = 0) ∧
  (∀ (e : Env) (r : Fin 16),
    rowCompletes (.regionEnableInitialise e r) e false (wholeWrite (0x6810 + r.val) 7 [2]) (actRegion r.val) fun s1 t =>
      (t.region r.val).state = 1 ∧ (t.region r.val).lock = 0 ∧ (t.region r.val).root = 0 ∧
      t.crypt.initAt = AMap.set 0 (flushAll s1 true).crypt.initAt r.val s1.now) ∧
  (∀ (e : Env) (r : Fin 16),
    rowCompletes (.regionDisable e r) e false (wholeWrite (0x6810 + r.val) 7 [3]) (actRegion r.val) fun s1 t =>
      t.crypt.regions = AMap.upd {} (flushAll s1 true).crypt.regions r.val (fun x =>
        { x with state := 0, lock := 0, root := 0, rootComp := ~~~0, metaLength := 0 }) ∧
      t.obj = AMap.del s1.obj (objKey (0x6810 + r.val) 1)) ∧
  (∀ (r : Fin 16) (s : State), (s.region r.val).state = 1 →
    ∃ t, exec (.regionInitialised r) s = .next t ∧ t.crypt = (initRegion s r.val).crypt ∧ (t.region r.val).state = 2 ∧
      t.dram = (initRegion s r.val).dram)


/-! ### Completion, chapter 13: the time base and the pins -/

/-- Time messages: a Sync from the grandmaster selected, or in holdover from the previous one, gives its offset to the servo; an Announce is heard on its port and the selection is
made; a path delay is measured; a missing Sync puts the time base in holdover; a master port sends its Sync; the time is set. -/
def Obligations.TimeCommandsComplete : Prop :=
  (∀ (m : SyncMsg) (s : State), s.available = true → ourDomain s m.domain = true → s.time.best = some (m.port.val, m.gm) →
    (s.time.state = 2 ∨ s.time.state = 3) →
    exec (.sync m) s = .next (discipline { s with time := { s.time with gmPort := m.port.val, gm := m.gm } }
      ((m.ingress : Int) - s.int 0x6901 (0x0B + 2 * m.port.val) 4 / 1000
        - (m.gmTime + (if m.port.val = 0 then s.time.delay0 else s.time.delay1))))) ∧
  (∀ (m : SyncMsg) (s : State), s.available = true → ourDomain s m.domain = true →
    s.time.best = some (m.port.val, m.gm) ∨ (s.time.state = 4 ∧ s.time.gm = m.gm ∧ s.time.gmPort = m.port.val) →
    s.time.state ≠ 2 → s.time.state ≠ 3 →
    exec (.sync m) s = .next (discipline (timeState { s with time := { s.time with gmPort := m.port.val, good := 0 } } 2 m.gm)
      ((m.ingress : Int) - s.int 0x6901 (0x0B + 2 * m.port.val) 4 / 1000
        - (m.gmTime + (if m.port.val = 0 then s.time.delay0 else s.time.delay1))))) ∧
  (∀ (m : AnnounceMsg) (s : State) (v : List Nat), s.available = true → ourDomain s m.domain = true →
    v = [m.priority1.toNat, m.clockClass.toNat, m.accuracy.toNat, m.variance.toNat, m.priority2.toNat, m.identity.toNat,
      m.stepsRemoved.toNat] →
    exec (.announce m) s = .next (runSelection
      (if m.port.val = 0 then { s with time := { s.time with heard0 := v } } else { s with time := { s.time with heard1 := v } }))) ∧
  (∀ (m : PdelayMsg) (s : State), s.available = true → ∃ x, exec (.pdelay m) s = .next { s with time := x } ∧
    (m.port.val = 0 → x.ratio0 = m.ratio ∧ x.delay1 = s.time.delay1 ∧
      x.delay0 = ((((m.t4 : Int) - s.int 0x6901 0x0B 4 / 1000) - (m.t1 + s.int 0x6901 0x0C 4 / 1000)) * m.ratio / 0x100000000
        - ((m.t3 : Int) - m.t2)) / 2) ∧
    (m.port.val = 1 → x.ratio1 = m.ratio ∧ x.delay0 = s.time.delay0 ∧
      x.delay1 = ((((m.t4 : Int) - s.int 0x6901 0x0D 4 / 1000) - (m.t1 + s.int 0x6901 0x0E 4 / 1000)) * m.ratio / 0x100000000
        - ((m.t3 : Int) - m.t2)) / 2)) ∧
  (∀ s : State, (s.time.state = 2 ∨ s.time.state = 3) → s.elapsed s.time.lastSync (3 * syncInterval s) = true →
    ∃ t u, exec .syncTimeout s = .next t ∧ t = runSelection u ∧ u.time.state = 4 ∧ u.time.addend = s.time.addend) ∧
  (∀ (e : Env) (v : U64), rowCompletes (.timeSet e v) e false (wholeWrite 0x6902 1 (u64 v.toNat)) actTimeSet fun s1 t =>
    t.time = { s1.time with ns := v, frac := 0 }) ∧
  (∀ (port : Fin 2) (s : State), s.available = true → field s.time.roles (4 * port.val + 3) (4 * port.val) = 1 →
    (s.lane (48 + port.val)).state = 5 →
    s.elapsed (if port.val = 0 then s.time.sent0 else s.time.sent1) (syncInterval s) = true →
    ∃ t, exec (.syncInterval port) s = .next t ∧
      t.outs = s.outs ++ [.gptp port.val 0 s.tai, .gptp port.val 8 (s.tai + s.int 0x6901 (0x0C + 2 * port.val) 4 / 1000).toNat] ∧
      (port.val = 0 → t.time = { s.time with sent0 := s.now }) ∧ (port.val = 1 → t.time = { s.time with sent1 := s.now }))

/-- Pins: an enabled edge is queued in the order of the stamps while the queue has room, and dropped where it has none; the queue is drained by a write
request of up to 16 entries; a poll takes slots from the source window; the entry at the head executes at its time, or is late
and runs at once or is refused, as its policy says; a return timer
restores its pin; a bank starts and stops; a pin's settings are written. -/
def Obligations.PinCommandsComplete : Prop :=
  (∀ (b : Fin 8) (pin : Fin 48) (rising : Bool) (time : U64) (fraction : Byte) (s u : State) (up : Bool) (n : Nat),
    u = usePin s b.val pin.val → up = (rising != bit (pinSet u b.val pin.val) 25) → (u.bank b.val).state = 1 →
    pinObeys u b.val pin.val = true → bit (pinSet u b.val pin.val) 0 = true →
    bit (pinSet u b.val pin.val) (if up then 3 else 4) = true →
    ((u.pin b.val pin.val).recordedAt = rootOf u time.toNat fraction.toNat / 16 + 1 →
      bit (u.pin b.val pin.val).recordedEdges (if up then 0 else 1) = false) →
    n = (u.bank b.val).draining.getD 0 →
    ∃ t, exec (.inputEdge b pin rising time fraction) s = .next t ∧
      ((u.bank b.val).inQ.length < 32 → (t.bank b.val).inQ = (u.bank b.val).inQ.take n ++ inStampOrder ⟨time, BitVec.ofNat 32
          (fraction.toNat * 0x1000000 + pin.val * 0x40000 + (if up then 1 else 2) * 0x10000 + (u.bank b.val).droppedSince)⟩
          ((u.bank b.val).inQ.drop n) ∧
        (t.bank b.val).droppedSince = 0) ∧
      (32 ≤ (u.bank b.val).inQ.length → (t.bank b.val).inQ = (u.bank b.val).inQ ∧
        (t.bank b.val).droppedIn = satInc (u.bank b.val).droppedIn maxU32)) ∧
  (∀ (b : Fin 8) (s : State), drains s b.val = true → (s.bank b.val).retryAt = 0 →
    exec (.inputDrain b) s = .next (drain s b.val)) ∧
  (∀ (b : Fin 8) (s : State), drains s b.val = true → (s.bank b.val).retryAt ≠ 0 →
    s.elapsed ((s.bank b.val).retryAt - 1) (s.num (0x6910 + b.val) 6) = true →
    exec (.drainRetry b) s = .next (drain s b.val)) ∧
  (∀ (b : Fin 8) (s u : State) (n : Nat) (bs : List Byte), u = updBank s b.val (fun x => { x with polledAt := s.now }) →
    (s.bank b.val).state = 1 → (s.bank b.val).drainUntil = none → s.num (0x6910 + b.val) 3 < 16 → (s.bank b.val).outQ.length < 32 →
    (windowStatus u (s.num (0x6910 + b.val) 3)).2.1 = 0 →
    n = min (min 16 (32 - (s.bank b.val).outQ.length)) ((u.window (s.num (0x6910 + b.val) 3)).fill / 16) →
    (n = 0 → exec (.outputPoll b) s = .next u) ∧
    (n ≠ 0 → (windowPop u (s.num (0x6910 + b.val) 3) (16 * n) .good).2.1 = 0 →
      bs = (windowPop u (s.num (0x6910 + b.val) 3) (16 * n) .good).2.2 →
      exec (.outputPoll b) s = .next ((List.range n).foldl (fun s i => takeSlot b.val s (bytesAt bs (16 * i) 16))
        (windowPop u (s.num (0x6910 + b.val) 3) (16 * n) .good).1))) ∧
  (∀ (b : Fin 8) (s u : State) (e : IoEntry) (rest : List IoEntry), (s.bank b.val).outQ = e :: rest → u = usePin s b.val (entryPin e) →
    (u.bank b.val).outQ = e :: rest → (u.bank b.val).state = 1 → u.boot.outputsReleased = true → (u.bank b.val).drainUntil = none →
    (e.time = 0 → firstPlace u b.val e / 16 ≤ u.now / 16 → exec (.outputEntryExecute b) s = .next
      (runBatch b.val (firstPlace u b.val e / 16) 7 [entryPin e] (runEntry (dropHead u b.val) b.val e (firstPlace u b.val e)))) ∧
    (e.time ≠ 0 → firstPlace u b.val e ≤ entryRoot u e → entryRoot u e / 16 ≤ u.now / 16 → exec (.outputEntryExecute b) s = .next
      (runBatch b.val (entryRoot u e / 16) 7 [entryPin e] (runEntry (dropHead u b.val) b.val e (entryRoot u e)))) ∧
    (e.time ≠ 0 → entryRoot u e < firstPlace u b.val e → firstPlace u b.val e / 16 ≤ u.now / 16 →
      ∃ v ns, ns = (firstPlace u b.val e - entryRoot u e) * 5 / 48 ∧
        v = counted (dropHead u b.val) (ioSrc b.val) 0x02 ns 1 ∧
        (u.num (0x6910 + b.val) 5 = 1 → exec (.outputEntryExecute b) s = .next (event
          (updBank v b.val fun x => { x with refused := satInc x.refused maxU32 }) (ioSrc b.val) 0x7006 (u8 (entryPin e) ++ u64 ns))) ∧
        (u.num (0x6910 + b.val) 5 ≠ 1 → exec (.outputEntryExecute b) s = .next (runBatch b.val (firstPlace u b.val e / 16) 7 [entryPin e]
          (runEntry (event (updBank v b.val fun x => { x with late := satInc x.late maxU32 }) (ioSrc b.val) 0x7005
            (u8 (entryPin e) ++ u64 ns)) b.val e (firstPlace u b.val e)))))) ∧
  (∀ (b : Fin 8) (pin : Fin 48) (s u : State) (t act : Nat), u = usePin s b.val pin.val → (u.pin b.val pin.val).ret = some (t, act) →
    t / 16 ≤ u.now / 16 →
    ((u.pin b.val pin.val).changedAt ≠ 0 → ((u.pin b.val pin.val).changedAt - 1) / 16 < t / 16 ∨
      ((u.pin b.val pin.val).changedAt - 1) / 16 < u.now / 16) →
    (act = 0 ∨ act = 1 → exec (.returnTimer b pin) s =
      .next (drivePin (updPin u b.val pin.val fun p => { p with ret := none }) b.val pin.val (1 - act) t)) ∧
    (act = 2 → exec (.returnTimer b pin) s = .next (updPin (updPin u b.val pin.val fun p => { p with ret := none }) b.val pin.val
      fun p => { p with level := p.prev, prev := p.level, changedAt := t + 1 })) ∧
    (act = 3 → exec (.returnTimer b pin) s =
      .next (drivePin (updPin u b.val pin.val fun p => { p with ret := none }) b.val pin.val 3 t))) ∧
  (∀ (e : Env) (b : Fin 8),
    rowCompletes (.ioBankStart e b) e false (wholeWrite (0x6910 + b.val) 2 [1]) (actBank b.val) fun s1 t =>
      (t.bank b.val).state = 1 ∧ ((s1.bank b.val).state ≠ 1 → (t.bank b.val).polledAt = s1.now)) ∧
  (∀ (e : Env) (b : Fin 8),
    rowCompletes (.ioBankStop e b) e false (wholeWrite (0x6910 + b.val) 2 [2]) (actBank b.val) fun s1 t =>
      t.banks = (applySafe s1 b.val 4 none).banks ∧ t.pins = (applySafe s1 b.val 4 none).pins) ∧
  (∀ (e : Env) (b : Fin 8) (pin : Fin 48) (v c : U32),
    rowCompletes (.ioPinWrite e b pin v c) e true (pairWrite (0x6920 + b.val) (pin.val + 1) (u32 v.toNat) (u32 c.toNat))
      (actPin b.val pin.val) fun s1 t => ∀ r, rowOf (0x6920 + b.val) (pin.val + 1) = some r →
        t.bytesOf (0x6920 + b.val) (pin.val + 1) = keepFields r (s1.bytesOf (0x6920 + b.val) (pin.val + 1)) (u32 v.toNat))


/-! ### Completion, chapter 14: lanes -/

/-- Bring-up: a start begins it and a stop ends it; a receiver found, a lock, a partner's TS2, a step of the rate, the last step and the
time limits each move a lane on as R581 to R585 say; a failed lane begins again after 1 s; the automatic service mode tries the next.
Data on an active lane: units received are joined and pushed; a refused push is repeated; the records at the head of tx_window are
popped and sent, and a malformed one stops the transmitter; an equaliser setting moves by one step. -/
def Obligations.LaneCommandsComplete : Prop :=
  (∀ (e : Env) (n : Fin 48),
    rowCompletes (.laneStart e n) e false (wholeWrite (0x6A00 + n.val) 7 [1]) (actLane n.val) fun s1 t =>
      t.lanes = (if (s1.lane n.val).state = 0 then beginLane s1 n.val else s1).lanes) ∧
  (∀ (e : Env) (n : Fin 48),
    rowCompletes (.laneStop e n) e false (wholeWrite (0x6A00 + n.val) 7 [2]) (actLane n.val) fun s1 t =>
      t.lanes = (stopLane s1 n.val 0).lanes) ∧
  (∀ (l : LaneId) (s : State), (s.lane (laneKey l)).state = 1 → lanesSupplied s = true →
    exec (.laneReceiverDetected l) s = .next (updLane s (laneKey l) fun x =>
      { x with state := 2, step := 4, stepAt := s.now, rate := 0 })) ∧
  (∀ (l : LaneId) (fom : Nat) (s u : State), fomMin s (laneKey l) ≤ fom → lanesSupplied s = true →
    u = updLane s (laneKey l) (fun x => { x with fom := min 1023 fom }) →
    ((s.lane (laneKey l)).state = 2 → (s.lane (laneKey l)).step = 4 → laneMode s (laneKey l) = 2 →
      exec (.laneLocked l fom) s = .next (updLane u (laneKey l) fun x => { x with state := 3, step := 5, stepAt := s.now })) ∧
    ((s.lane (laneKey l)).state = 2 → (s.lane (laneKey l)).step = 4 → laneMode s (laneKey l) ≠ 2 →
      exec (.laneLocked l fom) s = .next (updLane u (laneKey l) fun x => { x with step := 7, stepAt := s.now })) ∧
    ((s.lane (laneKey l)).state = 7 → (s.lane (laneKey l)).step = 4 → exec (.laneLocked l fom) s = .next (marker
      (updLane u (laneKey l) fun x => { x with state := activeState x, step := 0 }) (laneKey l) 7 0 [])) ∧
    ((s.lane (laneKey l)).state = 4 → (s.lane (laneKey l)).step = 8 →
      exec (.laneLocked l fom) s = .next (afterStep u (laneKey l))) ∧
    ((s.lane (laneKey l)).state = 4 → (s.lane (laneKey l)).step = 9 →
      exec (.laneLocked l fom) s = .next (updLane u (laneKey l) fun x => { x with step := 7, stepAt := s.now }))) ∧
  (∀ (l : LaneId) (maxRate : Byte) (hitch : Bool) (pre post : Byte) (s : State), (s.lane (laneKey l)).state = 3 →
    (s.lane (laneKey l)).step = 5 → (50 ≤ laneKey l → hitch = true) →
    exec (.laneTs2Received l maxRate hitch pre post) s = .next (afterStep (updLane s (laneKey l) fun x =>
      { x with partnerMax := maxRate.toNat, partnerHitch := hitch, txEmph := post.toNat % 32 * 256 + pre.toNat % 16 }) (laneKey l))) ∧
  (∀ (l : LaneId) (s : State) (r : Nat), nextRate s (laneKey l) = some r → (s.lane (laneKey l)).state = 4 →
    (s.lane (laneKey l)).step = 6 → exec (.laneStep l) s = .next (updLane s (laneKey l) fun x =>
      { x with rate := r, step := 8, stepAt := s.now })) ∧
  (∀ (l : LaneId) (slow : Bool) (s : State), (s.lane (laneKey l)).step = 7 →
    (slow = true → 48 ≤ laneKey l → laneKey l < 50 → (s.lane (laneKey l)).rate ≠ 0) → ∃ t, exec (.laneActive l slow) s = .next t ∧
    (t.lane (laneKey l)).state = activeState (s.lane (laneKey l)) ∧ (t.lane (laneKey l)).step = 0 ∧
    (t.lane (laneKey l)).rate = (s.lane (laneKey l)).rate) ∧
  (∀ (l : LaneId) (s : State), (s.lane (laneKey l)).step = 7 → 48 ≤ laneKey l → laneKey l < 50 → (s.lane (laneKey l)).rate = 0 →
    exec (.laneActive l true) s = .next s) ∧
  (∀ (l : LaneId) (s : State),
    ((s.lane (laneKey l)).state = 1 → s.elapsed (s.lane (laneKey l)).stepAt 100000 = true → exec (.laneBringupLimit l) s =
      .next (updLane s (laneKey l) fun x => { x with stepAt := s.now })) ∧
    ((s.lane (laneKey l)).state = 2 ∨ (s.lane (laneKey l)).state = 7 → (s.lane (laneKey l)).step = 4 →
      laneKey l < 48 ∨ 50 ≤ laneKey l → s.elapsed (s.lane (laneKey l)).stepAt 2000000 = true →
      exec (.laneBringupLimit l) s = .next (failLane s (laneKey l) 4 0)) ∧
    ((s.lane (laneKey l)).state = 4 → (s.lane (laneKey l)).step = 9 → s.elapsed (s.lane (laneKey l)).stepAt 2000000 = true →
      exec (.laneBringupLimit l) s = .next (failLane s (laneKey l) 4 0)) ∧
    ((s.lane (laneKey l)).state = 3 → (s.lane (laneKey l)).step = 5 → s.elapsed (s.lane (laneKey l)).stepAt 1000000 = true →
      exec (.laneBringupLimit l) s = .next (failLane s (laneKey l) 5 0)) ∧
    ((s.lane (laneKey l)).state = 4 → (s.lane (laneKey l)).step = 6 → s.elapsed (s.lane (laneKey l)).stepAt 2000000 = true →
      exec (.laneBringupLimit l) s = .next (stepFailed s (laneKey l) ((nextRate s (laneKey l)).getD 0xFF) (s.lane (laneKey l)).rate)) ∧
    ((s.lane (laneKey l)).state = 4 → (s.lane (laneKey l)).step = 8 → s.elapsed (s.lane (laneKey l)).stepAt 2000000 = true →
      exec (.laneBringupLimit l) s = .next (stepFailed s (laneKey l) (s.lane (laneKey l)).rate
        (prevRate (laneKey l) (s.lane (laneKey l)).rate)))) ∧
  (∀ (l : LaneId) (s : State), (s.lane (laneKey l)).state = 6 → s.elapsed (s.lane (laneKey l)).failedAt 1000000000 = true →
    exec (.laneRetryTimer l) s = .next (beginLane s (laneKey l))) ∧
  (∀ (l : LaneId) (s : State), (s.lane (laneKey l)).state = 5 ∨ (s.lane (laneKey l)).state = 8 →
    ∃ t, exec (.lockLost l) s = .next t ∧ (t.lane (laneKey l)).step ≠ 0 ∧
      (laneMode s (laneKey l) = 2 → (t.lane (laneKey l)).state = 1) ∧
      (laneMode s (laneKey l) ≠ 2 → laneKey l < 48 → (t.lane (laneKey l)).state = 7) ∧
      (laneMode s (laneKey l) ≠ 2 → 48 ≤ laneKey l → (t.lane (laneKey l)).state = 2)) ∧
  (∀ (p : Fin 2) (s : State), s.num 0x6A50 (1 + p.val) = 0 → (s.lane (48 + p.val)).state = 2 → (s.lane (48 + p.val)).step = 4 →
    s.elapsed (s.lane (48 + p.val)).stepAt 100000000 = true →
    ∃ t, exec (.serviceLaneAutoTry p) s = .next t ∧ (t.lane (48 + p.val)).stepAt = s.now ∧
      (t.lane (48 + p.val)).rate = serviceRate (if AMap.get 3 s.lanes.tryMode p.val = 1 then 3 else AMap.get 3 s.lanes.tryMode p.val - 1)) ∧
  (∀ (n : Fin 48) (units : List RxUnit) (s u v : State), (s.lane n.val).state = 5 ∨ (s.lane n.val).state = 8 →
    u = (joinK (units.flatMap fun x => if x = .idle then (if bit (laneCfg s n.val) 23 then [] else idleUnits s n.val) else [x])).foldl
      (rxUnit n.val) s →
    v = (if (u.lane n.val).retryAt = 0 then pushData u n.val else u) →
    exec (.laneRxPush n units) s = .next (if (v.lane n.val).markRetryAt = 0 then pushMarks v n.val else v)) ∧
  (∀ (n : Fin 48) (s : State), (s.lane n.val).retryAt ≠ 0 → s.elapsed ((s.lane n.val).retryAt - 1) 1000 = true →
    (s.lane n.val).markRetryAt = 0 → exec (.lanePushRetry n) s = .next (pushData s n.val)) ∧
  (∀ (n : Fin 48) (s : State), (s.lane n.val).markRetryAt ≠ 0 → s.elapsed ((s.lane n.val).markRetryAt - 1) 1000 = true →
    (s.lane n.val).retryAt = 0 → exec (.lanePushRetry n) s = .next (pushMarks s n.val)) ∧
  (∀ (n : Fin 48) (s u : State) (w len : Nat) (bad : Bool) (ahead : List Byte), w = s.num (0x6A00 + n.val) 4 →
    laneSends s n.val = true → w < 16 → (windowStatus s w).2.1 = 0 →
    ahead = (windowIndexed s w 0 (min 1024 ((s.window w).fill / 8 * 8)) none .good).2.2 → wholeRecords 129 0 ahead = (len, bad) →
    (len = 0 ∧ u = s ∨ len ≠ 0 ∧ (windowPop s w len .good).2.1 = 0 ∧
      u = sendRecords n.val 129 (windowPop s w len .good).2.2 (windowPop s w len .good).1) →
    (bad = false → exec (.laneTxPop n) s = .next u) ∧
    (bad = true → exec (.laneTxPop n) s = .next (event (updLane u n.val fun l =>
      { l with state := if l.state = 5 then 8 else l.state, txStopped := true }) (laneSrc n.val) 0x8008 (bytesAt ahead len 8)))) ∧
  (∀ (l : LaneId) (setting : Fin 6) (up : Bool) (s : State), (s.lane (laneKey l)).state = 5 ∨ (s.lane (laneKey l)).state = 8 →
    s.elapsed (AMap.get 0 (s.lane (laneKey l)).adaptAt setting.val) 100000 = true →
    exec (.laneAdaptStep l setting up) s = .next (updLane s (laneKey l) fun x =>
      let v := AMap.get 0 (s.lane (laneKey l)).equaliser setting.val + (if up then 1 else -1)
      { x with adaptAt := AMap.set 0 x.adaptAt setting.val s.now,
               equaliser := AMap.set 0 x.equaliser setting.val (if setting.val = 0 then max 0 (min 15 v) else v) }))


/-! ### Completion, chapter 15: the sealed table -/

/-- Changes of the sealed table: the owner's provisioning, a parameter's change (store, table and audit record), a new sealed key, a
command to the controller, and the seal's level, which withdraws the sealed right where it closes. The periodic check: the working
table's images are compared, and rewritten from the record store where one differs; what was written over in the controller's areas
is undone; a port's sync rises at its period; a frame's words
are appended to the port's ring. -/
def Obligations.SealCommandsComplete : Prop :=
  (∀ (e : Env) (ownerHash wrap : List Byte), ownerHash.length = 48 →
    rowCompletes (.sealProvision e ownerHash wrap) e false (wholeWrite 0x7001 0 (ownerHash ++ wrap)) actProvision fun s1 t =>
      t.sealed.provisioned = true ∧ t.sealed.ownerHash = ownerHash ∧ t.sealed.store = s1.sealed.store ∧
      t.sealed.table = s1.sealed.table ∧ t.sealed.enabled = s1.sealed.enabled ∧ t.sealed.audit = s1.sealed.audit) ∧
  (∀ (e : Env) (param : Byte) (v c : U64),
    rowCompletes (.sealParamWrite e param v c) e false (wholeWrite 0x7024 0 ([param, 0, 0, 0] ++ u64 v.toNat ++ u64 c.toNat)) actSealParam
      fun s1 t => ∃ k, k = BitVec.ofNat 64 (paramKept param.toNat v.toNat) ∧
        t.sealed.store = AMap.set {} s1.sealed.store param.toNat ⟨k, ~~~k⟩ ∧
        t.sealed.table = AMap.set {} s1.sealed.table param.toNat ⟨k, ~~~k⟩ ∧ t.sealed.changed = true ∧
        t.sealed.counter = (if s1.sealed.changed then s1.sealed.counter else s1.sealed.counter + 1) ∧
        ∃ r, t.sealed.audit = s1.sealed.audit ++ [r] ∧ r.param = param.toNat ∧ r.new = k ∧
          r.old = (sealParam s1 param.toNat).val ∧ r.counter = t.sealed.counter) ∧
  (∀ (e : Env) (wrap : List Byte), rowCompletes (.sealKey e wrap) e false (wholeWrite 0x7008 0 wrap) actSealKey fun s1 t =>
    t.sealed.store = s1.sealed.store ∧ t.sealed.table = s1.sealed.table ∧ t.sealed.changed = true ∧
    ∃ who r, some t.sealed.key = unwrapBy s1 who wrap ∧ t.sealed.audit = s1.sealed.audit ++ [r] ∧ r.param = 0xFFFE) ∧
  (∀ (e : Env) (channel : Fin 16) (v : U32),
    rowCompletes (.sealCommand e channel v) e false (wholeWrite 0x7010 (0x31 + channel.val) (u32 v.toNat)) (actSealCommand channel.val)
      fun s1 t => ∃ w, w = controllerWrite 0xE00 (u64 (s1.sealed.commands + 1)) (controllerWrite (0xA00 + s1.sealed.commands % 64 * 16)
            (u64 s1.tai ++ u8 channel.val ++ u8 (natAt (u32 v.toNat) 3 1) ++ zeros 2 ++ u32 (natAt (u32 v.toNat) 0 3)) s1) ∧
        t.sealed = { w.sealed with commands := s1.sealed.commands + 1 } ∧ t.pan = w.pan) ∧
  (∀ (opened : Bool) (widthMs : Nat) (s : State), s.sealed.enabled = true → 10 ≤ widthMs → s.sealed.isOpen ≠ opened →
    ∃ t, exec (.sealN opened widthMs) s = .next t ∧
      t.sealed = { s.sealed with isOpen := opened, changed := false, image := t.sealed.image } ∧
      (opened = false → t.dict = ((List.range 16).foldl (fun s n =>
        if (s.session n).sealedRight then s.setSession n { s.session n with sealedRight := false } else s) s).dict)) ∧
  (∀ (opened : Bool) (widthMs : Nat) (s : State), s.sealed.enabled = false → 10 ≤ widthMs → s.sealed.isOpen ≠ opened →
    exec (.sealN opened widthMs) s = .next { s with sealed := { s.sealed with isOpen := opened, changed := false } }) ∧
  (∀ s : State, s.sealed.enabled = true → (∀ p < 256, imageOk (storeCheck s) p = true) →
    (overwritten (storeCheck s) = [] → exec .parameterImageCheck s = .next (faultOver (storeCheck s))) ∧
    (overwritten (storeCheck s) ≠ [] →
      exec .parameterImageCheck s = .next (event (faultOver (undoWrites (storeCheck s))) sealSrc 0xC008 (u8 0xFF)))) ∧
  (∀ (s : State) (p : Nat), s.sealed.enabled = true → p < 256 → imageOk (storeCheck s) p = false →
    (∀ q < p, imageOk (storeCheck s) q = true) →
    exec .parameterImageCheck s = .next (tableFault (undoWrites (storeCheck s)) p) ∧
    (tableFault (undoWrites (storeCheck s)) p).sealed.table = s.sealed.store ∧
    (tableFault (undoWrites (storeCheck s)) p).sealed.store = s.sealed.store) ∧
  (∀ (p : Fin 8) (s : State), portOn s p.val = true →
    (samplePort s p.val).syncAt < s.tai / (field (portParam s p.val) 15 0 * 1000) * (field (portParam s p.val) 15 0 * 1000) →
    ∃ t, exec (.sampleSync p) s = .next t ∧
      (samplePort t p.val).due = some (s.tai / (field (portParam s p.val) 15 0 * 1000) * (field (portParam s p.val) 15 0 * 1000)) ∧
      t.outs = s.outs ++
        [.sampleSync p.val (s.tai / (field (portParam s p.val) 15 0 * 1000) * (field (portParam s p.val) 15 0 * 1000))]) ∧
  (∀ (p : Fin 8) (bits : List Bool) (s : State) (at_ : Nat), (samplePort s p.val).due = some at_ → portOn s p.val = true →
    bits.length = field (portParam s p.val) 47 40 →
    at_ + field (portParam s p.val) 31 16 * 100 + bits.length * (field (portParam s p.val) 55 48 + 1) * 5 ≤ s.tai →
    (bits.all (· = true) = false → bits.all (· = false) = false → exec (.sampleFrame p bits) s =
      .next ((List.range (field (portParam s p.val) 39 38 + 1)).foldl (fun s' w => appendSample s' p.val at_ w 0 (msbWord
        ((bits.drop (w * field (portParam s p.val) 37 32)).take (field (portParam s p.val) 37 32))))
        (updPort s p.val fun x => { x with due := none }))) ∧
    (bits.all (· = true) = true ∨ bits.all (· = false) = true → ∃ t, exec (.sampleFrame p bits) s = .next t ∧
      t.sealed = ((List.range (field (portParam s p.val) 39 38 + 1)).foldl (fun s' w => appendSample s' p.val at_ w 1 (msbWord
        ((bits.drop (w * field (portParam s p.val) 37 32)).take (field (portParam s p.val) 37 32))))
        (updPort s p.val fun x => { x with due := none, faults := satInc x.faults 0xFFFF })).sealed))


/-! ### Completion, chapter 16: modes, supplies and temperature -/

/-- MODE_CMD in the modes that accept it: Run, Hold, Stable, Service, the orderly stop, the resume and the restart. The pin or the timer wakes
from Stable; the orderly stop's grace and drains pass, the caches are flushed, the teams fall back, Safe Stop is entered; a resume that is
automatic begins Start-up with cause 2. -/
def Obligations.ModeCommandsComplete : Prop :=
  (∀ e : Env, rowCompletes (.modeRun e) e false (wholeWrite 0x6001 0 [1]) actMode fun s1 t =>
    t.mode = .run ∧ (s1.mode = .hold ∨ s1.mode = .stable)) ∧
  (∀ e : Env, rowCompletes (.modeHold e) e false (wholeWrite 0x6001 0 [2]) actMode fun s1 t => t.mode = .hold ∧ s1.mode = .run) ∧
  (∀ e : Env, rowCompletes (.modeStable e) e false (wholeWrite 0x6001 0 [3]) actMode fun s1 t =>
    t.mode = .stable ∧ (s1.mode = .run ∨ s1.mode = .hold)) ∧
  (∀ e : Env, rowCompletes (.modeService e) e false (wholeWrite 0x6001 0 [4]) actMode fun s1 t =>
    t.mode = .service ∧ (s1.mode = .run ∨ s1.mode = .hold)) ∧
  (∀ e : Env, rowCompletes (.orderlyStop e) e false (wholeWrite 0x6001 0 [5]) actMode fun s1 t =>
    t.mode = s1.mode ∧ ∃ x, t.power.stop = some x ∧ x.host = true ∧ x.at_ = s1.now ∧ x.step = (if s1.mode = .stable then 1 else 0)) ∧
  (∀ e : Env, rowCompletes (.resume e) e false (wholeWrite 0x6001 0 [6]) actMode fun s1 t =>
    t.mode = .startUp ∧ t.boot.phase = 4 ∧ t.boot.cause = 2 ∧ s1.mode = .safeStop) ∧
  (∀ e : Env, rowCompletes (.restart e) e false (wholeWrite 0x6001 0 [7]) actMode fun s1 t =>
    t.mode = .startUp ∧ t.boot.phase = 4 ∧ t.boot.cause = 1 ∧ s1.mode = .service) ∧
  (∀ (widthNs : Nat) (s : State), s.mode = .stable → 1000 ≤ widthNs → s.num 0x6002 3 = 1 →
    exec (.wakeN widthNs) s = .next (wake s 1)) ∧
  (∀ s : State, s.mode = .stable → s.num 0x6002 2 ≠ 0 → s.num 0x6002 2 ≤ s.tai → exec .wakeTime s = .next (wake s 2)) ∧
  (∀ s : State, stopAt s 0 (graceNs s) = true →
    exec .orderlyStopDrainStep s = .next (nextStop ((List.range 8).foldl drainBank s) 1)) ∧
  (∀ s : State, stopAt s 1 (graceNs s + (s.power.stop.map (·.drain)).getD 0) = true →
    exec .orderlyStopFlush s = .next (nextStop (flushChronicle (drainsEnded s)) 2)) ∧
  (∀ s : State, stopAt s 2 0 = true → s.mode ≠ .stable →
    exec .orderlyStopFallbacks s = .next (nextStop (triggerFallbacks s (List.range 16) 3) 3)) ∧
  (∀ s : State, stopAt s 2 0 = true → s.mode = .stable → exec .orderlyStopFallbacks s = .next (nextStop s 3)) ∧
  (∀ s : State, stopAt s 3 0 = true → (∀ n < 16, (s.team n).fallback = none) →
    ∃ t, exec .safeStopEntry s = .next t ∧
      t = noteResume (enterSafeStop s (if s.power.stop.any (·.host) then 3 else 2)) ∧ t.mode = .safeStop ∧ t.power.stop = none ∧
      t.power.lastCause = (if s.power.stop.any (·.host) then 3 else 2)) ∧
  (∀ (s u : State) (at_ : Nat), u = usePair s 0x6002 1 → u.num 0x6002 1 = 1 → resumable u = true → u.power.lastCause ≠ 3 →
    u.power.resumeOkAt = some at_ → u.elapsed at_ 1000000000 = true →
    (u.power.resumes.filter fun x => !u.elapsed x 3600000000000).length < 3 →
    ∃ t, exec .autoResume s = .next t ∧ t.mode = .startUp ∧ t.boot.phase = 4 ∧ t.boot.cause = 2)

/-- Sensors and gait: the readings are taken and the thresholds evaluated; a sensor that lies apart for 50 ms is excluded and one that agrees
for 1 s readmitted; the reads-low flag is set and cleared; a tower's gait steps one slower or one faster; the floor is written. -/
def Obligations.SensorCommandsComplete : Prop :=
  (∀ (raw : List (Fin 288 × Int)) (powerMw : List (Nat × Nat)) (s : State),
    exec (.sensorRead raw powerMw) s = .next (noteResume (driftedGroups (predict (checkShutdown (checkThrottles (checkWarnings
      ((List.range 288).foldl effectiveSensor ((List.range 288).foldl readSensor
        (raw.foldl (fun s p => updSensor s p.1.val fun x => { x with raw := p.2 }) (takePower (checkThresholds s) powerMw))))))))))) ∧
  (∀ (n : Fin 288) (s : State) (at_ : Nat), (s.sensor n.val).farAt = some at_ → (s.sensor n.val).excluded = false →
    sensorOff s n.val = false → 3 ≤ (usableReadings s n.val).length → s.elapsed at_ 50000000 = true →
    ∃ t, exec (.sensorExcluded n) s = .next t ∧ (t.sensor n.val).excluded = true ∧
      (t.sensor n.val).reading = medianInt (usableReadings s n.val)) ∧
  (∀ (n : Fin 288) (s : State) (at_ : Nat), (s.sensor n.val).nearAt = some at_ → (s.sensor n.val).excluded = true →
    sensorOff s n.val = false → offsetDegraded s n.val = false → s.elapsed at_ 1000000000 = true →
    ∃ t, exec (.sensorReadmitted n) s = .next t ∧ t.power.sensors = AMap.upd {} s.power.sensors n.val fun x =>
      { x with excluded := false, nearAt := none, reading := ownReading s n.val }) ∧
  (∀ (n : Fin 288) (s : State) (x : Int), estimateOf s n.val = some x →
    ((s.sensor n.val).readsLow = false → (s.sensor n.val).lowAt.any (fun at_ => s.elapsed at_ 100000000) = true →
      ∃ t, exec (.readsLowFlag n) s = .next t ∧ (t.sensor n.val).readsLow = true) ∧
    ((s.sensor n.val).readsLow = true → (s.sensor n.val).okAt.any (fun at_ => s.elapsed at_ 1000000000) = true →
      exec (.readsLowFlag n) s = .next (updSensor s n.val fun x => { x with readsLow := false }))) ∧
  (∀ (tower : Fin 4) (s : State), s.atBoundary = true → (AMap.get {} s.power.gaits tower.val).crossed = true →
    (AMap.get {} s.power.gaits tower.val).stepAt = 0 →
    exec (.gaitStepSlower tower) s = .next (updateGaits { s with power.gaits := AMap.upd {} s.power.gaits tower.val fun g =>
      { g with thermal := min 3 (g.thermal + 1), stepAt := s.now + 1 } })) ∧
  (∀ (tower : Fin 4) (s : State), s.atBoundary = true → (AMap.get {} s.power.gaits tower.val).crossed = false →
    (AMap.get {} s.power.gaits tower.val).clearAt ≠ 0 → (AMap.get {} s.power.gaits tower.val).thermal ≠ 0 →
    s.elapsed ((AMap.get {} s.power.gaits tower.val).clearAt - 1) 100000000 = true →
    exec (.gaitStepFaster tower) s = .next (updateGaits { s with power.gaits := AMap.upd {} s.power.gaits tower.val fun g =>
      { g with thermal := g.thermal - 1, clearAt := s.now + 1 } })) ∧
  (∀ (e : Env) (v : Byte), rowCompletes (.gaitFloorWrite e v) e false (wholeWrite 0x6B30 2 [v]) actGait fun s1 t =>
    (s1.atBoundary = false → t.power = { s1.power with gaitWait := true }) ∧ (s1.atBoundary = true → t.power.gaitWait = false))

/-- The supplies and the pins that stop the device: each measured within its absolute maximum is recorded; one out of its range for its
time acts, VIN_CORE and VDRAM and VPP and SAFE_N by Safe Stop, VAUX as PORST_N, VLANE on every lane, VCCIO on its bank; the root
PLL's lock loss enters Safe Stop. -/
def Obligations.SupplyCommandsComplete : Prop :=
  (∀ (widthNs : Nat) (s u : State), 1000 ≤ widthNs → s.available = true →
    u = usePair { s with power := { s.power with safeLowOutside := true } } 0x6002 4 →
    (s.mode ≠ .safeStop → u.num 0x6002 4 = 1 → ∃ t, exec (.safeN true widthNs) s = .next t ∧ t.mode = .safeStop ∧ t.power.lastCause = 4) ∧
    (s.mode = .safeStop ∨ u.num 0x6002 4 ≠ 1 → exec (.safeN true widthNs) s = .next (noteResume u))) ∧
  (∀ (widthNs : Nat) (s : State), ∃ t, exec (.safeN false widthNs) s = .next t ∧ t.power.safeLowOutside = false ∧ t.mode = s.mode) ∧
  (∀ (mv : Int) (widthNs : Nat) (s : State), -300 ≤ mv → mv ≤ 2100 → (1700 ≤ mv ∧ mv ≤ 1900) ∨ widthNs < 10000 ∨ s.boot.phase = 0 →
    exec (.vinCoreOutOfRange mv widthNs) s = .next (noteResume (measured s 0 mv (decide (1746 ≤ mv ∧ mv ≤ 1854))))) ∧
  (∀ (mv : Int) (widthNs : Nat) (s : State), -300 ≤ mv → mv ≤ 2100 → mv < 1700 ∨ 1900 < mv → 10000 ≤ widthNs → s.boot.phase ≠ 0 →
    ∃ t, exec (.vinCoreOutOfRange mv widthNs) s = .next t ∧ t.mode = .safeStop ∧ (s.mode ≠ .safeStop → t.power.lastCause = 5)) ∧
  (∀ (mv : Int) (widthNs : Nat) (s : State), -300 ≤ mv → mv ≤ 2100 → 1620 ≤ mv ∨ widthNs < 1000 →
    exec (.vauxLow mv widthNs) s = .next { s with board := { s.board with mv := AMap.set 0 s.board.mv 13 mv.toNat } }) ∧
  (∀ (mv : Int) (widthNs : Nat) (s : State), -300 ≤ mv → mv < 1620 → 1000 ≤ widthNs →
    ∃ t, exec (.vauxLow mv widthNs) s = .next t ∧ t.mode = .startUp ∧ t.boot.phase = 0 ∧ t.boot.suppliesReached = false ∧
      t.obj = [] ∧ t.fuses = s.fuses) ∧
  (∀ (mv : Int) (widthNs : Nat) (s : State), -300 ≤ mv →
    (mv ≤ 1400 → mv < 1067 ∨ 1133 < mv → 10000 ≤ widthNs → s.boot.phase ≠ 0 →
      ∃ t, exec (.vdramVppOutOfRange false mv widthNs) s = .next t ∧ t.mode = .safeStop ∧ t.board.dramLost = true) ∧
    (mv ≤ 2100 → mv < 1710 ∨ 1890 < mv → 10000 ≤ widthNs → s.boot.phase ≠ 0 →
      ∃ t, exec (.vdramVppOutOfRange true mv widthNs) s = .next t ∧ t.mode = .safeStop ∧ t.board.dramLost = true) ∧
    (1067 ≤ mv → mv ≤ 1133 → exec (.vdramVppOutOfRange false mv widthNs) s = .next (noteResume (measured s 1 mv true)))) ∧
  (∀ (mv : Int) (widthNs : Nat) (s : State), -300 ≤ mv →
    (mv ≤ 1500 → mv < 1164 ∨ 1236 < mv → 10000 ≤ widthNs → s.boot.phase ≠ 0 → exec (.vlaneOutOfRange true mv widthNs) s =
      .next ((List.range 52).foldl loseLock (excursion (measured s 12 mv false) 12 mv))) ∧
    (mv ≤ 1100 → mv < 873 ∨ 927 < mv → 10000 ≤ widthNs → s.boot.phase ≠ 0 → exec (.vlaneOutOfRange false mv widthNs) s =
      .next ((List.range 52).foldl loseLock (excursion (measured s 11 mv false) 11 mv)))) ∧
  (∀ (b : Fin 8) (mv : Int) (widthNs : Nat) (s : State), -300 ≤ mv → mv ≤ (if b.val < 6 then 2100 else 3800) →
    ∃ t, exec (.vccioOutOfRange b mv widthNs) s = .next t ∧
      (widthNs < 10000 → t = updBank s b.val fun x => { x with vccioMv := mv.toNat }) ∧
      (mv < 0 → 10000 ≤ widthNs → 2 ≤ s.boot.phase → (s.bank b.val).std ≠ none →
        t.banks = (bankLost (updBank s b.val fun x => { x with vccioMv := mv.toNat }) b.val).banks)) ∧
  (∀ s : State, 1 ≤ s.boot.phase → s.mode ≠ .safeStop → ∃ t, exec .rootPllLockLoss s = .next t ∧ t.mode = .safeStop ∧
    t.power.lastCause = 6 ∧ t.clk.rootLocked = false)


/-! ### Completion, chapter 17: the farrier, the tests and JTAG -/

/-- Repair, calibration and tests: a stake group's errors are counted and at the third its vias are replaced; a row shift begins and ends;
items are calibrated; a test begins and completes with its result; JTAG's opening is written and its lock blown. JTAG's instructions, each
where it may act: the cells are driven, the identification code is shifted out, cells are sampled and preloaded, a lane sends a pulse or
a train, a debug request is issued, a die is selected, and BYPASS shifts through one bit. -/
def Obligations.TestCommandsComplete : Prop :=
  (∀ (g : StakeGroup) (vias : List (Fin 81)) (s : State) (at_ : AMap Nat), monitored s g = true → groupFailed s (groupKey g) = false →
    at_ = AMap.set 0 s.test.monAt (match g with
      | .cluster x _ => towerOf x.val
      | .tower x _ _ => x.val) (s.now + 1) →
    (((AMap.get [] s.test.monErr (groupKey g)).filter fun x => !s.elapsed x 1000000).length < 2 →
      exec (.stakeMonitorError g vias) s = .next { s with test := { s.test with
        monAt := at_,
        monErr := AMap.set [] s.test.monErr (groupKey g)
          (((AMap.get [] s.test.monErr (groupKey g)).filter fun x => !s.elapsed x 1000000) ++ [s.now]) } }) ∧
    (2 ≤ ((AMap.get [] s.test.monErr (groupKey g)).filter fun x => !s.elapsed x 1000000).length →
      exec (.stakeMonitorError g vias) s = .next (vias.foldl (replaceVia g) { s with test := { s.test with
        monAt := at_,
        monErr := AMap.set [] s.test.monErr (groupKey g) [] } }))) ∧
  (∀ (e : Env) (v : BitVec 16), rowCompletes (.shift e v) e false (wholeWrite 0x6302 1 (u16 v.toNat)) actShift fun s1 t =>
    t.test = { s1.test with shiftBusy := some (field v.toNat 13 8, field v.toNat 2 0, s1.now) }) ∧
  (∀ (s : State) (g row at_ : Nat), s.test.shiftBusy = some (g, row, at_) → s.elapsed at_ ((8 - row) * 25000) = true →
    ∃ t, exec .rowShiftDone s = .next t ∧ t = applyShift (moveRows { s with
        test := { s.test with shiftBusy := none },
        cap := { s.cap with buffers := s.cap.buffers.filter fun kv => decide (kv.1 / 524288 ≠ g) } } g row) g row 2 ∧
      t.test.shiftBusy = none ∧
      t.test.shifted = AMap.set 0 s.test.shifted g (0x80 + row) ∧
      t.fuses = { s.fuses with rowShift := AMap.set 0 s.fuses.rowShift g (0x80 + row) } ∧
      t.cap.buffers = s.cap.buffers.filter fun kv => decide (kv.1 / 524288 ≠ g)) ∧
  (∀ (r : CalRun) (s : State), s.runOrHold = true → itemMoved s r = true → r.kind.val ≤ 3 →
    exec (.temperatureCalibration r) s = .next (recalibrate s [r] 1)) ∧
  (∀ (e : Env) (runs : List CalRun),
    rowCompletes (.calibrateNow e runs) e false (wholeWrite 0x6B40 2 [1]) (actCalibrate runs) fun s1 t =>
      t.test = (recalibrate s1 runs 2).test ∧ t.dram = (recalibrate s1 runs 2).dram) ∧
  (∀ e : Env, rowCompletes (.testRunStart e) e false (wholeWrite 0x6C01 3 [1]) actTestRun fun s1 t =>
    t.test = { s1.test with
      testState := 1, testKind := s1.num 0x6C01 1, testTarget := s1.num 0x6C01 2, testAt := s1.now, testResult := [] }) ∧
  (∀ (fails found : List FailUnit) (bad : List Nat) (s : State), s.test.testState = 1 →
    s.elapsed s.test.testAt (testNs s.test.testKind) = true →
    found = fails.filter (fun f => failsTest s s.test.testKind s.test.testTarget f || takesSpares s.test.testKind s.test.testTarget f) →
    bad = (found.filter fun f => failsTest s s.test.testKind s.test.testTarget f || siteBeyond s found f).foldl
      (fun l f => insertNew l (resultEntry f)) [] →
    ∃ t, exec (.testComplete fails) s = .next t ∧ t.test.testState = (if bad = [] then 2 else 3) ∧
      t.test.testResult = padTo (u8 bad.length ++ (bad.take 31).flatMap u16) 64) ∧
  (∀ (e : Env) (v c : Byte), rowCompletes (.jtagOpenWrite e v c) e true (pairWrite 0x6C20 1 [v] [c]) actJtagOpen fun _ t =>
    t.num 0x6C20 1 = v.toNat ∧ t.fuses.debugLock = false) ∧
  (∀ (e : Env) (v : Byte), rowCompletes (.lockCmd e v) e false (wholeWrite 0x6C20 3 [v]) actLock fun s1 t =>
    t.fuses = { s1.fuses with debugLock := true }) ∧
  (∀ (cells : List (Nat × Bool)) (s u : State), u = useJtag s → extestActs u = true → exec (.extest cells) s = .next { u with
    test := { u.test with instruction := 0x00, cells := setCells u u.test.preload cells } }) ∧
  (∀ (cells : List (Nat × Bool)) (s u : State), u = useJtag s → extestActs u = false →
    exec (.extest cells) s = .next (jtagRefused u)) ∧
  (∀ s : State, exec .idcode s = .next ({ s with test := { s.test with instruction := 0x01 } }.emit
    (.jtag ((List.range 32).map (bit idcode))))) ∧
  (∀ (preload : List (Nat × Bool)) (s u : State), u = useJtag s → jtagOpen u = true →
    ∃ t bits, exec (.samplePreload preload) s = .next t ∧
    t.test.preload = setCells u u.test.preload (preload.filter fun c => cellReached u c.1) ∧ t.test.cells = u.test.cells ∧
    t.outs = u.outs ++ [.jtag bits] ∧ bits.length = (preload.filter fun c => cellReached u c.1).length) ∧
  (∀ (l : LaneId) (s u : State), u = useJtag s → extestActs u = true → exec (.extestPulse l) s =
    .next ({ u with test := { u.test with instruction := 0x03 } }.emit (.lane (laneKey l) 0x100 []))) ∧
  (∀ (l : LaneId) (s u : State), u = useJtag s → extestActs u = true → exec (.extestTrain l) s =
    .next ({ u with test := { u.test with instruction := 0x04 } }.emit (.lane (laneKey l) 0x101 []))) ∧
  (∀ (write : Bool) (addr : BitVec 48) (len : Nat) (data : List Byte) (s u : State), u = useJtag s → jtagOpen u = true →
    0 < len → len ≤ 1024 →
    hasCredit u { kind := if write then 2 else 1, initiator := 0x70, src := 0, dst := 0, tag := 0, address := addr.toNat, length := len, use := .debug } = true →
    exec (.debug write addr len data) s = .next (request { u with test := { u.test with instruction := 0x20 } }
      (if write then 2 else 1) 0x70 addr.toNat len 1 (if write then padTo data len else []) .debug false)) ∧
  (∀ (die : Fin 25) (s u : State), u = useJtag s →
    (jtagOpen u = true → u.mode = .service → (∀ n, dieTower die.val = some n → towerGroupFailed u n 11 = false) →
      exec (.dieSelect die) s = .next { u with test := { u.test with instruction := 0x30, dieSelected := some die.val } }) ∧
    (∀ n, jtagOpen u = true → u.mode = .service → dieTower die.val = some n → towerGroupFailed u n 11 = true →
      exec (.dieSelect die) s = .next (event { u with test := { u.test with instruction := 0xFF } } testSrc 0xA00E (u8 2))) ∧
    (jtagOpen u = false ∨ u.mode ≠ .service → exec (.dieSelect die) s = .next (jtagRefused u))) ∧
  (∀ (tdi : List Bool) (s : State), exec (.bypass tdi) s = .next ({ s with test := { s.test with
    instruction := 0xFF, bypassBit := (s.test.bypassBit :: tdi).getLastD false } }.emit
      (.jtag (s.test.bypassBit :: tdi).dropLast)))


/-! ### Completion, chapter 18: observation -/

/-- Counters, the tally, the sample buffer and the monitors: a counter is set up and cleared; a milestone due is sent; the tally is latched and
read; the buffer is emptied; a monitor starts, stops, is cleared and takes a sample. -/
def Obligations.ObserveCommandsComplete : Prop :=
  (∀ (e : Env) (v : U64), rowCompletes (.counterConfigWrite e v) e false (wholeWrite 0x6D10 3 (u64 v.toNat)) actCounterConfig fun s1 t =>
    ∀ r, rowOf 0x6D10 3 = some r → t.obs = { s1.obs with counters := AMap.upd {} s1.obs.counters (selCounter s1) fun c =>
      { config := BitVec.ofNat 64 (leNat (keepFields r (s1.bytesOf 0x6D10 3) (u64 v.toNat))), due := c.due } }) ∧
  (∀ e : Env, rowCompletes (.counterClearSelected e) e false (wholeWrite 0x6D10 5 [1]) actCounterClear fun s1 t =>
    t.obs = (clearCounter s1 (selCounter s1)).obs) ∧
  (∀ e : Env, rowCompletes (.counterClearAll e) e false (wholeWrite 0x6D10 5 [2]) actCounterClear fun s1 t =>
    ∃ ks : List Nat, t.obs = (ks.foldl clearCounter s1).obs ∧ (∀ k ∈ ks, k ∈ s1.obs.counters.map (·.1)) ∧
      (∀ k ∈ s1.obs.counters.map (·.1), blockRight s1 .anonymous (k / 16) = true → k ∈ ks)) ∧
  (∀ (block : BitVec 16) (counter : Fin 16) (s : State) (at_ w : Nat) (rest : List (Nat × Nat)),
    (AMap.get {} s.obs.counters (ctrKey block.toNat counter.val)).due = (at_, w) :: rest →
    exec (.counterMilestone block counter) s = .next (traceEvent { s with obs := { s.obs with
      counters := AMap.upd {} s.obs.counters (ctrKey block.toNat counter.val) fun c => { c with due := rest } } }
      at_ block.toNat 0xB011 (u8 counter.val ++ leBytes w 6))) ∧
  (∀ s : State, s.obs.tallyNext ≠ 0 → s.obs.tallyNext ≤ s.tai → s.mode ≠ .startUp →
    exec .tallySnapshot s = .next (snapshotAt { s with obs := { s.obs with
      tallyNext := if s.num 0x6D22 2 = 0 then 0 else s.obs.tallyNext + s.num 0x6D22 2 * 1000 } } s.obs.tallyNext)) ∧
  (∀ e : Env, rowCompletes (.snapshotNow e) e false (wholeWrite 0x6D22 4 [1]) actSnapshot fun s1 t =>
    t.obs = (snapshotAt s1 s1.tai).obs) ∧
  (∀ (s : State) (at_ : Nat) (vs : List U64), s.obs.latched = some (at_, vs) →
    ∃ t, exec .snapshotReadDone s = .next t ∧ t.obs.latched = none ∧ t.obs.tallyLast = at_ ∧
      t.obs.snapshots = satInc s.obs.snapshots maxU32 ∧
      t.obs.tally = (vs.zipIdx 1).foldl (fun m v => AMap.set 0 m v.2 v.1) []) ∧
  (∀ e : Env, rowCompletes (.sampleBufferClear e) e false (wholeWrite 0x6D30 6 [1]) actSampleClear fun s1 t =>
    t.obs = { s1.obs with samples := [] }) ∧
  (∀ (e : Env) (n : Fin 16),
    rowCompletes (.monitorStart e n) e false (wholeWrite (0x6D40 + n.val) 5 [1]) (actMonitor n.val) fun s1 t =>
      t.obs = (updMon s1 n.val fun m => { m with running := true, sampledAt := s1.now }).obs) ∧
  (∀ (e : Env) (n : Fin 16),
    rowCompletes (.monitorStop e n) e false (wholeWrite (0x6D40 + n.val) 5 [2]) (actMonitor n.val) fun s1 t =>
      t.obs = (updMon s1 n.val fun m => { m with running := false }).obs) ∧
  (∀ (e : Env) (n : Fin 16),
    rowCompletes (.monitorClear e n) e false (wholeWrite (0x6D40 + n.val) 5 [3]) (actMonitor n.val) fun s1 t =>
      t.obs = (updMon s1 n.val fun m => { running := m.running, sampledAt := m.sampledAt }).obs) ∧
  (∀ (n : Fin 16) (level : Nat) (s : State), (s.mon n.val).running = true →
    (s.mon n.val).sampledAt + s.num (0x6D40 + n.val) 3 * countingRoots (s.num (0x6D40 + n.val) 1) ≤ s.now →
    exec (.monitorSample n level) s = .next (monitorTake s n.val (if s.num (0x6D40 + n.val) 1 / 4096 = 2 then level
      else levelNow s (s.num (0x6D40 + n.val) 1) (s.num (0x6D40 + n.val) 2))))

/-- The chronicle: a held record is carried to the writer while it has a place; the writer's next packet is written and answered; the runs
whose window has ended are closed, each once the writer has a place for its summary; losses are reported in a gap record; alarms are acknowledged; the ring is enabled. -/
def Obligations.ChronicleCommandsComplete : Prop :=
  (∀ (s : State) (i : Nat) (r : Rec), nextRecord s = some i → s.obs.chron.srcQ[i]? = some r → mustWait s r = false →
    exec .chronicleRecord s = .next (carry s i)) ∧
  (∀ (status : Fin 8) (s : State), ringWritable s = true → s.obs.chron.alarms ≠ [] →
    exec (.ringPacketWrite status) s = .next (writePacket
      { s with obs := { s.obs with chron := { s.obs.chron with alarms := s.obs.chron.alarms.drop (8 - s.obs.chron.written % 8) } } }
      (s.obs.chron.alarms.take (8 - s.obs.chron.written % 8)) status.val)) ∧
  (∀ (status : Fin 8) (s : State), ringWritable s = true → s.obs.chron.alarms = [] →
    8 - s.obs.chron.written % 8 ≤ s.obs.chron.general.length →
    exec (.ringPacketWrite status) s = .next (writePacket (generalLess s (8 - s.obs.chron.written % 8))
      ((s.obs.chron.general.take (8 - s.obs.chron.written % 8)).map (·.2)) status.val)) ∧
  (∀ s : State, exec .coalesceWindowEnd s = .next ((s.obs.chron.runs.filter fun x => s.elapsed x.at_ (coalesceNs s)).foldl
    (fun s x => if x.count ≠ 0 ∧ writerFull s x.last 1 = true then s
      else summarise { s with obs := { s.obs with chron := { s.obs.chron with runs := s.obs.chron.runs.erase x } } } x) s)) ∧
  (∀ (source : BitVec 16) (s : State) (l : Loss), source.toNat ≠ writerSrc → AMap.get none s.obs.chron.loss source.toNat = some l →
    heldAt s source.toNat < 6 → s.elapsed l.lastAt 1000 = true ∨ s.elapsed l.firstAt 10000 = true →
    exec (.gapRecord source) s = .next (recordAt { s with obs := { s.obs with chron := { s.obs.chron with
      loss := AMap.set none s.obs.chron.loss source.toNat none } } } l.last source.toNat 0xB001 1 4 (lossPayload l))) ∧
  (∀ e : Env, rowCompletes (.ackAlarm e) e false (wholeWrite 0x6D62 0 [1]) actAck fun s1 t => ∃ who, t.obs =
    (event { s1 with board := { s1.board with alarm := false }, obs := { s1.obs with errorReg := s1.obs.errorReg &&& 0xBE } }
      writerSrc 0xB016 (u8 (reqSession who))).obs ∧ t.board.alarm = false) ∧
  (∀ (e : Env) (v : Byte), rowCompletes (.chronicleEnable e v) e false (wholeWrite 0x6D60 1 [v]) actChronEnable fun s1 t =>
    t.num 0x6D60 1 = v.toNat ∧ (s1.num 0x6D60 1 = 0 → v = 1 → t.obs.chron.wraps = 0 ∧ t.obs.chron.written = 0))


/-! ### Frames: what each command leaves as it was -/

/-- Frames of the dictionary, fabric and context commands: each changes only the parts of State
listed for it and, where its clause says so, no entry of a table but its own. -/
def Obligations.FramesOfControlAndFabric : Prop :=
  (∀ e level options nonce (s t : State), exec (.openSession e level options nonce) s = .next t →
    changesOnly [.outs, .freeCtr, .obj, .dict, .ecc, .board, .obs] s t ∧ objectsSame s t) ∧
  (∀ e hmac sealedHmac (s t : State), exec (.response e hmac sealedHmac) s = .next t →
    changesOnly [.outs, .obj, .dict, .ecc, .board, .obs] s t ∧ objectsSame s t) ∧
  (∀ level (s t : State), exec (.levelLockExpiry level) s = .next t → changesOnly [.dict] s t) ∧
  (∀ n (s t : State), exec (.openingTimeout n) s = .next t → changesOnly [.dict] s t ∧ (∀ k, k ≠ n.val → t.session k = s.session k)) ∧
  (∀ e (s t : State), exec (.close e) s = .next t → changesOnly [.outs, .obj, .dict, .ecc, .board, .obs] s t ∧ objectsSame s t) ∧
  (∀ n (s t : State), exec (.idleTimeout n) s = .next t →
    changesOnly [.outs, .dict, .board, .obs] s t ∧ (∀ k, k ≠ n.val → t.session k = s.session k)) ∧
  (∀ e r (s t : State), exec (.read e r) s = .next t →
    changesOnly [.outs, .obj, .dict, .grants, .teams, .pan, .ecc, .crypt, .banks, .pins, .sealed, .board, .obs] s t ∧ objectsSame s t) ∧
  (∀ n transfer (s t : State), exec (.segmentTimeout n transfer) s = .next t →
    changesOnly [.outs, .dict] s t ∧ (∀ k, k ≠ n.val → t.session k = s.session k)) ∧
  (∀ e code (s t : State), exec (.abort e code) s = .next t →
    changesOnly [.outs, .obj, .dict, .ecc, .board, .obs] s t ∧ objectsSame s t) ∧
  (∀ e service payload (s t : State), exec (.unknownService e service payload) s = .next t →
    changesOnly [.outs, .obj, .dict, .ecc, .board, .obs] s t ∧ objectsSame s t) ∧
  (∀ e key wrap (s t : State), exec (.dictKeysWrite e key wrap) s = .next t →
    changesOnly [.outs, .obj, .dict, .ecc, .board, .obs] s t ∧ othersSame 0x1120 (key.val + 1) s t) ∧
  (∀ e v c (s t : State), exec (.dictLevelEnableWrite e v c) s = .next t →
    changesOnly [.outs, .obj, .dict, .ecc, .board, .obs] s t ∧ othersSame 0x1110 0 s t) ∧
  (∀ s t : State, exec .gateListTakesEffect s = .next t → changesOnly [.dict] s t) ∧
  (∀ e v (s t : State), exec (.canEnable e v) s = .next t →
    changesOnly [.outs, .obj, .dict, .ecc, .board, .obs] s t ∧ othersSame 0x1040 1 s t) ∧
  (∀ state tec recv (s t : State), exec (.canBusOff state tec recv) s = .next t → changesOnly [.dict, .board, .obs] s t) ∧
  (∀ port srcMac rtag cycle status image mac (s t : State), exec (.processData port srcMac rtag cycle status image mac) s = .next t →
    changesOnly [.dict, .board, .obs] s t) ∧
  (∀ taps (s t : State), exec (.txImageSample taps) s = .next t →
    changesOnly [.outs, .freeCtr, .obj, .dict, .grants, .teams, .pan, .ecc, .crypt, .banks, .pins, .sealed, .board, .obs] s t ∧
    objectsSame s t) ∧
  (∀ s t : State, exec .pdReceiveFault s = .next t →
    changesOnly [.obj, .dict, .stage, .grants, .teams, .ecc, .board, .obs] s t ∧ objectsSame s t) ∧
  (∀ tap (s t : State), exec (.tapForward tap) s = .next t → changesOnly [.outs, .dict, .noc, .board, .obs] s t) ∧
  (∀ tap late status data (s t : State), exec (.tapAnswer tap late status data) s = .next t →
    changesOnly [.outs, .dict, .board, .obs] s t) ∧
  (∀ tap (s t : State), exec (.tapTimeout tap) s = .next t → changesOnly [.outs, .dict, .board, .obs] s t) ∧
  (∀ u a b unordered flips (s t : State), exec (.blockmemPortAccess u a b unordered flips) s = .next t →
    changesOnly [.freeCtr, .fab, .edge, .ecc, .board, .obs] s t) ∧
  (∀ u x (s t : State), exec (.arithAccumulate u x) s = .next t → changesOnly [.fab, .edge] s t) ∧
  (∀ u x (s t : State), exec (.fqueueUpdate u x) s = .next t → changesOnly [.fab, .edge] s t) ∧
  (∀ e v (s t : State), exec (.fabMemReadCommand e v) s = .next t →
    changesOnly [.outs, .obj, .dict, .fab, .ecc, .board, .obs] s t ∧ othersSame 0x6340 2 s t) ∧
  (∀ busError (s t : State), exec (.fabMemReadDone busError) s = .next t → changesOnly [.fab] s t) ∧
  (∀ e n v (s t : State), exec (.fabFclkWrite e n v) s = .next t →
    changesOnly [.outs, .obj, .dict, .clk, .ecc, .board, .obs] s t ∧ othersSame 0x6310 (n.val + 1) s t) ∧
  (∀ n (s t : State), exec (.fclkDivisorChange n) s = .next t → changesOnly [.clk] s t) ∧
  (∀ line (s t : State), exec (.delayLineStep line) s = .next t → changesOnly [.test] s t) ∧
  (∀ sector cluster words (s t : State), exec (.baseportTransaction sector cluster words) s = .next t →
    changesOnly [.edge, .noc, .board, .obs] s t) ∧
  (∀ e team plane planeCheck time (s t : State), exec (.switchAtTime e team plane planeCheck time) s = .next t →
    changesOnly [.outs, .obj, .dict, .planes, .stage, .grants, .teams, .ecc, .board, .obs] s t ∧ othersSame 0x6220 1 s t) ∧
  (∀ e team plane planeCheck (s t : State), exec (.stagePlane e team plane planeCheck) s = .next t →
    changesOnly [.outs, .obj, .dict, .planes, .stage, .grants, .teams, .ecc, .board, .obs] s t ∧ othersSame 0x6220 1 s t) ∧
  (∀ e team plane planeCheck (s t : State), exec (.unstage e team plane planeCheck) s = .next t →
    changesOnly [.outs, .obj, .dict, .planes, .stage, .grants, .teams, .ecc, .board, .obs] s t ∧ othersSame 0x6220 1 s t) ∧
  (∀ e team plane planeCheck (s t : State), exec (.cancelPendingSwitch e team plane planeCheck) s = .next t →
    changesOnly [.outs, .obj, .dict, .planes, .stage, .grants, .teams, .ecc, .board, .obs] s t ∧ othersSame 0x6220 1 s t) ∧
  (∀ e team plane planeCheck (s t : State), exec (.fallBackNow e team plane planeCheck) s = .next t →
    changesOnly [.outs, .obj, .dict, .planes, .stage, .grants, .teams, .ecc, .board, .obs] s t ∧ othersSame 0x6220 1 s t) ∧
  (∀ e team plane planeCheck (s t : State), exec (.releaseHold e team plane planeCheck) s = .next t →
    changesOnly [.outs, .obj, .dict, .planes, .stage, .grants, .teams, .ecc, .board, .obs] s t ∧ othersSame 0x6220 1 s t) ∧
  (∀ tower (s t : State), exec (.stagingStart tower) s = .next t →
    changesOnly [.stage] s t ∧ (∀ k, k ≠ tower.val → t.engine k = s.engine k)) ∧
  (∀ tower (s t : State), exec (.stagingComplete tower) s = .next t →
    changesOnly [.fab, .planes, .stage, .grants, .teams, .board, .obs] s t) ∧
  (∀ sector plane (s t : State), exec (.reinRequest sector plane) s = .next t →
    changesOnly [.stage, .grants, .teams, .ecc, .board, .obs] s t) ∧
  (∀ team (s t : State), exec (.switchEdge team) s = .next t →
    changesOnly [.outs, .freeCtr, .dict, .fab, .edge, .planes, .stage, .grants, .teams, .ecc, .board, .obs] s t) ∧
  (∀ team (s t : State), exec (.fenceTimeout team) s = .next t → changesOnly [.grants, .teams, .board, .obs] s t) ∧
  (∀ team cause (s t : State), exec (.fallbackTrigger team cause) s = .next t →
    changesOnly [.obj, .stage, .grants, .teams, .ecc, .board, .obs] s t ∧ objectsSame s t) ∧
  (∀ e team v c (s t : State), exec (.teamMembersWrite e team v c) s = .next t →
    changesOnly [.outs, .obj, .dict, .planes, .stage, .grants, .teams, .ecc, .board, .obs] s t ∧
    (∀ j, j / 256 ≠ 0x6210 + team.val → objectSame j s t)) ∧
  (∀ e team setting v c (s t : State), exec (.teamSettingWrite e team setting v c) s = .next t →
    changesOnly [.outs, .obj, .dict, .teams, .ecc, .board, .obs] s t ∧ othersSame (0x6210 + team.val) (setting.val + 2) s t ∧
    (∀ k, k ≠ team.val → t.team k = s.team k)) ∧
  (∀ e v (s t : State), exec (.planeClear e v) s = .next t →
    changesOnly [.outs, .obj, .dict, .planes, .ecc, .board, .obs] s t ∧ othersSame 0x6230 1 s t) ∧
  (∀ e (s t : State), exec (.captureArm e) s = .next t →
    changesOnly [.outs, .obj, .dict, .cap, .ecc, .board, .obs] s t ∧ othersSame 0x6350 5 s t) ∧
  (∀ e (s t : State), exec (.captureDisarm e) s = .next t →
    changesOnly [.outs, .obj, .dict, .cap, .ecc, .board, .obs] s t ∧ othersSame 0x6350 5 s t) ∧
  (∀ e (s t : State), exec (.captureRelease e) s = .next t →
    changesOnly [.outs, .obj, .dict, .cap, .ecc, .board, .obs] s t ∧ othersSame 0x6350 5 s t) ∧
  (∀ sector (s t : State), exec (.captureTrigger sector) s = .next t → changesOnly [.cap, .board, .obs] s t) ∧
  (∀ routed (s t : State), exec (.captureEdge routed) s = .next t → changesOnly [.cap] s t) ∧
  (∀ s t : State, exec .captureCopyDone s = .next t → changesOnly [.outs, .cap, .board, .obs] s t) ∧
  (∀ clk (s t : State), exec (.fabricClockEdge clk) s = .next t → changesOnly [.freeCtr, .fab, .edge, .noc, .ecc, .board, .obs] s t)

/-- Frames of the stream, start-up, library and chain commands: each changes only the parts of State
listed for it and, where its clause says so, no entry of a table but its own. -/
def Obligations.FramesOfLoadingAndChain : Prop :=
  (∀ src header tags (s t : State), exec (.streamHeader src header tags) s = .next t →
    changesOnly [.outs, .freeCtr, .obj, .loader, .chain, .dram, .ecc, .crypt, .lanes, .board, .obs] s t ∧ objectsSame s t) ∧
  (∀ chunk (s t : State), exec (.chunkVerified chunk) s = .next t →
    changesOnly [.outs, .freeCtr, .obj, .planes, .loader, .chain, .dram, .ecc, .crypt, .lanes, .board, .obs] s t ∧ objectsSame s t) ∧
  (∀ s t : State, exec .unknownOpcode s = .next t → changesOnly [.outs, .planes, .loader, .chain, .lanes, .board, .obs] s t) ∧
  (∀ s t : State, exec .selectPlane s = .next t →
    changesOnly [.outs, .obj, .fab, .planes, .frames, .loader, .chain, .ecc, .lanes, .board, .obs] s t ∧ objectsSame s t) ∧
  (∀ s t : State, exec .writeFrames s = .next t →
    changesOnly [.outs, .obj, .planes, .frames, .loader, .chain, .ecc, .lanes, .board, .obs] s t ∧ objectsSame s t) ∧
  (∀ s t : State, exec .writeFramesZr s = .next t →
    changesOnly [.outs, .obj, .planes, .frames, .loader, .chain, .ecc, .lanes, .board, .obs] s t ∧ objectsSame s t) ∧
  (∀ s t : State, exec .initBlockmem s = .next t →
    changesOnly [.outs, .obj, .fab, .edge, .planes, .loader, .chain, .ecc, .lanes, .board, .obs] s t ∧ objectsSame s t) ∧
  (∀ s t : State, exec .initState s = .next t →
    changesOnly [.outs, .obj, .fab, .planes, .loader, .chain, .ecc, .lanes, .board, .obs] s t ∧ objectsSame s t) ∧
  (∀ s t : State, exec .setTeam s = .next t →
    changesOnly [.outs, .obj, .planes, .stage, .grants, .teams, .loader, .chain, .ecc, .lanes, .board, .obs] s t) ∧
  (∀ s t : State, exec .setStartupOrder s = .next t →
    changesOnly [.outs, .obj, .planes, .loader, .chain, .ecc, .lanes, .board, .obs] s t ∧ othersSame 0x6110 1 s t) ∧
  (∀ s t : State, exec .checkCrc s = .next t →
    changesOnly [.outs, .obj, .planes, .loader, .chain, .ecc, .lanes, .board, .obs] s t ∧ objectsSame s t) ∧
  (∀ s t : State, exec .keyRoll s = .next t →
    changesOnly [.outs, .obj, .planes, .loader, .chain, .ecc, .lanes, .board, .obs] s t ∧ objectsSame s t) ∧
  (∀ follow (s t : State), exec (.forwardToChain follow) s = .next t →
    changesOnly [.outs, .obj, .planes, .loader, .chain, .ecc, .lanes, .board, .obs] s t ∧ objectsSame s t) ∧
  (∀ s t : State, exec .markValid s = .next t →
    changesOnly [.outs, .obj, .planes, .loader, .chain, .ecc, .lanes, .board, .obs] s t ∧ objectsSame s t) ∧
  (∀ s t : State, exec .endPacket s = .next t →
    changesOnly [.outs, .planes, .loader, .boot, .chain, .pan, .lanes, .sealed, .board, .obs] s t) ∧
  (∀ widthNs (s t : State), exec (.tamperN widthNs) s = .next t →
    changesOnly [.outs, .fuses, .planes, .loader, .chain, .crypt, .lanes, .board, .obs] s t) ∧
  (∀ e wrap (s t : State), exec (.efuseKeyWrite e wrap) s = .next t →
    changesOnly [.outs, .fuses, .obj, .dict, .ecc, .board, .obs] s t ∧ othersSame 0x6160 2 s t) ∧
  (∀ e wrap (s t : State), exec (.bbramKeyWrite e wrap) s = .next t →
    changesOnly [.outs, .fuses, .obj, .dict, .ecc, .board, .obs] s t ∧ othersSame 0x6160 3 s t) ∧
  (∀ e v (s t : State), exec (.bbramErase e v) s = .next t →
    changesOnly [.outs, .fuses, .obj, .dict, .ecc, .board, .obs] s t ∧ othersSame 0x6160 4 s t) ∧
  (∀ e (s t : State), exec (.fuseLockPlain e) s = .next t →
    changesOnly [.outs, .fuses, .obj, .dict, .ecc, .board, .obs] s t ∧ othersSame 0x6160 7 s t) ∧
  (∀ e (s t : State), exec (.fuseLockEfuseOnly e) s = .next t →
    changesOnly [.outs, .fuses, .obj, .dict, .ecc, .board, .obs] s t ∧ othersSame 0x6160 7 s t) ∧
  (∀ battery key check (s t : State), exec (.keyProg battery key check) s = .next t →
    changesOnly [.fuses, .obj, .ecc, .board, .test, .obs] s t ∧ objectsSame s t) ∧
  (∀ e sector v c (s t : State), exec (.ownershipWrite e sector v c) s = .next t →
    changesOnly [.outs, .obj, .dict, .ecc, .board, .obs] s t ∧ othersSame 0x6150 (sector.val + 1) s t) ∧
  (∀ e owner hash (s t : State), exec (.ownerKeyWrite e owner hash) s = .next t →
    changesOnly [.outs, .obj, .dict, .ecc, .board, .obs] s t ∧ othersSame 0x6151 (owner.val + 1) s t) ∧
  (∀ widthNs (s t : State), exec (.sysrstN widthNs) s = .next t →
    changesOnly [.outs, .planes, .loader, .boot, .chain, .lanes, .board, .obs] s t) ∧
  (∀ critical vccioMv (s t : State), exec (.fuseLoadDone critical vccioMv) s = .next t →
    changesOnly [.outs, .freeCtr, .fuses, .obj, .clk, .fab, .edge, .planes, .grants, .teams, .cap, .loader, .boot, .chain, .noc, .wale, .pan, .dram, .ecc, .crypt, .banks, .pins, .lanes, .sealed, .power, .board, .test, .obs] s t ∧
    objectsSame s t) ∧
  (∀ refPpm (s t : State), exec (.bistStart refPpm) s = .next t → changesOnly [.boot, .board, .test, .obs] s t) ∧
  (∀ refPpm (s t : State), exec (.bistWaitTick refPpm) s = .next t → changesOnly [.boot, .board, .obs] s t) ∧
  (∀ critical fails (s t : State), exec (.bistDone critical fails) s = .next t →
    changesOnly [.outs, .freeCtr, .obj, .clk, .fab, .edge, .planes, .stage, .grants, .teams, .cap, .loader, .boot, .chain, .noc, .wale, .pan, .dram, .ecc, .crypt, .banks, .pins, .lanes, .power, .board, .test, .obs] s t ∧
    objectsSame s t) ∧
  (∀ s t : State, exec .repairDone s = .next t →
    changesOnly [.outs, .freeCtr, .fuses, .obj, .clk, .fab, .edge, .planes, .stage, .grants, .teams, .cap, .loader, .boot, .chain, .noc, .wale, .pan, .dram, .ecc, .crypt, .banks, .pins, .lanes, .sealed, .power, .board, .test, .obs] s t ∧
    objectsSame s t) ∧
  (∀ runs flashAnswers octal flashId dir0 dir1 (s t : State), exec (.calibrationDone runs flashAnswers octal flashId dir0 dir1) s = .next t →
    changesOnly [.outs, .freeCtr, .obj, .clk, .fab, .edge, .planes, .stage, .grants, .teams, .cap, .loader, .boot, .chain, .noc, .wale, .pan, .dram, .ecc, .crypt, .banks, .pins, .lanes, .sealed, .power, .board, .test, .obs] s t) ∧
  (∀ mismatches (s t : State), exec (.startupVerifyDone mismatches) s = .next t →
    changesOnly [.outs, .freeCtr, .obj, .dict, .clk, .fab, .planes, .frames, .grants, .teams, .loader, .boot, .chain, .noc, .wale, .pan, .dram, .ecc, .crypt, .lanes, .board, .obs] s t) ∧
  (∀ s t : State, exec .loadPhaseEnd s = .next t → changesOnly [.outs, .freeCtr, .boot, .chain, .lanes, .board, .obs] s t) ∧
  (∀ s t : State, exec .activation s = .next t →
    changesOnly [.obj, .fab, .planes, .stage, .grants, .teams, .boot, .chain, .board, .obs] s t) ∧
  (∀ s t : State, exec .clockLock s = .next t → changesOnly [.clk, .boot, .power, .board, .obs] s t) ∧
  (∀ s t : State, exec .releaseOutputs s = .next t → changesOnly [.boot, .banks, .power, .board, .obs] s t) ∧
  (∀ s t : State, exec .releaseSetReset s = .next t → changesOnly [.boot, .power, .board, .obs] s t) ∧
  (∀ s t : State, exec .enableWrites s = .next t → changesOnly [.boot, .banks, .lanes, .power, .board, .obs] s t) ∧
  (∀ e data (s t : State), exec (.hostFeedData e data) s = .next t →
    changesOnly [.outs, .obj, .dict, .loader, .chain, .ecc, .lanes, .board, .obs] s t ∧ othersSame 0x6101 1 s t) ∧
  (∀ e data (s t : State), exec (.startupOrderWrite e data) s = .next t →
    changesOnly [.outs, .obj, .dict, .ecc, .board, .obs] s t ∧ othersSame 0x6110 1 s t) ∧
  (∀ images (s t : State), exec (.libraryCopy images) s = .next t →
    changesOnly [.freeCtr, .obj, .loader, .noc, .wale, .dram, .ecc, .crypt, .board, .obs] s t ∧ objectsSame s t) ∧
  (∀ failed (s t : State), exec (.libraryCopyDone failed) s = .next t → changesOnly [.loader, .board, .obs] s t) ∧
  (∀ e size v (s t : State), exec (.libraryAreaWrite e size v) s = .next t →
    changesOnly [.outs, .obj, .dict, .ecc, .board, .obs] s t ∧ othersSame 0x6120 (if size then 2 else 1) s t) ∧
  (∀ e v (s t : State), exec (.writeEntry e v) s = .next t →
    changesOnly [.outs, .obj, .dict, .loader, .ecc, .board, .obs] s t ∧ othersSame 0x6120 5 s t) ∧
  (∀ e data (s t : State), exec (.writeData e data) s = .next t →
    changesOnly [.outs, .freeCtr, .obj, .dict, .loader, .noc, .wale, .dram, .ecc, .crypt, .board, .obs] s t ∧ othersSame 0x6120 6 s t) ∧
  (∀ e v (s t : State), exec (.loadEntry e v) s = .next t →
    changesOnly [.outs, .obj, .dict, .loader, .ecc, .board, .obs] s t ∧ othersSame 0x6130 1 s t) ∧
  (∀ s t : State, exec .loadStart s = .next t → changesOnly [.loader, .board, .obs] s t) ∧
  (∀ e (s t : State), exec (.cancelCurrent e) s = .next t →
    changesOnly [.outs, .obj, .dict, .planes, .loader, .chain, .ecc, .lanes, .board, .obs] s t ∧ othersSame 0x6130 4 s t) ∧
  (∀ e (s t : State), exec (.cancelAll e) s = .next t →
    changesOnly [.outs, .obj, .dict, .planes, .loader, .chain, .ecc, .lanes, .board, .obs] s t ∧ othersSame 0x6130 4 s t) ∧
  (∀ f pos (s t : State), exec (.position f pos) s = .next t → changesOnly [.outs, .chain, .lanes, .board, .obs] s t) ∧
  (∀ f bytes (s t : State), exec (.stream f bytes) s = .next t → changesOnly [.outs, .chain, .lanes] s t) ∧
  (∀ f pos flags failReason status (s t : State), exec (.report f pos flags failReason status) s = .next t →
    changesOnly [.outs, .freeCtr, .chain, .lanes, .board, .obs] s t) ∧
  (∀ s t : State, exec .reportTimeout s = .next t → changesOnly [.chain, .board, .obs] s t) ∧
  (∀ f countdown (s t : State), exec (.go f countdown) s = .next t → changesOnly [.outs, .chain, .lanes] s t) ∧
  (∀ e v (s t : State), exec (.forceGo e v) s = .next t →
    changesOnly [.outs, .freeCtr, .obj, .dict, .chain, .ecc, .lanes, .board, .obs] s t ∧ othersSame 0x6170 5 s t) ∧
  (∀ s t : State, exec .goWaitTimeout s = .next t → changesOnly [.outs, .boot, .chain, .lanes, .board, .obs] s t) ∧
  (∀ f t1 (s t : State), exec (.delayReq f t1) s = .next t → changesOnly [.outs, .lanes] s t) ∧
  (∀ f t1 t2 t3 t4 (s t : State), exec (.delayResp f t1 t2 t3 t4) s = .next t → changesOnly [.outs, .lanes] s t) ∧
  (∀ f message (s t : State), exec (.remoteReq f message) s = .next t → changesOnly [.outs, .noc, .lanes, .board, .obs] s t) ∧
  (∀ f message (s t : State), exec (.remoteResp f message) s = .next t → changesOnly [.outs, .pan, .lanes, .board, .obs] s t) ∧
  (∀ f (s t : State), exec (.ack f) s = .next t → changesOnly [.outs, .lanes] s t) ∧
  (∀ up (s t : State), exec (.hitchAckDue up) s = .next t → changesOnly [.outs, .lanes] s t) ∧
  (∀ up (s t : State), exec (.hitchResend up) s = .next t → changesOnly [.outs, .lanes, .board, .obs] s t) ∧
  (∀ s t : State, exec .remoteRequestPush s = .next t → changesOnly [.outs, .pan, .ecc, .lanes, .sealed, .board, .obs] s t) ∧
  (∀ tag (s t : State), exec (.remoteTimeout tag) s = .next t → changesOnly [.pan, .lanes, .board, .obs] s t) ∧
  (∀ s t : State, exec .sysrstNRelease s = .next t →
    changesOnly [.outs, .freeCtr, .obj, .clk, .fab, .edge, .planes, .stage, .grants, .teams, .cap, .loader, .boot, .chain, .noc, .wale, .pan, .dram, .ecc, .crypt, .banks, .pins, .lanes, .sealed, .power, .board, .test, .obs] s t ∧
    objectsSame s t) ∧
  (∀ s t : State, exec .chainDataTimeout s = .next t → changesOnly [.outs, .boot, .chain, .lanes, .board, .obs] s t) ∧
  (∀ vauxMv vinMv (s t : State), exec (.vauxVinCoreReached vauxMv vinMv) s = .next t → changesOnly [.boot, .power, .board, .obs] s t)

/-- Frames of the network, mover, Wale and pannier commands: each changes only the parts of State
listed for it and, where its clause says so, no entry of a table but its own. -/
def Obligations.FramesOfNetworkAndCaches : Prop :=
  (∀ k link tag err (s t : State), exec (.nocReadRequest k link tag err) s = .next t →
    changesOnly [.outs, .obj, .dict, .fab, .grants, .teams, .noc, .wale, .pan, .ecc, .crypt, .banks, .pins, .sealed, .board, .obs] s t ∧
    objectsSame s t) ∧
  (∀ k link tag err (s t : State), exec (.nocWriteRequest k link tag err) s = .next t →
    changesOnly [.outs, .obj, .dict, .fab, .grants, .teams, .noc, .wale, .pan, .ecc, .crypt, .banks, .pins, .sealed, .board, .obs] s t ∧
    objectsSame s t) ∧
  (∀ k link (s t : State), exec (.nocReadResponse k link) s = .next t →
    changesOnly [.outs, .freeCtr, .fab, .grants, .teams, .noc, .banks, .lanes, .board, .obs] s t) ∧
  (∀ k link (s t : State), exec (.nocWriteResponse k link) s = .next t →
    changesOnly [.outs, .freeCtr, .fab, .grants, .teams, .noc, .banks, .lanes, .board, .obs] s t) ∧
  (∀ k (s t : State), exec (.responseTimeout k) s = .next t →
    changesOnly [.outs, .freeCtr, .fab, .grants, .teams, .noc, .banks, .lanes, .board, .obs] s t) ∧
  (∀ k (s t : State), exec (.packetPromotedUrgent k) s = .next t → changesOnly [.noc, .board, .obs] s t) ∧
  (∀ e n v (s t : State), exec (.reservationWrite e n v) s = .next t →
    changesOnly [.outs, .obj, .dict, .noc, .ecc, .board, .obs] s t ∧ othersSame 0x6410 (n.val + 1) s t) ∧
  (∀ n (s t : State), exec (.reservationTakesEffect n) s = .next t → changesOnly [.noc, .board, .obs] s t) ∧
  (∀ initiator m addr (s t : State), exec (.moverDoorbell initiator m addr) s = .next t → changesOnly [.outs, .noc, .board, .obs] s t) ∧
  (∀ e m addr (s t : State), exec (.moverStart e m addr) s = .next t →
    changesOnly [.outs, .obj, .dict, .noc, .ecc, .board, .obs] s t ∧ othersSame 0x6431 1 s t) ∧
  (∀ e mask (s t : State), exec (.moverStop e mask) s = .next t →
    changesOnly [.outs, .obj, .dict, .noc, .ecc, .board, .obs] s t ∧ othersSame 0x6431 2 s t) ∧
  (∀ m (s t : State), exec (.moverStartTime m) s = .next t → changesOnly [.noc, .board, .obs] s t) ∧
  (∀ m (s t : State), exec (.moverDescriptorDone m) s = .next t → changesOnly [.noc, .board, .obs] s t) ∧
  (∀ e (s t : State), exec (.statClearSelected e) s = .next t →
    changesOnly [.outs, .obj, .dict, .noc, .ecc, .board, .obs] s t ∧ othersSame 0x6420 3 s t) ∧
  (∀ e (s t : State), exec (.statClearAll e) s = .next t →
    changesOnly [.outs, .obj, .dict, .noc, .ecc, .board, .obs] s t ∧ othersSame 0x6420 3 s t) ∧
  (∀ s t : State, exec .statWindowEnd s = .next t → changesOnly [.noc] s t) ∧
  (∀ k (s t : State), exec (.lineFillDone k) s = .next t → changesOnly [.noc, .wale, .board, .obs] s t) ∧
  (∀ k status (s t : State), exec (.writeBackAnswered k status) s = .next t → changesOnly [.noc, .wale, .board, .obs] s t) ∧
  (∀ slice line (s t : State), exec (.maintenanceEntryTimeout slice line) s = .next t → changesOnly [.wale] s t) ∧
  (∀ e mask (s t : State), exec (.waleFlush e mask) s = .next t →
    changesOnly [.outs, .obj, .dict, .noc, .wale, .ecc, .board, .obs] s t ∧ othersSame 0x6501 1 s t) ∧
  (∀ e mask (s t : State), exec (.waleInvalidate e mask) s = .next t →
    changesOnly [.outs, .obj, .dict, .noc, .wale, .ecc, .board, .obs] s t ∧ othersSame 0x6501 2 s t) ∧
  (∀ slice (s t : State), exec (.flushDone slice) s = .next t → changesOnly [.wale, .board, .obs] s t) ∧
  (∀ initiator n data (s t : State), exec (.windowPush initiator n data) s = .next t →
    changesOnly [.outs, .pan, .board, .obs] s t ∧ (∀ k, k ≠ n.val → t.window k = s.window k)) ∧
  (∀ initiator n len (s t : State), exec (.windowPop initiator n len) s = .next t →
    changesOnly [.outs, .pan, .ecc, .sealed, .board, .obs] s t ∧ (∀ k, k ≠ n.val → t.window k = s.window k) ∧ t.pan.mem = s.pan.mem) ∧
  (∀ initiator n len (s t : State), exec (.windowRelease initiator n len) s = .next t →
    changesOnly [.outs, .pan, .board, .obs] s t ∧ (∀ k, k ≠ n.val → t.window k = s.window k) ∧ t.pan.mem = s.pan.mem) ∧
  (∀ initiator n offset len wdata (s t : State), exec (.windowIndexedAccess initiator n offset len wdata) s = .next t →
    changesOnly [.outs, .pan, .ecc, .sealed, .board, .obs] s t) ∧
  (∀ initiator n (s t : State), exec (.windowStatusRead initiator n) s = .next t → changesOnly [.outs] s t) ∧
  (∀ e n v (s t : State), exec (.panWindowEnable e n v) s = .next t →
    changesOnly [.outs, .obj, .dict, .pan, .ecc, .board, .obs] s t ∧ othersSame (0x6520 + n.val) 1 s t ∧
    (∀ k, k ≠ n.val → t.window k = s.window k) ∧ t.pan.mem = s.pan.mem) ∧
  (∀ e v (s t : State), exec (.panConflictClear e v) s = .next t →
    changesOnly [.outs, .obj, .dict, .pan, .ecc, .board, .obs] s t ∧ othersSame 0x6531 0 s t ∧ t.pan.mem = s.pan.mem) ∧
  (∀ bank31 failed (s t : State), exec (.backgroundTestRegion bank31 failed) s = .next t →
    changesOnly [.pan, .sealed, .board, .obs] s t) ∧
  (∀ bank31 (s t : State), exec (.backgroundRegionTimeout bank31) s = .next t →
    changesOnly [.pan, .board, .obs] s t ∧
    (∀ a, (∀ i < (bankTest s bank31).shadow.length, regionOff bank31 (bankTest s bank31).region + i ≠ a) → Memory.byte t.pan.mem a = Memory.byte s.pan.mem a)) ∧
  (∀ b (s t : State), exec (.bankClearingDone b) s = .next t → changesOnly [.pan, .board, .obs] s t)

/-- Frames of the DRAM, integrity, key and region commands: each changes only the parts of State
listed for it and, where its clause says so, no entry of a table but its own. -/
def Obligations.FramesOfMemory : Prop :=
  (∀ k (s t : State), exec (.dramRequest k) s = .next t → changesOnly [.noc, .wale, .dram] s t ∧ t.dram.mem = s.dram.mem) ∧
  (∀ channel pcB errs spareErrs (s t : State), exec (.dramCommandSlot channel pcB errs spareErrs) s = .next t →
    changesOnly [.freeCtr, .obj, .noc, .wale, .dram, .ecc, .crypt, .board, .obs] s t ∧ objectsSame s t) ∧
  (∀ channel write k (s t : State), exec (.requestUrgent channel write k) s = .next t →
    changesOnly [.dram, .board, .obs] s t ∧ (∀ k, k ≠ channel.val → t.chan k = s.chan k) ∧ t.dram.mem = s.dram.mem) ∧
  (∀ b (s t : State), exec (.refreshInterval b) s = .next t → changesOnly [.dram, .board, .obs] s t ∧ t.dram.mem = s.dram.mem) ∧
  (∀ b (s t : State), exec (.neighbourRefresh b) s = .next t →
    changesOnly [.obj, .dram, .ecc, .board, .obs] s t ∧ objectsSame s t ∧ t.dram.mem = s.dram.mem) ∧
  (∀ b (s t : State), exec (.activateTableClear b) s = .next t → changesOnly [.dram] s t ∧ t.dram.mem = s.dram.mem) ∧
  (∀ channel pcB failing (s t : State), exec (.retrainBurst channel pcB failing) s = .next t →
    changesOnly [.dram, .board, .obs] s t ∧ (∀ k, k ≠ channel.val → t.chan k = s.chan k) ∧ t.dram.mem = s.dram.mem) ∧
  (∀ channel rank (s t : State), exec (.caParityError channel rank) s = .next t →
    changesOnly [.dram, .board, .obs] s t ∧ (∀ k, k ≠ channel.val → t.chan k = s.chan k) ∧ t.dram.mem = s.dram.mem) ∧
  (∀ channel (s t : State), exec (.migrationLineTimeout channel) s = .next t →
    changesOnly [.dram] s t ∧ (∀ k, k ≠ channel.val → t.chan k = s.chan k) ∧ t.dram.mem = s.dram.mem) ∧
  (∀ e v (s t : State), exec (.retire e v) s = .next t →
    changesOnly [.outs, .obj, .dict, .dram, .ecc, .board, .obs] s t ∧ othersSame 0x6640 1 s t ∧ t.dram.mem = s.dram.mem) ∧
  (∀ e v (s t : State), exec (.retrain e v) s = .next t →
    changesOnly [.outs, .obj, .dict, .dram, .ecc, .board, .obs] s t ∧ othersSame 0x6640 2 s t ∧ t.dram.mem = s.dram.mem) ∧
  (∀ e v c (s t : State), exec (.sparesWrite e v c) s = .next t →
    changesOnly [.outs, .obj, .dict, .dram, .ecc, .board, .obs] s t ∧ othersSame 0x6601 1 s t ∧ t.dram.mem = s.dram.mem) ∧
  (∀ channel symbols verifyErrs spareErrs (s t : State), exec (.scrubRead channel symbols verifyErrs spareErrs) s = .next t →
    changesOnly [.freeCtr, .obj, .wale, .dram, .ecc, .board, .obs] s t ∧ objectsSame s t) ∧
  (∀ channel (s t : State), exec (.scrubWritebackTimeout channel) s = .next t →
    changesOnly [.dram, .ecc, .board, .obs] s t ∧ t.dram.mem = s.dram.mem) ∧
  (∀ channel (s t : State), exec (.scrubPassLate channel) s = .next t →
    changesOnly [.obj, .dram, .ecc, .board, .obs] s t ∧ objectsSame s t ∧ (∀ k, k ≠ channel.val → t.chan k = s.chan k) ∧
    t.dram.mem = s.dram.mem) ∧
  (∀ upset (s t : State), exec (.complementCheck upset) s = .next t →
    changesOnly [.outs, .obj, .dict, .stage, .grants, .teams, .pan, .dram, .ecc, .crypt, .banks, .pins, .sealed, .board, .obs] s t) ∧
  (∀ e v (s t : State), exec (.clearCounts e v) s = .next t →
    changesOnly [.outs, .obj, .dict, .dram, .ecc, .board, .obs] s t ∧ othersSame 0x6730 1 s t ∧ t.dram.mem = s.dram.mem) ∧
  (∀ e v (s t : State), exec (.verify e v) s = .next t →
    changesOnly [.outs, .obj, .dict, .ecc, .board, .obs] s t ∧ othersSame 0x6730 2 s t) ∧
  (∀ s t : State, exec .verifyRound s = .next t → changesOnly [.ecc, .board, .obs] s t) ∧
  (∀ cellFault (s t : State), exec (.verifySectorPlaneDone cellFault) s = .next t →
    changesOnly [.planes, .grants, .teams, .ecc, .board, .obs] s t) ∧
  (∀ e slot wrap (s t : State), exec (.keyUnwrapEfuse e slot wrap) s = .next t →
    changesOnly [.outs, .freeCtr, .obj, .dict, .ecc, .crypt, .board, .obs] s t ∧ othersSame 0x6820 1 s t) ∧
  (∀ e slot wrap (s t : State), exec (.keyUnwrapBbram e slot wrap) s = .next t →
    changesOnly [.outs, .freeCtr, .obj, .dict, .ecc, .crypt, .board, .obs] s t ∧ othersSame 0x6820 1 s t) ∧
  (∀ e slot (s t : State), exec (.keyGenerate e slot) s = .next t →
    changesOnly [.outs, .freeCtr, .obj, .dict, .ecc, .crypt, .board, .obs] s t ∧ othersSame 0x6820 1 s t) ∧
  (∀ e slot (s t : State), exec (.keyClear e slot) s = .next t →
    changesOnly [.outs, .freeCtr, .obj, .dict, .ecc, .crypt, .board, .obs] s t ∧ othersSame 0x6820 1 s t) ∧
  (∀ e r (s t : State), exec (.regionEnable e r) s = .next t →
    changesOnly [.outs, .freeCtr, .obj, .dict, .noc, .wale, .dram, .ecc, .crypt, .board, .obs] s t ∧
    othersSame (0x6810 + r.val) 7 s t) ∧
  (∀ e r (s t : State), exec (.regionEnableInitialise e r) s = .next t →
    changesOnly [.outs, .freeCtr, .obj, .dict, .noc, .wale, .dram, .ecc, .crypt, .board, .obs] s t ∧
    othersSame (0x6810 + r.val) 7 s t) ∧
  (∀ e r (s t : State), exec (.regionDisable e r) s = .next t →
    changesOnly [.outs, .freeCtr, .obj, .dict, .noc, .wale, .dram, .ecc, .crypt, .board, .obs] s t ∧
    (∀ j, j ≠ objKey (0x6810 + r.val) 7 → j ≠ objKey (0x6810 + r.val) 1 → objectSame j s t)) ∧
  (∀ r (s t : State), exec (.regionInitialised r) s = .next t →
    changesOnly [.obj, .dram, .ecc, .crypt, .board, .obs] s t ∧ objectsSame s t ∧ (∀ k, k ≠ r.val → t.region k = s.region k)) ∧
  (∀ channel symbols (s t : State), exec (.migrationCopy channel symbols) s = .next t →
    changesOnly [.freeCtr, .obj, .wale, .dram, .ecc, .board, .obs] s t ∧ objectsSame s t)

/-- Frames of the time, pin and lane commands: each changes only the parts of State
listed for it and, where its clause says so, no entry of a table but its own. -/
def Obligations.FramesOfTimeAndLanes : Prop :=
  (∀ m (s t : State), exec (.sync m) s = .next t → changesOnly [.freeCtr, .time, .board, .obs] s t) ∧
  (∀ m (s t : State), exec (.announce m) s = .next t → changesOnly [.time, .board, .obs] s t) ∧
  (∀ m (s t : State), exec (.pdelay m) s = .next t → changesOnly [.time] s t) ∧
  (∀ s t : State, exec .syncTimeout s = .next t → changesOnly [.time, .board, .obs] s t) ∧
  (∀ e v (s t : State), exec (.timeSet e v) s = .next t →
    changesOnly [.outs, .obj, .dict, .ecc, .time, .board, .obs] s t ∧ othersSame 0x6902 1 s t) ∧
  (∀ b pin rising time fraction (s t : State), exec (.inputEdge b pin rising time fraction) s = .next t →
    changesOnly [.obj, .ecc, .banks, .pins, .board, .obs] s t ∧ objectsSame s t ∧ (∀ k, k ≠ b.val → t.bank k = s.bank k)) ∧
  (∀ b (s t : State), exec (.inputDrain b) s = .next t →
    changesOnly [.noc, .banks, .board, .obs] s t ∧ (∀ k, k ≠ b.val → t.bank k = s.bank k)) ∧
  (∀ b (s t : State), exec (.drainRetry b) s = .next t →
    changesOnly [.noc, .banks, .board, .obs] s t ∧ (∀ k, k ≠ b.val → t.bank k = s.bank k)) ∧
  (∀ b (s t : State), exec (.outputPoll b) s = .next t →
    changesOnly [.pan, .ecc, .banks, .sealed, .board, .obs] s t ∧ (∀ k, k ≠ b.val → t.bank k = s.bank k)) ∧
  (∀ b (s t : State), exec (.outputEntryExecute b) s = .next t →
    changesOnly [.freeCtr, .obj, .ecc, .banks, .pins, .board, .obs] s t ∧ objectsSame s t ∧ (∀ k, k ≠ b.val → t.bank k = s.bank k)) ∧
  (∀ b pin (s t : State), exec (.returnTimer b pin) s = .next t →
    changesOnly [.freeCtr, .obj, .ecc, .banks, .pins, .board, .obs] s t ∧ objectsSame s t ∧ (∀ k, k ≠ b.val → t.bank k = s.bank k)) ∧
  (∀ e b (s t : State), exec (.ioBankStart e b) s = .next t →
    changesOnly [.outs, .obj, .dict, .ecc, .banks, .pins, .board, .obs] s t ∧ othersSame (0x6910 + b.val) 2 s t ∧
    (∀ k, k ≠ b.val → t.bank k = s.bank k)) ∧
  (∀ e b (s t : State), exec (.ioBankStop e b) s = .next t →
    changesOnly [.outs, .obj, .dict, .ecc, .banks, .pins, .board, .obs] s t ∧ othersSame (0x6910 + b.val) 2 s t ∧
    (∀ k, k ≠ b.val → t.bank k = s.bank k)) ∧
  (∀ e b pin v c (s t : State), exec (.ioPinWrite e b pin v c) s = .next t →
    changesOnly [.outs, .obj, .dict, .ecc, .board, .obs] s t ∧ othersSame (0x6920 + b.val) (pin.val + 1) s t) ∧
  (∀ e n (s t : State), exec (.laneStart e n) s = .next t →
    changesOnly [.outs, .obj, .dict, .ecc, .lanes, .board, .obs] s t ∧ othersSame (0x6A00 + n.val) 7 s t ∧
    (∀ k, k ≠ n.val → t.lane k = s.lane k)) ∧
  (∀ e n (s t : State), exec (.laneStop e n) s = .next t →
    changesOnly [.outs, .obj, .dict, .ecc, .lanes, .board, .obs] s t ∧ othersSame (0x6A00 + n.val) 7 s t ∧
    (∀ k, k ≠ n.val → t.lane k = s.lane k)) ∧
  (∀ l (s t : State), exec (.laneReceiverDetected l) s = .next t →
    changesOnly [.lanes] s t ∧ (∀ k, k ≠ laneKey l → t.lane k = s.lane k)) ∧
  (∀ l fom (s t : State), exec (.laneLocked l fom) s = .next t →
    changesOnly [.lanes, .board, .obs] s t ∧ (∀ k, k ≠ laneKey l → t.lane k = s.lane k)) ∧
  (∀ l maxRate hitch pre post (s t : State), exec (.laneTs2Received l maxRate hitch pre post) s = .next t →
    changesOnly [.lanes, .board, .obs] s t ∧ (∀ k, k ≠ laneKey l → t.lane k = s.lane k)) ∧
  (∀ l (s t : State), exec (.laneStep l) s = .next t → changesOnly [.lanes] s t ∧ (∀ k, k ≠ laneKey l → t.lane k = s.lane k)) ∧
  (∀ l slow (s t : State), exec (.laneActive l slow) s = .next t →
    changesOnly [.outs, .chain, .lanes, .board, .obs] s t ∧ (∀ k, k ≠ laneKey l → t.lane k = s.lane k)) ∧
  (∀ l (s t : State), exec (.laneBringupLimit l) s = .next t →
    changesOnly [.lanes, .board, .obs] s t ∧ (∀ k, k ≠ laneKey l → t.lane k = s.lane k)) ∧
  (∀ l (s t : State), exec (.laneRetryTimer l) s = .next t → changesOnly [.lanes] s t ∧ (∀ k, k ≠ laneKey l → t.lane k = s.lane k)) ∧
  (∀ l (s t : State), exec (.lockLost l) s = .next t →
    changesOnly [.lanes, .board, .obs] s t ∧ (∀ k, k ≠ laneKey l → t.lane k = s.lane k)) ∧
  (∀ n units (s t : State), exec (.laneRxPush n units) s = .next t →
    changesOnly [.noc, .lanes, .board, .obs] s t ∧ (∀ k, k ≠ n.val → t.lane k = s.lane k)) ∧
  (∀ n (s t : State), exec (.lanePushRetry n) s = .next t →
    changesOnly [.noc, .lanes, .board, .obs] s t ∧ (∀ k, k ≠ n.val → t.lane k = s.lane k)) ∧
  (∀ n (s t : State), exec (.laneTxPop n) s = .next t →
    changesOnly [.outs, .pan, .ecc, .lanes, .sealed, .board, .obs] s t ∧ (∀ k, k ≠ n.val → t.lane k = s.lane k)) ∧
  (∀ l setting up (s t : State), exec (.laneAdaptStep l setting up) s = .next t →
    changesOnly [.lanes] s t ∧ (∀ k, k ≠ laneKey l → t.lane k = s.lane k)) ∧
  (∀ p (s t : State), exec (.serviceLaneAutoTry p) s = .next t →
    changesOnly [.lanes] s t ∧ (∀ k, k ≠ 48 + p.val → t.lane k = s.lane k)) ∧
  (∀ port (s t : State), exec (.syncInterval port) s = .next t → changesOnly [.outs, .time] s t)

/-- Frames of the sealed, mode, supply, sensor, test and observation commands: each changes only the parts of State
listed for it and, where its clause says so, no entry of a table but its own. -/
def Obligations.FramesOfModesAndServices : Prop :=
  (∀ e ownerHash wrap (s t : State), exec (.sealProvision e ownerHash wrap) s = .next t →
    changesOnly [.outs, .obj, .dict, .ecc, .sealed, .board, .obs] s t ∧ othersSame 0x7001 0 s t) ∧
  (∀ e param v c (s t : State), exec (.sealParamWrite e param v c) s = .next t →
    changesOnly [.outs, .obj, .dict, .pan, .ecc, .sealed, .board, .obs] s t ∧ othersSame 0x7024 0 s t) ∧
  (∀ e wrap (s t : State), exec (.sealKey e wrap) s = .next t →
    changesOnly [.outs, .obj, .dict, .pan, .ecc, .sealed, .board, .obs] s t ∧ othersSame 0x7008 0 s t) ∧
  (∀ e channel v (s t : State), exec (.sealCommand e channel v) s = .next t →
    changesOnly [.outs, .obj, .dict, .pan, .ecc, .sealed, .board, .obs] s t ∧ othersSame 0x7010 (0x31 + channel.val) s t) ∧
  (∀ opened widthMs (s t : State), exec (.sealN opened widthMs) s = .next t → changesOnly [.dict, .pan, .sealed, .board, .obs] s t) ∧
  (∀ s t : State, exec .parameterImageCheck s = .next t → changesOnly [.pan, .sealed, .board, .obs] s t) ∧
  (∀ p (s t : State), exec (.sampleSync p) s = .next t → changesOnly [.outs, .sealed] s t) ∧
  (∀ p bits (s t : State), exec (.sampleFrame p bits) s = .next t → changesOnly [.pan, .sealed, .board, .obs] s t) ∧
  (∀ e (s t : State), exec (.modeRun e) s = .next t →
    changesOnly [.outs, .freeCtr, .obj, .dict, .clk, .fab, .edge, .planes, .stage, .grants, .teams, .cap, .loader, .boot, .chain, .noc, .wale, .pan, .dram, .ecc, .crypt, .banks, .pins, .lanes, .sealed, .power, .board, .test, .obs] s t) ∧
  (∀ e (s t : State), exec (.modeHold e) s = .next t →
    changesOnly [.outs, .freeCtr, .obj, .dict, .clk, .fab, .edge, .planes, .stage, .grants, .teams, .cap, .loader, .boot, .chain, .noc, .wale, .pan, .dram, .ecc, .crypt, .banks, .pins, .lanes, .sealed, .power, .board, .test, .obs] s t) ∧
  (∀ e (s t : State), exec (.modeStable e) s = .next t →
    changesOnly [.outs, .freeCtr, .obj, .dict, .clk, .fab, .edge, .planes, .stage, .grants, .teams, .cap, .loader, .boot, .chain, .noc, .wale, .pan, .dram, .ecc, .crypt, .banks, .pins, .lanes, .sealed, .power, .board, .test, .obs] s t) ∧
  (∀ e (s t : State), exec (.modeService e) s = .next t →
    changesOnly [.outs, .freeCtr, .obj, .dict, .clk, .fab, .edge, .planes, .stage, .grants, .teams, .cap, .loader, .boot, .chain, .noc, .wale, .pan, .dram, .ecc, .crypt, .banks, .pins, .lanes, .sealed, .power, .board, .test, .obs] s t) ∧
  (∀ e (s t : State), exec (.orderlyStop e) s = .next t →
    changesOnly [.outs, .freeCtr, .obj, .dict, .clk, .fab, .edge, .planes, .stage, .grants, .teams, .cap, .loader, .boot, .chain, .noc, .wale, .pan, .dram, .ecc, .crypt, .banks, .pins, .lanes, .sealed, .power, .board, .test, .obs] s t) ∧
  (∀ e (s t : State), exec (.resume e) s = .next t →
    changesOnly [.outs, .freeCtr, .obj, .dict, .clk, .fab, .edge, .planes, .stage, .grants, .teams, .cap, .loader, .boot, .chain, .noc, .wale, .pan, .dram, .ecc, .crypt, .banks, .pins, .lanes, .sealed, .power, .board, .test, .obs] s t) ∧
  (∀ e (s t : State), exec (.restart e) s = .next t →
    changesOnly [.outs, .freeCtr, .obj, .dict, .clk, .fab, .edge, .planes, .stage, .grants, .teams, .cap, .loader, .boot, .chain, .noc, .wale, .pan, .dram, .ecc, .crypt, .banks, .pins, .lanes, .sealed, .power, .board, .test, .obs] s t) ∧
  (∀ widthNs (s t : State), exec (.wakeN widthNs) s = .next t →
    changesOnly [.obj, .clk, .fab, .grants, .teams, .cap, .noc, .wale, .pan, .dram, .banks, .lanes, .power, .board, .obs] s t) ∧
  (∀ s t : State, exec .wakeTime s = .next t →
    changesOnly [.obj, .clk, .fab, .grants, .teams, .cap, .noc, .wale, .pan, .dram, .banks, .lanes, .power, .board, .obs] s t) ∧
  (∀ raw powerMw (s t : State), exec (.sensorRead raw powerMw) s = .next t →
    changesOnly [.outs, .freeCtr, .obj, .clk, .fab, .edge, .planes, .stage, .grants, .teams, .cap, .loader, .chain, .noc, .wale, .dram, .ecc, .crypt, .banks, .pins, .lanes, .power, .board, .test, .obs] s t ∧
    objectsSame s t) ∧
  (∀ n (s t : State), exec (.sensorExcluded n) s = .next t →
    changesOnly [.power, .board, .obs] s t ∧ (∀ k, k ≠ n.val → t.sensor k = s.sensor k)) ∧
  (∀ n (s t : State), exec (.sensorReadmitted n) s = .next t →
    changesOnly [.power, .board, .obs] s t ∧ (∀ k, k ≠ n.val → t.sensor k = s.sensor k)) ∧
  (∀ n (s t : State), exec (.readsLowFlag n) s = .next t →
    changesOnly [.power, .board, .obs] s t ∧ (∀ k, k ≠ n.val → t.sensor k = s.sensor k)) ∧
  (∀ tower (s t : State), exec (.gaitStepSlower tower) s = .next t → changesOnly [.grants, .teams, .cap, .power, .board, .obs] s t) ∧
  (∀ tower (s t : State), exec (.gaitStepFaster tower) s = .next t → changesOnly [.grants, .teams, .cap, .power, .board, .obs] s t) ∧
  (∀ e v (s t : State), exec (.gaitFloorWrite e v) s = .next t →
    changesOnly [.outs, .obj, .dict, .grants, .teams, .cap, .ecc, .power, .board, .obs] s t ∧ othersSame 0x6B30 2 s t) ∧
  (∀ s t : State, exec .orderlyStopDrainStep s = .next t → changesOnly [.banks, .pins, .power, .board, .obs] s t) ∧
  (∀ s t : State, exec .orderlyStopFlush s = .next t →
    changesOnly [.outs, .freeCtr, .obj, .dict, .noc, .wale, .dram, .ecc, .crypt, .banks, .pins, .power, .board, .obs] s t ∧
    objectsSame s t) ∧
  (∀ s t : State, exec .orderlyStopFallbacks s = .next t → changesOnly [.stage, .grants, .teams, .power, .board, .obs] s t) ∧
  (∀ s t : State, exec .safeStopEntry s = .next t →
    changesOnly [.outs, .freeCtr, .obj, .clk, .fab, .edge, .planes, .grants, .teams, .cap, .loader, .chain, .noc, .wale, .dram, .ecc, .crypt, .banks, .pins, .lanes, .power, .board, .test, .obs] s t ∧
    objectsSame s t) ∧
  (∀ asserted widthNs (s t : State), exec (.safeN asserted widthNs) s = .next t →
    changesOnly [.outs, .freeCtr, .obj, .clk, .fab, .edge, .planes, .grants, .teams, .cap, .loader, .chain, .noc, .wale, .dram, .ecc, .crypt, .banks, .pins, .lanes, .power, .board, .test, .obs] s t ∧
    objectsSame s t) ∧
  (∀ mv widthNs (s t : State), exec (.vinCoreOutOfRange mv widthNs) s = .next t →
    changesOnly [.outs, .freeCtr, .obj, .clk, .fab, .edge, .planes, .grants, .teams, .cap, .loader, .chain, .noc, .wale, .dram, .ecc, .crypt, .banks, .pins, .lanes, .power, .board, .test, .obs] s t ∧
    objectsSame s t) ∧
  (∀ vpp mv widthNs (s t : State), exec (.vdramVppOutOfRange vpp mv widthNs) s = .next t →
    changesOnly [.outs, .freeCtr, .obj, .clk, .fab, .edge, .planes, .grants, .teams, .cap, .loader, .chain, .noc, .wale, .dram, .ecc, .crypt, .banks, .pins, .lanes, .power, .board, .test, .obs] s t ∧
    objectsSame s t) ∧
  (∀ high mv widthNs (s t : State), exec (.vlaneOutOfRange high mv widthNs) s = .next t → changesOnly [.lanes, .board, .obs] s t) ∧
  (∀ b mv widthNs (s t : State), exec (.vccioOutOfRange b mv widthNs) s = .next t →
    changesOnly [.banks, .pins, .board, .obs] s t ∧ (∀ k, k ≠ b.val → t.bank k = s.bank k)) ∧
  (∀ s t : State, exec .rootPllLockLoss s = .next t →
    changesOnly [.outs, .freeCtr, .obj, .clk, .fab, .edge, .planes, .grants, .teams, .cap, .loader, .chain, .noc, .wale, .dram, .ecc, .crypt, .banks, .pins, .lanes, .power, .board, .test, .obs] s t ∧
    objectsSame s t) ∧
  (∀ s t : State, exec .autoResume s = .next t →
    changesOnly [.outs, .freeCtr, .obj, .clk, .fab, .edge, .planes, .stage, .grants, .teams, .cap, .loader, .boot, .chain, .noc, .wale, .pan, .dram, .ecc, .crypt, .banks, .pins, .lanes, .sealed, .power, .board, .test, .obs] s t ∧
    objectsSame s t) ∧
  (∀ g vias (s t : State), exec (.stakeMonitorError g vias) s = .next t →
    changesOnly [.outs, .freeCtr, .obj, .clk, .fab, .edge, .planes, .stage, .grants, .teams, .cap, .loader, .chain, .noc, .wale, .dram, .ecc, .crypt, .banks, .pins, .lanes, .power, .board, .test, .obs] s t ∧
    objectsSame s t) ∧
  (∀ e v (s t : State), exec (.shift e v) s = .next t →
    changesOnly [.outs, .obj, .dict, .ecc, .board, .test, .obs] s t ∧ othersSame 0x6302 1 s t) ∧
  (∀ s t : State, exec .rowShiftDone s = .next t → changesOnly [.fuses, .cap, .board, .test, .obs] s t) ∧
  (∀ r (s t : State), exec (.temperatureCalibration r) s = .next t →
    changesOnly [.outs, .freeCtr, .obj, .clk, .fab, .edge, .planes, .stage, .grants, .teams, .cap, .loader, .chain, .noc, .wale, .dram, .ecc, .crypt, .banks, .pins, .lanes, .power, .board, .test, .obs] s t ∧
    objectsSame s t) ∧
  (∀ e runs (s t : State), exec (.calibrateNow e runs) s = .next t →
    changesOnly [.outs, .freeCtr, .obj, .dict, .clk, .fab, .edge, .planes, .stage, .grants, .teams, .cap, .loader, .chain, .noc, .wale, .dram, .ecc, .crypt, .banks, .pins, .lanes, .power, .board, .test, .obs] s t ∧
    othersSame 0x6B40 2 s t) ∧
  (∀ e (s t : State), exec (.testRunStart e) s = .next t →
    changesOnly [.outs, .freeCtr, .obj, .dict, .fab, .edge, .planes, .frames, .cap, .noc, .wale, .pan, .dram, .ecc, .crypt, .board, .test, .obs] s t) ∧
  (∀ fails (s t : State), exec (.testComplete fails) s = .next t →
    changesOnly [.outs, .obj, .fab, .stage, .grants, .teams, .noc, .wale, .pan, .ecc, .banks, .power, .board, .test, .obs] s t ∧
    objectsSame s t) ∧
  (∀ e v c (s t : State), exec (.jtagOpenWrite e v c) s = .next t →
    changesOnly [.outs, .obj, .dict, .ecc, .board, .obs] s t ∧ othersSame 0x6C20 1 s t) ∧
  (∀ e v (s t : State), exec (.lockCmd e v) s = .next t →
    changesOnly [.outs, .fuses, .obj, .dict, .ecc, .board, .obs] s t ∧ othersSame 0x6C20 3 s t) ∧
  (∀ cells (s t : State), exec (.extest cells) s = .next t → changesOnly [.obj, .ecc, .board, .test, .obs] s t ∧ objectsSame s t) ∧
  (∀ s t : State, exec .idcode s = .next t → changesOnly [.outs, .test] s t) ∧
  (∀ preload (s t : State), exec (.samplePreload preload) s = .next t →
    changesOnly [.outs, .freeCtr, .obj, .ecc, .board, .test, .obs] s t ∧ objectsSame s t) ∧
  (∀ l (s t : State), exec (.extestPulse l) s = .next t → changesOnly [.outs, .obj, .ecc, .board, .test, .obs] s t ∧ objectsSame s t) ∧
  (∀ l (s t : State), exec (.extestTrain l) s = .next t → changesOnly [.outs, .obj, .ecc, .board, .test, .obs] s t ∧ objectsSame s t) ∧
  (∀ write addr len data (s t : State), exec (.debug write addr len data) s = .next t →
    changesOnly [.obj, .noc, .ecc, .board, .test, .obs] s t ∧ objectsSame s t) ∧
  (∀ die (s t : State), exec (.dieSelect die) s = .next t → changesOnly [.obj, .ecc, .board, .test, .obs] s t ∧ objectsSame s t) ∧
  (∀ tdi (s t : State), exec (.bypass tdi) s = .next t → changesOnly [.outs, .test] s t) ∧
  (∀ e v (s t : State), exec (.counterConfigWrite e v) s = .next t →
    changesOnly [.outs, .obj, .dict, .ecc, .board, .obs] s t ∧ othersSame 0x6D10 3 s t) ∧
  (∀ e (s t : State), exec (.counterClearSelected e) s = .next t →
    changesOnly [.outs, .obj, .dict, .ecc, .board, .obs] s t ∧ othersSame 0x6D10 5 s t) ∧
  (∀ e (s t : State), exec (.counterClearAll e) s = .next t →
    changesOnly [.outs, .obj, .dict, .ecc, .board, .obs] s t ∧ othersSame 0x6D10 5 s t) ∧
  (∀ block counter (s t : State), exec (.counterMilestone block counter) s = .next t → changesOnly [.board, .obs] s t) ∧
  (∀ s t : State, exec .tallySnapshot s = .next t → changesOnly [.board, .obs] s t) ∧
  (∀ e (s t : State), exec (.snapshotNow e) s = .next t →
    changesOnly [.outs, .obj, .dict, .ecc, .board, .obs] s t ∧ othersSame 0x6D22 4 s t) ∧
  (∀ s t : State, exec .snapshotReadDone s = .next t → changesOnly [.noc, .board, .obs] s t) ∧
  (∀ e (s t : State), exec (.sampleBufferClear e) s = .next t →
    changesOnly [.outs, .obj, .dict, .ecc, .board, .obs] s t ∧ othersSame 0x6D30 6 s t) ∧
  (∀ e n (s t : State), exec (.monitorStart e n) s = .next t →
    changesOnly [.outs, .obj, .dict, .ecc, .board, .obs] s t ∧ othersSame (0x6D40 + n.val) 5 s t ∧
    (∀ k, k ≠ n.val → t.mon k = s.mon k)) ∧
  (∀ e n (s t : State), exec (.monitorStop e n) s = .next t →
    changesOnly [.outs, .obj, .dict, .ecc, .board, .obs] s t ∧ othersSame (0x6D40 + n.val) 5 s t ∧
    (∀ k, k ≠ n.val → t.mon k = s.mon k)) ∧
  (∀ e n (s t : State), exec (.monitorClear e n) s = .next t →
    changesOnly [.outs, .obj, .dict, .ecc, .board, .obs] s t ∧ othersSame (0x6D40 + n.val) 5 s t ∧
    (∀ k, k ≠ n.val → t.mon k = s.mon k)) ∧
  (∀ n level (s t : State), exec (.monitorSample n level) s = .next t →
    changesOnly [.board, .obs] s t ∧ (∀ k, k ≠ n.val → t.mon k = s.mon k)) ∧
  (∀ s t : State, exec .chronicleRecord s = .next t → changesOnly [.outs, .dict, .board, .obs] s t) ∧
  (∀ status (s t : State), exec (.ringPacketWrite status) s = .next t →
    changesOnly [.freeCtr, .obj, .noc, .wale, .dram, .ecc, .crypt, .board, .obs] s t ∧ objectsSame s t) ∧
  (∀ s t : State, exec .coalesceWindowEnd s = .next t → changesOnly [.outs, .dict, .board, .obs] s t) ∧
  (∀ source (s t : State), exec (.gapRecord source) s = .next t → changesOnly [.board, .obs] s t) ∧
  (∀ e (s t : State), exec (.ackAlarm e) s = .next t →
    changesOnly [.outs, .obj, .dict, .ecc, .board, .obs] s t ∧ othersSame 0x6D62 0 s t) ∧
  (∀ e v (s t : State), exec (.chronicleEnable e v) s = .next t →
    changesOnly [.outs, .obj, .dict, .ecc, .board, .obs] s t ∧ othersSame 0x6D60 1 s t) ∧
  (∀ asserted straps (s t : State), exec (.porstN asserted straps) s = .next t →
    t.outs = s.outs ∧ t.fuses = s.fuses ∧ t.freeCtr = s.freeCtr ∧ t.sealed.store = s.sealed.store ∧ t.sealed.audit = s.sealed.audit ∧
    t.sealed.key = s.sealed.key ∧ t.sealed.provisioned = s.sealed.provisioned) ∧
  (∀ mv widthNs (s t : State), exec (.vauxLow mv widthNs) s = .next t →
    t.outs = s.outs ∧ t.fuses = s.fuses ∧ t.freeCtr = s.freeCtr ∧ t.sealed.store = s.sealed.store ∧ t.sealed.audit = s.sealed.audit ∧
    t.sealed.key = s.sealed.key ∧ t.sealed.provisioned = s.sealed.provisioned)


/-- Frames of the byte memories: a push or an indexed write changes no byte of the pannier but those it stores; a command to the controller
changes only its ring entry and its count; a bank's clearing changes only its bank; and a whole line that a command slot writes outside
every region is stored at its place in the DRAM, with every other byte as it was. -/
def Obligations.FramesOfBytes : Prop :=
  (∀ initiator n data (s t : State) (a : Nat), exec (.windowPush initiator n data) s = .next t →
    (∀ i < data.length, windowPlace s n.val (s.window n.val).wr i ≠ a) → panByte t a = panByte s a) ∧
  (∀ initiator n off len bs (s t : State) (a : Nat), exec (.windowIndexedAccess initiator n off len (some bs)) s = .next t →
    (∀ i < bs.length, windowPlace s n.val ((s.window n.val).rd + off) i ≠ a) → panByte t a = panByte s a) ∧
  (∀ e channel v (s t : State) (a : Nat), exec (.sealCommand e channel v) s = .next t →
    (∀ i < 16, bank31 (0xA00 + s.sealed.commands % 64 * 16 + i) ≠ a) → (∀ i < 8, bank31 (0xE00 + i) ≠ a) →
    panByte t a = panByte s a) ∧
  (∀ (b : Fin 32) (s t : State) (a : Nat), exec (.bankClearingDone b) s = .next t → panBank a ≠ b.val →
    Memory.byte t.pan.mem a = Memory.byte s.pan.mem a) ∧
  (∀ (channel : Fin 32) (pcB : Bool) (errs : List (Nat × Nat)) (spareErrs : List Bool) (s u v t : State) (r : DReq) (phys rank : Nat)
      (spare : Bool), refreshing s (channel.val / 16) = true → u = refillHeat (refillBudget s channel.val) channel.val →
    stackState u (channel.val / 16) = 2 → dueNow u channel.val (b2n pcB) = none → pick u channel.val (b2n pcB) = some r → r.write = true → r.data.length = 64 →
    regionOf u (r.line * 64) = none → v = checkRemaps (settleRet u (dloc (r.line * 64)).chan) (dloc (r.line * 64)).chan →
    placeOf v (r.line * 64) = .at_ phys rank spare → exec (.dramCommandSlot channel pcB errs spareErrs) s = .next t →
    t.dram.mem = Memory.write s.dram.mem phys r.data ∧
      ∀ a, a < phys ∨ phys + 64 ≤ a → Memory.byte t.dram.mem a = Memory.byte s.dram.mem a)


/-! ### Rules of the spec, one statement each -/

/-- R107 and R131. At an edge of FCLKn every flip-flop of a half-tile that takes it resolves its controls in their order: an asserted
sr, asynchronous or synchronous and whether or not ce is asserted, a deasserted ce, and then the data input that it selects; one that
captures at the other edge, and a latch that the clock holds closed, keep their value. At an edge of a slice rst clears every register,
and ce deasserted holds every register (where the set/reset is released: before that it clears them). -/
def Obligations.FlipFlopAndSliceControls : Prop :=
  (∀ (clk : Fin 8) (rising : Bool) (gs : List Nat) (s : State) (p : Spot) (fr : BitVec 2560) (c : Fin 16) (i : Fin 2) (f : FfEdge)
      (q : Bool) (cs : ControlSet), p.g ∈ gs → (p, fr) ∈ writtenTiles s.outgoing p.g → s.boot.srReleased = true →
    f = ffAt (netBefore s) fr p c i → q = AMap.get false s.edge.before.ff (ffKey p c i.val) → cs = Config.controlSet fr (halfOf c) →
    AMap.get false (cellsEdge s clk.val rising gs).fab.ff (ffKey p c i.val) =
      if cs.clock ≠ some clk then AMap.get false s.fab.ff (ffKey p c i.val)
      else if f.conf.kind = .rising ∧ cs.inverted ≠ rising then ffNext f q
      else if f.srType = .async ∧ f.conf.obeysSr = true ∧ f.sr = true then f.conf.srSets
      else if f.conf.kind = .latchHigh ∧ netBefore s (.clk p (halfOf c)) = true ∨
          f.conf.kind = .latchLow ∧ netBefore s (.clk p (halfOf c)) = false then ffNext f q
      else q) ∧
  (∀ (f : FfEdge) (q : Bool), f.conf.obeysSr = true → f.sr = true → (f.srType = .async ∨ f.srType = .sync) →
    ffNext f q = f.conf.srSets) ∧
  (∀ (f : FfEdge) (q : Bool), (f.conf.obeysSr && f.sr) = false ∨ f.srType = .none →
    ffNext f q = if f.conf.obeysCe = true ∧ f.ce = false then q else ffData f) ∧
  (∀ (u : SliceId) (i : ArithIn) (s : State),
    unitClocked s (field (s.settingsNow u.sector.val u.cluster.val u.unit.val 3) 11 9) u.sector.val = true →
    s.edgeDone (.slice (sliceNum u)) = false →
    (i.rst = true → ∃ t, exec (.arithAccumulate u i) s = .next t ∧ t.fab = { s.fab with
      arith := AMap.set {} s.fab.arith (sliceNum u) {} }) ∧
    (i.rst = false → i.ce = false → s.boot.srReleased = true → ∃ t, exec (.arithAccumulate u i) s = .next t ∧
      t.fab = { s.fab with arith := AMap.set {} s.fab.arith (sliceNum u) (AMap.get {} s.fab.arith (sliceNum u)) }))

/-- R149. A readback, from its command to its end, changes nothing of the fabric but the readback's own status, target and data. -/
def Obligations.ReadbackChangesNothing : Prop :=
  (∀ (busError : Bool) (s t : State), exec (.fabMemReadDone busError) s = .next t →
    ∃ status bs, t = { s with fab := { s.fab with readStatus := status, readData := bs } }) ∧
  (∀ (e : Env) (v : Byte) (s t : State), exec (.fabMemReadCommand e v) s = .next t →
    ∃ status target, t.fab = { s.fab with readStatus := status, readTarget := target })

/-- R466. A RETIRE that names a channel-rank that is retiring or retired, or rank 3 while it is free, and a RETRAIN that names a channel
whose training state is not 0, are answered 0x0800_0022 with no effect, and so is either in a mode other than Run, Hold and Service. -/
def Obligations.RetireAndRetrainRefusals : Prop :=
  (∀ (e : Env) (v : BitVec 16) (s s1 : State) (who : Requester),
    receive s 0x11 e (writePayload (wholeWrite 0x6640 1 (u16 v.toNat))) true = .go s1 who → ninth s1 who = false →
    (isSegment e && !isLast e) = false → (∀ row, rowOf 0x6640 1 = some row → writeAccess s1 who false row = none) →
    (rankState (retOf (s1.chan (field v.toNat 4 0))) (field v.toNat 9 8) = 1 ∨
      rankState (retOf (s1.chan (field v.toNat 4 0))) (field v.toNat 9 8) = 2 ∨
      (field v.toNat 9 8 = 3 ∧ rankState (retOf (s1.chan (field v.toNat 4 0))) 3 = 3) ∨
      (s1.mode ≠ .run ∧ s1.mode ≠ .hold ∧ s1.mode ≠ .service)) →
    exec (.retire e v) s = .next (respond s1 0x11 e (replyPayload 0x6640 1 (wholeWrite 0x6640 1 (u16 v.toNat)).ty 0x08000022 0 []))) ∧
  (∀ (e : Env) (v : U32) (s s1 : State) (who : Requester),
    receive s 0x11 e (writePayload (wholeWrite 0x6640 2 (u32 v.toNat))) true = .go s1 who → ninth s1 who = false →
    (isSegment e && !isLast e) = false → (∀ row, rowOf 0x6640 2 = some row → writeAccess s1 who false row = none) →
    ((∃ ch, v.getLsbD ch = true ∧ (s1.chan ch).training ≠ 0) ∨ (s1.mode ≠ .run ∧ s1.mode ≠ .hold ∧ s1.mode ≠ .service)) →
    exec (.retrain e v) s = .next (respond s1 0x11 e (replyPayload 0x6640 2 (wholeWrite 0x6640 2 (u32 v.toNat)).ty 0x08000022 0 [])))

/-- R688. A snapshot is taken at OBS_TALLY_CFG.time and then every interval_us where that is not 0, and at OBS_TALLY_CFG.command 1; one due
while the previous is still being read is not taken: it is counted in missed, with event 0xB013. -/
def Obligations.SnapshotRules : Prop :=
  (∀ (e : Env) (v : U64) (s s1 : State) (who : Requester),
    WriteGoes s e false (wholeWrite 0x6D22 1 (u64 v.toNat)) (actionOf 0x6D22 1) s1 who →
    ∃ t, exec (.write e (wholeWrite 0x6D22 1 (u64 v.toNat))) s = .next t ∧ t.obs.tallyNext = v.toNat) ∧
  (∀ s : State, s.obs.tallyNext ≠ 0 → s.obs.tallyNext ≤ s.tai → s.mode ≠ .startUp →
    ∃ t, exec .tallySnapshot s = .next t ∧
      t.obs.tallyNext = (if s.num 0x6D22 2 = 0 then 0 else s.obs.tallyNext + s.num 0x6D22 2 * 1000) ∧
      (s.obs.latched = none →
        t.obs.latched = some (s.obs.tallyNext, (tallyList s).map fun k => BitVec.ofNat 64 (counterWord s k))) ∧
      (s.obs.latched ≠ none → t.obs.latched = s.obs.latched ∧ t.obs.snapMissed = satInc s.obs.snapMissed maxU32 ∧
        ∃ u, t = event u tallySrc 0xB013 (u64 s.obs.tallyNext))) ∧
  (∀ e : Env, rowCompletes (.snapshotNow e) e false (wholeWrite 0x6D22 4 [1]) actSnapshot fun s1 t =>
    (s1.obs.latched = none → t.obs.latched = some (s1.tai, (tallyList s1).map fun k => BitVec.ofNat 64 (counterWord s1 k))) ∧
    (s1.obs.latched ≠ none → t.obs.latched = s1.obs.latched ∧ t.obs.snapMissed = satInc s1.obs.snapMissed maxU32))

/-- R51. A session held at step 2 for 1 s is freed. A wrong RESPONSE frees the session, is answered with 0x0B00_0006 and is recorded as
event 0xD003. -/
def Obligations.SessionsAtStep2 : Prop :=
  (∀ (n : Fin 16) (s : State), (s.session n.val).phase = .opening → s.elapsed (s.session n.val).heldAt 1000000000 = true →
    exec (.openingTimeout n) s = .next (s.setSession n.val {})) ∧
  (∀ (e : Env) (hmac : List Byte) (sealedHmac : Option (List Byte)) (s u : State) (x : Session),
    frameTaken s e (hmac ++ sealedHmac.getD []) = true → hmac.length = 32 → (∀ h, sealedHmac = some h → h.length = 32) →
    e.session.toNat < 16 → x = s.session e.session.toNat → x.phase = .opening → x.host = e.host →
    x.wantsSealed = sealedHmac.isSome → s.elapsed x.heldAt 1000000000 = false →
    hmac ≠ Crypto.hmac (levelKey s x.level) (challenge s x e.session.toNat) →
    u = ((tookFrame s e).setSession e.session.toNat {}).sendFrame
      (.response e.host 0x03 e.session 0x01 e.transfer 0 (u32 0x0B000006) []) →
    ∃ t a b, exec (.response e hmac sealedHmac) s = .next t ∧ (t.session e.session.toNat).phase = .closed ∧
      t.dict = { u.dict with fails := a, lockedTill := b } ∧ t.outs = u.outs ∧
      (AMap.get 0 s.dict.fails x.level + 1 < s.num 0x1101 2 →
        t.obs = (event u (portSource e.host) 0xD003 (u8 x.level ++ addrBytes e.host)).obs) ∧
      (s.num 0x1101 2 ≤ AMap.get 0 s.dict.fails x.level + 1 →
        t.obs = (event (event u (portSource e.host) 0xD003 (u8 x.level ++ addrBytes e.host)) (portSource e.host)
          0xD004 (u8 x.level ++ u16 (s.num 0x1101 3))).obs))
end

