-- ==== Sys2Proof/Laws/Rows.lean ====
section
/-! SUPPORT. The object table: its rows stand in rising order and none overlaps another, so that a row that covers an object is the
object's row. -/

namespace Sys2Proof.Machine

/-- Row a stands wholly before row b. -/
def ObjRow.before (a b : ObjRow) : Bool := decide (a.hi < b.lo) || (decide (a.lo = b.lo ∧ a.hi = b.hi) && decide (a.shi < b.slo))

/-- Each row stands before the next. -/
def rising : List ObjRow → Bool
  | a :: b :: rest => a.before b && rising (b :: rest)
  | _ => true

/-- Every row is of at least one object. -/
def ObjRow.proper (a : ObjRow) : Bool := decide (a.lo ≤ a.hi) && decide (a.slo ≤ a.shi)

theorem objTable_rising : rising objTable = true := by decide +kernel
theorem objTable_proper : objTable.all ObjRow.proper = true := by decide +kernel

theorem ObjRow.before_trans {a b c : ObjRow} (pb : b.proper = true) (h : a.before b = true) (g : b.before c = true) :
    a.before c = true := by
  simp only [ObjRow.before, ObjRow.proper, Bool.or_eq_true, Bool.and_eq_true, decide_eq_true_eq] at *
  omega

theorem ObjRow.before_apart {a b : ObjRow} {idx sub : Nat} (h : a.before b = true) (ha : a.covers idx sub = true) :
    b.covers idx sub = false := by
  simp only [ObjRow.before, ObjRow.covers, Bool.or_eq_true, Bool.and_eq_true, decide_eq_true_eq] at h ha
  simp only [ObjRow.covers, Bool.and_eq_false_iff, decide_eq_false_iff_not]
  omega

theorem rising_before {l : List ObjRow} : ∀ {a : ObjRow}, rising (a :: l) = true → (∀ r ∈ l, r.proper = true) →
    ∀ r ∈ l, a.before r = true := by
  induction l with
  | nil => intro a _ _ r hr; cases hr
  | cons b l ih =>
    intro a h hp r hr
    simp only [rising, Bool.and_eq_true] at h
    rcases List.mem_cons.mp hr with rfl | hr
    · exact h.1
    · exact ObjRow.before_trans (hp b (List.mem_cons_self ..)) h.1
        (ih h.2 (fun x hx => hp x (List.mem_cons_of_mem _ hx)) r hr)

theorem find_covers {l : List ObjRow} {idx sub : Nat} (h : rising l = true) (hp : ∀ r ∈ l, r.proper = true) {r : ObjRow}
    (hr : r ∈ l) (hc : r.covers idx sub = true) : l.find? (fun x => x.covers idx sub) = some r := by
  induction l with
  | nil => cases hr
  | cons a l ih =>
    have hl : rising l = true := by
      cases l with
      | nil => rfl
      | cons b l => simp only [rising, Bool.and_eq_true] at h; exact h.2
    rcases List.mem_cons.mp hr with rfl | hr
    · simp [List.find?, hc]
    · have hb := rising_before h (fun x hx => hp x (List.mem_cons_of_mem _ hx)) r hr
      have ha : a.covers idx sub = false := by
        by_contra hne
        have := ObjRow.before_apart hb (by simpa using hne)
        rw [hc] at this; exact Bool.noConfusion this
      simp only [List.find?, ha]
      exact ih hl (fun x hx => hp x (List.mem_cons_of_mem _ hx)) hr

/-- A row of the table that covers an object is its row. -/
theorem rowOf_eq {idx sub : Nat} {r : ObjRow} (hr : r ∈ objTable) (hc : r.covers idx sub = true) : rowOf idx sub = some r :=
  find_covers objTable_rising (List.all_eq_true.mp objTable_proper) hr hc

end Sys2Proof.Machine
end

