-- ==== Sys2Proof/Laws/CommandRows.lean ====
section
/-! SUPPORT. The object table's row of each object that a command writes. -/

namespace Sys2Proof.Machine

theorem mem_rows10a {r : ObjRow} (h : r ∈ rows10a) : r ∈ objTable := by
  unfold objTable
  exact List.mem_append_left _ (List.mem_append_left _ (List.mem_append_left _ (List.mem_append_left _ (List.mem_append_left _ (List.mem_append_left _ (List.mem_append_left _ (List.mem_append_left _ (List.mem_append_left _ (List.mem_append_left _ (List.mem_append_left _ (List.mem_append_left _ (List.mem_append_left _ (List.mem_append_left _ (List.mem_append_left _ (List.mem_append_left _ (List.mem_append_left _ (List.mem_append_left _ (List.mem_append_left _ h))))))))))))))))))
theorem mem_rows10b {r : ObjRow} (h : r ∈ rows10b) : r ∈ objTable := by
  unfold objTable
  exact List.mem_append_left _ (List.mem_append_left _ (List.mem_append_left _ (List.mem_append_left _ (List.mem_append_left _ (List.mem_append_left _ (List.mem_append_left _ (List.mem_append_left _ (List.mem_append_left _ (List.mem_append_left _ (List.mem_append_left _ (List.mem_append_left _ (List.mem_append_left _ (List.mem_append_left _ (List.mem_append_left _ (List.mem_append_left _ (List.mem_append_left _ (List.mem_append_left _ (List.mem_append_right _ h))))))))))))))))))
theorem mem_rows11 {r : ObjRow} (h : r ∈ rows11) : r ∈ objTable := by
  unfold objTable
  exact List.mem_append_left _ (List.mem_append_left _ (List.mem_append_left _ (List.mem_append_left _ (List.mem_append_left _ (List.mem_append_left _ (List.mem_append_left _ (List.mem_append_left _ (List.mem_append_left _ (List.mem_append_left _ (List.mem_append_left _ (List.mem_append_left _ (List.mem_append_left _ (List.mem_append_left _ (List.mem_append_left _ (List.mem_append_left _ (List.mem_append_left _ (List.mem_append_right _ h)))))))))))))))))
theorem mem_rows60 {r : ObjRow} (h : r ∈ rows60) : r ∈ objTable := by
  unfold objTable
  exact List.mem_append_left _ (List.mem_append_left _ (List.mem_append_left _ (List.mem_append_left _ (List.mem_append_left _ (List.mem_append_left _ (List.mem_append_left _ (List.mem_append_left _ (List.mem_append_left _ (List.mem_append_left _ (List.mem_append_left _ (List.mem_append_left _ (List.mem_append_left _ (List.mem_append_left _ (List.mem_append_left _ (List.mem_append_left _ (List.mem_append_right _ h))))))))))))))))
theorem mem_rows61a {r : ObjRow} (h : r ∈ rows61a) : r ∈ objTable := by
  unfold objTable
  exact List.mem_append_left _ (List.mem_append_left _ (List.mem_append_left _ (List.mem_append_left _ (List.mem_append_left _ (List.mem_append_left _ (List.mem_append_left _ (List.mem_append_left _ (List.mem_append_left _ (List.mem_append_left _ (List.mem_append_left _ (List.mem_append_left _ (List.mem_append_left _ (List.mem_append_left _ (List.mem_append_left _ (List.mem_append_right _ h)))))))))))))))
theorem mem_rows61b {r : ObjRow} (h : r ∈ rows61b) : r ∈ objTable := by
  unfold objTable
  exact List.mem_append_left _ (List.mem_append_left _ (List.mem_append_left _ (List.mem_append_left _ (List.mem_append_left _ (List.mem_append_left _ (List.mem_append_left _ (List.mem_append_left _ (List.mem_append_left _ (List.mem_append_left _ (List.mem_append_left _ (List.mem_append_left _ (List.mem_append_left _ (List.mem_append_left _ (List.mem_append_right _ h))))))))))))))
theorem mem_rows62 {r : ObjRow} (h : r ∈ rows62) : r ∈ objTable := by
  unfold objTable
  exact List.mem_append_left _ (List.mem_append_left _ (List.mem_append_left _ (List.mem_append_left _ (List.mem_append_left _ (List.mem_append_left _ (List.mem_append_left _ (List.mem_append_left _ (List.mem_append_left _ (List.mem_append_left _ (List.mem_append_left _ (List.mem_append_left _ (List.mem_append_left _ (List.mem_append_right _ h)))))))))))))
theorem mem_rows63 {r : ObjRow} (h : r ∈ rows63) : r ∈ objTable := by
  unfold objTable
  exact List.mem_append_left _ (List.mem_append_left _ (List.mem_append_left _ (List.mem_append_left _ (List.mem_append_left _ (List.mem_append_left _ (List.mem_append_left _ (List.mem_append_left _ (List.mem_append_left _ (List.mem_append_left _ (List.mem_append_left _ (List.mem_append_left _ (List.mem_append_right _ h))))))))))))
theorem mem_rows64 {r : ObjRow} (h : r ∈ rows64) : r ∈ objTable := by
  unfold objTable
  exact List.mem_append_left _ (List.mem_append_left _ (List.mem_append_left _ (List.mem_append_left _ (List.mem_append_left _ (List.mem_append_left _ (List.mem_append_left _ (List.mem_append_left _ (List.mem_append_left _ (List.mem_append_left _ (List.mem_append_left _ (List.mem_append_right _ h)))))))))))
theorem mem_rows65 {r : ObjRow} (h : r ∈ rows65) : r ∈ objTable := by
  unfold objTable
  exact List.mem_append_left _ (List.mem_append_left _ (List.mem_append_left _ (List.mem_append_left _ (List.mem_append_left _ (List.mem_append_left _ (List.mem_append_left _ (List.mem_append_left _ (List.mem_append_left _ (List.mem_append_left _ (List.mem_append_right _ h))))))))))
theorem mem_rows66 {r : ObjRow} (h : r ∈ rows66) : r ∈ objTable := by
  unfold objTable
  exact List.mem_append_left _ (List.mem_append_left _ (List.mem_append_left _ (List.mem_append_left _ (List.mem_append_left _ (List.mem_append_left _ (List.mem_append_left _ (List.mem_append_left _ (List.mem_append_left _ (List.mem_append_right _ h)))))))))
theorem mem_rows67 {r : ObjRow} (h : r ∈ rows67) : r ∈ objTable := by
  unfold objTable
  exact List.mem_append_left _ (List.mem_append_left _ (List.mem_append_left _ (List.mem_append_left _ (List.mem_append_left _ (List.mem_append_left _ (List.mem_append_left _ (List.mem_append_left _ (List.mem_append_right _ h))))))))
theorem mem_rows68 {r : ObjRow} (h : r ∈ rows68) : r ∈ objTable := by
  unfold objTable
  exact List.mem_append_left _ (List.mem_append_left _ (List.mem_append_left _ (List.mem_append_left _ (List.mem_append_left _ (List.mem_append_left _ (List.mem_append_left _ (List.mem_append_right _ h)))))))
theorem mem_rows69 {r : ObjRow} (h : r ∈ rows69) : r ∈ objTable := by
  unfold objTable
  exact List.mem_append_left _ (List.mem_append_left _ (List.mem_append_left _ (List.mem_append_left _ (List.mem_append_left _ (List.mem_append_left _ (List.mem_append_right _ h))))))
theorem mem_rows6A {r : ObjRow} (h : r ∈ rows6A) : r ∈ objTable := by
  unfold objTable
  exact List.mem_append_left _ (List.mem_append_left _ (List.mem_append_left _ (List.mem_append_left _ (List.mem_append_left _ (List.mem_append_right _ h)))))
theorem mem_rows6B {r : ObjRow} (h : r ∈ rows6B) : r ∈ objTable := by
  unfold objTable
  exact List.mem_append_left _ (List.mem_append_left _ (List.mem_append_left _ (List.mem_append_left _ (List.mem_append_right _ h))))
theorem mem_rows6C {r : ObjRow} (h : r ∈ rows6C) : r ∈ objTable := by
  unfold objTable
  exact List.mem_append_left _ (List.mem_append_left _ (List.mem_append_left _ (List.mem_append_right _ h)))
theorem mem_rows6Da {r : ObjRow} (h : r ∈ rows6Da) : r ∈ objTable := by
  unfold objTable
  exact List.mem_append_left _ (List.mem_append_left _ (List.mem_append_right _ h))
theorem mem_rows6Db {r : ObjRow} (h : r ∈ rows6Db) : r ∈ objTable := by
  unfold objTable
  exact List.mem_append_left _ (List.mem_append_right _ h)
theorem mem_rows70 {r : ObjRow} (h : r ∈ rows70) : r ∈ objTable := by
  unfold objTable
  exact List.mem_append_right _ h

theorem row_ackAlarm : rowOf 0x6D62 0 =
    some ⟨0x6D62, 0x6D62, 0, 0, 0x05, .wo, 2, 0, [(1, 1)], 0, 0, 0⟩ :=
  rowOf_eq (mem_rows6Db (List.mem_of_getElem? (i := 8) rfl)) (by decide)
theorem row_bbramErase : rowOf 0x6160 4 =
    some ⟨0x6160, 0x6160, 4, 4, 0x05, .wo, 4, 0, [(1, 1)], 0, 0, 0⟩ :=
  rowOf_eq (mem_rows61a (List.mem_of_getElem? (i := 48) rfl)) (by decide)
theorem row_bbramKeyWrite : rowOf 0x6160 3 =
    some ⟨0x6160, 0x6160, 3, 3, 0x0F, .wo, 4, 0, [], 40, 40, 0⟩ :=
  rowOf_eq (mem_rows61a (List.mem_of_getElem? (i := 47) rfl)) (by decide)
theorem row_calibrateNow : rowOf 0x6B40 2 =
    some ⟨0x6B40, 0x6B40, 2, 2, 0x05, .wo, 3, 0, [(1, 1)], 0, 0, 0⟩ :=
  rowOf_eq (mem_rows6B (List.mem_of_getElem? (i := 39) rfl)) (by decide)
theorem row_canEnable : rowOf 0x1040 1 =
    some ⟨0x1040, 0x1040, 1, 1, 0x01, .rw, 4, 0, [], 0, 0, 0⟩ :=
  rowOf_eq (mem_rows10a (List.mem_of_getElem? (i := 24) rfl)) (by decide)
theorem row_cancelAll : rowOf 0x6130 4 =
    some ⟨0x6130, 0x6130, 4, 4, 0x05, .wo, 2, 0, [(1, 2)], 0, 0, 0⟩ :=
  rowOf_eq (mem_rows61a (List.mem_of_getElem? (i := 29) rfl)) (by decide)
theorem row_cancelPendingSwitch : rowOf 0x6220 1 =
    some ⟨0x6220, 0x6220, 1, 1, 0x0F, .wo, 2, 0, [], 16, 16, 0⟩ :=
  rowOf_eq (mem_rows62 (List.mem_of_getElem? (i := 13) rfl)) (by decide)
theorem row_captureArm : rowOf 0x6350 5 =
    some ⟨0x6350, 0x6350, 5, 5, 0x05, .wo, 3, 0, [(1, 3)], 0, 0, 0⟩ :=
  rowOf_eq (mem_rows63 (List.mem_of_getElem? (i := 26) rfl)) (by decide)
theorem row_chronicleEnable : rowOf 0x6D60 1 =
    some ⟨0x6D60, 0x6D60, 1, 1, 0x01, .rw, 4, 1, [], 0, 0, 0⟩ :=
  rowOf_eq (mem_rows6Da (List.mem_of_getElem? (i := 45) rfl)) (by decide)
theorem row_clearCounts : rowOf 0x6730 1 =
    some ⟨0x6730, 0x6730, 1, 1, 0x05, .wo, 2, 0, [(1, 1)], 0, 0, 0⟩ :=
  rowOf_eq (mem_rows67 (List.mem_of_getElem? (i := 17) rfl)) (by decide)
theorem row_counterClearAll : rowOf 0x6D10 5 =
    some ⟨0x6D10, 0x6D10, 5, 5, 0x05, .wo, 2, 0, [(1, 2)], 0, 0, 0⟩ :=
  rowOf_eq (mem_rows6Da (List.mem_of_getElem? (i := 7) rfl)) (by decide)
theorem row_counterConfigWrite : rowOf 0x6D10 3 =
    some ⟨0x6D10, 0x6D10, 3, 3, 0x1B, .rw, 2, 0, [], 0, 0, 0xFFFF0000FFFFFFFF⟩ :=
  rowOf_eq (mem_rows6Da (List.mem_of_getElem? (i := 5) rfl)) (by decide)
theorem row_dictKeysWrite (key : Fin 4) : rowOf 0x1120 (key.val + 1) =
    some ⟨0x1120, 0x1120, 1, 4, 0x0F, .wo, 4, 0, [], 40, 40, 0⟩ :=
  rowOf_eq (mem_rows11 (List.mem_of_getElem? (i := 8) rfl)) (by simp only [ObjRow.covers, Bool.and_eq_true, decide_eq_true_eq]; omega)
theorem row_dictLevelEnableWrite : rowOf 0x1110 0 =
    some ⟨0x1110, 0x1110, 0, 0, 0x05, .rwp, 4, 15, [], 0, 0, 23⟩ :=
  rowOf_eq (mem_rows11 (List.mem_of_getElem? (i := 6) rfl)) (by decide)
theorem row_efuseKeyWrite : rowOf 0x6160 2 =
    some ⟨0x6160, 0x6160, 2, 2, 0x0F, .wo, 4, 0, [], 40, 40, 0⟩ :=
  rowOf_eq (mem_rows61a (List.mem_of_getElem? (i := 46) rfl)) (by decide)
theorem row_fabFclkWrite (n : Fin 8) : rowOf 0x6310 (n.val + 1) =
    some ⟨0x6310, 0x6310, 1, 8, 0x05, .rw, 4, 2, [], 0, 0, 15⟩ :=
  rowOf_eq (mem_rows63 (List.mem_of_getElem? (i := 7) rfl)) (by simp only [ObjRow.covers, Bool.and_eq_true, decide_eq_true_eq]; omega)
theorem row_fabMemReadCommand : rowOf 0x6340 2 =
    some ⟨0x6340, 0x6340, 2, 2, 0x05, .wo, 3, 0, [(1, 1)], 0, 0, 0⟩ :=
  rowOf_eq (mem_rows63 (List.mem_of_getElem? (i := 18) rfl)) (by decide)
theorem row_forceGo : rowOf 0x6170 5 =
    some ⟨0x6170, 0x6170, 5, 5, 0x05, .wo, 4, 0, [(1, 1)], 0, 0, 0⟩ :=
  rowOf_eq (mem_rows61b (List.mem_of_getElem? (i := 7) rfl)) (by decide)
theorem row_fuseLockEfuseOnly : rowOf 0x6160 7 =
    some ⟨0x6160, 0x6160, 7, 7, 0x05, .wo, 4, 0, [(1, 2)], 0, 0, 0⟩ :=
  rowOf_eq (mem_rows61b (List.mem_of_getElem? (i := 1) rfl)) (by decide)
theorem row_gaitFloorWrite : rowOf 0x6B30 2 =
    some ⟨0x6B30, 0x6B30, 2, 2, 0x05, .rw, 2, 0, [(0, 3)], 0, 0, 0⟩ :=
  rowOf_eq (mem_rows6B (List.mem_of_getElem? (i := 31) rfl)) (by decide)
theorem row_hostFeedData : rowOf 0x6101 1 =
    some ⟨0x6101, 0x6101, 1, 1, 0x0F, .wo, 4, 0, [], 0, 16777216, 0⟩ :=
  rowOf_eq (mem_rows61a (List.mem_of_getElem? (i := 10) rfl)) (by decide)
theorem row_ioBankStart (b : Fin 8) : rowOf (0x6910 + b.val) 2 =
    some ⟨0x6910, 0x6917, 2, 2, 0x05, .wo, 2, 0, [(1, 2)], 0, 0, 0⟩ :=
  rowOf_eq (mem_rows69 (List.mem_of_getElem? (i := 27) rfl)) (by simp only [ObjRow.covers, Bool.and_eq_true, decide_eq_true_eq]; omega)
theorem row_jtagOpenWrite : rowOf 0x6C20 1 =
    some ⟨0x6C20, 0x6C20, 1, 1, 0x01, .rwp, 3, 0, [], 0, 0, 0⟩ :=
  rowOf_eq (mem_rows6C (List.mem_of_getElem? (i := 15) rfl)) (by decide)
theorem row_keyClear : rowOf 0x6820 1 =
    some ⟨0x6820, 0x6820, 1, 1, 0x0F, .wo, 4, 0, [], 0, 16777216, 0⟩ :=
  rowOf_eq (mem_rows68 (List.mem_of_getElem? (i := 17) rfl)) (by decide)
theorem row_laneStart (n : Fin 48) : rowOf (0x6A00 + n.val) 7 =
    some ⟨0x6A00, 0x6A2F, 7, 7, 0x05, .wo, 2, 0, [(1, 2)], 0, 0, 0⟩ :=
  rowOf_eq (mem_rows6A (List.mem_of_getElem? (i := 7) rfl)) (by simp only [ObjRow.covers, Bool.and_eq_true, decide_eq_true_eq]; omega)
theorem row_libraryAreaWrite (size : Bool) : rowOf 0x6120 (if size then 2 else 1) =
    some (if size then ⟨0x6120, 0x6120, 2, 2, 0x1B, .rw, 4, 0x40000000, [], 0, 0, 0⟩ else ⟨0x6120, 0x6120, 1, 1, 0x1B, .rw, 4, 0x8C0000000, [], 0, 0, 0⟩) := by
  cases size
  · exact rowOf_eq (mem_rows61a (List.mem_of_getElem? (i := 17) rfl)) (by decide)
  · exact rowOf_eq (mem_rows61a (List.mem_of_getElem? (i := 18) rfl)) (by decide)
theorem row_loadEntry : rowOf 0x6130 1 =
    some ⟨0x6130, 0x6130, 1, 1, 0x05, .wo, 2, 0, [(0, 63)], 0, 0, 0⟩ :=
  rowOf_eq (mem_rows61a (List.mem_of_getElem? (i := 26) rfl)) (by decide)
theorem row_lockCmd : rowOf 0x6C20 3 =
    some ⟨0x6C20, 0x6C20, 3, 3, 0x05, .wo, 4, 0, [(1, 1)], 0, 0, 0⟩ :=
  rowOf_eq (mem_rows6C (List.mem_of_getElem? (i := 17) rfl)) (by decide)
theorem row_modeHold : rowOf 0x6001 0 =
    some ⟨0x6001, 0x6001, 0, 0, 0x05, .wo, 2, 0, [(1, 7)], 0, 0, 0⟩ :=
  rowOf_eq (mem_rows60 (List.mem_of_getElem? (i := 6) rfl)) (by decide)
theorem row_monitorClear (n : Fin 16) : rowOf (0x6D40 + n.val) 5 =
    some ⟨0x6D40, 0x6D4F, 5, 5, 0x05, .wo, 2, 0, [(1, 3)], 0, 0, 0⟩ :=
  rowOf_eq (mem_rows6Da (List.mem_of_getElem? (i := 35) rfl)) (by simp only [ObjRow.covers, Bool.and_eq_true, decide_eq_true_eq]; omega)
theorem row_moverStart : rowOf 0x6431 1 =
    some ⟨0x6431, 0x6431, 1, 1, 0x0F, .wo, 2, 0, [], 9, 9, 0⟩ :=
  rowOf_eq (mem_rows64 (List.mem_of_getElem? (i := 24) rfl)) (by decide)
theorem row_moverStop : rowOf 0x6431 2 =
    some ⟨0x6431, 0x6431, 2, 2, 0x06, .wo, 2, 0, [], 0, 0, 0⟩ :=
  rowOf_eq (mem_rows64 (List.mem_of_getElem? (i := 25) rfl)) (by decide)
theorem row_ownershipWrite (sector : Fin 48) : rowOf 0x6150 (sector.val + 1) =
    some ⟨0x6150, 0x6150, 1, 48, 0x05, .rwp, 4, 0, [(0, 7)], 0, 0, 0⟩ :=
  rowOf_eq (mem_rows61a (List.mem_of_getElem? (i := 39) rfl)) (by simp only [ObjRow.covers, Bool.and_eq_true, decide_eq_true_eq]; omega)
theorem row_panConflictClear : rowOf 0x6531 0 =
    some ⟨0x6531, 0x6531, 0, 0, 0x05, .wo, 2, 0, [(1, 1)], 0, 0, 0⟩ :=
  rowOf_eq (mem_rows65 (List.mem_of_getElem? (i := 29) rfl)) (by decide)
theorem row_panWindowEnable (n : Fin 16) : rowOf (0x6520 + n.val) 1 =
    some ⟨0x6520, 0x652F, 1, 1, 0x01, .rw, 2, 0, [], 0, 0, 0⟩ :=
  rowOf_eq (mem_rows65 (List.mem_of_getElem? (i := 18) rfl)) (by simp only [ObjRow.covers, Bool.and_eq_true, decide_eq_true_eq]; omega)
theorem row_planeClear : rowOf 0x6230 1 =
    some ⟨0x6230, 0x6230, 1, 1, 0x1B, .wo, 4, 0, [], 0, 0, 0⟩ :=
  rowOf_eq (mem_rows62 (List.mem_of_getElem? (i := 18) rfl)) (by decide)
theorem row_regionDisable (r : Fin 16) : rowOf (0x6810 + r.val) 7 =
    some ⟨0x6810, 0x681F, 7, 7, 0x05, .wo, 4, 0, [], 0, 0, 0⟩ :=
  rowOf_eq (mem_rows68 (List.mem_of_getElem? (i := 12) rfl)) (by simp only [ObjRow.covers, Bool.and_eq_true, decide_eq_true_eq]; omega)
theorem row_reservationWrite (n : Fin 64) : rowOf 0x6410 (n.val + 1) =
    some ⟨0x6410, 0x6410, 1, 64, 0x1B, .rw, 4, 0, [], 0, 0, 0xA0FF3F000000FFFF⟩ :=
  rowOf_eq (mem_rows64 (List.mem_of_getElem? (i := 6) rfl)) (by simp only [ObjRow.covers, Bool.and_eq_true, decide_eq_true_eq]; omega)
theorem row_retire : rowOf 0x6640 1 =
    some ⟨0x6640, 0x6640, 1, 1, 0x06, .wo, 3, 0, [], 0, 0, 0⟩ :=
  rowOf_eq (mem_rows66 (List.mem_of_getElem? (i := 26) rfl)) (by decide)
theorem row_retrain : rowOf 0x6640 2 =
    some ⟨0x6640, 0x6640, 2, 2, 0x07, .wo, 3, 0, [], 0, 0, 0⟩ :=
  rowOf_eq (mem_rows66 (List.mem_of_getElem? (i := 27) rfl)) (by decide)
theorem row_sampleBufferClear : rowOf 0x6D30 6 =
    some ⟨0x6D30, 0x6D30, 6, 6, 0x05, .wo, 2, 0, [(1, 1)], 0, 0, 0⟩ :=
  rowOf_eq (mem_rows6Da (List.mem_of_getElem? (i := 26) rfl)) (by decide)
theorem row_sealCommand (channel : Fin 16) : rowOf 0x7010 (0x31 + channel.val) =
    some ⟨0x7010, 0x7010, 49, 64, 0x07, .wo, 2, 0, [], 0, 0, 0⟩ :=
  rowOf_eq (mem_rows70 (List.mem_of_getElem? (i := 15) rfl)) (by simp only [ObjRow.covers, Bool.and_eq_true, decide_eq_true_eq]; omega)
theorem row_sealKey : rowOf 0x7008 0 =
    some ⟨0x7008, 0x7008, 0, 0, 0x0F, .wo, 6, 0, [], 40, 40, 0⟩ :=
  rowOf_eq (mem_rows70 (List.mem_of_getElem? (i := 12) rfl)) (by decide)
theorem row_sealParamWrite : rowOf 0x7024 0 =
    some ⟨0x7024, 0x7024, 0, 0, 0x0F, .wo, 6, 0, [], 20, 20, 0⟩ :=
  rowOf_eq (mem_rows70 (List.mem_of_getElem? (i := 18) rfl)) (by decide)
theorem row_sealProvision : rowOf 0x7001 0 =
    some ⟨0x7001, 0x7001, 0, 0, 0x0F, .wo, 4, 0, [], 88, 88, 0⟩ :=
  rowOf_eq (mem_rows70 (List.mem_of_getElem? (i := 7) rfl)) (by decide)
theorem row_shift : rowOf 0x6302 1 =
    some ⟨0x6302, 0x6302, 1, 1, 0x06, .wo, 3, 0, [], 0, 0, 0⟩ :=
  rowOf_eq (mem_rows63 (List.mem_of_getElem? (i := 5) rfl)) (by decide)
theorem row_snapshotNow : rowOf 0x6D22 4 =
    some ⟨0x6D22, 0x6D22, 4, 4, 0x05, .wo, 2, 0, [(1, 1)], 0, 0, 0⟩ :=
  rowOf_eq (mem_rows6Da (List.mem_of_getElem? (i := 16) rfl)) (by decide)
theorem row_sparesWrite : rowOf 0x6601 1 =
    some ⟨0x6601, 0x6601, 1, 1, 0x01, .rwp, 4, 1, [], 0, 0, 0⟩ :=
  rowOf_eq (mem_rows66 (List.mem_of_getElem? (i := 8) rfl)) (by decide)
theorem row_startupOrderWrite : rowOf 0x6110 1 =
    some ⟨0x6110, 0x6110, 1, 1, 0x0F, .rw, 4, 0, [], 32, 32, 0⟩ :=
  rowOf_eq (mem_rows61a (List.mem_of_getElem? (i := 14) rfl)) (by decide)
theorem row_statClearAll : rowOf 0x6420 3 =
    some ⟨0x6420, 0x6420, 3, 3, 0x05, .wo, 2, 0, [(1, 2)], 0, 0, 0⟩ :=
  rowOf_eq (mem_rows64 (List.mem_of_getElem? (i := 10) rfl)) (by decide)
theorem row_teamMembersWrite (team : Fin 16) : rowOf (0x6210 + team.val) 1 =
    some ⟨0x6210, 0x621F, 1, 1, 0x1B, .rwp, 4, 0, [], 0, 0, 0xFFFFFFFFFFFFFFFF⟩ :=
  rowOf_eq (mem_rows62 (List.mem_of_getElem? (i := 3) rfl)) (by simp only [ObjRow.covers, Bool.and_eq_true, decide_eq_true_eq]; omega)
theorem row_testRunStart : rowOf 0x6C01 3 =
    some ⟨0x6C01, 0x6C01, 3, 3, 0x05, .wo, 3, 0, [(1, 1)], 0, 0, 0⟩ :=
  rowOf_eq (mem_rows6C (List.mem_of_getElem? (i := 7) rfl)) (by decide)
theorem row_timeSet : rowOf 0x6902 1 =
    some ⟨0x6902, 0x6902, 1, 1, 0x1B, .wo, 3, 0, [], 0, 0, 0⟩ :=
  rowOf_eq (mem_rows69 (List.mem_of_getElem? (i := 24) rfl)) (by decide)
theorem row_verify : rowOf 0x6730 2 =
    some ⟨0x6730, 0x6730, 2, 2, 0x1B, .wo, 2, 0, [], 0, 0, 0⟩ :=
  rowOf_eq (mem_rows67 (List.mem_of_getElem? (i := 18) rfl)) (by decide)
theorem row_waleFlush : rowOf 0x6501 1 =
    some ⟨0x6501, 0x6501, 1, 1, 0x06, .wo, 2, 0, [], 0, 0, 0⟩ :=
  rowOf_eq (mem_rows65 (List.mem_of_getElem? (i := 6) rfl)) (by decide)
theorem row_waleInvalidate : rowOf 0x6501 2 =
    some ⟨0x6501, 0x6501, 2, 2, 0x06, .wo, 3, 0, [], 0, 0, 0⟩ :=
  rowOf_eq (mem_rows65 (List.mem_of_getElem? (i := 7) rfl)) (by decide)
theorem row_writeData : rowOf 0x6120 6 =
    some ⟨0x6120, 0x6120, 6, 6, 0x0F, .wo, 4, 0, [], 0, 16777216, 0⟩ :=
  rowOf_eq (mem_rows61a (List.mem_of_getElem? (i := 22) rfl)) (by decide)
theorem row_writeEntry : rowOf 0x6120 5 =
    some ⟨0x6120, 0x6120, 5, 5, 0x05, .rw, 4, 255, [(0, 63), (255, 255)], 0, 0, 0⟩ :=
  rowOf_eq (mem_rows61a (List.mem_of_getElem? (i := 21) rfl)) (by decide)

end Sys2Proof.Machine
end

