-- ==== Sys2Proof/Laws/State.lean ====
section
/-! SUPPORT. The named updates of State: what each part holds after each update. -/

namespace Sys2Proof.Machine

variable (s : State)

/-! #### State.emit -/

@[simp] theorem State.emit_pending (o : Out) : (s.emit o).pending = s.pending := rfl
@[simp] theorem State.emit_outs (o : Out) : (s.emit o).outs = s.outs ++ [o] := rfl
@[simp] theorem State.emit_freeCtr (o : Out) : (s.emit o).freeCtr = s.freeCtr := rfl
@[simp] theorem State.emit_fuses (o : Out) : (s.emit o).fuses = s.fuses := rfl
@[simp] theorem State.emit_obj (o : Out) : (s.emit o).obj = s.obj := rfl
@[simp] theorem State.emit_dict (o : Out) : (s.emit o).dict = s.dict := rfl
@[simp] theorem State.emit_clk (o : Out) : (s.emit o).clk = s.clk := rfl
@[simp] theorem State.emit_fab (o : Out) : (s.emit o).fab = s.fab := rfl
@[simp] theorem State.emit_edge (o : Out) : (s.emit o).edge = s.edge := rfl
@[simp] theorem State.emit_planes (o : Out) : (s.emit o).planes = s.planes := rfl
@[simp] theorem State.emit_frames (o : Out) : (s.emit o).frames = s.frames := rfl
@[simp] theorem State.emit_stage (o : Out) : (s.emit o).stage = s.stage := rfl
@[simp] theorem State.emit_grants (o : Out) : (s.emit o).grants = s.grants := rfl
@[simp] theorem State.emit_teams (o : Out) : (s.emit o).teams = s.teams := rfl
@[simp] theorem State.emit_cap (o : Out) : (s.emit o).cap = s.cap := rfl
@[simp] theorem State.emit_loader (o : Out) : (s.emit o).loader = s.loader := rfl
@[simp] theorem State.emit_boot (o : Out) : (s.emit o).boot = s.boot := rfl
@[simp] theorem State.emit_chain (o : Out) : (s.emit o).chain = s.chain := rfl
@[simp] theorem State.emit_noc (o : Out) : (s.emit o).noc = s.noc := rfl
@[simp] theorem State.emit_wale (o : Out) : (s.emit o).wale = s.wale := rfl
@[simp] theorem State.emit_pan (o : Out) : (s.emit o).pan = s.pan := rfl
@[simp] theorem State.emit_dram (o : Out) : (s.emit o).dram = s.dram := rfl
@[simp] theorem State.emit_ecc (o : Out) : (s.emit o).ecc = s.ecc := rfl
@[simp] theorem State.emit_crypt (o : Out) : (s.emit o).crypt = s.crypt := rfl
@[simp] theorem State.emit_time (o : Out) : (s.emit o).time = s.time := rfl
@[simp] theorem State.emit_banks (o : Out) : (s.emit o).banks = s.banks := rfl
@[simp] theorem State.emit_pins (o : Out) : (s.emit o).pins = s.pins := rfl
@[simp] theorem State.emit_lanes (o : Out) : (s.emit o).lanes = s.lanes := rfl
@[simp] theorem State.emit_sealed (o : Out) : (s.emit o).sealed = s.sealed := rfl
@[simp] theorem State.emit_power (o : Out) : (s.emit o).power = s.power := rfl
@[simp] theorem State.emit_board (o : Out) : (s.emit o).board = s.board := rfl
@[simp] theorem State.emit_test (o : Out) : (s.emit o).test = s.test := rfl
@[simp] theorem State.emit_obs (o : Out) : (s.emit o).obs = s.obs := rfl

/-! #### State.drew -/

@[simp] theorem State.drew_pending (n : Nat) : (s.drew n).pending = s.pending := rfl
@[simp] theorem State.drew_outs (n : Nat) : (s.drew n).outs = s.outs := rfl
@[simp] theorem State.drew_freeCtr (n : Nat) : (s.drew n).freeCtr = s.freeCtr + n := rfl
@[simp] theorem State.drew_fuses (n : Nat) : (s.drew n).fuses = s.fuses := rfl
@[simp] theorem State.drew_obj (n : Nat) : (s.drew n).obj = s.obj := rfl
@[simp] theorem State.drew_dict (n : Nat) : (s.drew n).dict = s.dict := rfl
@[simp] theorem State.drew_clk (n : Nat) : (s.drew n).clk = s.clk := rfl
@[simp] theorem State.drew_fab (n : Nat) : (s.drew n).fab = s.fab := rfl
@[simp] theorem State.drew_edge (n : Nat) : (s.drew n).edge = s.edge := rfl
@[simp] theorem State.drew_planes (n : Nat) : (s.drew n).planes = s.planes := rfl
@[simp] theorem State.drew_frames (n : Nat) : (s.drew n).frames = s.frames := rfl
@[simp] theorem State.drew_stage (n : Nat) : (s.drew n).stage = s.stage := rfl
@[simp] theorem State.drew_grants (n : Nat) : (s.drew n).grants = s.grants := rfl
@[simp] theorem State.drew_teams (n : Nat) : (s.drew n).teams = s.teams := rfl
@[simp] theorem State.drew_cap (n : Nat) : (s.drew n).cap = s.cap := rfl
@[simp] theorem State.drew_loader (n : Nat) : (s.drew n).loader = s.loader := rfl
@[simp] theorem State.drew_boot (n : Nat) : (s.drew n).boot = s.boot := rfl
@[simp] theorem State.drew_chain (n : Nat) : (s.drew n).chain = s.chain := rfl
@[simp] theorem State.drew_noc (n : Nat) : (s.drew n).noc = s.noc := rfl
@[simp] theorem State.drew_wale (n : Nat) : (s.drew n).wale = s.wale := rfl
@[simp] theorem State.drew_pan (n : Nat) : (s.drew n).pan = s.pan := rfl
@[simp] theorem State.drew_dram (n : Nat) : (s.drew n).dram = s.dram := rfl
@[simp] theorem State.drew_ecc (n : Nat) : (s.drew n).ecc = s.ecc := rfl
@[simp] theorem State.drew_crypt (n : Nat) : (s.drew n).crypt = s.crypt := rfl
@[simp] theorem State.drew_time (n : Nat) : (s.drew n).time = s.time := rfl
@[simp] theorem State.drew_banks (n : Nat) : (s.drew n).banks = s.banks := rfl
@[simp] theorem State.drew_pins (n : Nat) : (s.drew n).pins = s.pins := rfl
@[simp] theorem State.drew_lanes (n : Nat) : (s.drew n).lanes = s.lanes := rfl
@[simp] theorem State.drew_sealed (n : Nat) : (s.drew n).sealed = s.sealed := rfl
@[simp] theorem State.drew_power (n : Nat) : (s.drew n).power = s.power := rfl
@[simp] theorem State.drew_board (n : Nat) : (s.drew n).board = s.board := rfl
@[simp] theorem State.drew_test (n : Nat) : (s.drew n).test = s.test := rfl
@[simp] theorem State.drew_obs (n : Nat) : (s.drew n).obs = s.obs := rfl

/-! #### State.putObj -/

@[simp] theorem State.putObj_pending (i j : Nat) (bs : List Byte) : (s.putObj i j bs).pending = s.pending := rfl
@[simp] theorem State.putObj_outs (i j : Nat) (bs : List Byte) : (s.putObj i j bs).outs = s.outs := rfl
@[simp] theorem State.putObj_freeCtr (i j : Nat) (bs : List Byte) : (s.putObj i j bs).freeCtr = s.freeCtr := rfl
@[simp] theorem State.putObj_fuses (i j : Nat) (bs : List Byte) : (s.putObj i j bs).fuses = s.fuses := rfl
@[simp] theorem State.putObj_obj (i j : Nat) (bs : List Byte) : (s.putObj i j bs).obj = AMap.set {} s.obj (objKey i j) ⟨bs, if isRwp i j then complBytes bs else []⟩ := rfl
@[simp] theorem State.putObj_dict (i j : Nat) (bs : List Byte) : (s.putObj i j bs).dict = s.dict := rfl
@[simp] theorem State.putObj_clk (i j : Nat) (bs : List Byte) : (s.putObj i j bs).clk = s.clk := rfl
@[simp] theorem State.putObj_fab (i j : Nat) (bs : List Byte) : (s.putObj i j bs).fab = s.fab := rfl
@[simp] theorem State.putObj_edge (i j : Nat) (bs : List Byte) : (s.putObj i j bs).edge = s.edge := rfl
@[simp] theorem State.putObj_planes (i j : Nat) (bs : List Byte) : (s.putObj i j bs).planes = s.planes := rfl
@[simp] theorem State.putObj_frames (i j : Nat) (bs : List Byte) : (s.putObj i j bs).frames = s.frames := rfl
@[simp] theorem State.putObj_stage (i j : Nat) (bs : List Byte) : (s.putObj i j bs).stage = s.stage := rfl
@[simp] theorem State.putObj_grants (i j : Nat) (bs : List Byte) : (s.putObj i j bs).grants = s.grants := rfl
@[simp] theorem State.putObj_teams (i j : Nat) (bs : List Byte) : (s.putObj i j bs).teams = s.teams := rfl
@[simp] theorem State.putObj_cap (i j : Nat) (bs : List Byte) : (s.putObj i j bs).cap = s.cap := rfl
@[simp] theorem State.putObj_loader (i j : Nat) (bs : List Byte) : (s.putObj i j bs).loader = s.loader := rfl
@[simp] theorem State.putObj_boot (i j : Nat) (bs : List Byte) : (s.putObj i j bs).boot = s.boot := rfl
@[simp] theorem State.putObj_chain (i j : Nat) (bs : List Byte) : (s.putObj i j bs).chain = s.chain := rfl
@[simp] theorem State.putObj_noc (i j : Nat) (bs : List Byte) : (s.putObj i j bs).noc = s.noc := rfl
@[simp] theorem State.putObj_wale (i j : Nat) (bs : List Byte) : (s.putObj i j bs).wale = s.wale := rfl
@[simp] theorem State.putObj_pan (i j : Nat) (bs : List Byte) : (s.putObj i j bs).pan = s.pan := rfl
@[simp] theorem State.putObj_dram (i j : Nat) (bs : List Byte) : (s.putObj i j bs).dram = s.dram := rfl
@[simp] theorem State.putObj_ecc (i j : Nat) (bs : List Byte) : (s.putObj i j bs).ecc = s.ecc := rfl
@[simp] theorem State.putObj_crypt (i j : Nat) (bs : List Byte) : (s.putObj i j bs).crypt = s.crypt := rfl
@[simp] theorem State.putObj_time (i j : Nat) (bs : List Byte) : (s.putObj i j bs).time = s.time := rfl
@[simp] theorem State.putObj_banks (i j : Nat) (bs : List Byte) : (s.putObj i j bs).banks = s.banks := rfl
@[simp] theorem State.putObj_pins (i j : Nat) (bs : List Byte) : (s.putObj i j bs).pins = s.pins := rfl
@[simp] theorem State.putObj_lanes (i j : Nat) (bs : List Byte) : (s.putObj i j bs).lanes = s.lanes := rfl
@[simp] theorem State.putObj_sealed (i j : Nat) (bs : List Byte) : (s.putObj i j bs).sealed = s.sealed := rfl
@[simp] theorem State.putObj_power (i j : Nat) (bs : List Byte) : (s.putObj i j bs).power = s.power := rfl
@[simp] theorem State.putObj_board (i j : Nat) (bs : List Byte) : (s.putObj i j bs).board = s.board := rfl
@[simp] theorem State.putObj_test (i j : Nat) (bs : List Byte) : (s.putObj i j bs).test = s.test := rfl
@[simp] theorem State.putObj_obs (i j : Nat) (bs : List Byte) : (s.putObj i j bs).obs = s.obs := rfl

/-! #### State.resetObj -/

@[simp] theorem State.resetObj_pending (i j : Nat) : (s.resetObj i j).pending = s.pending := rfl
@[simp] theorem State.resetObj_outs (i j : Nat) : (s.resetObj i j).outs = s.outs := rfl
@[simp] theorem State.resetObj_freeCtr (i j : Nat) : (s.resetObj i j).freeCtr = s.freeCtr := rfl
@[simp] theorem State.resetObj_fuses (i j : Nat) : (s.resetObj i j).fuses = s.fuses := rfl
@[simp] theorem State.resetObj_obj (i j : Nat) : (s.resetObj i j).obj = AMap.del s.obj (objKey i j) := rfl
@[simp] theorem State.resetObj_dict (i j : Nat) : (s.resetObj i j).dict = s.dict := rfl
@[simp] theorem State.resetObj_clk (i j : Nat) : (s.resetObj i j).clk = s.clk := rfl
@[simp] theorem State.resetObj_fab (i j : Nat) : (s.resetObj i j).fab = s.fab := rfl
@[simp] theorem State.resetObj_edge (i j : Nat) : (s.resetObj i j).edge = s.edge := rfl
@[simp] theorem State.resetObj_planes (i j : Nat) : (s.resetObj i j).planes = s.planes := rfl
@[simp] theorem State.resetObj_frames (i j : Nat) : (s.resetObj i j).frames = s.frames := rfl
@[simp] theorem State.resetObj_stage (i j : Nat) : (s.resetObj i j).stage = s.stage := rfl
@[simp] theorem State.resetObj_grants (i j : Nat) : (s.resetObj i j).grants = s.grants := rfl
@[simp] theorem State.resetObj_teams (i j : Nat) : (s.resetObj i j).teams = s.teams := rfl
@[simp] theorem State.resetObj_cap (i j : Nat) : (s.resetObj i j).cap = s.cap := rfl
@[simp] theorem State.resetObj_loader (i j : Nat) : (s.resetObj i j).loader = s.loader := rfl
@[simp] theorem State.resetObj_boot (i j : Nat) : (s.resetObj i j).boot = s.boot := rfl
@[simp] theorem State.resetObj_chain (i j : Nat) : (s.resetObj i j).chain = s.chain := rfl
@[simp] theorem State.resetObj_noc (i j : Nat) : (s.resetObj i j).noc = s.noc := rfl
@[simp] theorem State.resetObj_wale (i j : Nat) : (s.resetObj i j).wale = s.wale := rfl
@[simp] theorem State.resetObj_pan (i j : Nat) : (s.resetObj i j).pan = s.pan := rfl
@[simp] theorem State.resetObj_dram (i j : Nat) : (s.resetObj i j).dram = s.dram := rfl
@[simp] theorem State.resetObj_ecc (i j : Nat) : (s.resetObj i j).ecc = s.ecc := rfl
@[simp] theorem State.resetObj_crypt (i j : Nat) : (s.resetObj i j).crypt = s.crypt := rfl
@[simp] theorem State.resetObj_time (i j : Nat) : (s.resetObj i j).time = s.time := rfl
@[simp] theorem State.resetObj_banks (i j : Nat) : (s.resetObj i j).banks = s.banks := rfl
@[simp] theorem State.resetObj_pins (i j : Nat) : (s.resetObj i j).pins = s.pins := rfl
@[simp] theorem State.resetObj_lanes (i j : Nat) : (s.resetObj i j).lanes = s.lanes := rfl
@[simp] theorem State.resetObj_sealed (i j : Nat) : (s.resetObj i j).sealed = s.sealed := rfl
@[simp] theorem State.resetObj_power (i j : Nat) : (s.resetObj i j).power = s.power := rfl
@[simp] theorem State.resetObj_board (i j : Nat) : (s.resetObj i j).board = s.board := rfl
@[simp] theorem State.resetObj_test (i j : Nat) : (s.resetObj i j).test = s.test := rfl
@[simp] theorem State.resetObj_obs (i j : Nat) : (s.resetObj i j).obs = s.obs := rfl

/-! #### State.setSession -/

@[simp] theorem State.setSession_pending (n : Nat) (x : Session) : (s.setSession n x).pending = s.pending := rfl
@[simp] theorem State.setSession_outs (n : Nat) (x : Session) : (s.setSession n x).outs = s.outs := rfl
@[simp] theorem State.setSession_freeCtr (n : Nat) (x : Session) : (s.setSession n x).freeCtr = s.freeCtr := rfl
@[simp] theorem State.setSession_fuses (n : Nat) (x : Session) : (s.setSession n x).fuses = s.fuses := rfl
@[simp] theorem State.setSession_obj (n : Nat) (x : Session) : (s.setSession n x).obj = s.obj := rfl
@[simp] theorem State.setSession_dict (n : Nat) (x : Session) : (s.setSession n x).dict = { s.dict with sessions := AMap.set {} s.dict.sessions n x } := rfl
@[simp] theorem State.setSession_clk (n : Nat) (x : Session) : (s.setSession n x).clk = s.clk := rfl
@[simp] theorem State.setSession_fab (n : Nat) (x : Session) : (s.setSession n x).fab = s.fab := rfl
@[simp] theorem State.setSession_edge (n : Nat) (x : Session) : (s.setSession n x).edge = s.edge := rfl
@[simp] theorem State.setSession_planes (n : Nat) (x : Session) : (s.setSession n x).planes = s.planes := rfl
@[simp] theorem State.setSession_frames (n : Nat) (x : Session) : (s.setSession n x).frames = s.frames := rfl
@[simp] theorem State.setSession_stage (n : Nat) (x : Session) : (s.setSession n x).stage = s.stage := rfl
@[simp] theorem State.setSession_grants (n : Nat) (x : Session) : (s.setSession n x).grants = s.grants := rfl
@[simp] theorem State.setSession_teams (n : Nat) (x : Session) : (s.setSession n x).teams = s.teams := rfl
@[simp] theorem State.setSession_cap (n : Nat) (x : Session) : (s.setSession n x).cap = s.cap := rfl
@[simp] theorem State.setSession_loader (n : Nat) (x : Session) : (s.setSession n x).loader = s.loader := rfl
@[simp] theorem State.setSession_boot (n : Nat) (x : Session) : (s.setSession n x).boot = s.boot := rfl
@[simp] theorem State.setSession_chain (n : Nat) (x : Session) : (s.setSession n x).chain = s.chain := rfl
@[simp] theorem State.setSession_noc (n : Nat) (x : Session) : (s.setSession n x).noc = s.noc := rfl
@[simp] theorem State.setSession_wale (n : Nat) (x : Session) : (s.setSession n x).wale = s.wale := rfl
@[simp] theorem State.setSession_pan (n : Nat) (x : Session) : (s.setSession n x).pan = s.pan := rfl
@[simp] theorem State.setSession_dram (n : Nat) (x : Session) : (s.setSession n x).dram = s.dram := rfl
@[simp] theorem State.setSession_ecc (n : Nat) (x : Session) : (s.setSession n x).ecc = s.ecc := rfl
@[simp] theorem State.setSession_crypt (n : Nat) (x : Session) : (s.setSession n x).crypt = s.crypt := rfl
@[simp] theorem State.setSession_time (n : Nat) (x : Session) : (s.setSession n x).time = s.time := rfl
@[simp] theorem State.setSession_banks (n : Nat) (x : Session) : (s.setSession n x).banks = s.banks := rfl
@[simp] theorem State.setSession_pins (n : Nat) (x : Session) : (s.setSession n x).pins = s.pins := rfl
@[simp] theorem State.setSession_lanes (n : Nat) (x : Session) : (s.setSession n x).lanes = s.lanes := rfl
@[simp] theorem State.setSession_sealed (n : Nat) (x : Session) : (s.setSession n x).sealed = s.sealed := rfl
@[simp] theorem State.setSession_power (n : Nat) (x : Session) : (s.setSession n x).power = s.power := rfl
@[simp] theorem State.setSession_board (n : Nat) (x : Session) : (s.setSession n x).board = s.board := rfl
@[simp] theorem State.setSession_test (n : Nat) (x : Session) : (s.setSession n x).test = s.test := rfl
@[simp] theorem State.setSession_obs (n : Nat) (x : Session) : (s.setSession n x).obs = s.obs := rfl

/-! #### State.setPlane -/

@[simp] theorem State.setPlane_pending (g p : Nat) (x : PlaneState) : (s.setPlane g p x).pending = s.pending := rfl
@[simp] theorem State.setPlane_outs (g p : Nat) (x : PlaneState) : (s.setPlane g p x).outs = s.outs := rfl
@[simp] theorem State.setPlane_freeCtr (g p : Nat) (x : PlaneState) : (s.setPlane g p x).freeCtr = s.freeCtr := rfl
@[simp] theorem State.setPlane_fuses (g p : Nat) (x : PlaneState) : (s.setPlane g p x).fuses = s.fuses := rfl
@[simp] theorem State.setPlane_obj (g p : Nat) (x : PlaneState) : (s.setPlane g p x).obj = s.obj := rfl
@[simp] theorem State.setPlane_dict (g p : Nat) (x : PlaneState) : (s.setPlane g p x).dict = s.dict := rfl
@[simp] theorem State.setPlane_clk (g p : Nat) (x : PlaneState) : (s.setPlane g p x).clk = s.clk := rfl
@[simp] theorem State.setPlane_fab (g p : Nat) (x : PlaneState) : (s.setPlane g p x).fab = s.fab := rfl
@[simp] theorem State.setPlane_edge (g p : Nat) (x : PlaneState) : (s.setPlane g p x).edge = s.edge := rfl
@[simp] theorem State.setPlane_planes (g p : Nat) (x : PlaneState) : (s.setPlane g p x).planes = AMap.upd {} s.planes (g * 8 + p) fun y => { y with state := x } := rfl
@[simp] theorem State.setPlane_frames (g p : Nat) (x : PlaneState) : (s.setPlane g p x).frames = s.frames := rfl
@[simp] theorem State.setPlane_stage (g p : Nat) (x : PlaneState) : (s.setPlane g p x).stage = s.stage := rfl
@[simp] theorem State.setPlane_grants (g p : Nat) (x : PlaneState) : (s.setPlane g p x).grants = s.grants := rfl
@[simp] theorem State.setPlane_teams (g p : Nat) (x : PlaneState) : (s.setPlane g p x).teams = s.teams := rfl
@[simp] theorem State.setPlane_cap (g p : Nat) (x : PlaneState) : (s.setPlane g p x).cap = s.cap := rfl
@[simp] theorem State.setPlane_loader (g p : Nat) (x : PlaneState) : (s.setPlane g p x).loader = s.loader := rfl
@[simp] theorem State.setPlane_boot (g p : Nat) (x : PlaneState) : (s.setPlane g p x).boot = s.boot := rfl
@[simp] theorem State.setPlane_chain (g p : Nat) (x : PlaneState) : (s.setPlane g p x).chain = s.chain := rfl
@[simp] theorem State.setPlane_noc (g p : Nat) (x : PlaneState) : (s.setPlane g p x).noc = s.noc := rfl
@[simp] theorem State.setPlane_wale (g p : Nat) (x : PlaneState) : (s.setPlane g p x).wale = s.wale := rfl
@[simp] theorem State.setPlane_pan (g p : Nat) (x : PlaneState) : (s.setPlane g p x).pan = s.pan := rfl
@[simp] theorem State.setPlane_dram (g p : Nat) (x : PlaneState) : (s.setPlane g p x).dram = s.dram := rfl
@[simp] theorem State.setPlane_ecc (g p : Nat) (x : PlaneState) : (s.setPlane g p x).ecc = s.ecc := rfl
@[simp] theorem State.setPlane_crypt (g p : Nat) (x : PlaneState) : (s.setPlane g p x).crypt = s.crypt := rfl
@[simp] theorem State.setPlane_time (g p : Nat) (x : PlaneState) : (s.setPlane g p x).time = s.time := rfl
@[simp] theorem State.setPlane_banks (g p : Nat) (x : PlaneState) : (s.setPlane g p x).banks = s.banks := rfl
@[simp] theorem State.setPlane_pins (g p : Nat) (x : PlaneState) : (s.setPlane g p x).pins = s.pins := rfl
@[simp] theorem State.setPlane_lanes (g p : Nat) (x : PlaneState) : (s.setPlane g p x).lanes = s.lanes := rfl
@[simp] theorem State.setPlane_sealed (g p : Nat) (x : PlaneState) : (s.setPlane g p x).sealed = s.sealed := rfl
@[simp] theorem State.setPlane_power (g p : Nat) (x : PlaneState) : (s.setPlane g p x).power = s.power := rfl
@[simp] theorem State.setPlane_board (g p : Nat) (x : PlaneState) : (s.setPlane g p x).board = s.board := rfl
@[simp] theorem State.setPlane_test (g p : Nat) (x : PlaneState) : (s.setPlane g p x).test = s.test := rfl
@[simp] theorem State.setPlane_obs (g p : Nat) (x : PlaneState) : (s.setPlane g p x).obs = s.obs := rfl

/-! #### State.updTeam -/

@[simp] theorem State.updTeam_pending (t : Nat) (f : Team → Team) : (s.updTeam t f).pending = s.pending := rfl
@[simp] theorem State.updTeam_outs (t : Nat) (f : Team → Team) : (s.updTeam t f).outs = s.outs := rfl
@[simp] theorem State.updTeam_freeCtr (t : Nat) (f : Team → Team) : (s.updTeam t f).freeCtr = s.freeCtr := rfl
@[simp] theorem State.updTeam_fuses (t : Nat) (f : Team → Team) : (s.updTeam t f).fuses = s.fuses := rfl
@[simp] theorem State.updTeam_obj (t : Nat) (f : Team → Team) : (s.updTeam t f).obj = s.obj := rfl
@[simp] theorem State.updTeam_dict (t : Nat) (f : Team → Team) : (s.updTeam t f).dict = s.dict := rfl
@[simp] theorem State.updTeam_clk (t : Nat) (f : Team → Team) : (s.updTeam t f).clk = s.clk := rfl
@[simp] theorem State.updTeam_fab (t : Nat) (f : Team → Team) : (s.updTeam t f).fab = s.fab := rfl
@[simp] theorem State.updTeam_edge (t : Nat) (f : Team → Team) : (s.updTeam t f).edge = s.edge := rfl
@[simp] theorem State.updTeam_planes (t : Nat) (f : Team → Team) : (s.updTeam t f).planes = s.planes := rfl
@[simp] theorem State.updTeam_frames (t : Nat) (f : Team → Team) : (s.updTeam t f).frames = s.frames := rfl
@[simp] theorem State.updTeam_stage (t : Nat) (f : Team → Team) : (s.updTeam t f).stage = s.stage := rfl
@[simp] theorem State.updTeam_grants (t : Nat) (f : Team → Team) : (s.updTeam t f).grants = s.grants := rfl
@[simp] theorem State.updTeam_teams (t : Nat) (f : Team → Team) : (s.updTeam t f).teams = AMap.upd {} s.teams t f := rfl
@[simp] theorem State.updTeam_cap (t : Nat) (f : Team → Team) : (s.updTeam t f).cap = s.cap := rfl
@[simp] theorem State.updTeam_loader (t : Nat) (f : Team → Team) : (s.updTeam t f).loader = s.loader := rfl
@[simp] theorem State.updTeam_boot (t : Nat) (f : Team → Team) : (s.updTeam t f).boot = s.boot := rfl
@[simp] theorem State.updTeam_chain (t : Nat) (f : Team → Team) : (s.updTeam t f).chain = s.chain := rfl
@[simp] theorem State.updTeam_noc (t : Nat) (f : Team → Team) : (s.updTeam t f).noc = s.noc := rfl
@[simp] theorem State.updTeam_wale (t : Nat) (f : Team → Team) : (s.updTeam t f).wale = s.wale := rfl
@[simp] theorem State.updTeam_pan (t : Nat) (f : Team → Team) : (s.updTeam t f).pan = s.pan := rfl
@[simp] theorem State.updTeam_dram (t : Nat) (f : Team → Team) : (s.updTeam t f).dram = s.dram := rfl
@[simp] theorem State.updTeam_ecc (t : Nat) (f : Team → Team) : (s.updTeam t f).ecc = s.ecc := rfl
@[simp] theorem State.updTeam_crypt (t : Nat) (f : Team → Team) : (s.updTeam t f).crypt = s.crypt := rfl
@[simp] theorem State.updTeam_time (t : Nat) (f : Team → Team) : (s.updTeam t f).time = s.time := rfl
@[simp] theorem State.updTeam_banks (t : Nat) (f : Team → Team) : (s.updTeam t f).banks = s.banks := rfl
@[simp] theorem State.updTeam_pins (t : Nat) (f : Team → Team) : (s.updTeam t f).pins = s.pins := rfl
@[simp] theorem State.updTeam_lanes (t : Nat) (f : Team → Team) : (s.updTeam t f).lanes = s.lanes := rfl
@[simp] theorem State.updTeam_sealed (t : Nat) (f : Team → Team) : (s.updTeam t f).sealed = s.sealed := rfl
@[simp] theorem State.updTeam_power (t : Nat) (f : Team → Team) : (s.updTeam t f).power = s.power := rfl
@[simp] theorem State.updTeam_board (t : Nat) (f : Team → Team) : (s.updTeam t f).board = s.board := rfl
@[simp] theorem State.updTeam_test (t : Nat) (f : Team → Team) : (s.updTeam t f).test = s.test := rfl
@[simp] theorem State.updTeam_obs (t : Nat) (f : Team → Team) : (s.updTeam t f).obs = s.obs := rfl

/-! #### State.updEngine -/

@[simp] theorem State.updEngine_pending (w : Nat) (f : StageEngine → StageEngine) : (s.updEngine w f).pending = s.pending := rfl
@[simp] theorem State.updEngine_outs (w : Nat) (f : StageEngine → StageEngine) : (s.updEngine w f).outs = s.outs := rfl
@[simp] theorem State.updEngine_freeCtr (w : Nat) (f : StageEngine → StageEngine) : (s.updEngine w f).freeCtr = s.freeCtr := rfl
@[simp] theorem State.updEngine_fuses (w : Nat) (f : StageEngine → StageEngine) : (s.updEngine w f).fuses = s.fuses := rfl
@[simp] theorem State.updEngine_obj (w : Nat) (f : StageEngine → StageEngine) : (s.updEngine w f).obj = s.obj := rfl
@[simp] theorem State.updEngine_dict (w : Nat) (f : StageEngine → StageEngine) : (s.updEngine w f).dict = s.dict := rfl
@[simp] theorem State.updEngine_clk (w : Nat) (f : StageEngine → StageEngine) : (s.updEngine w f).clk = s.clk := rfl
@[simp] theorem State.updEngine_fab (w : Nat) (f : StageEngine → StageEngine) : (s.updEngine w f).fab = s.fab := rfl
@[simp] theorem State.updEngine_edge (w : Nat) (f : StageEngine → StageEngine) : (s.updEngine w f).edge = s.edge := rfl
@[simp] theorem State.updEngine_planes (w : Nat) (f : StageEngine → StageEngine) : (s.updEngine w f).planes = s.planes := rfl
@[simp] theorem State.updEngine_frames (w : Nat) (f : StageEngine → StageEngine) : (s.updEngine w f).frames = s.frames := rfl
@[simp] theorem State.updEngine_stage (w : Nat) (f : StageEngine → StageEngine) : (s.updEngine w f).stage = AMap.upd {} s.stage w f := rfl
@[simp] theorem State.updEngine_grants (w : Nat) (f : StageEngine → StageEngine) : (s.updEngine w f).grants = s.grants := rfl
@[simp] theorem State.updEngine_teams (w : Nat) (f : StageEngine → StageEngine) : (s.updEngine w f).teams = s.teams := rfl
@[simp] theorem State.updEngine_cap (w : Nat) (f : StageEngine → StageEngine) : (s.updEngine w f).cap = s.cap := rfl
@[simp] theorem State.updEngine_loader (w : Nat) (f : StageEngine → StageEngine) : (s.updEngine w f).loader = s.loader := rfl
@[simp] theorem State.updEngine_boot (w : Nat) (f : StageEngine → StageEngine) : (s.updEngine w f).boot = s.boot := rfl
@[simp] theorem State.updEngine_chain (w : Nat) (f : StageEngine → StageEngine) : (s.updEngine w f).chain = s.chain := rfl
@[simp] theorem State.updEngine_noc (w : Nat) (f : StageEngine → StageEngine) : (s.updEngine w f).noc = s.noc := rfl
@[simp] theorem State.updEngine_wale (w : Nat) (f : StageEngine → StageEngine) : (s.updEngine w f).wale = s.wale := rfl
@[simp] theorem State.updEngine_pan (w : Nat) (f : StageEngine → StageEngine) : (s.updEngine w f).pan = s.pan := rfl
@[simp] theorem State.updEngine_dram (w : Nat) (f : StageEngine → StageEngine) : (s.updEngine w f).dram = s.dram := rfl
@[simp] theorem State.updEngine_ecc (w : Nat) (f : StageEngine → StageEngine) : (s.updEngine w f).ecc = s.ecc := rfl
@[simp] theorem State.updEngine_crypt (w : Nat) (f : StageEngine → StageEngine) : (s.updEngine w f).crypt = s.crypt := rfl
@[simp] theorem State.updEngine_time (w : Nat) (f : StageEngine → StageEngine) : (s.updEngine w f).time = s.time := rfl
@[simp] theorem State.updEngine_banks (w : Nat) (f : StageEngine → StageEngine) : (s.updEngine w f).banks = s.banks := rfl
@[simp] theorem State.updEngine_pins (w : Nat) (f : StageEngine → StageEngine) : (s.updEngine w f).pins = s.pins := rfl
@[simp] theorem State.updEngine_lanes (w : Nat) (f : StageEngine → StageEngine) : (s.updEngine w f).lanes = s.lanes := rfl
@[simp] theorem State.updEngine_sealed (w : Nat) (f : StageEngine → StageEngine) : (s.updEngine w f).sealed = s.sealed := rfl
@[simp] theorem State.updEngine_power (w : Nat) (f : StageEngine → StageEngine) : (s.updEngine w f).power = s.power := rfl
@[simp] theorem State.updEngine_board (w : Nat) (f : StageEngine → StageEngine) : (s.updEngine w f).board = s.board := rfl
@[simp] theorem State.updEngine_test (w : Nat) (f : StageEngine → StageEngine) : (s.updEngine w f).test = s.test := rfl
@[simp] theorem State.updEngine_obs (w : Nat) (f : StageEngine → StageEngine) : (s.updEngine w f).obs = s.obs := rfl

/-! #### State.updChan -/

@[simp] theorem State.updChan_pending (c : Nat) (f : Channel → Channel) : (s.updChan c f).pending = s.pending := rfl
@[simp] theorem State.updChan_outs (c : Nat) (f : Channel → Channel) : (s.updChan c f).outs = s.outs := rfl
@[simp] theorem State.updChan_freeCtr (c : Nat) (f : Channel → Channel) : (s.updChan c f).freeCtr = s.freeCtr := rfl
@[simp] theorem State.updChan_fuses (c : Nat) (f : Channel → Channel) : (s.updChan c f).fuses = s.fuses := rfl
@[simp] theorem State.updChan_obj (c : Nat) (f : Channel → Channel) : (s.updChan c f).obj = s.obj := rfl
@[simp] theorem State.updChan_dict (c : Nat) (f : Channel → Channel) : (s.updChan c f).dict = s.dict := rfl
@[simp] theorem State.updChan_clk (c : Nat) (f : Channel → Channel) : (s.updChan c f).clk = s.clk := rfl
@[simp] theorem State.updChan_fab (c : Nat) (f : Channel → Channel) : (s.updChan c f).fab = s.fab := rfl
@[simp] theorem State.updChan_edge (c : Nat) (f : Channel → Channel) : (s.updChan c f).edge = s.edge := rfl
@[simp] theorem State.updChan_planes (c : Nat) (f : Channel → Channel) : (s.updChan c f).planes = s.planes := rfl
@[simp] theorem State.updChan_frames (c : Nat) (f : Channel → Channel) : (s.updChan c f).frames = s.frames := rfl
@[simp] theorem State.updChan_stage (c : Nat) (f : Channel → Channel) : (s.updChan c f).stage = s.stage := rfl
@[simp] theorem State.updChan_grants (c : Nat) (f : Channel → Channel) : (s.updChan c f).grants = s.grants := rfl
@[simp] theorem State.updChan_teams (c : Nat) (f : Channel → Channel) : (s.updChan c f).teams = s.teams := rfl
@[simp] theorem State.updChan_cap (c : Nat) (f : Channel → Channel) : (s.updChan c f).cap = s.cap := rfl
@[simp] theorem State.updChan_loader (c : Nat) (f : Channel → Channel) : (s.updChan c f).loader = s.loader := rfl
@[simp] theorem State.updChan_boot (c : Nat) (f : Channel → Channel) : (s.updChan c f).boot = s.boot := rfl
@[simp] theorem State.updChan_chain (c : Nat) (f : Channel → Channel) : (s.updChan c f).chain = s.chain := rfl
@[simp] theorem State.updChan_noc (c : Nat) (f : Channel → Channel) : (s.updChan c f).noc = s.noc := rfl
@[simp] theorem State.updChan_wale (c : Nat) (f : Channel → Channel) : (s.updChan c f).wale = s.wale := rfl
@[simp] theorem State.updChan_pan (c : Nat) (f : Channel → Channel) : (s.updChan c f).pan = s.pan := rfl
@[simp] theorem State.updChan_dram (c : Nat) (f : Channel → Channel) : (s.updChan c f).dram = { s.dram with chans := AMap.upd {} s.dram.chans c f } := rfl
@[simp] theorem State.updChan_ecc (c : Nat) (f : Channel → Channel) : (s.updChan c f).ecc = s.ecc := rfl
@[simp] theorem State.updChan_crypt (c : Nat) (f : Channel → Channel) : (s.updChan c f).crypt = s.crypt := rfl
@[simp] theorem State.updChan_time (c : Nat) (f : Channel → Channel) : (s.updChan c f).time = s.time := rfl
@[simp] theorem State.updChan_banks (c : Nat) (f : Channel → Channel) : (s.updChan c f).banks = s.banks := rfl
@[simp] theorem State.updChan_pins (c : Nat) (f : Channel → Channel) : (s.updChan c f).pins = s.pins := rfl
@[simp] theorem State.updChan_lanes (c : Nat) (f : Channel → Channel) : (s.updChan c f).lanes = s.lanes := rfl
@[simp] theorem State.updChan_sealed (c : Nat) (f : Channel → Channel) : (s.updChan c f).sealed = s.sealed := rfl
@[simp] theorem State.updChan_power (c : Nat) (f : Channel → Channel) : (s.updChan c f).power = s.power := rfl
@[simp] theorem State.updChan_board (c : Nat) (f : Channel → Channel) : (s.updChan c f).board = s.board := rfl
@[simp] theorem State.updChan_test (c : Nat) (f : Channel → Channel) : (s.updChan c f).test = s.test := rfl
@[simp] theorem State.updChan_obs (c : Nat) (f : Channel → Channel) : (s.updChan c f).obs = s.obs := rfl

/-! #### State.updBank -/

@[simp] theorem State.updBank_pending (k : Nat) (f : DBank → DBank) : (s.updBank k f).pending = s.pending := rfl
@[simp] theorem State.updBank_outs (k : Nat) (f : DBank → DBank) : (s.updBank k f).outs = s.outs := rfl
@[simp] theorem State.updBank_freeCtr (k : Nat) (f : DBank → DBank) : (s.updBank k f).freeCtr = s.freeCtr := rfl
@[simp] theorem State.updBank_fuses (k : Nat) (f : DBank → DBank) : (s.updBank k f).fuses = s.fuses := rfl
@[simp] theorem State.updBank_obj (k : Nat) (f : DBank → DBank) : (s.updBank k f).obj = s.obj := rfl
@[simp] theorem State.updBank_dict (k : Nat) (f : DBank → DBank) : (s.updBank k f).dict = s.dict := rfl
@[simp] theorem State.updBank_clk (k : Nat) (f : DBank → DBank) : (s.updBank k f).clk = s.clk := rfl
@[simp] theorem State.updBank_fab (k : Nat) (f : DBank → DBank) : (s.updBank k f).fab = s.fab := rfl
@[simp] theorem State.updBank_edge (k : Nat) (f : DBank → DBank) : (s.updBank k f).edge = s.edge := rfl
@[simp] theorem State.updBank_planes (k : Nat) (f : DBank → DBank) : (s.updBank k f).planes = s.planes := rfl
@[simp] theorem State.updBank_frames (k : Nat) (f : DBank → DBank) : (s.updBank k f).frames = s.frames := rfl
@[simp] theorem State.updBank_stage (k : Nat) (f : DBank → DBank) : (s.updBank k f).stage = s.stage := rfl
@[simp] theorem State.updBank_grants (k : Nat) (f : DBank → DBank) : (s.updBank k f).grants = s.grants := rfl
@[simp] theorem State.updBank_teams (k : Nat) (f : DBank → DBank) : (s.updBank k f).teams = s.teams := rfl
@[simp] theorem State.updBank_cap (k : Nat) (f : DBank → DBank) : (s.updBank k f).cap = s.cap := rfl
@[simp] theorem State.updBank_loader (k : Nat) (f : DBank → DBank) : (s.updBank k f).loader = s.loader := rfl
@[simp] theorem State.updBank_boot (k : Nat) (f : DBank → DBank) : (s.updBank k f).boot = s.boot := rfl
@[simp] theorem State.updBank_chain (k : Nat) (f : DBank → DBank) : (s.updBank k f).chain = s.chain := rfl
@[simp] theorem State.updBank_noc (k : Nat) (f : DBank → DBank) : (s.updBank k f).noc = s.noc := rfl
@[simp] theorem State.updBank_wale (k : Nat) (f : DBank → DBank) : (s.updBank k f).wale = s.wale := rfl
@[simp] theorem State.updBank_pan (k : Nat) (f : DBank → DBank) : (s.updBank k f).pan = s.pan := rfl
@[simp] theorem State.updBank_dram (k : Nat) (f : DBank → DBank) : (s.updBank k f).dram = { s.dram with banks := AMap.upd {} s.dram.banks k f } := rfl
@[simp] theorem State.updBank_ecc (k : Nat) (f : DBank → DBank) : (s.updBank k f).ecc = s.ecc := rfl
@[simp] theorem State.updBank_crypt (k : Nat) (f : DBank → DBank) : (s.updBank k f).crypt = s.crypt := rfl
@[simp] theorem State.updBank_time (k : Nat) (f : DBank → DBank) : (s.updBank k f).time = s.time := rfl
@[simp] theorem State.updBank_banks (k : Nat) (f : DBank → DBank) : (s.updBank k f).banks = s.banks := rfl
@[simp] theorem State.updBank_pins (k : Nat) (f : DBank → DBank) : (s.updBank k f).pins = s.pins := rfl
@[simp] theorem State.updBank_lanes (k : Nat) (f : DBank → DBank) : (s.updBank k f).lanes = s.lanes := rfl
@[simp] theorem State.updBank_sealed (k : Nat) (f : DBank → DBank) : (s.updBank k f).sealed = s.sealed := rfl
@[simp] theorem State.updBank_power (k : Nat) (f : DBank → DBank) : (s.updBank k f).power = s.power := rfl
@[simp] theorem State.updBank_board (k : Nat) (f : DBank → DBank) : (s.updBank k f).board = s.board := rfl
@[simp] theorem State.updBank_test (k : Nat) (f : DBank → DBank) : (s.updBank k f).test = s.test := rfl
@[simp] theorem State.updBank_obs (k : Nat) (f : DBank → DBank) : (s.updBank k f).obs = s.obs := rfl

/-! #### State.updRegion -/

@[simp] theorem State.updRegion_pending (r : Nat) (f : Region → Region) : (s.updRegion r f).pending = s.pending := rfl
@[simp] theorem State.updRegion_outs (r : Nat) (f : Region → Region) : (s.updRegion r f).outs = s.outs := rfl
@[simp] theorem State.updRegion_freeCtr (r : Nat) (f : Region → Region) : (s.updRegion r f).freeCtr = s.freeCtr := rfl
@[simp] theorem State.updRegion_fuses (r : Nat) (f : Region → Region) : (s.updRegion r f).fuses = s.fuses := rfl
@[simp] theorem State.updRegion_obj (r : Nat) (f : Region → Region) : (s.updRegion r f).obj = s.obj := rfl
@[simp] theorem State.updRegion_dict (r : Nat) (f : Region → Region) : (s.updRegion r f).dict = s.dict := rfl
@[simp] theorem State.updRegion_clk (r : Nat) (f : Region → Region) : (s.updRegion r f).clk = s.clk := rfl
@[simp] theorem State.updRegion_fab (r : Nat) (f : Region → Region) : (s.updRegion r f).fab = s.fab := rfl
@[simp] theorem State.updRegion_edge (r : Nat) (f : Region → Region) : (s.updRegion r f).edge = s.edge := rfl
@[simp] theorem State.updRegion_planes (r : Nat) (f : Region → Region) : (s.updRegion r f).planes = s.planes := rfl
@[simp] theorem State.updRegion_frames (r : Nat) (f : Region → Region) : (s.updRegion r f).frames = s.frames := rfl
@[simp] theorem State.updRegion_stage (r : Nat) (f : Region → Region) : (s.updRegion r f).stage = s.stage := rfl
@[simp] theorem State.updRegion_grants (r : Nat) (f : Region → Region) : (s.updRegion r f).grants = s.grants := rfl
@[simp] theorem State.updRegion_teams (r : Nat) (f : Region → Region) : (s.updRegion r f).teams = s.teams := rfl
@[simp] theorem State.updRegion_cap (r : Nat) (f : Region → Region) : (s.updRegion r f).cap = s.cap := rfl
@[simp] theorem State.updRegion_loader (r : Nat) (f : Region → Region) : (s.updRegion r f).loader = s.loader := rfl
@[simp] theorem State.updRegion_boot (r : Nat) (f : Region → Region) : (s.updRegion r f).boot = s.boot := rfl
@[simp] theorem State.updRegion_chain (r : Nat) (f : Region → Region) : (s.updRegion r f).chain = s.chain := rfl
@[simp] theorem State.updRegion_noc (r : Nat) (f : Region → Region) : (s.updRegion r f).noc = s.noc := rfl
@[simp] theorem State.updRegion_wale (r : Nat) (f : Region → Region) : (s.updRegion r f).wale = s.wale := rfl
@[simp] theorem State.updRegion_pan (r : Nat) (f : Region → Region) : (s.updRegion r f).pan = s.pan := rfl
@[simp] theorem State.updRegion_dram (r : Nat) (f : Region → Region) : (s.updRegion r f).dram = s.dram := rfl
@[simp] theorem State.updRegion_ecc (r : Nat) (f : Region → Region) : (s.updRegion r f).ecc = s.ecc := rfl
@[simp] theorem State.updRegion_crypt (r : Nat) (f : Region → Region) : (s.updRegion r f).crypt = { s.crypt with regions := AMap.upd {} s.crypt.regions r f } := rfl
@[simp] theorem State.updRegion_time (r : Nat) (f : Region → Region) : (s.updRegion r f).time = s.time := rfl
@[simp] theorem State.updRegion_banks (r : Nat) (f : Region → Region) : (s.updRegion r f).banks = s.banks := rfl
@[simp] theorem State.updRegion_pins (r : Nat) (f : Region → Region) : (s.updRegion r f).pins = s.pins := rfl
@[simp] theorem State.updRegion_lanes (r : Nat) (f : Region → Region) : (s.updRegion r f).lanes = s.lanes := rfl
@[simp] theorem State.updRegion_sealed (r : Nat) (f : Region → Region) : (s.updRegion r f).sealed = s.sealed := rfl
@[simp] theorem State.updRegion_power (r : Nat) (f : Region → Region) : (s.updRegion r f).power = s.power := rfl
@[simp] theorem State.updRegion_board (r : Nat) (f : Region → Region) : (s.updRegion r f).board = s.board := rfl
@[simp] theorem State.updRegion_test (r : Nat) (f : Region → Region) : (s.updRegion r f).test = s.test := rfl
@[simp] theorem State.updRegion_obs (r : Nat) (f : Region → Region) : (s.updRegion r f).obs = s.obs := rfl

/-! #### State.setStopped -/

@[simp] theorem State.setStopped_pending (b : Bool) : (s.setStopped b).pending = s.pending := rfl
@[simp] theorem State.setStopped_outs (b : Bool) : (s.setStopped b).outs = s.outs := rfl
@[simp] theorem State.setStopped_freeCtr (b : Bool) : (s.setStopped b).freeCtr = s.freeCtr := rfl
@[simp] theorem State.setStopped_fuses (b : Bool) : (s.setStopped b).fuses = s.fuses := rfl
@[simp] theorem State.setStopped_obj (b : Bool) : (s.setStopped b).obj = s.obj := rfl
@[simp] theorem State.setStopped_dict (b : Bool) : (s.setStopped b).dict = s.dict := rfl
@[simp] theorem State.setStopped_fab (b : Bool) : (s.setStopped b).fab = s.fab := rfl
@[simp] theorem State.setStopped_edge (b : Bool) : (s.setStopped b).edge = s.edge := rfl
@[simp] theorem State.setStopped_planes (b : Bool) : (s.setStopped b).planes = s.planes := rfl
@[simp] theorem State.setStopped_frames (b : Bool) : (s.setStopped b).frames = s.frames := rfl
@[simp] theorem State.setStopped_stage (b : Bool) : (s.setStopped b).stage = s.stage := rfl
@[simp] theorem State.setStopped_grants (b : Bool) : (s.setStopped b).grants = s.grants := rfl
@[simp] theorem State.setStopped_teams (b : Bool) : (s.setStopped b).teams = s.teams := rfl
@[simp] theorem State.setStopped_cap (b : Bool) : (s.setStopped b).cap = s.cap := rfl
@[simp] theorem State.setStopped_loader (b : Bool) : (s.setStopped b).loader = s.loader := rfl
@[simp] theorem State.setStopped_boot (b : Bool) : (s.setStopped b).boot = s.boot := rfl
@[simp] theorem State.setStopped_chain (b : Bool) : (s.setStopped b).chain = s.chain := rfl
@[simp] theorem State.setStopped_noc (b : Bool) : (s.setStopped b).noc = s.noc := rfl
@[simp] theorem State.setStopped_wale (b : Bool) : (s.setStopped b).wale = s.wale := rfl
@[simp] theorem State.setStopped_pan (b : Bool) : (s.setStopped b).pan = s.pan := rfl
@[simp] theorem State.setStopped_dram (b : Bool) : (s.setStopped b).dram = s.dram := rfl
@[simp] theorem State.setStopped_ecc (b : Bool) : (s.setStopped b).ecc = s.ecc := rfl
@[simp] theorem State.setStopped_crypt (b : Bool) : (s.setStopped b).crypt = s.crypt := rfl
@[simp] theorem State.setStopped_time (b : Bool) : (s.setStopped b).time = s.time := rfl
@[simp] theorem State.setStopped_banks (b : Bool) : (s.setStopped b).banks = s.banks := rfl
@[simp] theorem State.setStopped_pins (b : Bool) : (s.setStopped b).pins = s.pins := rfl
@[simp] theorem State.setStopped_lanes (b : Bool) : (s.setStopped b).lanes = s.lanes := rfl
@[simp] theorem State.setStopped_sealed (b : Bool) : (s.setStopped b).sealed = s.sealed := rfl
@[simp] theorem State.setStopped_power (b : Bool) : (s.setStopped b).power = s.power := rfl
@[simp] theorem State.setStopped_board (b : Bool) : (s.setStopped b).board = s.board := rfl
@[simp] theorem State.setStopped_test (b : Bool) : (s.setStopped b).test = s.test := rfl
@[simp] theorem State.setStopped_obs (b : Bool) : (s.setStopped b).obs = s.obs := rfl

/-! #### State.updLink -/

@[simp] theorem State.updLink_pending (u : Bool) (f : Hitch → Hitch) : (s.updLink u f).pending = s.pending := by cases u <;> rfl
@[simp] theorem State.updLink_outs (u : Bool) (f : Hitch → Hitch) : (s.updLink u f).outs = s.outs := by cases u <;> rfl
@[simp] theorem State.updLink_freeCtr (u : Bool) (f : Hitch → Hitch) : (s.updLink u f).freeCtr = s.freeCtr := by cases u <;> rfl
@[simp] theorem State.updLink_fuses (u : Bool) (f : Hitch → Hitch) : (s.updLink u f).fuses = s.fuses := by cases u <;> rfl
@[simp] theorem State.updLink_obj (u : Bool) (f : Hitch → Hitch) : (s.updLink u f).obj = s.obj := by cases u <;> rfl
@[simp] theorem State.updLink_dict (u : Bool) (f : Hitch → Hitch) : (s.updLink u f).dict = s.dict := by cases u <;> rfl
@[simp] theorem State.updLink_clk (u : Bool) (f : Hitch → Hitch) : (s.updLink u f).clk = s.clk := by cases u <;> rfl
@[simp] theorem State.updLink_fab (u : Bool) (f : Hitch → Hitch) : (s.updLink u f).fab = s.fab := by cases u <;> rfl
@[simp] theorem State.updLink_edge (u : Bool) (f : Hitch → Hitch) : (s.updLink u f).edge = s.edge := by cases u <;> rfl
@[simp] theorem State.updLink_planes (u : Bool) (f : Hitch → Hitch) : (s.updLink u f).planes = s.planes := by cases u <;> rfl
@[simp] theorem State.updLink_frames (u : Bool) (f : Hitch → Hitch) : (s.updLink u f).frames = s.frames := by cases u <;> rfl
@[simp] theorem State.updLink_stage (u : Bool) (f : Hitch → Hitch) : (s.updLink u f).stage = s.stage := by cases u <;> rfl
@[simp] theorem State.updLink_grants (u : Bool) (f : Hitch → Hitch) : (s.updLink u f).grants = s.grants := by cases u <;> rfl
@[simp] theorem State.updLink_teams (u : Bool) (f : Hitch → Hitch) : (s.updLink u f).teams = s.teams := by cases u <;> rfl
@[simp] theorem State.updLink_cap (u : Bool) (f : Hitch → Hitch) : (s.updLink u f).cap = s.cap := by cases u <;> rfl
@[simp] theorem State.updLink_loader (u : Bool) (f : Hitch → Hitch) : (s.updLink u f).loader = s.loader := by cases u <;> rfl
@[simp] theorem State.updLink_boot (u : Bool) (f : Hitch → Hitch) : (s.updLink u f).boot = s.boot := by cases u <;> rfl
@[simp] theorem State.updLink_chain (u : Bool) (f : Hitch → Hitch) : (s.updLink u f).chain = s.chain := by cases u <;> rfl
@[simp] theorem State.updLink_noc (u : Bool) (f : Hitch → Hitch) : (s.updLink u f).noc = s.noc := by cases u <;> rfl
@[simp] theorem State.updLink_wale (u : Bool) (f : Hitch → Hitch) : (s.updLink u f).wale = s.wale := by cases u <;> rfl
@[simp] theorem State.updLink_pan (u : Bool) (f : Hitch → Hitch) : (s.updLink u f).pan = s.pan := by cases u <;> rfl
@[simp] theorem State.updLink_dram (u : Bool) (f : Hitch → Hitch) : (s.updLink u f).dram = s.dram := by cases u <;> rfl
@[simp] theorem State.updLink_ecc (u : Bool) (f : Hitch → Hitch) : (s.updLink u f).ecc = s.ecc := by cases u <;> rfl
@[simp] theorem State.updLink_crypt (u : Bool) (f : Hitch → Hitch) : (s.updLink u f).crypt = s.crypt := by cases u <;> rfl
@[simp] theorem State.updLink_time (u : Bool) (f : Hitch → Hitch) : (s.updLink u f).time = s.time := by cases u <;> rfl
@[simp] theorem State.updLink_banks (u : Bool) (f : Hitch → Hitch) : (s.updLink u f).banks = s.banks := by cases u <;> rfl
@[simp] theorem State.updLink_pins (u : Bool) (f : Hitch → Hitch) : (s.updLink u f).pins = s.pins := by cases u <;> rfl
@[simp] theorem State.updLink_sealed (u : Bool) (f : Hitch → Hitch) : (s.updLink u f).sealed = s.sealed := by cases u <;> rfl
@[simp] theorem State.updLink_power (u : Bool) (f : Hitch → Hitch) : (s.updLink u f).power = s.power := by cases u <;> rfl
@[simp] theorem State.updLink_board (u : Bool) (f : Hitch → Hitch) : (s.updLink u f).board = s.board := by cases u <;> rfl
@[simp] theorem State.updLink_test (u : Bool) (f : Hitch → Hitch) : (s.updLink u f).test = s.test := by cases u <;> rfl
@[simp] theorem State.updLink_obs (u : Bool) (f : Hitch → Hitch) : (s.updLink u f).obs = s.obs := by cases u <;> rfl

/-! #### updLane -/

@[simp] theorem updLane_pending (k : Nat) (f : Lane → Lane) : (updLane s k f).pending = s.pending := rfl
@[simp] theorem updLane_outs (k : Nat) (f : Lane → Lane) : (updLane s k f).outs = s.outs := rfl
@[simp] theorem updLane_freeCtr (k : Nat) (f : Lane → Lane) : (updLane s k f).freeCtr = s.freeCtr := rfl
@[simp] theorem updLane_fuses (k : Nat) (f : Lane → Lane) : (updLane s k f).fuses = s.fuses := rfl
@[simp] theorem updLane_obj (k : Nat) (f : Lane → Lane) : (updLane s k f).obj = s.obj := rfl
@[simp] theorem updLane_dict (k : Nat) (f : Lane → Lane) : (updLane s k f).dict = s.dict := rfl
@[simp] theorem updLane_clk (k : Nat) (f : Lane → Lane) : (updLane s k f).clk = s.clk := rfl
@[simp] theorem updLane_fab (k : Nat) (f : Lane → Lane) : (updLane s k f).fab = s.fab := rfl
@[simp] theorem updLane_edge (k : Nat) (f : Lane → Lane) : (updLane s k f).edge = s.edge := rfl
@[simp] theorem updLane_planes (k : Nat) (f : Lane → Lane) : (updLane s k f).planes = s.planes := rfl
@[simp] theorem updLane_frames (k : Nat) (f : Lane → Lane) : (updLane s k f).frames = s.frames := rfl
@[simp] theorem updLane_stage (k : Nat) (f : Lane → Lane) : (updLane s k f).stage = s.stage := rfl
@[simp] theorem updLane_grants (k : Nat) (f : Lane → Lane) : (updLane s k f).grants = s.grants := rfl
@[simp] theorem updLane_teams (k : Nat) (f : Lane → Lane) : (updLane s k f).teams = s.teams := rfl
@[simp] theorem updLane_cap (k : Nat) (f : Lane → Lane) : (updLane s k f).cap = s.cap := rfl
@[simp] theorem updLane_loader (k : Nat) (f : Lane → Lane) : (updLane s k f).loader = s.loader := rfl
@[simp] theorem updLane_boot (k : Nat) (f : Lane → Lane) : (updLane s k f).boot = s.boot := rfl
@[simp] theorem updLane_chain (k : Nat) (f : Lane → Lane) : (updLane s k f).chain = s.chain := rfl
@[simp] theorem updLane_noc (k : Nat) (f : Lane → Lane) : (updLane s k f).noc = s.noc := rfl
@[simp] theorem updLane_wale (k : Nat) (f : Lane → Lane) : (updLane s k f).wale = s.wale := rfl
@[simp] theorem updLane_pan (k : Nat) (f : Lane → Lane) : (updLane s k f).pan = s.pan := rfl
@[simp] theorem updLane_dram (k : Nat) (f : Lane → Lane) : (updLane s k f).dram = s.dram := rfl
@[simp] theorem updLane_ecc (k : Nat) (f : Lane → Lane) : (updLane s k f).ecc = s.ecc := rfl
@[simp] theorem updLane_crypt (k : Nat) (f : Lane → Lane) : (updLane s k f).crypt = s.crypt := rfl
@[simp] theorem updLane_time (k : Nat) (f : Lane → Lane) : (updLane s k f).time = s.time := rfl
@[simp] theorem updLane_banks (k : Nat) (f : Lane → Lane) : (updLane s k f).banks = s.banks := rfl
@[simp] theorem updLane_pins (k : Nat) (f : Lane → Lane) : (updLane s k f).pins = s.pins := rfl
@[simp] theorem updLane_lanes (k : Nat) (f : Lane → Lane) : (updLane s k f).lanes = { s.lanes with lanes := AMap.upd {} s.lanes.lanes k f } := rfl
@[simp] theorem updLane_sealed (k : Nat) (f : Lane → Lane) : (updLane s k f).sealed = s.sealed := rfl
@[simp] theorem updLane_power (k : Nat) (f : Lane → Lane) : (updLane s k f).power = s.power := rfl
@[simp] theorem updLane_board (k : Nat) (f : Lane → Lane) : (updLane s k f).board = s.board := rfl
@[simp] theorem updLane_test (k : Nat) (f : Lane → Lane) : (updLane s k f).test = s.test := rfl
@[simp] theorem updLane_obs (k : Nat) (f : Lane → Lane) : (updLane s k f).obs = s.obs := rfl

/-! #### setLib -/

@[simp] theorem setLib_pending (n : Nat) (x : LibEntry) : (setLib s n x).pending = s.pending := rfl
@[simp] theorem setLib_outs (n : Nat) (x : LibEntry) : (setLib s n x).outs = s.outs := rfl
@[simp] theorem setLib_freeCtr (n : Nat) (x : LibEntry) : (setLib s n x).freeCtr = s.freeCtr := rfl
@[simp] theorem setLib_fuses (n : Nat) (x : LibEntry) : (setLib s n x).fuses = s.fuses := rfl
@[simp] theorem setLib_obj (n : Nat) (x : LibEntry) : (setLib s n x).obj = s.obj := rfl
@[simp] theorem setLib_dict (n : Nat) (x : LibEntry) : (setLib s n x).dict = s.dict := rfl
@[simp] theorem setLib_clk (n : Nat) (x : LibEntry) : (setLib s n x).clk = s.clk := rfl
@[simp] theorem setLib_fab (n : Nat) (x : LibEntry) : (setLib s n x).fab = s.fab := rfl
@[simp] theorem setLib_edge (n : Nat) (x : LibEntry) : (setLib s n x).edge = s.edge := rfl
@[simp] theorem setLib_planes (n : Nat) (x : LibEntry) : (setLib s n x).planes = s.planes := rfl
@[simp] theorem setLib_frames (n : Nat) (x : LibEntry) : (setLib s n x).frames = s.frames := rfl
@[simp] theorem setLib_stage (n : Nat) (x : LibEntry) : (setLib s n x).stage = s.stage := rfl
@[simp] theorem setLib_grants (n : Nat) (x : LibEntry) : (setLib s n x).grants = s.grants := rfl
@[simp] theorem setLib_teams (n : Nat) (x : LibEntry) : (setLib s n x).teams = s.teams := rfl
@[simp] theorem setLib_cap (n : Nat) (x : LibEntry) : (setLib s n x).cap = s.cap := rfl
@[simp] theorem setLib_loader (n : Nat) (x : LibEntry) : (setLib s n x).loader = { s.loader with libDir := AMap.set {} s.loader.libDir n x } := rfl
@[simp] theorem setLib_boot (n : Nat) (x : LibEntry) : (setLib s n x).boot = s.boot := rfl
@[simp] theorem setLib_chain (n : Nat) (x : LibEntry) : (setLib s n x).chain = s.chain := rfl
@[simp] theorem setLib_noc (n : Nat) (x : LibEntry) : (setLib s n x).noc = s.noc := rfl
@[simp] theorem setLib_wale (n : Nat) (x : LibEntry) : (setLib s n x).wale = s.wale := rfl
@[simp] theorem setLib_pan (n : Nat) (x : LibEntry) : (setLib s n x).pan = s.pan := rfl
@[simp] theorem setLib_dram (n : Nat) (x : LibEntry) : (setLib s n x).dram = s.dram := rfl
@[simp] theorem setLib_ecc (n : Nat) (x : LibEntry) : (setLib s n x).ecc = s.ecc := rfl
@[simp] theorem setLib_crypt (n : Nat) (x : LibEntry) : (setLib s n x).crypt = s.crypt := rfl
@[simp] theorem setLib_time (n : Nat) (x : LibEntry) : (setLib s n x).time = s.time := rfl
@[simp] theorem setLib_banks (n : Nat) (x : LibEntry) : (setLib s n x).banks = s.banks := rfl
@[simp] theorem setLib_pins (n : Nat) (x : LibEntry) : (setLib s n x).pins = s.pins := rfl
@[simp] theorem setLib_lanes (n : Nat) (x : LibEntry) : (setLib s n x).lanes = s.lanes := rfl
@[simp] theorem setLib_sealed (n : Nat) (x : LibEntry) : (setLib s n x).sealed = s.sealed := rfl
@[simp] theorem setLib_power (n : Nat) (x : LibEntry) : (setLib s n x).power = s.power := rfl
@[simp] theorem setLib_board (n : Nat) (x : LibEntry) : (setLib s n x).board = s.board := rfl
@[simp] theorem setLib_test (n : Nat) (x : LibEntry) : (setLib s n x).test = s.test := rfl
@[simp] theorem setLib_obs (n : Nat) (x : LibEntry) : (setLib s n x).obs = s.obs := rfl

/-! #### updMover -/

@[simp] theorem updMover_pending (m : Nat) (f : Mover → Mover) : (updMover s m f).pending = s.pending := rfl
@[simp] theorem updMover_outs (m : Nat) (f : Mover → Mover) : (updMover s m f).outs = s.outs := rfl
@[simp] theorem updMover_freeCtr (m : Nat) (f : Mover → Mover) : (updMover s m f).freeCtr = s.freeCtr := rfl
@[simp] theorem updMover_fuses (m : Nat) (f : Mover → Mover) : (updMover s m f).fuses = s.fuses := rfl
@[simp] theorem updMover_obj (m : Nat) (f : Mover → Mover) : (updMover s m f).obj = s.obj := rfl
@[simp] theorem updMover_dict (m : Nat) (f : Mover → Mover) : (updMover s m f).dict = s.dict := rfl
@[simp] theorem updMover_clk (m : Nat) (f : Mover → Mover) : (updMover s m f).clk = s.clk := rfl
@[simp] theorem updMover_fab (m : Nat) (f : Mover → Mover) : (updMover s m f).fab = s.fab := rfl
@[simp] theorem updMover_edge (m : Nat) (f : Mover → Mover) : (updMover s m f).edge = s.edge := rfl
@[simp] theorem updMover_planes (m : Nat) (f : Mover → Mover) : (updMover s m f).planes = s.planes := rfl
@[simp] theorem updMover_frames (m : Nat) (f : Mover → Mover) : (updMover s m f).frames = s.frames := rfl
@[simp] theorem updMover_stage (m : Nat) (f : Mover → Mover) : (updMover s m f).stage = s.stage := rfl
@[simp] theorem updMover_grants (m : Nat) (f : Mover → Mover) : (updMover s m f).grants = s.grants := rfl
@[simp] theorem updMover_teams (m : Nat) (f : Mover → Mover) : (updMover s m f).teams = s.teams := rfl
@[simp] theorem updMover_cap (m : Nat) (f : Mover → Mover) : (updMover s m f).cap = s.cap := rfl
@[simp] theorem updMover_loader (m : Nat) (f : Mover → Mover) : (updMover s m f).loader = s.loader := rfl
@[simp] theorem updMover_boot (m : Nat) (f : Mover → Mover) : (updMover s m f).boot = s.boot := rfl
@[simp] theorem updMover_chain (m : Nat) (f : Mover → Mover) : (updMover s m f).chain = s.chain := rfl
@[simp] theorem updMover_noc (m : Nat) (f : Mover → Mover) : (updMover s m f).noc = { s.noc with movers := AMap.upd {} s.noc.movers m f } := rfl
@[simp] theorem updMover_wale (m : Nat) (f : Mover → Mover) : (updMover s m f).wale = s.wale := rfl
@[simp] theorem updMover_pan (m : Nat) (f : Mover → Mover) : (updMover s m f).pan = s.pan := rfl
@[simp] theorem updMover_dram (m : Nat) (f : Mover → Mover) : (updMover s m f).dram = s.dram := rfl
@[simp] theorem updMover_ecc (m : Nat) (f : Mover → Mover) : (updMover s m f).ecc = s.ecc := rfl
@[simp] theorem updMover_crypt (m : Nat) (f : Mover → Mover) : (updMover s m f).crypt = s.crypt := rfl
@[simp] theorem updMover_time (m : Nat) (f : Mover → Mover) : (updMover s m f).time = s.time := rfl
@[simp] theorem updMover_banks (m : Nat) (f : Mover → Mover) : (updMover s m f).banks = s.banks := rfl
@[simp] theorem updMover_pins (m : Nat) (f : Mover → Mover) : (updMover s m f).pins = s.pins := rfl
@[simp] theorem updMover_lanes (m : Nat) (f : Mover → Mover) : (updMover s m f).lanes = s.lanes := rfl
@[simp] theorem updMover_sealed (m : Nat) (f : Mover → Mover) : (updMover s m f).sealed = s.sealed := rfl
@[simp] theorem updMover_power (m : Nat) (f : Mover → Mover) : (updMover s m f).power = s.power := rfl
@[simp] theorem updMover_board (m : Nat) (f : Mover → Mover) : (updMover s m f).board = s.board := rfl
@[simp] theorem updMover_test (m : Nat) (f : Mover → Mover) : (updMover s m f).test = s.test := rfl
@[simp] theorem updMover_obs (m : Nat) (f : Mover → Mover) : (updMover s m f).obs = s.obs := rfl

/-! #### updStat -/

@[simp] theorem updStat_pending (i : Nat) (f : NocStat → NocStat) : (updStat s i f).pending = s.pending := rfl
@[simp] theorem updStat_outs (i : Nat) (f : NocStat → NocStat) : (updStat s i f).outs = s.outs := rfl
@[simp] theorem updStat_freeCtr (i : Nat) (f : NocStat → NocStat) : (updStat s i f).freeCtr = s.freeCtr := rfl
@[simp] theorem updStat_fuses (i : Nat) (f : NocStat → NocStat) : (updStat s i f).fuses = s.fuses := rfl
@[simp] theorem updStat_obj (i : Nat) (f : NocStat → NocStat) : (updStat s i f).obj = s.obj := rfl
@[simp] theorem updStat_dict (i : Nat) (f : NocStat → NocStat) : (updStat s i f).dict = s.dict := rfl
@[simp] theorem updStat_clk (i : Nat) (f : NocStat → NocStat) : (updStat s i f).clk = s.clk := rfl
@[simp] theorem updStat_fab (i : Nat) (f : NocStat → NocStat) : (updStat s i f).fab = s.fab := rfl
@[simp] theorem updStat_edge (i : Nat) (f : NocStat → NocStat) : (updStat s i f).edge = s.edge := rfl
@[simp] theorem updStat_planes (i : Nat) (f : NocStat → NocStat) : (updStat s i f).planes = s.planes := rfl
@[simp] theorem updStat_frames (i : Nat) (f : NocStat → NocStat) : (updStat s i f).frames = s.frames := rfl
@[simp] theorem updStat_stage (i : Nat) (f : NocStat → NocStat) : (updStat s i f).stage = s.stage := rfl
@[simp] theorem updStat_grants (i : Nat) (f : NocStat → NocStat) : (updStat s i f).grants = s.grants := rfl
@[simp] theorem updStat_teams (i : Nat) (f : NocStat → NocStat) : (updStat s i f).teams = s.teams := rfl
@[simp] theorem updStat_cap (i : Nat) (f : NocStat → NocStat) : (updStat s i f).cap = s.cap := rfl
@[simp] theorem updStat_loader (i : Nat) (f : NocStat → NocStat) : (updStat s i f).loader = s.loader := rfl
@[simp] theorem updStat_boot (i : Nat) (f : NocStat → NocStat) : (updStat s i f).boot = s.boot := rfl
@[simp] theorem updStat_chain (i : Nat) (f : NocStat → NocStat) : (updStat s i f).chain = s.chain := rfl
@[simp] theorem updStat_noc (i : Nat) (f : NocStat → NocStat) : (updStat s i f).noc = { s.noc with stats := AMap.upd {} s.noc.stats i f } := rfl
@[simp] theorem updStat_wale (i : Nat) (f : NocStat → NocStat) : (updStat s i f).wale = s.wale := rfl
@[simp] theorem updStat_pan (i : Nat) (f : NocStat → NocStat) : (updStat s i f).pan = s.pan := rfl
@[simp] theorem updStat_dram (i : Nat) (f : NocStat → NocStat) : (updStat s i f).dram = s.dram := rfl
@[simp] theorem updStat_ecc (i : Nat) (f : NocStat → NocStat) : (updStat s i f).ecc = s.ecc := rfl
@[simp] theorem updStat_crypt (i : Nat) (f : NocStat → NocStat) : (updStat s i f).crypt = s.crypt := rfl
@[simp] theorem updStat_time (i : Nat) (f : NocStat → NocStat) : (updStat s i f).time = s.time := rfl
@[simp] theorem updStat_banks (i : Nat) (f : NocStat → NocStat) : (updStat s i f).banks = s.banks := rfl
@[simp] theorem updStat_pins (i : Nat) (f : NocStat → NocStat) : (updStat s i f).pins = s.pins := rfl
@[simp] theorem updStat_lanes (i : Nat) (f : NocStat → NocStat) : (updStat s i f).lanes = s.lanes := rfl
@[simp] theorem updStat_sealed (i : Nat) (f : NocStat → NocStat) : (updStat s i f).sealed = s.sealed := rfl
@[simp] theorem updStat_power (i : Nat) (f : NocStat → NocStat) : (updStat s i f).power = s.power := rfl
@[simp] theorem updStat_board (i : Nat) (f : NocStat → NocStat) : (updStat s i f).board = s.board := rfl
@[simp] theorem updStat_test (i : Nat) (f : NocStat → NocStat) : (updStat s i f).test = s.test := rfl
@[simp] theorem updStat_obs (i : Nat) (f : NocStat → NocStat) : (updStat s i f).obs = s.obs := rfl

/-! #### updMon -/

@[simp] theorem updMon_pending (n : Nat) (f : Monitor → Monitor) : (updMon s n f).pending = s.pending := rfl
@[simp] theorem updMon_outs (n : Nat) (f : Monitor → Monitor) : (updMon s n f).outs = s.outs := rfl
@[simp] theorem updMon_freeCtr (n : Nat) (f : Monitor → Monitor) : (updMon s n f).freeCtr = s.freeCtr := rfl
@[simp] theorem updMon_fuses (n : Nat) (f : Monitor → Monitor) : (updMon s n f).fuses = s.fuses := rfl
@[simp] theorem updMon_obj (n : Nat) (f : Monitor → Monitor) : (updMon s n f).obj = s.obj := rfl
@[simp] theorem updMon_dict (n : Nat) (f : Monitor → Monitor) : (updMon s n f).dict = s.dict := rfl
@[simp] theorem updMon_clk (n : Nat) (f : Monitor → Monitor) : (updMon s n f).clk = s.clk := rfl
@[simp] theorem updMon_fab (n : Nat) (f : Monitor → Monitor) : (updMon s n f).fab = s.fab := rfl
@[simp] theorem updMon_edge (n : Nat) (f : Monitor → Monitor) : (updMon s n f).edge = s.edge := rfl
@[simp] theorem updMon_planes (n : Nat) (f : Monitor → Monitor) : (updMon s n f).planes = s.planes := rfl
@[simp] theorem updMon_frames (n : Nat) (f : Monitor → Monitor) : (updMon s n f).frames = s.frames := rfl
@[simp] theorem updMon_stage (n : Nat) (f : Monitor → Monitor) : (updMon s n f).stage = s.stage := rfl
@[simp] theorem updMon_grants (n : Nat) (f : Monitor → Monitor) : (updMon s n f).grants = s.grants := rfl
@[simp] theorem updMon_teams (n : Nat) (f : Monitor → Monitor) : (updMon s n f).teams = s.teams := rfl
@[simp] theorem updMon_cap (n : Nat) (f : Monitor → Monitor) : (updMon s n f).cap = s.cap := rfl
@[simp] theorem updMon_loader (n : Nat) (f : Monitor → Monitor) : (updMon s n f).loader = s.loader := rfl
@[simp] theorem updMon_boot (n : Nat) (f : Monitor → Monitor) : (updMon s n f).boot = s.boot := rfl
@[simp] theorem updMon_chain (n : Nat) (f : Monitor → Monitor) : (updMon s n f).chain = s.chain := rfl
@[simp] theorem updMon_noc (n : Nat) (f : Monitor → Monitor) : (updMon s n f).noc = s.noc := rfl
@[simp] theorem updMon_wale (n : Nat) (f : Monitor → Monitor) : (updMon s n f).wale = s.wale := rfl
@[simp] theorem updMon_pan (n : Nat) (f : Monitor → Monitor) : (updMon s n f).pan = s.pan := rfl
@[simp] theorem updMon_dram (n : Nat) (f : Monitor → Monitor) : (updMon s n f).dram = s.dram := rfl
@[simp] theorem updMon_ecc (n : Nat) (f : Monitor → Monitor) : (updMon s n f).ecc = s.ecc := rfl
@[simp] theorem updMon_crypt (n : Nat) (f : Monitor → Monitor) : (updMon s n f).crypt = s.crypt := rfl
@[simp] theorem updMon_time (n : Nat) (f : Monitor → Monitor) : (updMon s n f).time = s.time := rfl
@[simp] theorem updMon_banks (n : Nat) (f : Monitor → Monitor) : (updMon s n f).banks = s.banks := rfl
@[simp] theorem updMon_pins (n : Nat) (f : Monitor → Monitor) : (updMon s n f).pins = s.pins := rfl
@[simp] theorem updMon_lanes (n : Nat) (f : Monitor → Monitor) : (updMon s n f).lanes = s.lanes := rfl
@[simp] theorem updMon_sealed (n : Nat) (f : Monitor → Monitor) : (updMon s n f).sealed = s.sealed := rfl
@[simp] theorem updMon_power (n : Nat) (f : Monitor → Monitor) : (updMon s n f).power = s.power := rfl
@[simp] theorem updMon_board (n : Nat) (f : Monitor → Monitor) : (updMon s n f).board = s.board := rfl
@[simp] theorem updMon_test (n : Nat) (f : Monitor → Monitor) : (updMon s n f).test = s.test := rfl
@[simp] theorem updMon_obs (n : Nat) (f : Monitor → Monitor) : (updMon s n f).obs = { s.obs with monitors := AMap.upd {} s.obs.monitors n f } := rfl

/-! #### updWindow -/

@[simp] theorem updWindow_pending (n : Nat) (f : Window → Window) : (updWindow s n f).pending = s.pending := rfl
@[simp] theorem updWindow_outs (n : Nat) (f : Window → Window) : (updWindow s n f).outs = s.outs := rfl
@[simp] theorem updWindow_freeCtr (n : Nat) (f : Window → Window) : (updWindow s n f).freeCtr = s.freeCtr := rfl
@[simp] theorem updWindow_fuses (n : Nat) (f : Window → Window) : (updWindow s n f).fuses = s.fuses := rfl
@[simp] theorem updWindow_obj (n : Nat) (f : Window → Window) : (updWindow s n f).obj = s.obj := rfl
@[simp] theorem updWindow_dict (n : Nat) (f : Window → Window) : (updWindow s n f).dict = s.dict := rfl
@[simp] theorem updWindow_clk (n : Nat) (f : Window → Window) : (updWindow s n f).clk = s.clk := rfl
@[simp] theorem updWindow_fab (n : Nat) (f : Window → Window) : (updWindow s n f).fab = s.fab := rfl
@[simp] theorem updWindow_edge (n : Nat) (f : Window → Window) : (updWindow s n f).edge = s.edge := rfl
@[simp] theorem updWindow_planes (n : Nat) (f : Window → Window) : (updWindow s n f).planes = s.planes := rfl
@[simp] theorem updWindow_frames (n : Nat) (f : Window → Window) : (updWindow s n f).frames = s.frames := rfl
@[simp] theorem updWindow_stage (n : Nat) (f : Window → Window) : (updWindow s n f).stage = s.stage := rfl
@[simp] theorem updWindow_grants (n : Nat) (f : Window → Window) : (updWindow s n f).grants = s.grants := rfl
@[simp] theorem updWindow_teams (n : Nat) (f : Window → Window) : (updWindow s n f).teams = s.teams := rfl
@[simp] theorem updWindow_cap (n : Nat) (f : Window → Window) : (updWindow s n f).cap = s.cap := rfl
@[simp] theorem updWindow_loader (n : Nat) (f : Window → Window) : (updWindow s n f).loader = s.loader := rfl
@[simp] theorem updWindow_boot (n : Nat) (f : Window → Window) : (updWindow s n f).boot = s.boot := rfl
@[simp] theorem updWindow_chain (n : Nat) (f : Window → Window) : (updWindow s n f).chain = s.chain := rfl
@[simp] theorem updWindow_noc (n : Nat) (f : Window → Window) : (updWindow s n f).noc = s.noc := rfl
@[simp] theorem updWindow_wale (n : Nat) (f : Window → Window) : (updWindow s n f).wale = s.wale := rfl
@[simp] theorem updWindow_pan (n : Nat) (f : Window → Window) : (updWindow s n f).pan = { s.pan with windows := AMap.upd {} s.pan.windows n f } := rfl
@[simp] theorem updWindow_dram (n : Nat) (f : Window → Window) : (updWindow s n f).dram = s.dram := rfl
@[simp] theorem updWindow_ecc (n : Nat) (f : Window → Window) : (updWindow s n f).ecc = s.ecc := rfl
@[simp] theorem updWindow_crypt (n : Nat) (f : Window → Window) : (updWindow s n f).crypt = s.crypt := rfl
@[simp] theorem updWindow_time (n : Nat) (f : Window → Window) : (updWindow s n f).time = s.time := rfl
@[simp] theorem updWindow_banks (n : Nat) (f : Window → Window) : (updWindow s n f).banks = s.banks := rfl
@[simp] theorem updWindow_pins (n : Nat) (f : Window → Window) : (updWindow s n f).pins = s.pins := rfl
@[simp] theorem updWindow_lanes (n : Nat) (f : Window → Window) : (updWindow s n f).lanes = s.lanes := rfl
@[simp] theorem updWindow_sealed (n : Nat) (f : Window → Window) : (updWindow s n f).sealed = s.sealed := rfl
@[simp] theorem updWindow_power (n : Nat) (f : Window → Window) : (updWindow s n f).power = s.power := rfl
@[simp] theorem updWindow_board (n : Nat) (f : Window → Window) : (updWindow s n f).board = s.board := rfl
@[simp] theorem updWindow_test (n : Nat) (f : Window → Window) : (updWindow s n f).test = s.test := rfl
@[simp] theorem updWindow_obs (n : Nat) (f : Window → Window) : (updWindow s n f).obs = s.obs := rfl

/-! #### updSensor -/

@[simp] theorem updSensor_pending (n : Nat) (f : Sensor → Sensor) : (updSensor s n f).pending = s.pending := rfl
@[simp] theorem updSensor_outs (n : Nat) (f : Sensor → Sensor) : (updSensor s n f).outs = s.outs := rfl
@[simp] theorem updSensor_freeCtr (n : Nat) (f : Sensor → Sensor) : (updSensor s n f).freeCtr = s.freeCtr := rfl
@[simp] theorem updSensor_fuses (n : Nat) (f : Sensor → Sensor) : (updSensor s n f).fuses = s.fuses := rfl
@[simp] theorem updSensor_obj (n : Nat) (f : Sensor → Sensor) : (updSensor s n f).obj = s.obj := rfl
@[simp] theorem updSensor_dict (n : Nat) (f : Sensor → Sensor) : (updSensor s n f).dict = s.dict := rfl
@[simp] theorem updSensor_clk (n : Nat) (f : Sensor → Sensor) : (updSensor s n f).clk = s.clk := rfl
@[simp] theorem updSensor_fab (n : Nat) (f : Sensor → Sensor) : (updSensor s n f).fab = s.fab := rfl
@[simp] theorem updSensor_edge (n : Nat) (f : Sensor → Sensor) : (updSensor s n f).edge = s.edge := rfl
@[simp] theorem updSensor_planes (n : Nat) (f : Sensor → Sensor) : (updSensor s n f).planes = s.planes := rfl
@[simp] theorem updSensor_frames (n : Nat) (f : Sensor → Sensor) : (updSensor s n f).frames = s.frames := rfl
@[simp] theorem updSensor_stage (n : Nat) (f : Sensor → Sensor) : (updSensor s n f).stage = s.stage := rfl
@[simp] theorem updSensor_grants (n : Nat) (f : Sensor → Sensor) : (updSensor s n f).grants = s.grants := rfl
@[simp] theorem updSensor_teams (n : Nat) (f : Sensor → Sensor) : (updSensor s n f).teams = s.teams := rfl
@[simp] theorem updSensor_cap (n : Nat) (f : Sensor → Sensor) : (updSensor s n f).cap = s.cap := rfl
@[simp] theorem updSensor_loader (n : Nat) (f : Sensor → Sensor) : (updSensor s n f).loader = s.loader := rfl
@[simp] theorem updSensor_boot (n : Nat) (f : Sensor → Sensor) : (updSensor s n f).boot = s.boot := rfl
@[simp] theorem updSensor_chain (n : Nat) (f : Sensor → Sensor) : (updSensor s n f).chain = s.chain := rfl
@[simp] theorem updSensor_noc (n : Nat) (f : Sensor → Sensor) : (updSensor s n f).noc = s.noc := rfl
@[simp] theorem updSensor_wale (n : Nat) (f : Sensor → Sensor) : (updSensor s n f).wale = s.wale := rfl
@[simp] theorem updSensor_pan (n : Nat) (f : Sensor → Sensor) : (updSensor s n f).pan = s.pan := rfl
@[simp] theorem updSensor_dram (n : Nat) (f : Sensor → Sensor) : (updSensor s n f).dram = s.dram := rfl
@[simp] theorem updSensor_ecc (n : Nat) (f : Sensor → Sensor) : (updSensor s n f).ecc = s.ecc := rfl
@[simp] theorem updSensor_crypt (n : Nat) (f : Sensor → Sensor) : (updSensor s n f).crypt = s.crypt := rfl
@[simp] theorem updSensor_time (n : Nat) (f : Sensor → Sensor) : (updSensor s n f).time = s.time := rfl
@[simp] theorem updSensor_banks (n : Nat) (f : Sensor → Sensor) : (updSensor s n f).banks = s.banks := rfl
@[simp] theorem updSensor_pins (n : Nat) (f : Sensor → Sensor) : (updSensor s n f).pins = s.pins := rfl
@[simp] theorem updSensor_lanes (n : Nat) (f : Sensor → Sensor) : (updSensor s n f).lanes = s.lanes := rfl
@[simp] theorem updSensor_sealed (n : Nat) (f : Sensor → Sensor) : (updSensor s n f).sealed = s.sealed := rfl
@[simp] theorem updSensor_power (n : Nat) (f : Sensor → Sensor) : (updSensor s n f).power = { s.power with sensors := AMap.upd {} s.power.sensors n f } := rfl
@[simp] theorem updSensor_board (n : Nat) (f : Sensor → Sensor) : (updSensor s n f).board = s.board := rfl
@[simp] theorem updSensor_test (n : Nat) (f : Sensor → Sensor) : (updSensor s n f).test = s.test := rfl
@[simp] theorem updSensor_obs (n : Nat) (f : Sensor → Sensor) : (updSensor s n f).obs = s.obs := rfl

/-! #### updStream -/

@[simp] theorem updStream_pending (f : Stream → Stream) : (updStream s f).pending = s.pending := rfl
@[simp] theorem updStream_outs (f : Stream → Stream) : (updStream s f).outs = s.outs := rfl
@[simp] theorem updStream_freeCtr (f : Stream → Stream) : (updStream s f).freeCtr = s.freeCtr := rfl
@[simp] theorem updStream_fuses (f : Stream → Stream) : (updStream s f).fuses = s.fuses := rfl
@[simp] theorem updStream_obj (f : Stream → Stream) : (updStream s f).obj = s.obj := rfl
@[simp] theorem updStream_dict (f : Stream → Stream) : (updStream s f).dict = s.dict := rfl
@[simp] theorem updStream_clk (f : Stream → Stream) : (updStream s f).clk = s.clk := rfl
@[simp] theorem updStream_fab (f : Stream → Stream) : (updStream s f).fab = s.fab := rfl
@[simp] theorem updStream_edge (f : Stream → Stream) : (updStream s f).edge = s.edge := rfl
@[simp] theorem updStream_planes (f : Stream → Stream) : (updStream s f).planes = s.planes := rfl
@[simp] theorem updStream_frames (f : Stream → Stream) : (updStream s f).frames = s.frames := rfl
@[simp] theorem updStream_stage (f : Stream → Stream) : (updStream s f).stage = s.stage := rfl
@[simp] theorem updStream_grants (f : Stream → Stream) : (updStream s f).grants = s.grants := rfl
@[simp] theorem updStream_teams (f : Stream → Stream) : (updStream s f).teams = s.teams := rfl
@[simp] theorem updStream_cap (f : Stream → Stream) : (updStream s f).cap = s.cap := rfl
@[simp] theorem updStream_loader (f : Stream → Stream) : (updStream s f).loader = { s.loader with cur := s.loader.cur.map f } := rfl
@[simp] theorem updStream_boot (f : Stream → Stream) : (updStream s f).boot = s.boot := rfl
@[simp] theorem updStream_chain (f : Stream → Stream) : (updStream s f).chain = s.chain := rfl
@[simp] theorem updStream_noc (f : Stream → Stream) : (updStream s f).noc = s.noc := rfl
@[simp] theorem updStream_wale (f : Stream → Stream) : (updStream s f).wale = s.wale := rfl
@[simp] theorem updStream_pan (f : Stream → Stream) : (updStream s f).pan = s.pan := rfl
@[simp] theorem updStream_dram (f : Stream → Stream) : (updStream s f).dram = s.dram := rfl
@[simp] theorem updStream_ecc (f : Stream → Stream) : (updStream s f).ecc = s.ecc := rfl
@[simp] theorem updStream_crypt (f : Stream → Stream) : (updStream s f).crypt = s.crypt := rfl
@[simp] theorem updStream_time (f : Stream → Stream) : (updStream s f).time = s.time := rfl
@[simp] theorem updStream_banks (f : Stream → Stream) : (updStream s f).banks = s.banks := rfl
@[simp] theorem updStream_pins (f : Stream → Stream) : (updStream s f).pins = s.pins := rfl
@[simp] theorem updStream_lanes (f : Stream → Stream) : (updStream s f).lanes = s.lanes := rfl
@[simp] theorem updStream_sealed (f : Stream → Stream) : (updStream s f).sealed = s.sealed := rfl
@[simp] theorem updStream_power (f : Stream → Stream) : (updStream s f).power = s.power := rfl
@[simp] theorem updStream_board (f : Stream → Stream) : (updStream s f).board = s.board := rfl
@[simp] theorem updStream_test (f : Stream → Stream) : (updStream s f).test = s.test := rfl
@[simp] theorem updStream_obs (f : Stream → Stream) : (updStream s f).obs = s.obs := rfl

/-! #### enterPhase -/

@[simp] theorem enterPhase_pending (ph : Nat) : (enterPhase s ph).pending = s.pending := rfl
@[simp] theorem enterPhase_outs (ph : Nat) : (enterPhase s ph).outs = s.outs := rfl
@[simp] theorem enterPhase_freeCtr (ph : Nat) : (enterPhase s ph).freeCtr = s.freeCtr := rfl
@[simp] theorem enterPhase_fuses (ph : Nat) : (enterPhase s ph).fuses = s.fuses := rfl
@[simp] theorem enterPhase_obj (ph : Nat) : (enterPhase s ph).obj = s.obj := rfl
@[simp] theorem enterPhase_dict (ph : Nat) : (enterPhase s ph).dict = s.dict := rfl
@[simp] theorem enterPhase_clk (ph : Nat) : (enterPhase s ph).clk = s.clk := rfl
@[simp] theorem enterPhase_fab (ph : Nat) : (enterPhase s ph).fab = s.fab := rfl
@[simp] theorem enterPhase_edge (ph : Nat) : (enterPhase s ph).edge = s.edge := rfl
@[simp] theorem enterPhase_planes (ph : Nat) : (enterPhase s ph).planes = s.planes := rfl
@[simp] theorem enterPhase_frames (ph : Nat) : (enterPhase s ph).frames = s.frames := rfl
@[simp] theorem enterPhase_stage (ph : Nat) : (enterPhase s ph).stage = s.stage := rfl
@[simp] theorem enterPhase_grants (ph : Nat) : (enterPhase s ph).grants = s.grants := rfl
@[simp] theorem enterPhase_teams (ph : Nat) : (enterPhase s ph).teams = s.teams := rfl
@[simp] theorem enterPhase_cap (ph : Nat) : (enterPhase s ph).cap = s.cap := rfl
@[simp] theorem enterPhase_loader (ph : Nat) : (enterPhase s ph).loader = s.loader := rfl
@[simp] theorem enterPhase_boot (ph : Nat) : (enterPhase s ph).boot = { s.boot with phase := ph } := rfl
@[simp] theorem enterPhase_chain (ph : Nat) : (enterPhase s ph).chain = s.chain := rfl
@[simp] theorem enterPhase_noc (ph : Nat) : (enterPhase s ph).noc = s.noc := rfl
@[simp] theorem enterPhase_wale (ph : Nat) : (enterPhase s ph).wale = s.wale := rfl
@[simp] theorem enterPhase_pan (ph : Nat) : (enterPhase s ph).pan = s.pan := rfl
@[simp] theorem enterPhase_dram (ph : Nat) : (enterPhase s ph).dram = s.dram := rfl
@[simp] theorem enterPhase_ecc (ph : Nat) : (enterPhase s ph).ecc = s.ecc := rfl
@[simp] theorem enterPhase_crypt (ph : Nat) : (enterPhase s ph).crypt = s.crypt := rfl
@[simp] theorem enterPhase_time (ph : Nat) : (enterPhase s ph).time = s.time := rfl
@[simp] theorem enterPhase_banks (ph : Nat) : (enterPhase s ph).banks = s.banks := rfl
@[simp] theorem enterPhase_pins (ph : Nat) : (enterPhase s ph).pins = s.pins := rfl
@[simp] theorem enterPhase_lanes (ph : Nat) : (enterPhase s ph).lanes = s.lanes := rfl
@[simp] theorem enterPhase_sealed (ph : Nat) : (enterPhase s ph).sealed = s.sealed := rfl
@[simp] theorem enterPhase_power (ph : Nat) : (enterPhase s ph).power = s.power := rfl
@[simp] theorem enterPhase_board (ph : Nat) : (enterPhase s ph).board = s.board := rfl
@[simp] theorem enterPhase_test (ph : Nat) : (enterPhase s ph).test = s.test := rfl
@[simp] theorem enterPhase_obs (ph : Nat) : (enterPhase s ph).obs = s.obs := rfl

/-! #### updBank -/

@[simp] theorem updBank_pending (b : Nat) (f : IoBank → IoBank) : (updBank s b f).pending = s.pending := rfl
@[simp] theorem updBank_outs (b : Nat) (f : IoBank → IoBank) : (updBank s b f).outs = s.outs := rfl
@[simp] theorem updBank_freeCtr (b : Nat) (f : IoBank → IoBank) : (updBank s b f).freeCtr = s.freeCtr := rfl
@[simp] theorem updBank_fuses (b : Nat) (f : IoBank → IoBank) : (updBank s b f).fuses = s.fuses := rfl
@[simp] theorem updBank_obj (b : Nat) (f : IoBank → IoBank) : (updBank s b f).obj = s.obj := rfl
@[simp] theorem updBank_dict (b : Nat) (f : IoBank → IoBank) : (updBank s b f).dict = s.dict := rfl
@[simp] theorem updBank_clk (b : Nat) (f : IoBank → IoBank) : (updBank s b f).clk = s.clk := rfl
@[simp] theorem updBank_fab (b : Nat) (f : IoBank → IoBank) : (updBank s b f).fab = s.fab := rfl
@[simp] theorem updBank_edge (b : Nat) (f : IoBank → IoBank) : (updBank s b f).edge = s.edge := rfl
@[simp] theorem updBank_planes (b : Nat) (f : IoBank → IoBank) : (updBank s b f).planes = s.planes := rfl
@[simp] theorem updBank_frames (b : Nat) (f : IoBank → IoBank) : (updBank s b f).frames = s.frames := rfl
@[simp] theorem updBank_stage (b : Nat) (f : IoBank → IoBank) : (updBank s b f).stage = s.stage := rfl
@[simp] theorem updBank_grants (b : Nat) (f : IoBank → IoBank) : (updBank s b f).grants = s.grants := rfl
@[simp] theorem updBank_teams (b : Nat) (f : IoBank → IoBank) : (updBank s b f).teams = s.teams := rfl
@[simp] theorem updBank_cap (b : Nat) (f : IoBank → IoBank) : (updBank s b f).cap = s.cap := rfl
@[simp] theorem updBank_loader (b : Nat) (f : IoBank → IoBank) : (updBank s b f).loader = s.loader := rfl
@[simp] theorem updBank_boot (b : Nat) (f : IoBank → IoBank) : (updBank s b f).boot = s.boot := rfl
@[simp] theorem updBank_chain (b : Nat) (f : IoBank → IoBank) : (updBank s b f).chain = s.chain := rfl
@[simp] theorem updBank_noc (b : Nat) (f : IoBank → IoBank) : (updBank s b f).noc = s.noc := rfl
@[simp] theorem updBank_wale (b : Nat) (f : IoBank → IoBank) : (updBank s b f).wale = s.wale := rfl
@[simp] theorem updBank_pan (b : Nat) (f : IoBank → IoBank) : (updBank s b f).pan = s.pan := rfl
@[simp] theorem updBank_dram (b : Nat) (f : IoBank → IoBank) : (updBank s b f).dram = s.dram := rfl
@[simp] theorem updBank_ecc (b : Nat) (f : IoBank → IoBank) : (updBank s b f).ecc = s.ecc := rfl
@[simp] theorem updBank_crypt (b : Nat) (f : IoBank → IoBank) : (updBank s b f).crypt = s.crypt := rfl
@[simp] theorem updBank_time (b : Nat) (f : IoBank → IoBank) : (updBank s b f).time = s.time := rfl
@[simp] theorem updBank_banks (b : Nat) (f : IoBank → IoBank) : (updBank s b f).banks = AMap.upd {} s.banks b f := rfl
@[simp] theorem updBank_pins (b : Nat) (f : IoBank → IoBank) : (updBank s b f).pins = s.pins := rfl
@[simp] theorem updBank_lanes (b : Nat) (f : IoBank → IoBank) : (updBank s b f).lanes = s.lanes := rfl
@[simp] theorem updBank_sealed (b : Nat) (f : IoBank → IoBank) : (updBank s b f).sealed = s.sealed := rfl
@[simp] theorem updBank_power (b : Nat) (f : IoBank → IoBank) : (updBank s b f).power = s.power := rfl
@[simp] theorem updBank_board (b : Nat) (f : IoBank → IoBank) : (updBank s b f).board = s.board := rfl
@[simp] theorem updBank_test (b : Nat) (f : IoBank → IoBank) : (updBank s b f).test = s.test := rfl
@[simp] theorem updBank_obs (b : Nat) (f : IoBank → IoBank) : (updBank s b f).obs = s.obs := rfl

/-! #### updPin -/

@[simp] theorem updPin_pending (b p : Nat) (f : Pin → Pin) : (updPin s b p f).pending = s.pending := rfl
@[simp] theorem updPin_outs (b p : Nat) (f : Pin → Pin) : (updPin s b p f).outs = s.outs := rfl
@[simp] theorem updPin_freeCtr (b p : Nat) (f : Pin → Pin) : (updPin s b p f).freeCtr = s.freeCtr := rfl
@[simp] theorem updPin_fuses (b p : Nat) (f : Pin → Pin) : (updPin s b p f).fuses = s.fuses := rfl
@[simp] theorem updPin_obj (b p : Nat) (f : Pin → Pin) : (updPin s b p f).obj = s.obj := rfl
@[simp] theorem updPin_dict (b p : Nat) (f : Pin → Pin) : (updPin s b p f).dict = s.dict := rfl
@[simp] theorem updPin_clk (b p : Nat) (f : Pin → Pin) : (updPin s b p f).clk = s.clk := rfl
@[simp] theorem updPin_fab (b p : Nat) (f : Pin → Pin) : (updPin s b p f).fab = s.fab := rfl
@[simp] theorem updPin_edge (b p : Nat) (f : Pin → Pin) : (updPin s b p f).edge = s.edge := rfl
@[simp] theorem updPin_planes (b p : Nat) (f : Pin → Pin) : (updPin s b p f).planes = s.planes := rfl
@[simp] theorem updPin_frames (b p : Nat) (f : Pin → Pin) : (updPin s b p f).frames = s.frames := rfl
@[simp] theorem updPin_stage (b p : Nat) (f : Pin → Pin) : (updPin s b p f).stage = s.stage := rfl
@[simp] theorem updPin_grants (b p : Nat) (f : Pin → Pin) : (updPin s b p f).grants = s.grants := rfl
@[simp] theorem updPin_teams (b p : Nat) (f : Pin → Pin) : (updPin s b p f).teams = s.teams := rfl
@[simp] theorem updPin_cap (b p : Nat) (f : Pin → Pin) : (updPin s b p f).cap = s.cap := rfl
@[simp] theorem updPin_loader (b p : Nat) (f : Pin → Pin) : (updPin s b p f).loader = s.loader := rfl
@[simp] theorem updPin_boot (b p : Nat) (f : Pin → Pin) : (updPin s b p f).boot = s.boot := rfl
@[simp] theorem updPin_chain (b p : Nat) (f : Pin → Pin) : (updPin s b p f).chain = s.chain := rfl
@[simp] theorem updPin_noc (b p : Nat) (f : Pin → Pin) : (updPin s b p f).noc = s.noc := rfl
@[simp] theorem updPin_wale (b p : Nat) (f : Pin → Pin) : (updPin s b p f).wale = s.wale := rfl
@[simp] theorem updPin_pan (b p : Nat) (f : Pin → Pin) : (updPin s b p f).pan = s.pan := rfl
@[simp] theorem updPin_dram (b p : Nat) (f : Pin → Pin) : (updPin s b p f).dram = s.dram := rfl
@[simp] theorem updPin_ecc (b p : Nat) (f : Pin → Pin) : (updPin s b p f).ecc = s.ecc := rfl
@[simp] theorem updPin_crypt (b p : Nat) (f : Pin → Pin) : (updPin s b p f).crypt = s.crypt := rfl
@[simp] theorem updPin_time (b p : Nat) (f : Pin → Pin) : (updPin s b p f).time = s.time := rfl
@[simp] theorem updPin_banks (b p : Nat) (f : Pin → Pin) : (updPin s b p f).banks = s.banks := rfl
@[simp] theorem updPin_pins (b p : Nat) (f : Pin → Pin) : (updPin s b p f).pins = AMap.upd {} s.pins (pinKey b p) f := rfl
@[simp] theorem updPin_lanes (b p : Nat) (f : Pin → Pin) : (updPin s b p f).lanes = s.lanes := rfl
@[simp] theorem updPin_sealed (b p : Nat) (f : Pin → Pin) : (updPin s b p f).sealed = s.sealed := rfl
@[simp] theorem updPin_power (b p : Nat) (f : Pin → Pin) : (updPin s b p f).power = s.power := rfl
@[simp] theorem updPin_board (b p : Nat) (f : Pin → Pin) : (updPin s b p f).board = s.board := rfl
@[simp] theorem updPin_test (b p : Nat) (f : Pin → Pin) : (updPin s b p f).test = s.test := rfl
@[simp] theorem updPin_obs (b p : Nat) (f : Pin → Pin) : (updPin s b p f).obs = s.obs := rfl

/-! #### setWay -/

@[simp] theorem setWay_pending (k : Nat) (x : Option WLine) : (setWay s k x).pending = s.pending := rfl
@[simp] theorem setWay_outs (k : Nat) (x : Option WLine) : (setWay s k x).outs = s.outs := rfl
@[simp] theorem setWay_freeCtr (k : Nat) (x : Option WLine) : (setWay s k x).freeCtr = s.freeCtr := rfl
@[simp] theorem setWay_fuses (k : Nat) (x : Option WLine) : (setWay s k x).fuses = s.fuses := rfl
@[simp] theorem setWay_obj (k : Nat) (x : Option WLine) : (setWay s k x).obj = s.obj := rfl
@[simp] theorem setWay_dict (k : Nat) (x : Option WLine) : (setWay s k x).dict = s.dict := rfl
@[simp] theorem setWay_clk (k : Nat) (x : Option WLine) : (setWay s k x).clk = s.clk := rfl
@[simp] theorem setWay_fab (k : Nat) (x : Option WLine) : (setWay s k x).fab = s.fab := rfl
@[simp] theorem setWay_edge (k : Nat) (x : Option WLine) : (setWay s k x).edge = s.edge := rfl
@[simp] theorem setWay_planes (k : Nat) (x : Option WLine) : (setWay s k x).planes = s.planes := rfl
@[simp] theorem setWay_frames (k : Nat) (x : Option WLine) : (setWay s k x).frames = s.frames := rfl
@[simp] theorem setWay_stage (k : Nat) (x : Option WLine) : (setWay s k x).stage = s.stage := rfl
@[simp] theorem setWay_grants (k : Nat) (x : Option WLine) : (setWay s k x).grants = s.grants := rfl
@[simp] theorem setWay_teams (k : Nat) (x : Option WLine) : (setWay s k x).teams = s.teams := rfl
@[simp] theorem setWay_cap (k : Nat) (x : Option WLine) : (setWay s k x).cap = s.cap := rfl
@[simp] theorem setWay_loader (k : Nat) (x : Option WLine) : (setWay s k x).loader = s.loader := rfl
@[simp] theorem setWay_boot (k : Nat) (x : Option WLine) : (setWay s k x).boot = s.boot := rfl
@[simp] theorem setWay_chain (k : Nat) (x : Option WLine) : (setWay s k x).chain = s.chain := rfl
@[simp] theorem setWay_noc (k : Nat) (x : Option WLine) : (setWay s k x).noc = s.noc := rfl
@[simp] theorem setWay_wale (k : Nat) (x : Option WLine) : (setWay s k x).wale = { s.wale with ways := AMap.set none s.wale.ways k x } := rfl
@[simp] theorem setWay_pan (k : Nat) (x : Option WLine) : (setWay s k x).pan = s.pan := rfl
@[simp] theorem setWay_dram (k : Nat) (x : Option WLine) : (setWay s k x).dram = s.dram := rfl
@[simp] theorem setWay_ecc (k : Nat) (x : Option WLine) : (setWay s k x).ecc = s.ecc := rfl
@[simp] theorem setWay_crypt (k : Nat) (x : Option WLine) : (setWay s k x).crypt = s.crypt := rfl
@[simp] theorem setWay_time (k : Nat) (x : Option WLine) : (setWay s k x).time = s.time := rfl
@[simp] theorem setWay_banks (k : Nat) (x : Option WLine) : (setWay s k x).banks = s.banks := rfl
@[simp] theorem setWay_pins (k : Nat) (x : Option WLine) : (setWay s k x).pins = s.pins := rfl
@[simp] theorem setWay_lanes (k : Nat) (x : Option WLine) : (setWay s k x).lanes = s.lanes := rfl
@[simp] theorem setWay_sealed (k : Nat) (x : Option WLine) : (setWay s k x).sealed = s.sealed := rfl
@[simp] theorem setWay_power (k : Nat) (x : Option WLine) : (setWay s k x).power = s.power := rfl
@[simp] theorem setWay_board (k : Nat) (x : Option WLine) : (setWay s k x).board = s.board := rfl
@[simp] theorem setWay_test (k : Nat) (x : Option WLine) : (setWay s k x).test = s.test := rfl
@[simp] theorem setWay_obs (k : Nat) (x : Option WLine) : (setWay s k x).obs = s.obs := rfl

/-! #### updSlice -/

@[simp] theorem updSlice_pending (k : Nat) (f : Slice → Slice) : (updSlice s k f).pending = s.pending := rfl
@[simp] theorem updSlice_outs (k : Nat) (f : Slice → Slice) : (updSlice s k f).outs = s.outs := rfl
@[simp] theorem updSlice_freeCtr (k : Nat) (f : Slice → Slice) : (updSlice s k f).freeCtr = s.freeCtr := rfl
@[simp] theorem updSlice_fuses (k : Nat) (f : Slice → Slice) : (updSlice s k f).fuses = s.fuses := rfl
@[simp] theorem updSlice_obj (k : Nat) (f : Slice → Slice) : (updSlice s k f).obj = s.obj := rfl
@[simp] theorem updSlice_dict (k : Nat) (f : Slice → Slice) : (updSlice s k f).dict = s.dict := rfl
@[simp] theorem updSlice_clk (k : Nat) (f : Slice → Slice) : (updSlice s k f).clk = s.clk := rfl
@[simp] theorem updSlice_fab (k : Nat) (f : Slice → Slice) : (updSlice s k f).fab = s.fab := rfl
@[simp] theorem updSlice_edge (k : Nat) (f : Slice → Slice) : (updSlice s k f).edge = s.edge := rfl
@[simp] theorem updSlice_planes (k : Nat) (f : Slice → Slice) : (updSlice s k f).planes = s.planes := rfl
@[simp] theorem updSlice_frames (k : Nat) (f : Slice → Slice) : (updSlice s k f).frames = s.frames := rfl
@[simp] theorem updSlice_stage (k : Nat) (f : Slice → Slice) : (updSlice s k f).stage = s.stage := rfl
@[simp] theorem updSlice_grants (k : Nat) (f : Slice → Slice) : (updSlice s k f).grants = s.grants := rfl
@[simp] theorem updSlice_teams (k : Nat) (f : Slice → Slice) : (updSlice s k f).teams = s.teams := rfl
@[simp] theorem updSlice_cap (k : Nat) (f : Slice → Slice) : (updSlice s k f).cap = s.cap := rfl
@[simp] theorem updSlice_loader (k : Nat) (f : Slice → Slice) : (updSlice s k f).loader = s.loader := rfl
@[simp] theorem updSlice_boot (k : Nat) (f : Slice → Slice) : (updSlice s k f).boot = s.boot := rfl
@[simp] theorem updSlice_chain (k : Nat) (f : Slice → Slice) : (updSlice s k f).chain = s.chain := rfl
@[simp] theorem updSlice_noc (k : Nat) (f : Slice → Slice) : (updSlice s k f).noc = s.noc := rfl
@[simp] theorem updSlice_wale (k : Nat) (f : Slice → Slice) : (updSlice s k f).wale = { s.wale with slices := AMap.upd {} s.wale.slices k f } := rfl
@[simp] theorem updSlice_pan (k : Nat) (f : Slice → Slice) : (updSlice s k f).pan = s.pan := rfl
@[simp] theorem updSlice_dram (k : Nat) (f : Slice → Slice) : (updSlice s k f).dram = s.dram := rfl
@[simp] theorem updSlice_ecc (k : Nat) (f : Slice → Slice) : (updSlice s k f).ecc = s.ecc := rfl
@[simp] theorem updSlice_crypt (k : Nat) (f : Slice → Slice) : (updSlice s k f).crypt = s.crypt := rfl
@[simp] theorem updSlice_time (k : Nat) (f : Slice → Slice) : (updSlice s k f).time = s.time := rfl
@[simp] theorem updSlice_banks (k : Nat) (f : Slice → Slice) : (updSlice s k f).banks = s.banks := rfl
@[simp] theorem updSlice_pins (k : Nat) (f : Slice → Slice) : (updSlice s k f).pins = s.pins := rfl
@[simp] theorem updSlice_lanes (k : Nat) (f : Slice → Slice) : (updSlice s k f).lanes = s.lanes := rfl
@[simp] theorem updSlice_sealed (k : Nat) (f : Slice → Slice) : (updSlice s k f).sealed = s.sealed := rfl
@[simp] theorem updSlice_power (k : Nat) (f : Slice → Slice) : (updSlice s k f).power = s.power := rfl
@[simp] theorem updSlice_board (k : Nat) (f : Slice → Slice) : (updSlice s k f).board = s.board := rfl
@[simp] theorem updSlice_test (k : Nat) (f : Slice → Slice) : (updSlice s k f).test = s.test := rfl
@[simp] theorem updSlice_obs (k : Nat) (f : Slice → Slice) : (updSlice s k f).obs = s.obs := rfl

end Sys2Proof.Machine
end

