-- ==== Sys2Proof/Laws/Store.lean ====
section
/-! SUPPORT. Sparse tables and byte memories: what a read gives after each update, and that every update keeps the canonical
form. -/

namespace Sys2Proof.Machine

variable {α : Type}

/-! ### Reading after an update -/

@[simp] theorem AMap.get_nil (d : α) (k : Nat) : AMap.get d [] k = d := rfl

/-- An entry placed at a key is read there. -/
@[simp] theorem AMap.get_ins_same (d : α) (m : AMap α) (k : Nat) (x : α) : AMap.get d (AMap.ins m k x) k = x := by
  induction m with
  | nil => simp [AMap.ins, AMap.get]
  | cons p rest ih =>
    simp only [AMap.ins]
    split
    · simp [AMap.get]
    · split
      · simp [AMap.get]
      · simp only [AMap.get, if_neg (by assumption), ih]

/-- An entry placed at a key leaves every other key. -/
theorem AMap.get_ins_other (d : α) (m : AMap α) (k j : Nat) (x : α) (h : j ≠ k) :
    AMap.get d (AMap.ins m k x) j = AMap.get d m j := by
  induction m with
  | nil => simp [AMap.ins, AMap.get, h]
  | cons p rest ih =>
    simp only [AMap.ins]
    split
    · simp [AMap.get, h]
    · split
      · subst_vars; simp [AMap.get, h]
      · simp only [AMap.get, ih]

/-- Removing a key leaves every other key. -/
theorem AMap.get_del_other (d : α) (m : AMap α) (k j : Nat) (h : j ≠ k) :
    AMap.get d (AMap.del m k) j = AMap.get d m j := by
  induction m with
  | nil => rfl
  | cons p rest ih =>
    simp only [AMap.del]
    split
    · subst_vars; simp [AMap.get, h, ih]
    · simp only [AMap.get, ih]

variable [DecidableEq α]

/-- Setting a key leaves every other key. -/
theorem AMap.get_set_other (d : α) (m : AMap α) (k j : Nat) (x : α) (h : j ≠ k) :
    AMap.get d (AMap.set d m k x) j = AMap.get d m j := by
  unfold AMap.set
  split
  · exact AMap.get_del_other d m k j h
  · exact AMap.get_ins_other d m k j x h

/-! ### The canonical form -/

/-- The canonical form without its first entry. -/
theorem AMap.wf_tail (d : α) (p : Nat × α) (m : AMap α) (h : AMap.wf d (p :: m) = true) : AMap.wf d m = true := by
  cases m with
  | nil => rfl
  | cons q rest => simp only [AMap.wf, Bool.and_eq_true] at h; exact h.2

/-- No entry of a canonical table holds the default. -/
theorem AMap.wf_head_ne (d : α) (p : Nat × α) (m : AMap α) (h : AMap.wf d (p :: m) = true) : p.2 ≠ d := by
  cases m with
  | nil => simpa [AMap.wf] using h
  | cons q rest => simp only [AMap.wf, Bool.and_eq_true, decide_eq_true_eq] at h; exact h.1.2

/-- The keys of a canonical table rise. -/
theorem AMap.wf_lt (d : α) (p : Nat × α) (m : AMap α) (h : AMap.wf d (p :: m) = true) : ∀ q ∈ m, p.1 < q.1 := by
  induction m generalizing p with
  | nil => simp
  | cons r rest ih =>
    have hr := AMap.wf_tail d p _ h
    simp only [AMap.wf, Bool.and_eq_true, decide_eq_true_eq] at h
    intro q hq
    rcases List.mem_cons.mp hq with rfl | hq
    · exact h.1.1
    · exact Nat.lt_trans h.1.1 (ih r hr q hq)

/-- A table is canonical where its first entry is not the default, its key lies below the others, and the rest is canonical. -/
theorem AMap.wf_cons (d : α) (p : Nat × α) (m : AMap α) (hd : p.2 ≠ d) (hlt : ∀ q ∈ m, p.1 < q.1)
    (hm : AMap.wf d m = true) : AMap.wf d (p :: m) = true := by
  cases m with
  | nil => simp [AMap.wf, hd]
  | cons q rest => simp [AMap.wf, hd, hlt q (by simp), hm]

omit [DecidableEq α] in
/-- A key below every key of a table reads the default. -/
theorem AMap.get_below (d : α) (m : AMap α) (k : Nat) (h : ∀ q ∈ m, k < q.1) : AMap.get d m k = d := by
  induction m with
  | nil => rfl
  | cons p rest ih =>
    have := h p (by simp)
    simp only [AMap.get, if_neg (Nat.ne_of_lt this)]
    exact ih fun q hq => h q (by simp [hq])

omit [DecidableEq α] in
/-- Every entry of a table after a removal was there before. -/
theorem AMap.mem_del (m : AMap α) (k : Nat) : ∀ q ∈ AMap.del m k, q ∈ m := by
  induction m with
  | nil => simp [AMap.del]
  | cons p rest ih =>
    intro q hq
    simp only [AMap.del] at hq
    split at hq
    · simp [ih q hq]
    · rcases List.mem_cons.mp hq with rfl | hq
      · simp
      · simp [ih q hq]

omit [DecidableEq α] in
/-- Every key of a table after an entry is placed is its key or was there before. -/
theorem AMap.mem_ins (m : AMap α) (k : Nat) (x : α) : ∀ q ∈ AMap.ins m k x, q.1 = k ∨ q ∈ m := by
  induction m with
  | nil => simp [AMap.ins]
  | cons p rest ih =>
    intro q hq
    simp only [AMap.ins] at hq
    split at hq
    · rcases List.mem_cons.mp hq with rfl | hq
      · exact .inl rfl
      · exact .inr hq
    · split at hq
      · rcases List.mem_cons.mp hq with rfl | hq
        · exact .inl rfl
        · exact .inr (by simp [hq])
      · rcases List.mem_cons.mp hq with rfl | hq
        · exact .inr (by simp)
        · rcases ih q hq with h | h
          · exact .inl h
          · exact .inr (by simp [h])

/-- Removing an entry keeps the canonical form. -/
theorem AMap.wf_del (d : α) (m : AMap α) (k : Nat) (h : AMap.wf d m = true) : AMap.wf d (AMap.del m k) = true := by
  induction m with
  | nil => rfl
  | cons p rest ih =>
    have ht := AMap.wf_tail d p rest h
    simp only [AMap.del]
    split
    · exact ih ht
    · exact AMap.wf_cons d p _ (AMap.wf_head_ne d p rest h)
        (fun q hq => AMap.wf_lt d p rest h q (AMap.mem_del rest k q hq)) (ih ht)

/-- Placing an entry that is not the default keeps the canonical form. -/
theorem AMap.wf_ins (d : α) (m : AMap α) (k : Nat) (x : α) (hx : x ≠ d) (h : AMap.wf d m = true) :
    AMap.wf d (AMap.ins m k x) = true := by
  induction m with
  | nil => simp [AMap.ins, AMap.wf, hx]
  | cons p rest ih =>
    have ht := AMap.wf_tail d p rest h
    have hl := AMap.wf_lt d p rest h
    simp only [AMap.ins]
    split
    · rename_i hk
      refine AMap.wf_cons d _ _ hx ?_ h
      intro q hq
      rcases List.mem_cons.mp hq with rfl | hq
      · exact hk
      · exact Nat.lt_trans hk (hl q hq)
    · split
      · subst_vars
        exact AMap.wf_cons d _ _ hx hl ht
      · refine AMap.wf_cons d p _ (AMap.wf_head_ne d p rest h) ?_ (ih ht)
        intro q hq
        rcases AMap.mem_ins rest k x q hq with hq | hq
        · rw [hq]; omega
        · exact hl q hq

/-- Setting an entry keeps the canonical form. -/
theorem AMap.wf_set (d : α) (m : AMap α) (k : Nat) (x : α) (h : AMap.wf d m = true) :
    AMap.wf d (AMap.set d m k x) = true := by
  unfold AMap.set
  split
  · exact AMap.wf_del d m k h
  · exact AMap.wf_ins d m k x (by assumption) h

/-- Changing an entry keeps the canonical form. -/
theorem AMap.wf_upd (d : α) (m : AMap α) (k : Nat) (f : α → α) (h : AMap.wf d m = true) :
    AMap.wf d (AMap.upd d m k f) = true := AMap.wf_set d m k _ h

/-- Leaving out entries keeps the canonical form. -/
theorem AMap.wf_filter (d : α) (m : AMap α) (p : Nat × α → Bool) (h : AMap.wf d m = true) :
    AMap.wf d (m.filter p) = true := by
  induction m with
  | nil => rfl
  | cons q rest ih =>
    have ht := AMap.wf_tail d q rest h
    simp only [List.filter_cons]
    split
    · exact AMap.wf_cons d q _ (AMap.wf_head_ne d q rest h)
        (fun r hr => AMap.wf_lt d q rest h r (List.mem_filter.mp hr).1) (ih ht)
    · exact ih ht

omit [DecidableEq α] in
/-- A removed key reads the default. -/
@[simp] theorem AMap.get_del_same (d : α) (m : AMap α) (k : Nat) : AMap.get d (AMap.del m k) k = d := by
  induction m with
  | nil => rfl
  | cons p rest ih =>
    simp only [AMap.del]
    split
    · exact ih
    · simp only [AMap.get, if_neg (by assumption), ih]

/-- A key set is read back. -/
@[simp] theorem AMap.get_set_same (d : α) (m : AMap α) (k : Nat) (x : α) : AMap.get d (AMap.set d m k x) k = x := by
  unfold AMap.set
  split
  · subst_vars; exact AMap.get_del_same _ m k
  · exact AMap.get_ins_same d m k x

/-- An entry changed is read back changed. -/
@[simp] theorem AMap.get_upd_same (d : α) (m : AMap α) (k : Nat) (f : α → α) :
    AMap.get d (AMap.upd d m k f) k = f (AMap.get d m k) := AMap.get_set_same d m k _

/-- Changing an entry leaves every other key. -/
theorem AMap.get_upd_other (d : α) (m : AMap α) (k j : Nat) (f : α → α) (h : j ≠ k) :
    AMap.get d (AMap.upd d m k f) j = AMap.get d m j := AMap.get_set_other d m k j _ h

/-! ### Byte memories -/

/-- One byte written keeps the canonical form. -/
theorem Memory.wf_put (m : List Host.Cell) (a : Nat) (b : Byte) (h : Memory.wf m = true) : Memory.wf (Memory.put m a b) = true :=
  AMap.wf_set 0 m a b h

/-- Bytes written keep the canonical form. -/
theorem Memory.wf_write (bs : List Byte) (m : List Host.Cell) (a : Nat) (h : Memory.wf m = true) :
    Memory.wf (Memory.write m a bs) = true := by
  induction bs generalizing m a with
  | nil => exact h
  | cons b bs ih => exact ih _ _ (Memory.wf_put m a b h)

/-- Bytes cleared keep the canonical form. -/
theorem Memory.wf_clear (m : List Host.Cell) (a n : Nat) (h : Memory.wf m = true) : Memory.wf (Memory.clear m a n) = true :=
  AMap.wf_filter 0 m _ h

/-- A byte written is read back. -/
theorem Memory.byte_put_same (m : List Host.Cell) (a : Nat) (b : Byte) :
    Memory.byte (Memory.put m a b) a = b := AMap.get_set_same 0 m a b

/-- A byte written leaves every other address. -/
theorem Memory.byte_put_other (m : List Host.Cell) (a x : Nat) (b : Byte) (h : x ≠ a) :
    Memory.byte (Memory.put m a b) x = Memory.byte m x := AMap.get_set_other 0 m a x b h

/-- Bytes written leave every address outside them. -/
theorem Memory.byte_write_other (bs : List Byte) (m : List Host.Cell) (a x : Nat) (h : x < a ∨ a + bs.length ≤ x) :
    Memory.byte (Memory.write m a bs) x = Memory.byte m x := by
  induction bs generalizing m a with
  | nil => rfl
  | cons b bs ih =>
    simp only [Memory.write, List.length_cons] at *
    rw [ih _ _ (by omega), Memory.byte_put_other m a x b (by omega)]

/-- Bytes written are read back. -/
theorem Memory.read_write_same (bs : List Byte) (m : List Host.Cell) (a : Nat) :
    Memory.read (Memory.write m a bs) a bs.length = bs := by
  induction bs generalizing m a with
  | nil => rfl
  | cons b bs ih =>
    simp only [Memory.write, List.length_cons, Memory.read]
    rw [ih, Memory.byte_write_other bs _ (a + 1) a (by omega), Memory.byte_put_same m a b]

/-! ### Byte lists -/

@[simp] theorem leBytes_length (v n : Nat) : (leBytes v n).length = n := by
  induction n generalizing v with
  | zero => rfl
  | succ n ih => simp [leBytes, ih]

/-- A number that n bytes hold is read back from them. -/
theorem leNat_leBytes (v n : Nat) (h : v < 256 ^ n) : leNat (leBytes v n) = v := by
  induction n generalizing v with
  | zero => simp only [Nat.pow_zero] at h; simp [leBytes, leNat]; omega
  | succ n ih =>
    simp only [leBytes, leNat, BitVec.toNat_ofNat]
    rw [ih (v / 256) (by rw [Nat.pow_succ] at h; omega)]
    omega

@[simp] theorem padTo_length (bs : List Byte) (n : Nat) : (padTo bs n).length = n := by
  simp [padTo]; omega

@[simp] theorem zeros_length (n : Nat) : (zeros n).length = n := by simp [zeros]

@[simp] theorem complBytes_length (bs : List Byte) : (complBytes bs).length = bs.length := by simp [complBytes]

/-- The complement of the complement. -/
@[simp] theorem complBytes_complBytes (bs : List Byte) : complBytes (complBytes bs) = bs := by
  induction bs with
  | nil => rfl
  | cons b bs ih => simpa [complBytes] using ih

end Sys2Proof.Machine
end

