-- ==== Sys2Proof/Laws/Events.lean ====
section
/-! SUPPORT. Recording an event, counting one, and answering a request: what each leaves as it was, field by field. -/

namespace Sys2Proof.Machine

/-! #### Numbers as bytes -/

@[simp] theorem leNat_u8 (v : Byte) : leNat [v] = v.toNat := by simp [leNat]
@[simp] theorem leNat_u16 (v : BitVec 16) : leNat (u16 v.toNat) = v.toNat := leNat_leBytes _ _ (by have := v.isLt; norm_num; omega)
@[simp] theorem leNat_u32 (v : BitVec 32) : leNat (u32 v.toNat) = v.toNat := leNat_leBytes _ _ (by have := v.isLt; norm_num; omega)
@[simp] theorem leNat_u64 (v : BitVec 64) : leNat (u64 v.toNat) = v.toNat := leNat_leBytes _ _ (by have := v.isLt; norm_num; omega)

/-- A record changes only the board's alarm and what the observation part holds. -/
theorem recordAt_eq (s : State) (tai src code sev flags : Nat) (payload : List Byte) :
    ∃ a o, recordAt s tai src code sev flags payload = { s with board := { s.board with alarm := a }, obs := o } := by
  unfold recordAt raiseAlarm sourceTake
  simp only []
  split <;> split
  · exact ⟨s.board.alarm, _, rfl⟩
  · exact ⟨s.board.alarm, _, rfl⟩
  · exact ⟨true, _, rfl⟩
  · exact ⟨true, _, rfl⟩

/-- An event changes only the board's alarm and what the observation part holds. -/
theorem event_eq (s : State) (src code : Nat) (payload : List Byte) :
    ∃ a o, event s src code payload = { s with board := { s.board with alarm := a }, obs := o } := recordAt_eq _ _ _ _ _ _ _

/-- The same of an event after a change of the observation part. -/
theorem event_obs (s : State) (x : Observe) (src code : Nat) (payload : List Byte) :
    ∃ a o, event { s with obs := x } src code payload = { s with board := { s.board with alarm := a }, obs := o } := event_eq _ _ _ _

/-- A count changes only what the observation part and the board's alarm hold. -/
theorem counterAdd_eq (s : State) (k n : Nat) : ∃ a o, counterAdd s k n = { s with board := { s.board with alarm := a }, obs := o } := by
  unfold counterAdd
  simp only []
  split
  · exact event_obs s _ _ _ _
  · exact ⟨s.board.alarm, _, rfl⟩

/-- A count of events changes only what the observation part and the board's alarm hold. -/
theorem counted_eq (s : State) (src sel v n : Nat) :
    ∃ a o, counted s src sel v n = { s with board := { s.board with alarm := a }, obs := o } := by
  unfold counted
  split
  · exact ⟨s.board.alarm, s.obs, rfl⟩
  · generalize ((s.obs.counters.filter fun kv => kv.1 / 16 = src ∧ counts kv.2.config.toNat sel v).map (·.1)) = l
    induction l generalizing s with
    | nil => exact ⟨s.board.alarm, s.obs, rfl⟩
    | cons k l ih =>
      obtain ⟨a, o, h⟩ := counterAdd_eq s k n
      obtain ⟨b, q, g⟩ := ih (counterAdd s k n)
      refine ⟨b, q, ?_⟩
      rw [List.foldl_cons, g, h]

/-- A frame sent changes only the outputs and the replication number. -/
theorem sendFrame_eq (s : State) (o : Out) : ∃ d more, s.sendFrame o = { s with dict := d, outs := s.outs ++ more } := by
  unfold State.sendFrame
  split
  · exact ⟨s.dict, [o], rfl⟩
  · exact ⟨{ s.dict with frerTx := (s.dict.frerTx + 1) % 65536 }, [o, .replicated s.dict.frerTx], by simp [State.emit]⟩

/-- A response changes only the outputs, its session and the replication number. -/
theorem respond_eq (s : State) (svc : Nat) (e : Env) (payload : List Byte) :
    ∃ d more, respond s svc e payload = { s with dict := d, outs := s.outs ++ more } := by
  unfold respond
  simp only []
  split
  · obtain ⟨d, more, h⟩ := sendFrame_eq (s.setSession e.session.toNat _) _
    exact ⟨d, more, h⟩
  · exact sendFrame_eq s _

/-! #### event -/

@[simp] theorem event_pending (s : State) (src code : Nat) (p : List Byte) : (event s src code p).pending = s.pending := by
  obtain ⟨a, o, h⟩ := event_eq s src code p; rw [h]
@[simp] theorem event_outs (s : State) (src code : Nat) (p : List Byte) : (event s src code p).outs = s.outs := by
  obtain ⟨a, o, h⟩ := event_eq s src code p; rw [h]
@[simp] theorem event_freeCtr (s : State) (src code : Nat) (p : List Byte) : (event s src code p).freeCtr = s.freeCtr := by
  obtain ⟨a, o, h⟩ := event_eq s src code p; rw [h]
@[simp] theorem event_fuses (s : State) (src code : Nat) (p : List Byte) : (event s src code p).fuses = s.fuses := by
  obtain ⟨a, o, h⟩ := event_eq s src code p; rw [h]
@[simp] theorem event_obj (s : State) (src code : Nat) (p : List Byte) : (event s src code p).obj = s.obj := by
  obtain ⟨a, o, h⟩ := event_eq s src code p; rw [h]
@[simp] theorem event_dict (s : State) (src code : Nat) (p : List Byte) : (event s src code p).dict = s.dict := by
  obtain ⟨a, o, h⟩ := event_eq s src code p; rw [h]
@[simp] theorem event_clk (s : State) (src code : Nat) (p : List Byte) : (event s src code p).clk = s.clk := by
  obtain ⟨a, o, h⟩ := event_eq s src code p; rw [h]
@[simp] theorem event_fab (s : State) (src code : Nat) (p : List Byte) : (event s src code p).fab = s.fab := by
  obtain ⟨a, o, h⟩ := event_eq s src code p; rw [h]
@[simp] theorem event_edge (s : State) (src code : Nat) (p : List Byte) : (event s src code p).edge = s.edge := by
  obtain ⟨a, o, h⟩ := event_eq s src code p; rw [h]
@[simp] theorem event_planes (s : State) (src code : Nat) (p : List Byte) : (event s src code p).planes = s.planes := by
  obtain ⟨a, o, h⟩ := event_eq s src code p; rw [h]
@[simp] theorem event_frames (s : State) (src code : Nat) (p : List Byte) : (event s src code p).frames = s.frames := by
  obtain ⟨a, o, h⟩ := event_eq s src code p; rw [h]
@[simp] theorem event_stage (s : State) (src code : Nat) (p : List Byte) : (event s src code p).stage = s.stage := by
  obtain ⟨a, o, h⟩ := event_eq s src code p; rw [h]
@[simp] theorem event_grants (s : State) (src code : Nat) (p : List Byte) : (event s src code p).grants = s.grants := by
  obtain ⟨a, o, h⟩ := event_eq s src code p; rw [h]
@[simp] theorem event_teams (s : State) (src code : Nat) (p : List Byte) : (event s src code p).teams = s.teams := by
  obtain ⟨a, o, h⟩ := event_eq s src code p; rw [h]
@[simp] theorem event_cap (s : State) (src code : Nat) (p : List Byte) : (event s src code p).cap = s.cap := by
  obtain ⟨a, o, h⟩ := event_eq s src code p; rw [h]
@[simp] theorem event_loader (s : State) (src code : Nat) (p : List Byte) : (event s src code p).loader = s.loader := by
  obtain ⟨a, o, h⟩ := event_eq s src code p; rw [h]
@[simp] theorem event_boot (s : State) (src code : Nat) (p : List Byte) : (event s src code p).boot = s.boot := by
  obtain ⟨a, o, h⟩ := event_eq s src code p; rw [h]
@[simp] theorem event_chain (s : State) (src code : Nat) (p : List Byte) : (event s src code p).chain = s.chain := by
  obtain ⟨a, o, h⟩ := event_eq s src code p; rw [h]
@[simp] theorem event_noc (s : State) (src code : Nat) (p : List Byte) : (event s src code p).noc = s.noc := by
  obtain ⟨a, o, h⟩ := event_eq s src code p; rw [h]
@[simp] theorem event_wale (s : State) (src code : Nat) (p : List Byte) : (event s src code p).wale = s.wale := by
  obtain ⟨a, o, h⟩ := event_eq s src code p; rw [h]
@[simp] theorem event_pan (s : State) (src code : Nat) (p : List Byte) : (event s src code p).pan = s.pan := by
  obtain ⟨a, o, h⟩ := event_eq s src code p; rw [h]
@[simp] theorem event_dram (s : State) (src code : Nat) (p : List Byte) : (event s src code p).dram = s.dram := by
  obtain ⟨a, o, h⟩ := event_eq s src code p; rw [h]
@[simp] theorem event_ecc (s : State) (src code : Nat) (p : List Byte) : (event s src code p).ecc = s.ecc := by
  obtain ⟨a, o, h⟩ := event_eq s src code p; rw [h]
@[simp] theorem event_crypt (s : State) (src code : Nat) (p : List Byte) : (event s src code p).crypt = s.crypt := by
  obtain ⟨a, o, h⟩ := event_eq s src code p; rw [h]
@[simp] theorem event_time (s : State) (src code : Nat) (p : List Byte) : (event s src code p).time = s.time := by
  obtain ⟨a, o, h⟩ := event_eq s src code p; rw [h]
@[simp] theorem event_banks (s : State) (src code : Nat) (p : List Byte) : (event s src code p).banks = s.banks := by
  obtain ⟨a, o, h⟩ := event_eq s src code p; rw [h]
@[simp] theorem event_pins (s : State) (src code : Nat) (p : List Byte) : (event s src code p).pins = s.pins := by
  obtain ⟨a, o, h⟩ := event_eq s src code p; rw [h]
@[simp] theorem event_lanes (s : State) (src code : Nat) (p : List Byte) : (event s src code p).lanes = s.lanes := by
  obtain ⟨a, o, h⟩ := event_eq s src code p; rw [h]
@[simp] theorem event_sealed (s : State) (src code : Nat) (p : List Byte) : (event s src code p).sealed = s.sealed := by
  obtain ⟨a, o, h⟩ := event_eq s src code p; rw [h]
@[simp] theorem event_power (s : State) (src code : Nat) (p : List Byte) : (event s src code p).power = s.power := by
  obtain ⟨a, o, h⟩ := event_eq s src code p; rw [h]
@[simp] theorem event_test (s : State) (src code : Nat) (p : List Byte) : (event s src code p).test = s.test := by
  obtain ⟨a, o, h⟩ := event_eq s src code p; rw [h]

/-! #### recordAt -/

@[simp] theorem recordAt_pending (s : State) (tai src code sev flags : Nat) (p : List Byte) : (recordAt s tai src code sev flags p).pending = s.pending := by
  obtain ⟨a, o, h⟩ := recordAt_eq s tai src code sev flags p; rw [h]
@[simp] theorem recordAt_outs (s : State) (tai src code sev flags : Nat) (p : List Byte) : (recordAt s tai src code sev flags p).outs = s.outs := by
  obtain ⟨a, o, h⟩ := recordAt_eq s tai src code sev flags p; rw [h]
@[simp] theorem recordAt_freeCtr (s : State) (tai src code sev flags : Nat) (p : List Byte) : (recordAt s tai src code sev flags p).freeCtr = s.freeCtr := by
  obtain ⟨a, o, h⟩ := recordAt_eq s tai src code sev flags p; rw [h]
@[simp] theorem recordAt_fuses (s : State) (tai src code sev flags : Nat) (p : List Byte) : (recordAt s tai src code sev flags p).fuses = s.fuses := by
  obtain ⟨a, o, h⟩ := recordAt_eq s tai src code sev flags p; rw [h]
@[simp] theorem recordAt_obj (s : State) (tai src code sev flags : Nat) (p : List Byte) : (recordAt s tai src code sev flags p).obj = s.obj := by
  obtain ⟨a, o, h⟩ := recordAt_eq s tai src code sev flags p; rw [h]
@[simp] theorem recordAt_dict (s : State) (tai src code sev flags : Nat) (p : List Byte) : (recordAt s tai src code sev flags p).dict = s.dict := by
  obtain ⟨a, o, h⟩ := recordAt_eq s tai src code sev flags p; rw [h]
@[simp] theorem recordAt_clk (s : State) (tai src code sev flags : Nat) (p : List Byte) : (recordAt s tai src code sev flags p).clk = s.clk := by
  obtain ⟨a, o, h⟩ := recordAt_eq s tai src code sev flags p; rw [h]
@[simp] theorem recordAt_fab (s : State) (tai src code sev flags : Nat) (p : List Byte) : (recordAt s tai src code sev flags p).fab = s.fab := by
  obtain ⟨a, o, h⟩ := recordAt_eq s tai src code sev flags p; rw [h]
@[simp] theorem recordAt_edge (s : State) (tai src code sev flags : Nat) (p : List Byte) : (recordAt s tai src code sev flags p).edge = s.edge := by
  obtain ⟨a, o, h⟩ := recordAt_eq s tai src code sev flags p; rw [h]
@[simp] theorem recordAt_planes (s : State) (tai src code sev flags : Nat) (p : List Byte) : (recordAt s tai src code sev flags p).planes = s.planes := by
  obtain ⟨a, o, h⟩ := recordAt_eq s tai src code sev flags p; rw [h]
@[simp] theorem recordAt_frames (s : State) (tai src code sev flags : Nat) (p : List Byte) : (recordAt s tai src code sev flags p).frames = s.frames := by
  obtain ⟨a, o, h⟩ := recordAt_eq s tai src code sev flags p; rw [h]
@[simp] theorem recordAt_stage (s : State) (tai src code sev flags : Nat) (p : List Byte) : (recordAt s tai src code sev flags p).stage = s.stage := by
  obtain ⟨a, o, h⟩ := recordAt_eq s tai src code sev flags p; rw [h]
@[simp] theorem recordAt_grants (s : State) (tai src code sev flags : Nat) (p : List Byte) : (recordAt s tai src code sev flags p).grants = s.grants := by
  obtain ⟨a, o, h⟩ := recordAt_eq s tai src code sev flags p; rw [h]
@[simp] theorem recordAt_teams (s : State) (tai src code sev flags : Nat) (p : List Byte) : (recordAt s tai src code sev flags p).teams = s.teams := by
  obtain ⟨a, o, h⟩ := recordAt_eq s tai src code sev flags p; rw [h]
@[simp] theorem recordAt_cap (s : State) (tai src code sev flags : Nat) (p : List Byte) : (recordAt s tai src code sev flags p).cap = s.cap := by
  obtain ⟨a, o, h⟩ := recordAt_eq s tai src code sev flags p; rw [h]
@[simp] theorem recordAt_loader (s : State) (tai src code sev flags : Nat) (p : List Byte) : (recordAt s tai src code sev flags p).loader = s.loader := by
  obtain ⟨a, o, h⟩ := recordAt_eq s tai src code sev flags p; rw [h]
@[simp] theorem recordAt_boot (s : State) (tai src code sev flags : Nat) (p : List Byte) : (recordAt s tai src code sev flags p).boot = s.boot := by
  obtain ⟨a, o, h⟩ := recordAt_eq s tai src code sev flags p; rw [h]
@[simp] theorem recordAt_chain (s : State) (tai src code sev flags : Nat) (p : List Byte) : (recordAt s tai src code sev flags p).chain = s.chain := by
  obtain ⟨a, o, h⟩ := recordAt_eq s tai src code sev flags p; rw [h]
@[simp] theorem recordAt_noc (s : State) (tai src code sev flags : Nat) (p : List Byte) : (recordAt s tai src code sev flags p).noc = s.noc := by
  obtain ⟨a, o, h⟩ := recordAt_eq s tai src code sev flags p; rw [h]
@[simp] theorem recordAt_wale (s : State) (tai src code sev flags : Nat) (p : List Byte) : (recordAt s tai src code sev flags p).wale = s.wale := by
  obtain ⟨a, o, h⟩ := recordAt_eq s tai src code sev flags p; rw [h]
@[simp] theorem recordAt_pan (s : State) (tai src code sev flags : Nat) (p : List Byte) : (recordAt s tai src code sev flags p).pan = s.pan := by
  obtain ⟨a, o, h⟩ := recordAt_eq s tai src code sev flags p; rw [h]
@[simp] theorem recordAt_dram (s : State) (tai src code sev flags : Nat) (p : List Byte) : (recordAt s tai src code sev flags p).dram = s.dram := by
  obtain ⟨a, o, h⟩ := recordAt_eq s tai src code sev flags p; rw [h]
@[simp] theorem recordAt_ecc (s : State) (tai src code sev flags : Nat) (p : List Byte) : (recordAt s tai src code sev flags p).ecc = s.ecc := by
  obtain ⟨a, o, h⟩ := recordAt_eq s tai src code sev flags p; rw [h]
@[simp] theorem recordAt_crypt (s : State) (tai src code sev flags : Nat) (p : List Byte) : (recordAt s tai src code sev flags p).crypt = s.crypt := by
  obtain ⟨a, o, h⟩ := recordAt_eq s tai src code sev flags p; rw [h]
@[simp] theorem recordAt_time (s : State) (tai src code sev flags : Nat) (p : List Byte) : (recordAt s tai src code sev flags p).time = s.time := by
  obtain ⟨a, o, h⟩ := recordAt_eq s tai src code sev flags p; rw [h]
@[simp] theorem recordAt_banks (s : State) (tai src code sev flags : Nat) (p : List Byte) : (recordAt s tai src code sev flags p).banks = s.banks := by
  obtain ⟨a, o, h⟩ := recordAt_eq s tai src code sev flags p; rw [h]
@[simp] theorem recordAt_pins (s : State) (tai src code sev flags : Nat) (p : List Byte) : (recordAt s tai src code sev flags p).pins = s.pins := by
  obtain ⟨a, o, h⟩ := recordAt_eq s tai src code sev flags p; rw [h]
@[simp] theorem recordAt_lanes (s : State) (tai src code sev flags : Nat) (p : List Byte) : (recordAt s tai src code sev flags p).lanes = s.lanes := by
  obtain ⟨a, o, h⟩ := recordAt_eq s tai src code sev flags p; rw [h]
@[simp] theorem recordAt_sealed (s : State) (tai src code sev flags : Nat) (p : List Byte) : (recordAt s tai src code sev flags p).sealed = s.sealed := by
  obtain ⟨a, o, h⟩ := recordAt_eq s tai src code sev flags p; rw [h]
@[simp] theorem recordAt_power (s : State) (tai src code sev flags : Nat) (p : List Byte) : (recordAt s tai src code sev flags p).power = s.power := by
  obtain ⟨a, o, h⟩ := recordAt_eq s tai src code sev flags p; rw [h]
@[simp] theorem recordAt_test (s : State) (tai src code sev flags : Nat) (p : List Byte) : (recordAt s tai src code sev flags p).test = s.test := by
  obtain ⟨a, o, h⟩ := recordAt_eq s tai src code sev flags p; rw [h]

/-! #### counted -/

@[simp] theorem counted_pending (s : State) (src sel v n : Nat) : (counted s src sel v n).pending = s.pending := by
  obtain ⟨a, o, h⟩ := counted_eq s src sel v n; rw [h]
@[simp] theorem counted_outs (s : State) (src sel v n : Nat) : (counted s src sel v n).outs = s.outs := by
  obtain ⟨a, o, h⟩ := counted_eq s src sel v n; rw [h]
@[simp] theorem counted_freeCtr (s : State) (src sel v n : Nat) : (counted s src sel v n).freeCtr = s.freeCtr := by
  obtain ⟨a, o, h⟩ := counted_eq s src sel v n; rw [h]
@[simp] theorem counted_fuses (s : State) (src sel v n : Nat) : (counted s src sel v n).fuses = s.fuses := by
  obtain ⟨a, o, h⟩ := counted_eq s src sel v n; rw [h]
@[simp] theorem counted_obj (s : State) (src sel v n : Nat) : (counted s src sel v n).obj = s.obj := by
  obtain ⟨a, o, h⟩ := counted_eq s src sel v n; rw [h]
@[simp] theorem counted_dict (s : State) (src sel v n : Nat) : (counted s src sel v n).dict = s.dict := by
  obtain ⟨a, o, h⟩ := counted_eq s src sel v n; rw [h]
@[simp] theorem counted_clk (s : State) (src sel v n : Nat) : (counted s src sel v n).clk = s.clk := by
  obtain ⟨a, o, h⟩ := counted_eq s src sel v n; rw [h]
@[simp] theorem counted_fab (s : State) (src sel v n : Nat) : (counted s src sel v n).fab = s.fab := by
  obtain ⟨a, o, h⟩ := counted_eq s src sel v n; rw [h]
@[simp] theorem counted_edge (s : State) (src sel v n : Nat) : (counted s src sel v n).edge = s.edge := by
  obtain ⟨a, o, h⟩ := counted_eq s src sel v n; rw [h]
@[simp] theorem counted_planes (s : State) (src sel v n : Nat) : (counted s src sel v n).planes = s.planes := by
  obtain ⟨a, o, h⟩ := counted_eq s src sel v n; rw [h]
@[simp] theorem counted_frames (s : State) (src sel v n : Nat) : (counted s src sel v n).frames = s.frames := by
  obtain ⟨a, o, h⟩ := counted_eq s src sel v n; rw [h]
@[simp] theorem counted_stage (s : State) (src sel v n : Nat) : (counted s src sel v n).stage = s.stage := by
  obtain ⟨a, o, h⟩ := counted_eq s src sel v n; rw [h]
@[simp] theorem counted_grants (s : State) (src sel v n : Nat) : (counted s src sel v n).grants = s.grants := by
  obtain ⟨a, o, h⟩ := counted_eq s src sel v n; rw [h]
@[simp] theorem counted_teams (s : State) (src sel v n : Nat) : (counted s src sel v n).teams = s.teams := by
  obtain ⟨a, o, h⟩ := counted_eq s src sel v n; rw [h]
@[simp] theorem counted_cap (s : State) (src sel v n : Nat) : (counted s src sel v n).cap = s.cap := by
  obtain ⟨a, o, h⟩ := counted_eq s src sel v n; rw [h]
@[simp] theorem counted_loader (s : State) (src sel v n : Nat) : (counted s src sel v n).loader = s.loader := by
  obtain ⟨a, o, h⟩ := counted_eq s src sel v n; rw [h]
@[simp] theorem counted_boot (s : State) (src sel v n : Nat) : (counted s src sel v n).boot = s.boot := by
  obtain ⟨a, o, h⟩ := counted_eq s src sel v n; rw [h]
@[simp] theorem counted_chain (s : State) (src sel v n : Nat) : (counted s src sel v n).chain = s.chain := by
  obtain ⟨a, o, h⟩ := counted_eq s src sel v n; rw [h]
@[simp] theorem counted_noc (s : State) (src sel v n : Nat) : (counted s src sel v n).noc = s.noc := by
  obtain ⟨a, o, h⟩ := counted_eq s src sel v n; rw [h]
@[simp] theorem counted_wale (s : State) (src sel v n : Nat) : (counted s src sel v n).wale = s.wale := by
  obtain ⟨a, o, h⟩ := counted_eq s src sel v n; rw [h]
@[simp] theorem counted_pan (s : State) (src sel v n : Nat) : (counted s src sel v n).pan = s.pan := by
  obtain ⟨a, o, h⟩ := counted_eq s src sel v n; rw [h]
@[simp] theorem counted_dram (s : State) (src sel v n : Nat) : (counted s src sel v n).dram = s.dram := by
  obtain ⟨a, o, h⟩ := counted_eq s src sel v n; rw [h]
@[simp] theorem counted_ecc (s : State) (src sel v n : Nat) : (counted s src sel v n).ecc = s.ecc := by
  obtain ⟨a, o, h⟩ := counted_eq s src sel v n; rw [h]
@[simp] theorem counted_crypt (s : State) (src sel v n : Nat) : (counted s src sel v n).crypt = s.crypt := by
  obtain ⟨a, o, h⟩ := counted_eq s src sel v n; rw [h]
@[simp] theorem counted_time (s : State) (src sel v n : Nat) : (counted s src sel v n).time = s.time := by
  obtain ⟨a, o, h⟩ := counted_eq s src sel v n; rw [h]
@[simp] theorem counted_banks (s : State) (src sel v n : Nat) : (counted s src sel v n).banks = s.banks := by
  obtain ⟨a, o, h⟩ := counted_eq s src sel v n; rw [h]
@[simp] theorem counted_pins (s : State) (src sel v n : Nat) : (counted s src sel v n).pins = s.pins := by
  obtain ⟨a, o, h⟩ := counted_eq s src sel v n; rw [h]
@[simp] theorem counted_lanes (s : State) (src sel v n : Nat) : (counted s src sel v n).lanes = s.lanes := by
  obtain ⟨a, o, h⟩ := counted_eq s src sel v n; rw [h]
@[simp] theorem counted_sealed (s : State) (src sel v n : Nat) : (counted s src sel v n).sealed = s.sealed := by
  obtain ⟨a, o, h⟩ := counted_eq s src sel v n; rw [h]
@[simp] theorem counted_power (s : State) (src sel v n : Nat) : (counted s src sel v n).power = s.power := by
  obtain ⟨a, o, h⟩ := counted_eq s src sel v n; rw [h]
@[simp] theorem counted_test (s : State) (src sel v n : Nat) : (counted s src sel v n).test = s.test := by
  obtain ⟨a, o, h⟩ := counted_eq s src sel v n; rw [h]

/-! #### respond -/

@[simp] theorem respond_pending (s : State) (svc : Nat) (e : Env) (p : List Byte) : (respond s svc e p).pending = s.pending := by
  obtain ⟨a, o, h⟩ := respond_eq s svc e p; rw [h]
@[simp] theorem respond_freeCtr (s : State) (svc : Nat) (e : Env) (p : List Byte) : (respond s svc e p).freeCtr = s.freeCtr := by
  obtain ⟨a, o, h⟩ := respond_eq s svc e p; rw [h]
@[simp] theorem respond_fuses (s : State) (svc : Nat) (e : Env) (p : List Byte) : (respond s svc e p).fuses = s.fuses := by
  obtain ⟨a, o, h⟩ := respond_eq s svc e p; rw [h]
@[simp] theorem respond_obj (s : State) (svc : Nat) (e : Env) (p : List Byte) : (respond s svc e p).obj = s.obj := by
  obtain ⟨a, o, h⟩ := respond_eq s svc e p; rw [h]
@[simp] theorem respond_clk (s : State) (svc : Nat) (e : Env) (p : List Byte) : (respond s svc e p).clk = s.clk := by
  obtain ⟨a, o, h⟩ := respond_eq s svc e p; rw [h]
@[simp] theorem respond_fab (s : State) (svc : Nat) (e : Env) (p : List Byte) : (respond s svc e p).fab = s.fab := by
  obtain ⟨a, o, h⟩ := respond_eq s svc e p; rw [h]
@[simp] theorem respond_edge (s : State) (svc : Nat) (e : Env) (p : List Byte) : (respond s svc e p).edge = s.edge := by
  obtain ⟨a, o, h⟩ := respond_eq s svc e p; rw [h]
@[simp] theorem respond_planes (s : State) (svc : Nat) (e : Env) (p : List Byte) : (respond s svc e p).planes = s.planes := by
  obtain ⟨a, o, h⟩ := respond_eq s svc e p; rw [h]
@[simp] theorem respond_frames (s : State) (svc : Nat) (e : Env) (p : List Byte) : (respond s svc e p).frames = s.frames := by
  obtain ⟨a, o, h⟩ := respond_eq s svc e p; rw [h]
@[simp] theorem respond_stage (s : State) (svc : Nat) (e : Env) (p : List Byte) : (respond s svc e p).stage = s.stage := by
  obtain ⟨a, o, h⟩ := respond_eq s svc e p; rw [h]
@[simp] theorem respond_grants (s : State) (svc : Nat) (e : Env) (p : List Byte) : (respond s svc e p).grants = s.grants := by
  obtain ⟨a, o, h⟩ := respond_eq s svc e p; rw [h]
@[simp] theorem respond_teams (s : State) (svc : Nat) (e : Env) (p : List Byte) : (respond s svc e p).teams = s.teams := by
  obtain ⟨a, o, h⟩ := respond_eq s svc e p; rw [h]
@[simp] theorem respond_cap (s : State) (svc : Nat) (e : Env) (p : List Byte) : (respond s svc e p).cap = s.cap := by
  obtain ⟨a, o, h⟩ := respond_eq s svc e p; rw [h]
@[simp] theorem respond_loader (s : State) (svc : Nat) (e : Env) (p : List Byte) : (respond s svc e p).loader = s.loader := by
  obtain ⟨a, o, h⟩ := respond_eq s svc e p; rw [h]
@[simp] theorem respond_boot (s : State) (svc : Nat) (e : Env) (p : List Byte) : (respond s svc e p).boot = s.boot := by
  obtain ⟨a, o, h⟩ := respond_eq s svc e p; rw [h]
@[simp] theorem respond_chain (s : State) (svc : Nat) (e : Env) (p : List Byte) : (respond s svc e p).chain = s.chain := by
  obtain ⟨a, o, h⟩ := respond_eq s svc e p; rw [h]
@[simp] theorem respond_noc (s : State) (svc : Nat) (e : Env) (p : List Byte) : (respond s svc e p).noc = s.noc := by
  obtain ⟨a, o, h⟩ := respond_eq s svc e p; rw [h]
@[simp] theorem respond_wale (s : State) (svc : Nat) (e : Env) (p : List Byte) : (respond s svc e p).wale = s.wale := by
  obtain ⟨a, o, h⟩ := respond_eq s svc e p; rw [h]
@[simp] theorem respond_pan (s : State) (svc : Nat) (e : Env) (p : List Byte) : (respond s svc e p).pan = s.pan := by
  obtain ⟨a, o, h⟩ := respond_eq s svc e p; rw [h]
@[simp] theorem respond_dram (s : State) (svc : Nat) (e : Env) (p : List Byte) : (respond s svc e p).dram = s.dram := by
  obtain ⟨a, o, h⟩ := respond_eq s svc e p; rw [h]
@[simp] theorem respond_ecc (s : State) (svc : Nat) (e : Env) (p : List Byte) : (respond s svc e p).ecc = s.ecc := by
  obtain ⟨a, o, h⟩ := respond_eq s svc e p; rw [h]
@[simp] theorem respond_crypt (s : State) (svc : Nat) (e : Env) (p : List Byte) : (respond s svc e p).crypt = s.crypt := by
  obtain ⟨a, o, h⟩ := respond_eq s svc e p; rw [h]
@[simp] theorem respond_time (s : State) (svc : Nat) (e : Env) (p : List Byte) : (respond s svc e p).time = s.time := by
  obtain ⟨a, o, h⟩ := respond_eq s svc e p; rw [h]
@[simp] theorem respond_banks (s : State) (svc : Nat) (e : Env) (p : List Byte) : (respond s svc e p).banks = s.banks := by
  obtain ⟨a, o, h⟩ := respond_eq s svc e p; rw [h]
@[simp] theorem respond_pins (s : State) (svc : Nat) (e : Env) (p : List Byte) : (respond s svc e p).pins = s.pins := by
  obtain ⟨a, o, h⟩ := respond_eq s svc e p; rw [h]
@[simp] theorem respond_lanes (s : State) (svc : Nat) (e : Env) (p : List Byte) : (respond s svc e p).lanes = s.lanes := by
  obtain ⟨a, o, h⟩ := respond_eq s svc e p; rw [h]
@[simp] theorem respond_sealed (s : State) (svc : Nat) (e : Env) (p : List Byte) : (respond s svc e p).sealed = s.sealed := by
  obtain ⟨a, o, h⟩ := respond_eq s svc e p; rw [h]
@[simp] theorem respond_power (s : State) (svc : Nat) (e : Env) (p : List Byte) : (respond s svc e p).power = s.power := by
  obtain ⟨a, o, h⟩ := respond_eq s svc e p; rw [h]
@[simp] theorem respond_board (s : State) (svc : Nat) (e : Env) (p : List Byte) : (respond s svc e p).board = s.board := by
  obtain ⟨a, o, h⟩ := respond_eq s svc e p; rw [h]
@[simp] theorem respond_test (s : State) (svc : Nat) (e : Env) (p : List Byte) : (respond s svc e p).test = s.test := by
  obtain ⟨a, o, h⟩ := respond_eq s svc e p; rw [h]
@[simp] theorem respond_obs (s : State) (svc : Nat) (e : Env) (p : List Byte) : (respond s svc e p).obs = s.obs := by
  obtain ⟨a, o, h⟩ := respond_eq s svc e p; rw [h]

@[simp] theorem event_mode (s : State) (src code : Nat) (p : List Byte) : (event s src code p).mode = s.mode := by
  simp only [State.mode, event_power]
@[simp] theorem respond_mode (s : State) (svc : Nat) (e : Env) (p : List Byte) : (respond s svc e p).mode = s.mode := by
  simp only [State.mode, respond_power]

end Sys2Proof.Machine
end

