-- ==== Sys2Proof/Laws/Hashes.lean ====
section
/-! SUPPORT. The round constants of the SHA-2 hashes against their definition. -/

namespace Sys2Proof.Machine.Crypto

/-- The primes below n. -/
def primesBelow (n : Nat) : List Nat :=
  (List.range n).filter fun k => decide (2 ≤ k) && (List.range k).all fun d => decide (d < 2) || decide (k % d ≠ 0)

/-- Every constant is the fraction of the cube root of its prime, cut to 64 bits. -/
theorem kTable_roots :
    ((primesBelow 410).zip (List.range 80)).all (fun p =>
      let whole := ((List.range 8).filter fun r => decide (r * r * r ≤ p.1)).length - 1
      let root := whole * 2 ^ 64 + kConst p.2
      decide (root ^ 3 ≤ p.1 * 2 ^ 192) && decide (p.1 * 2 ^ 192 < (root + 1) ^ 3)) = true ∧
    (primesBelow 410).length = 80 := by
  decide +kernel

end Sys2Proof.Machine.Crypto
end

