-- ==== Sys2Proof/Laws/Serve.lean ====
section
/-! SUPPORT. Serving a request: what a write that passes every check does. -/

namespace Sys2Proof.Machine

/-- A write frame that passes every check takes effect and is answered with status 0. -/
theorem serveWrite_goes {s s1 : State} {e : Env} {paired : Bool} {w : WriteReq} {a : Action} {who : Requester}
    (h : WriteGoes s e paired w a s1 who) : serveWrite e paired w a s = writeAnswered s1 who e paired w a := by
  have hw : dictWrite s1 who paired w a = (written s1 who paired w a, 0) := by
    simp [dictWrite, h.checked, written, valueOf]
  cases who <;> simp [serveWrite, h.framed, h.room, h.whole, hw, writeAnswered]

/-- A row that is a single-value write of an object completes with any fact that its effect and its answer give. -/
theorem rowCompletes_host {c : Instr} {e : Env} {idx sub : Nat} {v : List Byte} {a : Action} {P : State → State → Prop}
    (hc : ∀ s, exec c s = hostWrite e idx sub v a s)
    (hP : ∀ s s1 who, WriteGoes s e false (wholeWrite idx sub v) a s1 who →
      P s1 (writeAnswered s1 who e false (wholeWrite idx sub v) a)) :
    rowCompletes c e false (wholeWrite idx sub v) a P := fun s s1 who h =>
  ⟨_, by rw [hc, hostWrite, serveWrite_goes h], rfl, hP s s1 who h⟩

/-- A row that is a paired write of an object completes with any fact that its effect and its answer give. -/
theorem rowCompletes_paired {c : Instr} {e : Env} {idx sub : Nat} {v k : List Byte} {a : Action} {P : State → State → Prop}
    (hc : ∀ s, exec c s = hostPaired e idx sub v k a s)
    (hP : ∀ s s1 who, WriteGoes s e true (pairWrite idx sub v k) a s1 who →
      P s1 (writeAnswered s1 who e true (pairWrite idx sub v k) a)) :
    rowCompletes c e true (pairWrite idx sub v k) a P := fun s s1 who h =>
  ⟨_, by rw [hc, hostPaired, serveWrite_goes h], rfl, hP s s1 who h⟩

/-! #### What a write that has passed every check makes of the state, by the access of its row -/

theorem keepFields_whole {r : ObjRow} (h : r.mask = 0) (old new : List Byte) : keepFields r old new = new := by
  simp [keepFields, h]

theorem storedForm_whole {s : State} {r : ObjRow} {idx sub : Nat} {a : Action} {v : List Byte} (h : r.mask = 0) (hc : a.clean v = v) :
    storedForm s r idx sub a v = v := by
  simp [storedForm, hc, keepFields_whole h]

/-- A write of a write-only object: its action, and nothing stored. -/
theorem written_wo {s1 : State} {who : Requester} {idx sub : Nat} {v : List Byte} {a : Action} {r : ObjRow} (hi : idx < 65536)
    (hs : sub < 256) (hr : rowOf idx sub = some r) (hw : r.acc = .wo) (hm : r.mask = 0)
    (hc : a.clean v = v := by rfl) :
    written s1 who false (wholeWrite idx sub v) a = a.late (a.apply s1 who (s1.bytesOf idx sub) v) v 0 := by
  simp [written, valueOf, wholeWrite, applyWrite, hr, hw, storedForm_whole hm hc, Nat.mod_eq_of_lt hi, Nat.mod_eq_of_lt hs]

/-- A single write of a stored object: its value is stored, and then its action follows. -/
theorem written_rw {s1 : State} {who : Requester} {idx sub : Nat} {v : List Byte} {a : Action} {r : ObjRow} (hi : idx < 65536)
    (hs : sub < 256) (hr : rowOf idx sub = some r) (hw : r.acc = .rw) (hm : r.mask = 0) (ha : a.stores = true)
    (hc : a.clean v = v := by rfl) :
    written s1 who false (wholeWrite idx sub v) a = a.late (a.apply (s1.putObj idx sub v) who (s1.bytesOf idx sub) v) v 0 := by
  simp [written, valueOf, wholeWrite, applyWrite, hr, hw, ha, storedForm_whole hm hc, Nat.mod_eq_of_lt hi, Nat.mod_eq_of_lt hs]

/-- A paired write of a critical object: its value is stored, the change recorded, and then its action follows. -/
theorem written_rwp {s1 : State} {who : Requester} {idx sub : Nat} {v c : List Byte} {a : Action} {r : ObjRow} (hi : idx < 65536)
    (hs : sub < 256) (hr : rowOf idx sub = some r) (hw : r.acc = .rwp) (ha : a.stores = true) (hl : v.length = c.length)
    (hc : a.clean v = v := by rfl) :
    written s1 who true (pairWrite idx sub v c) a =
      a.late (a.apply (criticalWritten (s1.putObj idx sub (keepFields r (s1.bytesOf idx sub) v)) who idx sub (s1.bytesOf idx sub)
        (keepFields r (s1.bytesOf idx sub) v)) who (s1.bytesOf idx sub) (keepFields r (s1.bytesOf idx sub) v)) v 0 := by
  have ht : (v ++ c).take ((v ++ c).length / 2) = v := by
    have : (v ++ c).length / 2 = v.length := by rw [List.length_append]; omega
    rw [this]; simp
  simp only [written, valueOf, pairWrite, applyWrite, BitVec.toNat_ofNat, if_true, ht]
  simp [hr, hw, ha, storedForm, hc, Nat.mod_eq_of_lt hi, Nat.mod_eq_of_lt hs]

/-- The response after a write leaves everything but the outputs and the session's numbers as the write left it. -/
theorem writeAnswered_eq (s1 : State) (who : Requester) (e : Env) (paired : Bool) (w : WriteReq) (a : Action) :
    ∃ d more, writeAnswered s1 who e paired w a =
      { written s1 who paired w a with dict := d, outs := (written s1 who paired w a).outs ++ more } := respond_eq _ _ _ _

end Sys2Proof.Machine
end

