-- ==== Sys2Proof/Laws/Session.lean ====
section
/-! SUPPORT. A signed frame of an open session passes checks 1 and 2 of R41: what the tests build their requests from. -/

namespace Sys2Proof.Machine

/-! #### Lengths of the hash -/

theorem Crypto.round256_length (v : List (BitVec 32)) (kw : BitVec 32 × BitVec 32) (h : v.length = 8) :
    (Crypto.round256 v kw).length = 8 := by
  unfold Crypto.round256; split
  · rfl
  · exact h

theorem Crypto.rounds_length (ks : List (BitVec 32 × BitVec 32)) :
    ∀ v : List (BitVec 32), v.length = 8 → (ks.foldl Crypto.round256 v).length = 8 := by
  induction ks with
  | nil => exact fun _ h => h
  | cons k ks ih => exact fun v h => ih _ (Crypto.round256_length v k h)

theorem Crypto.block256_length (h : List (BitVec 32)) (blk : List Byte) (hl : h.length = 8) : (Crypto.block256 h blk).length = 8 := by
  simp [Crypto.block256, Crypto.rounds_length _ h hl, hl]

theorem Crypto.blocks_length (bs : List (List Byte)) :
    ∀ h : List (BitVec 32), h.length = 8 → (bs.foldl Crypto.block256 h).length = 8 := by
  induction bs with
  | nil => exact fun _ h => h
  | cons b bs ih => exact fun h hl => ih _ (Crypto.block256_length h b hl)

theorem beBytes_length (v n : Nat) : (beBytes v n).length = n := by simp [beBytes, leBytes_length]

theorem words_length (ws : List (BitVec 32)) : (ws.flatMap fun w => beBytes w.toNat 4).length = 4 * ws.length := by
  induction ws with
  | nil => rfl
  | cons w ws ih => simp [List.flatMap_cons, beBytes_length, ih]; omega

theorem Crypto.sha256_length (msg : List Byte) : (Crypto.sha256 msg).length = 32 := by
  unfold Crypto.sha256
  rw [words_length, Crypto.blocks_length _ _ rfl]

theorem Crypto.hmac_length (key msg : List Byte) : (Crypto.hmac key msg).length = 32 := by
  unfold Crypto.hmac; exact Crypto.sha256_length _

theorem macOf_length (key : List Byte) (svc : Nat) (e : Env) (p : List Byte) : (macOf key svc e p).length = 16 := by
  simp [macOf, Crypto.hmac_length]

/-! #### Signed frames -/

/-- The port or EtherType that the dictionary transport takes frames at from a session's host. -/
def sessionDest (s : State) (x : Session) : BitVec 16 :=
  BitVec.ofNat 16 (s.num (0x1030 + x.host.transport.val % 2) (if x.host.transport.val < 2 then 5 else 6))

/-- The frame of a session's next request, not yet signed: transfer 1, the MAC flag and the flags given. -/
def plainEnv (dest : BitVec 16) (x : Session) (n : Nat) (flags : Byte) (payload : List Byte) : Env :=
  ⟨x.host, dest, none, 0x445A, 1, BitVec.ofNat 8 n, flags, 1, x.high + 1, BitVec.ofNat 16 payload.length, 0, []⟩

/-- The same frame with its MAC under the session's key. -/
def signedEnv (dest : BitVec 16) (x : Session) (n : Nat) (flags : Byte) (svc : Nat) (payload : List Byte) : Env :=
  { plainEnv dest x n flags payload with mac := macOf x.ks svc (plainEnv dest x n flags payload) payload }

/-- The state after checks 1 and 2 of a signed frame: the session's window and its time moved on, the request counted. -/
def afterChecks (s : State) (n : Fin 16) : State :=
  counted (s.setSession n.val { s.session n.val with
    high := (s.session n.val).high + 1, seen := (((s.session n.val).seen <<< 1) ||| 1#64) &&& 0x7FFFFFFFFFFFFFFF, lastValid := s.now })
    0x0000 1 0 1

theorem acceptSeq_next (x : Session) : acceptSeq x (x.high + 1) =
    some { x with high := x.high + 1, seen := ((x.seen <<< 1) ||| 1#64) &&& 0x7FFFFFFFFFFFFFFF } := by
  simp [acceptSeq]

/-- A signed frame of an open session passes checks 1 and 2. -/
theorem receive_signed (s : State) (dest : BitVec 16) (n : Fin 16) (flags : Byte) (svc : Nat) (payload : List Byte) (sizeOk : Bool)
    (ha : s.available = true) (ht : transportOn s (plainEnv dest (s.session n.val) n.val flags payload) = true) (hp : payload.length ≤ 1040)
    (ho : (s.session n.val).phase = .opened) (hf : bit flags.toNat 3 = true) (hz : sizeOk = true) :
    receive s svc (signedEnv dest (s.session n.val) n.val flags svc payload) payload sizeOk =
      .go (afterChecks s n) (.session n) := by
  have hn : (BitVec.ofNat 8 n.val).toNat = n.val := by simp; omega
  have h255 : ¬ (BitVec.ofNat 8 n.val = (0xFF : Byte)) := by
    intro h; have := congrArg BitVec.toNat h; rw [hn] at this; have := n.isLt; have h2 : (0xFF : Byte).toNat = 255 := rfl; omega
  have hfo : frameOk (signedEnv dest (s.session n.val) n.val flags svc payload) payload = true := by
    have : payload.length % 65536 = payload.length := Nat.mod_eq_of_lt (by omega)
    simp [frameOk, signedEnv, plainEnv, hasMac, hf, macOf_length, this, hp]
  have hm : hasMac (signedEnv dest (s.session n.val) n.val flags svc payload) = true := by
    simp [hasMac, signedEnv, plainEnv, hf]
  have hk : macOf (s.session n.val).ks svc (signedEnv dest (s.session n.val) n.val flags svc payload) payload =
      macOf (s.session n.val).ks svc (plainEnv dest (s.session n.val) n.val flags payload) payload := rfl
  have e1 : (signedEnv dest (s.session n.val) n.val flags svc payload).session = BitVec.ofNat 8 n.val := rfl
  have e2 : (signedEnv dest (s.session n.val) n.val flags svc payload).host = (s.session n.val).host := rfl
  have e3 : (signedEnv dest (s.session n.val) n.val flags svc payload).seq = (s.session n.val).high + 1 := rfl
  have e4 : (signedEnv dest (s.session n.val) n.val flags svc payload).mac =
      macOf (s.session n.val).ks svc (plainEnv dest (s.session n.val) n.val flags payload) payload := rfl
  have ht2 : transportOn s (signedEnv dest (s.session n.val) n.val flags svc payload) = true := ht
  have e5 : (signedEnv dest (s.session n.val) n.val flags svc payload).rtag = none := rfl
  unfold receive
  simp only [ha, e2, e5, notDuplicate, recovered, ht2, hfo, hz, not_true_eq_false, or_self, if_false, e1, h255, hn, n.isLt, dif_pos, ho, ne_eq, hm, hk, e4,
    not_true_eq_false, or_self, if_false, e3, acceptSeq_next, afterChecks]

/-- The frame of a signed write of session 0. -/
def signedWrite (s : State) (paired : Bool) (w : WriteReq) : Env :=
  signedEnv (sessionDest s (s.session 0)) (s.session 0) 0 0x08 (if paired then 0x12 else 0x11) (writePayload w)

/-- What a write of session 0 still has to pass once its frame is signed: the session open, the sizes, and checks 3 to 9. -/
def passes (s : State) (paired : Bool) (w : WriteReq) (a : Action) : Bool :=
  s.available && transportOn s (plainEnv (sessionDest s (s.session 0)) (s.session 0) 0 0x08 (writePayload w)) && decide ((s.session 0).phase = .opened) &&
    decide ((writePayload w).length ≤ 1040) &&
    (if paired then decide (2 ≤ w.data.length) && decide (w.data.length ≤ 16) else decide (w.data.length ≤ 1024)) &&
    !ninth (afterChecks s 0) (.session 0) && (writeCheck (afterChecks s 0) (.session 0) paired false w a).isNone

/-- A signed write that passes the rest goes. -/
theorem writeGoes_signed {s : State} {paired : Bool} {w : WriteReq} {a : Action} (h : passes s paired w a = true) :
    WriteGoes s (signedWrite s paired w) paired w a (afterChecks s 0) (.session 0) := by
  simp only [passes, Bool.and_eq_true, decide_eq_true_eq, Bool.not_eq_true', Option.isNone_iff_eq_none] at h
  obtain ⟨⟨⟨⟨⟨⟨ha, ht⟩, ho⟩, hp⟩, hz⟩, hn⟩, hc⟩ := h
  refine ⟨receive_signed s _ 0 0x08 _ _ _ ha ht hp ho rfl hz, hn, ?_, hc⟩
  have : isSegment (signedWrite s paired w) = false := by
    simp only [isSegment, signedWrite, signedEnv, plainEnv]; decide
  simp [this]

/-- The value check of a whole write may be shown apart from the others. -/
theorem passes_apart {s : State} {idx sub : Nat} {v : List Byte} {a : Action} {r : ObjRow} (hi : idx < 65536) (hs : sub < 256)
    (hr : rowOf idx sub = some r) (hm : r.mask = 0)
    (h : passes s false (wholeWrite idx sub v) { a with value := fun _ _ _ => none } = true)
    (hv : a.value (afterChecks s 0) (.session 0) v = none)
    (hc : a.clean v = v := by rfl) : passes s false (wholeWrite idx sub v) a = true := by
  have key : writeCheck (afterChecks s 0) (.session 0) false false (wholeWrite idx sub v) { a with value := fun _ _ _ => none } =
      writeCheck (afterChecks s 0) (.session 0) false false (wholeWrite idx sub v) a := by
    simp [writeCheck, wholeWrite, Nat.mod_eq_of_lt hi, Nat.mod_eq_of_lt hs, hr, storedForm, hc, keepFields_whole hm, hv]
  rw [← h]; simp only [passes, key]

/-- The state check of a whole write may be shown apart from the others. -/
theorem passes_state_apart {s : State} {idx sub : Nat} {v : List Byte} {a : Action} {r : ObjRow} (hi : idx < 65536) (hs : sub < 256)
    (hr : rowOf idx sub = some r) (hm : r.mask = 0)
    (h : passes s false (wholeWrite idx sub v) { a with state := fun _ _ _ => none } = true)
    (hv : a.state (afterChecks s 0) (.session 0) v = none)
    (hc : a.clean v = v := by rfl) : passes s false (wholeWrite idx sub v) a = true := by
  have key : writeCheck (afterChecks s 0) (.session 0) false false (wholeWrite idx sub v) { a with state := fun _ _ _ => none } =
      writeCheck (afterChecks s 0) (.session 0) false false (wholeWrite idx sub v) a := by
    simp [writeCheck, wholeWrite, Nat.mod_eq_of_lt hi, Nat.mod_eq_of_lt hs, hr, storedForm, hc, keepFields_whole hm, hv]
  rw [← h]; simp only [passes, key]

end Sys2Proof.Machine
end

