-- ==== Sys2Proof/Tests/Slice0.lean ====
section
/-! SUPPORT. The tests: small checks from the spec's figures, ill-formed commands refused, and for each statement states and operands
that meet its hypotheses. -/

set_option Elab.async false
set_option linter.unusedVariables false

namespace Sys2Proof.Tests

open Sys2Proof Sys2Proof.Machine

/-- A pair whose second part is known. -/
theorem pairOf {α β : Type} {p : α × β} {b : β} (h : p.2 = b) : p = (p.1, b) := by rw [← h]

/-- A session open at Vendor level with the sealed right, from the raw transport of port 0. -/
def vendor : Session := { phase := .opened, level := 5, sealedRight := true, host := ⟨2, 0x112233445566⟩ }

/-- A packet taken from the network, and the state after it. -/
def takenOf (s : State) (kind : Nat) : Pkt × State := (takePacket s 0 kind).getD (default, s)

theorem takes {s : State} {kind : Nat} (h : (takePacket s 0 kind).isSome = true) :
    takePacket s 0 kind = some ((takenOf s kind).1, (takenOf s kind).2) := by
  unfold takenOf; cases hp : takePacket s 0 kind with
  | none => rw [hp] at h; cases h
  | some x => rfl

/-- A key of 32 bytes of 11. -/
def key11 : List Byte := List.replicate 32 0x11

/-- A device in Run with that session as number 0. -/
def running : State := { State.reset with
  power := { mode := .run }
  boot := { porstLow := false, phase := 8, doneOnce := true, activated := true, outputsReleased := true, srReleased := true, writesEnabled := true, suppliesReached := true }
  clk := { started := true, rootLocked := true, roots := 96000000000 }
  dict := { sessions := [(0, vendor)] } }

/-- The device with team 0 of sector 0: plane 0 active, plane 1 valid. -/
def teamed : State := { running with
  teams := [(0, { goodMembers := 1, goodLeader := 0, active := 0 })]
  power := { mode := .run, domain := [(0, 2), (1, 2)] }
  planes := [(0, { state := .active }), (1, { state := .valid })] }

/-- The team with a timed switch to plane 1 pending. -/
def switching : State := { teamed with
  teams := [(0, { goodMembers := 1, goodLeader := 0, active := 0, pending := some { trigger := 0, plane := 1, due := 200000000000 } })] }

/-- The device with capture of sector 0 set up for its trigger pin. -/
def captured : State := { teamed with obj := [(objKey 0x6350 1, { val := u64 1 }), (objKey 0x6350 3, { val := [2] })] }

/-- An unsigned frame of a session number with a payload of a length. -/
def plainFrame (session : Byte) (length : BitVec 16) : Env := ⟨⟨2, 1⟩, BitVec.ofNat 16 (State.reset.num 0x1030 6), none, 0x445A, 1, session, 0, 1, 0, length, 0, []⟩

/-- The device with session 0 held at step 2 for the Builder. -/
def asked : State := { running with dict := { sessions := [(0, { phase := .opening, level := 4, host := ⟨2, 1⟩, heldAt := 96000000000 })] } }

/-- A segmented write of which 2 bytes of 100 have come. -/
def sent1 : Transfer := ⟨.session 0, 1, objKey 0x6101 1, 0x0F, 100, [7, 8], 96000000000⟩

/-- The device with that transfer in progress. -/
def sending : State := { running with dict := { sessions := [(0, vendor)], transfers := [sent1] } }

/-- The device with process-data images enabled at TAI 1 s. -/
def imaging : State := { running with time := { ns := 1000000000 }, obj := [(objKey 0x1060 1, { val := [1] }), (objKey 0x1060 2, { val := u16 2 })] }

/-- A read that waits for tap 3. -/
def tapRead : TapReq := ⟨3, .session 0, none, 1, 0x3000, 0, 0x05, false, 0, 1, [], none, 0, none, 0⟩

/-- The team's sector with a base port in cluster 0 of its active plane. -/
def ported : State := { teamed with frames := [(frameAddr 0 0 0 0 6, u32 0x11)] }

/-- A packet of that port, outstanding. -/
def fencedPkt : Pkt := { kind := 1, initiator := 0, src := 0, dst := 0, tag := 0, address := 0, length := 4, use := .port 0 0 }

/-! #### A stream signed by a hand calculation of ECDSA over P-384, with the private scalar 0x1234567890abcdef -/

/-- The first 40 bytes of a header: flags, key source, and the length of one chunk; owner 0, sector 0, planes 0 and 1. -/
def headBytes (flags key len : Nat) : List Byte :=
  streamMagic ++ u16 1 ++ u16 0x5C08 ++ [0] ++ u8 flags ++ u8 key ++ [0] ++ u64 1 ++ [3, 0, 0, 0] ++ u32 512 ++ u32 1 ++ u64 len

/-- END of a stream without packets before it. -/
def endOnly : List Byte := [0x0D, 0, 0, 0] ++ u32 8 ++ zeros 8

/-- A start-up stream of END alone, as signed. -/
def signedHeader : List Byte :=
  headBytes 1 0 16 ++ zeros 24 ++
    beBytes 0x04fbf96095915eb587390f850ec95b35f618ae121c72a70808ad8f9f4c261b602b63541743e395f7c778e52bb28c18dc83016a6ff3f72c9368326ad50a3bd148a53cd2213bb480e4730ad019db87ae100995ec65df011e19811a15dc9ddfc9ab3c 97 ++
    zeros 255 ++
    beBytes 0x5e79c97fd782d19622bd69b77bc52242367e306299fd3efef2908117ed90055a510cddf75a869c65e8586099e027101a 48 ++
    beBytes 0x1a621ec2648ffe03269455ea7e9fe9f3e6511975716c37b1102995e193d5bfb4ee1ed1b52f821e16369397816f36f48c 48

/-- The device in the load phase, fed by a host with that stream's header and its one tag. -/
def fed : State := { running with
  power := {}
  boot := { running.boot with phase := 5, strapBoot := 2, writesEnabled := false }
  fuses := { owner0 := beBytes 0xe7ea5dee60026fc100b51215f3f8897673ff1db46b29397c5b7c9470aa3cd64d1c62edb9f30247ff0ff2a725c13555a1 48 }
  loader := { feedBuf := signedHeader ++ (Crypto.sha384 endOnly).take 16 } }

/-- A packet of an opcode. -/
def packet (op : Byte) (d : List Byte) : List Byte := [op, 0, 0, 0] ++ u32 d.length ++ d

/-- A stream of a kind and key source, with a whole payload verified and plane 1 of sector 0 selected. -/
def streamOf (flags key : Nat) (payload : List Byte) : Stream :=
  { src := .feed, header := headBytes flags key payload.length, tags := [], key := [], nonce := [], chunk := 1, payload := payload,
    sel := [(1, 1)] }

/-- The device with that stream in progress and the plane loading. -/
def loading (flags key : Nat) (payload : List Byte) : State := { running with
  loader := { cur := some (streamOf flags key payload) }
  planes := [(1, { state := .loading })]
  lanes := { hitchDown := { up := true } } }

/-- The device in a phase of Start-up. -/
def starting (phase : Nat) : State := { running with
  power := {}
  boot := { porstLow := false, phase := phase, suppliesReached := true }
  board := { mv := [(0, 1800)] } }

/-- The device with both hitch links up. -/
def linked : State := { running with
  lanes := { hitchUp := { up := true }, hitchDown := { up := true } }
  chain := { position := 1, devices := 2 } }

/-- A frame of the chain that is the next expected, for this device. -/
def frameIn (up : Bool) (src : Byte) : HFrame := ⟨up, 0, 0, false, 1, src, true⟩

/-- The device with window 0 of 256 bytes enabled, 64 bytes in it. -/
def windowed : State := { running with
  obj := [(objKey 0x6520 1, { val := [1] }), (objKey 0x6520 3, { val := u32 256 })]
  pan := { windows := [(0, { wr := 64, fill := 64 })] } }

/-- A read of one pannier word by mover 0. -/
def someRead : Pkt := { id := 7, kind := 1, initiator := 0x10, src := 0, dst := 0, tag := 0, address := 0, length := 8 }

/-- The device with both DRAM stacks ready. -/
def dramOn : State := { running with dram := { stack := [(0, 2), (1, 2)], trained := true } }

/-- A fill of line 0 for slice 0. -/
def fill0 : DReq := { src := 0, slice := 0, line := 0, write := false, cls := 1, initiator := 0x10 }

/-- The channel of line 0. -/
def chan0 : Nat := (dloc 0).chan

/-- The bank of line 0. -/
def bank0 : Nat := bankKey (dloc 0).chan (dloc 0).pc (dloc 0).rank (dloc 0).bank

/-- The device with both stacks ready and one channel and one bank so set. -/
def dramWith (c : Channel) (b : DBank) : State := { running with
  dram := { stack := [(0, 2), (1, 2)], trained := true, chans := [(chan0, c)], banks := [(bank0, b)] } }

/-- The device with bank 0 of the I/O running and pin 0 an enabled input that records both edges. -/
def bankOn (x : IoBank) (p : Pin) : State := { running with
  time := { ns := 10000000000 }
  obj := [(objKey 0x6910 3, { val := [0] }), (objKey 0x6910 4, { val := u64 0x200000000000 }), (objKey 0x6920 1, { val := u32 0x19, comp := complBytes (u32 0x19) })]
  banks := [(0, { x with state := 1 })]
  pins := [(0, p)] }

/-- The device with a lane so set. -/
def laneIn (k : Nat) (x : Lane) : State := { running with lanes := { lanes := [(k, x)] } }

/-- The device with its sealed partition enabled and sample port 0 on, at TAI 1 s: divider 7, 8 bits, one word of 8, period 50 µs. -/
def sampling : State := { running with
  time := { ns := 1000000000 }
  sealed := { enabled := true, provisioned := true, table := [(32, { val := 0x8007080800000032, comp := ~~~0x8007080800000032 })]
              ports := [(0, { due := some 999950000 })] } }

/-- A record of a source. -/
def rec0 : Rec := ⟨0, 0x0300, 0x9001, 0, 0, 0, zeros 16⟩


/-- A frame of that session, signed. -/
def signed (flags : Byte) (svc : Nat) (payload : List Byte) : Env := signedEnv (sessionDest running vendor) vendor 0 flags svc payload

/-- The team's sector with a tap for 0x3000 to 0x30FF in its active plane. -/
def tapped : State := { teamed with frames := [(frameAddr 0 0 0 0 7, zeros 8 ++ [0, 0x30, 0xFF, 0x30, 0, 0x80])] }

/-- The device with its CAN FD controller running as node 127. -/
def canOn (s : State) : State := { s with dict := { s.dict with can := { running := true } } }

/-- The device in the load phase, fed by a host. -/
def feeding : State := { running with power := {}, boot := { running.boot with phase := 5, strapBoot := 2, writesEnabled := false } }

/-- The device fed, with that transfer in progress. -/
def sendingIn : State := { feeding with dict := { sessions := [(0, vendor)], transfers := [sent1] } }

/-- The device with its controller serving clients at Vendor level. -/
def canAt5 : State := { running with dict := { can := { running := true, level := 5 } } }

/-- A segmented write of a client. -/
def sentCan : Transfer := ⟨.can 5, 0, objKey 0x6101 1, 0x0F, 100, [7, 8], 96000000000⟩

/-- The device fed, with that transfer in progress. -/
def canSending : State := { feeding with dict := { can := { running := true, level := 5 }, transfers := [sentCan] } }

/-- The staging of plane 1 of the team. -/
def staging1 : StageOp := { parts := [⟨0, 1, 1⟩], fallback := false }

/-- The team's sector with a block memory of 512 words of 72 bits. -/
def blocked : State := { teamed with frames := [(frameAddr 0 0 0 0 5, u32 7)] }

/-- The device fed, its controller serving clients at Vendor level. -/
def canOnFeeding : State := { feeding with dict := { can := { running := true, level := 5 } } }

/-- A packet alone in flight. -/
def flying (p : Pkt) : State := { teamed with noc := { flight := [p], open_ := [{ p with kind := p.kind % 0x80 }] } }

/-- A signed write of session 0 passes checks 1 and 2. -/
theorem receive_signedWrite (s : State) (w : WriteReq) (ha : s.available = true)
    (ht : transportOn s (plainEnv (sessionDest s (s.session 0)) (s.session 0) 0 0x08 (writePayload w)) = true)
    (hp : (writePayload w).length ≤ 1040) (ho : (s.session 0).phase = .opened) :
    receive s 0x11 (signedWrite s false w) (writePayload w) true = .go (afterChecks s 0) (.session 0) :=
  receive_signed s _ 0 0x08 0x11 _ true ha ht hp ho rfl rfl


theorem meets_IdleStepIsAnEdge : ∃ (s : State),
    s.pending = [] :=
  ⟨running, by decide +kernel⟩

theorem meets_MemoriesStayCanonical : ∃ (s : State) (t : State),
    s.memoriesWf ∧ step s = .next t :=
  ⟨State.reset, _, ⟨by decide +kernel, by decide +kernel⟩, rfl⟩

theorem meets_ExecKeepsQueue : ∃ (c : Instr) (s : State) (t : State),
    exec c s = .next t :=
  ⟨.idcode, State.reset, _, rfl⟩

theorem meets_CommandsTakeNoTime : ∃ (c : Instr) (s : State) (t : State),
    exec c s = .next t :=
  ⟨.idcode, State.reset, _, rfl⟩

theorem meets_OutputsOnlyGrow : ∃ (s : State) (t : State),
    step s = .next t :=
  ⟨State.reset, _, rfl⟩

theorem meets_AuditAppendOnly : ∃ (s : State) (t : State),
    step s = .next t ∧ ((∀ m rest, s.pending ≠ .complementCheck (some (.sealedArea 1, m)) :: rest)) :=
  ⟨State.reset, _, rfl, fun _ _ h => nomatch h⟩

theorem meets_FusesStay : ∃ (s : State) (t : State),
    step s = .next t :=
  ⟨State.reset, _, rfl⟩

theorem meets_openSession : ∃ (e : Env) (level : Byte) (options : Byte) (nonce : List Byte) (s : State) (u : State) (n : Nat),
    frameTaken s e (level :: options :: nonce) = true ∧ nonce.length = 16 ∧ u = levelsUsed (tookFrame s e) ∧ openRefusal u level.toNat = none ∧ freeSession u = some n :=
  ⟨plainFrame 0xFF 18, 4, 0, zeros 16, { running with dict := {} }, _, 0, by decide +kernel, by decide +kernel, rfl, by decide +kernel, by decide +kernel⟩

theorem meets_openSession_2 : ∃ (e : Env) (level : Byte) (options : Byte) (nonce : List Byte) (s : State) (u : State) (c : Nat),
    frameTaken s e (level :: options :: nonce) = true ∧ nonce.length = 16 ∧ u = levelsUsed (tookFrame s e) ∧ openRefusal u level.toNat = some c :=
  ⟨plainFrame 0xFF 18, 4, 2, zeros 16, { running with dict := { lockedTill := [(4, 96000000001)] } }, _, abAuth, by decide +kernel, by decide +kernel, rfl, by decide +kernel⟩

theorem meets_response : ∃ (e : Env) (hmac : List Byte) (sealedHmac : Option (List Byte)) (s : State),
    frameTaken s e (hmac ++ sealedHmac.getD []) = true ∧ hmac.length = 32 ∧ ((∀ h, sealedHmac = some h → h.length = 32)) ∧ e.session.toNat < 16 ∧ (s.session e.session.toNat).phase = .opening ∧ (s.session e.session.toNat).host = e.host ∧ (s.session e.session.toNat).wantsSealed = sealedHmac.isSome ∧ s.elapsed (s.session e.session.toNat).heldAt 1000000000 = false ∧ hmac = Crypto.hmac (levelKey s (s.session e.session.toNat).level) (challenge s (s.session e.session.toNat) e.session.toNat) :=
  ⟨plainFrame 0 32, Crypto.hmac (levelKey asked 4) (challenge asked (asked.session 0) 0), none, asked, by decide +kernel, Crypto.hmac_length _ _, fun _ h => (nomatch h), by decide +kernel, by decide +kernel, by decide +kernel, by decide +kernel, by decide +kernel, rfl⟩

theorem meets_levelLockExpiry : ∃ (level : Fin 6) (s : State),
    AMap.get 0 s.dict.lockedTill level.val ≤ s.now :=
  ⟨4, { running with dict := { lockedTill := [(4, 5)] } }, by decide +kernel⟩

theorem meets_openingTimeout : ∃ (n : Fin 16) (s : State),
    (s.session n.val).phase = .opening ∧ s.elapsed (s.session n.val).heldAt 1000000000 = true :=
  ⟨0, { running with dict := { sessions := [(0, { phase := .opening })] } }, by decide +kernel⟩

theorem meets_idleTimeout : ∃ (n : Fin 16) (s : State),
    (s.session n.val).phase = .opened ∧ s.elapsed (s.session n.val).lastValid (s.num 0x1101 1 * 1000000000) = true :=
  ⟨0, { running with clk := { roots := 96000000000000 } }, by decide +kernel⟩

theorem meets_close : ∃ (e : Env) (s : State) (s1 : State) (n : Fin 16),
    e.session ≠ 0xFF ∧ receive s 0x05 e [] true = .go s1 (.session n) :=
  ⟨signedEnv (sessionDest running vendor) vendor 0 0x08 0x05 [], running, _, 0, by decide +kernel, receive_signed running (sessionDest running vendor) 0 0x08 0x05 [] true (by decide +kernel) (by decide +kernel) (by decide +kernel) (by decide +kernel) (by decide +kernel) (by decide +kernel)⟩

theorem meets_read : ∃ (e : Env) (r : ReadReq) (s : State) (s1 : State) (s2 : State) (who : Requester) (n : Nat) (bs : List Byte),
    receive s 0x10 e (reqHead r.index r.sub r.ty r.offset r.length ++ [r.option, 0, 0, 0]) true = .go s1 who ∧ ninth s1 who = false ∧ inTapArea r.index.toNat = false ∧ dictRead s1 who r = (s2, 0, n, bs) :=
  ⟨signedEnv (sessionDest running vendor) vendor 0 0x08 0x10 (reqHead 0x1101 1 0x06 0 2 ++ [0, 0, 0, 0]), ⟨0x1101, 1, 0x06, 0, 2, 0⟩, running, _, (dictRead (afterChecks running 0) (.session 0) ⟨0x1101, 1, 0x06, 0, 2, 0⟩).1, _, 2, (dictRead (afterChecks running 0) (.session 0) ⟨0x1101, 1, 0x06, 0, 2, 0⟩).2.2.2, receive_signed running (sessionDest running vendor) 0 0x08 0x10 (reqHead 0x1101 1 0x06 0 2 ++ [0, 0, 0, 0]) true (by decide +kernel) (by decide +kernel) (by decide +kernel) (by decide +kernel) (by decide +kernel) (by decide +kernel), by decide +kernel, by decide +kernel, Prod.ext rfl (Prod.ext (by decide +kernel) (Prod.ext (by decide +kernel) rfl))⟩

theorem meets_read_2 : ∃ (e : Env) (r : ReadReq) (s : State) (s1 : State) (s2 : State) (who : Requester),
    receive s 0x10 e (reqHead r.index r.sub r.ty r.offset r.length ++ [r.option, 0, 0, 0]) true = .go s1 who ∧ ninth s1 who = false ∧ inTapArea r.index.toNat = true ∧ ((who = .anonymous → anonymousWaiting s1 < 8)) ∧ tapRequest s1 who ⟨0, who, some e, e.transfer, r.index, r.sub, r.ty, false, r.offset.toNat, r.length.toNat, [], none, s1.now, none, 0⟩ false = (s2, none) :=
  ⟨signed 0x08 0x10 (reqHead 0x3000 0 0x05 0 1 ++ [0, 0, 0, 0]), ⟨0x3000, 0, 0x05, 0, 1, 0⟩, tapped, afterChecks tapped 0, (tapRequest (afterChecks tapped 0) (.session 0) ⟨0, .session 0, some (signed 0x08 0x10 (reqHead 0x3000 0 0x05 0 1 ++ [0, 0, 0, 0])), 1, 0x3000, 0, 0x05, false, 0, 1, [], none, 96000000000, none, 0⟩ false).1, .session 0, receive_signed tapped (sessionDest running vendor) 0 0x08 0x10 (reqHead 0x3000 0 0x05 0 1 ++ [0, 0, 0, 0]) true (by decide +kernel) (by decide +kernel) (by decide +kernel) (by decide +kernel) (by decide +kernel) (by decide +kernel), by decide +kernel, by decide +kernel, by decide, pairOf (by decide +kernel)⟩

theorem meets_write : ∃ (e : Env) (w : WriteReq) (s : State) (s1 : State) (s2 : State) (who : Requester),
    receive s 0x11 e (writePayload w) (decide (w.data.length ≤ 1024)) = .go s1 who ∧ ninth s1 who = false ∧ inTapArea w.index.toNat = true ∧ tapRequest s1 who ⟨0, who, some e, e.transfer, w.index, w.sub, w.ty, true, w.offset.toNat, w.length.toNat, w.data, none, s1.now, none, 0⟩ false = (s2, none) :=
  ⟨signed 0x08 0x11 (writePayload ⟨0x3000, 0, 0x05, 0, 1, [7]⟩), ⟨0x3000, 0, 0x05, 0, 1, [7]⟩, tapped, afterChecks tapped 0, (tapRequest (afterChecks tapped 0) (.session 0) ⟨0, .session 0, some (signed 0x08 0x11 (writePayload ⟨0x3000, 0, 0x05, 0, 1, [7]⟩)), 1, 0x3000, 0, 0x05, true, 0, 1, [7], none, 96000000000, none, 0⟩ false).1, .session 0, receive_signed tapped (sessionDest running vendor) 0 0x08 0x11 (writePayload ⟨0x3000, 0, 0x05, 0, 1, [7]⟩) _ (by decide +kernel) (by decide +kernel) (by decide +kernel) (by decide +kernel) (by decide +kernel) (by decide +kernel), by decide +kernel, by decide +kernel, pairOf (by decide +kernel)⟩

theorem meets_write_2 : ∃ (e : Env) (w : WriteReq) (s : State) (s1 : State) (n : Fin 16),
    receive s 0x11 e (writePayload w) (decide (w.data.length ≤ 1024)) = .go s1 (.session n) ∧ ninth s1 (.session n) = false ∧ inTapArea w.index.toNat = false ∧ isSegment e = true ∧ isLast e = false ∧ writeCheck s1 (.session n) false true w (actionOf w.index.toNat w.sub.toNat) = none :=
  ⟨signed 0x0C 0x11 (writePayload ⟨0x6101, 1, 0x0F, 0, 100, [7, 8]⟩), ⟨0x6101, 1, 0x0F, 0, 100, [7, 8]⟩, feeding, afterChecks feeding 0, 0, receive_signed feeding (sessionDest running vendor) 0 0x0C 0x11 (writePayload ⟨0x6101, 1, 0x0F, 0, 100, [7, 8]⟩) _ (by decide +kernel) (by decide +kernel) (by decide +kernel) (by decide +kernel) (by decide +kernel) (by decide +kernel), by decide +kernel, by decide +kernel, by decide +kernel, by decide +kernel, by decide +kernel⟩

theorem meets_write_3 : ∃ (e : Env) (w : WriteReq) (s : State) (s1 : State) (who : Requester),
    inTapArea w.index.toNat = false ∧ WriteGoes s e false w (actionOf w.index.toNat w.sub.toNat) s1 who :=
  ⟨_, wholeWrite 0x6D22 1 (u64 0), running, _, _, by decide +kernel, writeGoes_signed (by decide +kernel)⟩

theorem meets_pairedWrite : ∃ (e : Env) (w : WriteReq) (s : State) (s1 : State) (who : Requester),
    inTapArea w.index.toNat = false ∧ WriteGoes s e true w (actionOf w.index.toNat w.sub.toNat) s1 who :=
  ⟨_, pairWrite 0x6002 4 [1] [0xFE], running, _, _, by decide +kernel, writeGoes_signed (by decide +kernel)⟩

theorem meets_segment : ∃ (e : Env) (offset : BitVec 32) (data : List Byte) (s : State) (s1 : State) (who : Requester) (x : Transfer),
    receive s 0x13 e (u32 offset.toNat ++ data) (decide (1 ≤ data.length) && decide (data.length ≤ 1024)) = .go s1 who ∧ who ≠ .anonymous ∧ transferOf s1 who e.transfer = some x ∧ gapOver s1 x = false ∧ isSegment e = true ∧ isLast e = false ∧ offset.toNat = x.buf.length ∧ (x.buf ++ data).length ≤ x.total :=
  ⟨signedEnv (sessionDest running vendor) vendor 0 0x0C 0x13 (u32 2 ++ [9]), 2, [9], sending, _, _, sent1, receive_signed sending (sessionDest running vendor) 0 0x0C 0x13 (u32 2 ++ [9]) _ (by decide +kernel) (by decide +kernel) (by decide +kernel) (by decide +kernel) (by decide +kernel) (by decide +kernel), by decide +kernel, by decide +kernel, by decide +kernel, by decide +kernel, by decide +kernel, by decide +kernel, by decide +kernel⟩

theorem meets_segment_2 : ∃ (e : Env) (offset : BitVec 32) (data : List Byte) (s : State) (s1 : State) (v : State) (who : Requester) (x : Transfer),
    receive s 0x13 e (u32 offset.toNat ++ data) (decide (1 ≤ data.length) && decide (data.length ≤ 1024)) = .go s1 who ∧ who ≠ .anonymous ∧ transferOf s1 who e.transfer = some x ∧ gapOver s1 x = false ∧ isSegment e = true ∧ isLast e = true ∧ offset.toNat = x.buf.length ∧ (x.buf ++ data).length = x.total ∧ commitTransfer s1 x (x.buf ++ data) = (v, 0) :=
  ⟨signed 0x0E 0x13 (u32 2 ++ zeros 98), 2, zeros 98, sendingIn, afterChecks sendingIn 0, (commitTransfer (afterChecks sendingIn 0) sent1 ([7, 8] ++ zeros 98)).1, .session 0, sent1, receive_signed sendingIn (sessionDest running vendor) 0 0x0E 0x13 (u32 2 ++ zeros 98) _ (by decide +kernel) (by decide +kernel) (by decide +kernel) (by decide +kernel) (by decide +kernel) (by decide +kernel), by decide +kernel, by decide +kernel, by decide +kernel, by decide +kernel, by decide +kernel, by decide +kernel, by decide +kernel, pairOf (by decide +kernel)⟩

theorem meets_segmentTimeout : ∃ (n : Fin 16) (transfer : BitVec 16) (s : State) (x : Transfer),
    transferOf s (.session n) transfer = some x ∧ gapOver s x = true :=
  ⟨0, 1, { sending with clk := { roots := 960000000000 } }, sent1, by decide +kernel⟩

theorem meets_abort : ∃ (e : Env) (code : BitVec 32) (s : State) (s1 : State) (who : Requester),
    receive s 0x14 e (u32 code.toNat) true = .go s1 who :=
  ⟨signedEnv (sessionDest running vendor) vendor 0 0x08 0x14 (u32 0x05040000), 0x05040000, running, _, _, receive_signed running (sessionDest running vendor) 0 0x08 0x14 (u32 0x05040000) true (by decide +kernel) (by decide +kernel) (by decide +kernel) (by decide +kernel) (by decide +kernel) (by decide +kernel)⟩

theorem meets_unknownService : ∃ (e : Env) (service : Byte) (payload : List Byte) (s : State) (s1 : State) (n : Fin 16),
    service.toNat ∉ requestServices ∧ e.session ≠ 0xFF ∧ receive s service.toNat e payload true = .go s1 (.session n) :=
  ⟨signedEnv (sessionDest running vendor) vendor 0 0x08 0x99 [], 0x99, [], running, _, 0, by decide +kernel, by decide +kernel, receive_signed running (sessionDest running vendor) 0 0x08 0x99 [] true (by decide +kernel) (by decide +kernel) (by decide +kernel) (by decide +kernel) (by decide +kernel) (by decide +kernel)⟩

theorem meets_dictLevelEnableWrite : ∃ (e : Env) (v : Byte) (c : Byte) (s : State) (s1 : State) (who : Requester),
    WriteGoes s e true (pairWrite 0x1110 0 [v] [c]) actLevelEnable s1 who :=
  ⟨_, 1, 0xFE, running, _, _, writeGoes_signed (by decide +kernel)⟩

theorem meets_canEnable : ∃ (v : Byte) (s : State) (e : Env) (s1 : State) (who : Requester), WriteGoes s e false (wholeWrite 0x1040 1 [v]) actCanEnable s1 who ∧ s1.num 0x1040 1 = 0 :=
  ⟨1, running, _, _, _, writeGoes_signed (by decide +kernel), by decide +kernel⟩

theorem meets_gateListTakesEffect : ∃ (s : State) (at_ : Nat) (l : List Byte),
    s.dict.gatePending = some (at_, l) ∧ s.tai / s.num 0x1080 1 ≠ at_ / s.num 0x1080 1 :=
  ⟨{ running with time := { ns := 1000000000 }, dict := { gatePending := some (1, [7]) } }, 1, [7], by decide +kernel⟩

theorem meets_canBusOff : ∃ (state : Fin 4) (tec : BitVec 16) (recv : BitVec 16) (s : State),
    s.dict.can.running = true ∧ state ≠ 0 :=
  ⟨1, 200, 0, { running with dict := { can := { running := true } } }, by decide +kernel⟩

theorem meets_usdoRequest : ∃ (node : Fin 128) (r : UsdoReq) (s : State) (u : State) (v : _) (n : _) (bs : _),
    s.available = true ∧ s.dict.can.running = true ∧ s.dict.can.busState ≠ 3 ∧ r.server.val = s.dict.can.node ∧ u = counted s 0 1 0 1 ∧ canBusy u node = false ∧ canClients u node < 4 ∧ inTapArea r.index.toNat = false ∧ r.kind = 0 ∧ dictRead u (.can node) ⟨r.index, r.sub, BitVec.ofNat 8 ((rowOf r.index.toNat r.sub.toNat).elim 0 ObjRow.ty), 0, 0, 0⟩ = (v, 0, n, bs) ∧ (readValue v r.index.toNat r.sub.toNat).length ≤ 65536 :=
  ⟨5, ⟨127, 0, 0x1101, 1, 0, []⟩, canAt5, _, (dictRead (counted canAt5 0 1 0 1) (.can 5) ⟨0x1101, 1, 0x06, 0, 0, 0⟩).1, 2, (dictRead (counted canAt5 0 1 0 1) (.can 5) ⟨0x1101, 1, 0x06, 0, 0, 0⟩).2.2.2, by decide +kernel, by decide +kernel, by decide +kernel, by decide +kernel, rfl, by decide +kernel, by decide +kernel, by decide +kernel, by decide +kernel, Prod.ext rfl (Prod.ext (by decide +kernel) (Prod.ext (by decide +kernel) rfl)), by decide +kernel⟩

theorem meets_usdoRequest_2 : ∃ (node : Fin 128) (r : UsdoReq) (s : State) (u : State) (v : _),
    s.available = true ∧ s.dict.can.running = true ∧ s.dict.can.busState ≠ 3 ∧ r.server.val = s.dict.can.node ∧ u = counted s 0 1 0 1 ∧ canBusy u node = false ∧ canClients u node < 4 ∧ inTapArea r.index.toNat = false ∧ r.kind = 1 ∧ dictWrite u (.can node) false (wholeWrite r.index.toNat r.sub.toNat r.data) (actionOf r.index.toNat r.sub.toNat) = (v, 0) :=
  ⟨5, ⟨127, 1, 0x6D22, 1, 8, u64 0⟩, canAt5, _, (dictWrite (counted (canAt5) 0 1 0 1) (.can 5) false (wholeWrite 0x6D22 1 (u64 0)) (actionOf 0x6D22 1)).1, by decide +kernel, by decide +kernel, by decide +kernel, by decide +kernel, rfl, by decide +kernel, by decide +kernel, by decide +kernel, by decide +kernel, pairOf (by decide +kernel)⟩

theorem meets_usdoRequest_3 : ∃ (node : Fin 128) (r : UsdoReq) (s : State) (u : State),
    s.available = true ∧ s.dict.can.running = true ∧ s.dict.can.busState ≠ 3 ∧ r.server.val = s.dict.can.node ∧ u = counted s 0 1 0 1 ∧ canBusy u node = false ∧ canClients u node < 4 ∧ inTapArea r.index.toNat = false ∧ r.kind = 2 ∧ r.length.toNat ≤ 65536 ∧ writeCheck u (.can node) false true ⟨r.index, r.sub, BitVec.ofNat 8 ((rowOf r.index.toNat r.sub.toNat).elim 0 ObjRow.ty), 0, r.length, r.data⟩ (actionOf r.index.toNat r.sub.toNat) = none :=
  ⟨5, ⟨127, 2, 0x6101, 1, 100, [7, 8]⟩, canOnFeeding, _, by decide +kernel, by decide +kernel, by decide +kernel, by decide +kernel, rfl, by decide +kernel, by decide +kernel, by decide +kernel, by decide +kernel, by decide +kernel, by decide +kernel⟩

theorem meets_usdoRequest_4 : ∃ (node : Fin 128) (r : UsdoReq) (s : State) (u : State) (v : _),
    s.available = true ∧ s.dict.can.running = true ∧ s.dict.can.busState ≠ 3 ∧ r.server.val = s.dict.can.node ∧ u = counted s 0 1 0 1 ∧ canBusy u node = false ∧ canClients u node < 4 ∧ inTapArea r.index.toNat = true ∧ r.kind = 0 ∧ tapRequest u (.can node) ⟨0, .can node, none, 0, r.index, r.sub, 0, false, 0, 0, [], none, u.now, none, 0⟩ false = (v, none) :=
  ⟨5, ⟨127, 0, 0x3000, 0, 0, []⟩, canOn tapped, _, (tapRequest (counted (canOn tapped) 0 1 0 1) (.can 5) ⟨0, .can 5, none, 0, 0x3000, 0, 0, false, 0, 0, [], none, 96000000000, none, 0⟩ false).1, by decide +kernel, by decide +kernel, by decide +kernel, by decide +kernel, rfl, by decide +kernel, by decide +kernel, by decide +kernel, by decide +kernel, pairOf (by decide +kernel)⟩

theorem meets_usdoRequest_5 : ∃ (node : Fin 128) (r : UsdoReq) (s : State) (u : State) (v : _),
    s.available = true ∧ s.dict.can.running = true ∧ s.dict.can.busState ≠ 3 ∧ r.server.val = s.dict.can.node ∧ u = counted s 0 1 0 1 ∧ canBusy u node = false ∧ canClients u node < 4 ∧ inTapArea r.index.toNat = true ∧ r.kind = 1 ∧ tapRequest u (.can node) (canTapReq u node r.index r.sub r.data) false = (v, none) :=
  ⟨5, ⟨127, 1, 0x3000, 0, 1, [7]⟩, canOn tapped, _, (tapRequest (counted (canOn tapped) 0 1 0 1) (.can 5) (canTapReq (counted (canOn tapped) 0 1 0 1) 5 0x3000 0 [7]) false).1, by decide +kernel, by decide +kernel, by decide +kernel, by decide +kernel, rfl, by decide +kernel, by decide +kernel, by decide +kernel, by decide +kernel, pairOf (by decide +kernel)⟩

theorem meets_usdoRequest_6 : ∃ (node : Fin 128) (r : UsdoReq) (s : State) (u : State) (x : _) (v : _),
    s.available = true ∧ s.dict.can.running = true ∧ s.dict.can.busState ≠ 3 ∧ r.server.val = s.dict.can.node ∧ u = counted s 0 1 0 1 ∧ r.kind = 3 ∧ transferOf u (.can node) 0 = some x ∧ takeSegment u x true false x.buf.length r.data = (v, 0) :=
  ⟨5, ⟨127, 3, 0x6101, 1, 0, [9]⟩, canSending, _, sentCan, (takeSegment (counted canSending 0 1 0 1) sentCan true false 2 [9]).1, by decide +kernel, by decide +kernel, by decide +kernel, by decide +kernel, rfl, by decide +kernel, by decide +kernel, pairOf (by decide +kernel)⟩

theorem meets_usdoRequest_7 : ∃ (node : Fin 128) (r : UsdoReq) (s : State) (u : State) (x : _) (v : _),
    s.available = true ∧ s.dict.can.running = true ∧ s.dict.can.busState ≠ 3 ∧ r.server.val = s.dict.can.node ∧ u = counted s 0 1 0 1 ∧ r.kind = 4 ∧ transferOf u (.can node) 0 = some x ∧ inTapArea (x.key / 256) = false ∧ takeSegment u x true true x.buf.length r.data = (v, 0) :=
  ⟨5, ⟨127, 4, 0x6101, 1, 0, zeros 98⟩, canSending, _, sentCan, (takeSegment (counted canSending 0 1 0 1) sentCan true true 2 (zeros 98)).1, by decide +kernel, by decide +kernel, by decide +kernel, by decide +kernel, rfl, by decide +kernel, by decide +kernel, by decide +kernel, pairOf (by decide +kernel)⟩

theorem meets_usdoRequest_8 : ∃ (node : Fin 128) (r : UsdoReq) (s : State) (u : State),
    s.available = true ∧ s.dict.can.running = true ∧ s.dict.can.busState ≠ 3 ∧ r.server.val = s.dict.can.node ∧ u = counted s 0 1 0 1 ∧ r.kind = 5 :=
  ⟨5, ⟨127, 5, 0x6101, 1, 0, []⟩, canOn running, _, by decide +kernel, by decide +kernel, by decide +kernel, by decide +kernel, rfl, by decide +kernel⟩

theorem meets_processData : ∃ (port : Fin 2) (srcMac : BitVec 48) (rtag : Option (BitVec 16)) (cycle : BitVec 32) (status : Byte) (image : List Byte) (mac : List Byte) (s : State) (u : State),
    imagesRun s = true ∧ notDuplicate s (frerStream srcMac.toNat 2) rtag = true ∧ u = recovered s (frerStream srcMac.toNat 2) rtag ∧ (u.num 0x1060 9 = 0 ∨ u.num 0x1060 9 = srcMac.toNat) ∧ image.length = mapLength u 0x1062 ∧ ((u.num 0x1060 11 = 1 → AMap.get [] u.dict.keys 2 ≠ [] ∧ mac = imageMac u 0x08 cycle (imagePayload status image))) ∧ u.tai ≤ cycleNamed u cycle * cycleNs u + u.num 0x1060 6 ∧ u.dict.pd.lastBoundary < cycleNamed u cycle :=
  ⟨0, 0x112233445566, none, 16385, 0, [], [], imaging, _, by decide +kernel, by decide +kernel, rfl, by decide +kernel, by decide +kernel, by decide +kernel, by decide +kernel, by decide +kernel⟩

theorem meets_rxImageApply : ∃ (s : State) (k : Nat) (status : _) (image : _) (v : _),
    imagesRun s = true ∧ s.num 0x1060 6 ≤ s.tai ∧ k = cycleCount s (s.num 0x1060 6) ∧ k ≠ s.dict.pd.lastBoundary ∧ AMap.get [] s.dict.pd.held k = status :: image ∧ v = counted (applyEntries image (mapEntries s 0x1062) 0 { s with dict := { s.dict with pd := { s.dict.pd with held := s.dict.pd.held.filter fun p => decide (k < p.1), lastBoundary := k, missed := 0, lastApplied := k % 2 ^ 32, fault := false, tapStale := false } } }) 0 0x0A 0 1 :=
  ⟨{ imaging with dict := { pd := { held := [(16000, [0])] } } }, 16000, 0, [], _, by decide +kernel, by decide +kernel, by decide +kernel, by decide +kernel, by decide +kernel, rfl⟩

theorem meets_rxImageApply_2 : ∃ (s : State) (k : Nat),
    imagesRun s = true ∧ s.num 0x1060 6 ≤ s.tai ∧ k = cycleCount s (s.num 0x1060 6) ∧ k ≠ s.dict.pd.lastBoundary ∧ AMap.get [] s.dict.pd.held k = [] :=
  ⟨imaging, _, by decide +kernel, by decide +kernel, rfl, by decide +kernel, by decide +kernel⟩

theorem meets_pdReceiveFault : ∃ (s : State),
    imagesRun s = true ∧ s.dict.pd.fault = false ∧ s.num 0x1060 7 ≤ s.dict.pd.missed :=
  ⟨{ imaging with dict := { pd := { missed := 10 } } }, by decide +kernel⟩

theorem meets_txImageSample : ∃ (taps : List (Nat × List Byte)) (s : State) (v : State) (k : Nat) (image : List Byte) (stale : Bool),
    imagesRun s = true ∧ s.num 0x1060 5 ≤ s.tai ∧ k = cycleCount s (s.num 0x1060 5) ∧ k ≠ s.dict.pd.lastTx ∧ sampleEntries taps (mapEntries s 0x1061) s = (v, image, stale) ∧ s.num 0x1060 11 = 0 :=
  ⟨[], imaging, imaging, _, [], false, by decide +kernel, by decide +kernel, rfl, by decide +kernel, rfl, by decide +kernel⟩

theorem meets_txImageSample_2 : ∃ (taps : List (Nat × List Byte)) (s : State) (v : State) (k : Nat) (image : List Byte) (stale : Bool),
    imagesRun s = true ∧ s.num 0x1060 5 ≤ s.tai ∧ k = cycleCount s (s.num 0x1060 5) ∧ k ≠ s.dict.pd.lastTx ∧ sampleEntries taps (mapEntries s 0x1061) s = (v, image, stale) ∧ s.num 0x1060 11 ≠ 0 ∧ AMap.get [] s.dict.keys 2 ≠ [] :=
  ⟨[], { imaging with obj := imaging.obj ++ [(objKey 0x1060 11, { val := [1] })], dict := { keys := [(2, key11)] } }, _, _, [], false, by decide +kernel, by decide +kernel, rfl, by decide +kernel, rfl, by decide +kernel, by decide +kernel⟩

theorem meets_tapForward : ∃ (tap : Nat) (s : State) (r : TapReq),
    nextAtTap s tap = some r ∧ tapsServed s = true ∧ hasCredit s (tapPacket tap) = true :=
  ⟨0, { tapped with dict := { taps := [{ tapRead with tap := 0 }] } }, { tapRead with tap := 0 }, by decide +kernel⟩

theorem meets_tapAnswer : ∃ (tap : Nat) (status : BitVec 32) (data : List Byte) (s : State) (r : TapReq),
    heldAtTap s tap = some r ∧ status = 0 ∧ r.write = false ∧ r.offset ≤ data.length :=
  ⟨3, 0, [1], { running with dict := { taps := [{ tapRead with forwardedAt := some 0 }] } }, { tapRead with forwardedAt := some 0 }, by decide +kernel⟩

theorem meets_tapAnswer_2 : ∃ (tap : Nat) (status : BitVec 32) (data : List Byte) (s : State) (r : TapReq),
    heldAtTap s tap = some r ∧ status = 0 ∧ r.write = true :=
  ⟨3, 0, [], { running with dict := { taps := [{ tapRead with write := true, forwardedAt := some 0 }] } }, { tapRead with write := true, forwardedAt := some 0 }, by decide +kernel⟩

theorem meets_tapTimeout : ∃ (tap : Nat) (s : State) (r : TapReq),
    heldAtTap s tap = some r ∧ s.elapsed (r.forwardedAt.getD s.now) 1000000 = true :=
  ⟨3, { running with dict := { taps := [{ tapRead with forwardedAt := some 0 }] } }, { tapRead with forwardedAt := some 0 }, by decide +kernel⟩

theorem meets_blockmemPortAccess : ∃ (u : UnitId) (a : Option BmPortIn) (b : Option BmPortIn) (unordered : Bool) (flips : BitVec 72) (s : State),
    (a.isSome = true ∨ b.isSome = true) ∧ ((a.isSome = true → portTakes s u false = true)) ∧ ((b.isSome = true → portTakes s u true = true)) :=
  ⟨⟨0, 0, 0⟩, some ⟨true, 0, 5, 0, false, false⟩, none, false, 0, blocked, by decide +kernel, fun _ => by decide +kernel, fun h => nomatch h⟩

theorem meets_arithAccumulate : ∃ (u : SliceId) (i : ArithIn) (s : State) (cfg : Nat),
    cfg = s.settingsNow u.sector.val u.cluster.val u.unit.val 3 ∧ unitClocked s (field cfg 11 9) u.sector.val = true ∧ s.edgeDone (.slice (sliceNum u)) = false :=
  ⟨⟨0, 0, 0⟩, ⟨0, 0, 0, false, false, true, false⟩, teamed, _, rfl, by decide +kernel, by decide +kernel⟩

theorem meets_fqueueUpdate : ∃ (u : UnitId) (i : FqIn) (s : State),
    unitClocked s (field (s.settingsNow u.sector.val u.cluster.val u.unit.val 4) 2 0) u.sector.val = true ∧ s.edgeDone (.queue (unitNum u)) = false :=
  ⟨⟨0, 0, 0⟩, ⟨false, 0, false, false, false, false, false⟩, teamed, by decide +kernel⟩

theorem meets_fabricClockEdge : ∃ (clk : Fin 8) (s : State) (u : State) (gs : List Nat) (cs : List Nat),
    u = s.opened.edgeTaken (.clock clk.val true) ∧ clockEdge s clk.val true = true ∧ s.edgeDone (.clock clk.val true) = false ∧ gs = edgeSectors u clk.val ∧ cs = gs.filter (fun g => s.boot.srReleased && decide (s.activePlane g = u.outgoing.activePlane g)) :=
  ⟨0, teamed, _, _, _, rfl, by decide +kernel, by decide +kernel, rfl, rfl⟩

theorem meets_fabricClockEdge_2 : ∃ (clk : Fin 8) (s : State) (u : State) (cs : List Nat),
    u = s.opened.edgeTaken (.clock clk.val false) ∧ clockEdge s clk.val true = false ∧ clockEdge s clk.val false = true ∧ s.edgeDone (.clock clk.val false) = false ∧ cs = (edgeSectors u clk.val).filter (fun g => s.boot.srReleased && decide (s.activePlane g = u.outgoing.activePlane g)) :=
  ⟨0, { teamed with clk := { teamed.clk with roots := teamed.clk.roots + teamed.clockN 0 / 2 } }, _, _, rfl, by decide +kernel, by decide +kernel, by decide +kernel, rfl⟩

theorem meets_fabMemReadCommand : ∃ (v : Byte) (s : State) (e : Env) (s1 : State) (who : Requester), WriteGoes s e false (wholeWrite 0x6340 2 [v]) actFabMemRead s1 who :=
  ⟨1, { running with power := { mode := .service, domain := [(0, 2)] } }, _, _, _, writeGoes_signed (by decide +kernel)⟩

theorem meets_fabMemReadDone : ∃ (s : State),
    s.fab.readStatus = 1 :=
  ⟨{ running with fab := { readStatus := 1 } }, by decide +kernel⟩

theorem meets_fabMemReadDone_2 : ∃ (s : State) (n : Nat),
    s.fab.readStatus = 1 ∧ n = (field s.fab.readTarget 31 26 * 64 + field s.fab.readTarget 25 20) * 4 + field s.fab.readTarget 18 17 :=
  ⟨{ running with fab := { readStatus := 1 } }, 0, by decide +kernel⟩

theorem meets_fabFclkWrite : ∃ (n : Fin 8) (v : Byte) (s : State) (e : Env) (s1 : State) (who : Requester), WriteGoes s e false (wholeWrite 0x6310 (n.val + 1) [v]) (actFclk n.val) s1 who :=
  ⟨3, 2, running, _, _, _, writeGoes_signed (by decide +kernel)⟩

theorem meets_fclkDivisorChange : ∃ (n : Fin 8) (s : State),
    s.atBoundary = true ∧ AMap.get 0 s.clk.next n.val ≠ 0 :=
  ⟨0, { running with clk := { next := [(0, 3)] } }, by decide +kernel⟩

theorem meets_delayLineStep : ∃ (line : Nat) (s : State),
    s.atBoundary = true ∧ (AMap.get {} s.test.lines line : DelayLine).movedAt ≠ some s.now :=
  ⟨0, running, by decide +kernel⟩

theorem meets_baseportTransaction : ∃ (sector : Fin 48) (cluster : Fin 64) (ws : List U32) (s : State) (b : State) (k : Nat),
    portMoves s.outgoing sector.val cluster.val = true ∧ fenceHolds s.outgoing sector.val cluster.val = false ∧ portTakesEdge s sector.val cluster.val = true ∧ k = field (ws.getD 0 0).toNat 31 28 ∧ b = State.outgoing (s.opened.edgeTaken (.base (sector.val * 64 + cluster.val))) ∧ (k = 1 ∨ k = 2) :=
  ⟨0, 0, [0x10000000], ported, _, 1, by decide +kernel, by decide +kernel, by decide +kernel, by decide +kernel, rfl, by decide +kernel⟩

theorem meets_baseportTransaction_2 : ∃ (sector : Fin 48) (cluster : Fin 64) (ws : List U32) (s : State) (b : State) (k : Nat),
    portMoves s.outgoing sector.val cluster.val = true ∧ fenceHolds s.outgoing sector.val cluster.val = false ∧ portTakesEdge s sector.val cluster.val = true ∧ k = field (ws.getD 0 0).toNat 31 28 ∧ b = State.outgoing (s.opened.edgeTaken (.base (sector.val * 64 + cluster.val))) ∧ (k = 3 ∨ k = 4) :=
  ⟨0, 0, [0x30000000], ported, _, 3, by decide +kernel, by decide +kernel, by decide +kernel, by decide +kernel, rfl, by decide +kernel⟩

theorem meets_switchAtTime : ∃ (team : Byte) (plane : Byte) (check : Byte) (time : U64) (s : State) (e : Env) (s1 : State) (who : Requester), WriteGoes s e false (wholeWrite 0x6220 1 (switchRequest team 1 plane check time.toNat)) actSwitch s1 who :=
  ⟨0, 1, 0xFE, 100000000000, teamed, _, _, _, writeGoes_signed (by decide +kernel)⟩

theorem meets_stagePlane : ∃ (team : Byte) (plane : Byte) (check : Byte) (s : State) (e : Env) (s1 : State) (who : Requester), WriteGoes s e false (wholeWrite 0x6220 1 (switchRequest team 2 plane check 0)) actSwitch s1 who :=
  ⟨0, 1, 0xFE, teamed, _, _, _, writeGoes_signed (by decide +kernel)⟩

theorem meets_unstage : ∃ (team : Byte) (plane : Byte) (check : Byte) (s : State) (e : Env) (s1 : State) (who : Requester), WriteGoes s e false (wholeWrite 0x6220 1 (switchRequest team 3 plane check 0)) actSwitch s1 who :=
  ⟨0, 0, 0xFF, { teamed with planes := [(0, { state := .active }), (1, { state := .staged })] }, _, _, _, writeGoes_signed (by decide +kernel)⟩

theorem meets_cancelPendingSwitch : ∃ (team : Byte) (plane : Byte) (check : Byte) (s : State) (e : Env) (s1 : State) (who : Requester), WriteGoes s e false (wholeWrite 0x6220 1 (switchRequest team 4 plane check 0)) actSwitch s1 who ∧ (s1.team 0).pending.isSome = true :=
  ⟨0, 0, 0xFF, switching, _, _, _, writeGoes_signed (by decide +kernel), by decide +kernel⟩

theorem meets_fallBackNow : ∃ (team : Byte) (plane : Byte) (check : Byte) (s : State) (e : Env) (s1 : State) (who : Requester), WriteGoes s e false (wholeWrite 0x6220 1 (switchRequest team 5 plane check 0)) actSwitch s1 who :=
  ⟨0, 0, 0xFF, teamed, _, _, _, writeGoes_signed (by decide +kernel)⟩

theorem meets_releaseHold : ∃ (team : Byte) (plane : Byte) (check : Byte) (s : State) (e : Env) (s1 : State) (who : Requester), WriteGoes s e false (wholeWrite 0x6220 1 (switchRequest team 6 plane check 0)) actSwitch s1 who :=
  ⟨0, 0, 0xFF, { running with teams := [(0, { goodMembers := 1, goodLeader := 0, held := true })] }, _, _, _, writeGoes_signed (by decide +kernel)⟩

theorem meets_stagingStart : ∃ (tower : Fin 4) (s : State) (op : StageOp) (rest : List StageOp),
    (s.engine tower.val).cur = none ∧ (s.engine tower.val).waiting = op :: rest ∧ ((op.fallback = true ∨ fallbackHolds s [tower.val] = false)) :=
  ⟨0, { teamed with stage := [(0, { waiting := [staging1] })] }, staging1, [], by decide +kernel⟩

theorem meets_stagingComplete : ∃ (tower : Fin 4) (s : State) (op : StageOp),
    (s.engine tower.val).cur = some op :=
  ⟨0, { teamed with stage := [(0, { cur := some staging1 })] }, staging1, by decide +kernel⟩

theorem meets_reinRequest : ∃ (sector : Fin 48) (plane : Fin 8) (s : State) (u : State) (n : Nat),
    s.teamOf sector.val = some n ∧ (s.team n).goodLeader = sector.val ∧ s.mode ≠ .hold ∧ switchMode s = true ∧ u = teamUsed s n ∧ reinRefusal u n plane.val = none :=
  ⟨0, 1, { teamed with planes := [(0, { state := .active }), (1, { state := .staged })] }, _, 0, by decide +kernel, by decide +kernel, by decide +kernel, by decide +kernel, rfl, by decide +kernel⟩

theorem meets_reinRequest_2 : ∃ (sector : Fin 48) (plane : Fin 8) (s : State) (u : State) (n : Nat) (r : _),
    s.teamOf sector.val = some n ∧ (s.team n).goodLeader = sector.val ∧ s.mode ≠ .hold ∧ switchMode s = true ∧ u = teamUsed s n ∧ reinRefusal u n plane.val = some r :=
  ⟨0, 5, { teamed with planes := [(0, { state := .active }), (1, { state := .staged })] }, _, 0, 1, by decide +kernel, by decide +kernel, by decide +kernel, by decide +kernel, rfl, by decide +kernel⟩

theorem meets_switchEdge : ∃ (team : Fin 16) (s : State) (u : State) (p : Pending) (r : Nat),
    u = tryGrant (teamUsed s team.val) team.val ∧ (u.team team.val).fallback = none ∧ (u.team team.val).pending = some p ∧ p.edge = some r ∧ r ≤ u.now ∧ u.mode ≠ .hold :=
  ⟨0, { teamed with teams := [(0, { goodMembers := 1, goodLeader := 0, pending := some { trigger := 0, plane := 1, edge := some 1000 } })] }, _, { trigger := 0, plane := 1, edge := some 1000 }, 1000, rfl, by decide +kernel, by decide +kernel, by decide +kernel, by decide +kernel, by decide +kernel⟩

theorem meets_switchEdge_2 : ∃ (team : Fin 16) (s : State) (u : State) (f : Fallback) (r : Nat),
    u = tryGrant (teamUsed s team.val) team.val ∧ (u.team team.val).fallback = some f ∧ f.edge = some r ∧ r ≤ u.now :=
  ⟨0, { teamed with teams := [(0, { goodMembers := 1, goodLeader := 0, fallback := some { cause := 1, at_ := 0, edge := some 1000 } })] }, _, { cause := 1, at_ := 0, edge := some 1000 }, 1000, rfl, by decide +kernel, by decide +kernel, by decide +kernel⟩

theorem meets_fenceTimeout : ∃ (team : Fin 16) (s : State) (p : Pending) (d : Nat),
    (s.team team.val).pending = some p ∧ p.edge = none ∧ p.fenceDone = false ∧ fencedBusy s team.val ≠ [] ∧ p.drainAt = some d ∧ d ≤ s.now ∧ s.elapsed d (s.num (0x6210 + team.val) 6) = true :=
  ⟨0, { ported with teams := [(0, { goodMembers := 1, goodLeader := 0, pending := some { trigger := 0, plane := 1, drainAt := some 0 } })], noc := { open_ := [fencedPkt] } }, { trigger := 0, plane := 1, drainAt := some 0 }, 0, by decide +kernel⟩

theorem meets_fallbackTrigger : ∃ (team : Fin 16) (cause : Fin 6) (s : State) (u : State),
    cause ≠ 0 ∧ u = usePair s (0x6210 + team.val) 5 ∧ causeEnabled u team.val cause.val = true :=
  ⟨0, 1, teamed, _, by decide +kernel, rfl, by decide +kernel⟩

theorem meets_fallbackTrigger_2 : ∃ (team : Fin 16) (cause : Fin 6) (s : State) (u : State),
    cause ≠ 0 ∧ u = usePair s (0x6210 + team.val) 5 ∧ causeEnabled u team.val cause.val = false :=
  ⟨0, 4, teamed, _, by decide +kernel, rfl, by decide +kernel⟩

theorem meets_teamSettingWrite : ∃ (team : Fin 16) (setting : Fin 3) (v : Byte) (c : Byte) (s : State) (e : Env) (s1 : State) (who : Requester), WriteGoes s e true (pairWrite (0x6210 + team.val) (setting.val + 2) [v] [c]) (actTeamSetting team.val (setting.val + 2)) s1 who :=
  ⟨0, 0, 2, ~~~2, running, _, _, _, writeGoes_signed (by decide +kernel)⟩

theorem meets_planeClear : ∃ (v : U64) (s : State) (e : Env) (s1 : State) (who : Requester), WriteGoes s e false (wholeWrite 0x6230 1 (u64 v.toNat)) actPlaneClear s1 who :=
  ⟨0x0100000000000001, running, _, _, _, writeGoes_signed (by decide +kernel)⟩

theorem meets_captureArm : ∃ (s : State) (e : Env) (s1 : State) (who : Requester), WriteGoes s e false (wholeWrite 0x6350 5 [1]) actCapture s1 who ∧ s1.num 0x6350 3 ≠ 1 :=
  ⟨captured, _, _, _, writeGoes_signed (by decide +kernel), by decide +kernel⟩

theorem meets_captureDisarm : ∃ (s : State) (e : Env) (s1 : State) (who : Requester), WriteGoes s e false (wholeWrite 0x6350 5 [2]) actCapture s1 who :=
  ⟨{ captured with cap := { state := 1 } }, _, _, _, writeGoes_signed (by decide +kernel)⟩

theorem meets_captureRelease : ∃ (s : State) (e : Env) (s1 : State) (who : Requester), WriteGoes s e false (wholeWrite 0x6350 5 [3]) actCapture s1 who :=
  ⟨{ captured with cap := { state := 3 } }, _, _, _, writeGoes_signed (by decide +kernel)⟩

theorem meets_captureTrigger : ∃ (sector : Fin 48) (s : State),
    s.cap.sectors.getLsbD sector.val = true ∧ s.cap.state = 1 ∧ s.cap.trigger = 2 ∧ s.cap.edge = none ∧ s.mode ≠ .hold :=
  ⟨0, { teamed with cap := { state := 1, sectors := 1, trigger := 2 } }, by decide +kernel⟩

theorem meets_captureTrigger_2 : ∃ (sector : Fin 48) (s : State),
    s.cap.sectors.getLsbD sector.val = true ∧ (s.cap.state = 2 ∨ s.cap.state = 3) :=
  ⟨0, { teamed with cap := { state := 2, sectors := 1, trigger := 2 } }, by decide +kernel⟩

theorem meets_captureEdge : ∃ (routed : List (FfId × Bool)) (s : State) (r : Nat),
    s.cap.edge = some r ∧ s.cap.state = 1 ∧ r ≤ s.now ∧ s.mode ≠ .hold :=
  ⟨[], { teamed with cap := { state := 1, sectors := 1, edge := some 1000 } }, 1000, by decide +kernel⟩

theorem meets_captureCopyDone : ∃ (s : State),
    s.cap.state = 2 :=
  ⟨{ teamed with cap := { state := 2, sectors := 1 } }, by decide +kernel⟩

theorem meets_chunkVerified : ∃ (chunk : List Byte) (c : List Byte) (s : State) (s1 : State) (st : Stream) (st1 : Stream),
    s.loader.cur = some st ∧ st.chunk < hdrChunks st.header ∧ ((hdrRolled st.header = true → st.chunk = 0 ∨ st.rolled.isSome = true)) ∧ st1 = (match st.rolled with | some k => { st with key := k.1, nonce := k.2, rolled := none } | none => st) ∧ readSource s st.src (512 + 16 * hdrChunks st.header + 65536 * st.chunk) (chunkSize st.header st.chunk) chunk = (s1, .bytes c) ∧ chunkTagOk st1 st.chunk c = true ∧ rollRule st1 st.chunk (st.payload ++ chunkText st1 st.chunk c) = true :=
  ⟨[], endOnly, { fed with loader := { cur := some { streamOf 1 0 endOnly with chunk := 0, payload := [], tags := (Crypto.sha384 endOnly).take 16 }, feedBuf := endOnly } }, _, { streamOf 1 0 endOnly with chunk := 0, payload := [], tags := (Crypto.sha384 endOnly).take 16 }, _, by decide +kernel, by decide +kernel, by decide +kernel, rfl, pairOf (by decide +kernel), by decide +kernel, by decide +kernel⟩

theorem meets_unknownOpcode : ∃ (s : State) (st : Stream) (op : Nat) (len : Nat) (d : List Byte),
    nextPacket s = some (st, op, len, d) ∧ (¬ (1 ≤ op ∧ op ≤ 13)) :=
  ⟨loading 1 0 (packet 32 ([])), streamOf 1 0 (packet 32 ([])), 0x20, 0, [], by decide +kernel⟩

theorem meets_endPacket : ∃ (s : State) (st : Stream) (d : List Byte),
    nextPacket s = some (st, 0x0D, 8, d) ∧ st.cursor + 16 = hdrPayload st.header ∧ natAt d 0 4 = st.packets ∧ ((∀ kv ∈ st.sel, kv.2 ≠ 1)) ∧ hdrSealed st.header = false :=
  ⟨{ running with loader := { cur := some { streamOf 1 0 endOnly with sel := [] } } }, { streamOf 1 0 endOnly with sel := [] }, zeros 8, by decide +kernel⟩

theorem meets_endPacket_2 : ∃ (s : State) (s1 : State) (st : Stream) (d : List Byte),
    nextPacket s = some (st, 0x0D, 8, d) ∧ st.cursor + 16 = hdrPayload st.header ∧ natAt d 0 4 = st.packets ∧ ((∀ kv ∈ st.sel, kv.2 ≠ 1)) ∧ hdrSealed st.header = true ∧ sealedHash s (Crypto.sha256 st.payload) = (s1, true) :=
  ⟨{ running with loader := { cur := some { streamOf 3 0 endOnly with sel := [] } }, sealed := { streamHash := Crypto.sha256 endOnly } }, _, { streamOf 3 0 endOnly with sel := [] }, zeros 8, by decide +kernel, by decide +kernel, by decide +kernel, by decide +kernel, by decide +kernel, pairOf (by decide +kernel)⟩

theorem meets_selectPlane : ∃ (s : State) (u : State) (st : Stream) (len : Nat) (d : List Byte),
    PacketGoes s 1 st len d ∧ u = useOwners s ∧ natAt d 0 1 ≤ 7 ∧ natAt d 4 8 < 2 ^ 48 ∧ selectCheck u st (natAt d 0 1) (maskSectors (natAt d 4 8)) = none :=
  ⟨loading 1 0 (packet 1 ([0, 0, 0, 0] ++ u64 1)), useOwners (loading 1 0 (packet 1 ([0, 0, 0, 0] ++ u64 1))), streamOf 1 0 (packet 1 ([0, 0, 0, 0] ++ u64 1)), 12, [0, 0, 0, 0] ++ u64 1, ⟨by decide +kernel, by decide +kernel, by decide +kernel, by decide +kernel⟩, rfl, by decide +kernel, by decide +kernel, by decide +kernel⟩

theorem meets_writeFrames : ∃ (s : State) (u : State) (s1 : State) (st : Stream) (len : Nat) (d : List Byte),
    PacketGoes s 2 st len d ∧ u = useOwners s ∧ writeFrames u (natAt d 0 4) (natAt d 4 4) (d.drop 8) = done s1 :=
  ⟨loading 1 0 (packet 2 (u32 (frameAddr 1 0 0 0 6) ++ u32 1 ++ u32 0x11)), useOwners (loading 1 0 (packet 2 (u32 (frameAddr 1 0 0 0 6) ++ u32 1 ++ u32 0x11))), _, streamOf 1 0 (packet 2 (u32 (frameAddr 1 0 0 0 6) ++ u32 1 ++ u32 0x11)), 12, u32 (frameAddr 1 0 0 0 6) ++ u32 1 ++ u32 0x11, ⟨by decide +kernel, by decide +kernel, by decide +kernel, by decide +kernel⟩, rfl, pairOf (by decide +kernel)⟩

theorem meets_writeFramesZr : ∃ (s : State) (u : State) (s1 : State) (st : Stream) (len : Nat) (d : List Byte) (bs : List Byte),
    PacketGoes s 3 st len d ∧ u = useOwners s ∧ expandRuns d.length (d.drop 12) = some bs ∧ bs.length = natAt d 4 4 * frameSize (addrType (natAt d 0 4)) ∧ writeFrames u (natAt d 0 4) (natAt d 4 4) bs = done s1 :=
  ⟨loading 1 0 (packet 3 (u32 (frameAddr 1 0 0 0 6) ++ u32 1 ++ u32 5 ++ [0x03, 0x11, 0, 0, 0])), useOwners (loading 1 0 (packet 3 (u32 (frameAddr 1 0 0 0 6) ++ u32 1 ++ u32 5 ++ [0x03, 0x11, 0, 0, 0]))), _, streamOf 1 0 (packet 3 (u32 (frameAddr 1 0 0 0 6) ++ u32 1 ++ u32 5 ++ [0x03, 0x11, 0, 0, 0])), 17, u32 (frameAddr 1 0 0 0 6) ++ u32 1 ++ u32 5 ++ [0x03, 0x11, 0, 0, 0], [0x11, 0, 0, 0], ⟨by decide +kernel, by decide +kernel, by decide +kernel, by decide +kernel⟩, rfl, by decide +kernel, by decide +kernel, pairOf (by decide +kernel)⟩

theorem meets_initBlockmem : ∃ (s : State) (u : State) (s1 : State) (st : Stream) (len : Nat) (d : List Byte),
    PacketGoes s 4 st len d ∧ u = useOwners s ∧ 1 ≤ natAt d 6 2 ∧ natAt d 6 2 ≤ 512 ∧ natAt d 4 2 + natAt d 6 2 ≤ 512 ∧ wordCheck u st (natAt d 0 4) = none ∧ putWords u (natAt d 0 4) (natAt d 4 2 + st.words) ((List.range (wordsNow u (natAt d 6 2 - st.words))).map fun k => bytesAt d (8 + 9 * (st.words + k)) 9) = done s1 :=
  ⟨{ loading 1 0 (packet 4 (u32 (frameAddr 1 0 0 0 2) ++ u16 511 ++ u16 1 ++ [1, 2, 3, 4, 5, 6, 7, 8, 9])) with boot := { running.boot with writesEnabled := false } }, useOwners ({ loading 1 0 (packet 4 (u32 (frameAddr 1 0 0 0 2) ++ u16 511 ++ u16 1 ++ [1, 2, 3, 4, 5, 6, 7, 8, 9])) with boot := { running.boot with writesEnabled := false } }), _, streamOf 1 0 (packet 4 (u32 (frameAddr 1 0 0 0 2) ++ u16 511 ++ u16 1 ++ [1, 2, 3, 4, 5, 6, 7, 8, 9])), 17, u32 (frameAddr 1 0 0 0 2) ++ u16 511 ++ u16 1 ++ [1, 2, 3, 4, 5, 6, 7, 8, 9], ⟨by decide +kernel, by decide +kernel, by decide +kernel, by decide +kernel⟩, rfl, by decide +kernel, by decide +kernel, by decide +kernel, by decide +kernel, pairOf (by decide +kernel)⟩

theorem meets_initState : ∃ (s : State) (u : State) (s1 : State) (st : Stream) (len : Nat) (d : List Byte),
    PacketGoes s 5 st len d ∧ u = useOwners s ∧ addrType (natAt d 0 4) = 1 ∧ addrOk (natAt d 0 4) = true ∧ withinSector (natAt d 0 4) (natAt d 4 4) = true ∧ putStates u (natAt d 0 4) 0 ((List.range (natAt d 4 4)).map fun k => bytesAt d (8 + 4 * k) 4) = done s1 :=
  ⟨loading 1 0 (packet 5 (u32 (frameAddr 1 0 0 0 1) ++ u32 1 ++ u32 0x80000001)), useOwners (loading 1 0 (packet 5 (u32 (frameAddr 1 0 0 0 1) ++ u32 1 ++ u32 0x80000001))), _, streamOf 1 0 (packet 5 (u32 (frameAddr 1 0 0 0 1) ++ u32 1 ++ u32 0x80000001)), 12, u32 (frameAddr 1 0 0 0 1) ++ u32 1 ++ u32 0x80000001, ⟨by decide +kernel, by decide +kernel, by decide +kernel, by decide +kernel⟩, rfl, by decide +kernel, by decide +kernel, by decide +kernel, pairOf (by decide +kernel)⟩

theorem meets_setTeam : ∃ (s : State) (u : State) (s1 : State) (st : Stream) (len : Nat) (d : List Byte),
    PacketGoes s 6 st len d ∧ u = useOwners s ∧ bytesAt d 20 20 = complBytes (d.take 20) ∧ natAt d 0 1 ≤ 15 ∧ (hdrStartup st.header = true ∨ (∀ g ∈ maskSectors (natAt d 8 8), bit (hdrSectors st.header) g = true ∧ ownerOf u g = hdrOwner st.header)) ∧ loaderWrites (0x6210 + natAt d 0 1) (teamWrites (natAt d 0 1) d) u = (s1, 0) :=
  ⟨{ loading 1 0 (packet 6 ([1, 2, 0, 0, 0, 0, 0, 0] ++ u64 1 ++ u32 100 ++ complBytes ([1, 2, 0, 0, 0, 0, 0, 0] ++ u64 1 ++ u32 100))) with boot := { running.boot with activated := false } }, useOwners ({ loading 1 0 (packet 6 ([1, 2, 0, 0, 0, 0, 0, 0] ++ u64 1 ++ u32 100 ++ complBytes ([1, 2, 0, 0, 0, 0, 0, 0] ++ u64 1 ++ u32 100))) with boot := { running.boot with activated := false } }), _, streamOf 1 0 (packet 6 ([1, 2, 0, 0, 0, 0, 0, 0] ++ u64 1 ++ u32 100 ++ complBytes ([1, 2, 0, 0, 0, 0, 0, 0] ++ u64 1 ++ u32 100))), 40, [1, 2, 0, 0, 0, 0, 0, 0] ++ u64 1 ++ u32 100 ++ complBytes ([1, 2, 0, 0, 0, 0, 0, 0] ++ u64 1 ++ u32 100), ⟨by decide +kernel, by decide +kernel, by decide +kernel, by decide +kernel⟩, rfl, by decide +kernel, by decide +kernel, by decide +kernel, pairOf (by decide +kernel)⟩

theorem meets_setStartupOrder : ∃ (s : State) (u : State) (s1 : State) (st : Stream) (len : Nat) (d : List Byte),
    PacketGoes s 7 st len d ∧ u = useOwners s ∧ loaderWrite u 0x6110 1 d actStartupOrder = (s1, 0) :=
  ⟨loading 1 0 (packet 7 ([1, 2, 3, 4].flatMap fun (k : Nat) => u8 k ++ zeros 3 ++ u32 0)), useOwners (loading 1 0 (packet 7 ([1, 2, 3, 4].flatMap fun (k : Nat) => u8 k ++ zeros 3 ++ u32 0))), _, streamOf 1 0 (packet 7 ([1, 2, 3, 4].flatMap fun (k : Nat) => u8 k ++ zeros 3 ++ u32 0)), 32, [1, 2, 3, 4].flatMap fun (k : Nat) => u8 k ++ zeros 3 ++ u32 0, ⟨by decide +kernel, by decide +kernel, by decide +kernel, by decide +kernel⟩, rfl, pairOf (by decide +kernel)⟩

theorem meets_checkCrc : ∃ (s : State) (st : Stream) (len : Nat) (d : List Byte),
    PacketGoes s 8 st len d ∧ Crypto.crc32c (bytesAt st.payload st.crcFrom (st.cursor - st.crcFrom)) = natAt d 0 4 :=
  ⟨loading 1 0 (packet 8 (u32 (Crypto.crc32c []))), streamOf 1 0 (packet 8 (u32 (Crypto.crc32c []))), 4, u32 (Crypto.crc32c []), ⟨by decide +kernel, by decide +kernel, by decide +kernel, by decide +kernel⟩, by decide +kernel⟩

theorem meets_keyRoll : ∃ (s : State) (st : Stream) (len : Nat) (d : List Byte),
    PacketGoes s 9 st len d :=
  ⟨loading 1 17 (packet 9 (List.replicate 48 7)), streamOf 1 17 (packet 9 (List.replicate 48 7)), 48, List.replicate 48 7, ⟨by decide +kernel, by decide +kernel, by decide +kernel, by decide +kernel⟩⟩

theorem meets_forwardToChain : ∃ (follow : List Byte) (s : State) (st : Stream) (len : Nat) (d : List Byte),
    PacketGoes s 10 st len d ∧ 1 ≤ natAt d 0 1 ∧ natAt d 0 1 ≤ 15 ∧ (s.link false).up = true :=
  ⟨[8, 9], loading 1 0 (packet 10 ([1, 0, 0, 0, 0, 0, 0, 0] ++ u64 2)), streamOf 1 0 (packet 10 ([1, 0, 0, 0, 0, 0, 0, 0] ++ u64 2)), 16, [1, 0, 0, 0, 0, 0, 0, 0] ++ u64 2, ⟨by decide +kernel, by decide +kernel, by decide +kernel, by decide +kernel⟩, by decide +kernel, by decide +kernel, by decide +kernel⟩

theorem meets_setObjectDefault : ∃ (s : State) (u : State) (s1 : State) (st : Stream) (len : Nat) (d : List Byte),
    PacketGoes s 11 st len d ∧ u = useOwners s ∧ defaultWrite u d = (s1, 0) :=
  ⟨loading 1 0 (packet 11 (u16 0x6400 ++ [2, 0x07, 0, 0, 0, 0] ++ u32 4 ++ u32 2000)), useOwners (loading 1 0 (packet 11 (u16 0x6400 ++ [2, 0x07, 0, 0, 0, 0] ++ u32 4 ++ u32 2000))), _, streamOf 1 0 (packet 11 (u16 0x6400 ++ [2, 0x07, 0, 0, 0, 0] ++ u32 4 ++ u32 2000)), 16, u16 0x6400 ++ [2, 0x07, 0, 0, 0, 0] ++ u32 4 ++ u32 2000, ⟨by decide +kernel, by decide +kernel, by decide +kernel, by decide +kernel⟩, rfl, pairOf (by decide +kernel)⟩

theorem meets_markValid : ∃ (s : State) (u : State) (s1 : State) (st : Stream) (len : Nat) (d : List Byte),
    PacketGoes s 12 st len d ∧ u = useOwners s ∧ natAt d 0 1 ≤ 7 ∧ natAt d 4 8 < 2 ^ 48 ∧ markSectors (natAt d 0 1) (natAt d 4 8) (bit (natAt d 1 1) 0) ((maskSectors (natAt d 4 8)).zip ((List.range (maskSectors (natAt d 4 8)).length).map fun i => natAt d (12 + 4 * i) 4)) u = done s1 :=
  ⟨loading 1 0 (packet 12 ([1, 0, 0, 0] ++ u64 0)), useOwners (loading 1 0 (packet 12 ([1, 0, 0, 0] ++ u64 0))), _, streamOf 1 0 (packet 12 ([1, 0, 0, 0] ++ u64 0)), 12, [1, 0, 0, 0] ++ u64 0, ⟨by decide +kernel, by decide +kernel, by decide +kernel, by decide +kernel⟩, rfl, by decide +kernel, by decide +kernel, pairOf (by decide +kernel)⟩

theorem meets_bbramErase : ∃ (v : Byte) (s : State) (e : Env) (s1 : State) (who : Requester), WriteGoes s e false (wholeWrite 0x6160 4 [v]) actBbramErase s1 who :=
  ⟨1, running, _, _, _, writeGoes_signed (by decide +kernel)⟩

theorem meets_fuseLockPlain : ∃ (s : State) (e : Env) (s1 : State) (who : Requester), WriteGoes s e false (wholeWrite 0x6160 7 [1]) actFuseLock s1 who :=
  ⟨running, _, _, _, writeGoes_signed (by decide +kernel)⟩

theorem meets_fuseLockEfuseOnly : ∃ (s : State) (e : Env) (s1 : State) (who : Requester), WriteGoes s e false (wholeWrite 0x6160 7 [2]) actFuseLock s1 who :=
  ⟨running, _, _, _, writeGoes_signed (by decide +kernel)⟩

theorem meets_keyProg : ∃ (battery : Bool) (key : List Byte) (check : List Byte) (s : State),
    jtagOpen s = true ∧ s.mode = .startUp ∧ key.length = 32 ∧ checkValue key = check ∧ (battery = true ∨ s.fuses.efuseKey = []) :=
  ⟨true, key11, checkValue key11, starting 5, by decide +kernel⟩

theorem meets_tamperN : ∃ (widthNs : Nat) (s : State),
    1000 ≤ widthNs :=
  ⟨1000, running, by decide +kernel⟩

theorem meets_ownershipWrite : ∃ (sector : Fin 48) (v : Byte) (c : Byte) (s : State) (e : Env) (s1 : State) (who : Requester), WriteGoes s e true (pairWrite 0x6150 (sector.val + 1) [v] [c]) (actOwnership sector.val) s1 who :=
  ⟨0, 1, ~~~1, running, _, _, _, writeGoes_signed (by decide +kernel)⟩

theorem meets_ownerKeyWrite : ∃ (owner : Fin 8) (hash : List Byte) (s : State) (e : Env) (s1 : State) (who : Requester), WriteGoes s e false (wholeWrite 0x6151 (owner.val + 1) hash) (actOwnerKey owner.val) s1 who :=
  ⟨1, List.replicate 48 7, running, _, _, _, writeGoes_signed (by decide +kernel)⟩

theorem meets_porstN : ∃ (straps : Straps) (s : State),
    s.boot.porstLow = true :=
  ⟨⟨0, false, []⟩, State.reset, by decide +kernel⟩

theorem meets_vauxVinCoreReached : ∃ (vaux : Nat) (vin : Nat) (s : State),
    1710 ≤ vaux ∧ vaux ≤ 2100 ∧ 1746 ≤ vin ∧ vin ≤ 2100 :=
  ⟨1710, 1746, State.reset, by decide, by decide, by decide, by decide⟩

theorem meets_sysrstN : ∃ (widthNs : Nat) (s : State),
    1000 ≤ widthNs ∧ s.mode = .startUp ∧ s.boot.phase ≠ 0 ∧ s.boot.phase < 4 :=
  ⟨1000, starting 1, by decide +kernel⟩

theorem meets_sysrstN_2 : ∃ (widthNs : Nat) (s : State),
    1000 ≤ widthNs ∧ ((s.mode = .startUp → 4 ≤ s.boot.phase)) ∧ ((s.mode = .safeStop → s.power.lastCause < 6)) :=
  ⟨1000, running, by decide +kernel⟩

theorem meets_sysrstNRelease : ∃ (s : State),
    s.boot.sysHeld = true :=
  ⟨{ running with boot := { running.boot with sysHeld := true } }, by decide +kernel⟩

theorem meets_fuseLoadDone : ∃ (mv : List (BitVec 16)) (s : State),
    atPhase s 1 = true :=
  ⟨[], starting 1, by decide +kernel⟩

theorem meets_fuseLoadDone_2 : ∃ (critical : Fin 4) (mv : List (BitVec 16)) (s : State),
    atPhase s 1 = true ∧ critical ≠ 0 :=
  ⟨2, [], starting 1, by decide +kernel⟩

theorem meets_bistStart : ∃ (ppm : Int) (s : State),
    atPhase s 2 = true ∧ s.boot.bistRunning = false ∧ s.boot.strapBist = true :=
  ⟨0, { starting 2 with boot := { (starting 2).boot with strapBist := true } }, by decide +kernel⟩

theorem meets_bistStart_2 : ∃ (ppm : Int) (s : State),
    atPhase s 2 = true ∧ s.boot.bistRunning = false ∧ s.boot.strapBist = false ∧ bistReady s ppm = true :=
  ⟨100, starting 2, by decide +kernel⟩

theorem meets_bistWaitTick : ∃ (ppm : Int) (s : State),
    atPhase s 2 = true ∧ s.boot.bistRunning = false ∧ s.boot.strapBist = false ∧ bistReady s ppm = false ∧ s.elapsed s.boot.bistTickAt 1000000000 = true :=
  ⟨101, starting 2, by decide +kernel⟩

theorem meets_bistDone : ∃ (critical : Fin 4) (fails : List FailUnit) (s : State),
    atPhase s 2 = true ∧ s.boot.bistRunning = true :=
  ⟨0, [], { starting 2 with boot := { (starting 2).boot with bistRunning := true } }, by decide +kernel⟩

theorem meets_repairDone : ∃ (s : State),
    atPhase s 3 = true :=
  ⟨starting 3, by decide +kernel⟩

theorem meets_calibrationDone : ∃ (runs : List CalRun) (answers : Bool) (octal : Bool) (flashId : BitVec 32) (d0 : List Byte) (d1 : List Byte) (s : State),
    atPhase s 4 = true ∧ s.boot.verifying = false ∧ (calibrateAll s runs 0).mode = .startUp :=
  ⟨[], true, true, 0, [], [], starting 4, by decide +kernel⟩

theorem meets_calibrationDone_2 : ∃ (runs : List CalRun) (answers : Bool) (octal : Bool) (flashId : BitVec 32) (d0 : List Byte) (d1 : List Byte) (s : State),
    atPhase s 4 = true ∧ s.boot.verifying = false ∧ (calibrateAll s runs 0).mode ≠ .startUp :=
  ⟨[⟨1, 4112, 20000, 0, 100, 50⟩, ⟨1, 4113, 20000, 0, 100, 50⟩], true, true, 0, [], [], starting 4, by decide +kernel⟩

theorem meets_startupVerifyDone : ∃ (cells : List (Fin 48 × Fin 8)) (s : State),
    atPhase s 4 = true ∧ s.boot.verifying = true :=
  ⟨[], { starting 4 with boot := { (starting 4).boot with verifying := true } }, by decide +kernel⟩

theorem meets_loadPhaseEnd : ∃ (s : State),
    atPhase s 5 = true ∧ sourceDone s = true :=
  ⟨{ starting 5 with boot := { (starting 5).boot with strapBoot := 2 }, loader := { result := { status := 0x0301 } }, chain := { lastOwnStatus := 0x0301 } }, by decide +kernel⟩

theorem meets_activation : ∃ (s : State),
    atPhase s 6 = true :=
  ⟨starting 6, by decide +kernel⟩

theorem meets_clockLock : ∃ (s : State),
    stepDue s 1 = true :=
  ⟨{ starting 7 with obj := [(objKey 0x6110 1, { val := [1, 2, 3, 4].flatMap fun (k : Nat) => u8 k ++ zeros 3 ++ u32 0 })], boot := { (starting 7).boot with progress := 0 } }, by decide +kernel⟩

theorem meets_releaseOutputs : ∃ (s : State),
    stepDue s 2 = true :=
  ⟨{ starting 7 with obj := [(objKey 0x6110 1, { val := [1, 2, 3, 4].flatMap fun (k : Nat) => u8 k ++ zeros 3 ++ u32 0 })], boot := { (starting 7).boot with progress := 1 } }, by decide +kernel⟩

theorem meets_releaseSetReset : ∃ (s : State),
    stepDue s 3 = true :=
  ⟨{ starting 7 with obj := [(objKey 0x6110 1, { val := [1, 2, 3, 4].flatMap fun (k : Nat) => u8 k ++ zeros 3 ++ u32 0 })], boot := { (starting 7).boot with progress := 2 } }, by decide +kernel⟩

theorem meets_enableWrites : ∃ (s : State),
    stepDue s 4 = true :=
  ⟨{ starting 7 with obj := [(objKey 0x6110 1, { val := [1, 2, 3, 4].flatMap fun (k : Nat) => u8 k ++ zeros 3 ++ u32 0 })], boot := { (starting 7).boot with progress := 3 } }, by decide +kernel⟩

theorem meets_startupOrderWrite : ∃ (data : List Byte) (s : State) (e : Env) (s1 : State) (who : Requester), WriteGoes s e false (wholeWrite 0x6110 1 data) actStartupOrder s1 who :=
  ⟨([1, 2, 3, 4].flatMap fun k => u8 k ++ zeros 3 ++ u32 0), { running with power := {}, boot := { running.boot with phase := 5, activated := false, outputsReleased := false, srReleased := false, writesEnabled := false } }, _, _, _, writeGoes_signed (by decide +kernel)⟩

theorem meets_hostFeedData : ∃ (data : List Byte) (s : State) (e : Env) (s1 : State) (who : Requester), WriteGoes s e false (wholeWrite 0x6101 1 data) actHostFeed s1 who :=
  ⟨[1, 2, 3, 4], { running with power := {}, boot := { running.boot with phase := 5, strapBoot := 2, writesEnabled := false } }, _, _, _, writeGoes_signed (by decide +kernel)⟩

theorem meets_libraryCopy : ∃ (images : List (List Byte)) (s : State),
    s.mode = .run ∧ s.loader.copyState = 0 ∧ s.loader.dirLibrary ≠ 0 ∧ s.num 0x6120 5 = 0xFF ∧ (images.map List.length).sum ≤ s.loader.dirLibLength :=
  ⟨[[1, 2]], { running with loader := { dirLibrary := 1, dirLibLength := 2 } }, by decide +kernel⟩

theorem meets_libraryCopyDone : ∃ (bad : Bool) (s : State),
    s.loader.copyState = 1 :=
  ⟨false, { running with loader := { copyState := 1 } }, by decide +kernel⟩

theorem meets_libraryAreaWrite : ∃ (size : Bool) (v : U64) (s : State) (e : Env) (s1 : State) (who : Requester), WriteGoes s e false (wholeWrite 0x6120 (if size then 2 else 1) (u64 v.toNat)) (actLibArea size) s1 who :=
  ⟨true, 0x10000000, running, _, _, _, writeGoes_signed (by decide +kernel)⟩

theorem meets_writeEntry : ∃ (v : Byte) (s : State) (e : Env) (s1 : State) (who : Requester), WriteGoes s e false (wholeWrite 0x6120 5 [v]) actWriteEntry s1 who ∧ (0 : Byte) ≠ 0xFF :=
  ⟨0, running, _, _, _, writeGoes_signed (by decide +kernel), by decide +kernel⟩

theorem meets_writeData : ∃ (data : List Byte) (s : State) (e : Env) (s1 : State) (who : Requester), WriteGoes s e false (wholeWrite 0x6120 6 data) actWriteData s1 who :=
  ⟨[1, 2], { running with obj := [(objKey 0x6120 5, { val := [0] })], loader := { libDir := [(0, { writing := true })] } }, _, _, _, writeGoes_signed (by decide +kernel)⟩

theorem meets_loadEntry : ∃ (v : Byte) (s : State) (e : Env) (s1 : State) (who : Requester), WriteGoes s e false (wholeWrite 0x6130 1 [v]) actLoadEntry s1 who :=
  ⟨0, { running with loader := { libDir := [(0, { present := true })] } }, _, _, _, writeGoes_signed (by decide +kernel)⟩

theorem meets_loadStart : ∃ (s : State) (n : Nat) (rest : List Nat),
    s.loader.queue = n :: rest ∧ s.loader.cur = none ∧ s.loader.loading = none :=
  ⟨{ running with loader := { queue := [3] } }, 3, [], by decide +kernel⟩

theorem meets_cancelCurrent : ∃ (s : State) (e : Env) (s1 : State) (who : Requester), WriteGoes s e false (wholeWrite 0x6130 4 [1]) actLoadCancel s1 who :=
  ⟨running, _, _, _, writeGoes_signed (by decide +kernel)⟩

theorem meets_cancelAll : ∃ (s : State) (e : Env) (s1 : State) (who : Requester), WriteGoes s e false (wholeWrite 0x6130 4 [2]) actLoadCancel s1 who :=
  ⟨running, _, _, _, writeGoes_signed (by decide +kernel)⟩

theorem meets_position : ∃ (f : HFrame) (pos : Byte) (s : State) (s1 : State),
    hitchTake s f = (s1, true) ∧ passesOn s1 f = false ∧ f.up = true ∧ chainHead s1 = false ∧ pos.toNat < 15 :=
  ⟨frameIn true 0, 14, { linked with boot := { linked.boot with strapBoot := 1 } }, _, pairOf (by decide +kernel), by decide +kernel, by decide +kernel, by decide +kernel, by decide +kernel⟩

theorem meets_stream : ∃ (f : HFrame) (bytes : List Byte) (s : State) (s1 : State),
    hitchTake s f = (s1, true) ∧ passesOn s1 f = false ∧ f.up = true ∧ chainHead s1 = false ∧ s1.mode = .startUp ∧ s1.boot.phase ≤ 5 :=
  ⟨frameIn true 0, [1, 2], { linked with power := {}, boot := { linked.boot with strapBoot := 1, phase := 5 } }, _, pairOf (by decide +kernel), by decide +kernel, by decide +kernel, by decide +kernel, by decide +kernel, by decide +kernel⟩

theorem meets_report : ∃ (f : HFrame) (pos : Byte) (flags : Byte) (reason : Byte) (status : BitVec 16) (s : State) (s1 : State),
    hitchTake s f = (s1, true) ∧ passesOn s1 f = false ∧ f.up = false ∧ chainHead s1 = true ∧ pos.toNat < 16 :=
  ⟨frameIn false 2, 15, 0, 0, 0, linked, _, pairOf (by decide +kernel), by decide +kernel, by decide +kernel, by decide +kernel, by decide +kernel⟩

theorem meets_report_2 : ∃ (f : HFrame) (pos : Byte) (flags : Byte) (reason : Byte) (status : BitVec 16) (s : State) (s1 : State),
    hitchTake s f = (s1, true) ∧ passesOn s1 f = false ∧ f.up = false ∧ chainHead s1 = false :=
  ⟨frameIn false 2, 15, 0, 0, 0, { linked with boot := { linked.boot with strapBoot := 1 } }, _, pairOf (by decide +kernel), by decide +kernel, by decide +kernel, by decide +kernel⟩

theorem meets_reportTimeout : ∃ (s : State),
    chainHead s = true ∧ s.chain.lastForwardAt ≠ 0 ∧ s.elapsed s.chain.lastForwardAt (reportTimeoutNs s) = true :=
  ⟨{ linked with chain := { lastForwardAt := 1 } }, by decide +kernel⟩

theorem meets_go : ∃ (f : HFrame) (countdown : BitVec 32) (s : State) (s1 : State),
    hitchTake s f = (s1, true) ∧ passesOn s1 f = false ∧ f.up = true ∧ chainHead s1 = false :=
  ⟨frameIn true 0, 1000, { linked with boot := { linked.boot with strapBoot := 1 } }, _, pairOf (by decide +kernel), by decide +kernel, by decide +kernel, by decide +kernel⟩

theorem meets_forceGo : ∃ (v : Byte) (s : State) (e : Env) (s1 : State) (who : Requester), WriteGoes s e false (wholeWrite 0x6170 5 [v]) actForceGo s1 who :=
  ⟨1, running, _, _, _, writeGoes_signed (by decide +kernel)⟩

theorem meets_goWaitTimeout : ∃ (s : State) (at_ : Nat),
    s.chain.goWaitFrom = some at_ ∧ atPhase s 7 = true ∧ s.chain.goAt = none ∧ s.elapsed at_ (reportTimeoutNs s) = true :=
  ⟨{ starting 7 with chain := { goWaitFrom := some 0 } }, 0, by decide +kernel⟩

theorem meets_chainDataTimeout : ∃ (s : State),
    atPhase s 5 = true ∧ s.boot.strapBoot = 1 ∧ s.loader.cur = none ∧ s.elapsed s.chain.lastDataAt (reportTimeoutNs s) = true :=
  ⟨{ starting 5 with boot := { (starting 5).boot with strapBoot := 1 } }, by decide +kernel⟩

theorem meets_delayReq : ∃ (f : HFrame) (t1 : U64) (s : State) (s1 : State),
    hitchTake s f = (s1, true) ∧ passesOn s1 f = false :=
  ⟨frameIn true 0, 1000, linked, _, pairOf (by decide +kernel), by decide +kernel⟩

theorem meets_delayResp : ∃ (f : HFrame) (t1 : U64) (t2 : U64) (t3 : U64) (t4 : U64) (s : State) (s1 : State),
    hitchTake s f = (s1, true) ∧ passesOn s1 f = false ∧ (s1.link f.up).delayCount < 16 :=
  ⟨frameIn true 0, 0, 10, 20, 30, linked, _, pairOf (by decide +kernel), by decide +kernel, by decide +kernel⟩

theorem meets_remoteReq : ∃ (f : HFrame) (message : List Byte) (s : State) (s1 : State),
    remoteCredit s = true ∧ hitchTake s f = (s1, true) ∧ passesOn s1 f = false ∧ s1.num 0x6A60 1 = 1 ∧ s1.runOrHold = true ∧ f.src.toNat ≠ s1.chain.position ∧ (natAt message 1 1 = 1 ∨ natAt message 1 1 = 2) ∧ natAt message 2 2 < 512 :=
  ⟨frameIn true 0, [1, 2, 0xFF, 0x01] ++ zeros 12, { linked with obj := [(objKey 0x6A60 1, { val := [1] }), (objKey 0x6A60 2, { val := [0] })] }, _, by decide +kernel, pairOf (by decide +kernel), by decide +kernel, by decide +kernel, by decide +kernel, by decide +kernel, by decide +kernel, by decide +kernel⟩

theorem meets_remoteResp : ∃ (f : HFrame) (message : List Byte) (s : State) (s1 : State) (i : Nat),
    hitchTake s f = (s1, true) ∧ passesOn s1 f = false ∧ indexOf? (fun r => decide (r.tag.toNat = natAt message 4 2)) s1.lanes.remotes = some i :=
  ⟨frameIn true 0, zeros 16, { linked with lanes := { linked.lanes with remotes := [⟨0, 1, 0, 8, 0⟩] } }, _, 0, pairOf (by decide +kernel), by decide +kernel, by decide +kernel⟩

theorem meets_ack : ∃ (f : HFrame) (s : State),
    (s.link f.up).up = true ∧ f.crcOk = true ∧ f.ackValid = true :=
  ⟨{ frameIn true 0 with ackValid := true }, linked, by decide +kernel⟩

theorem meets_hitchAckDue : ∃ (up : Bool) (s : State),
    (s.link up).up = true ∧ (s.link up).ackOwed.isSome = true :=
  ⟨true, { linked with lanes := { hitchUp := { up := true, ackOwed := some 0 } } }, by decide +kernel⟩

theorem meets_hitchResend : ∃ (up : Bool) (s : State),
    (s.link up).up = true ∧ (s.link up).unacked ≠ [] ∧ s.elapsed (s.link up).sentAt 5000 = true ∧ (s.link up).resends < 16 :=
  ⟨true, { linked with lanes := { hitchUp := { up := true, unacked := [(0, ⟨6, 0xFF, 1, []⟩)] } } }, by decide +kernel⟩

theorem meets_remoteRequestPush : ∃ (s : State) (s1 : State) (h : List Byte) (msg : List Byte),
    s.num 0x6A60 2 < 16 ∧ windowOn s (s.num 0x6A60 2) = true ∧ h = (windowIndexed s (s.num 0x6A60 2) 0 16 none .good).2.2 ∧ 16 ≤ (s.window (s.num 0x6A60 2)).fill ∧ requestSize h ≤ (s.window (s.num 0x6A60 2)).fill ∧ s.lanes.remotes.length < 32 ∧ 16 + (if natAt h 1 1 = 1 then (natAt h 2 2 + 16) / 16 * 16 else 0) ≤ responseRoom s ∧ windowPop s (s.num 0x6A60 2) (requestSize h) .good = (s1, 0, msg) ∧ natAt h 0 1 ≠ s1.chain.position ∧ natAt h 0 1 < 16 ∧ (natAt h 1 1 = 1 ∨ natAt h 1 1 = 2) ∧ natAt h 2 2 < 512 ∧ (s1.link (decide (natAt h 0 1 < s1.chain.position))).up = true :=
  ⟨{ linked with obj := [(objKey 0x6A60 2, { val := [0] }), (objKey 0x6A60 3, { val := [1] }), (objKey 0x6520 1, { val := [1] }), (objKey 0x6520 3, { val := u32 256 }), (objKey 0x6521 1, { val := [1] }), (objKey 0x6521 2, { val := u32 256 }), (objKey 0x6521 3, { val := u32 256 })], pan := { mem := [⟨1, 1⟩], windows := [(0, { wr := 16, fill := 16 })] } }, _, [0, 1, 0, 0] ++ zeros 12, [0, 1, 0, 0] ++ zeros 12, by decide +kernel, by decide +kernel, by decide +kernel, by decide +kernel, by decide +kernel, by decide +kernel, by decide +kernel, pairOf (by decide +kernel), by decide +kernel, by decide +kernel, by decide +kernel, by decide +kernel, by decide +kernel⟩

theorem meets_remoteTimeout : ∃ (tag : BitVec 16) (s : State) (i : Nat) (r : RemoteReq),
    indexOf? (fun r => decide (r.tag = tag) && s.elapsed r.at_ (s.num 0x6400 2)) s.lanes.remotes = some i ∧ s.lanes.remotes[i]? = some r :=
  ⟨5, { linked with lanes := { linked.lanes with remotes := [⟨0, 1, 5, 8, 0⟩] } }, 0, ⟨0, 1, 5, 8, 0⟩, by decide +kernel⟩

theorem meets_PacketCommandsComplete : ∃ (k : Nat) (kind : Nat) (link : LinkFault) (tag : TagErr) (err : MemErr) (s : State) (s1 : State) (u : State) (p : Pkt) (c : Instr),
    ((kind = 0x01 ∧ c = .nocReadRequest k link tag err ∨ kind = 0x02 ∧ c = .nocWriteRequest k link tag err)) ∧ takePacket s k kind = some (p, s1) ∧ ((link = .none ∧ u = s1 ∨ link = .corrected ∧ u = Machine.linkCorrected s1 p)) ∧ routeOff u p = true :=
  ⟨0, 1, .none, .good, .good, { flying { someRead with kind := 1, address := 0x100000000000 } with noc := { (flying { someRead with kind := 1, address := 0x100000000000 }).noc with quadrants := 0 } }, (takenOf ({ flying { someRead with kind := 1, address := 0x100000000000 } with noc := { (flying { someRead with kind := 1, address := 0x100000000000 }).noc with quadrants := 0 } }) 1).2, (takenOf ({ flying { someRead with kind := 1, address := 0x100000000000 } with noc := { (flying { someRead with kind := 1, address := 0x100000000000 }).noc with quadrants := 0 } }) 1).2, (takenOf ({ flying { someRead with kind := 1, address := 0x100000000000 } with noc := { (flying { someRead with kind := 1, address := 0x100000000000 }).noc with quadrants := 0 } }) 1).1, .nocReadRequest 0 .none .good .good, .inl ⟨rfl, rfl⟩, takes (by decide +kernel), .inl ⟨rfl, rfl⟩, by decide +kernel⟩

theorem meets_PacketCommandsComplete_2 : ∃ (k : Nat) (kind : Nat) (link : LinkFault) (tag : TagErr) (err : MemErr) (s : State) (s1 : State) (u : State) (p : Pkt) (c : Instr),
    ((kind = 0x01 ∧ c = .nocReadRequest k link tag err ∨ kind = 0x02 ∧ c = .nocWriteRequest k link tag err)) ∧ takePacket s k kind = some (p, s1) ∧ ((link = .none ∧ u = s1 ∨ link = .corrected ∧ u = Machine.linkCorrected s1 p)) ∧ routeOff u p = false ∧ isTap p.use = true :=
  ⟨0, 2, .none, .good, .good, flying { someRead with kind := 2, address := 0x200000000000, use := .tap 3 }, (takenOf (flying { someRead with kind := 2, address := 0x200000000000, use := .tap 3 }) 2).2, (takenOf (flying { someRead with kind := 2, address := 0x200000000000, use := .tap 3 }) 2).2, (takenOf (flying { someRead with kind := 2, address := 0x200000000000, use := .tap 3 }) 2).1, .nocWriteRequest 0 .none .good .good, .inr ⟨rfl, rfl⟩, takes (by decide +kernel), .inl ⟨rfl, rfl⟩, by decide +kernel, by decide +kernel⟩

theorem meets_PacketCommandsComplete_3 : ∃ (k : Nat) (kind : Nat) (link : LinkFault) (tag : TagErr) (err : MemErr) (s : State) (s1 : State) (u : State) (p : Pkt) (c : Instr) (st : _) (code : _),
    ((kind = 0x01 ∧ c = .nocReadRequest k link tag err ∨ kind = 0x02 ∧ c = .nocWriteRequest k link tag err)) ∧ takePacket s k kind = some (p, s1) ∧ ((link = .none ∧ u = s1 ∨ link = .corrected ∧ u = Machine.linkCorrected s1 p)) ∧ routeOff u p = false ∧ isTap p.use = false ∧ decode u p.initiator p.address p.length (decide (p.kind = 0x02)) = .bad st code :=
  ⟨0, 1, .none, .good, .good, flying { someRead with kind := 1, address := 0x0FFFFFFFFFFF }, (takenOf (flying { someRead with kind := 1, address := 0x0FFFFFFFFFFF }) 1).2, (takenOf (flying { someRead with kind := 1, address := 0x0FFFFFFFFFFF }) 1).2, (takenOf (flying { someRead with kind := 1, address := 0x0FFFFFFFFFFF }) 1).1, .nocReadRequest 0 .none .good .good, 1, 0x3005, .inl ⟨rfl, rfl⟩, takes (by decide +kernel), .inl ⟨rfl, rfl⟩, by decide +kernel, by decide +kernel, by decide +kernel⟩

theorem meets_PacketCommandsComplete_4 : ∃ (k : Nat) (kind : Nat) (link : LinkFault) (tag : TagErr) (err : MemErr) (s : State) (s1 : State) (u : State) (p : Pkt) (c : Instr) (a : _),
    ((kind = 0x01 ∧ c = .nocReadRequest k link tag err ∨ kind = 0x02 ∧ c = .nocWriteRequest k link tag err)) ∧ takePacket s k kind = some (p, s1) ∧ ((link = .none ∧ u = s1 ∨ link = .corrected ∧ u = Machine.linkCorrected s1 p)) ∧ routeOff u p = false ∧ isTap p.use = false ∧ decode u p.initiator p.address p.length (decide (p.kind = 0x02)) = .dram a :=
  ⟨0, 1, .none, .good, .good, flying { someRead with kind := 1, address := 0x1000 }, (takenOf (flying { someRead with kind := 1, address := 0x1000 }) 1).2, (takenOf (flying { someRead with kind := 1, address := 0x1000 }) 1).2, (takenOf (flying { someRead with kind := 1, address := 0x1000 }) 1).1, .nocReadRequest 0 .none .good .good, 0x1000, .inl ⟨rfl, rfl⟩, takes (by decide +kernel), .inl ⟨rfl, rfl⟩, by decide +kernel, by decide +kernel, by decide +kernel⟩

theorem meets_PacketCommandsComplete_5 : ∃ (k : Nat) (kind : Nat) (link : LinkFault) (tag : TagErr) (err : MemErr) (s : State) (s1 : State) (u : State) (p : Pkt) (c : Instr) (off : _),
    ((kind = 0x01 ∧ c = .nocReadRequest k link tag err ∨ kind = 0x02 ∧ c = .nocWriteRequest k link tag err)) ∧ takePacket s k kind = some (p, s1) ∧ ((link = .none ∧ u = s1 ∨ link = .corrected ∧ u = Machine.linkCorrected s1 p)) ∧ routeOff u p = false ∧ isTap p.use = false ∧ decode u p.initiator p.address p.length (decide (p.kind = 0x02)) = .pan off :=
  ⟨0, 2, .none, .good, .good, flying { someRead with kind := 2, address := 0x100000000000, data := zeros 8 }, (takenOf (flying { someRead with kind := 2, address := 0x100000000000, data := zeros 8 }) 2).2, (takenOf (flying { someRead with kind := 2, address := 0x100000000000, data := zeros 8 }) 2).2, (takenOf (flying { someRead with kind := 2, address := 0x100000000000, data := zeros 8 }) 2).1, .nocWriteRequest 0 .none .good .good, 0, .inr ⟨rfl, rfl⟩, takes (by decide +kernel), .inl ⟨rfl, rfl⟩, by decide +kernel, by decide +kernel, by decide +kernel⟩

theorem meets_PacketCommandsComplete_6 : ∃ (k : Nat) (kind : Nat) (link : LinkFault) (tag : TagErr) (err : MemErr) (s : State) (s1 : State) (u : State) (p : Pkt) (c : Instr) (n : _) (off : _),
    ((kind = 0x01 ∧ c = .nocReadRequest k link tag err ∨ kind = 0x02 ∧ c = .nocWriteRequest k link tag err)) ∧ takePacket s k kind = some (p, s1) ∧ ((link = .none ∧ u = s1 ∨ link = .corrected ∧ u = Machine.linkCorrected s1 p)) ∧ routeOff u p = false ∧ isTap p.use = false ∧ decode u p.initiator p.address p.length (decide (p.kind = 0x02)) = .window n off :=
  ⟨0, 1, .none, .good, .good, flying { someRead with kind := 1, address := 0x100001000000 }, (takenOf (flying { someRead with kind := 1, address := 0x100001000000 }) 1).2, (takenOf (flying { someRead with kind := 1, address := 0x100001000000 }) 1).2, (takenOf (flying { someRead with kind := 1, address := 0x100001000000 }) 1).1, .nocReadRequest 0 .none .good .good, 0, 0, .inl ⟨rfl, rfl⟩, takes (by decide +kernel), .inl ⟨rfl, rfl⟩, by decide +kernel, by decide +kernel, by decide +kernel⟩

theorem meets_PacketCommandsComplete_7 : ∃ (k : Nat) (kind : Nat) (link : LinkFault) (tag : TagErr) (err : MemErr) (s : State) (s1 : State) (u : State) (p : Pkt) (c : Instr) (g : _) (cl : _) (off : _) (t : _),
    ((kind = 0x01 ∧ c = .nocReadRequest k link tag err ∨ kind = 0x02 ∧ c = .nocWriteRequest k link tag err)) ∧ takePacket s k kind = some (p, s1) ∧ ((link = .none ∧ u = s1 ∨ link = .corrected ∧ u = Machine.linkCorrected s1 p)) ∧ routeOff u p = false ∧ isTap p.use = false ∧ decode u p.initiator p.address p.length (decide (p.kind = 0x02)) = .fabric g cl off ∧ portServe u p g cl off = some t :=
  ⟨0, 1, .none, .good, .good, flying { someRead with kind := 1, address := 0x200000000000 }, (takenOf (flying { someRead with kind := 1, address := 0x200000000000 }) 1).2, (takenOf (flying { someRead with kind := 1, address := 0x200000000000 }) 1).2, (takenOf (flying { someRead with kind := 1, address := 0x200000000000 }) 1).1, .nocReadRequest 0 .none .good .good, 0, 0, 0, (portServe (takenOf (flying { someRead with kind := 1, address := 0x200000000000 }) 1).2 (takenOf (flying { someRead with kind := 1, address := 0x200000000000 }) 1).1 0 0 0).getD teamed, .inl ⟨rfl, rfl⟩, takes (by decide +kernel), .inl ⟨rfl, rfl⟩, by decide +kernel, by decide +kernel, by decide +kernel, rfl⟩

theorem meets_PacketCommandsComplete_8 : ∃ (k : Nat) (kind : Nat) (link : LinkFault) (tag : TagErr) (err : MemErr) (s : State) (s1 : State) (u : State) (p : Pkt) (c : Instr) (off : _),
    ((kind = 0x01 ∧ c = .nocReadRequest k link tag err ∨ kind = 0x02 ∧ c = .nocWriteRequest k link tag err)) ∧ takePacket s k kind = some (p, s1) ∧ ((link = .none ∧ u = s1 ∨ link = .corrected ∧ u = Machine.linkCorrected s1 p)) ∧ routeOff u p = false ∧ isTap p.use = false ∧ decode u p.initiator p.address p.length (decide (p.kind = 0x02)) = .service off :=
  ⟨0, 1, .none, .good, .good, flying { someRead with kind := 1, address := 0x3F0000000010 }, (takenOf (flying { someRead with kind := 1, address := 0x3F0000000010 }) 1).2, (takenOf (flying { someRead with kind := 1, address := 0x3F0000000010 }) 1).2, (takenOf (flying { someRead with kind := 1, address := 0x3F0000000010 }) 1).1, .nocReadRequest 0 .none .good .good, 16, .inl ⟨rfl, rfl⟩, takes (by decide +kernel), .inl ⟨rfl, rfl⟩, by decide +kernel, by decide +kernel, by decide +kernel⟩

theorem meets_nocReadRequest : ∃ (k : Nat) (tag : TagErr) (err : MemErr) (s : State) (s1 : State) (p : Pkt),
    takePacket s k 0x01 = some (p, s1) :=
  ⟨0, .good, .good, flying { someRead with kind := 1, address := 0x1000 }, (takenOf (flying { someRead with kind := 1, address := 0x1000 }) 1).2, (takenOf (flying { someRead with kind := 1, address := 0x1000 }) 1).1, takes (by decide +kernel)⟩

theorem meets_nocWriteRequest : ∃ (k : Nat) (tag : TagErr) (err : MemErr) (s : State) (s1 : State) (p : Pkt),
    takePacket s k 0x02 = some (p, s1) :=
  ⟨0, .good, .good, flying { someRead with kind := 2, address := 0x1000 }, (takenOf (flying { someRead with kind := 2, address := 0x1000 }) 2).2, (takenOf (flying { someRead with kind := 2, address := 0x1000 }) 2).1, takes (by decide +kernel)⟩

theorem meets_PacketCommandsComplete_9 : ∃ (k : Nat) (kind : Nat) (link : LinkFault) (s : State) (s1 : State) (u : State) (r : Pkt) (p : Pkt) (c : Instr),
    ((kind = 0x81 ∧ c = .nocReadResponse k link ∨ kind = 0x82 ∧ c = .nocWriteResponse k link)) ∧ takePacket s k kind = some (r, s1) ∧ u.noc.open_.find? (fun q => decide (q.id = r.id)) = some p ∧ ((link = .none ∧ u = s1 ∨ link = .corrected ∧ u = Machine.linkCorrected s1 r)) :=
  ⟨0, 0x81, .none, flying { someRead with kind := 0x81 }, (takenOf (flying { someRead with kind := 0x81 }) 0x81).2, (takenOf (flying { someRead with kind := 0x81 }) 0x81).2, (takenOf (flying { someRead with kind := 0x81 }) 0x81).1, { someRead with kind := 1 }, .nocReadResponse 0 .none, .inl ⟨rfl, rfl⟩, takes (by decide +kernel), by decide +kernel, .inl ⟨rfl, rfl⟩⟩

theorem meets_PacketCommandsComplete_10 : ∃ (k : Nat) (kind : Nat) (link : LinkFault) (s : State) (s1 : State) (u : State) (r : Pkt) (p : Pkt) (c : Instr),
    ((kind = 0x81 ∧ c = .nocReadResponse k link ∨ kind = 0x82 ∧ c = .nocWriteResponse k link)) ∧ takePacket s k kind = some (r, s1) ∧ u.noc.open_.find? (fun q => decide (q.id = r.id)) = some p ∧ link = .poisoned ∧ u = s1 :=
  ⟨0, 0x81, .poisoned, flying { someRead with kind := 0x81 }, (takenOf (flying { someRead with kind := 0x81 }) 0x81).2, (takenOf (flying { someRead with kind := 0x81 }) 0x81).2, (takenOf (flying { someRead with kind := 0x81 }) 0x81).1, { someRead with kind := 1 }, .nocReadResponse 0 .poisoned, .inl ⟨rfl, rfl⟩, takes (by decide +kernel), by decide +kernel, rfl, rfl⟩

theorem meets_PacketCommandsComplete_11 : ∃ (k : Nat) (kind : Nat) (link : LinkFault) (s : State) (s1 : State) (u : State) (r : Pkt) (p : Pkt) (c : Instr),
    ((kind = 0x81 ∧ c = .nocReadResponse k link ∨ kind = 0x82 ∧ c = .nocWriteResponse k link)) ∧ takePacket s k kind = some (r, s1) ∧ u.noc.open_.find? (fun q => decide (q.id = r.id)) = some p ∧ link = .headerLost :=
  ⟨0, 0x81, .headerLost, flying { someRead with kind := 0x81 }, (takenOf (flying { someRead with kind := 0x81 }) 0x81).2, (takenOf (flying { someRead with kind := 0x81 }) 0x81).2, (takenOf (flying { someRead with kind := 0x81 }) 0x81).1, { someRead with kind := 1 }, .nocReadResponse 0 .headerLost, .inl ⟨rfl, rfl⟩, takes (by decide +kernel), by decide +kernel, rfl⟩

theorem meets_responseTimeout : ∃ (k : Nat) (s : State) (p : Pkt),
    s.noc.open_[k]? = some p ∧ s.elapsed p.issued (s.num 0x6400 2) = true :=
  ⟨0, { running with noc := { open_ := [someRead] } }, someRead, by decide +kernel⟩

theorem meets_packetPromotedUrgent : ∃ (k : Nat) (s : State) (p : Pkt),
    s.noc.flight[k]? = some p ∧ p.guaranteed = false ∧ p.direct = false ∧ p.urgent = false ∧ 512 ≤ nocCycles p.issued s.now :=
  ⟨0, { running with noc := { flight := [someRead] } }, someRead, by decide +kernel⟩

theorem meets_reservationWrite : ∃ (n : Fin 64) (v : U64) (s : State) (e : Env) (s1 : State) (who : Requester), WriteGoes s e false (wholeWrite 0x6410 (n.val + 1) (u64 v.toNat)) (actReservation (n.val + 1)) s1 who ∧ bit (s1.num 0x6410 1) 63 ≠ bit (0x8000000000000104 : U64).toNat 63 :=
  ⟨0, 0x8000000000000104, running, _, _, _, writeGoes_signed (by decide +kernel), by decide +kernel⟩

theorem meets_reservationTakesEffect : ∃ (n : Fin 64) (s : State),
    AMap.get 0 s.noc.gtPending (n.val + 1) ≠ 0 ∧ AMap.get 0 s.noc.gtPending (n.val + 1) / 2 ≤ s.now :=
  ⟨0, { running with noc := { gtPending := [(1, 2)] } }, by decide +kernel⟩

theorem meets_moverDoorbell : ∃ (initiator : Byte) (m : Fin 16) (addr : U64) (s : State),
    isOuter initiator.toNat = false ∧ ((s.sealed.enabled = true → initiator ≠ 0)) ∧ (s.mover m.val).state = 0 ∧ moversServe s 1 = true :=
  ⟨0, 0, 0x40, running, by decide +kernel⟩

theorem meets_moverStart : ∃ (m : Byte) (addr : U64) (s : State) (e : Env) (s1 : State) (who : Requester), WriteGoes s e false (wholeWrite 0x6431 1 ([m] ++ u64 addr.toNat)) actMoverStart s1 who :=
  ⟨0, 0x40, running, _, _, _, writeGoes_signed (by decide +kernel)⟩

theorem meets_moverStop : ∃ (mask : BitVec 16) (s : State) (e : Env) (s1 : State) (who : Requester), WriteGoes s e false (wholeWrite 0x6431 2 (u16 mask.toNat)) actMoverStop s1 who :=
  ⟨1, running, _, _, _, writeGoes_signed (by decide +kernel)⟩

theorem meets_moverStartTime : ∃ (m : Fin 16) (s : State),
    (s.mover m.val).state = 2 ∧ natAt (s.mover m.val).desc 32 8 ≤ s.tai :=
  ⟨0, { running with noc := { movers := [(0, { state := 2, desc := zeros 64 })] } }, by decide +kernel⟩

theorem meets_moverDescriptorDone : ∃ (m : Fin 16) (s : State),
    (s.mover m.val).state = 1 ∧ (s.mover m.val).desc ≠ [] ∧ (s.mover m.val).stopping = false ∧ (s.mover m.val).failed = 0 ∧ (s.mover m.val).outstanding = 0 ∧ descRows (s.mover m.val).desc ≤ (s.mover m.val).row :=
  ⟨0, { running with noc := { movers := [(0, { state := 1, desc := zeros 64, row := 70000 })] } }, by decide +kernel⟩

theorem meets_statClearSelected : ∃ (s : State) (e : Env) (s1 : State) (who : Requester), WriteGoes s e false (wholeWrite 0x6420 3 [1]) actStat s1 who :=
  ⟨running, _, _, _, writeGoes_signed (by decide +kernel)⟩

theorem meets_statClearAll : ∃ (s : State) (e : Env) (s1 : State) (who : Requester), WriteGoes s e false (wholeWrite 0x6420 3 [2]) actStat s1 who :=
  ⟨running, _, _, _, writeGoes_signed (by decide +kernel)⟩

theorem meets_statWindowEnd : ∃ (s : State),
    s.elapsed s.noc.windowAt (s.num 0x6420 2 * 1000) = true :=
  ⟨running, by decide +kernel⟩

theorem meets_lineFillDone : ∃ (k : Nat) (s : State) (f : Fill) (data : List Byte) (w : _),
    s.wale.fills[k]? = some f ∧ f.answer = some (0, data) ∧ victim s f.slice f.line = some w ∧ victimsHeld s f.slice < 16 :=
  ⟨0, { running with wale := { fills := [{ slice := 0, line := 5, cls := 1, alloc := true, answer := some (0, zeros 64) }] } }, { slice := 0, line := 5, cls := 1, alloc := true, answer := some (0, zeros 64) }, zeros 64, 0, by decide +kernel⟩

theorem meets_lineFillDone_2 : ∃ (k : Nat) (s : State) (f : Fill) (data : List Byte),
    s.wale.fills[k]? = some f ∧ f.answer = some (0, data) ∧ victim s f.slice f.line = none :=
  ⟨0, { running with wale := { fills := [{ slice := 0, line := 5, cls := 1, alloc := true, answer := some (0, zeros 64) }], slices := [(0, { disabled := 0xFFFF })] } }, { slice := 0, line := 5, cls := 1, alloc := true, answer := some (0, zeros 64) }, zeros 64, by decide +kernel⟩

theorem meets_lineFillDone_3 : ∃ (k : Nat) (s : State) (f : Fill) (st : Nat) (data : List Byte),
    s.wale.fills[k]? = some f ∧ f.answer = some (st, data) ∧ st ≠ 0 :=
  ⟨0, { running with wale := { fills := [{ slice := 0, line := 5, cls := 1, alloc := true, answer := some (2, zeros 64) }] } }, { slice := 0, line := 5, cls := 1, alloc := true, answer := some (2, zeros 64) }, 2, zeros 64, by decide +kernel⟩

theorem meets_writeBackAnswered : ∃ (k : Nat) (s : State) (b : WriteBack),
    s.wale.backs[k]? = some b ∧ b.answer = some 0 :=
  ⟨0, { running with wale := { backs := [{ slice := 0, line := 5, data := zeros 64, poison := false, evicted := true, answer := some 0 }] } }, { slice := 0, line := 5, data := zeros 64, poison := false, evicted := true, answer := some 0 }, by decide +kernel⟩

theorem meets_writeBackAnswered_2 : ∃ (k : Nat) (s : State) (b : WriteBack) (status : Fin 8),
    s.wale.backs[k]? = some b ∧ b.answer = some status.val ∧ status ≠ 0 ∧ status = 7 :=
  ⟨0, { running with wale := { backs := [{ slice := 0, line := 5, data := zeros 64, poison := false, evicted := true, answer := some 7 }] } }, { slice := 0, line := 5, data := zeros 64, poison := false, evicted := true, answer := some 7 }, 7, by decide +kernel⟩

theorem meets_writeBackAnswered_3 : ∃ (k : Nat) (s : State) (b : WriteBack) (status : Fin 8),
    s.wale.backs[k]? = some b ∧ b.answer = some status.val ∧ status ≠ 0 ∧ status ≠ 7 :=
  ⟨0, { running with wale := { backs := [{ slice := 0, line := 5, data := zeros 64, poison := false, evicted := true, answer := some 2 }] } }, { slice := 0, line := 5, data := zeros 64, poison := false, evicted := true, answer := some 2 }, 2, by decide +kernel⟩

theorem meets_maintenanceEntryTimeout : ∃ (slice : Fin 16) (line : Nat) (s : State),
    ((s.slice slice.val).maint.any fun e => decide (e.1 = line) && s.elapsed e.2 10000) = true :=
  ⟨0, 5, { running with wale := { slices := [(0, { maint := [(5, 0)] })] } }, by decide +kernel⟩

theorem meets_waleFlush : ∃ (mask : BitVec 16) (s : State) (e : Env) (s1 : State) (who : Requester), WriteGoes s e false (wholeWrite 0x6501 1 (u16 mask.toNat)) (actFlush false) s1 who :=
  ⟨1, running, _, _, _, writeGoes_signed (by decide +kernel)⟩

theorem meets_waleInvalidate : ∃ (mask : BitVec 16) (s : State) (e : Env) (s1 : State) (who : Requester), WriteGoes s e false (wholeWrite 0x6501 2 (u16 mask.toNat)) (actFlush true) s1 who :=
  ⟨1, running, _, _, _, writeGoes_signed (by decide +kernel)⟩

theorem meets_flushDone : ∃ (slice : Fin 16) (s : State),
    (s.slice slice.val).flushing = true ∧ (s.slice slice.val).flushLeft = [] :=
  ⟨0, { running with wale := { slices := [(0, { flushing := true })] } }, by decide +kernel⟩

theorem meets_windowPush : ∃ (initiator : Byte) (n : Fin 16) (data : List Byte) (s : State),
    windowOn s n.val = true ∧ 8 ≤ data.length ∧ data.length ≤ 1024 ∧ data.length % 8 = 0 ∧ data.length ≤ windowSize s n.val - (s.window n.val).fill ∧ windowBanks s n.val (s.window n.val).wr data.length = 0 :=
  ⟨0x10, 0, zeros 8, windowed, by decide +kernel⟩

theorem meets_windowPop : ∃ (initiator : Byte) (n : Fin 16) (len : Nat) (s : State),
    windowOn s n.val = true ∧ 8 ≤ len ∧ len ≤ 1024 ∧ len % 8 = 0 ∧ len ≤ (s.window n.val).fill ∧ windowBanks s n.val (s.window n.val).rd len = 0 :=
  ⟨0x10, 0, 64, windowed, by decide +kernel⟩

theorem meets_windowRelease : ∃ (initiator : Byte) (n : Fin 16) (len : Nat) (s : State),
    windowOn s n.val = true ∧ len % 8 = 0 ∧ len ≤ (s.window n.val).fill :=
  ⟨0x10, 0, 64, windowed, by decide +kernel⟩

theorem meets_windowIndexedAccess : ∃ (initiator : Byte) (n : Fin 16) (off : Nat) (len : Nat) (s : State),
    windowOn s n.val = true ∧ 0 < len ∧ len ≤ 1024 ∧ off + len ≤ windowSize s n.val ∧ windowBanks s n.val ((s.window n.val).rd + off) len = 0 :=
  ⟨0x10, 0, 192, 64, windowed, by decide +kernel⟩

theorem meets_windowIndexedAccess_2 : ∃ (initiator : Byte) (n : Fin 16) (off : Nat) (len : Nat) (bs : List Byte) (s : State),
    windowOn s n.val = true ∧ bs ≠ [] ∧ bs.length ≤ 1024 ∧ off + bs.length ≤ windowSize s n.val ∧ windowBanks s n.val ((s.window n.val).rd + off) bs.length = 0 :=
  ⟨0x10, 0, 192, 0, zeros 64, windowed, by decide +kernel⟩

theorem meets_windowStatusRead : ∃ (initiator : Byte) (n : Fin 16) (s : State),
    windowOn s n.val = true :=
  ⟨0x10, 0, windowed, by decide +kernel⟩

theorem meets_panWindowEnable : ∃ (n : Fin 16) (v : Byte) (s : State) (e : Env) (s1 : State) (who : Requester), WriteGoes s e false (wholeWrite (0x6520 + n.val) 1 [v]) (actWindowEnable n.val) s1 who ∧ s1.num 0x6520 1 = 0 :=
  ⟨0, 1, { running with obj := [(objKey 0x6520 3, { val := u32 256 })] }, _, _, _, writeGoes_signed (by decide +kernel), by decide +kernel⟩

theorem meets_panConflictClear : ∃ (v : Byte) (s : State) (e : Env) (s1 : State) (who : Requester), WriteGoes s e false (wholeWrite 0x6531 0 [v]) actConflictClear s1 who :=
  ⟨1, running, _, _, _, writeGoes_signed (by decide +kernel)⟩

theorem meets_backgroundTestRegion : ∃ (bank31 : Bool) (s : State) (u : State),
    u = startRegion s bank31 ∧ (bankTest u bank31).testing = true :=
  ⟨true, running, _, rfl, by decide +kernel⟩

theorem meets_backgroundRegionTimeout : ∃ (bank31 : Bool) (s : State),
    (bankTest s bank31).testing = true ∧ s.elapsed (bankTest s bank31).startedAt 100000 = true :=
  ⟨false, { running with pan := { test30 := { testing := true } } }, by decide +kernel⟩

theorem meets_bankClearingDone : ∃ (b : Fin 32) (s : State),
    bankState s b.val = 3 :=
  ⟨31, { running with pan := { bank := [(31, 3)] } }, by decide +kernel⟩

theorem meets_dramRequest : ∃ (k : Nat) (s : State) (r : DReq),
    s.wale.toDram[k]? = some r ∧ ((s.wale.toDram.take k).any fun q => decide (q.line = r.line)) = false ∧ stackState s ((dloc (r.line * 64)).chan / 16) ≠ 2 :=
  ⟨0, { running with wale := { toDram := [fill0] }, dram := {} }, fill0, by decide +kernel⟩

theorem meets_dramRequest_2 : ∃ (k : Nat) (s : State) (r : DReq) (w : _),
    s.wale.toDram[k]? = some r ∧ ((s.wale.toDram.take k).any fun q => decide (q.line = r.line)) = false ∧ stackState s ((dloc (r.line * 64)).chan / 16) = 2 ∧ forwardFrom s (s.chan (dloc (r.line * 64)).chan) r = some w :=
  ⟨0, { dramWith { writeQ := [{ fill0 with write := true, data := zeros 64 }] } {} with wale := { toDram := [fill0] } }, fill0, { fill0 with write := true, data := zeros 64 }, by decide +kernel⟩

theorem meets_dramRequest_3 : ∃ (k : Nat) (s : State) (r : DReq),
    s.wale.toDram[k]? = some r ∧ ((s.wale.toDram.take k).any fun q => decide (q.line = r.line)) = false ∧ stackState s ((dloc (r.line * 64)).chan / 16) = 2 ∧ forwardFrom s (s.chan (dloc (r.line * 64)).chan) r = none ∧ entryFree (s.chan (dloc (r.line * 64)).chan) r.write r.cls = true ∧ ((r.write = true → r.data.length < 64 → entryFree (s.chan (dloc (r.line * 64)).chan) false r.cls = true)) :=
  ⟨0, { dramOn with wale := { toDram := [fill0] } }, fill0, by decide +kernel⟩

theorem meets_dramCommandSlot : ∃ (channel : Fin 32) (pcB : Bool) (errs : List (Nat × Nat)) (spareErrs : List Bool) (s : State) (u : State) (key : _) (at_ : _),
    refreshing s (channel.val / 16) = true ∧ u = refillHeat (refillBudget s channel.val) channel.val ∧ dueNow u channel.val (b2n pcB) = some (key, at_, true) :=
  ⟨0, (dloc 0).pc == 1, [], [], dramWith {} { forcedAt := some 5 }, refillHeat (refillBudget (dramWith {} { forcedAt := some 5 }) 0) 0, bank0, 5, by decide +kernel, rfl, by decide +kernel⟩

theorem meets_dramCommandSlot_2 : ∃ (channel : Fin 32) (pcB : Bool) (errs : List (Nat × Nat)) (spareErrs : List Bool) (s : State) (u : State) (key : _) (at_ : _),
    refreshing s (channel.val / 16) = true ∧ u = refillHeat (refillBudget s channel.val) channel.val ∧ dueNow u channel.val (b2n pcB) = some (key, at_, false) :=
  ⟨0, (dloc 0).pc == 1, [], [], dramWith {} { nref := [(3, 5)] }, refillHeat (refillBudget (dramWith {} { nref := [(3, 5)] }) 0) 0, bank0, 5, by decide +kernel, rfl, by decide +kernel⟩

theorem meets_dramCommandSlot_3 : ∃ (channel : Fin 32) (pcB : Bool) (errs : List (Nat × Nat)) (spareErrs : List Bool) (s : State) (u : State) (r : _),
    refreshing s (channel.val / 16) = true ∧ u = refillHeat (refillBudget s channel.val) channel.val ∧ dueNow u channel.val (b2n pcB) = none ∧ stackState u (channel.val / 16) = 2 ∧ pick u channel.val (b2n pcB) = some r :=
  ⟨0, (dloc 0).pc == 1, [], [], dramWith { readQ := [fill0] } {}, refillHeat (refillBudget (dramWith { readQ := [fill0] } {}) 0) 0, fill0, by decide +kernel, rfl, by decide +kernel, by decide +kernel, by decide +kernel⟩

theorem meets_dramCommandSlot_4 : ∃ (channel : Fin 32) (pcB : Bool) (errs : List (Nat × Nat)) (spareErrs : List Bool) (s : State) (u : State) (key : _),
    refreshing s (channel.val / 16) = true ∧ u = refillHeat (refillBudget s channel.val) channel.val ∧ dueNow u channel.val (b2n pcB) = none ∧ (stackState u (channel.val / 16) ≠ 2 ∨ pick u channel.val (b2n pcB) = none) ∧ idleRefresh u channel.val (b2n pcB) = some key :=
  ⟨0, (dloc 0).pc == 1, [], [], dramWith {} { debt := 1 }, refillHeat (refillBudget (dramWith {} { debt := 1 }) 0) 0, bank0, by decide +kernel, rfl, by decide +kernel, by decide +kernel, by decide +kernel⟩

theorem meets_requestUrgent : ∃ (channel : Fin 32) (write : Bool) (k : Nat) (s : State) (r : DReq),
    (if write then (s.chan channel.val).writeQ else (s.chan channel.val).readQ)[k]? = some r ∧ r.urgent = false ∧ r.cls ≠ 3 ∧ s.elapsed r.at_ (s.num 0x6601 2) = true :=
  ⟨0, false, 0, dramWith { readQ := [fill0] } {}, fill0, by decide +kernel⟩

theorem meets_refreshInterval : ∃ (b : BankId) (s : State) (ends : Nat),
    refreshing s (b.channel.val / 16) = true ∧ ends = max (s.dbank (bankIdKey b)).intervalAt (AMap.get 0 s.dram.refreshFrom (b.channel.val / 16)) + refreshRoots (s.dbank (bankIdKey b)).halved ∧ ends ≤ s.now :=
  ⟨⟨0, false, 0, 0⟩, dramOn, _, by decide +kernel, rfl, by decide +kernel⟩

theorem meets_neighbourRefresh : ∃ (b : BankId) (s : State),
    refreshing s (b.channel.val / 16) = true :=
  ⟨⟨0, false, 0, 0⟩, dramOn, by decide +kernel⟩

theorem meets_activateTableClear : ∃ (b : BankId) (s : State),
    8192 ≤ (s.dbank (bankIdKey b)).intervals :=
  ⟨⟨0, false, 0, 0⟩, { running with dram := { banks := [(bankIdKey ⟨0, false, 0, 0⟩, { intervals := 8192 })] } }, by decide +kernel⟩

theorem meets_retrainBurst : ∃ (channel : Fin 32) (failing : List (Fin 36)) (s : State) (u : State),
    (s.chan channel.val).training = 1 ∧ (s.chan channel.val).burstsA < 64 ∧ (((s.chan channel.val).burstsA ≠ 0 → s.elapsed (s.chan channel.val).burstAtA 10000 = true)) ∧ u = (if (s.chan channel.val).foundA = [] then s else repairLanes s channel.val 0 (s.chan channel.val).foundA) :=
  ⟨0, [], dramWith { training := 1 } {}, _, by decide +kernel, by decide +kernel, by decide +kernel, rfl⟩

theorem meets_retrainBurst_2 : ∃ (channel : Fin 32) (failing : List (Fin 36)) (s : State) (u : State),
    (s.chan channel.val).training = 1 ∧ (s.chan channel.val).burstsB < 64 ∧ (((s.chan channel.val).burstsB ≠ 0 → s.elapsed (s.chan channel.val).burstAtB 10000 = true)) ∧ u = (if (s.chan channel.val).foundB = [] then s else repairLanes s channel.val 1 (s.chan channel.val).foundB) :=
  ⟨0, [], dramWith { training := 1 } {}, _, by decide +kernel, by decide +kernel, by decide +kernel, rfl⟩

theorem meets_caParityError : ∃ (channel : Fin 32) (rank : Fin 4) (s : State),
    stackState s (channel.val / 16) = 2 :=
  ⟨0, 3, dramOn, by decide +kernel⟩

theorem meets_migrationLineTimeout : ∃ (channel : Fin 32) (s : State) (at_ : Nat),
    (s.chan channel.val).migHeldAt = some at_ ∧ s.elapsed at_ 10000 = true :=
  ⟨0, dramWith { migHeldAt := some 0 } {}, 0, by decide +kernel⟩

theorem meets_retire : ∃ (v : BitVec 16) (s : State) (e : Env) (s1 : State) (who : Requester), WriteGoes s e false (wholeWrite 0x6640 1 (u16 v.toNat)) actRetire s1 who :=
  ⟨0, dramOn, _, _, _, writeGoes_signed (by decide +kernel)⟩

theorem meets_retrain : ∃ (v : U32) (s : State) (e : Env) (s1 : State) (who : Requester), WriteGoes s e false (wholeWrite 0x6640 2 (u32 v.toNat)) actRetrain s1 who :=
  ⟨1, dramOn, _, _, _, writeGoes_signed (by decide +kernel)⟩

theorem meets_sparesWrite : ∃ (v : Byte) (c : Byte) (s : State) (e : Env) (s1 : State) (who : Requester), WriteGoes s e true (pairWrite 0x6601 1 [v] [c]) actSpares s1 who ∧ s1.dram.sparesInForce = decide ((1 : Byte) = 1) :=
  ⟨1, ~~~1, { running with power := {}, boot := { running.boot with phase := 5, cause := 0, writesEnabled := false } }, _, _, _, writeGoes_signed (by decide +kernel), by decide +kernel⟩

theorem meets_migrationCopy : ∃ (channel : Fin 32) (symbols : Nat) (s : State) (u : State) (v : State) (w : State) (a : Nat) (sl : Nat),
    u = refillBudget (settleRet s channel.val) channel.val ∧ (u.chan channel.val).mig = 1 ∧ stackState u (channel.val / 16) = 2 ∧ 0 < (u.chan channel.val).budget ∧ a = migAddr u channel.val ∧ sl = homeSlice u a ∧ ((copyHeld u channel.val = false → (u.slice sl).maint.length < 64)) ∧ v = (if copyHeld u channel.val then u else counted (debit (updSlice u sl fun x => { x with maint := x.maint ++ [(a / 64, u.now)] }) channel.val 1) (chanSrc channel.val) 0x0D 0 1) ∧ w = updSlice (counted (debit v channel.val 1) (chanSrc channel.val) 0x0D 0 1) sl (fun x => { x with maint := x.maint.filter fun e => decide (e.1 ≠ a / 64) }) ∧ (v.chan channel.val).budget ≤ 0 :=
  ⟨0, 0, dramWith { mig := 1, budget := 1, budgetAt := 96000000000, migHeldAt := none,  c0 := { ranks := 0, hosted := 0 }, c1 := { ranks := 0, hosted := 0 }, c2 := { ranks := 0, hosted := 0 } } {}, (refillBudget (settleRet (dramWith { mig := 1, budget := 1, budgetAt := 96000000000, migHeldAt := none,  c0 := { ranks := 0, hosted := 0 }, c1 := { ranks := 0, hosted := 0 }, c2 := { ranks := 0, hosted := 0 } } {}) 0) 0), _, _, _, _, rfl, by decide +kernel, by decide +kernel, by decide +kernel, rfl, rfl, by decide +kernel, rfl, rfl, by decide +kernel⟩

theorem meets_migrationCopy_2 : ∃ (channel : Fin 32) (symbols : Nat) (s : State) (u : State) (v : State) (w : State) (a : Nat) (sl : Nat),
    u = refillBudget (settleRet s channel.val) channel.val ∧ (u.chan channel.val).mig = 1 ∧ stackState u (channel.val / 16) = 2 ∧ 0 < (u.chan channel.val).budget ∧ a = migAddr u channel.val ∧ sl = homeSlice u a ∧ ((copyHeld u channel.val = false → (u.slice sl).maint.length < 64)) ∧ v = (if copyHeld u channel.val then u else counted (debit (updSlice u sl fun x => { x with maint := x.maint ++ [(a / 64, u.now)] }) channel.val 1) (chanSrc channel.val) 0x0D 0 1) ∧ w = updSlice (counted (debit v channel.val 1) (chanSrc channel.val) 0x0D 0 1) sl (fun x => { x with maint := x.maint.filter fun e => decide (e.1 ≠ a / 64) }) ∧ 0 < (v.chan channel.val).budget ∧ newerCopy w a = none :=
  ⟨0, 0, dramWith { mig := 1,  c0 := { ranks := 0, hosted := 0 }, c1 := { ranks := 0, hosted := 0 }, c2 := { ranks := 0, hosted := 0 } } {}, (refillBudget (settleRet (dramWith { mig := 1,  c0 := { ranks := 0, hosted := 0 }, c1 := { ranks := 0, hosted := 0 }, c2 := { ranks := 0, hosted := 0 } } {}) 0) 0), _, _, _, _, rfl, by decide +kernel, by decide +kernel, by decide +kernel, rfl, rfl, by decide +kernel, rfl, rfl, by decide +kernel, by decide +kernel⟩

theorem meets_migrationCopy_3 : ∃ (channel : Fin 32) (symbols : Nat) (s : State) (u : State) (v : State) (w : State) (a : Nat) (sl : Nat) (src : _) (code : _),
    u = refillBudget (settleRet s channel.val) channel.val ∧ (u.chan channel.val).mig = 1 ∧ stackState u (channel.val / 16) = 2 ∧ 0 < (u.chan channel.val).budget ∧ a = migAddr u channel.val ∧ sl = homeSlice u a ∧ ((copyHeld u channel.val = false → (u.slice sl).maint.length < 64)) ∧ v = (if copyHeld u channel.val then u else counted (debit (updSlice u sl fun x => { x with maint := x.maint ++ [(a / 64, u.now)] }) channel.val 1) (chanSrc channel.val) 0x0D 0 1) ∧ w = updSlice (counted (debit v channel.val 1) (chanSrc channel.val) 0x0D 0 1) sl (fun x => { x with maint := x.maint.filter fun e => decide (e.1 ≠ a / 64) }) ∧ 0 < (v.chan channel.val).budget ∧ newerCopy w a = some (src, code) :=
  ⟨0, 0, { dramWith { mig := 1,  c0 := { ranks := 0, hosted := 0 }, c1 := { ranks := 0, hosted := 0 }, c2 := { ranks := 0, hosted := 0 } } {} with crypt := { cache := [(0, ([], true))] } }, (refillBudget (settleRet ({ dramWith { mig := 1,  c0 := { ranks := 0, hosted := 0 }, c1 := { ranks := 0, hosted := 0 }, c2 := { ranks := 0, hosted := 0 } } {} with crypt := { cache := [(0, ([], true))] } }) 0) 0), _, _, _, _, metaSrc, 0x600F, rfl, by decide +kernel, by decide +kernel, by decide +kernel, rfl, rfl, by decide +kernel, rfl, rfl, by decide +kernel, by decide +kernel⟩

theorem meets_scrubRead : ∃ (channel : Fin 32) (symbols : Nat) (verifyErrs : Bool) (spareErrs : List Bool) (s : State) (u : State) (s1 : State) (p : Nat × Nat) (phys : Nat) (spare : Bool),
    u = useScrub s ∧ scrubOn u channel.val = true ∧ s1 = refillBudget (checkRemaps (settleRet (if u.ecc.scrubStopped then beginPass u else u) channel.val) channel.val) channel.val ∧ 0 < (s1.chan channel.val).budget ∧ (s1.chan channel.val).scrubHeld = none ∧ (s1.chan channel.val).scrubRank < 4 ∧ scrubDue s1 channel.val = true ∧ p = nextScrub s1 channel.val 16 (s1.chan channel.val).scrubRank (s1.chan channel.val).scrubLine ∧ scrubPlace (scrubTo s1 channel.val p) channel.val p.1 p.2 = some (phys, spare) ∧ ((scrubTo s1 channel.val p).slice (homeSlice (scrubTo s1 channel.val p) (deviceAddr (scrubTo s1 channel.val p) channel.val p.1 p.2))).maint.length < 64 :=
  ⟨0, 0, false, [], dramOn, dramOn, (refillBudget (checkRemaps (settleRet (beginPass dramOn) 0) 0) 0), (nextScrub (refillBudget (checkRemaps (settleRet (beginPass dramOn) 0) 0) 0) 0 16 0 0), ((scrubPlace (scrubTo (refillBudget (checkRemaps (settleRet (beginPass dramOn) 0) 0) 0) 0 (nextScrub (refillBudget (checkRemaps (settleRet (beginPass dramOn) 0) 0) 0) 0 16 0 0)) 0 (nextScrub (refillBudget (checkRemaps (settleRet (beginPass dramOn) 0) 0) 0) 0 16 0 0).1 (nextScrub (refillBudget (checkRemaps (settleRet (beginPass dramOn) 0) 0) 0) 0 16 0 0).2).get!).1, false, by decide +kernel, by decide +kernel, rfl, by decide +kernel, by decide +kernel, by decide +kernel, by decide +kernel, by decide +kernel, by decide +kernel, by decide +kernel⟩

theorem meets_scrubRead_2 : ∃ (channel : Fin 32) (symbols : Nat) (verifyErrs : Bool) (spareErrs : List Bool) (s : State) (u : State) (s1 : State) (phys : Nat) (at_ : Nat),
    u = useScrub s ∧ scrubOn u channel.val = true ∧ s1 = refillBudget (checkRemaps (settleRet (if u.ecc.scrubStopped then beginPass u else u) channel.val) channel.val) channel.val ∧ 0 < (s1.chan channel.val).budget ∧ (s1.chan channel.val).scrubHeld = some (phys, at_) ∧ s1.elapsed at_ 10000 = false :=
  ⟨0, 0, false, [], { dramOn with ecc := { scrubStopped := false }, dram := { dramOn.dram with chans := [(0, { scrubHeld := some (5, 96000000000) })] } }, { dramOn with ecc := { scrubStopped := false }, dram := { dramOn.dram with chans := [(0, { scrubHeld := some (5, 96000000000) })] } }, (refillBudget (checkRemaps (settleRet ({ dramOn with ecc := { scrubStopped := false }, dram := { dramOn.dram with chans := [(0, { scrubHeld := some (5, 96000000000) })] } }) 0) 0) 0), 5, 96000000000, by decide +kernel, by decide +kernel, by decide +kernel, by decide +kernel, by decide +kernel, by decide +kernel⟩

theorem meets_scrubRead_3 : ∃ (channel : Fin 32) (symbols : Nat) (verifyErrs : Bool) (spareErrs : List Bool) (s : State) (u : State) (s1 : State) (phys : Nat) (at_ : Nat),
    u = useScrub s ∧ scrubOn u channel.val = true ∧ s1 = refillBudget (checkRemaps (settleRet (if u.ecc.scrubStopped then beginPass u else u) channel.val) channel.val) channel.val ∧ 0 < (s1.chan channel.val).budget ∧ (s1.chan channel.val).scrubHeld = some (phys, at_) ∧ s1.elapsed at_ 10000 = true :=
  ⟨0, 0, false, [], { dramOn with ecc := { scrubStopped := false }, dram := { dramOn.dram with chans := [(0, { scrubHeld := some (5, 0) })] } }, { dramOn with ecc := { scrubStopped := false }, dram := { dramOn.dram with chans := [(0, { scrubHeld := some (5, 0) })] } }, (refillBudget (checkRemaps (settleRet ({ dramOn with ecc := { scrubStopped := false }, dram := { dramOn.dram with chans := [(0, { scrubHeld := some (5, 0) })] } }) 0) 0) 0), 5, 0, by decide +kernel, by decide +kernel, by decide +kernel, by decide +kernel, by decide +kernel, by decide +kernel⟩

theorem meets_scrubWritebackTimeout : ∃ (channel : Fin 32) (s : State) (at_ : Nat),
    (s.chan channel.val).scrubHeld.map Prod.snd = some at_ ∧ s.elapsed at_ 10000 = true :=
  ⟨0, dramWith { scrubHeld := some (5, 0) } {}, 0, by decide +kernel⟩

theorem meets_scrubPassLate : ∃ (channel : Fin 32) (s : State) (u : State),
    u = useScrub s ∧ u.ecc.scrubStopped = false ∧ (u.chan channel.val).scrubLate = false ∧ (u.chan channel.val).scrubRank < 4 ∧ u.elapsed (u.chan channel.val).passAt (u.setting 0x6700 2 * 3600000000000) = true :=
  ⟨0, { dramOn with ecc := { scrubStopped := false }, clk := { roots := 96000000000000000 } }, { dramOn with ecc := { scrubStopped := false }, clk := { roots := 96000000000000000 } }, by decide +kernel, by decide +kernel, by decide +kernel, by decide +kernel, by decide +kernel⟩

theorem meets_complementCheck : ∃ (upset : Option (PairRef × U64)) (s : State),
    (upset.elim s fun x => strike s x.1 x.2).available = true :=
  ⟨none, running, by decide +kernel⟩

theorem meets_clearCounts : ∃ (v : Byte) (s : State) (e : Env) (s1 : State) (who : Requester), WriteGoes s e false (wholeWrite 0x6730 1 [v]) actClearCounts s1 who :=
  ⟨1, running, _, _, _, writeGoes_signed (by decide +kernel)⟩

theorem meets_verify : ∃ (v : U64) (s : State) (e : Env) (s1 : State) (who : Requester), WriteGoes s e false (wholeWrite 0x6730 2 (u64 v.toNat)) actVerify s1 who :=
  ⟨0x0001000000000001, teamed, _, _, _, writeGoes_signed (by decide +kernel)⟩

theorem meets_verifyRound : ∃ (s : State),
    s.num 0x6730 5 ≠ 0 ∧ verifyMode s = true ∧ s.elapsed s.ecc.roundAt (s.num 0x6730 5 * 1000000000) = true ∧ s.ecc.roundWaits = [] ∧ s.ecc.verifyRunning = false :=
  ⟨{ teamed with obj := [(objKey 0x6730 5, { val := u16 1 })] }, by decide +kernel⟩

theorem meets_verifyRound_2 : ∃ (s : State),
    s.num 0x6730 5 ≠ 0 ∧ verifyMode s = true ∧ s.elapsed s.ecc.roundAt (s.num 0x6730 5 * 1000000000) = true ∧ s.ecc.roundWaits = [] ∧ s.ecc.verifyRunning = true ∧ s.ecc.verifyRound = false :=
  ⟨{ teamed with obj := [(objKey 0x6730 5, { val := u16 1 })], ecc := { verifyRunning := true, verifyQ := [0] } }, by decide +kernel⟩

theorem meets_verifySectorPlaneDone : ∃ (cellFault : Bool) (s : State) (k : Nat) (rest : List Nat),
    s.ecc.verifyQ = k :: rest ∧ s.ecc.verifyRunning = true ∧ streamIn s (towerOf (k / 8)) = false ∧ verifiable s (k / 8) (k % 8) = true ∧ ((cellFault = true ∨ planeCrc s (k / 8) (k % 8) ≠ (s.plane (k / 8) (k % 8)).crc.toNat)) :=
  ⟨true, { teamed with ecc := { verifyRunning := true, verifyQ := [0] } }, 0, [], by decide +kernel⟩

theorem meets_verifySectorPlaneDone_2 : ∃ (cellFault : Bool) (s : State) (k : Nat) (rest : List Nat),
    s.ecc.verifyQ = k :: rest ∧ s.ecc.verifyRunning = true ∧ streamIn s (towerOf (k / 8)) = false ∧ verifiable s (k / 8) (k % 8) = false :=
  ⟨false, { teamed with ecc := { verifyRunning := true, verifyQ := [2] } }, 2, [], by decide +kernel⟩

theorem meets_keyGenerate : ∃ (slot : Byte) (s : State) (e : Env) (s1 : State) (who : Requester), WriteGoes s e false (wholeWrite 0x6820 1 [slot, 3, 0, 0]) actKey s1 who :=
  ⟨0, running, _, _, _, writeGoes_signed (by decide +kernel)⟩

theorem meets_keyClear : ∃ (slot : Byte) (s : State) (e : Env) (s1 : State) (who : Requester), WriteGoes s e false (wholeWrite 0x6820 1 [slot, 4, 0, 0]) actKey s1 who :=
  ⟨0, running, _, _, _, writeGoes_signed (by decide +kernel)⟩

theorem meets_regionEnable : ∃ (r : Fin 16) (s : State) (e : Env) (s1 : State) (who : Requester), WriteGoes s e false (wholeWrite (0x6810 + r.val) 7 [1]) (actRegion r.val) s1 who :=
  ⟨0, { running with obj := [(objKey 0x6810 2, { val := u64 0x10000 }), (objKey 0x6810 3, { val := u64 0x10000 })] }, _, _, _, writeGoes_signed (by decide +kernel)⟩

theorem meets_regionEnableInitialise : ∃ (r : Fin 16) (s : State) (e : Env) (s1 : State) (who : Requester), WriteGoes s e false (wholeWrite (0x6810 + r.val) 7 [2]) (actRegion r.val) s1 who :=
  ⟨0, { running with obj := [(objKey 0x6810 2, { val := u64 0x10000 }), (objKey 0x6810 3, { val := u64 0x10000 })] }, _, _, _, writeGoes_signed (by decide +kernel)⟩

theorem meets_regionDisable : ∃ (r : Fin 16) (s : State) (e : Env) (s1 : State) (who : Requester), WriteGoes s e false (wholeWrite (0x6810 + r.val) 7 [3]) (actRegion r.val) s1 who :=
  ⟨0, { running with crypt := { regions := [(0, { state := 2 })] } }, _, _, _, writeGoes_signed (by decide +kernel)⟩

theorem meets_regionInitialised : ∃ (r : Fin 16) (s : State),
    (s.region r.val).state = 1 :=
  ⟨0, { running with crypt := { regions := [(0, { state := 1 })] } }, by decide +kernel⟩

theorem meets_sync : ∃ (m : SyncMsg) (s : State),
    s.available = true ∧ ourDomain s m.domain = true ∧ s.time.best = some (m.port.val, m.gm) ∧ ((s.time.state = 2 ∨ s.time.state = 3)) :=
  ⟨⟨0, 0, 5, 1000, 1100⟩, { running with time := { state := 3, best := some (0, 5) } }, by decide +kernel⟩

theorem meets_sync_2 : ∃ (m : SyncMsg) (s : State),
    s.available = true ∧ ourDomain s m.domain = true ∧ (s.time.best = some (m.port.val, m.gm) ∨ (s.time.state = 4 ∧ s.time.gm = m.gm ∧ s.time.gmPort = m.port.val)) ∧ s.time.state ≠ 2 ∧ s.time.state ≠ 3 :=
  ⟨⟨0, 0, 5, 1000, 1100⟩, { running with time := { state := 4, best := some (0, 5) } }, by decide +kernel⟩

theorem meets_announce : ∃ (m : AnnounceMsg) (s : State) (v : List Nat),
    s.available = true ∧ ourDomain s m.domain = true ∧ v = [m.priority1.toNat, m.clockClass.toNat, m.accuracy.toNat, m.variance.toNat, m.priority2.toNat, m.identity.toNat, m.stepsRemoved.toNat] :=
  ⟨⟨0, 0, 5, 128, 6, 0x21, 100, 128, 0⟩, running, _, by decide +kernel, by decide +kernel, rfl⟩

theorem meets_pdelay : ∃ (m : PdelayMsg) (s : State),
    s.available = true :=
  ⟨⟨0, 100, 150, 160, 210, 0x100000000⟩, running, by decide +kernel⟩

theorem meets_syncTimeout : ∃ (s : State),
    ((s.time.state = 2 ∨ s.time.state = 3)) ∧ s.elapsed s.time.lastSync (3 * syncInterval s) = true :=
  ⟨{ running with time := { state := 3 } }, by decide +kernel⟩

theorem meets_timeSet : ∃ (v : U64) (s : State) (e : Env) (s1 : State) (who : Requester), WriteGoes s e false (wholeWrite 0x6902 1 (u64 v.toNat)) actTimeSet s1 who :=
  ⟨1000, running, _, _, _, writeGoes_signed (by decide +kernel)⟩

theorem meets_syncInterval : ∃ (port : Fin 2) (s : State),
    s.available = true ∧ field s.time.roles (4 * port.val + 3) (4 * port.val) = 1 ∧ (s.lane (48 + port.val)).state = 5 ∧ s.elapsed (if port.val = 0 then s.time.sent0 else s.time.sent1) (syncInterval s) = true :=
  ⟨0, { laneIn 48 { state := 5 } with time := { roles := 1 } }, by decide +kernel⟩

theorem meets_inputEdge : ∃ (b : Fin 8) (pin : Fin 48) (rising : Bool) (time : U64) (fraction : Byte) (s : State) (u : State) (up : Bool) (n : Nat),
    u = usePin s b.val pin.val ∧ up = (rising != bit (pinSet u b.val pin.val) 25) ∧ (u.bank b.val).state = 1 ∧ pinObeys u b.val pin.val = true ∧ bit (pinSet u b.val pin.val) 0 = true ∧ bit (pinSet u b.val pin.val) (if up then 3 else 4) = true ∧ (((u.pin b.val pin.val).recordedAt = rootOf u time.toNat fraction.toNat / 16 + 1 → bit (u.pin b.val pin.val).recordedEdges (if up then 0 else 1) = false)) ∧ n = (u.bank b.val).draining.getD 0 :=
  ⟨0, 0, true, 9000000000, 0, bankOn {} {}, _, true, _, rfl, by decide +kernel, by decide +kernel, by decide +kernel, by decide +kernel, by decide +kernel, by decide +kernel, rfl⟩

theorem meets_inputDrain : ∃ (b : Fin 8) (s : State),
    drains s b.val = true ∧ (s.bank b.val).retryAt = 0 :=
  ⟨0, bankOn { inQ := [⟨5, 0⟩] } {}, by decide +kernel⟩

theorem meets_drainRetry : ∃ (b : Fin 8) (s : State),
    drains s b.val = true ∧ (s.bank b.val).retryAt ≠ 0 ∧ s.elapsed ((s.bank b.val).retryAt - 1) (s.num (0x6910 + b.val) 6) = true :=
  ⟨0, bankOn { inQ := [⟨5, 0⟩], retryAt := 1 } {}, by decide +kernel⟩

theorem meets_outputPoll : ∃ (b : Fin 8) (s : State) (u : State) (n : Nat) (bs : List Byte),
    u = updBank s b.val (fun x => { x with polledAt := s.now }) ∧ (s.bank b.val).state = 1 ∧ (s.bank b.val).drainUntil = none ∧ s.num (0x6910 + b.val) 3 < 16 ∧ (s.bank b.val).outQ.length < 32 ∧ (windowStatus u (s.num (0x6910 + b.val) 3)).2.1 = 0 ∧ n = min (min 16 (32 - (s.bank b.val).outQ.length)) ((u.window (s.num (0x6910 + b.val) 3)).fill / 16) ∧ n = 0 :=
  ⟨0, { windowed with banks := [(0, { state := 1 })], obj := [(objKey 0x6520 1, { val := [1] }), (objKey 0x6520 3, { val := u32 256 }), (objKey 0x6910 3, { val := [0] })], pan := { windows := [(0, { wr := 64, fill := 0 })] } }, updBank ({ windowed with banks := [(0, { state := 1 })], obj := [(objKey 0x6520 1, { val := [1] }), (objKey 0x6520 3, { val := u32 256 }), (objKey 0x6910 3, { val := [0] })], pan := { windows := [(0, { wr := 64, fill := 0 })] } }) 0 fun x => { x with polledAt := 96000000000 }, 0, [], rfl, by decide +kernel, by decide +kernel, by decide +kernel, by decide +kernel, by decide +kernel, by decide +kernel, by decide +kernel⟩

theorem meets_outputPoll_2 : ∃ (b : Fin 8) (s : State) (u : State) (n : Nat) (bs : List Byte),
    u = updBank s b.val (fun x => { x with polledAt := s.now }) ∧ (s.bank b.val).state = 1 ∧ (s.bank b.val).drainUntil = none ∧ s.num (0x6910 + b.val) 3 < 16 ∧ (s.bank b.val).outQ.length < 32 ∧ (windowStatus u (s.num (0x6910 + b.val) 3)).2.1 = 0 ∧ n = min (min 16 (32 - (s.bank b.val).outQ.length)) ((u.window (s.num (0x6910 + b.val) 3)).fill / 16) ∧ n ≠ 0 ∧ (windowPop u (s.num (0x6910 + b.val) 3) (16 * n) .good).2.1 = 0 ∧ bs = (windowPop u (s.num (0x6910 + b.val) 3) (16 * n) .good).2.2 :=
  ⟨0, { windowed with banks := [(0, { state := 1 })], obj := [(objKey 0x6520 1, { val := [1] }), (objKey 0x6520 3, { val := u32 256 }), (objKey 0x6910 3, { val := [0] })], pan := { windows := [(0, { wr := 64, fill := 64 })] } }, updBank ({ windowed with banks := [(0, { state := 1 })], obj := [(objKey 0x6520 1, { val := [1] }), (objKey 0x6520 3, { val := u32 256 }), (objKey 0x6910 3, { val := [0] })], pan := { windows := [(0, { wr := 64, fill := 64 })] } }) 0 fun x => { x with polledAt := 96000000000 }, 4, (windowPop (updBank ({ windowed with banks := [(0, { state := 1 })], obj := [(objKey 0x6520 1, { val := [1] }), (objKey 0x6520 3, { val := u32 256 }), (objKey 0x6910 3, { val := [0] })], pan := { windows := [(0, { wr := 64, fill := 64 })] } }) 0 fun x => { x with polledAt := 96000000000 }) 0 64 .good).2.2, rfl, by decide +kernel, by decide +kernel, by decide +kernel, by decide +kernel, by decide +kernel, by decide +kernel, by decide +kernel, by decide +kernel, rfl⟩

theorem meets_outputEntryExecute : ∃ (b : Fin 8) (s : State) (u : State) (e : IoEntry) (rest : List IoEntry),
    (s.bank b.val).outQ = e :: rest ∧ u = usePin s b.val (entryPin e) ∧ (u.bank b.val).outQ = e :: rest ∧ (u.bank b.val).state = 1 ∧ u.boot.outputsReleased = true ∧ (u.bank b.val).drainUntil = none ∧ e.time = 0 ∧ firstPlace u b.val e / 16 ≤ u.now / 16 :=
  ⟨0, bankOn { outQ := [⟨0, 0x00010000⟩] } {}, _, ⟨0, 0x00010000⟩, [], by decide +kernel, rfl, by decide +kernel, by decide +kernel, by decide +kernel, by decide +kernel, by decide +kernel, by decide +kernel⟩

theorem meets_outputEntryExecute_2 : ∃ (b : Fin 8) (s : State) (u : State) (e : IoEntry) (rest : List IoEntry),
    (s.bank b.val).outQ = e :: rest ∧ u = usePin s b.val (entryPin e) ∧ (u.bank b.val).outQ = e :: rest ∧ (u.bank b.val).state = 1 ∧ u.boot.outputsReleased = true ∧ (u.bank b.val).drainUntil = none ∧ e.time ≠ 0 ∧ firstPlace u b.val e ≤ entryRoot u e ∧ entryRoot u e / 16 ≤ u.now / 16 :=
  ⟨0, bankOn { outQ := [⟨9000000000, 0x00010000⟩] } {}, _, ⟨9000000000, 0x00010000⟩, [], by decide +kernel, rfl, by decide +kernel, by decide +kernel, by decide +kernel, by decide +kernel, by decide +kernel, by decide +kernel, by decide +kernel⟩

theorem meets_outputEntryExecute_3 : ∃ (b : Fin 8) (s : State) (u : State) (e : IoEntry) (rest : List IoEntry),
    (s.bank b.val).outQ = e :: rest ∧ u = usePin s b.val (entryPin e) ∧ (u.bank b.val).outQ = e :: rest ∧ (u.bank b.val).state = 1 ∧ u.boot.outputsReleased = true ∧ (u.bank b.val).drainUntil = none ∧ e.time ≠ 0 ∧ entryRoot u e < firstPlace u b.val e ∧ firstPlace u b.val e / 16 ≤ u.now / 16 :=
  ⟨0, bankOn { outQ := [⟨9000000000, 0x00010000⟩], reachedAt := 95999000000 } {}, _, ⟨9000000000, 0x00010000⟩, [], by decide +kernel, rfl, by decide +kernel, by decide +kernel, by decide +kernel, by decide +kernel, by decide +kernel, by decide +kernel, by decide +kernel⟩

theorem meets_returnTimer : ∃ (b : Fin 8) (pin : Fin 48) (s : State) (u : State) (t : Nat) (act : Nat),
    u = usePin s b.val pin.val ∧ (u.pin b.val pin.val).ret = some (t, act) ∧ t / 16 ≤ u.now / 16 ∧ (((u.pin b.val pin.val).changedAt ≠ 0 → ((u.pin b.val pin.val).changedAt - 1) / 16 < t / 16 ∨ ((u.pin b.val pin.val).changedAt - 1) / 16 < u.now / 16)) ∧ (act = 0 ∨ act = 1) :=
  ⟨0, 0, bankOn {} { ret := some (5, 1) }, _, 5, 1, rfl, by decide +kernel, by decide +kernel, by decide +kernel, by decide +kernel⟩

theorem meets_returnTimer_2 : ∃ (b : Fin 8) (pin : Fin 48) (s : State) (u : State) (t : Nat) (act : Nat),
    u = usePin s b.val pin.val ∧ (u.pin b.val pin.val).ret = some (t, act) ∧ t / 16 ≤ u.now / 16 ∧ (((u.pin b.val pin.val).changedAt ≠ 0 → ((u.pin b.val pin.val).changedAt - 1) / 16 < t / 16 ∨ ((u.pin b.val pin.val).changedAt - 1) / 16 < u.now / 16)) ∧ act = 2 :=
  ⟨0, 0, bankOn {} { ret := some (5, 2) }, _, 5, 2, rfl, by decide +kernel, by decide +kernel, by decide +kernel, by decide +kernel⟩

theorem meets_returnTimer_3 : ∃ (b : Fin 8) (pin : Fin 48) (s : State) (u : State) (t : Nat) (act : Nat),
    u = usePin s b.val pin.val ∧ (u.pin b.val pin.val).ret = some (t, act) ∧ t / 16 ≤ u.now / 16 ∧ (((u.pin b.val pin.val).changedAt ≠ 0 → ((u.pin b.val pin.val).changedAt - 1) / 16 < t / 16 ∨ ((u.pin b.val pin.val).changedAt - 1) / 16 < u.now / 16)) ∧ act = 3 :=
  ⟨0, 0, bankOn {} { ret := some (5, 3) }, _, 5, 3, rfl, by decide +kernel, by decide +kernel, by decide +kernel, by decide +kernel⟩

theorem meets_ioBankStart : ∃ (b : Fin 8) (s : State) (e : Env) (s1 : State) (who : Requester), WriteGoes s e false (wholeWrite (0x6910 + b.val) 2 [1]) (actBank b.val) s1 who ∧ (s1.bank 0).state ≠ 1 :=
  ⟨0, { running with obj := [(objKey 0x6910 4, { val := u64 0x200000000000 })] }, _, _, _, writeGoes_signed (by decide +kernel), by decide +kernel⟩

theorem meets_ioBankStop : ∃ (b : Fin 8) (s : State) (e : Env) (s1 : State) (who : Requester), WriteGoes s e false (wholeWrite (0x6910 + b.val) 2 [2]) (actBank b.val) s1 who :=
  ⟨0, running, _, _, _, writeGoes_signed (by decide +kernel)⟩

theorem meets_laneStart : ∃ (n : Fin 48) (s : State) (e : Env) (s1 : State) (who : Requester), WriteGoes s e false (wholeWrite (0x6A00 + n.val) 7 [1]) (actLane n.val) s1 who :=
  ⟨0, running, _, _, _, writeGoes_signed (by decide +kernel)⟩

theorem meets_laneStop : ∃ (n : Fin 48) (s : State) (e : Env) (s1 : State) (who : Requester), WriteGoes s e false (wholeWrite (0x6A00 + n.val) 7 [2]) (actLane n.val) s1 who :=
  ⟨0, running, _, _, _, writeGoes_signed (by decide +kernel)⟩

theorem meets_laneReceiverDetected : ∃ (l : LaneId) (s : State),
    (s.lane (laneKey l)).state = 1 ∧ lanesSupplied s = true :=
  ⟨.user 0, laneIn 0 { state := 1, step := 1 }, by decide +kernel⟩

theorem meets_laneLocked : ∃ (l : LaneId) (fom : Nat) (s : State) (u : State),
    fomMin s (laneKey l) ≤ fom ∧ lanesSupplied s = true ∧ u = updLane s (laneKey l) (fun x => { x with fom := min 1023 fom }) ∧ (s.lane (laneKey l)).state = 2 ∧ (s.lane (laneKey l)).step = 4 ∧ laneMode s (laneKey l) = 2 :=
  ⟨.user 0, 160, { laneIn 0 { state := 2, step := 4 } with obj := [(objKey 0x6A00 1, { val := u32 0x00080000 })] }, _, by decide +kernel, by decide +kernel, rfl, by decide +kernel, by decide +kernel, by decide +kernel⟩

theorem meets_laneLocked_2 : ∃ (l : LaneId) (fom : Nat) (s : State) (u : State),
    fomMin s (laneKey l) ≤ fom ∧ lanesSupplied s = true ∧ u = updLane s (laneKey l) (fun x => { x with fom := min 1023 fom }) ∧ (s.lane (laneKey l)).state = 2 ∧ (s.lane (laneKey l)).step = 4 ∧ laneMode s (laneKey l) ≠ 2 :=
  ⟨.user 0, 160, { laneIn 0 { state := 2, step := 4 } with obj := [(objKey 0x6A00 1, { val := u32 0x00040000 })] }, _, by decide +kernel, by decide +kernel, rfl, by decide +kernel, by decide +kernel, by decide +kernel⟩

theorem meets_laneLocked_3 : ∃ (l : LaneId) (fom : Nat) (s : State) (u : State),
    fomMin s (laneKey l) ≤ fom ∧ lanesSupplied s = true ∧ u = updLane s (laneKey l) (fun x => { x with fom := min 1023 fom }) ∧ (s.lane (laneKey l)).state = 7 ∧ (s.lane (laneKey l)).step = 4 :=
  ⟨.user 0, 160, laneIn 0 { state := 7, step := 4 }, _, by decide +kernel, by decide +kernel, rfl, by decide +kernel, by decide +kernel⟩

theorem meets_laneLocked_4 : ∃ (l : LaneId) (fom : Nat) (s : State) (u : State),
    fomMin s (laneKey l) ≤ fom ∧ lanesSupplied s = true ∧ u = updLane s (laneKey l) (fun x => { x with fom := min 1023 fom }) ∧ (s.lane (laneKey l)).state = 4 ∧ (s.lane (laneKey l)).step = 8 :=
  ⟨.user 0, 160, laneIn 0 { state := 4, step := 8 }, _, by decide +kernel, by decide +kernel, rfl, by decide +kernel, by decide +kernel⟩

theorem meets_laneLocked_5 : ∃ (l : LaneId) (fom : Nat) (s : State) (u : State),
    fomMin s (laneKey l) ≤ fom ∧ lanesSupplied s = true ∧ u = updLane s (laneKey l) (fun x => { x with fom := min 1023 fom }) ∧ (s.lane (laneKey l)).state = 4 ∧ (s.lane (laneKey l)).step = 9 :=
  ⟨.user 0, 160, laneIn 0 { state := 4, step := 9 }, _, by decide +kernel, by decide +kernel, rfl, by decide +kernel, by decide +kernel⟩

theorem meets_laneTs2Received : ∃ (l : LaneId) (maxRate : Byte) (hitch : Bool) (pre : Byte) (post : Byte) (s : State),
    (s.lane (laneKey l)).state = 3 ∧ (s.lane (laneKey l)).step = 5 ∧ ((50 ≤ laneKey l → hitch = true)) :=
  ⟨.chain true, 7, true, 0, 0, laneIn 51 { state := 3, step := 5 }, by decide +kernel⟩

theorem meets_laneStep : ∃ (l : LaneId) (s : State) (r : Nat),
    nextRate s (laneKey l) = some r ∧ (s.lane (laneKey l)).state = 4 ∧ (s.lane (laneKey l)).step = 6 :=
  ⟨.user 0, { laneIn 0 { state := 4, step := 6, rate := 0, partnerMax := 8 } with obj := [(objKey 0x6A00 1, { val := u32 0x07080000 })] }, 1, by decide +kernel⟩

theorem meets_laneActive : ∃ (l : LaneId) (slow : Bool) (s : State),
    (s.lane (laneKey l)).step = 7 ∧ ((slow = true → 48 ≤ laneKey l → laneKey l < 50 → (s.lane (laneKey l)).rate ≠ 0)) :=
  ⟨.user 0, true, laneIn 0 { state := 4, step := 7 }, by decide +kernel⟩

theorem meets_laneActive_2 : ∃ (l : LaneId) (s : State),
    (s.lane (laneKey l)).step = 7 ∧ 48 ≤ laneKey l ∧ laneKey l < 50 ∧ (s.lane (laneKey l)).rate = 0 :=
  ⟨.service 0, laneIn 48 { state := 4, step := 7, rate := 0 }, by decide +kernel⟩

theorem meets_laneBringupLimit : ∃ (l : LaneId) (s : State),
    (s.lane (laneKey l)).state = 1 ∧ s.elapsed (s.lane (laneKey l)).stepAt 100000 = true :=
  ⟨.user 0, laneIn 0 { state := 1, step := 1 }, by decide +kernel⟩

theorem meets_laneBringupLimit_2 : ∃ (l : LaneId) (s : State),
    ((s.lane (laneKey l)).state = 2 ∨ (s.lane (laneKey l)).state = 7) ∧ (s.lane (laneKey l)).step = 4 ∧ (laneKey l < 48 ∨ 50 ≤ laneKey l) ∧ s.elapsed (s.lane (laneKey l)).stepAt 2000000 = true :=
  ⟨.user 0, laneIn 0 { state := 2, step := 4 }, by decide +kernel⟩

theorem meets_laneBringupLimit_3 : ∃ (l : LaneId) (s : State),
    (s.lane (laneKey l)).state = 4 ∧ (s.lane (laneKey l)).step = 9 ∧ s.elapsed (s.lane (laneKey l)).stepAt 2000000 = true :=
  ⟨.user 0, laneIn 0 { state := 4, step := 9 }, by decide +kernel⟩

theorem meets_laneBringupLimit_4 : ∃ (l : LaneId) (s : State),
    (s.lane (laneKey l)).state = 3 ∧ (s.lane (laneKey l)).step = 5 ∧ s.elapsed (s.lane (laneKey l)).stepAt 1000000 = true :=
  ⟨.user 0, laneIn 0 { state := 3, step := 5 }, by decide +kernel⟩

theorem meets_laneBringupLimit_5 : ∃ (l : LaneId) (s : State),
    (s.lane (laneKey l)).state = 4 ∧ (s.lane (laneKey l)).step = 6 ∧ s.elapsed (s.lane (laneKey l)).stepAt 2000000 = true :=
  ⟨.user 0, laneIn 0 { state := 4, step := 6 }, by decide +kernel⟩

theorem meets_laneBringupLimit_6 : ∃ (l : LaneId) (s : State),
    (s.lane (laneKey l)).state = 4 ∧ (s.lane (laneKey l)).step = 8 ∧ s.elapsed (s.lane (laneKey l)).stepAt 2000000 = true :=
  ⟨.user 0, laneIn 0 { state := 4, step := 8 }, by decide +kernel⟩

theorem meets_laneRetryTimer : ∃ (l : LaneId) (s : State),
    (s.lane (laneKey l)).state = 6 ∧ s.elapsed (s.lane (laneKey l)).failedAt 1000000000 = true :=
  ⟨.user 0, laneIn 0 { state := 6 }, by decide +kernel⟩

theorem meets_lockLost : ∃ (l : LaneId) (s : State),
    ((s.lane (laneKey l)).state = 5 ∨ (s.lane (laneKey l)).state = 8) :=
  ⟨.user 0, laneIn 0 { state := 5 }, by decide +kernel⟩

theorem meets_serviceLaneAutoTry : ∃ (p : Fin 2) (s : State),
    s.num 0x6A50 (1 + p.val) = 0 ∧ (s.lane (48 + p.val)).state = 2 ∧ (s.lane (48 + p.val)).step = 4 ∧ s.elapsed (s.lane (48 + p.val)).stepAt 100000000 = true :=
  ⟨0, laneIn 48 { state := 2, step := 4 }, by decide +kernel⟩

theorem meets_laneRxPush : ∃ (n : Fin 48) (units : List RxUnit) (s : State) (u : State) (v : State),
    ((s.lane n.val).state = 5 ∨ (s.lane n.val).state = 8) ∧ u = (joinK (units.flatMap fun x => if x = .idle then (if bit (laneCfg s n.val) 23 then [] else idleUnits s n.val) else [x])).foldl (rxUnit n.val) s ∧ v = (if (u.lane n.val).retryAt = 0 then pushData u n.val else u) :=
  ⟨0, [], laneIn 0 { state := 5 }, laneIn 0 { state := 5 }, laneIn 0 { state := 5 }, by decide +kernel, rfl, rfl⟩

theorem meets_lanePushRetry : ∃ (n : Fin 48) (s : State),
    (s.lane n.val).retryAt ≠ 0 ∧ s.elapsed ((s.lane n.val).retryAt - 1) 1000 = true ∧ (s.lane n.val).markRetryAt = 0 :=
  ⟨0, laneIn 0 { retryAt := 1 }, by decide +kernel⟩

theorem meets_lanePushRetry_2 : ∃ (n : Fin 48) (s : State),
    (s.lane n.val).markRetryAt ≠ 0 ∧ s.elapsed ((s.lane n.val).markRetryAt - 1) 1000 = true ∧ (s.lane n.val).retryAt = 0 :=
  ⟨0, laneIn 0 { markRetryAt := 1 }, by decide +kernel⟩

theorem meets_laneTxPop : ∃ (n : Fin 48) (s : State) (u : State) (w : Nat) (len : Nat) (bad : Bool) (ahead : List Byte),
    w = s.num (0x6A00 + n.val) 4 ∧ laneSends s n.val = true ∧ w < 16 ∧ (windowStatus s w).2.1 = 0 ∧ ahead = (windowIndexed s w 0 (min 1024 ((s.window w).fill / 8 * 8)) none .good).2.2 ∧ wholeRecords 129 0 ahead = (len, bad) ∧ ((len = 0 ∧ u = s ∨ len ≠ 0 ∧ (windowPop s w len .good).2.1 = 0 ∧ u = sendRecords n.val 129 (windowPop s w len .good).2.2 (windowPop s w len .good).1)) ∧ bad = false :=
  ⟨0, { laneIn 0 { state := 5 } with obj := [(objKey 0x6520 1, { val := [1] }), (objKey 0x6520 3, { val := u32 256 }), (objKey 0x6A00 1, { val := u32 0x00010000 }), (objKey 0x6A00 4, { val := [0] })], pan := { mem := [(2, 5)], windows := [(0, { wr := 16, fill := 16 })] } }, sendRecords 0 129 (windowPop ({ laneIn 0 { state := 5 } with obj := [(objKey 0x6520 1, { val := [1] }), (objKey 0x6520 3, { val := u32 256 }), (objKey 0x6A00 1, { val := u32 0x00010000 }), (objKey 0x6A00 4, { val := [0] })], pan := { mem := [(2, 5)], windows := [(0, { wr := 16, fill := 16 })] } }) 0 (wholeRecords 129 0 (windowIndexed ({ laneIn 0 { state := 5 } with obj := [(objKey 0x6520 1, { val := [1] }), (objKey 0x6520 3, { val := u32 256 }), (objKey 0x6A00 1, { val := u32 0x00010000 }), (objKey 0x6A00 4, { val := [0] })], pan := { mem := [(2, 5)], windows := [(0, { wr := 16, fill := 16 })] } }) 0 0 16 none .good).2.2).1 .good).2.2 (windowPop ({ laneIn 0 { state := 5 } with obj := [(objKey 0x6520 1, { val := [1] }), (objKey 0x6520 3, { val := u32 256 }), (objKey 0x6A00 1, { val := u32 0x00010000 }), (objKey 0x6A00 4, { val := [0] })], pan := { mem := [(2, 5)], windows := [(0, { wr := 16, fill := 16 })] } }) 0 (wholeRecords 129 0 (windowIndexed ({ laneIn 0 { state := 5 } with obj := [(objKey 0x6520 1, { val := [1] }), (objKey 0x6520 3, { val := u32 256 }), (objKey 0x6A00 1, { val := u32 0x00010000 }), (objKey 0x6A00 4, { val := [0] })], pan := { mem := [(2, 5)], windows := [(0, { wr := 16, fill := 16 })] } }) 0 0 16 none .good).2.2).1 .good).1, 0, (wholeRecords 129 0 (windowIndexed ({ laneIn 0 { state := 5 } with obj := [(objKey 0x6520 1, { val := [1] }), (objKey 0x6520 3, { val := u32 256 }), (objKey 0x6A00 1, { val := u32 0x00010000 }), (objKey 0x6A00 4, { val := [0] })], pan := { mem := [(2, 5)], windows := [(0, { wr := 16, fill := 16 })] } }) 0 0 16 none .good).2.2).1, false, (windowIndexed ({ laneIn 0 { state := 5 } with obj := [(objKey 0x6520 1, { val := [1] }), (objKey 0x6520 3, { val := u32 256 }), (objKey 0x6A00 1, { val := u32 0x00010000 }), (objKey 0x6A00 4, { val := [0] })], pan := { mem := [(2, 5)], windows := [(0, { wr := 16, fill := 16 })] } }) 0 0 16 none .good).2.2, by decide +kernel, by decide +kernel, by decide +kernel, by decide +kernel, by decide +kernel, Prod.ext rfl (by decide +kernel), .inr ⟨by decide +kernel, by decide +kernel, rfl⟩, by decide +kernel⟩

theorem meets_laneTxPop_2 : ∃ (n : Fin 48) (s : State) (u : State) (w : Nat) (len : Nat) (bad : Bool) (ahead : List Byte),
    w = s.num (0x6A00 + n.val) 4 ∧ laneSends s n.val = true ∧ w < 16 ∧ (windowStatus s w).2.1 = 0 ∧ ahead = (windowIndexed s w 0 (min 1024 ((s.window w).fill / 8 * 8)) none .good).2.2 ∧ wholeRecords 129 0 ahead = (len, bad) ∧ ((len = 0 ∧ u = s ∨ len ≠ 0 ∧ (windowPop s w len .good).2.1 = 0 ∧ u = sendRecords n.val 129 (windowPop s w len .good).2.2 (windowPop s w len .good).1)) ∧ bad = true :=
  ⟨0, { laneIn 0 { state := 5 } with obj := [(objKey 0x6520 1, { val := [1] }), (objKey 0x6520 3, { val := u32 256 }), (objKey 0x6A00 1, { val := u32 0x00010000 }), (objKey 0x6A00 4, { val := [0] })], pan := { mem := [(2, 0)], windows := [(0, { wr := 16, fill := 16 })] } }, { laneIn 0 { state := 5 } with obj := [(objKey 0x6520 1, { val := [1] }), (objKey 0x6520 3, { val := u32 256 }), (objKey 0x6A00 1, { val := u32 0x00010000 }), (objKey 0x6A00 4, { val := [0] })], pan := { mem := [(2, 0)], windows := [(0, { wr := 16, fill := 16 })] } }, 0, (wholeRecords 129 0 (windowIndexed ({ laneIn 0 { state := 5 } with obj := [(objKey 0x6520 1, { val := [1] }), (objKey 0x6520 3, { val := u32 256 }), (objKey 0x6A00 1, { val := u32 0x00010000 }), (objKey 0x6A00 4, { val := [0] })], pan := { mem := [(2, 0)], windows := [(0, { wr := 16, fill := 16 })] } }) 0 0 16 none .good).2.2).1, true, (windowIndexed ({ laneIn 0 { state := 5 } with obj := [(objKey 0x6520 1, { val := [1] }), (objKey 0x6520 3, { val := u32 256 }), (objKey 0x6A00 1, { val := u32 0x00010000 }), (objKey 0x6A00 4, { val := [0] })], pan := { mem := [(2, 0)], windows := [(0, { wr := 16, fill := 16 })] } }) 0 0 16 none .good).2.2, by decide +kernel, by decide +kernel, by decide +kernel, by decide +kernel, by decide +kernel, Prod.ext rfl (by decide +kernel), .inl ⟨by decide +kernel, rfl⟩, by decide +kernel⟩

theorem meets_laneAdaptStep : ∃ (l : LaneId) (setting : Fin 6) (up : Bool) (s : State),
    ((s.lane (laneKey l)).state = 5 ∨ (s.lane (laneKey l)).state = 8) ∧ s.elapsed (AMap.get 0 (s.lane (laneKey l)).adaptAt setting.val) 100000 = true :=
  ⟨.user 0, 0, true, laneIn 0 { state := 5 }, by decide +kernel⟩

theorem meets_sealN : ∃ (opened : Bool) (widthMs : Nat) (s : State),
    s.sealed.enabled = true ∧ 10 ≤ widthMs ∧ s.sealed.isOpen ≠ opened :=
  ⟨true, 10, { running with sealed := { enabled := true } }, by decide +kernel⟩

theorem meets_sealN_2 : ∃ (opened : Bool) (widthMs : Nat) (s : State),
    s.sealed.enabled = false ∧ 10 ≤ widthMs ∧ s.sealed.isOpen ≠ opened :=
  ⟨true, 10, running, by decide +kernel⟩

theorem meets_parameterImageCheck : ∃ (s : State),
    s.sealed.enabled = true ∧ ((∀ p < 256, imageOk (storeCheck s) p = true)) ∧ overwritten (storeCheck s) = [] :=
  ⟨writeSealedStatus { running with sealed := { enabled := true } }, by decide +kernel, fun p hp => List.all_eq_true.mp (by decide +kernel : ((List.range 256).all fun p => imageOk (storeCheck (writeSealedStatus { running with sealed := { enabled := true } })) p) = true) p (List.mem_range.mpr hp), by decide +kernel⟩

theorem meets_parameterImageCheck_2 : ∃ (s : State),
    s.sealed.enabled = true ∧ ((∀ p < 256, imageOk (storeCheck s) p = true)) ∧ overwritten (storeCheck s) ≠ [] :=
  ⟨{ running with sealed := { enabled := true }, pan := { mem := [(0x7C0A00, 1)] } }, by decide +kernel, fun p hp => List.all_eq_true.mp (by decide +kernel : ((List.range 256).all fun p => imageOk (storeCheck ({ running with sealed := { enabled := true }, pan := { mem := [(0x7C0A00, 1)] } })) p) = true) p (List.mem_range.mpr hp), by decide +kernel⟩

theorem meets_parameterImageCheck_3 : ∃ (s : State) (p : Nat),
    s.sealed.enabled = true ∧ p < 256 ∧ imageOk (storeCheck s) p = false ∧ ((∀ q < p, imageOk (storeCheck s) q = true)) :=
  ⟨{ running with sealed := { enabled := true, table := [(3, { val := 1 })] } }, 3, by decide +kernel⟩

theorem meets_sampleSync : ∃ (p : Fin 8) (s : State),
    portOn s p.val = true ∧ (samplePort s p.val).syncAt < s.tai / (field (portParam s p.val) 15 0 * 1000) * (field (portParam s p.val) 15 0 * 1000) :=
  ⟨0, sampling, by decide +kernel⟩

theorem meets_sampleFrame : ∃ (p : Fin 8) (bits : List Bool) (s : State) (at_ : Nat),
    (samplePort s p.val).due = some at_ ∧ portOn s p.val = true ∧ bits.length = field (portParam s p.val) 47 40 ∧ at_ + field (portParam s p.val) 31 16 * 100 + bits.length * (field (portParam s p.val) 55 48 + 1) * 5 ≤ s.tai ∧ bits.all (· = true) = false ∧ bits.all (· = false) = false :=
  ⟨0, [true, false, true, false, true, false, true, false], sampling, 999950000, by decide +kernel⟩

theorem meets_sampleFrame_2 : ∃ (p : Fin 8) (bits : List Bool) (s : State) (at_ : Nat),
    (samplePort s p.val).due = some at_ ∧ portOn s p.val = true ∧ bits.length = field (portParam s p.val) 47 40 ∧ at_ + field (portParam s p.val) 31 16 * 100 + bits.length * (field (portParam s p.val) 55 48 + 1) * 5 ≤ s.tai ∧ (bits.all (· = true) = true ∨ bits.all (· = false) = true) :=
  ⟨0, List.replicate 8 true, sampling, 999950000, by decide +kernel⟩

theorem meets_modeRun : ∃ (s : State) (e : Env) (s1 : State) (who : Requester), WriteGoes s e false (wholeWrite 0x6001 0 [1]) actMode s1 who :=
  ⟨{ running with power := { mode := .hold } }, _, _, _, writeGoes_signed (by decide +kernel)⟩

theorem meets_modeHold : ∃ (s : State) (e : Env) (s1 : State) (who : Requester), WriteGoes s e false (wholeWrite 0x6001 0 [2]) actMode s1 who :=
  ⟨running, _, _, _, writeGoes_signed (by decide +kernel)⟩

theorem meets_modeStable : ∃ (s : State) (e : Env) (s1 : State) (who : Requester), WriteGoes s e false (wholeWrite 0x6001 0 [3]) actMode s1 who :=
  ⟨running, _, _, _, writeGoes_signed (by decide +kernel)⟩

theorem meets_modeService : ∃ (s : State) (e : Env) (s1 : State) (who : Requester), WriteGoes s e false (wholeWrite 0x6001 0 [4]) actMode s1 who :=
  ⟨running, _, _, _, writeGoes_signed (by decide +kernel)⟩

theorem meets_orderlyStop : ∃ (s : State) (e : Env) (s1 : State) (who : Requester), WriteGoes s e false (wholeWrite 0x6001 0 [5]) actMode s1 who :=
  ⟨running, _, _, _, writeGoes_signed (by decide +kernel)⟩

theorem meets_resume : ∃ (s : State) (e : Env) (s1 : State) (who : Requester), WriteGoes s e false (wholeWrite 0x6001 0 [6]) actMode s1 who :=
  ⟨{ running with power := { mode := .safeStop, lastCause := 1 }, board := { mv := [(0, 1800)] } }, _, _, _, writeGoes_signed (by decide +kernel)⟩

theorem meets_restart : ∃ (s : State) (e : Env) (s1 : State) (who : Requester), WriteGoes s e false (wholeWrite 0x6001 0 [7]) actMode s1 who :=
  ⟨{ running with power := { mode := .service } }, _, _, _, writeGoes_signed (by decide +kernel)⟩

theorem meets_wakeN : ∃ (widthNs : Nat) (s : State),
    s.mode = .stable ∧ 1000 ≤ widthNs ∧ s.num 0x6002 3 = 1 :=
  ⟨1000, { running with power := { mode := .stable }, obj := [(objKey 0x6002 3, { val := [1] })] }, by decide +kernel⟩

theorem meets_wakeTime : ∃ (s : State),
    s.mode = .stable ∧ s.num 0x6002 2 ≠ 0 ∧ s.num 0x6002 2 ≤ s.tai :=
  ⟨{ running with power := { mode := .stable }, obj := [(objKey 0x6002 2, { val := u64 5 })], time := { ns := 5 } }, by decide +kernel⟩

theorem meets_orderlyStopDrainStep : ∃ (s : State),
    stopAt s 0 (graceNs s) = true :=
  ⟨{ running with power := { mode := .run, stop := some { at_ := 0, step := 0, host := true, drain := 0 } } }, by decide +kernel⟩

theorem meets_orderlyStopFlush : ∃ (s : State),
    stopAt s 1 (graceNs s + (s.power.stop.map (·.drain)).getD 0) = true :=
  ⟨{ running with power := { mode := .run, stop := some { at_ := 0, step := 1, host := true, drain := 0 } } }, by decide +kernel⟩

theorem meets_orderlyStopFallbacks : ∃ (s : State),
    stopAt s 2 0 = true ∧ s.mode ≠ .stable :=
  ⟨{ running with power := { mode := .run, stop := some { at_ := 0, step := 2, host := true, drain := 0 } } }, by decide +kernel⟩

theorem meets_orderlyStopFallbacks_2 : ∃ (s : State),
    stopAt s 2 0 = true ∧ s.mode = .stable :=
  ⟨{ running with power := { mode := .stable, stop := some { at_ := 0, step := 2, host := true, drain := 0 } } }, by decide +kernel⟩

theorem meets_safeStopEntry : ∃ (s : State),
    stopAt s 3 0 = true ∧ ((∀ n < 16, (s.team n).fallback = none)) :=
  ⟨{ running with power := { mode := .run, stop := some { at_ := 0, step := 3, host := true, drain := 0 } } }, by decide +kernel, fun _ _ => rfl⟩

theorem meets_sensorExcluded : ∃ (n : Fin 288) (s : State) (at_ : Nat),
    (s.sensor n.val).farAt = some at_ ∧ (s.sensor n.val).excluded = false ∧ sensorOff s n.val = false ∧ 3 ≤ (usableReadings s n.val).length ∧ s.elapsed at_ 50000000 = true :=
  ⟨5, { running with power := { mode := .run, domain := (List.range 48).map fun g => (g, 2), sensors := [(5, { farAt := some 0 })] } }, 0, by decide +kernel⟩

theorem meets_sensorReadmitted : ∃ (n : Fin 288) (s : State) (at_ : Nat),
    (s.sensor n.val).nearAt = some at_ ∧ (s.sensor n.val).excluded = true ∧ sensorOff s n.val = false ∧ offsetDegraded s n.val = false ∧ s.elapsed at_ 1000000000 = true :=
  ⟨5, { running with power := { mode := .run, domain := (List.range 48).map fun g => (g, 2), sensors := [(5, { excluded := true, nearAt := some 0 })] } }, 0, by decide +kernel⟩

theorem meets_readsLowFlag : ∃ (n : Fin 288) (s : State) (x : Int),
    estimateOf s n.val = some x ∧ (s.sensor n.val).readsLow = false ∧ (s.sensor n.val).lowAt.any (fun at_ => s.elapsed at_ 100000000) = true :=
  ⟨192, { running with power := { mode := .run, domain := (List.range 48).map fun g => (g, 2), sensors := [(192, { lowAt := some 0 })] } }, 0, by decide +kernel⟩

theorem meets_readsLowFlag_2 : ∃ (n : Fin 288) (s : State) (x : Int),
    estimateOf s n.val = some x ∧ (s.sensor n.val).readsLow = true ∧ (s.sensor n.val).okAt.any (fun at_ => s.elapsed at_ 1000000000) = true :=
  ⟨192, { running with power := { mode := .run, domain := (List.range 48).map fun g => (g, 2), sensors := [(192, { readsLow := true, okAt := some 0 })] } }, 0, by decide +kernel⟩

theorem meets_gaitStepSlower : ∃ (tower : Fin 4) (s : State),
    s.atBoundary = true ∧ (AMap.get {} s.power.gaits tower.val).crossed = true ∧ (AMap.get {} s.power.gaits tower.val).stepAt = 0 :=
  ⟨0, { running with power := { mode := .run, gaits := [(0, { crossed := true })] } }, by decide +kernel⟩

theorem meets_gaitStepFaster : ∃ (tower : Fin 4) (s : State),
    s.atBoundary = true ∧ (AMap.get {} s.power.gaits tower.val).crossed = false ∧ (AMap.get {} s.power.gaits tower.val).clearAt ≠ 0 ∧ (AMap.get {} s.power.gaits tower.val).thermal ≠ 0 ∧ s.elapsed ((AMap.get {} s.power.gaits tower.val).clearAt - 1) 100000000 = true :=
  ⟨0, { running with power := { mode := .run, gaits := [(0, { thermal := 2, now := 2, clearAt := 1 })] } }, by decide +kernel⟩

theorem meets_gaitFloorWrite : ∃ (v : Byte) (s : State) (e : Env) (s1 : State) (who : Requester), WriteGoes s e false (wholeWrite 0x6B30 2 [v]) actGait s1 who :=
  ⟨1, running, _, _, _, writeGoes_signed (by decide +kernel)⟩

theorem meets_safeN : ∃ (widthNs : Nat) (s : State) (u : State),
    1000 ≤ widthNs ∧ s.available = true ∧ u = usePair { s with power := { s.power with safeLowOutside := true } } 0x6002 4 ∧ s.mode ≠ .safeStop ∧ u.num 0x6002 4 = 1 :=
  ⟨1000, { running with obj := [(objKey 0x6002 4, { val := [1], comp := [0xFE] })] }, _, by decide +kernel, by decide +kernel, rfl, by decide +kernel, by decide +kernel⟩

theorem meets_safeN_2 : ∃ (widthNs : Nat) (s : State) (u : State),
    1000 ≤ widthNs ∧ s.available = true ∧ u = usePair { s with power := { s.power with safeLowOutside := true } } 0x6002 4 ∧ (s.mode = .safeStop ∨ u.num 0x6002 4 ≠ 1) :=
  ⟨1000, { running with obj := [(objKey 0x6002 4, { val := [0], comp := [0xFF] })] }, _, by decide +kernel, by decide +kernel, rfl, by decide +kernel⟩

theorem meets_vinCoreOutOfRange : ∃ (mv : Int) (widthNs : Nat) (s : State),
    -300 ≤ mv ∧ mv ≤ 2100 ∧ ((1700 ≤ mv ∧ mv ≤ 1900) ∨ widthNs < 10000 ∨ s.boot.phase = 0) :=
  ⟨1700, 20000, running, by decide +kernel⟩

theorem meets_vinCoreOutOfRange_2 : ∃ (mv : Int) (widthNs : Nat) (s : State),
    -300 ≤ mv ∧ mv ≤ 2100 ∧ (mv < 1700 ∨ 1900 < mv) ∧ 10000 ≤ widthNs ∧ s.boot.phase ≠ 0 :=
  ⟨1699, 10000, running, by decide +kernel⟩

theorem meets_vauxLow : ∃ (mv : Int) (widthNs : Nat) (s : State),
    -300 ≤ mv ∧ mv ≤ 2100 ∧ (1620 ≤ mv ∨ widthNs < 1000) :=
  ⟨1620, 2000, running, by decide +kernel⟩

theorem meets_vauxLow_2 : ∃ (mv : Int) (widthNs : Nat) (s : State),
    -300 ≤ mv ∧ mv < 1620 ∧ 1000 ≤ widthNs :=
  ⟨1619, 1000, running, by decide +kernel⟩

theorem meets_vdramVppOutOfRange : ∃ (mv : Int) (widthNs : Nat) (s : State),
    -300 ≤ mv ∧ mv ≤ 1400 ∧ (mv < 1067 ∨ 1133 < mv) ∧ 10000 ≤ widthNs ∧ s.boot.phase ≠ 0 :=
  ⟨1066, 10000, running, by decide +kernel⟩

theorem meets_vdramVppOutOfRange_2 : ∃ (mv : Int) (widthNs : Nat) (s : State),
    -300 ≤ mv ∧ mv ≤ 2100 ∧ (mv < 1710 ∨ 1890 < mv) ∧ 10000 ≤ widthNs ∧ s.boot.phase ≠ 0 :=
  ⟨1891, 10000, running, by decide +kernel⟩

theorem meets_vdramVppOutOfRange_3 : ∃ (mv : Int) (widthNs : Nat) (s : State),
    -300 ≤ mv ∧ 1067 ≤ mv ∧ mv ≤ 1133 :=
  ⟨1133, 10000, running, by decide +kernel⟩

theorem meets_vlaneOutOfRange : ∃ (mv : Int) (widthNs : Nat) (s : State),
    -300 ≤ mv ∧ mv ≤ 1500 ∧ (mv < 1164 ∨ 1236 < mv) ∧ 10000 ≤ widthNs ∧ s.boot.phase ≠ 0 :=
  ⟨1237, 10000, running, by decide +kernel⟩

theorem meets_vlaneOutOfRange_2 : ∃ (mv : Int) (widthNs : Nat) (s : State),
    -300 ≤ mv ∧ mv ≤ 1100 ∧ (mv < 873 ∨ 927 < mv) ∧ 10000 ≤ widthNs ∧ s.boot.phase ≠ 0 :=
  ⟨872, 10000, running, by decide +kernel⟩

theorem meets_vccioOutOfRange : ∃ (b : Fin 8) (mv : Int) (widthNs : Nat) (s : State),
    -300 ≤ mv ∧ mv ≤ (if b.val < 6 then 2100 else 3800) :=
  ⟨6, 3800, 1000, running, by decide +kernel⟩

theorem meets_rootPllLockLoss : ∃ (s : State),
    1 ≤ s.boot.phase ∧ s.mode ≠ .safeStop :=
  ⟨running, by decide +kernel⟩

theorem meets_stakeMonitorError : ∃ (g : StakeGroup) (vias : List (Fin 81)) (s : State) (at_ : AMap Nat),
    monitored s g = true ∧ groupFailed s (groupKey g) = false ∧ at_ = AMap.set 0 s.test.monAt (match g with | .cluster x _ => towerOf x.val | .tower x _ _ => x.val) (s.now + 1) ∧ ((AMap.get [] s.test.monErr (groupKey g)).filter fun x => !s.elapsed x 1000000).length < 2 :=
  ⟨.cluster 0 0, [0], teamed, _, by decide +kernel, by decide +kernel, rfl, by decide +kernel⟩

theorem meets_stakeMonitorError_2 : ∃ (g : StakeGroup) (vias : List (Fin 81)) (s : State) (at_ : AMap Nat),
    monitored s g = true ∧ groupFailed s (groupKey g) = false ∧ at_ = AMap.set 0 s.test.monAt (match g with | .cluster x _ => towerOf x.val | .tower x _ _ => x.val) (s.now + 1) ∧ 2 ≤ ((AMap.get [] s.test.monErr (groupKey g)).filter fun x => !s.elapsed x 1000000).length :=
  ⟨.cluster 0 0, [0], { teamed with test := { monErr := [(0, [96000000000, 95999999990])] } }, _, by decide +kernel, by decide +kernel, rfl, by decide +kernel⟩

theorem meets_shift : ∃ (v : BitVec 16) (s : State) (e : Env) (s1 : State) (who : Requester), WriteGoes s e false (wholeWrite 0x6302 1 (u16 v.toNat)) actShift s1 who :=
  ⟨0, { running with power := { mode := .service } }, _, _, _, writeGoes_signed (by decide +kernel)⟩

theorem meets_rowShiftDone : ∃ (s : State) (g : Nat) (row : Nat) (at_ : Nat),
    s.test.shiftBusy = some (g, row, at_) ∧ s.elapsed at_ ((8 - row) * 25000) = true :=
  ⟨{ running with test := { shiftBusy := some (3, 2, 0) } }, 3, 2, 0, by decide +kernel⟩

theorem meets_temperatureCalibration : ∃ (r : CalRun) (s : State),
    s.runOrHold = true ∧ itemMoved s r = true ∧ r.kind.val ≤ 3 :=
  ⟨⟨0, 0, 3200, 0, 0, 0⟩, running, by decide +kernel⟩

theorem meets_calibrateNow : ∃ (runs : List CalRun) (s : State) (e : Env) (s1 : State) (who : Requester), WriteGoes s e false (wholeWrite 0x6B40 2 [1]) (actCalibrate runs) s1 who :=
  ⟨[], running, _, _, _, writeGoes_signed (by decide +kernel)⟩

theorem meets_testRunStart : ∃ (s : State) (e : Env) (s1 : State) (who : Requester), WriteGoes s e false (wholeWrite 0x6C01 3 [1]) actTestRun s1 who :=
  ⟨{ running with power := { mode := .service }, obj := [(objKey 0x6C01 1, { val := [1] })] }, _, _, _, writeGoes_signed (by decide +kernel)⟩

theorem meets_testComplete : ∃ (fails : List FailUnit) (found : List FailUnit) (bad : List Nat) (s : State),
    s.test.testState = 1 ∧ s.elapsed s.test.testAt (testNs s.test.testKind) = true ∧ found = fails.filter (fun f => failsTest s s.test.testKind s.test.testTarget f || takesSpares s.test.testKind s.test.testTarget f) ∧ bad = (found.filter fun f => failsTest s s.test.testKind s.test.testTarget f || siteBeyond s found f).foldl (fun l f => insertNew l (resultEntry f)) [] :=
  ⟨[], _, _, { running with power := { mode := .service }, test := { testState := 1, testKind := 1 } }, by decide +kernel, by decide +kernel, rfl, rfl⟩

theorem meets_jtagOpenWrite : ∃ (v : Byte) (c : Byte) (s : State) (e : Env) (s1 : State) (who : Requester), WriteGoes s e true (pairWrite 0x6C20 1 [v] [c]) actJtagOpen s1 who :=
  ⟨1, ~~~1, running, _, _, _, writeGoes_signed (by decide +kernel)⟩

theorem meets_lockCmd : ∃ (v : Byte) (s : State) (e : Env) (s1 : State) (who : Requester), WriteGoes s e false (wholeWrite 0x6C20 3 [v]) actLock s1 who :=
  ⟨1, running, _, _, _, writeGoes_signed (by decide +kernel)⟩

theorem meets_extest : ∃ (cells : List (Nat × Bool)) (s : State) (u : State),
    u = useJtag s ∧ extestActs u = true :=
  ⟨[(0, true)], starting 5, _, rfl, by decide +kernel⟩

theorem meets_extest_2 : ∃ (cells : List (Nat × Bool)) (s : State) (u : State),
    u = useJtag s ∧ extestActs u = false :=
  ⟨[(0, true)], running, _, rfl, by decide +kernel⟩

theorem meets_samplePreload : ∃ (preload : List (Nat × Bool)) (s : State) (u : State),
    u = useJtag s ∧ jtagOpen u = true :=
  ⟨[(0, true)], starting 5, _, rfl, by decide +kernel⟩

theorem meets_extestPulse : ∃ (l : LaneId) (s : State) (u : State),
    u = useJtag s ∧ extestActs u = true :=
  ⟨.user 0, starting 5, _, rfl, by decide +kernel⟩

theorem meets_extestTrain : ∃ (l : LaneId) (s : State) (u : State),
    u = useJtag s ∧ extestActs u = true :=
  ⟨.user 47, starting 5, _, rfl, by decide +kernel⟩

theorem meets_debug : ∃ (write : Bool) (addr : BitVec 48) (len : Nat) (data : List Byte) (s : State) (u : State),
    u = useJtag s ∧ jtagOpen u = true ∧ 0 < len ∧ len ≤ 1024 ∧ hasCredit u { kind := if write then 2 else 1, initiator := 0x70, src := 0, dst := 0, tag := 0, address := addr.toNat, length := len, use := .debug } = true :=
  ⟨false, 0x100000000000, 1024, [], starting 5, _, rfl, by decide +kernel, by decide +kernel, by decide +kernel, by decide +kernel⟩

theorem meets_dieSelect : ∃ (die : Fin 25) (s : State) (u : State),
    u = useJtag s ∧ jtagOpen u = true ∧ u.mode = .service ∧ ((∀ n, dieTower die.val = some n → towerGroupFailed u n 11 = false)) :=
  ⟨0, { running with power := { mode := .service }, obj := [(objKey 0x6C20 1, { val := [1], comp := [0xFE] })] }, { running with power := { mode := .service }, obj := [(objKey 0x6C20 1, { val := [1], comp := [0xFE] })] }, by decide +kernel, by decide +kernel, by decide +kernel, fun n _ => rfl⟩

theorem meets_dieSelect_2 : ∃ (die : Fin 25) (s : State) (u : State) (n : _),
    u = useJtag s ∧ jtagOpen u = true ∧ u.mode = .service ∧ dieTower die.val = some n ∧ towerGroupFailed u n 11 = true :=
  ⟨1, { running with power := { mode := .service }, obj := [(objKey 0x6C20 1, { val := [1], comp := [0xFE] })], test := { failedGroup := [(copyKey 0 11 0, true), (copyKey 0 11 1, true)] } }, { running with power := { mode := .service }, obj := [(objKey 0x6C20 1, { val := [1], comp := [0xFE] })], test := { failedGroup := [(copyKey 0 11 0, true), (copyKey 0 11 1, true)] } }, 0, by decide +kernel, by decide +kernel, by decide +kernel, by decide +kernel, by decide +kernel⟩

theorem meets_dieSelect_3 : ∃ (die : Fin 25) (s : State) (u : State),
    u = useJtag s ∧ (jtagOpen u = false ∨ u.mode ≠ .service) :=
  ⟨1, running, _, rfl, by decide +kernel⟩

theorem meets_counterConfigWrite : ∃ (v : U64) (s : State) (e : Env) (s1 : State) (who : Requester), WriteGoes s e false (wholeWrite 0x6D10 3 (u64 v.toNat)) actCounterConfig s1 who :=
  ⟨0, running, _, _, _, writeGoes_signed (by decide +kernel)⟩

theorem meets_counterClearSelected : ∃ (s : State) (e : Env) (s1 : State) (who : Requester), WriteGoes s e false (wholeWrite 0x6D10 5 [1]) actCounterClear s1 who :=
  ⟨running, _, _, _, writeGoes_signed (by decide +kernel)⟩

theorem meets_counterClearAll : ∃ (s : State) (e : Env) (s1 : State) (who : Requester), WriteGoes s e false (wholeWrite 0x6D10 5 [2]) actCounterClear s1 who :=
  ⟨running, _, _, _, writeGoes_signed (by decide +kernel)⟩

theorem meets_counterMilestone : ∃ (block : BitVec 16) (counter : Fin 16) (s : State) (at_ : Nat) (w : Nat) (rest : List (Nat × Nat)),
    (AMap.get {} s.obs.counters (ctrKey block.toNat counter.val)).due = (at_, w) :: rest :=
  ⟨0x5000, 3, { running with obs := { counters := [(0x50003, { due := [(5, 7)] })] } }, 5, 7, [], by decide +kernel⟩

theorem meets_tallySnapshot : ∃ (s : State),
    s.obs.tallyNext ≠ 0 ∧ s.obs.tallyNext ≤ s.tai ∧ s.mode ≠ .startUp :=
  ⟨{ running with time := { ns := 5 }, obs := { tallyNext := 5 } }, by decide +kernel⟩

theorem meets_snapshotNow : ∃ (s : State) (e : Env) (s1 : State) (who : Requester), WriteGoes s e false (wholeWrite 0x6D22 4 [1]) actSnapshot s1 who :=
  ⟨running, _, _, _, writeGoes_signed (by decide +kernel)⟩

theorem meets_snapshotReadDone : ∃ (s : State) (at_ : Nat) (vs : List U64),
    s.obs.latched = some (at_, vs) :=
  ⟨{ running with obs := { latched := some (5, [1, 2]) } }, 5, [1, 2], by decide +kernel⟩

theorem meets_sampleBufferClear : ∃ (s : State) (e : Env) (s1 : State) (who : Requester), WriteGoes s e false (wholeWrite 0x6D30 6 [1]) actSampleClear s1 who :=
  ⟨running, _, _, _, writeGoes_signed (by decide +kernel)⟩

theorem meets_monitorStart : ∃ (n : Fin 16) (s : State) (e : Env) (s1 : State) (who : Requester), WriteGoes s e false (wholeWrite (0x6D40 + n.val) 5 [1]) (actMonitor n.val) s1 who :=
  ⟨0, { running with obj := [(objKey 0x6D40 1, { val := u16 0 }), (objKey 0x6D40 2, { val := [6] })] }, _, _, _, writeGoes_signed (by decide +kernel)⟩

theorem meets_monitorStop : ∃ (n : Fin 16) (s : State) (e : Env) (s1 : State) (who : Requester), WriteGoes s e false (wholeWrite (0x6D40 + n.val) 5 [2]) (actMonitor n.val) s1 who :=
  ⟨0, running, _, _, _, writeGoes_signed (by decide +kernel)⟩

theorem meets_monitorClear : ∃ (n : Fin 16) (s : State) (e : Env) (s1 : State) (who : Requester), WriteGoes s e false (wholeWrite (0x6D40 + n.val) 5 [3]) (actMonitor n.val) s1 who :=
  ⟨0, running, _, _, _, writeGoes_signed (by decide +kernel)⟩

theorem meets_monitorSample : ∃ (n : Fin 16) (level : Nat) (s : State),
    (s.mon n.val).running = true ∧ (s.mon n.val).sampledAt + s.num (0x6D40 + n.val) 3 * countingRoots (s.num (0x6D40 + n.val) 1) ≤ s.now :=
  ⟨0, 9, { running with obs := { monitors := [(0, { running := true })] } }, by decide +kernel⟩

theorem meets_chronicleRecord : ∃ (s : State) (i : Nat) (r : Rec),
    nextRecord s = some i ∧ s.obs.chron.srcQ[i]? = some r ∧ mustWait s r = false :=
  ⟨{ running with obs := { chron := { srcQ := [rec0] } } }, 0, rec0, by decide +kernel⟩

theorem meets_ringPacketWrite : ∃ (status : Fin 8) (s : State),
    ringWritable s = true ∧ s.obs.chron.alarms ≠ [] :=
  ⟨0, { dramOn with obj := [(objKey 0x6D60 1, { val := [1] })], obs := { chron := { alarms := [rec0] } } }, by decide +kernel⟩

theorem meets_ringPacketWrite_2 : ∃ (status : Fin 8) (s : State),
    ringWritable s = true ∧ s.obs.chron.alarms = [] ∧ 8 - s.obs.chron.written % 8 ≤ s.obs.chron.general.length :=
  ⟨0, { dramOn with obj := [(objKey 0x6D60 1, { val := [1] })], obs := { chron := { general := [(0, rec0)], written := 7 } } }, by decide +kernel⟩

theorem meets_gapRecord : ∃ (source : BitVec 16) (s : State) (l : Loss),
    source.toNat ≠ writerSrc ∧ AMap.get none s.obs.chron.loss source.toNat = some l ∧ heldAt s source.toNat < 6 ∧ (s.elapsed l.lastAt 1000 = true ∨ s.elapsed l.firstAt 10000 = true) :=
  ⟨0x0300, { running with obs := { chron := { loss := [(0x0300, some ⟨5, 6, 1, 0, 0, 0⟩)] } } }, ⟨5, 6, 1, 0, 0, 0⟩, by decide +kernel⟩

theorem meets_ackAlarm : ∃ (s : State) (e : Env) (s1 : State) (who : Requester), WriteGoes s e false (wholeWrite 0x6D62 0 [1]) actAck s1 who :=
  ⟨running, _, _, _, writeGoes_signed (by decide +kernel)⟩

theorem meets_chronicleEnable : ∃ (v : Byte) (s : State) (e : Env) (s1 : State) (who : Requester), WriteGoes s e false (wholeWrite 0x6D60 1 [v]) actChronEnable s1 who ∧ s1.num 0x6D60 1 = 0 :=
  ⟨1, { running with obj := [(objKey 0x6D60 1, { val := [0] })] }, _, _, _, writeGoes_signed (by decide +kernel), by decide +kernel⟩

theorem meets_FlipFlopAndSliceControls : ∃ (clk : Fin 8) (rising : Bool) (gs : List Nat) (s : State) (p : Spot) (fr : BitVec 2560) (c : Fin 16) (i : Fin 2) (f : FfEdge) (q : Bool) (cs : ControlSet),
    p.g ∈ gs ∧ (p, fr) ∈ writtenTiles s.outgoing p.g ∧ s.boot.srReleased = true ∧ f = ffAt (netBefore s) fr p c i ∧ q = AMap.get false s.edge.before.ff (ffKey p c i.val) ∧ cs = Config.controlSet fr (halfOf c) :=
  ⟨0, true, [0], { teamed with frames := [(frameAddr 0 0 0 0 0, [1])] }, ⟨0, 0, 0⟩, 1, 0, 0, _, _, _, by decide +kernel, by decide +kernel, by decide +kernel, rfl, rfl, rfl⟩

theorem meets_FlipFlopAndSliceControls_2 : ∃ (f : FfEdge) (q : Bool),
    f.conf.obeysSr = true ∧ f.sr = true ∧ ((f.srType = .async ∨ f.srType = .sync)) :=
  ⟨⟨0, .whole6, 0, false, false, false, ⟨.rising, .ya, true, true, true⟩, .sync, true, false⟩, false, by decide +kernel⟩

theorem meets_FlipFlopAndSliceControls_3 : ∃ (f : FfEdge) (q : Bool),
    ((f.conf.obeysSr && f.sr) = false ∨ f.srType = .none) :=
  ⟨⟨0, .whole6, 0, false, false, false, ⟨.rising, .ya, true, false, true⟩, .sync, true, false⟩, true, by decide +kernel⟩

theorem meets_arithAccumulate_2 : ∃ (u : SliceId) (i : ArithIn) (s : State),
    unitClocked s (field (s.settingsNow u.sector.val u.cluster.val u.unit.val 3) 11 9) u.sector.val = true ∧ s.edgeDone (.slice (sliceNum u)) = false ∧ i.rst = true :=
  ⟨⟨0, 0, 0⟩, ⟨0, 0, 0, false, false, true, true⟩, teamed, by decide +kernel⟩

theorem meets_arithAccumulate_3 : ∃ (u : SliceId) (i : ArithIn) (s : State),
    unitClocked s (field (s.settingsNow u.sector.val u.cluster.val u.unit.val 3) 11 9) u.sector.val = true ∧ s.edgeDone (.slice (sliceNum u)) = false ∧ i.rst = false ∧ i.ce = false ∧ s.boot.srReleased = true :=
  ⟨⟨0, 0, 0⟩, ⟨0, 0, 0, false, false, false, false⟩, teamed, by decide +kernel⟩

theorem meets_ReadbackChangesNothing : ∃ (busError : Bool) (s : State) (t : State),
    exec (.fabMemReadDone busError) s = .next t :=
  ⟨true, { running with fab := { readStatus := 1 } }, _, rfl⟩

theorem meets_ReadbackChangesNothing_2 : ∃ (e : Env) (v : Byte) (s : State) (t : State),
    exec (.fabMemReadCommand e v) s = .next t :=
  ⟨plainFrame 0xFF 0, 1, running, _, rfl⟩

theorem meets_retire_2 : ∃ (e : Env) (v : BitVec 16) (s : State) (s1 : State) (who : Requester),
    receive s 0x11 e (writePayload (wholeWrite 0x6640 1 (u16 v.toNat))) true = .go s1 who ∧ ninth s1 who = false ∧ (isSegment e && !isLast e) = false ∧ ((∀ row, rowOf 0x6640 1 = some row → writeAccess s1 who false row = none)) ∧ ((rankState (retOf (s1.chan (field v.toNat 4 0))) (field v.toNat 9 8) = 1 ∨ rankState (retOf (s1.chan (field v.toNat 4 0))) (field v.toNat 9 8) = 2 ∨ (field v.toNat 9 8 = 3 ∧ rankState (retOf (s1.chan (field v.toNat 4 0))) 3 = 3) ∨ (s1.mode ≠ .run ∧ s1.mode ≠ .hold ∧ s1.mode ≠ .service))) :=
  ⟨signedWrite ({ running with power := { mode := .stable } }) false (wholeWrite 0x6640 1 (u16 (1 : BitVec 16).toNat)), 1, { running with power := { mode := .stable } }, afterChecks ({ running with power := { mode := .stable } }) 0, .session 0, receive_signedWrite _ _ (by decide +kernel) (by decide +kernel) (by decide +kernel) (by decide +kernel), by decide +kernel, by decide +kernel, fun row h => by rw [row_retire] at h; cases h; decide +kernel, .inr (.inr (.inr (by decide +kernel)))⟩

theorem meets_retrain_2 : ∃ (e : Env) (v : U32) (s : State) (s1 : State) (who : Requester),
    receive s 0x11 e (writePayload (wholeWrite 0x6640 2 (u32 v.toNat))) true = .go s1 who ∧ ninth s1 who = false ∧ (isSegment e && !isLast e) = false ∧ ((∀ row, rowOf 0x6640 2 = some row → writeAccess s1 who false row = none)) ∧ (((∃ ch, v.getLsbD ch = true ∧ (s1.chan ch).training ≠ 0) ∨ (s1.mode ≠ .run ∧ s1.mode ≠ .hold ∧ s1.mode ≠ .service))) :=
  ⟨signedWrite ({ running with power := { mode := .stable } }) false (wholeWrite 0x6640 2 (u32 (1 : U32).toNat)), 1, { running with power := { mode := .stable } }, afterChecks ({ running with power := { mode := .stable } }) 0, .session 0, receive_signedWrite _ _ (by decide +kernel) (by decide +kernel) (by decide +kernel) (by decide +kernel), by decide +kernel, by decide +kernel, fun row h => by rw [row_retrain] at h; cases h; decide +kernel, .inr (by decide +kernel)⟩

theorem meets_write_4 : ∃ (e : Env) (v : U64) (s : State) (s1 : State) (who : Requester),
    WriteGoes s e false (wholeWrite 0x6D22 1 (u64 v.toNat)) (actionOf 0x6D22 1) s1 who :=
  ⟨_, 0, running, _, _, writeGoes_signed (by decide +kernel)⟩

theorem meets_tallySnapshot_2 : ∃ (s : State),
    s.obs.tallyNext ≠ 0 ∧ s.obs.tallyNext ≤ s.tai ∧ s.mode ≠ .startUp :=
  ⟨{ running with time := { ns := 5 }, obs := { tallyNext := 5 } }, by decide +kernel⟩

theorem meets_snapshotNow_2 : ∃ (s : State) (e : Env) (s1 : State) (who : Requester), WriteGoes s e false (wholeWrite 0x6D22 4 [1]) actSnapshot s1 who ∧ s1.obs.latched = none :=
  ⟨running, _, _, _, writeGoes_signed (by decide +kernel), by decide +kernel⟩

theorem meets_openingTimeout_2 : ∃ (n : Fin 16) (s : State),
    (s.session n.val).phase = .opening ∧ s.elapsed (s.session n.val).heldAt 1000000000 = true :=
  ⟨0, { running with dict := { sessions := [(0, { phase := .opening })] } }, by decide +kernel⟩

theorem meets_response_2 : ∃ (e : Env) (hmac : List Byte) (sealedHmac : Option (List Byte)) (s : State) (u : State) (x : Session),
    frameTaken s e (hmac ++ sealedHmac.getD []) = true ∧ hmac.length = 32 ∧ ((∀ h, sealedHmac = some h → h.length = 32)) ∧ e.session.toNat < 16 ∧ x = s.session e.session.toNat ∧ x.phase = .opening ∧ x.host = e.host ∧ x.wantsSealed = sealedHmac.isSome ∧ s.elapsed x.heldAt 1000000000 = false ∧ hmac ≠ Crypto.hmac (levelKey s x.level) (challenge s x e.session.toNat) ∧ u = ((tookFrame s e).setSession e.session.toNat {}).sendFrame (.response e.host 0x03 e.session 0x01 e.transfer 0 (u32 0x0B000006) []) :=
  ⟨plainFrame 0 32, zeros 32, none, asked, _, { phase := .opening, level := 4, host := ⟨2, 1⟩, heldAt := 96000000000 }, by decide +kernel, by decide +kernel, fun _ h => (nomatch h), by decide +kernel, by decide +kernel, by decide +kernel, by decide +kernel, by decide +kernel, by decide +kernel, by decide +kernel, rfl⟩

/-! #### Wrapped keys: RFC 3394 under the session's wrapping key and under a fuse key, from a hand calculation of the standard -/

/-- A pair of a key of 32 bytes of 22 and one of 33. -/
def pair23 : List Byte := List.replicate 32 0x22 ++ List.replicate 32 0x33
/-- key11 wrapped under Kw of a session whose Ks is empty. -/
def wrap11 : List Byte := beBytes 0xa35d62c2e4331c55ffeef89bd1fe8e35e1d89e6eac8b3874f545b2cb7a66c3d2af6b935b03517e73 40
/-- pair23 wrapped under key11. -/
def wrap23 : List Byte := beBytes
  0x1cac5755b623c314f57118f43f3512371aee8bfe042b521a41e180c99bc91839720b83f33229c710554a0f65a5b630214c4df83934b69d254f3299cdbea163e2eaf864baf7b174b3 72

/-- The wrapping key of a session whose Ks is empty. -/
def kek11 : List Byte := beBytes 0x6f066e11ccebbbbff8216258944ac70b3b0007b57b9e8a4709f0c3b1a09cdbd6 32

theorem kek11_eq : Crypto.hmac [] [0x77, 0x72, 0x61, 0x70] = kek11 := by decide +kernel

theorem unwrap_key_1 : [24, 23, 22, 21, 20, 19, 18, 17, 16, 15, 14, 13].foldl (Crypto.unwrapStep kek11 4)
    (beBytes 0xa35d62c2e4331c55 8, Crypto.pieces 8 4 (beBytes 0xffeef89bd1fe8e35e1d89e6eac8b3874f545b2cb7a66c3d2af6b935b03517e73 32)) =
    (beBytes 0x5505e97a7c76c67c 8, Crypto.pieces 8 4 (beBytes 0xca55bdfdb95be70418118dd9792ac54229ef526d8391d3628585a441128ba187 32)) := by decide +kernel

theorem unwrap_key_2 : [12, 11, 10, 9, 8, 7, 6, 5, 4, 3, 2, 1].foldl (Crypto.unwrapStep kek11 4)
    (beBytes 0x5505e97a7c76c67c 8, Crypto.pieces 8 4 (beBytes 0xca55bdfdb95be70418118dd9792ac54229ef526d8391d3628585a441128ba187 32)) =
    (beBytes 0xa6a6a6a6a6a6a6a6 8, Crypto.pieces 8 4 (beBytes 0x1111111111111111111111111111111111111111111111111111111111111111 32)) := by decide +kernel

theorem test_unwrap_key : Crypto.unwrap kek11 wrap11 = some key11 := by
  have hl : ((List.range 24).map fun i => 24 - i) =
      [24, 23, 22, 21, 20, 19, 18, 17, 16, 15, 14, 13] ++ [12, 11, 10, 9, 8, 7, 6, 5, 4, 3, 2, 1] := by decide
  have h0 : (wrap11.take 8, Crypto.pieces 8 4 (wrap11.drop 8)) = (beBytes 0xa35d62c2e4331c55 8, Crypto.pieces 8 4 (beBytes 0xffeef89bd1fe8e35e1d89e6eac8b3874f545b2cb7a66c3d2af6b935b03517e73 32)) := by decide +kernel
  have hn : wrap11.length = 40 := by decide +kernel
  unfold Crypto.unwrap
  simp only [hn, Nat.reduceDiv, Nat.reduceSub, Nat.reduceMul, hl, h0, List.foldl_append, unwrap_key_1, unwrap_key_2]
  decide +kernel

theorem unwrap_pair_1 : [48, 47, 46, 45, 44, 43, 42, 41, 40, 39, 38, 37].foldl (Crypto.unwrapStep key11 8)
    (beBytes 0x1cac5755b623c314 8, Crypto.pieces 8 8 (beBytes 0xf57118f43f3512371aee8bfe042b521a41e180c99bc91839720b83f33229c710554a0f65a5b630214c4df83934b69d254f3299cdbea163e2eaf864baf7b174b3 64)) =
    (beBytes 0xeaf2bdbc485a4986 8, Crypto.pieces 8 8 (beBytes 0xc0feff1de958563444d455a620a621257458f57e98acbea5eab5b6f18069eb30868b5dcd62be9ac33fc2198e50725b31116d870bcb8b95144d1bdf03f6e18eb2 64)) := by decide +kernel

theorem unwrap_pair_2 : [36, 35, 34, 33, 32, 31, 30, 29, 28, 27, 26, 25].foldl (Crypto.unwrapStep key11 8)
    (beBytes 0xeaf2bdbc485a4986 8, Crypto.pieces 8 8 (beBytes 0xc0feff1de958563444d455a620a621257458f57e98acbea5eab5b6f18069eb30868b5dcd62be9ac33fc2198e50725b31116d870bcb8b95144d1bdf03f6e18eb2 64)) =
    (beBytes 0x7429f8d7a3cd2ac3 8, Crypto.pieces 8 8 (beBytes 0xd6ce20968b92cf9612e913e55ebfdf618b2bdec013c2b5a37f1158cecd09d97364ec0372c93198e62bc03dddf318efc5d97d3d73fb328871e02addeb659f1d59 64)) := by decide +kernel

theorem unwrap_pair_3 : [24, 23, 22, 21, 20, 19, 18, 17, 16, 15, 14, 13].foldl (Crypto.unwrapStep key11 8)
    (beBytes 0x7429f8d7a3cd2ac3 8, Crypto.pieces 8 8 (beBytes 0xd6ce20968b92cf9612e913e55ebfdf618b2bdec013c2b5a37f1158cecd09d97364ec0372c93198e62bc03dddf318efc5d97d3d73fb328871e02addeb659f1d59 64)) =
    (beBytes 0x49580b2328119f9f 8, Crypto.pieces 8 8 (beBytes 0x61a6af874e0d72ea5fe662ec33d2be04333e6fabf38f88edf6ada70cba436ae41e83a5b72a5a520e38b39541c7eccd0229fa31344221f57cc0bde0c3d058bb09 64)) := by decide +kernel

theorem unwrap_pair_4 : [12, 11, 10, 9, 8, 7, 6, 5, 4, 3, 2, 1].foldl (Crypto.unwrapStep key11 8)
    (beBytes 0x49580b2328119f9f 8, Crypto.pieces 8 8 (beBytes 0x61a6af874e0d72ea5fe662ec33d2be04333e6fabf38f88edf6ada70cba436ae41e83a5b72a5a520e38b39541c7eccd0229fa31344221f57cc0bde0c3d058bb09 64)) =
    (beBytes 0xa6a6a6a6a6a6a6a6 8, Crypto.pieces 8 8 (beBytes 0x22222222222222222222222222222222222222222222222222222222222222223333333333333333333333333333333333333333333333333333333333333333 64)) := by decide +kernel

theorem test_unwrap_pair : Crypto.unwrap key11 wrap23 = some pair23 := by
  have hl : ((List.range 48).map fun i => 48 - i) =
      [48, 47, 46, 45, 44, 43, 42, 41, 40, 39, 38, 37] ++ [36, 35, 34, 33, 32, 31, 30, 29, 28, 27, 26, 25] ++ [24, 23, 22, 21, 20, 19, 18, 17, 16, 15, 14, 13] ++ [12, 11, 10, 9, 8, 7, 6, 5, 4, 3, 2, 1] := by decide
  have h0 : (wrap23.take 8, Crypto.pieces 8 8 (wrap23.drop 8)) = (beBytes 0x1cac5755b623c314 8, Crypto.pieces 8 8 (beBytes 0xf57118f43f3512371aee8bfe042b521a41e180c99bc91839720b83f33229c710554a0f65a5b630214c4df83934b69d254f3299cdbea163e2eaf864baf7b174b3 64)) := by decide +kernel
  have hn : wrap23.length = 72 := by decide +kernel
  unfold Crypto.unwrap
  simp only [hn, Nat.reduceDiv, Nat.reduceSub, Nat.reduceMul, hl, h0, List.foldl_append, unwrap_pair_1, unwrap_pair_2, unwrap_pair_3, unwrap_pair_4]
  decide +kernel

theorem unwrapBy_vendor {s : State} (h : (s.session 0).ks = []) : unwrapBy s (.session 0) wrap11 = some key11 := by
  simp only [unwrapBy]
  rw [show s.session (0 : Fin 16).val = s.session 0 from rfl, h, kek11_eq, test_unwrap_key]; decide
theorem unwrapPair_key11 : unwrapPair key11 wrap23 = some pair23 := by
  simp only [unwrapPair, test_unwrap_pair]; decide +kernel

/-! #### Writes whose value is a wrapped key -/

theorem meets_dictKeysWrite : ∃ (key : Fin 4) (wrap : List Byte) (s : State) (e : Env) (s1 : State) (who : Requester), WriteGoes s e false (wholeWrite 0x1120 (key.val + 1) wrap) (actLevelKey (key.val + 1)) s1 who :=
  ⟨0, wrap11, running, _, _, _, writeGoes_signed (passes_apart (by decide) (by decide) (row_dictKeysWrite 0) (by decide) (by decide +kernel)
    (by simp [actLevelKey, unwrapBy_vendor (s := afterChecks running 0) (by decide +kernel), need]))⟩

theorem meets_efuseKeyWrite : ∃ (wrap : List Byte) (s : State) (e : Env) (s1 : State) (who : Requester), WriteGoes s e false (wholeWrite 0x6160 2 wrap) actEfuseKey s1 who :=
  ⟨wrap11, running, _, _, _, writeGoes_signed (passes_apart (by decide) (by decide) (row_efuseKeyWrite) (by decide) (by decide +kernel)
    (by simp [actEfuseKey, unwrapBy_vendor (s := afterChecks running 0) (by decide +kernel), need]))⟩

theorem meets_bbramKeyWrite : ∃ (wrap : List Byte) (s : State) (e : Env) (s1 : State) (who : Requester), WriteGoes s e false (wholeWrite 0x6160 3 wrap) actBbramKey s1 who :=
  ⟨wrap11, running, _, _, _, writeGoes_signed (passes_apart (by decide) (by decide) (row_bbramKeyWrite) (by decide) (by decide +kernel)
    (by simp [actBbramKey, unwrapBy_vendor (s := afterChecks running 0) (by decide +kernel), need]))⟩

/-- A device whose seal is open. -/
def unsealed : State := { running with sealed := { enabled := true, provisioned := true, isOpen := true, key := key11, store := [(0x31, { val := 1, comp := ~~~1 })], table := [(0x31, { val := 1, comp := ~~~1 })] } }

theorem meets_sealKey : ∃ (wrap : List Byte) (s : State) (e : Env) (s1 : State) (who : Requester), WriteGoes s e false (wholeWrite 0x7008 0 wrap) actSealKey s1 who :=
  ⟨wrap11, unsealed, _, _, _, writeGoes_signed (passes_apart (by decide) (by decide) (row_sealKey) (by decide) (by decide +kernel)
    (by
      have h : changeOpen (afterChecks unsealed 0) = true := by decide +kernel
      simp [actSealKey, unwrapBy_vendor (s := afterChecks unsealed 0) (by decide +kernel), need, firstOf, h]))⟩

theorem meets_sealProvision : ∃ (ownerHash wrap : List Byte) (s : State) (e : Env) (s1 : State) (who : Requester), WriteGoes s e false (wholeWrite 0x7001 0 (ownerHash ++ wrap)) actProvision s1 who :=
  ⟨List.replicate 48 7, wrap11, running, _, _, _, writeGoes_signed (passes_apart (by decide) (by decide) (row_sealProvision) (by decide) (by decide +kernel)
    (by
      have h : (afterChecks running 0).sealed.provisioned = false ∧ (afterChecks running 0).num 0x6150 1 = 0 := by decide +kernel
      simp [actProvision, unwrapBy_vendor (s := afterChecks running 0) (by decide +kernel), need, firstOf, h.1, h.2]))⟩

/-- A device with key11 as its eFuse key and its battery-backed key. -/
def fused : State := { running with fuses := { efuseKey := key11, bbramKey := key11 } }

theorem meets_keyUnwrapEfuse : ∃ (slot : Byte) (wrap k : List Byte) (s : State) (e : Env) (s1 : State) (who : Requester),
    WriteGoes s e false (wholeWrite 0x6820 1 ([slot, 1, 0, 0] ++ wrap)) actKey s1 who ∧ unwrapPair s1.fuses.efuseKey wrap = some k :=
  ⟨0, wrap23, pair23, fused, _, _, _, writeGoes_signed (passes_apart (by decide) (by decide) row_keyClear (by decide) (by decide +kernel) (by
    have h : (afterChecks fused 0).fuses = fused.fuses := by decide +kernel
    have hk : unwrapPair (sourceKey (afterChecks fused 0) 1) wrap23 = some pair23 := by
      rw [show sourceKey (afterChecks fused 0) 1 = key11 by rw [sourceKey, h]; rfl]; exact unwrapPair_key11
    have hu : slotInUse (afterChecks fused 0) 0 = false := by decide +kernel
    have hz : (afterChecks fused 0).sealed.enabled = false := by decide +kernel
    have hs : natAt ([0, 1, 0, 0] ++ wrap23) 1 1 = 1 := by decide +kernel
    have h0 : natAt ([0, 1, 0, 0] ++ wrap23) 0 1 = 0 := by decide +kernel
    have hl : ([0, 1, 0, 0] ++ wrap23).length = 76 := by decide +kernel
    have hd : ([0, 1, 0, 0] ++ wrap23).drop 4 = wrap23 := rfl
    simp only [actKey, hs, h0, hl, hd, hk, hu, hz, need]; decide)),
   by rw [show (afterChecks fused 0).fuses.efuseKey = key11 by decide +kernel]; exact unwrapPair_key11⟩

theorem meets_keyUnwrapBbram : ∃ (slot : Byte) (wrap k : List Byte) (s : State) (e : Env) (s1 : State) (who : Requester),
    WriteGoes s e false (wholeWrite 0x6820 1 ([slot, 2, 0, 0] ++ wrap)) actKey s1 who ∧ unwrapPair s1.fuses.bbramKey wrap = some k :=
  ⟨0, wrap23, pair23, fused, _, _, _, writeGoes_signed (passes_apart (by decide) (by decide) row_keyClear (by decide) (by decide +kernel) (by
    have h : (afterChecks fused 0).fuses = fused.fuses := by decide +kernel
    have hk : unwrapPair (sourceKey (afterChecks fused 0) 2) wrap23 = some pair23 := by
      rw [show sourceKey (afterChecks fused 0) 2 = key11 by rw [sourceKey, h]; rfl]; exact unwrapPair_key11
    have hu : slotInUse (afterChecks fused 0) 0 = false := by decide +kernel
    have hz : (afterChecks fused 0).sealed.enabled = false := by decide +kernel
    have hs : natAt ([0, 2, 0, 0] ++ wrap23) 1 1 = 2 := by decide +kernel
    have h0 : natAt ([0, 2, 0, 0] ++ wrap23) 0 1 = 0 := by decide +kernel
    have hl : ([0, 2, 0, 0] ++ wrap23).length = 76 := by decide +kernel
    have hd : ([0, 2, 0, 0] ++ wrap23).drop 4 = wrap23 := rfl
    simp only [actKey, hs, h0, hl, hd, hk, hu, hz, need]; decide)),
   by rw [show (afterChecks fused 0).fuses.bbramKey = key11 by decide +kernel]; exact unwrapPair_key11⟩

/-! #### The signed header passes every check -/

theorem fed_tag : (Crypto.sha384 endOnly).take 16 = (fed.loader.feedBuf.drop 512).take (16 * hdrChunks signedHeader) := by decide +kernel
theorem fed_length : 512 + 16 * hdrChunks signedHeader ≤ fed.loader.feedBuf.length := by decide +kernel
theorem test_signature : signatureOk signedHeader ((Crypto.sha384 endOnly).take 16) = true := by decide +kernel
theorem fed_checks : headerChecks fed signedHeader = none := by decide +kernel
theorem fed_region : regionHeld fed signedHeader = true := by decide +kernel
theorem fed_read : readSource (useOwners fed) .feed 0 512 (padTo [] 512) = (fed, .bytes signedHeader) := by
  have h : fed.loader.feedBuf.take 512 = signedHeader := by decide +kernel
  have h2 : 512 ≤ fed.loader.feedBuf.length := by decide +kernel
  rw [show useOwners fed = fed by decide +kernel]
  simp only [readSource, if_pos h2, h]

/-! #### Rows whose witness needs more than a signed frame -/

theorem meets_teamMembersWrite : ∃ (team : Fin 16) (v c : U64) (s : State) (e : Env) (s1 : State) (who : Requester),
    WriteGoes s e true (pairWrite (0x6210 + team.val) 1 (u64 v.toNat) (u64 c.toNat)) (actMembers team.val) s1 who ∧ v ≠ 0 :=
  ⟨15, 2, ~~~2, running, _, _, _, writeGoes_signed (by decide +kernel), by decide +kernel⟩

theorem meets_teamMembersWrite_none : ∃ (team : Fin 16) (v c : U64) (s : State) (e : Env) (s1 : State) (who : Requester),
    WriteGoes s e true (pairWrite (0x6210 + team.val) 1 (u64 v.toNat) (u64 c.toNat)) (actMembers team.val) s1 who ∧ v = 0 :=
  ⟨0, 0, ~~~0, running, _, _, _, writeGoes_signed (by decide +kernel), by decide +kernel⟩

theorem meets_ioPinWrite : ∃ (b : Fin 8) (pin : Fin 48) (v c : U32) (s : State) (e : Env) (s1 : State) (who : Requester) (r : ObjRow),
    WriteGoes s e true (pairWrite (0x6920 + b.val) (pin.val + 1) (u32 v.toNat) (u32 c.toNat)) (actPin b.val pin.val) s1 who ∧
      rowOf (0x6920 + b.val) (pin.val + 1) = some r :=
  ⟨5, 47, 0x19, ~~~0x19, running, _, _, _, (rowOf 0x6925 48).get (by decide +kernel), writeGoes_signed (by decide +kernel), (Option.some_get _).symm⟩

theorem meets_sealParamWrite : ∃ (param : Byte) (v c : U64) (s : State) (e : Env) (s1 : State) (who : Requester),
    WriteGoes s e false (wholeWrite 0x7024 0 ([param, 0, 0, 0] ++ u64 v.toNat ++ u64 c.toNat)) actSealParam s1 who :=
  ⟨15, 3, ~~~3, unsealed, _, _, _, writeGoes_signed (by decide +kernel)⟩

/-- An open seal whose inward mailbox of channel 0 declares operation 1. -/
def mailed : State := { unsealed with sealed := { unsealed.sealed with table := (List.range 256).map fun p => (p, { val := 1, comp := ~~~1 }) } }

theorem meets_sealCommand : ∃ (channel : Fin 16) (v : U32) (s : State) (e : Env) (s1 : State) (who : Requester),
    WriteGoes s e false (wholeWrite 0x7010 (0x31 + channel.val) (u32 v.toNat)) (actSealCommand channel.val) s1 who :=
  ⟨0, 0x01000005, mailed, _, _, _, writeGoes_signed (by decide +kernel)⟩

/-! #### A plane that agrees with its CRC -/

theorem crcStep_lt : ∀ (n c : Nat), c < 2 ^ 32 → Crypto.crcStep n c < 2 ^ 32
  | 0, c, h => by simpa [Crypto.crcStep] using h
  | n + 1, c, h => by
    rw [Crypto.crcStep]
    apply crcStep_lt
    split
    · exact Nat.xor_lt_two_pow (by omega) (by omega)
    · omega

theorem foldl_lt {α : Type} {f : Nat → α → Nat} (hf : ∀ c a, c < 2 ^ 32 → f c a < 2 ^ 32) :
    ∀ (l : List α) (c : Nat), c < 2 ^ 32 → l.foldl f c < 2 ^ 32
  | [], _, h => h
  | a :: l, c, h => foldl_lt hf l _ (hf c a h)

theorem crcMore_lt (c : Nat) (bs : List Byte) (h : c < 2 ^ 32) : Crypto.crcMore c bs < 2 ^ 32 :=
  foldl_lt (fun c b hc => crcStep_lt 8 _ (Nat.xor_lt_two_pow hc (by have := b.isLt; omega))) bs c h

theorem planeCrc_lt (s : State) (g p : Nat) : planeCrc s g p < 2 ^ 32 := by
  unfold planeCrc crcFrames
  refine Nat.xor_lt_two_pow (foldl_lt (fun c ty hc => ?_) _ _ (by decide)) (by decide)
  split
  · exact crcMore_lt _ _ hc
  · exact foldl_lt (fun c _ hc => foldl_lt (fun c _ hc => crcMore_lt _ _ hc) _ _ hc) _ _ hc

theorem planeCrc_frames {s t : State} (h : s.frames = t.frames) (g p : Nat) : planeCrc s g p = planeCrc t g p := by
  unfold planeCrc crcFrames; rw [h]

/-- Plane 1 of sector 0 to be verified, valid with the CRC of its frames, or with another. -/
def verifying (crc : U32) : State := { teamed with
  planes := [(0, { state := .active }), (1, { state := .valid, crc := crc })]
  ecc := { verifyRunning := true, verifyQ := [1] } }

theorem ofNat_of_lt {n : Nat} (h : n < 2 ^ 32) : n = (BitVec.ofNat 32 n).toNat := by
  rw [BitVec.toNat_ofNat, Nat.mod_eq_of_lt h]

theorem verifying_meets (c : U32) (h : planeCrc (verifying 0) 0 1 = c.toNat) : (verifying c).ecc.verifyQ = 1 :: [] ∧
    (verifying c).ecc.verifyRunning = true ∧ streamIn (verifying c) (towerOf (1 / 8)) = false ∧
    verifiable (verifying c) (1 / 8) (1 % 8) = true ∧ false = false ∧
    planeCrc (verifying c) (1 / 8) (1 % 8) = ((verifying c).plane (1 / 8) (1 % 8)).crc.toNat := by
  refine ⟨rfl, rfl, by unfold streamIn; simp [verifying], rfl, rfl, ?_⟩
  have hp : planeCrc (verifying c) 0 1 = planeCrc (verifying 0) 0 1 :=
    planeCrc_frames (show (verifying c).frames = (verifying 0).frames from rfl) 0 1
  have hc : ((verifying c).plane 0 1).crc = c := rfl
  show planeCrc (verifying c) 0 1 = ((verifying c).plane 0 1).crc.toNat
  rw [hp, h, hc]

theorem meets_verifySectorPlaneDone_agrees : ∃ (cellFault : Bool) (s : State) (k : Nat) (rest : List Nat),
    s.ecc.verifyQ = k :: rest ∧ s.ecc.verifyRunning = true ∧ streamIn s (towerOf (k / 8)) = false ∧
    verifiable s (k / 8) (k % 8) = true ∧ cellFault = false ∧ planeCrc s (k / 8) (k % 8) = (s.plane (k / 8) (k % 8)).crc.toNat :=
  ⟨false, verifying (BitVec.ofNat 32 (planeCrc (verifying 0) 0 1)), 1, [],
    verifying_meets _ (ofNat_of_lt (planeCrc_lt (verifying 0) 0 1))⟩

/-! #### A device that may resume -/

/-- Sensors that have read nothing are cool. -/
theorem cool_of {s : State} (h : s.power.sensors = []) (ha : threshold s 7 ≤ threshold s 3) (hd : threshold s 8 ≤ threshold s 6) :
    cool s = true := by
  rw [cool, List.all_eq_true]
  intro n _
  have hn : s.sensor n = {} := by simp [State.sensor, h]
  rw [hn, Bool.or_eq_true, decide_eq_true_eq]
  right
  unfold classLevel classHyst
  split <;> simp <;> omega

/-- The device in Safe Stop with cause 1, its core supplied. -/
def stopped : State := { running with power := { mode := .safeStop, lastCause := 1, resumeOkAt := some 0 }, board := { mv := [(0, 1800)] }
                                      obj := [(objKey 0x6002 1, { val := [1], comp := [0xFE] })] }

theorem stopped_resumable {s : State} (h : cool s = true) (hm : s.mode = .safeStop) (hc : s.power.lastCause = 1)
    (ho : s.power.safeLowOutside = false) (hv : supplyMv s 0 = 1800) (hd : s.board.dramLost = false) : resumable s = true := by
  simp [resumable, h, hm, hc, ho, hv, hd]

theorem meets_autoResume : ∃ (s : State) (at_ : Nat),
    s.setting 0x6002 1 = 1 ∧ resumable s = true ∧ s.power.lastCause ≠ 3 ∧ s.power.resumeOkAt = some at_ ∧ s.elapsed at_ 1000000000 = true ∧
      (s.power.resumes.filter fun x => !s.elapsed x 3600000000000).length < 3 :=
  ⟨stopped, 0, by decide +kernel,
    stopped_resumable (cool_of rfl (by decide +kernel) (by decide +kernel)) rfl rfl rfl (by decide +kernel) rfl,
    by decide, rfl, by decide +kernel, by decide +kernel⟩

theorem meets_streamHeader : ∃ (src : StreamSrc) (header : List Byte) (tags : List Byte) (h : List Byte) (tg : List Byte) (s : State) (s1 : State) (s2 : State),
    s.loader.cur = none ∧ sourceOpen s src = true ∧ readSource (useOwners s) src 0 512 (padTo header 512) = (s1, .bytes h) ∧ headerChecks s1 h = none ∧ ((src = .chain ∧ s2 = s1 ∧ 512 + 16 * hdrChunks h ≤ s1.chain.buf.length ∧ tg = (s1.chain.buf.drop 512).take (16 * hdrChunks h)) ∨ (src = .feed ∧ s2 = s1 ∧ 512 + 16 * hdrChunks h ≤ s1.loader.feedBuf.length ∧ tg = (s1.loader.feedBuf.drop 512).take (16 * hdrChunks h)) ∨ (src ≠ .chain ∧ src ≠ .feed ∧ readSource s1 src 512 (16 * hdrChunks h) tags = (s2, .bytes tg))) ∧ signatureOk h tg = true ∧ regionHeld s2 h = true :=
  ⟨.feed, [], [], signedHeader, (Crypto.sha384 endOnly).take 16, fed, fed, fed, by decide +kernel, by decide +kernel, fed_read, fed_checks, .inr (.inl ⟨rfl, rfl, fed_length, fed_tag⟩), test_signature, fed_region⟩

/-! #### Each command of the frames answers a next state -/

/-- Whether a state is answered. -/
def answers (o : Host.Outcome State Fault Refusal) : Bool := match o with | .next _ => true | _ => false

theorem next_of_answers {o : Host.Outcome State Fault Refusal} (h : answers o = true) : ∃ t, o = .next t := by
  cases o with
  | next t => exact ⟨t, rfl⟩
  | _ => cases h

theorem all_next {l : List Instr} {s : State} (h : (l.all fun c => answers (exec c s)) = true) : ∀ c ∈ l, ∃ t, exec c s = .next t :=
  fun c hc => next_of_answers (List.all_eq_true.mp h c hc)

/-- A command of every clause of FramesOfControlAndFabric. -/
def framesOfControlAndFabric : List Instr :=
  [.openSession (plainFrame 0 0) 0 0 [], .response (plainFrame 0 0) [] none, .levelLockExpiry 0, .openingTimeout 0,
   .close (plainFrame 0 0), .idleTimeout 0, .read (plainFrame 0 0) (⟨0x1101, 1, 0x06, 0, 0, 0⟩), .segmentTimeout 0 0,
   .abort (plainFrame 0 0) 0, .unknownService (plainFrame 0 0) 0 [], .dictKeysWrite (plainFrame 0 0) 0 [],
   .dictLevelEnableWrite (plainFrame 0 0) 0 0, .gateListTakesEffect, .canEnable (plainFrame 0 0) 0, .canBusOff 0 0 0,
   .processData 0 0 none 0 0 [] [], .txImageSample [], .pdReceiveFault, .tapForward 0, .tapAnswer 0 false 0 [], .tapTimeout 0,
   .blockmemPortAccess (⟨0, 0, 0⟩) none none false 0, .arithAccumulate (⟨0, 0, 0⟩) (⟨1, 2, 3, false, false, true, false⟩),
   .fqueueUpdate (⟨0, 0, 0⟩) (⟨true, 1, false, false, false, false, false⟩), .fabMemReadCommand (plainFrame 0 0) 0,
   .fabMemReadDone false, .fabFclkWrite (plainFrame 0 0) 0 0, .fclkDivisorChange 0, .delayLineStep 0, .baseportTransaction 0 0 [],
   .switchAtTime (plainFrame 0 0) 0 0 0 0, .stagePlane (plainFrame 0 0) 0 0 0, .unstage (plainFrame 0 0) 0 0 0,
   .cancelPendingSwitch (plainFrame 0 0) 0 0 0, .fallBackNow (plainFrame 0 0) 0 0 0, .releaseHold (plainFrame 0 0) 0 0 0,
   .stagingStart 0, .stagingComplete 0, .reinRequest 0 0, .switchEdge 0, .fenceTimeout 0, .fallbackTrigger 0 0,
   .teamMembersWrite (plainFrame 0 0) 0 0 0, .teamSettingWrite (plainFrame 0 0) 0 0 0 0, .planeClear (plainFrame 0 0) 0,
   .captureArm (plainFrame 0 0), .captureDisarm (plainFrame 0 0), .captureRelease (plainFrame 0 0), .captureTrigger 0, .captureEdge [],
   .captureCopyDone, .fabricClockEdge 0]

theorem meets_FramesOfControlAndFabric : ∀ c ∈ framesOfControlAndFabric, ∃ t, exec c running = .next t := all_next (by decide +kernel)

/-- A command of every clause of FramesOfLoadingAndChain. -/
def framesOfLoadingAndChain : List Instr :=
  [.streamHeader .feed [] [], .chunkVerified [], .unknownOpcode, .selectPlane, .writeFrames, .writeFramesZr, .initBlockmem, .initState,
   .setTeam, .setStartupOrder, .checkCrc, .keyRoll, .forwardToChain [], .markValid, .endPacket, .tamperN 0,
   .efuseKeyWrite (plainFrame 0 0) [], .bbramKeyWrite (plainFrame 0 0) [], .bbramErase (plainFrame 0 0) 0,
   .fuseLockPlain (plainFrame 0 0), .fuseLockEfuseOnly (plainFrame 0 0), .keyProg false [] [], .ownershipWrite (plainFrame 0 0) 0 0 0,
   .ownerKeyWrite (plainFrame 0 0) 0 [], .sysrstN 0, .fuseLoadDone 0 [], .bistStart 0, .bistWaitTick 0, .bistDone 0 [], .repairDone,
   .calibrationDone [] false false 0 [] [], .startupVerifyDone [], .loadPhaseEnd, .activation, .clockLock, .releaseOutputs,
   .releaseSetReset, .enableWrites, .hostFeedData (plainFrame 0 0) [], .startupOrderWrite (plainFrame 0 0) [], .libraryCopy [],
   .libraryCopyDone false, .libraryAreaWrite (plainFrame 0 0) false 0, .writeEntry (plainFrame 0 0) 0, .writeData (plainFrame 0 0) [],
   .loadEntry (plainFrame 0 0) 0, .loadStart, .cancelCurrent (plainFrame 0 0), .cancelAll (plainFrame 0 0), .position (frameIn true 0) 0,
   .stream (frameIn true 0) [], .report (frameIn true 0) 0 0 0 0, .reportTimeout, .go (frameIn true 0) 0, .forceGo (plainFrame 0 0) 0,
   .goWaitTimeout, .delayReq (frameIn true 0) 0, .delayResp (frameIn true 0) 0 0 0 0, .remoteReq (frameIn true 0) [],
   .remoteResp (frameIn true 0) [], .ack (frameIn true 0), .hitchAckDue false, .hitchResend false, .remoteRequestPush, .remoteTimeout 0,
   .sysrstNRelease, .chainDataTimeout, .vauxVinCoreReached 0 0]

theorem meets_FramesOfLoadingAndChain : ∀ c ∈ framesOfLoadingAndChain, ∃ t, exec c running = .next t := all_next (by decide +kernel)

/-- A command of every clause of FramesOfNetworkAndCaches. -/
def framesOfNetworkAndCaches : List Instr :=
  [.nocReadRequest 0 .none .good .good, .nocWriteRequest 0 .none .good .good, .nocReadResponse 0 .none, .nocWriteResponse 0 .none,
   .responseTimeout 0, .packetPromotedUrgent 0, .reservationWrite (plainFrame 0 0) 0 0, .reservationTakesEffect 0, .moverDoorbell 0 0 0,
   .moverStart (plainFrame 0 0) 0 0, .moverStop (plainFrame 0 0) 0, .moverStartTime 0, .moverDescriptorDone 0,
   .statClearSelected (plainFrame 0 0), .statClearAll (plainFrame 0 0), .statWindowEnd, .lineFillDone 0, .writeBackAnswered 0 0,
   .maintenanceEntryTimeout 0 0, .waleFlush (plainFrame 0 0) 0, .waleInvalidate (plainFrame 0 0) 0, .flushDone 0, .windowPush 0 0 [],
   .windowPop 0 0 0, .windowRelease 0 0 0, .windowIndexedAccess 0 0 0 0 none, .windowStatusRead 0 0,
   .panWindowEnable (plainFrame 0 0) 0 0, .panConflictClear (plainFrame 0 0) 0, .backgroundTestRegion false false,
   .backgroundRegionTimeout false, .bankClearingDone 0]

theorem meets_FramesOfNetworkAndCaches : ∀ c ∈ framesOfNetworkAndCaches, ∃ t, exec c running = .next t := all_next (by decide +kernel)

/-- A command of every clause of FramesOfMemory. -/
def framesOfMemory : List Instr :=
  [.dramRequest 0, .dramCommandSlot 0 false [] [], .requestUrgent 0 false 0, .refreshInterval (⟨0, false, 0, 0⟩),
   .neighbourRefresh (⟨0, false, 0, 0⟩), .activateTableClear (⟨0, false, 0, 0⟩), .retrainBurst 0 false [], .caParityError 0 0,
   .migrationLineTimeout 0, .retire (plainFrame 0 0) 0, .retrain (plainFrame 0 0) 0, .sparesWrite (plainFrame 0 0) 0 0,
   .scrubRead 0 0 false [], .scrubWritebackTimeout 0, .scrubPassLate 0, .complementCheck none, .clearCounts (plainFrame 0 0) 0,
   .verify (plainFrame 0 0) 0, .verifyRound, .verifySectorPlaneDone false, .keyUnwrapEfuse (plainFrame 0 0) 0 [],
   .keyUnwrapBbram (plainFrame 0 0) 0 [], .keyGenerate (plainFrame 0 0) 0, .keyClear (plainFrame 0 0) 0,
   .regionEnable (plainFrame 0 0) 0, .regionEnableInitialise (plainFrame 0 0) 0, .regionDisable (plainFrame 0 0) 0, .regionInitialised 0,
   .migrationCopy 0 0]

theorem meets_FramesOfMemory : ∀ c ∈ framesOfMemory, ∃ t, exec c running = .next t := all_next (by decide +kernel)

/-- A command of every clause of FramesOfTimeAndLanes. -/
def framesOfTimeAndLanes : List Instr :=
  [.sync (⟨0, 0, 0, 0, 0⟩), .announce (⟨0, 0, 0, 0, 0, 0, 0, 0, 0⟩), .pdelay (⟨0, 0, 0, 0, 0, 0⟩), .syncTimeout,
   .timeSet (plainFrame 0 0) 0, .inputEdge 0 0 false 0 0, .inputDrain 0, .drainRetry 0, .outputPoll 0, .outputEntryExecute 0,
   .returnTimer 0 0, .ioBankStart (plainFrame 0 0) 0, .ioBankStop (plainFrame 0 0) 0, .ioPinWrite (plainFrame 0 0) 0 0 0 0,
   .laneStart (plainFrame 0 0) 0, .laneStop (plainFrame 0 0) 0, .laneReceiverDetected (.user 0), .laneLocked (.user 0) 0,
   .laneTs2Received (.user 0) 0 false 0 0, .laneStep (.user 0), .laneActive (.user 0) false, .laneBringupLimit (.user 0),
   .laneRetryTimer (.user 0), .lockLost (.user 0), .laneRxPush 0 [], .lanePushRetry 0, .laneTxPop 0, .laneAdaptStep (.user 0) 0 false,
   .serviceLaneAutoTry 0, .syncInterval 0]

theorem meets_FramesOfTimeAndLanes : ∀ c ∈ framesOfTimeAndLanes, ∃ t, exec c running = .next t := all_next (by decide +kernel)

/-- A command of every clause of FramesOfModesAndServices. -/
def framesOfModesAndServices : List Instr :=
  [.sealProvision (plainFrame 0 0) [] [], .sealParamWrite (plainFrame 0 0) 0 0 0, .sealKey (plainFrame 0 0) [],
   .sealCommand (plainFrame 0 0) 0 0, .sealN false 0, .parameterImageCheck, .sampleSync 0, .sampleFrame 0 [], .modeRun (plainFrame 0 0),
   .modeHold (plainFrame 0 0), .modeStable (plainFrame 0 0), .modeService (plainFrame 0 0), .orderlyStop (plainFrame 0 0),
   .resume (plainFrame 0 0), .restart (plainFrame 0 0), .wakeN 0, .wakeTime, .sensorRead [] [], .sensorExcluded 0, .sensorReadmitted 0,
   .readsLowFlag 0, .gaitStepSlower 0, .gaitStepFaster 0, .gaitFloorWrite (plainFrame 0 0) 0, .orderlyStopDrainStep, .orderlyStopFlush,
   .orderlyStopFallbacks, .safeStopEntry, .safeN false 0, .vinCoreOutOfRange 0 0, .vdramVppOutOfRange false 0 0,
   .vlaneOutOfRange false 0 0, .vccioOutOfRange 0 0 0, .rootPllLockLoss, .autoResume, .stakeMonitorError (.cluster 0 0) [],
   .shift (plainFrame 0 0) 0, .rowShiftDone, .temperatureCalibration (⟨0, 0, 0, 0, 0, 0⟩), .calibrateNow (plainFrame 0 0) [],
   .testRunStart (plainFrame 0 0), .testComplete [], .jtagOpenWrite (plainFrame 0 0) 0 0, .lockCmd (plainFrame 0 0) 0, .extest [],
   .idcode, .samplePreload [], .extestPulse (.user 0), .extestTrain (.user 0), .debug false 0 0 [], .dieSelect 0, .bypass [],
   .counterConfigWrite (plainFrame 0 0) 0, .counterClearSelected (plainFrame 0 0), .counterClearAll (plainFrame 0 0),
   .counterMilestone 0 0, .tallySnapshot, .snapshotNow (plainFrame 0 0), .snapshotReadDone, .sampleBufferClear (plainFrame 0 0),
   .monitorStart (plainFrame 0 0) 0, .monitorStop (plainFrame 0 0) 0, .monitorClear (plainFrame 0 0) 0, .monitorSample 0 0,
   .chronicleRecord, .ringPacketWrite 0, .coalesceWindowEnd, .gapRecord 0, .ackAlarm (plainFrame 0 0),
   .chronicleEnable (plainFrame 0 0) 0, .porstN false (⟨0, false, []⟩), .vauxLow 0 0]

theorem meets_FramesOfModesAndServices : ∀ c ∈ framesOfModesAndServices, ∃ t, exec c running = .next t := all_next (by decide +kernel)

/-! #### Each frame of bytes -/

theorem meets_FramesOfBytes_push : ∃ (initiator : Byte) (n : Fin 16) (data : List Byte) (s t : State) (a : Nat),
    exec (.windowPush initiator n data) s = .next t ∧ ∀ i < data.length, windowPlace s n.val (s.window n.val).wr i ≠ a :=
  have h : answers (exec (.windowPush 0x10 0 [1, 2, 3, 4]) windowed) = true := by decide +kernel
  ⟨0x10, 0, [1, 2, 3, 4], windowed, (next_of_answers h).choose, 68, (next_of_answers h).choose_spec, by decide +kernel⟩

theorem meets_FramesOfBytes_indexed : ∃ (initiator : Byte) (n : Fin 16) (off len : Nat) (bs : List Byte) (s t : State) (a : Nat),
    exec (.windowIndexedAccess initiator n off len (some bs)) s = .next t ∧
      ∀ i < bs.length, windowPlace s n.val ((s.window n.val).rd + off) i ≠ a :=
  have h : answers (exec (.windowIndexedAccess 0x10 0 8 2 (some [1, 2])) windowed) = true := by decide +kernel
  ⟨0x10, 0, 8, 2, [1, 2], windowed, (next_of_answers h).choose, 10, (next_of_answers h).choose_spec, by decide +kernel⟩

theorem meets_FramesOfBytes_command : ∃ (e : Env) (channel : Fin 16) (v : U32) (s t : State) (a : Nat),
    exec (.sealCommand e channel v) s = .next t ∧ (∀ i < 16, bank31 (0xA00 + s.sealed.commands % 64 * 16 + i) ≠ a) ∧
      ∀ i < 8, bank31 (0xE00 + i) ≠ a :=
  have h : answers (exec (.sealCommand (plainFrame 0 0) 0 0x01000005) mailed) = true := by decide +kernel
  ⟨plainFrame 0 0, 0, 0x01000005, mailed, (next_of_answers h).choose, bank31 0xA10, (next_of_answers h).choose_spec,
    by decide +kernel, by decide +kernel⟩

theorem meets_FramesOfBytes_clearing : ∃ (b : Fin 32) (s t : State) (a : Nat),
    exec (.bankClearingDone b) s = .next t ∧ panBank a ≠ b.val :=
  have h : answers (exec (.bankClearingDone 31) running) = true := by decide +kernel
  ⟨31, running, (next_of_answers h).choose, 0, (next_of_answers h).choose_spec, by decide +kernel⟩

/-- A write of line 0 for slice 0. -/
def write0 : DReq := { fill0 with write := true, data := zeros 64 }

/-- The device with that write queued at its channel. -/
def writing : State := dramWith { writeQ := [write0] } {}

theorem meets_FramesOfBytes_dram : ∃ (channel : Fin 32) (pcB : Bool) (errs : List (Nat × Nat)) (spareErrs : List Bool) (s u v t : State)
    (r : DReq) (phys rank : Nat) (spare : Bool), refreshing s (channel.val / 16) = true ∧
    u = refillHeat (refillBudget s channel.val) channel.val ∧ stackState u (channel.val / 16) = 2 ∧ dueNow u channel.val (b2n pcB) = none ∧
    pick u channel.val (b2n pcB) = some r ∧ r.write = true ∧ r.data.length = 64 ∧ regionOf u (r.line * 64) = none ∧
    v = checkRemaps (settleRet u (dloc (r.line * 64)).chan) (dloc (r.line * 64)).chan ∧
    placeOf v (r.line * 64) = .at_ phys rank spare ∧ exec (.dramCommandSlot channel pcB errs spareErrs) s = .next t :=
  have h : answers (exec (.dramCommandSlot 0 false [] []) writing) = true := by decide +kernel
  ⟨0, false, [], [], writing, _, _, (next_of_answers h).choose, write0, 0, 0, false, by decide +kernel, rfl, by decide +kernel,
    by decide +kernel, by decide +kernel, rfl, by decide +kernel, by decide +kernel, rfl, by decide +kernel, (next_of_answers h).choose_spec⟩

/-! #### Figures of the spec's worked examples and tables -/

/-- The worked example of R392. -/
theorem test_home_slice : homeSlice State.reset 0x1234567A40 = 10 := by decide +kernel

/-- The worked example of R432. -/
theorem test_dram_place : (fun l => (l.rank, l.chan, l.pc, l.bank, l.row, l.col)) (dloc 0x456789AC0) = (1, 25, 1, 3, 2739, 9) := by
  decide +kernel

/-- The home slice of the worked example of R432. -/
theorem test_home_slice_of_place : homeSlice State.reset 0x456789AC0 = 11 := by decide +kernel

/-- No row of the table has bits. -/
theorem test_no_words : decodeTableWord 32 0 = none := rfl

/-- A CRC-32C check value of the standard. -/
theorem test_crc32c : Crypto.crc32c [0x31, 0x32, 0x33, 0x34, 0x35, 0x36, 0x37, 0x38, 0x39] = 0xE3069283 := by decide +kernel

/-! #### Ill-formed commands, one for each check -/

/-- A frame whose MAC has a byte. -/
def shortMac : Env := { plainFrame 0 0 with mac := [0] }

/-- More bytes than a frame carries. -/
def tooLong : List Byte := zeros 1025

theorem test_illformed_mac : ([.close shortMac, .read shortMac ⟨0x1101, 1, 0x06, 0, 0, 0⟩, .abort shortMac 0, .fabMemReadCommand shortMac 1] :
    List Instr).any wellFormed = false := by decide +kernel

theorem test_illformed_session : ([.openSession (plainFrame 0 0) 4 0 [], .response (plainFrame 0 0) [] none,
    .response (plainFrame 0 0) (zeros 32) (some []), .write (plainFrame 0 0) ⟨0x1101, 1, 0x06, 0, 0, tooLong⟩,
    .pairedWrite (plainFrame 0 0) ⟨0x1101, 1, 0x06, 0, 0, [1]⟩, .pairedWrite (plainFrame 0 0) ⟨0x1101, 1, 0x06, 0, 0, zeros 17⟩,
    .segment (plainFrame 0 0) 0 [], .segment (plainFrame 0 0) 0 tooLong, .unknownService (plainFrame 0 0) 0x99 (zeros 1041),
    .unknownService (plainFrame 0 0) 0x10 []] : List Instr).any wellFormed = false := by decide +kernel

theorem test_illformed_transports : ([.usdoRequest 1 ⟨127, 1, 0x1101, 1, 0, zeros 65537⟩, .canBusOff 0 0 0, .processData 0 0 none 0 0 tooLong [],
    .processData 0 0 none 0 0 [] [0], .txImageSample [(0x600000, [])], .txImageSample [(0, zeros 256)], .tapForward 384,
    .tapAnswer 384 false 0 [], .tapAnswer 0 false 0 tooLong, .tapTimeout 384] : List Instr).any wellFormed = false := by decide +kernel

theorem test_illformed_loading : ([.streamHeader .feed [] [], .streamHeader .feed (zeros 512) [0], .chunkVerified [],
    .efuseKeyWrite (plainFrame 0 0) tooLong, .bbramKeyWrite (plainFrame 0 0) tooLong, .keyProg false [] [], .keyProg false key11 [],
    .ownerKeyWrite (plainFrame 0 0) 0 tooLong, .hostFeedData (plainFrame 0 0) tooLong, .startupOrderWrite (plainFrame 0 0) tooLong,
    .libraryCopy (List.replicate 65 []), .writeData (plainFrame 0 0) tooLong, .dictKeysWrite (plainFrame 0 0) 0 tooLong,
    .calibrationDone [] true true 0 [] [], .calibrationDone [] true true 0 (zeros 64) [], .porstN false ⟨0, false, []⟩,
    .fuseLoadDone 0 []] : List Instr).any wellFormed = false := by decide +kernel

theorem test_illformed_chain : ([.position ⟨true, 0, 0, false, 16, 0, true⟩ 0, .position ⟨true, 0, 0, false, 0, 16, true⟩ 0,
    .stream (frameIn true 0) (zeros 257), .stream ⟨true, 0, 0, false, 16, 0, true⟩ [], .remoteReq (frameIn true 0) (zeros 1089),
    .remoteReq ⟨true, 0, 0, false, 0, 16, true⟩ [], .remoteResp (frameIn true 0) (zeros 1089),
    .remoteResp ⟨true, 0, 0, false, 16, 0, true⟩ []] : List Instr).any wellFormed = false := by decide +kernel

theorem test_illformed_numbers : ([.delayLineStep 6144, .delayLineStep 32817, .baseportTransaction 0 0 [], .windowPush 0 0 [], .windowPush 0 0 tooLong,
    .windowPop 0 0 0, .windowPop 0 0 1025, .windowRelease 0 0 0, .windowIndexedAccess 0 0 0 0 none, .windowIndexedAccess 0 0 0 1025 none,
    .windowIndexedAccess 0 0 0 1 (some []), .inputEdge 6 40 true 0 0, .returnTimer 7 47, .ioPinWrite (plainFrame 0 0) 6 40 0 0,
    .laneLocked (.user 0) 1024] : List Instr).any wellFormed = false := by decide +kernel

theorem test_illformed_services : ([.keyUnwrapEfuse (plainFrame 0 0) 0 tooLong, .keyUnwrapBbram (plainFrame 0 0) 0 tooLong,
    .sealProvision (plainFrame 0 0) tooLong [], .sealKey (plainFrame 0 0) tooLong, .sampleFrame 0 [], .sampleFrame 0 (List.replicate 129 true),
    .debug false 0 0 [], .debug false 0 1025 [], .debug true 0 2 [1]] : List Instr).any wellFormed = false := by decide +kernel

/-- Commands without those faults are well formed. -/
theorem test_wellformed : ([.close (plainFrame 0 0), .openSession (plainFrame 0 0) 4 0 (zeros 16), .windowPush 0 0 [1], .delayLineStep 6143,
    .inputEdge 5 47 true 0 0, .segment (plainFrame 0 0) 0 [1], .unknownService (plainFrame 0 0) 0x99 []] :
    List Instr).all wellFormed = true := by decide +kernel

end Sys2Proof.Tests
end

section
/-! PROOFS. Sessions held at step 2 (R51): what frees one, and what a wrong RESPONSE leaves behind. -/

namespace Sys2Proof.Machine

/-! #### What the operations of a RESPONSE change of the dictionary part -/

/-- Noting a frame's number changes only the recoveries of the 802.1CB streams. -/
theorem recovered_eq (s : State) (stream : Nat) (rtag : Option (BitVec 16)) :
    ∃ r, recovered s stream rtag = { s with dict := { s.dict with recovered := r } } := by
  unfold recovered
  split
  · exact ⟨s.dict.recovered, rfl⟩
  · split
    · exact ⟨s.dict.recovered, rfl⟩
    · split
      · exact ⟨s.dict.recovered, rfl⟩
      · exact ⟨_, rfl⟩

/-- A frame sent leaves the dictionary part as it was but for the replication number. -/
theorem sendFrame_dict (s : State) (o : Out) : ∃ k, (s.sendFrame o).dict = { s.dict with frerTx := k } := by
  unfold State.sendFrame
  split
  · exact ⟨s.dict.frerTx, rfl⟩
  · exact ⟨_, rfl⟩

@[simp] theorem num_sendFrame (s : State) (o : Out) (idx sub : Nat) : (s.sendFrame o).num idx sub = s.num idx sub := by
  obtain ⟨d, more, h⟩ := sendFrame_eq s o
  rw [h]; rfl

@[simp] theorem session_sendFrame (s : State) (o : Out) (n : Nat) : (s.sendFrame o).session n = s.session n := by
  obtain ⟨k, h⟩ := sendFrame_dict s o
  rw [State.session, h]; rfl

@[simp] theorem session_setSession_same (s : State) (n : Nat) (x : Session) : (s.setSession n x).session n = x :=
  AMap.get_set_same _ _ _ _

/-! #### Records and the dictionary part -/

/-- The state with its dictionary part replaced. -/
def State.setDict (s : State) (d : Dict) : State := { s with dict := d }

@[simp] theorem State.setDict_outs (s : State) (d : Dict) : (s.setDict d).outs = s.outs := rfl
@[simp] theorem State.setDict_obs (s : State) (d : Dict) : (s.setDict d).obs = s.obs := rfl

theorem sourceTake_setDict (s : State) (d : Dict) (r : Rec) (trace : Bool) :
    sourceTake (s.setDict d) r trace = (sourceTake s r trace).setDict d := by
  have hheld : heldAt (s.setDict d) r.source = heldAt s r.source := rfl
  unfold sourceTake
  simp only [hheld]
  split <;> rfl

theorem raiseAlarm_setDict (s : State) (d : Dict) (sev code : Nat) :
    raiseAlarm (s.setDict d) sev code = (raiseAlarm s sev code).setDict d := by
  unfold raiseAlarm
  split <;> rfl

/-- A record does not depend on the dictionary part, and leaves it as it is. -/
theorem event_setDict (s : State) (d : Dict) (src code : Nat) (payload : List Byte) :
    event (s.setDict d) src code payload = (event s src code payload).setDict d := by
  unfold event recordAt
  rw [← raiseAlarm_setDict, ← sourceTake_setDict]
  rfl

/-! #### A failed authentication (R51, R56) -/

/-- Fewer failures in a row than the limit: event 0xD003, and one failure more. -/
theorem authFailed_below {s : State} {level : Nat} {h : HostAddr} (hn : AMap.get 0 s.dict.fails level + 1 < s.num 0x1101 2) :
    authFailed s level h =
      (event s (portSource h) 0xD003 (u8 level ++ addrBytes h)).setDict
        { s.dict with fails := AMap.set 0 s.dict.fails level (AMap.get 0 s.dict.fails level + 1) } := by
  unfold authFailed
  rw [if_neg (Nat.not_le.mpr hn), event_dict]
  rfl

/-- The failure that reaches the limit: events 0xD003 and 0xD004, the count begun afresh and the level locked. -/
theorem authFailed_reached {s : State} {level : Nat} {h : HostAddr} (hn : s.num 0x1101 2 ≤ AMap.get 0 s.dict.fails level + 1) :
    authFailed s level h =
      (event (event s (portSource h) 0xD003 (u8 level ++ addrBytes h)) (portSource h) 0xD004
        (u8 level ++ u16 (s.num 0x1101 3))).setDict
        { s.dict with
          fails := AMap.set 0 s.dict.fails level 0
          lockedTill := AMap.set 0 s.dict.lockedTill level (s.now + nsRoots (s.num 0x1101 3 * 1000000000)) } := by
  unfold authFailed
  rw [if_pos hn, event_dict, ← event_setDict]
  rfl

/-- Of the dictionary part a failed authentication changes the failures and the locks alone; it sends nothing. -/
theorem authFailed_dict (s : State) (level : Nat) (h : HostAddr) :
    ∃ a b, (authFailed s level h).dict = { s.dict with fails := a, lockedTill := b } ∧ (authFailed s level h).outs = s.outs := by
  rcases Nat.lt_or_ge (AMap.get 0 s.dict.fails level + 1) (s.num 0x1101 2) with hn | hn
  · rw [authFailed_below hn]; exact ⟨_, s.dict.lockedTill, rfl, by simp⟩
  · rw [authFailed_reached hn]; exact ⟨_, _, rfl, by simp⟩

/-! #### What ends a session held at step 2 (R50, R51) -/

/-- A RESPONSE of the right form, from the host of the session that awaits it, answers the challenge. -/
theorem execResponse_opening {s : State} {e : Env} {hmac : List Byte} {sealedHmac : Option (List Byte)}
    (ht : frameTaken s e (hmac ++ sealedHmac.getD []) = true) (hl : hmac.length = 32) (hs : ∀ h, sealedHmac = some h → h.length = 32)
    (hn : e.session.toNat < 16) (hp : (s.session e.session.toNat).phase = .opening)
    (hh : (s.session e.session.toNat).host = e.host) (hw : (s.session e.session.toNat).wantsSealed = sealedHmac.isSome) :
    execResponse e hmac sealedHmac s =
      .next (answerChallenge (tookFrame s e) e e.session.toNat (s.session e.session.toNat) hmac sealedHmac) := by
  have hsl : ¬ (sealedHmac ≠ none ∧ (sealedHmac.getD []).length ≠ 32) := by
    rintro ⟨hne, hlen⟩
    obtain ⟨h, rfl⟩ := Option.ne_none_iff_exists'.mp hne
    exact hlen (hs h rfl)
  simp [execResponse, ht, hl, hsl, hp, hh, hw, Nat.not_le.mpr hn]

/-- The answer to a wrong RESPONSE, as the frame that is sent. -/
theorem plainReply_wrongResponse (s : State) (e : Env) : plainReply s 0x03 e (u32 abAuth) =
    s.sendFrame (.response e.host 0x03 e.session 0x01 e.transfer 0 (u32 0x0B000006) []) := rfl

/-- A wrong HMAC within the second frees the session, answers 0x0B00_0006 and fails the authentication. -/
theorem answerChallenge_wrong {s : State} {e : Env} {n : Nat} {x : Session} {hmac : List Byte} {sealedHmac : Option (List Byte)}
    (he : s.elapsed x.heldAt 1000000000 = false) (hx : hmac ≠ Crypto.hmac (levelKey s x.level) (challenge s x n)) :
    answerChallenge s e n x hmac sealedHmac = authFailed (plainReply (s.setSession n {}) 0x03 e (u32 abAuth)) x.level x.host := by
  simp [answerChallenge, he, hx]

/-- The second of a session held, and the HMAC due for it, are the same once a frame has been taken. -/
theorem answerChallenge_tookFrame_wrong {s : State} {e : Env} {n : Nat} {x : Session} {hmac : List Byte} {sealedHmac : Option (List Byte)}
    (he : s.elapsed x.heldAt 1000000000 = false) (hx : hmac ≠ Crypto.hmac (levelKey s x.level) (challenge s x n)) :
    answerChallenge (tookFrame s e) e n x hmac sealedHmac =
      authFailed (plainReply ((tookFrame s e).setSession n {}) 0x03 e (u32 abAuth)) x.level x.host := by
  obtain ⟨r, hr⟩ := recovered_eq s (envStream e) e.rtag
  apply answerChallenge_wrong <;> rw [tookFrame, hr]
  · exact he
  · exact hx

/-- The failures and the limit that count for a wrong RESPONSE are those from before it. -/
theorem fails_num_refused (s : State) (e : Env) (n : Nat) (o : Out) :
    (((tookFrame s e).setSession n {}).sendFrame o).dict.fails = s.dict.fails ∧
      ∀ idx sub, (((tookFrame s e).setSession n {}).sendFrame o).num idx sub = s.num idx sub := by
  obtain ⟨r, hr⟩ := recovered_eq s (envStream e) e.rtag
  obtain ⟨k, hk⟩ := sendFrame_dict ((tookFrame s e).setSession n {}) o
  refine ⟨by rw [hk, tookFrame, hr]; rfl, fun idx sub => ?_⟩
  rw [num_sendFrame, tookFrame, hr]; rfl

theorem execOpeningTimeout_held {n : Fin 16} {s : State} (hp : (s.session n.val).phase = .opening)
    (he : s.elapsed (s.session n.val).heldAt 1000000000 = true) : execOpeningTimeout n s = .next (s.setSession n.val {}) :=
  if_pos ⟨hp, he⟩

/-- Settles O60: OPENING_TIMEOUT frees what it finds held for 1 s; a wrong RESPONSE is taken, answers the challenge wrongly, and so
frees the session, sends the answer, and records the failure by the failures so far. -/
theorem sessionsAtStep2 : Obligations.SessionsAtStep2 := by
  unfold Obligations.SessionsAtStep2
  refine ⟨fun n s => execOpeningTimeout_held, ?_⟩
  rintro e hmac sealedHmac s u x ht hl hs hn rfl hp hh hw he hx hu
  have hexec : exec (.response e hmac sealedHmac) s = .next (authFailed u (s.session e.session.toNat).level e.host) := by
    have hrun : exec (.response e hmac sealedHmac) s = execResponse e hmac sealedHmac s := rfl
    rw [hrun, execResponse_opening ht hl hs hn hp hh hw, answerChallenge_tookFrame_wrong he hx, plainReply_wrongResponse, ← hu, hh]
  obtain ⟨a, b, hdict, houts⟩ := authFailed_dict u (s.session e.session.toNat).level e.host
  have hfree : (u.session e.session.toNat).phase = .closed := by simp [hu]
  obtain ⟨hfails, hnum⟩ : u.dict.fails = s.dict.fails ∧ ∀ idx sub, u.num idx sub = s.num idx sub := hu ▸ fails_num_refused s e _ _
  refine ⟨_, a, b, hexec, ?_, hdict, houts, fun hbelow => ?_, fun hreached => ?_⟩
  · rw [State.session, hdict]; exact hfree
  · rw [authFailed_below (by rwa [hfails, hnum]), State.setDict_obs]
  · rw [authFailed_reached (by rwa [hfails, hnum]), State.setDict_obs, hnum]

end Sys2Proof.Machine
end

section
/-! PROOFS. What a WRITE leaves of the fabric, and the readback of fabric memories (R145 to R149). -/

namespace Sys2Proof.Machine

/-- What every step of a fold leaves as it was, the fold leaves as it was. -/
theorem foldl_keeps {σ α β : Type} (part : σ → β) {f : σ → α → σ} (h : ∀ s x, part (f s x) = part s) (l : List α) (s : σ) :
    part (l.foldl f s) = part s := by
  induction l generalizing s with
  | nil => rfl
  | cons x l ih => rw [List.foldl_cons, ih, h]

/-! #### Checks 1 and 2 of R41 leave the fabric -/

@[simp] theorem compEvent_fab (s : State) (idx sub : Nat) : (compEvent s idx sub).fab = s.fab := event_fab _ _ _ _

@[simp] theorem answerTap_fab (s : State) (t : TapReq) (status length : Nat) (data : List Byte) :
    (answerTap s t status length data).fab = s.fab := by
  unfold answerTap
  split
  · exact respond_fab _ _ _ _
  · rfl
  · rfl

@[simp] theorem closeSession_fab (s : State) (n reason : Nat) : (closeSession s n reason).fab = s.fab := by
  unfold closeSession
  split
  · rfl
  · rw [event_fab]
    exact foldl_keeps State.fab (fun s t => answerTap_fab s t _ _ _) _ _

@[simp] theorem endSession_fab (s : State) (n reason : Nat) : (endSession s n reason).fab = s.fab := by
  unfold endSession
  split
  · exact closeSession_fab s n reason
  · rfl
  · rfl

@[simp] theorem closeLevel_fab (s : State) (level reason : Nat) : (closeLevel s level reason).fab = s.fab := by
  refine foldl_keeps State.fab (fun s n => ?_) _ _
  split
  · exact endSession_fab s n reason
  · rfl

@[simp] theorem levelsUsed_fab (s : State) : (levelsUsed s).fab = s.fab := by
  unfold levelsUsed levelFault
  split
  · rfl
  · exact (foldl_keeps State.fab (fun s l => closeLevel_fab s l 3) _ _).trans (compEvent_fab (s.putObj 0x1110 0 [0x08]) 0x1110 0)

@[simp] theorem recovered_fab (s : State) (stream : Nat) (rtag : Option (BitVec 16)) : (recovered s stream rtag).fab = s.fab := by
  obtain ⟨r, h⟩ := recovered_eq s stream rtag
  rw [h]

@[simp] theorem badFrame_fab (s : State) (e : Env) : (badFrame s e).fab = s.fab := event_fab _ _ _ _

/-- The state that checks 1 and 2 leave. -/
def Framed.state : Framed → State
  | .drop s => s
  | .refuse s _ => s
  | .go s _ => s

theorem receive_fab (s : State) (svc : Nat) (e : Env) (payload : List Byte) (sizeOk : Bool) :
    (receive s svc e payload sizeOk).state.fab = s.fab := by
  unfold receive
  simp only []
  repeat' split
  all_goals simp [Framed.state]

/-! #### A WRITE changes of the fabric only what its object's action does -/

@[simp] theorem criticalWritten_fab (s : State) (who : Requester) (idx sub : Nat) (old new : List Byte) :
    (criticalWritten s who idx sub old new).fab = s.fab := by
  unfold criticalWritten
  split <;> simp

section
variable {a : Action} {R : Fabric → Fabric → Prop} (hrefl : ∀ f, R f f) (hlate : ∀ s v c, (a.late s v c).fab = s.fab)
  (happly : ∀ s who old new, R s.fab (a.apply s who old new).fab)
include hrefl hlate happly

theorem applyWrite_fab (s : State) (who : Requester) (idx sub : Nat) (v : List Byte) : R s.fab (applyWrite s who idx sub v a).fab := by
  unfold applyWrite
  split
  · exact hrefl _
  · have heffect : ∀ s2 old new, s2.fab = s.fab → R s.fab (a.apply s2 who old new).fab := fun s2 old new h => h ▸ happly s2 who old new
    simp only [hlate]
    exact heffect _ _ _ (by simp [apply_ite State.fab])

theorem dictWrite_fab (s : State) (who : Requester) (paired : Bool) (w : WriteReq) : R s.fab (dictWrite s who paired w a).1.fab := by
  unfold dictWrite
  split
  · simp only [apply_ite State.fab, hlate, event_fab, ite_self]
    exact hrefl _
  · exact applyWrite_fab hrefl hlate happly _ _ _ _ _

omit hrefl happly in
theorem beginSegmented_fab (s : State) (n : Fin 16) (e : Env) (w : WriteReq) : (beginSegmented s n e w a).1.fab = s.fab := by
  unfold beginSegmented
  split
  · dsimp only
    split
    · exact hlate _ _ _
    · rfl
  · rfl

theorem serveWrite_fab (e : Env) (paired : Bool) (w : WriteReq) (s : State) : R s.fab (serveWrite e paired w a s).fab := by
  unfold serveWrite
  dsimp only
  have hreceived := receive_fab s (if paired then 0x12 else 0x11) e (writePayload w)
    (if paired then decide (2 ≤ w.data.length) && decide (w.data.length ≤ 16) else decide (w.data.length ≤ 1024))
  split
  case h_1 s1 hr => rw [← hreceived, hr]; exact hrefl _
  case h_2 s1 c hr => rw [← hreceived, hr, respond_fab]; exact hrefl _
  case h_3 s1 who hr =>
    rw [← hreceived, hr]
    split
    · rw [respond_fab]; exact hrefl _
    · split
      · rw [respond_fab, beginSegmented_fab hlate]; exact hrefl _
      · rw [respond_fab]; exact dictWrite_fab hrefl hlate happly _ _ _ _

end

/-! #### The readback -/

/-- The command of a readback changes its status and its target, and nothing else of the fabric. -/
theorem execFabMemReadCommand_fab {e : Env} {v : Byte} {s t : State} (h : execFabMemReadCommand e v s = .next t) :
    ∃ status target, t.fab = { s.fab with readStatus := status, readTarget := target } := by
  injection h with h
  subst h
  exact serveWrite_fab (R := fun f g => ∃ status target, g = { f with readStatus := status, readTarget := target })
    (fun f => ⟨f.readStatus, f.readTarget, rfl⟩) (fun _ _ _ => rfl) (fun _ _ _ _ => ⟨_, _, rfl⟩) _ _ _ _

/-- The end of a readback changes its status and its data, and nothing else at all. -/
theorem execFabMemReadDone_eq {busError : Bool} {s t : State} (h : execFabMemReadDone busError s = .next t) :
    ∃ status bs, t = { s with fab := { s.fab with readStatus := status, readData := bs } } := by
  unfold execFabMemReadDone at h
  split at h
  · injection h with h; exact ⟨s.fab.readStatus, s.fab.readData, h.symm⟩
  · split at h
    · injection h with h; exact ⟨3, s.fab.readData, h.symm⟩
    · injection h with h; exact ⟨2, _, h.symm⟩

/-- Settles O57: the command and the end of a readback write only its own status, target and data. -/
theorem readbackChangesNothing : Obligations.ReadbackChangesNothing :=
  ⟨fun _ _ _ => execFabMemReadDone_eq, fun _ _ _ _ => execFabMemReadCommand_fab⟩

end Sys2Proof.Machine
end

section
/-! PROOFS. A fabric clock's edge at the flip-flops of a half-tile (R104 to R107), and an arithmetic slice's edge (R131). -/

namespace Sys2Proof.Machine

/-! #### Entries set one after another -/

/-- A table with entries set in order. -/
def AMap.setAll {α : Type} [DecidableEq α] (d : α) (m : AMap α) (l : List (Nat × α)) : AMap α :=
  l.foldl (fun m x => AMap.set d m x.1 x.2) m

section
variable {α : Type} [DecidableEq α] {d v : α} {m : AMap α} {k : Nat} {l : List (Nat × α)}

/-- A key that no entry names is as it was. -/
theorem AMap.get_setAll_other (h : ∀ x ∈ l, k ≠ x.1) : AMap.get d (AMap.setAll d m l) k = AMap.get d m k := by
  induction l generalizing m with
  | nil => rfl
  | cons x l ih =>
    exact (ih fun y hy => h y (List.mem_cons_of_mem _ hy)).trans (AMap.get_set_other d m x.1 k x.2 (h x List.mem_cons_self))

/-- A key whose entries agree, and has one, holds their value. -/
theorem AMap.get_setAll_same (hv : ∀ x ∈ l, x.1 = k → x.2 = v) (hk : (k, v) ∈ l) : AMap.get d (AMap.setAll d m l) k = v := by
  induction l generalizing m with
  | nil => cases hk
  | cons x l ih =>
    have hvl : ∀ y ∈ l, y.1 = k → y.2 = v := fun y hy => hv y (List.mem_cons_of_mem _ hy)
    by_cases hl : (k, v) ∈ l
    · exact ih hvl hl
    · obtain rfl : (k, v) = x := (List.mem_cons.mp hk).resolve_right hl
      have hlast : ∀ y ∈ l, k ≠ y.1 := fun y hy hky => hl (by rwa [hky, ← hvl y hy hky.symm])
      exact (AMap.get_setAll_other hlast).trans (AMap.get_set_same d m k v)

end

/-! #### The tiles and flip-flops that an edge reaches -/

/-- A configured tile stands at a cluster and tile number of the fabric, with its frame. -/
theorem of_mem_writtenTiles {s : State} {g : Nat} {p : Spot} {fr : BitVec 2560} (h : (p, fr) ∈ writtenTiles s g) :
    p.g = g ∧ p.c < 64 ∧ p.t < 256 ∧ tileFrame s p = some fr := by
  unfold writtenTiles at h
  split at h
  · cases h
  · simp only [List.mem_filterMap, Option.ite_none_right_eq_some, Option.map_eq_some_iff, Prod.mk.injEq] at h
    obtain ⟨kv, -, -, fr', hfr, rfl, rfl⟩ := h
    exact ⟨rfl, Nat.mod_lt _ (by decide), Nat.mod_lt _ (by decide), hfr⟩

/-- Flip-flops of the fabric have numbers of their own. -/
theorem ffKey_inj {p p' : Spot} {c c' : Fin 16} {i i' : Fin 2} (hc : p.c < 64) (ht : p.t < 256) (hc' : p'.c < 64) (ht' : p'.t < 256)
    (h : ffKey p c i.val = ffKey p' c' i'.val) : p = p' ∧ c = c' ∧ i = i' := by
  obtain ⟨g, cl, t⟩ := p
  obtain ⟨g', cl', t'⟩ := p'
  simp only [ffKey] at *
  rw [Spot.mk.injEq, Fin.ext_iff, Fin.ext_iff]
  omega

theorem mem_cellsOn {fr : BitVec 2560} {clk : Fin 8} {c : Fin 16} :
    c ∈ cellsOn fr clk.val ↔ (Config.controlSet fr (halfOf c)).clock = some clk := by
  simp only [cellsOn, List.mem_filter, List.mem_finRange, true_and, Option.any_eq_true, decide_eq_true_eq]
  constructor
  · rintro ⟨m, hm, hv⟩
    rw [hm, Fin.ext hv]
  · exact fun h => ⟨clk, h, rfl⟩

/-- What an edge of FCLKn writes to the flip-flops of a tile. -/
def tileFfWrites (s : State) (n : Nat) (rising : Bool) (t : Spot × BitVec 2560) : List (Nat × Bool) :=
  (cellsOn t.2 n).flatMap fun c => [0, 1].map fun i : Fin 2 => (ffKey t.1 c i.val, ffTakes s (netBefore s) t.2 t.1 c i rising)

/-- What an edge of FCLKn writes to the flip-flops of some sectors. -/
def ffWrites (s : State) (n : Nat) (rising : Bool) (gs : List Nat) : List (Nat × Bool) :=
  (gs.flatMap (writtenTiles s.outgoing)).flatMap (tileFfWrites s n rising)

theorem foldl_tileFfs (s : State) (n : Nat) (rising : Bool) (m : AMap Bool) (tiles : List (Spot × BitVec 2560)) :
    tiles.foldl (tileFfs s (netBefore s) n rising) m = AMap.setAll false m (tiles.flatMap (tileFfWrites s n rising)) := by
  have htile : ∀ m t, tileFfs s (netBefore s) n rising m t = AMap.setAll false m (tileFfWrites s n rising t) := fun m t => by
    simp only [tileFfs, AMap.setAll, tileFfWrites, List.foldl_flatMap, List.foldl_map]
  rw [funext₂ htile, AMap.setAll, List.foldl_flatMap]
  rfl

theorem tileSeams_ff (s : State) (ev : Net → Bool) (n : Nat) (f : Fabric) (t : Spot × BitVec 2560) : (tileSeams s ev n f t).ff = f.ff := by
  refine foldl_keeps Fabric.ff (fun f d => ?_) _ _
  dsimp only
  split
  · rfl
  · split
    · rfl
    · exact foldl_keeps Fabric.ff (by intros; rfl) _ _

/-- The flip-flops after an edge: those that take it set, and no other. -/
theorem cellsEdge_ff (s : State) (n : Nat) (rising : Bool) (gs : List Nat) :
    (cellsEdge s n rising gs).fab.ff = AMap.setAll false s.fab.ff (ffWrites s n rising gs) := by
  rw [ffWrites, ← foldl_tileFfs]
  cases rising
  · rfl
  · exact foldl_keeps Fabric.ff (tileSeams_ff s (netBefore s) n) _ _

theorem mem_ffWrites {s : State} {clk : Fin 8} {rising : Bool} {gs : List Nat} {x : Nat × Bool} :
    x ∈ ffWrites s clk.val rising gs ↔ ∃ g ∈ gs, ∃ p fr, (p, fr) ∈ writtenTiles s.outgoing g ∧ ∃ c i,
      (Config.controlSet fr (halfOf c)).clock = some clk ∧ x = (ffKey p c i.val, ffTakes s (netBefore s) fr p c i rising) := by
  have hboth (i : Fin 2) : i ∈ [0, 1] := by revert i; decide
  simp only [ffWrites, tileFfWrites, List.mem_flatMap, mem_cellsOn, List.mem_map, hboth, true_and]
  constructor
  · rintro ⟨⟨p, fr⟩, ⟨g, hg, hp⟩, c, hc, i, rfl⟩
    exact ⟨g, hg, p, fr, hp, c, i, hc, rfl⟩
  · rintro ⟨g, hg, p, fr, hp, c, i, hc, rfl⟩
    exact ⟨(p, fr), ⟨g, hg, hp⟩, c, hc, i, rfl⟩

/-- Whatever an edge writes to a flip-flop of a configured tile, it is the flip-flop's own value, and its half-tile takes the clock. -/
theorem of_mem_ffWrites {s : State} {clk : Fin 8} {rising : Bool} {gs : List Nat} {x : Nat × Bool} {p : Spot} {fr : BitVec 2560}
    {c : Fin 16} {i : Fin 2} (hp : (p, fr) ∈ writtenTiles s.outgoing p.g) (hx : x ∈ ffWrites s clk.val rising gs)
    (hk : x.1 = ffKey p c i.val) :
    (Config.controlSet fr (halfOf c)).clock = some clk ∧ x.2 = ffTakes s (netBefore s) fr p c i rising := by
  obtain ⟨g, -, p', fr', hp', c', i', hclk, rfl⟩ := mem_ffWrites.mp hx
  obtain ⟨-, hc, ht, hfr⟩ := of_mem_writtenTiles hp
  obtain ⟨-, hc', ht', hfr'⟩ := of_mem_writtenTiles hp'
  obtain ⟨rfl, rfl, rfl⟩ := ffKey_inj hc' ht' hc ht hk
  obtain rfl : fr' = fr := Option.some.inj (hfr'.symm.trans hfr)
  exact ⟨hclk, rfl⟩

/-- A flip-flop of a half-tile on another clock, or on a routed wire, is as it was. -/
theorem cellsEdge_ff_other {s : State} {clk : Fin 8} {rising : Bool} {gs : List Nat} {p : Spot} {fr : BitVec 2560} {c : Fin 16}
    {i : Fin 2} (hp : (p, fr) ∈ writtenTiles s.outgoing p.g) (h : (Config.controlSet fr (halfOf c)).clock ≠ some clk) :
    AMap.get false (cellsEdge s clk.val rising gs).fab.ff (ffKey p c i.val) = AMap.get false s.fab.ff (ffKey p c i.val) := by
  rw [cellsEdge_ff]
  exact AMap.get_setAll_other fun x hx hk => h (of_mem_ffWrites hp hx hk.symm).1

/-- A flip-flop of a half-tile on the clock takes the edge. -/
theorem cellsEdge_ff_takes {s : State} {clk : Fin 8} {rising : Bool} {gs : List Nat} {p : Spot} {fr : BitVec 2560} {c : Fin 16}
    {i : Fin 2} (hg : p.g ∈ gs) (hp : (p, fr) ∈ writtenTiles s.outgoing p.g) (h : (Config.controlSet fr (halfOf c)).clock = some clk) :
    AMap.get false (cellsEdge s clk.val rising gs).fab.ff (ffKey p c i.val) = ffTakes s (netBefore s) fr p c i rising := by
  rw [cellsEdge_ff]
  exact AMap.get_setAll_same (fun x hx hk => (of_mem_ffWrites hp hx hk).2) (mem_ffWrites.mpr ⟨p.g, hg, p, fr, hp, c, i, h, rfl⟩)

/-! #### The order of a flip-flop's controls (R107) -/

theorem asyncSr_iff {f : FfEdge} : asyncSr f = true ↔ f.srType = .async ∧ f.conf.obeysSr = true ∧ f.sr = true := by
  simp only [asyncSr, Bool.and_eq_true, decide_eq_true_eq, and_assoc]

/-- Released from set/reset, a flip-flop drives its sr value under an asynchronous sr, a latch that is open its data, and what it holds
otherwise. -/
theorem ffOut_released {s : State} (h : s.boot.srReleased = true) (f : Fabric) (ev : Net → Bool) (fr : BitVec 2560) (p : Spot)
    (c : Fin 16) (i : Fin 2) : ffOut s f ev fr p c i =
      if asyncSr (ffAt ev fr p c i) then (ffAt ev fr p c i).conf.srSets
      else if (ffAt ev fr p c i).conf.kind = .latchHigh ∧ ev (.clk p (halfOf c)) = true ∨
          (ffAt ev fr p c i).conf.kind = .latchLow ∧ ev (.clk p (halfOf c)) = false then
        ffNext (ffAt ev fr p c i) (AMap.get false f.ff (ffKey p c i.val))
      else AMap.get false f.ff (ffKey p c i.val) := by
  simp only [ffOut, h, not_true_eq_false, if_false, Bool.not_eq_true]

theorem ffNext_sr {f : FfEdge} {q : Bool} (ho : f.conf.obeysSr = true) (hs : f.sr = true) (ht : f.srType = .async ∨ f.srType = .sync) :
    ffNext f q = f.conf.srSets := if_pos ⟨ht, ho, hs⟩

theorem ffNext_ce {f : FfEdge} {q : Bool} (h : (f.conf.obeysSr && f.sr) = false ∨ f.srType = .none) :
    ffNext f q = if f.conf.obeysCe = true ∧ f.ce = false then q else ffData f := by
  have hsr : ¬ ((f.srType = .async ∨ f.srType = .sync) ∧ f.conf.obeysSr = true ∧ f.sr = true) := by
    rintro ⟨ht, ho, hs⟩
    rcases h with h | h
    · simp [ho, hs] at h
    · simp [h] at ht
  rw [ffNext, if_neg hsr]
  simp only [Bool.not_eq_true]

/-! #### A slice's controls (R131) -/

@[simp] theorem State.opened_fab (s : State) : s.opened.fab = s.fab := by
  unfold State.opened
  split <;> rfl

@[simp] theorem State.edgeTaken_fab (s : State) (e : Elem) : (s.edgeTaken e).fab = s.fab := rfl

/-- A slice whose clock has its edge now, not taken before: its registers advance, held in rst before the release of set/reset. -/
theorem takeSliceEdge_fab {u : SliceId} {s : State} (i : ArithIn)
    (hc : unitClocked s (field (s.settingsNow u.sector.val u.cluster.val u.unit.val 3) 11 9) u.sector.val = true)
    (hd : s.edgeDone (.slice (sliceNum u)) = false) :
    (takeSliceEdge s u i).fab = { s.fab with
      arith := AMap.set {} s.fab.arith (sliceNum u) (sliceEdge (s.settingsNow u.sector.val u.cluster.val u.unit.val 3)
        (AMap.get {} s.fab.arith (sliceNum u)) (linkIn s.opened.edge.before (sliceNum u))
        { i with rst := i.rst || !s.boot.srReleased }) } := by
  simp [takeSliceEdge, hc, hd]

theorem sliceEdge_rst (cfg : Nat) (r : ArithRegs) (link : BitVec 56) {i : ArithIn} (h : i.rst = true) : sliceEdge cfg r link i = {} :=
  if_pos h

theorem sliceEdge_held (cfg : Nat) (r : ArithRegs) (link : BitVec 56) {i : ArithIn} (hr : i.rst = false) (hc : i.ce = false) :
    sliceEdge cfg r link i = r := by
  simp [sliceEdge, hr, hc]

/-- Settles O56: the flip-flops of an edge are set each to what its controls resolve to, and a slice's rst goes before its ce. -/
theorem flipFlopAndSliceControls : Obligations.FlipFlopAndSliceControls := by
  unfold Obligations.FlipFlopAndSliceControls
  refine ⟨?_, fun f q => ffNext_sr, fun f q => ffNext_ce, fun u i s hclocked hdone => ⟨fun hrst => ?_, fun hrst hce hrel => ?_⟩⟩
  · rintro clk rising gs s p fr c i f q cs hg hp hrel rfl rfl rfl
    by_cases hclk : (Config.controlSet fr (halfOf c)).clock = some clk
    · rw [if_neg (not_not.mpr hclk), cellsEdge_ff_takes hg hp hclk, ffTakes, ffOut_released hrel]
      simp only [asyncSr_iff]
    · rw [if_pos hclk, cellsEdge_ff_other hp hclk]
  · exact ⟨takeSliceEdge s u i, rfl, by rw [takeSliceEdge_fab i hclocked hdone, sliceEdge_rst _ _ _ (by simp [hrst])]⟩
  · exact ⟨takeSliceEdge s u i, rfl, by rw [takeSliceEdge_fab i hclocked hdone, sliceEdge_held _ _ _ (by simp [hrst, hrel]) (by simp [hce])]⟩

end Sys2Proof.Machine
end

section
/-! PROOFS. A WRITE refused by the state check of R41, and the refusals of RETIRE and RETRAIN (R466). -/

namespace Sys2Proof.Machine

/-- A whole WRITE frame past checks 1 and 2 of R41 is a write of the dictionary and the answer with its status. -/
theorem serveWrite_single {s s1 : State} {who : Requester} {e : Env} {w : WriteReq} {a : Action} (hl : w.data.length ≤ 1024)
    (hrecv : receive s 0x11 e (writePayload w) true = .go s1 who) (hn : ninth s1 who = false)
    (hseg : (isSegment e && !isLast e) = false) :
    serveWrite e false w a s =
      respond (dictWrite s1 who false w a).1 0x11 e (replyPayload w.index w.sub w.ty (dictWrite s1 who false w a).2 0 []) := by
  cases who <;> simp [serveWrite, hl, hrecv, hn, hseg]

/-! #### A refusal by the state check (check 6 of R41) -/

theorem need_eq_some_iff {ok : Bool} {c : Nat} : need ok c = some c ↔ ok = false := by
  cases ok <;> simp [need]

/-- Two checks with one code are one check of both conditions. -/
theorem firstOf_need_need (a b : Bool) (c : Nat) : firstOf [need a c, need b c] = need (a && b) c := by
  cases a <;> cases b <;> rfl

/-- A check whose code is that of the refusal after it does not change the refusal. -/
theorem firstOf_need_some (ok : Bool) (c : Nat) (rest : List (Option Nat)) : firstOf (need ok c :: some c :: rest) = some c := by
  cases ok <;> rfl

section
variable {s s1 : State} {who : Requester} {idx sub : Nat} {v : List Byte} {a : Action} {r : ObjRow}
  (hi : idx < 65536) (hs : sub < 256) (hr : rowOf idx sub = some r) (hm : r.mask = 0) (hc : a.clean v = v)
  (hacc : writeAccess s1 who false r = none) (hst : a.state s1 who v = some abState)
include hi hs hr hm hc hacc hst

/-- A write that its requester may make fails at check 6 where its object's state check fails, whether or not the object's block is on. -/
theorem writeCheck_stateRefused : writeCheck s1 who false false (wholeWrite idx sub v) a = some (6, abState) := by
  simp [writeCheck, wholeWrite, hr, hacc, storedForm_whole hm hc, hst, firstOf_need_some, Nat.mod_eq_of_lt hi, Nat.mod_eq_of_lt hs]

/-- Such a write has no effect and is answered with 0x0800_0022. -/
theorem serveWrite_stateRefused {e : Env} (hl : v.length ≤ 1024)
    (hrecv : receive s 0x11 e (writePayload (wholeWrite idx sub v)) true = .go s1 who) (hn : ninth s1 who = false)
    (hseg : (isSegment e && !isLast e) = false) :
    serveWrite e false (wholeWrite idx sub v) a s =
      respond s1 0x11 e (replyPayload (wholeWrite idx sub v).index (wholeWrite idx sub v).sub (wholeWrite idx sub v).ty abState 0 []) := by
  rw [serveWrite_single hl hrecv hn hseg, dictWrite, writeCheck_stateRefused hi hs hr hm hc hacc hst]
  rfl

end

/-! #### What RETIRE and RETRAIN refuse -/

theorem runHoldService_eq_false {s : State} (h : s.mode ≠ .run ∧ s.mode ≠ .hold ∧ s.mode ≠ .service) : runHoldService s = false := by
  obtain ⟨hrun, hhold, hservice⟩ := h
  simp [runHoldService, State.runOrHold, hrun, hhold, hservice]

theorem mem_bitsSet {v n i : Nat} : i ∈ bitsSet v n ↔ i < n ∧ v.testBit i = true := by
  simp [bitsSet, bit]

/-- A RETIRE is refused for the rank that it names, or for the mode. -/
theorem actRetire_state_refused {s : State} (who : Requester) {v : BitVec 16}
    (h : rankState (retOf (s.chan (field v.toNat 4 0))) (field v.toNat 9 8) = 1 ∨
      rankState (retOf (s.chan (field v.toNat 4 0))) (field v.toNat 9 8) = 2 ∨
      (field v.toNat 9 8 = 3 ∧ rankState (retOf (s.chan (field v.toNat 4 0))) 3 = 3) ∨
      (s.mode ≠ .run ∧ s.mode ≠ .hold ∧ s.mode ≠ .service)) :
    actRetire.state s who (u16 v.toNat) = some abState := by
  unfold actRetire
  simp only [leNat_u16, firstOf_need_need, need_eq_some_iff, Bool.and_eq_false_iff, decide_eq_false_iff_not]
  rcases h with hretiring | hretired | hfree | hmode
  · exact .inr fun hrank => hrank.1 hretiring
  · exact .inr fun hrank => hrank.2.1 hretired
  · exact .inr fun hrank => hrank.2.2 hfree
  · exact .inl (runHoldService_eq_false hmode)

/-- A RETRAIN is refused for one channel that it names, or for the mode. -/
theorem actRetrain_state_refused {s : State} (who : Requester) {v : U32}
    (h : (∃ ch, v.getLsbD ch = true ∧ (s.chan ch).training ≠ 0) ∨ (s.mode ≠ .run ∧ s.mode ≠ .hold ∧ s.mode ≠ .service)) :
    actRetrain.state s who (u32 v.toNat) = some abState := by
  unfold actRetrain
  simp only [leNat_u32, firstOf_need_need, need_eq_some_iff, Bool.and_eq_false_iff]
  rcases h with ⟨ch, hnamed, htraining⟩ | hmode
  · have hmem : ch ∈ bitsSet v.toNat 32 := mem_bitsSet.mpr ⟨BitVec.lt_of_getLsbD hnamed, hnamed⟩
    exact .inr (List.all_eq_false.mpr ⟨ch, hmem, by simpa using htraining⟩)
  · exact .inl (runHoldService_eq_false hmode)

/-- Settles O58: both are writes that their requester may make, refused by the state check of their own object. -/
theorem retireAndRetrainRefusals : Obligations.RetireAndRetrainRefusals := by
  unfold Obligations.RetireAndRetrainRefusals
  refine ⟨fun e v s s1 who hrecv hn hseg hacc h => ?_, fun e v s s1 who hrecv hn hseg hacc h => ?_⟩
  · exact congrArg Host.Outcome.next (serveWrite_stateRefused (by decide) (by decide) row_retire rfl rfl (hacc _ row_retire)
      (actRetire_state_refused who h) (by simp [u16]) hrecv hn hseg)
  · exact congrArg Host.Outcome.next (serveWrite_stateRefused (by decide) (by decide) row_retrain rfl rfl (hacc _ row_retrain)
      (actRetrain_state_refused who h) (by simp [u32]) hrecv hn hseg)

end Sys2Proof.Machine
end

section
/-! PROOFS. The queue of commands and the root clock's count (log entry 1): what leaves both as they were, one lemma for each operation of the
model, in its order. Here: requests, the hitch, the fabric, teams and switches. An operation that the idle step shares leaves the time base too. -/

namespace Sys2Proof.Machine

/-- What no command changes: the queue of waiting commands, and the root clock's count of periods. -/
def State.fixed (s : State) : List Instr × Nat := (s.pending, s.clk.roots)

/-- An update of the other parts, or of the clocks with the count kept, leaves both as they were. -/
@[simp] theorem State.fixed_mk (s : State) (outs freeCtr fuses obj dict clk fab edge planes frames stage grants teams cap loader boot chain
    noc wale pan dram ecc crypt time banks pins lanes sealed power board test obs) (h : Clocks.roots clk = s.clk.roots) :
    (State.mk s.pending outs freeCtr fuses obj dict clk fab edge planes frames stage grants teams cap loader boot chain
      noc wale pan dram ecc crypt time banks pins lanes sealed power board test obs).fixed = s.fixed :=
  congrArg (s.pending, ·) h

@[simp] theorem State.fixed_ite (c : Prop) [Decidable c] (a b : State) : (if c then a else b).fixed = if c then a.fixed else b.fixed :=
  apply_ite _ _ _ _

@[simp] theorem State.time_ite (c : Prop) [Decidable c] (a b : State) : (if c then a else b).time = if c then a.time else b.time :=
  apply_ite _ _ _ _

@[simp] theorem fst_fixed_ite {α : Type} (c : Prop) [Decidable c] (a b : State × α) :
    (if c then a else b).1.fixed = if c then a.1.fixed else b.1.fixed := apply_ite (fun r : State × α => r.1.fixed) _ _ _

@[simp] theorem fst_time_ite {α : Type} (c : Prop) [Decidable c] (a b : State × α) :
    (if c then a else b).1.time = if c then a.1.time else b.1.time := apply_ite (fun r : State × α => r.1.time) _ _ _

@[simp] theorem foldl_fixed {α : Type} {f : State → α → State} (l : List α) (s : State) (h : ∀ s x, (f s x).fixed = s.fixed) :
    (l.foldl f s).fixed = s.fixed := foldl_keeps State.fixed h l s

@[simp] theorem foldl_time {α : Type} {f : State → α → State} (l : List α) (s : State) (h : ∀ s x, (f s x).time = s.time) :
    (l.foldl f s).time = s.time := foldl_keeps State.time h l s

theorem foldl_fixed_time {α : Type} {f : State → α → State} (l : List α) (s : State)
    (h : ∀ s x, (f s x).fixed = s.fixed ∧ (f s x).time = s.time) : (l.foldl f s).fixed = s.fixed ∧ (l.foldl f s).time = s.time :=
  ⟨foldl_fixed l s fun s x => (h s x).1, foldl_time l s fun s x => (h s x).2⟩

/-- A fold that carries something beside the state. -/
@[simp] theorem foldl_fst_fixed {α β : Type} {f : State × β → α → State × β} (l : List α) (r : State × β)
    (h : ∀ r x, (f r x).1.fixed = r.1.fixed) : (l.foldl f r).1.fixed = r.1.fixed := foldl_keeps (fun r : State × β => r.1.fixed) h l r

/-- The state of an answer, taken apart. -/
theorem fixed_of_fst {α : Type} {r : State × α} {s t : State} {x : α} (h : r = (t, x)) (hr : r.1.fixed = s.fixed) : t.fixed = s.fixed := by
  rw [← hr, h]

/-- The state that an outcome gives, where it gives one. -/
theorem getD_fixed {o : Option State} {s : State} (h : ∀ t, o = some t → t.fixed = s.fixed) : (o.getD s).fixed = s.fixed := by
  cases o with
  | none => rfl
  | some t => exact h t rfl

/-- A command's answer leaves both as they were, where it is a state at all. -/
def Keeps (s : State) : Res → Prop
  | .next t => t.fixed = s.fixed
  | _ => True

@[simp] theorem keeps_next {s t : State} : Keeps s (.next t) ↔ t.fixed = s.fixed := Iff.rfl

@[simp] theorem keeps_fault {s : State} (f : Fault) : Keeps s (.fault f) := trivial

@[simp] theorem keeps_ite (s : State) (c : Prop) [Decidable c] (a b : Res) :
    Keeps s (if c then a else b) ↔ if c then Keeps s a else Keeps s b := by
  split <;> rfl

theorem keeps_of_ite {s : State} {c : Prop} [Decidable c] {a b : Res} (ha : c → Keeps s a) (hb : ¬c → Keeps s b) :
    Keeps s (if c then a else b) := by
  split
  · exact ha ‹_›
  · exact hb ‹_›

/-- An object's own part in a write leaves both as they were, where the write takes effect and where it is refused late. -/
structure Action.Fixed (a : Action) : Prop where
  apply_fixed : ∀ s who old new, (a.apply s who old new).fixed = s.fixed
  late_fixed : ∀ s v n, (a.late s v n).fixed = s.fixed

/-- An object without an action of its own. -/
theorem Action.fixed_default : ({} : Action).Fixed := ⟨fun _ _ _ _ => rfl, fun _ _ _ => rfl⟩

/-! #### The shared operations -/

@[simp] theorem State.emit_fixed (s o) : (State.emit s o).fixed = s.fixed := by simp [State.emit]
@[simp] theorem State.drew_fixed (s n) : (State.drew s n).fixed = s.fixed := by simp [State.drew]
@[simp] theorem State.putObj_fixed (s idx sub bs) : (State.putObj s idx sub bs).fixed = s.fixed := by simp [State.putObj]
@[simp] theorem State.resetObj_fixed (s idx sub) : (State.resetObj s idx sub).fixed = s.fixed := by simp [State.resetObj]

@[simp] theorem sourceTake_fixed (s r trace) : (sourceTake s r trace).fixed = s.fixed ∧ (sourceTake s r trace).time = s.time := by
  simp [sourceTake]

@[simp] theorem raiseAlarm_fixed (s sev code) : (raiseAlarm s sev code).fixed = s.fixed ∧ (raiseAlarm s sev code).time = s.time := by
  simp [raiseAlarm]

@[simp] theorem recordAt_fixed (s tai src code sev flags payload) : (recordAt s tai src code sev flags payload).fixed = s.fixed := by
  simp [recordAt]

@[simp] theorem event_fixed (s src code payload) : (event s src code payload).fixed = s.fixed := by simp [event]
@[simp] theorem traceEvent_fixed (s tai src code payload) : (traceEvent s tai src code payload).fixed = s.fixed := by simp [traceEvent]

@[simp] theorem counterAdd_fixed (s key n) : (counterAdd s key n).fixed = s.fixed ∧ (counterAdd s key n).time = s.time := by
  simp [counterAdd]

@[simp] theorem counted_fixed (s src sel v n) : (counted s src sel v n).fixed = s.fixed := by simp [counted]

@[simp] theorem countComp_fixed (s idx sub) : (countComp s idx sub).fixed = s.fixed ∧ (countComp s idx sub).time = s.time := by
  simp [countComp]

@[simp] theorem compEvent_fixed (s idx sub) : (compEvent s idx sub).fixed = s.fixed := by simp [compEvent]
@[simp] theorem usePair_fixed (s idx sub) : (usePair s idx sub).fixed = s.fixed := by simp [usePair]
@[simp] theorem noteFault_fixed (s key) : (noteFault s key).fixed = s.fixed := by simp [noteFault]
@[simp] theorem State.setSession_fixed (s n x) : (State.setSession s n x).fixed = s.fixed := by simp [State.setSession]

/-! #### Frames and sessions (R53 to R62) -/

@[simp] theorem recovered_fixed (s stream rtag) : (recovered s stream rtag).fixed = s.fixed := by
  unfold recovered
  dsimp only
  repeat' split
  all_goals simp

@[simp] theorem State.sendFrame_fixed (s o) : (State.sendFrame s o).fixed = s.fixed := by simp [State.sendFrame]
@[simp] theorem badFrame_fixed (s e) : (badFrame s e).fixed = s.fixed := by simp [badFrame]
@[simp] theorem respond_fixed (s svc e payload) : (respond s svc e payload).fixed = s.fixed := by simp [respond]
@[simp] theorem canAnswer_fixed (s node idx sub status data) : (canAnswer s node idx sub status data).fixed = s.fixed := by simp [canAnswer]

@[simp] theorem answerTap_fixed (s t status length data) : (answerTap s t status length data).fixed = s.fixed := by
  unfold answerTap
  split <;> simp

@[simp] theorem closeSession_fixed (s n reason) : (closeSession s n reason).fixed = s.fixed := by simp [closeSession]

@[simp] theorem endSession_fixed (s n reason) : (endSession s n reason).fixed = s.fixed := by
  unfold endSession
  split <;> simp

@[simp] theorem closeLevel_fixed (s level reason) : (closeLevel s level reason).fixed = s.fixed := by simp [closeLevel]
@[simp] theorem levelFault_fixed (s) : (levelFault s).fixed = s.fixed := by simp [levelFault]

/-! #### Serving a request (R41 to R47) -/

@[simp] theorem levelsUsed_fixed (s) : (levelsUsed s).fixed = s.fixed := by simp [levelsUsed]

theorem receive_fixed (s svc e payload sizeOk) : (receive s svc e payload sizeOk).state.fixed = s.fixed := by
  unfold receive
  dsimp only
  repeat' split
  all_goals simp [Framed.state]

theorem receive_drop_fixed {s t : State} {svc e payload sizeOk} (h : receive s svc e payload sizeOk = .drop t) : t.fixed = s.fixed := by
  simpa [h, Framed.state] using receive_fixed s svc e payload sizeOk

theorem receive_refuse_fixed {s t : State} {svc e payload sizeOk c} (h : receive s svc e payload sizeOk = .refuse t c) :
    t.fixed = s.fixed := by
  simpa [h, Framed.state] using receive_fixed s svc e payload sizeOk

theorem receive_go_fixed {s t : State} {svc e payload sizeOk who} (h : receive s svc e payload sizeOk = .go t who) : t.fixed = s.fixed := by
  simpa [h, Framed.state] using receive_fixed s svc e payload sizeOk

@[simp] theorem criticalWritten_fixed (s who idx sub old new) : (criticalWritten s who idx sub old new).fixed = s.fixed := by
  simp [criticalWritten]

@[simp] theorem applyWrite_fixed (s who idx sub v) {a : Action} (ha : a.Fixed) : (applyWrite s who idx sub v a).fixed = s.fixed := by
  unfold applyWrite
  split <;> simp [ha.apply_fixed, ha.late_fixed]

@[simp] theorem dictWrite_fixed (s who paired w) {a : Action} (ha : a.Fixed) : (dictWrite s who paired w a).1.fixed = s.fixed := by
  unfold dictWrite
  split <;> simp [ha, ha.late_fixed]

@[simp] theorem beginSegmented_fixed (s n e w) {a : Action} (ha : a.Fixed) : (beginSegmented s n e w a).1.fixed = s.fixed := by
  unfold beginSegmented
  split <;> simp [ha.late_fixed]

@[simp] theorem serveWrite_fixed (e paired w s) {a : Action} (ha : a.Fixed) : (serveWrite e paired w a s).fixed = s.fixed := by
  unfold serveWrite
  dsimp only
  split
  case h_1 hr => exact receive_drop_fixed hr
  case h_2 hr => simp [receive_refuse_fixed hr]
  case h_3 hr =>
    rw [← receive_go_fixed hr]
    repeat' split
    all_goals simp [ha]

@[simp] theorem hostWrite_fixed (e idx sub v s) {a : Action} (ha : a.Fixed) : Keeps s (hostWrite e idx sub v a s) :=
  serveWrite_fixed _ _ _ _ ha

@[simp] theorem hostPaired_fixed (e idx sub v c s) {a : Action} (ha : a.Fixed) : Keeps s (hostPaired e idx sub v c a s) :=
  serveWrite_fixed _ _ _ _ ha

/-! #### Planes and clocks -/

@[simp] theorem State.setPlane_fixed (s g p st) : (State.setPlane s g p st).fixed = s.fixed := by simp [State.setPlane]
@[simp] theorem State.setStopped_fixed (s b) : (State.setStopped s b).fixed = s.fixed := by simp [State.setStopped]

/-! #### The hitch link (R590 to R592) -/

@[simp] theorem State.updLink_fixed (s up f) : (State.updLink s up f).fixed = s.fixed := by simp [State.updLink]

@[simp] theorem pumpLink_fixed (up fuel s) : (pumpLink up fuel s).fixed = s.fixed := by
  induction fuel generalizing s with
  | zero => rfl
  | succ fuel ih =>
    unfold pumpLink
    dsimp only
    repeat' split
    all_goals simp [ih]

@[simp] theorem pump_fixed (s up) : (pump s up).fixed = s.fixed := by simp [pump]
@[simp] theorem hitchSend_fixed (s up type dst payload) : (hitchSend s up type dst payload).fixed = s.fixed := by simp [hitchSend]
@[simp] theorem chainSend_fixed (s bytes) : (chainSend s bytes).fixed = s.fixed := by simp [chainSend]

@[simp] theorem takeAck_fixed (s up ack) : (takeAck s up ack).fixed = s.fixed := by
  unfold takeAck
  dsimp only
  split <;> simp

@[simp] theorem hitchTake_fixed (s f) : (hitchTake s f).1.fixed = s.fixed := by simp [hitchTake]
@[simp] theorem passOn_fixed (s f type payload) : (passOn s f type payload).fixed = s.fixed := by simp [passOn]

@[simp] theorem hitchFrame_fixed (s f type payload) {take : State → State} (h : ∀ s, (take s).fixed = s.fixed) :
    (hitchFrame s f type payload take).fixed = s.fixed := by
  simp [hitchFrame, h]

@[simp] theorem execHitchAckDue_fixed (up s) : Keeps s (execHitchAckDue up s) := by simp [execHitchAckDue]
@[simp] theorem linkDown_fixed (s up seq) : (linkDown s up seq).fixed = s.fixed := by simp [linkDown]

@[simp] theorem execHitchResend_fixed (up s) : Keeps s (execHitchResend up s) := by
  unfold execHitchResend
  dsimp only
  split <;> simp

/-! #### Units of the fabric (03, 04) -/

@[simp] theorem State.opened_fixed (s) : (State.opened s).fixed = s.fixed := by simp [State.opened]
@[simp] theorem State.outgoing_fixed (s) : (State.outgoing s).fixed = s.fixed := by simp [State.outgoing]
@[simp] theorem State.edgeTaken_fixed (s e) : (State.edgeTaken s e).fixed = s.fixed := by simp [State.edgeTaken]
@[simp] theorem setBmRow_fixed (s blk row v) : (setBmRow s blk row v).fixed = s.fixed := by simp [setBmRow]
@[simp] theorem latchRead_fixed (s port chained i r) : (latchRead s port chained i r).fixed = s.fixed := by simp [latchRead]
@[simp] theorem bmError_fixed (s u flags) : (bmError s u flags).fixed = s.fixed := by simp [bmError]

@[simp] theorem flipRow_fixed (s p flips) : (flipRow s p flips).fixed = s.fixed := by
  unfold flipRow
  split <;> simp

@[simp] theorem writeRow_fixed (s p keep) : (writeRow s p keep).fixed = s.fixed := by
  unfold writeRow
  split <;> simp

@[simp] theorem blockmemEdge_fixed (s u a b idleDin unordered flips) :
    (blockmemEdge s u a b idleDin unordered flips).fixed = s.fixed := by
  unfold blockmemEdge
  dsimp only
  repeat' split
  all_goals simp

@[simp] theorem takeBlockEdge_fixed (s u a b idleDin unordered flips) :
    (takeBlockEdge s u a b idleDin unordered flips).fixed = s.fixed := by simp [takeBlockEdge]

@[simp] theorem takeSliceEdge_fixed (s u i) : (takeSliceEdge s u i).fixed = s.fixed := by simp [takeSliceEdge]
@[simp] theorem takeQueueEdge_fixed (s u i) : (takeQueueEdge s u i).fixed = s.fixed := by simp [takeQueueEdge]
@[simp] theorem actFabMemRead_fixed : actFabMemRead.Fixed := ⟨fun _ _ _ _ => rfl, fun _ _ _ => rfl⟩
@[simp] theorem execFabMemReadDone_fixed (busError s) : Keeps s (execFabMemReadDone busError s) := by simp [execFabMemReadDone]
@[simp] theorem actFclk_fixed (n) : (actFclk n).Fixed := ⟨fun _ _ _ _ => rfl, fun _ _ _ => rfl⟩
@[simp] theorem takeDivisor_fixed (s n) : (takeDivisor s n).fixed = s.fixed := by simp [takeDivisor]

/-! #### Teams, staging, switches and capture (05) -/

@[simp] theorem State.updTeam_fixed (s t f) : (State.updTeam s t f).fixed = s.fixed := by simp [State.updTeam]
@[simp] theorem dropGrants_fixed (s t) : (dropGrants s t).fixed = s.fixed ∧ (dropGrants s t).time = s.time := by simp [dropGrants]

@[simp] theorem noteGrant_fixed (s towers t r) : (noteGrant s towers t r).fixed = s.fixed ∧ (noteGrant s towers t r).time = s.time := by
  simp [noteGrant]

@[simp] theorem tryGrant_fixed (s t) : (tryGrant s t).fixed = s.fixed ∧ (tryGrant s t).time = s.time := by
  unfold tryGrant
  dsimp only
  repeat' split
  all_goals simp

@[simp] theorem grantFallback_fixed (s t) : (grantFallback s t).fixed = s.fixed ∧ (grantFallback s t).time = s.time := by
  unfold grantFallback
  dsimp only
  split <;> simp

@[simp] theorem grantAll_fixed (s) : (grantAll s).fixed = s.fixed ∧ (grantAll s).time = s.time := by simp [grantAll]
@[simp] theorem seekAnew_fixed (s t) : (seekAnew s t).fixed = s.fixed ∧ (seekAnew s t).time = s.time := by simp [seekAnew]
@[simp] theorem regrant_fixed (s) : (regrant s).fixed = s.fixed ∧ (regrant s).time = s.time := by simp [regrant]

@[simp] theorem resumeEdges_fixed (s stopped) : (resumeEdges s stopped).fixed = s.fixed := by
  unfold resumeEdges
  simp only [State.fixed_ite, State.fixed_mk, ite_self]
  refine foldl_fixed _ _ fun s t => ?_
  split <;> simp

@[simp] theorem State.updEngine_fixed (s w f) : (State.updEngine s w f).fixed = s.fixed := by simp [State.updEngine]
@[simp] theorem queueStaging_fixed (s jobs fb) : (queueStaging s jobs fb).fixed = s.fixed := by simp [queueStaging]
@[simp] theorem dropStaging_fixed (s t) : (dropStaging s t).fixed = s.fixed := by simp [dropStaging]

@[simp] theorem abandonStaging_fixed (s t) : (abandonStaging s t).fixed = s.fixed :=
  foldl_fixed _ _ fun s w => by split <;> simp

@[simp] theorem execStagingStart_fixed (tower s) : Keeps s (execStagingStart tower s) := by
  unfold execStagingStart
  dsimp only
  split <;> simp

@[simp] theorem stageSector_fixed (s g p) : (stageSector s g p).fixed = s.fixed := by
  unfold stageSector
  dsimp only
  repeat' split
  all_goals simp

@[simp] theorem execStagingComplete_fixed (tower s) : Keeps s (execStagingComplete tower s) := by
  unfold execStagingComplete
  dsimp only
  split <;> simp

@[simp] theorem cancelPending_fixed (s t reason) : (cancelPending s t reason).fixed = s.fixed := by simp [cancelPending]
@[simp] theorem cancelFallback_fixed (s t reason) : (cancelFallback s t reason).fixed = s.fixed := by simp [cancelFallback]

@[simp] theorem cancelAllSwitches_fixed (s reason fallbacks) : (cancelAllSwitches s reason fallbacks).fixed = s.fixed := by
  simp [cancelAllSwitches]

@[simp] theorem holdTeam_fixed (s t cause) : (holdTeam s t cause).fixed = s.fixed := by simp [holdTeam]
@[simp] theorem freezeTeam_fixed (s t idx sub) : (freezeTeam s t idx sub).fixed = s.fixed := by simp [freezeTeam]
@[simp] theorem beginFallback_fixed (s t cause) : (beginFallback s t cause).1.fixed = s.fixed := by simp [beginFallback]

@[simp] theorem triggerFallbacks_fixed (s ts cause) : (triggerFallbacks s ts cause).fixed = s.fixed := by
  simp [triggerFallbacks]

@[simp] theorem triggerFallback_fixed (s t cause) : (triggerFallback s t cause).fixed = s.fixed := by simp [triggerFallback]
@[simp] theorem teamFault_fixed (s t sub) : (teamFault s t sub).fixed = s.fixed := by simp [teamFault]
@[simp] theorem checkActive_fixed (s t) : (checkActive s t).fixed = s.fixed := by simp [checkActive]
@[simp] theorem teamUsed_fixed (s t) : (teamUsed s t).fixed = s.fixed := by simp [teamUsed]

@[simp] theorem acceptTimed_fixed (s t p time) : (acceptTimed s t p time).fixed = s.fixed := by
  unfold acceptTimed
  split <;> simp

@[simp] theorem unstageTeam_fixed (s t) : (unstageTeam s t).fixed = s.fixed :=
  foldl_fixed _ _ fun s g => by split <;> simp

@[simp] theorem releaseTeam_fixed (s t) : (releaseTeam s t).fixed = s.fixed := by simp [releaseTeam]

@[simp] theorem switchApply_fixed (s0 t op p time) : (switchApply s0 t op p time).fixed = s0.fixed := by
  unfold switchApply
  split <;> simp

@[simp] theorem actSwitch_fixed : actSwitch.Fixed := ⟨fun _ _ _ _ => by simp [actSwitch], fun _ _ _ => rfl⟩

@[simp] theorem execReinRequest_fixed (sector plane s) : Keeps s (execReinRequest sector plane s) := by
  unfold execReinRequest
  dsimp only
  repeat' split
  all_goals simp

@[simp] theorem switchSector_fixed (s g q) : (switchSector s g q).fixed = s.fixed := by
  unfold switchSector
  split <;> simp

@[simp] theorem dropUncovered_fixed (s) : (dropUncovered s).fixed = s.fixed := by simp [dropUncovered]

@[simp] theorem execFenceTimeout_fixed (team s) : Keeps s (execFenceTimeout team s) := by
  unfold execFenceTimeout
  dsimp only
  split <;> simp

@[simp] theorem portsDown_fixed (s g) : (portsDown s g).fixed = s.fixed := by
  unfold portsDown
  split <;> simp

@[simp] theorem disband_fixed (s t) : (disband s t).fixed = s.fixed := by simp [disband]

@[simp] theorem setMembers_fixed (s t v) : (setMembers s t v).fixed = s.fixed := by
  unfold setMembers
  dsimp only
  repeat' split
  all_goals simp

@[simp] theorem actMembers_fixed (t) : (actMembers t).Fixed := ⟨fun _ _ _ _ => by simp [actMembers], fun _ _ _ => rfl⟩
@[simp] theorem actTeamSetting_fixed (t sub) : (actTeamSetting t sub).Fixed := ⟨fun _ _ _ _ => rfl, fun _ _ _ => rfl⟩
@[simp] theorem actPlaneClear_fixed : actPlaneClear.Fixed := ⟨fun _ _ _ _ => by simp [actPlaneClear], fun _ _ _ => rfl⟩

@[simp] theorem actCapture_fixed : actCapture.Fixed := by
  refine ⟨fun s who old new => ?_, fun _ _ _ => rfl⟩
  dsimp only [actCapture]
  split <;> simp

@[simp] theorem execCaptureTrigger_fixed (sector s) : Keeps s (execCaptureTrigger sector s) := by simp [execCaptureTrigger]

@[simp] theorem execCaptureEdge_fixed (routed s) : Keeps s (execCaptureEdge routed s) := by
  unfold execCaptureEdge
  dsimp only
  split <;> simp

@[simp] theorem execCaptureCopyDone_fixed (s) : Keeps s (execCaptureCopyDone s) := by simp [execCaptureCopyDone]

end Sys2Proof.Machine
end

section
/-! PROOFS. The queue and the root clock's count: the memories, the network and the movers leave them. -/

namespace Sys2Proof.Machine

/-! #### DRAM lines as stored (10, 11) -/

@[simp] theorem State.updChan_fixed (s c f) : (State.updChan s c f).fixed = s.fixed := by simp [State.updChan]
@[simp] theorem settleRet_fixed (s ch) : (settleRet s ch).fixed = s.fixed := by simp [settleRet]
@[simp] theorem setRet_fixed (s ch r) : (setRet s ch r).fixed = s.fixed := by simp [setRet]
@[simp] theorem State.updBank_fixed (s k f) : (State.updBank s k f).fixed = s.fixed := by simp [State.updBank]
@[simp] theorem dramFallback_fixed (s sub) : (dramFallback s sub).fixed = s.fixed := by simp [dramFallback]
@[simp] theorem useDram_fixed (s sub) : (useDram s sub).fixed = s.fixed := by simp [useDram]
@[simp] theorem touchRow_fixed (s key row) : (touchRow s key row).fixed = s.fixed := by simp [touchRow]
@[simp] theorem lineDrew_fixed (s symbols) : (lineDrew s symbols).fixed = s.fixed := by simp [lineDrew]

@[simp] theorem lineEvent_fixed (s ch a init symbols k) : (lineEvent s ch a init symbols k).fixed = s.fixed := by
  unfold lineEvent
  split <;> simp

@[simp] theorem retireEvents_fixed (s ch k cause withSpare) : (retireEvents s ch k cause withSpare).fixed = s.fixed := by
  simp [retireEvents]

@[simp] theorem retireRank_fixed (s0 ch k cause) : (retireRank s0 ch k cause).fixed = s0.fixed := by simp [retireRank]
@[simp] theorem faultRemap_fixed (s ch e) : (faultRemap s ch e).fixed = s.fixed := by simp [faultRemap]
@[simp] theorem checkRemaps_fixed (s ch) : (checkRemaps s ch).fixed = s.fixed := by simp [checkRemaps]

@[simp] theorem remapGo_fixed (ch rank l a data tai es errs s) : (remapGo ch rank l a data tai es errs s).fixed = s.fixed := by
  induction es generalizing errs s with
  | nil => simp [remapGo]
  | cons e es ih => simp [remapGo, ih]

@[simp] theorem hardFault_fixed (s ch rank l a data spareErrs) : (hardFault s ch rank l a data spareErrs).fixed = s.fixed := by
  simp [hardFault]

@[simp] theorem storeLine_fixed (s phys data poison) : (storeLine s phys data poison).fixed = s.fixed := by simp [storeLine]

@[simp] theorem useRow_fixed (s ch key row) : (useRow s ch key row).fixed = s.fixed := by
  unfold useRow
  split <;> simp

@[simp] theorem accessRow_fixed (s l rank spare) : (accessRow s l rank spare).fixed = s.fixed := by simp [accessRow]

@[simp] theorem rawRead_fixed (s0 a init symbols spareErrs) : (rawRead s0 a init symbols spareErrs).1.fixed = s0.fixed := by
  unfold rawRead
  dsimp only
  repeat' split
  all_goals simp

@[simp] theorem rawWrite_fixed (s0 a data poison) : (rawWrite s0 a data poison).1.fixed = s0.fixed := by
  unfold rawWrite
  dsimp only
  split <;> simp

@[simp] theorem refillBudget_fixed (s ch) : (refillBudget s ch).fixed = s.fixed := by simp [refillBudget]
@[simp] theorem debit_fixed (s ch n) : (debit s ch n).fixed = s.fixed := by simp [debit]
@[simp] theorem refillHeat_fixed (s ch) : (refillHeat s ch).fixed = s.fixed := by simp [refillHeat]

/-! #### Encryption engines and their metadata (12) -/

@[simp] theorem State.updRegion_fixed (s r f) : (State.updRegion s r f).fixed = s.fixed := by simp [State.updRegion]

@[simp] theorem lockRegion_fixed (s r cause) : (lockRegion s r cause).fixed = s.fixed ∧ (lockRegion s r cause).time = s.time := by
  simp [lockRegion]

@[simp] theorem failLine_fixed (s r a init) : (failLine s r a init).fixed = s.fixed := by
  unfold failLine
  dsimp only
  repeat' split
  all_goals simp

@[simp] theorem poisonSubtree_fixed (s r l m cause) : (poisonSubtree s r l m cause).fixed = s.fixed := by simp [poisonSubtree]

@[simp] theorem regionCompFault_fixed (s r sub) :
    (regionCompFault s r sub).fixed = s.fixed ∧ (regionCompFault s r sub).time = s.time := by simp [regionCompFault]

@[simp] theorem majorOverflow_fixed (s r l m) : (majorOverflow s r l m).fixed = s.fixed := by simp [majorOverflow]
@[simp] theorem cachePut_fixed (s a data dirty) : (cachePut s a data dirty).fixed = s.fixed := by simp [cachePut]
@[simp] theorem cacheLook_fixed (s hit) : (cacheLook s hit).fixed = s.fixed := by simp [cacheLook]
@[simp] theorem cacheDrop_fixed (s a) : (cacheDrop s a).fixed = s.fixed := by simp [cacheDrop]

/-- What the body of a structural recursion hands on from the value one level below holds at every level. -/
theorem brecOn_holds {α : Type} (P : α → Prop) (body : (n : Nat) → Nat.below (motive := fun _ => α) n → α)
    (zero : ∀ b, P (body 0 b)) (succ : ∀ n b, P b.1 → P (body (n + 1) b)) (n : Nat) : P (Nat.brecOn n body) := by
  induction n with
  | zero => exact zero _
  | succ n ih => exact succ n _ ih

/-- By the recursion's own body: Lean derives no equations for fetchNode within its limits. -/
@[simp] theorem fetchNode_fixed (r init errs fuel l m s) : (fetchNode r init errs fuel l m s).1.fixed = s.fixed := by
  delta fetchNode
  refine brecOn_holds (fun fetch : Nat → Nat → State → RawRead => ∀ l m s, (fetch l m s).1.fixed = s.fixed) _ ?_ ?_ fuel l m s
  · intro below l m s
    delta fetchNode._f
    rcases hc : cacheFind s errs (nodeAddr s r l m) with _ | ⟨b, _ | _⟩ <;> simp [hc]
  · intro fuel below ih l m s
    delta fetchNode._f
    rcases hc : cacheFind s errs (nodeAddr s r l m) with _ | ⟨b, _ | _⟩ <;> simp [hc, ih]

@[simp] theorem getNode_fixed (s r init errs l m) : (getNode s r init errs l m).1.fixed = s.fixed := by simp [getNode]

@[simp] theorem putSlot_fixed (s a slot v) : (putSlot s a slot v).fixed = s.fixed := by
  unfold putSlot
  split <;> simp

@[simp] theorem retagNode_fixed (s r l m major minor) : (retagNode s r l m major minor).fixed = s.fixed := by
  unfold retagNode
  dsimp only
  split <;> simp

@[simp] theorem bumpChild_fixed (s r l m) : (bumpChild s r l m).1.fixed = s.fixed := by simp [bumpChild]

@[simp] theorem writeBackNode_fixed (s a data) : (writeBackNode s a data).fixed = s.fixed := by
  unfold writeBackNode
  split <;> simp

@[simp] theorem trimCache_fixed (keep fuel s) : (trimCache keep fuel s).fixed = s.fixed := by
  induction fuel generalizing s with
  | zero => rfl
  | succ fuel ih =>
    unfold trimCache
    repeat' split
    all_goals simp [ih]

@[simp] theorem writeBackMeta_fixed (fuel s) : (writeBackMeta fuel s).fixed = s.fixed := by
  induction fuel generalizing s with
  | zero => rfl
  | succ fuel ih =>
    unfold writeBackMeta
    split
    · rfl
    · rw [ih]
      split <;> simp

@[simp] theorem authRead_fixed (s r a init errs spareErrs) : (authRead s r a init errs spareErrs).1.fixed = s.fixed := by simp [authRead]

@[simp] theorem authStore_fixed (s r j major minor data poison) : (authStore s r j major minor data poison).1.fixed = s.fixed := by
  simp [authStore]

@[simp] theorem reencrypt_fixed (r old major init minors s j) : (reencrypt r old major init minors s j).fixed = s.fixed := by
  simp [reencrypt]

@[simp] theorem authWrite_fixed (s r a init data poison errs) : (authWrite s r a init data poison errs).1.fixed = s.fixed := by
  simp [authWrite]

@[simp] theorem useRegion_fixed (s a) : (useRegion s a).fixed = s.fixed ∧ (useRegion s a).time = s.time := by
  unfold useRegion
  split <;> simp

@[simp] theorem engineRead_fixed (s a init errs spareErrs) : (engineRead s a init errs spareErrs).1.fixed = s.fixed := by
  unfold engineRead
  dsimp only
  repeat' split
  all_goals simp

@[simp] theorem engineWrite_fixed (s a init data poison errs) : (engineWrite s a init data poison errs).1.fixed = s.fixed := by
  unfold engineWrite
  dsimp only
  repeat' split
  all_goals simp

@[simp] theorem enginePartial_fixed (s a init off data errs spareErrs) :
    (enginePartial s a init off data errs spareErrs).1.fixed = s.fixed := by simp [enginePartial]

/-! #### The network (08) -/

@[simp] theorem actReservation_fixed (n) : (actReservation n).Fixed := ⟨fun _ _ _ _ => by simp [actReservation], fun _ _ _ => rfl⟩
@[simp] theorem execReservationTakesEffect_fixed (n s) : Keeps s (execReservationTakesEffect n s) := by simp [execReservationTakesEffect]
@[simp] theorem updStat_fixed (s i f) : (updStat s i f).fixed = s.fixed := by simp [updStat]
@[simp] theorem statEvents_fixed (s i old new) : (statEvents s i old new).fixed = s.fixed := by simp [statEvents]
@[simp] theorem statDone_fixed (s p status) : (statDone s p status).fixed = s.fixed := by simp [statDone]
@[simp] theorem takeSample_fixed (s p status) : (takeSample s p status).fixed = s.fixed := by simp [takeSample]
@[simp] theorem sampleTxn_fixed (s p status) : (sampleTxn s p status).fixed = s.fixed := by simp [sampleTxn]
@[simp] theorem issue_fixed (s p) : (issue s p).fixed = s.fixed := by simp [issue]
@[simp] theorem takeTag_fixed (s) : (takeTag s).2.fixed = s.fixed := by simp [takeTag]

@[simp] theorem request_fixed (s kind init addr len cls data use gt) :
    (request s kind init addr len cls data use gt).fixed = s.fixed := by simp [request]

@[simp] theorem answer_fixed (s p status data outcome) :
    (answer s p status data outcome).fixed = s.fixed ∧ (answer s p status data outcome).time = s.time := by simp [answer]

@[simp] theorem refuse_fixed (s p status code) : (refuse s p status code).fixed = s.fixed := by simp [refuse]
@[simp] theorem passed_fixed (s p) : (passed s p).fixed = s.fixed := by simp [passed]
@[simp] theorem linkCorrected_fixed (s p) : (linkCorrected s p).fixed = s.fixed := by simp [linkCorrected]
@[simp] theorem headerLost_fixed (s p) : (headerLost s p).fixed = s.fixed := by simp [headerLost]

@[simp] theorem execPacketPromotedUrgent_fixed (k s) : Keeps s (execPacketPromotedUrgent k s) := by
  unfold execPacketPromotedUrgent
  split <;> simp

@[simp] theorem actStat_fixed : actStat.Fixed := ⟨fun _ _ _ _ => by simp [actStat], fun _ _ _ => rfl⟩
@[simp] theorem execStatWindowEnd_fixed (s) : Keeps s (execStatWindowEnd s) := by simp [execStatWindowEnd]

/-! #### The pannier (09) -/

@[simp] theorem setBank_fixed (s b v) : (setBank s b v).fixed = s.fixed := by simp [setBank]
@[simp] theorem clearBank_fixed (s b) : (clearBank s b).fixed = s.fixed := by simp [clearBank]

@[simp] theorem setBankTest_fixed (s bank31 t) : (setBankTest s bank31 t).fixed = s.fixed ∧ (setBankTest s bank31 t).time = s.time := by
  simp [setBankTest]

@[simp] theorem panPut_fixed (s off b) : (panPut s off b).fixed = s.fixed := by
  unfold panPut
  split <;> simp

@[simp] theorem panWrite_fixed (place i bs s) : (panWrite place i bs s).fixed = s.fixed := by
  induction bs generalizing i s with
  | nil => rfl
  | cons b bs ih => simp [panWrite, ih]

@[simp] theorem controllerWrite_fixed (off data s) : (controllerWrite off data s).fixed = s.fixed := by simp [controllerWrite]
@[simp] theorem writeSealedStatus_fixed (s) : (writeSealedStatus s).fixed = s.fixed := by simp [writeSealedStatus]

@[simp] theorem panErr_fixed (s off err) : (panErr s off err).1.fixed = s.fixed := by
  unfold panErr
  split <;> simp

@[simp] theorem wordsServed_fixed (s off len) : (wordsServed s off len).fixed = s.fixed := by simp [wordsServed]
@[simp] theorem panRead_fixed (s off len err) : (panRead s off len err).1.fixed = s.fixed := by simp [panRead]
@[simp] theorem panStore_fixed (s off data err) : (panStore s off data err).1.fixed = s.fixed := by simp [panStore]
@[simp] theorem updWindow_fixed (s n f) : (updWindow s n f).fixed = s.fixed := by simp [updWindow]
@[simp] theorem windowServed_fixed (s xs) : (windowServed s xs).fixed = s.fixed := by simp [windowServed]
@[simp] theorem windowOverflow_fixed (s n) : (windowOverflow s n).fixed = s.fixed := by simp [windowOverflow]
@[simp] theorem windowUnderflow_fixed (s n len) : (windowUnderflow s n len).fixed = s.fixed := by simp [windowUnderflow]
@[simp] theorem windowPush_fixed (s n data) : (windowPush s n data).1.fixed = s.fixed := by simp [windowPush]
@[simp] theorem windowPop_fixed (s n len err) : (windowPop s n len err).1.fixed = s.fixed := by simp [windowPop]
@[simp] theorem windowRelease_fixed (s n len) : (windowRelease s n len).1.fixed = s.fixed := by simp [windowRelease]

@[simp] theorem windowIndexed_fixed (s n off len wdata err) : (windowIndexed s n off len wdata err).1.fixed = s.fixed := by
  unfold windowIndexed
  split <;> simp

@[simp] theorem windowStatus_fixed (s n) : (windowStatus s n).1.fixed = s.fixed := by simp [windowStatus]
@[simp] theorem windowAccess_fixed (s n off p err) : (windowAccess s n off p err).1.fixed = s.fixed := by simp [windowAccess]

@[simp] theorem windowAnswer_fixed {s : State} (init) {r : WindowRes} (h : r.1.fixed = s.fixed) : Keeps s (windowAnswer init r) := by
  simp [windowAnswer, h]

@[simp] theorem execWindowPush_fixed (initiator n data s) : Keeps s (execWindowPush initiator n data s) :=
  windowAnswer_fixed _ (windowPush_fixed _ _ _)

@[simp] theorem execWindowPop_fixed (initiator n len s) : Keeps s (execWindowPop initiator n len s) :=
  windowAnswer_fixed _ (windowPop_fixed _ _ _ _)

@[simp] theorem execWindowRelease_fixed (initiator n len s) : Keeps s (execWindowRelease initiator n len s) :=
  windowAnswer_fixed _ (windowRelease_fixed _ _ _)

@[simp] theorem execWindowIndexedAccess_fixed (initiator n offset len wdata s) : Keeps s (execWindowIndexedAccess initiator n offset len wdata s) :=
  windowAnswer_fixed _ (windowIndexed_fixed _ _ _ _ _ _)

@[simp] theorem execWindowStatusRead_fixed (initiator n s) : Keeps s (execWindowStatusRead initiator n s) :=
  windowAnswer_fixed _ (windowStatus_fixed _ _)

@[simp] theorem actWindowEnable_fixed (n) : (actWindowEnable n).Fixed := ⟨fun _ _ _ _ => by simp [actWindowEnable], fun _ _ _ => rfl⟩
@[simp] theorem actWindowSetting_fixed (n) : (actWindowSetting n).Fixed := ⟨fun _ _ _ _ => rfl, fun _ _ _ => rfl⟩
@[simp] theorem actConflictClear_fixed : actConflictClear.Fixed := ⟨fun _ _ _ _ => rfl, fun _ _ _ => rfl⟩

@[simp] theorem startRegion_fixed (s bank31) : (startRegion s bank31).fixed = s.fixed ∧ (startRegion s bank31).time = s.time := by
  simp [startRegion]

@[simp] theorem restoreRegion_fixed (s bank31) : (restoreRegion s bank31).fixed = s.fixed := by simp [restoreRegion]
@[simp] theorem nextRegion_fixed (s bank31) : (nextRegion s bank31).fixed = s.fixed := by simp [nextRegion]

@[simp] theorem execBackgroundTestRegion_fixed (bank31 failed s) : Keeps s (execBackgroundTestRegion bank31 failed s) := by
  simp [execBackgroundTestRegion]

@[simp] theorem execBackgroundRegionTimeout_fixed (bank31 s) : Keeps s (execBackgroundRegionTimeout bank31 s) := by
  simp [execBackgroundRegionTimeout]

@[simp] theorem resumeTests_fixed (s) : (resumeTests s).fixed = s.fixed := by simp [resumeTests]

/-! #### Wale (09) -/

@[simp] theorem setWay_fixed (s k x) : (setWay s k x).fixed = s.fixed := by simp [setWay]
@[simp] theorem updSlice_fixed (s sl f) : (updSlice s sl f).fixed = s.fixed := by simp [updSlice]
@[simp] theorem touchWay_fixed (s k) : (touchWay s k).fixed = s.fixed ∧ (touchWay s k).time = s.time := by simp [touchWay]
@[simp] theorem toController_fixed (s r) : (toController s r).fixed = s.fixed ∧ (toController s r).time = s.time := by simp [toController]

@[simp] theorem beginBack_fixed (s sl x evicted) :
    (beginBack s sl x evicted).fixed = s.fixed ∧ (beginBack s sl x evicted).time = s.time := by simp [beginBack]

@[simp] theorem offerPinned_fixed (s sl set) : (offerPinned s sl set).fixed = s.fixed ∧ (offerPinned s sl set).time = s.time :=
  foldl_fixed_time _ _ fun s w => by split <;> simp

@[simp] theorem placeLine_fixed (s sl w x) : (placeLine s sl w x).fixed = s.fixed ∧ (placeLine s sl w x).time = s.time := by
  unfold placeLine
  dsimp only
  split <;> simp

@[simp] theorem sendUncached_fixed (s sl r line) :
    (sendUncached s sl r line).1.fixed = s.fixed ∧ (sendUncached s sl r line).1.time = s.time := by simp [sendUncached]

@[simp] theorem serveHit_fixed (s r line k x) : (serveHit s r line k x).1.fixed = s.fixed ∧ (serveHit s r line k x).1.time = s.time := by
  simp [serveHit]

@[simp] theorem tryLine_fixed (s earlier r line) :
    (tryLine s earlier r line).1.fixed = s.fixed ∧ (tryLine s earlier r line).1.time = s.time := by
  unfold tryLine
  dsimp only
  repeat' split
  all_goals simp

@[simp] theorem tryLines_fixed (earlier ls s r) :
    (tryLines earlier ls s r).1.fixed = s.fixed ∧ (tryLines earlier ls s r).1.time = s.time := by
  induction ls generalizing s r with
  | nil => exact ⟨rfl, rfl⟩
  | cons l ls ih => simp [tryLines, ih]

@[simp] theorem settleReq_fixed (s r) : (settleReq s r).1.fixed = s.fixed ∧ (settleReq s r).1.time = s.time := by simp [settleReq]

@[simp] theorem tryReq_fixed (s id) : (tryReq s id).fixed = s.fixed ∧ (tryReq s id).time = s.time := by
  unfold tryReq
  dsimp only
  repeat' split
  all_goals simp

@[simp] theorem runSlices_fixed (s) : (runSlices s).fixed = s.fixed ∧ (runSlices s).time = s.time := by simp [runSlices]
@[simp] theorem waleEcc_fixed (s sl bad) : (waleEcc s sl bad).fixed = s.fixed ∧ (waleEcc s sl bad).time = s.time := by simp [waleEcc]

@[simp] theorem lineErr_fixed (s sl line err) : (lineErr s sl line err).fixed = s.fixed ∧ (lineErr s sl line err).time = s.time := by
  unfold lineErr
  repeat' split
  all_goals simp

@[simp] theorem tagErr_fixed (s sl line t) : (tagErr s sl line t).fixed = s.fixed ∧ (tagErr s sl line t).time = s.time := by
  unfold tagErr
  split <;> simp

@[simp] theorem acceptSlice_fixed (s p tag err) :
    (acceptSlice s p tag err).fixed = s.fixed ∧ (acceptSlice s p tag err).time = s.time := by
  unfold acceptSlice
  dsimp only
  repeat' split
  all_goals simp

@[simp] theorem takeAtPort_fixed (s sl x) : (takeAtPort s sl x).fixed = s.fixed ∧ (takeAtPort s sl x).time = s.time := by simp [takeAtPort]
@[simp] theorem emptyPorts_fixed (s) : (emptyPorts s).fixed = s.fixed := by simp [emptyPorts]
@[simp] theorem reachSlice_fixed (s p tag err) : (reachSlice s p tag err).fixed = s.fixed := by simp [reachSlice]

@[simp] theorem dramAnswer_fixed (s r status data) : (dramAnswer s r status data).fixed = s.fixed := by
  unfold dramAnswer
  dsimp only
  repeat' split
  all_goals simp

@[simp] theorem serveUnallocated_fixed (s sl line status data) : (serveUnallocated s sl line status data).fixed = s.fixed := by
  simp [serveUnallocated]

@[simp] theorem execLineFillDone_fixed (k s) : Keeps s (execLineFillDone k s) := by
  unfold execLineFillDone
  dsimp only
  repeat' split
  all_goals simp

@[simp] theorem flushLine_fixed (s sl line status) : (flushLine s sl line status).fixed = s.fixed := by simp [flushLine]

@[simp] theorem keepBack_fixed (s b) : (keepBack s b).fixed = s.fixed := by
  unfold keepBack
  dsimp only
  repeat' split
  all_goals simp

@[simp] theorem execWriteBackAnswered_fixed (k status s) : Keeps s (execWriteBackAnswered k status s) := by
  unfold execWriteBackAnswered
  dsimp only
  repeat' split
  all_goals simp

@[simp] theorem beginFlush_fixed (s sl invalidate) : (beginFlush s sl invalidate).fixed = s.fixed := by simp [beginFlush]
@[simp] theorem actFlush_fixed (invalidate) : (actFlush invalidate).Fixed := ⟨fun _ _ _ _ => by simp [actFlush], fun _ _ _ => rfl⟩
@[simp] theorem invalidateSlice_fixed (s sl) : (invalidateSlice s sl).fixed = s.fixed := by simp [invalidateSlice]
@[simp] theorem execFlushDone_fixed (slice s) : Keeps s (execFlushDone slice s) := by simp [execFlushDone]

@[simp] theorem execMaintenanceEntryTimeout_fixed (slice line s) : Keeps s (execMaintenanceEntryTimeout slice line s) := by
  simp [execMaintenanceEntryTimeout]

@[simp] theorem flushNow_fixed (s sl invalidate) : (flushNow s sl invalidate).fixed = s.fixed := by simp [flushNow]
@[simp] theorem performDram_fixed (s r errs spareErrs) : (performDram s r errs spareErrs).fixed = s.fixed := by simp [performDram]
@[simp] theorem settleDram_fixed (s) : (settleDram s).fixed = s.fixed := by simp [settleDram]
@[simp] theorem flushAll_fixed (s invalidate) : (flushAll s invalidate).fixed = s.fixed := by simp [flushAll]

@[simp] theorem peekLine_fixed (s line init) : (peekLine s line init).1.fixed = s.fixed := by
  unfold peekLine
  dsimp only
  repeat' split
  all_goals simp

@[simp] theorem peekGo_fixed (init a ls s st acc) : (peekGo init a ls s st acc).1.fixed = s.fixed := by
  induction ls generalizing s st acc with
  | nil => rfl
  | cons l ls ih => simp [peekGo, ih]

@[simp] theorem peek_fixed (s init a n) : (peek s init a n).1.fixed = s.fixed := by simp [peek]

@[simp] theorem pokeLine_fixed (s init line off data) : (pokeLine s init line off data).1.fixed = s.fixed := by
  unfold pokeLine
  dsimp only
  repeat' split
  all_goals simp

@[simp] theorem poke_fixed (init fuel a data s) : (poke init fuel a data s).1.fixed = s.fixed := by
  induction fuel generalizing a data s with
  | zero => rfl
  | succ fuel ih => simp [poke, ih]

@[simp] theorem pokeAll_fixed (s init a data) : (pokeAll s init a data).1.fixed = s.fixed := by simp [pokeAll]

/-! #### Base ports (R172, R382 to R384) -/

@[simp] theorem toPort_fixed (s g c ctx ws) : (toPort s g c ctx ws).fixed = s.fixed ∧ (toPort s g c ctx ws).time = s.time := by
  simp [toPort]

@[simp] theorem portAnswer_fixed (s p g c status data) :
    (portAnswer s p g c status data).fixed = s.fixed ∧ (portAnswer s p g c status data).time = s.time := by simp [portAnswer]

@[simp] theorem dropAbsent_fixed (s) : (dropAbsent s).fixed = s.fixed ∧ (dropAbsent s).time = s.time := by simp [dropAbsent]
@[simp] theorem portInbound_fixed (s p g c off) : (portInbound s p g c off).fixed = s.fixed := by simp [portInbound]
@[simp] theorem portRequest_fixed (s g c ws) : (portRequest s g c ws).fixed = s.fixed := by simp [portRequest]

@[simp] theorem portReply_fixed (s g c ws) : (portReply s g c ws).fixed = s.fixed := by
  unfold portReply
  dsimp only
  repeat' split
  all_goals simp

@[simp] theorem portTransaction_fixed (s g c words) : (portTransaction s g c words).fixed = s.fixed := by simp [portTransaction]
@[simp] theorem portTaken_fixed (s g c words) : (portTaken s g c words).fixed = s.fixed := by simp [portTaken]

@[simp] theorem execBaseportTransaction_fixed (sector cluster words s) : Keeps s (execBaseportTransaction sector cluster words s) := by
  simp [execBaseportTransaction]

@[simp] theorem endPort_fixed (s g c status) : (endPort s g c status).fixed = s.fixed := by simp [endPort]

/-! #### The movers (R385 to R387) -/

@[simp] theorem updMover_fixed (s m f) : (updMover s m f).fixed = s.fixed := by simp [updMover]

@[simp] theorem moverIssue_fixed (m fuel s) : (moverIssue m fuel s).fixed = s.fixed := by
  induction fuel generalizing s with
  | zero => rfl
  | succ fuel ih => simp [moverIssue, ih]

@[simp] theorem moverGo_fixed (s m) : (moverGo s m).fixed = s.fixed := by simp [moverGo]
@[simp] theorem moverSettle_fixed (s m) : (moverSettle s m).fixed = s.fixed := by simp [moverSettle]
@[simp] theorem moverFail_fixed (s m status) : (moverFail s m status).fixed = s.fixed := by simp [moverFail]
@[simp] theorem readDescriptor_fixed (s m addr) : (readDescriptor s m addr).fixed = s.fixed := by simp [readDescriptor]
@[simp] theorem startMover_fixed (s m addr) : (startMover s m addr).fixed = s.fixed := by simp [startMover]
@[simp] theorem gotDescriptor_fixed (s m d) : (gotDescriptor s m d).fixed = s.fixed := by simp [gotDescriptor]

@[simp] theorem moverResponse_fixed (s m use p status data) : (moverResponse s m use p status data).fixed = s.fixed := by
  unfold moverResponse
  dsimp only
  repeat' split
  all_goals simp

@[simp] theorem moverDoorbell_fixed (s init m addr) : (moverDoorbell s init m addr).1.fixed = s.fixed := by simp [moverDoorbell]
@[simp] theorem actMoverStart_fixed : actMoverStart.Fixed := ⟨fun _ _ _ _ => by simp [actMoverStart], fun _ _ _ => rfl⟩
@[simp] theorem stopMover_fixed (s m) : (stopMover s m).fixed = s.fixed := by simp [stopMover]
@[simp] theorem actMoverStop_fixed : actMoverStop.Fixed := ⟨fun _ _ _ _ => by simp [actMoverStop], fun _ _ _ => rfl⟩
@[simp] theorem execMoverStartTime_fixed (m s) : Keeps s (execMoverStartTime m s) := by simp [execMoverStartTime]
@[simp] theorem execMoverDescriptorDone_fixed (m s) : Keeps s (execMoverDescriptorDone m s) := by simp [execMoverDescriptorDone]

end Sys2Proof.Machine
end

section
/-! PROOFS. The queue and the root clock's count: time, pins, lanes, keys, the sealed partition and streams leave them. -/

namespace Sys2Proof.Machine

/-! #### The time base and the I/O banks (13) -/

@[simp] theorem updBank_fixed (s b f) : (updBank s b f).fixed = s.fixed := by simp [updBank]
@[simp] theorem timeState_fixed (s st gm) : (timeState s st gm).fixed = s.fixed := by simp [timeState]

@[simp] theorem runSelection_fixed (s) : (runSelection s).fixed = s.fixed := by
  unfold runSelection
  dsimp only
  split <;> simp

@[simp] theorem execAnnounce_fixed (m s) : Keeps s (execAnnounce m s) := by simp [execAnnounce]
@[simp] theorem execPdelay_fixed (m s) : Keeps s (execPdelay m s) := by simp [execPdelay]
@[simp] theorem servo_fixed (s) : (servo s).fixed = s.fixed := by simp [servo]
@[simp] theorem stepTime_fixed (s off) : (stepTime s off).fixed = s.fixed := by simp [stepTime]
@[simp] theorem discipline_fixed (s off) : (discipline s off).fixed = s.fixed := by simp [discipline]
@[simp] theorem execSync_fixed (m s) : Keeps s (execSync m s) := by simp [execSync]
@[simp] theorem execSyncTimeout_fixed (s) : Keeps s (execSyncTimeout s) := by simp [execSyncTimeout]
@[simp] theorem actTimeSet_fixed : actTimeSet.Fixed := ⟨fun _ _ _ _ => by simp [actTimeSet], fun _ _ _ => rfl⟩
@[simp] theorem execSyncInterval_fixed (port s) : Keeps s (execSyncInterval port s) := by simp [execSyncInterval]
@[simp] theorem updPin_fixed (s b pin f) : (updPin s b pin f).fixed = s.fixed := by simp [updPin]
@[simp] theorem actPin_fixed (b pin) : (actPin b pin).Fixed := ⟨fun _ _ _ _ => rfl, fun _ _ _ => rfl⟩

@[simp] theorem safePin_fixed (b zpin s pin) : (safePin b zpin s pin).fixed = s.fixed ∧ (safePin b zpin s pin).time = s.time := by
  simp [safePin]

@[simp] theorem applySafe_fixed (s b cause zpin) :
    (applySafe s b cause zpin).fixed = s.fixed ∧ (applySafe s b cause zpin).time = s.time := by simp [applySafe]

@[simp] theorem pinFallback_fixed (s b pin) : (pinFallback s b pin).fixed = s.fixed := by simp [pinFallback]
@[simp] theorem usePin_fixed (s b pin) : (usePin s b pin).fixed = s.fixed := by simp [usePin]
@[simp] theorem dropEdge_fixed (s b pin) : (dropEdge s b pin).fixed = s.fixed := by simp [dropEdge]

@[simp] theorem execInputEdge_fixed (b pin rising time fraction s) : Keeps s (execInputEdge b pin rising time fraction s) := by
  simp [execInputEdge]

@[simp] theorem drain_fixed (s b) : (drain s b).fixed = s.fixed := by simp [drain]
@[simp] theorem drained_fixed (s b addr status) : (drained s b addr status).fixed = s.fixed := by simp [drained]
@[simp] theorem takeSlot_fixed (b s slot) : (takeSlot b s slot).fixed = s.fixed := by simp [takeSlot]
@[simp] theorem pollFailed_fixed (s b addr status) : (pollFailed s b addr status).fixed = s.fixed := by simp [pollFailed]
@[simp] theorem execOutputPoll_fixed (b s) : Keeps s (execOutputPoll b s) := by simp [execOutputPoll]
@[simp] theorem drivePin_fixed (s b pin action at_) : (drivePin s b pin action at_).fixed = s.fixed := by simp [drivePin]
@[simp] theorem runEntry_fixed (s b e at_) : (runEntry s b e at_).fixed = s.fixed := by simp [runEntry]
@[simp] theorem dropHead_fixed (s b) : (dropHead s b).fixed = s.fixed := by simp [dropHead]

@[simp] theorem runBatch_fixed (b cyc fuel used s) : (runBatch b cyc fuel used s).fixed = s.fixed := by
  induction fuel generalizing used s with
  | zero => rfl
  | succ fuel ih =>
    unfold runBatch
    split <;> simp [ih]

@[simp] theorem execOutputEntryExecute_fixed (b s) : Keeps s (execOutputEntryExecute b s) := by
  unfold execOutputEntryExecute
  dsimp only
  repeat' split
  all_goals simp

@[simp] theorem execReturnTimer_fixed (b pin s) : Keeps s (execReturnTimer b pin s) := by
  unfold execReturnTimer
  dsimp only
  split <;> simp

@[simp] theorem applySafeAll_fixed (s cause) : (applySafeAll s cause).fixed = s.fixed := by simp [applySafeAll]
@[simp] theorem startBank_fixed (s b) : (startBank s b).fixed = s.fixed := by simp [startBank]
@[simp] theorem actBank_fixed (b) : (actBank b).Fixed := ⟨fun _ _ _ _ => by simp [actBank], fun _ _ _ => rfl⟩
@[simp] theorem actBankSetting_fixed (b) : (actBankSetting b).Fixed := ⟨fun _ _ _ _ => rfl, fun _ _ _ => rfl⟩
@[simp] theorem startBanks_fixed (s) : (startBanks s).fixed = s.fixed := by simp [startBanks]
@[simp] theorem releaseHeads_fixed (s) : (releaseHeads s).fixed = s.fixed := by simp [releaseHeads]

/-! #### The lanes (14) -/

@[simp] theorem updLane_fixed (s k f) : (updLane s k f).fixed = s.fixed := by simp [updLane]
@[simp] theorem putMarker_fixed (s k kind count content) : (putMarker s k kind count content).fixed = s.fixed := by simp [putMarker]
@[simp] theorem marker_fixed (s k kind count content) : (marker s k kind count content).fixed = s.fixed := by simp [marker]
@[simp] theorem rxData_fixed (s k bs) : (rxData s k bs).fixed = s.fixed := by simp [rxData]
@[simp] theorem rxKchars_fixed (s k cs) : (rxKchars s k cs).fixed = s.fixed := by simp [rxKchars]

@[simp] theorem rxUnit_fixed (k s u) : (rxUnit k s u).fixed = s.fixed := by
  unfold rxUnit
  split <;> simp

@[simp] theorem pushData_fixed (s k) : (pushData s k).fixed = s.fixed := by simp [pushData]
@[simp] theorem pushMarks_fixed (s k) : (pushMarks s k).fixed = s.fixed := by simp [pushMarks]
@[simp] theorem execLaneRxPush_fixed (n units s) : Keeps s (execLaneRxPush n units s) := by simp [execLaneRxPush]
@[simp] theorem execLanePushRetry_fixed (n s) : Keeps s (execLanePushRetry n s) := by simp [execLanePushRetry]
@[simp] theorem lanePushed_fixed (s k mark addr len status) : (lanePushed s k mark addr len status).fixed = s.fixed := by simp [lanePushed]

@[simp] theorem sendRecords_fixed (k fuel bs s) : (sendRecords k fuel bs s).fixed = s.fixed := by
  induction fuel generalizing bs s with
  | zero => rfl
  | succ fuel ih =>
    unfold sendRecords
    split <;> simp [ih]

@[simp] theorem execLaneTxPop_fixed (n s) : Keeps s (execLaneTxPop n s) := by simp [execLaneTxPop]
@[simp] theorem beginLane_fixed (s k) : (beginLane s k).fixed = s.fixed := by simp [beginLane]
@[simp] theorem stopLane_fixed (s k cause) : (stopLane s k cause).fixed = s.fixed := by simp [stopLane]
@[simp] theorem actLane_fixed (k) : (actLane k).Fixed := ⟨fun _ _ _ _ => by simp [actLane], fun _ _ _ => rfl⟩
@[simp] theorem actLaneSetting_fixed (k sub) : (actLaneSetting k sub).Fixed := ⟨fun _ _ _ _ => rfl, fun _ _ _ => rfl⟩
@[simp] theorem actQuad_fixed (q) : (actQuad q).Fixed := ⟨fun _ _ _ _ => rfl, fun _ _ _ => rfl⟩
@[simp] theorem failLane_fixed (s k step reason) : (failLane s k step reason).fixed = s.fixed := by simp [failLane]

@[simp] theorem afterStep_fixed (s k) : (afterStep s k).fixed = s.fixed := by
  unfold afterStep
  split <;> simp

@[simp] theorem execLaneLocked_fixed (l fom s) : Keeps s (execLaneLocked l fom s) := by simp [execLaneLocked]

@[simp] theorem execLaneTs2Received_fixed (l maxRate hitch pre post s) : Keeps s (execLaneTs2Received l maxRate hitch pre post s) := by
  simp [execLaneTs2Received]

@[simp] theorem execLaneStep_fixed (l s) : Keeps s (execLaneStep l s) := by
  unfold execLaneStep
  dsimp only
  split <;> simp

@[simp] theorem stepFailed_fixed (s k failed reached) : (stepFailed s k failed reached).fixed = s.fixed := by simp [stepFailed]
@[simp] theorem execLaneBringupLimit_fixed (l s) : Keeps s (execLaneBringupLimit l s) := by simp [execLaneBringupLimit]
@[simp] theorem loseLock_fixed (s k) : (loseLock s k).fixed = s.fixed := by simp [loseLock]
@[simp] theorem execLaneAdaptStep_fixed (l setting up s) : Keeps s (execLaneAdaptStep l setting up s) := by simp [execLaneAdaptStep]
@[simp] theorem execServiceLaneAutoTry_fixed (p s) : Keeps s (execServiceLaneAutoTry p s) := by simp [execServiceLaneAutoTry]
@[simp] theorem actServiceMode_fixed (p) : (actServiceMode p).Fixed := ⟨fun _ _ _ _ => by simp [actServiceMode], fun _ _ _ => rfl⟩
@[simp] theorem startLanes_fixed (s) : (startLanes s).fixed = s.fixed := by simp [startLanes]
@[simp] theorem stopLanes_fixed (s again) : (stopLanes s again).fixed = s.fixed := by simp [stopLanes]
@[simp] theorem resumeLanes_fixed (s) : (resumeLanes s).fixed = s.fixed := by simp [resumeLanes]

/-! #### The DRAM controller (10) -/

@[simp] theorem execDramRequest_fixed (k s) : Keeps s (execDramRequest k s) := by
  unfold execDramRequest
  dsimp only
  repeat' split
  all_goals simp

@[simp] theorem execRequestUrgent_fixed (channel write k s) : Keeps s (execRequestUrgent channel write k s) := by
  unfold execRequestUrgent
  dsimp only
  split <;> simp

@[simp] theorem execRefreshInterval_fixed (b s) : Keeps s (execRefreshInterval b s) := by simp [execRefreshInterval]
@[simp] theorem refreshBank_fixed (s key) : (refreshBank s key).fixed = s.fixed := by simp [refreshBank]

@[simp] theorem neighbourBank_fixed (s key) : (neighbourBank s key).fixed = s.fixed := by
  unfold neighbourBank
  split <;> simp

@[simp] theorem serveDram_fixed (s ch r errs spareErrs) : (serveDram s ch r errs spareErrs).fixed = s.fixed := by simp [serveDram]

@[simp] theorem execDramCommandSlot_fixed (channel pcB errs spareErrs s0) :
    Keeps s0 (execDramCommandSlot channel pcB errs spareErrs s0) := by
  unfold execDramCommandSlot
  dsimp only
  repeat' split
  all_goals simp

@[simp] theorem repairLanes_fixed (s ch pc failing) : (repairLanes s ch pc failing).fixed = s.fixed := by
  simp [repairLanes]

@[simp] theorem execRetrainBurst_fixed (channel pcB failing s) : Keeps s (execRetrainBurst channel pcB failing s) := by
  simp [execRetrainBurst]

@[simp] theorem beginRetrain_fixed (s ch) : (beginRetrain s ch).fixed = s.fixed := by simp [beginRetrain]
@[simp] theorem actRetire_fixed : actRetire.Fixed := ⟨fun _ _ _ _ => by simp [actRetire], fun _ _ _ => rfl⟩
@[simp] theorem actRetrain_fixed : actRetrain.Fixed := ⟨fun _ _ _ _ => by simp [actRetrain], fun _ _ _ => rfl⟩
@[simp] theorem actSpares_fixed : actSpares.Fixed := ⟨fun _ _ _ _ => by simp [actSpares], fun _ _ _ => rfl⟩
@[simp] theorem execCaParityError_fixed (channel rank s) : Keeps s (execCaParityError channel rank s) := by simp [execCaParityError]
@[simp] theorem migAdvance_fixed (s ch) : (migAdvance s ch).fixed = s.fixed := by simp [migAdvance]
@[simp] theorem migWrite_fixed (s ch a symbols) : (migWrite s ch a symbols).fixed = s.fixed := by simp [migWrite]

@[simp] theorem execMigrationCopy_fixed (channel symbols s0) : Keeps s0 (execMigrationCopy channel symbols s0) := by
  unfold execMigrationCopy
  dsimp only
  repeat' split
  all_goals simp

@[simp] theorem execMigrationLineTimeout_fixed (channel s) : Keeps s (execMigrationLineTimeout channel s) := by
  unfold execMigrationLineTimeout
  split <;> simp

/-! #### Key slots and regions (12) -/

@[simp] theorem actKey_fixed : actKey.Fixed := ⟨fun _ _ _ _ => by simp [actKey], fun _ _ _ => by simp [actKey]⟩
@[simp] theorem dropMeta_fixed (s r) : (dropMeta s r).fixed = s.fixed := by simp [dropMeta]
@[simp] theorem dropFaults_fixed (s r) : (dropFaults s r).fixed = s.fixed := by simp [dropFaults]
@[simp] theorem enableRegion_fixed (s r cmd) : (enableRegion s r cmd).fixed = s.fixed := by simp [enableRegion]
@[simp] theorem disableRegion_fixed (s r) : (disableRegion s r).fixed = s.fixed := by simp [disableRegion]
@[simp] theorem actRegion_fixed (r) : (actRegion r).Fixed := ⟨fun _ _ _ _ => by simp [actRegion], fun _ _ _ => rfl⟩
@[simp] theorem actRegionSetting_fixed (r) : (actRegionSetting r).Fixed := ⟨fun _ _ _ _ => rfl, fun _ _ _ => rfl⟩
@[simp] theorem initLines_fixed (s r) : (initLines s r).fixed = s.fixed := by simp [initLines]
@[simp] theorem initNodes_fixed (s r) : (initNodes s r).fixed = s.fixed := by simp [initNodes]
@[simp] theorem initRegion_fixed (s r) : (initRegion s r).fixed = s.fixed := by simp [initRegion]
@[simp] theorem execRegionInitialised_fixed (r s) : Keeps s (execRegionInitialised r s) := by simp [execRegionInitialised]

/-! #### The sealed partition (15) -/

@[simp] theorem writeImage_fixed (s p) : (writeImage s p).fixed = s.fixed := by simp [writeImage]
@[simp] theorem writeImages_fixed (s) : (writeImages s).fixed = s.fixed := by simp [writeImages]
@[simp] theorem reidentify_fixed (s) : (reidentify s).fixed = s.fixed := by simp [reidentify]

@[simp] theorem recordChange_fixed (s param level session old new) : (recordChange s param level session old new).fixed = s.fixed := by
  simp [recordChange]

@[simp] theorem changeRefused_fixed (s param) : (changeRefused s param).fixed = s.fixed := by simp [changeRefused]
@[simp] theorem setParam_fixed (s who p v) : (setParam s who p v).fixed = s.fixed := by simp [setParam]
@[simp] theorem actSealParam_fixed : actSealParam.Fixed := ⟨fun _ _ _ _ => by simp [actSealParam], fun _ _ _ => by simp [actSealParam]⟩
@[simp] theorem actSealKey_fixed : actSealKey.Fixed := ⟨fun _ _ _ _ => by simp [actSealKey], fun _ _ _ => by simp [actSealKey]⟩
@[simp] theorem actProvision_fixed : actProvision.Fixed := ⟨fun _ _ _ _ => rfl, fun _ _ _ => rfl⟩

@[simp] theorem actSealCommand_fixed (c) : (actSealCommand c).Fixed :=
  ⟨fun _ _ _ _ => by simp [actSealCommand], fun _ _ _ => by simp [actSealCommand]⟩

@[simp] theorem execSealN_fixed (opened widthMs s) : Keeps s (execSealN opened widthMs s) := by simp [execSealN]

@[simp] theorem storeCheck_fixed (s) : (storeCheck s).fixed = s.fixed := by
  unfold storeCheck
  split <;> simp

@[simp] theorem tableFault_fixed (s p) : (tableFault s p).fixed = s.fixed := by simp [tableFault]
@[simp] theorem faultOver_fixed (s) : (faultOver s).fixed = s.fixed := by simp [faultOver]
@[simp] theorem undoWrites_fixed (s) : (undoWrites s).fixed = s.fixed := by simp [undoWrites]

@[simp] theorem execParameterImageCheck_fixed (s) : Keeps s (execParameterImageCheck s) := by
  unfold execParameterImageCheck
  dsimp only
  repeat' split
  all_goals simp

@[simp] theorem updPort_fixed (s p f) : (updPort s p f).fixed = s.fixed := by simp [updPort]
@[simp] theorem execSampleSync_fixed (p s) : Keeps s (execSampleSync p s) := by simp [execSampleSync]
@[simp] theorem appendSample_fixed (s p t w flags raw) : (appendSample s p t w flags raw).fixed = s.fixed := by simp [appendSample]

@[simp] theorem execSampleFrame_fixed (p bits s) : Keeps s (execSampleFrame p bits s) := by
  unfold execSampleFrame
  dsimp only
  split <;> simp

@[simp] theorem sealedStart_fixed (s) : (sealedStart s).fixed = s.fixed := by simp [sealedStart]
@[simp] theorem sealedRun_fixed (s) : (sealedRun s).fixed = s.fixed := by simp [sealedRun]
@[simp] theorem sealedImage_fixed (s) : (sealedImage s).fixed = s.fixed := by simp [sealedImage]
@[simp] theorem sealedRegion_fixed (s) : (sealedRegion s).fixed = s.fixed := by simp [sealedRegion]
@[simp] theorem sealedHash_fixed (s h) : (sealedHash s h).1.fixed = s.fixed := by simp [sealedHash]

/-! #### Configuration streams (06) -/

@[simp] theorem useOwners_fixed (s) : (useOwners s).fixed = s.fixed := by simp [useOwners]

@[simp] theorem readSource_fixed (s src off n given) : (readSource s src off n given).1.fixed = s.fixed := by
  unfold readSource
  dsimp only
  repeat' split
  all_goals simp

@[simp] theorem takeFeed_fixed (s bs) : (takeFeed s bs).fixed = s.fixed := by simp [takeFeed]
@[simp] theorem takeChain_fixed (s bs) : (takeChain s bs).fixed = s.fixed := by simp [takeChain]

@[simp] theorem dropSource_fixed (s src n fwd) : (dropSource s src n fwd).fixed = s.fixed := by
  unfold dropSource
  split <;> simp

@[simp] theorem noteSource_fixed (s src status) : (noteSource s src status).fixed = s.fixed := by
  unfold noteSource
  dsimp only
  split <;> simp

@[simp] theorem setResult_fixed (s h status addr packet offset) : (setResult s h status addr packet offset).fixed = s.fixed := by
  simp [setResult]

@[simp] theorem loseSource_fixed (s src) : (loseSource s src).fixed = s.fixed := by
  unfold loseSource
  split <;> simp

@[simp] theorem passSection_fixed (s src h rest) : (passSection s src h rest).fixed = s.fixed := by
  unfold passSection
  dsimp only
  split
  case h_3 =>
    split
    · rename_i hr
      simp [fixed_of_fst hr (readSource_fixed _ _ _ _ _)]
    · rename_i hr
      exact fixed_of_fst hr (readSource_fixed _ _ _ _ _)
  all_goals simp

@[simp] theorem refuseHeader_fixed (s src h rest status) : (refuseHeader s src h rest status).fixed = s.fixed := by simp [refuseHeader]
@[simp] theorem acceptHeader_fixed (s src h tags) : (acceptHeader s src h tags).fixed = s.fixed := by simp [acceptHeader]

@[simp] theorem execStreamHeader_fixed (src header tags s) : Keeps s (execStreamHeader src header tags s) := by
  unfold execStreamHeader
  split
  · rfl
  · have hread := readSource_fixed (useOwners s) src 0 512 (padTo header 512)
    rw [useOwners_fixed] at hread
    split
    · next hr => exact fixed_of_fst hr hread
    · next hr => simp [fixed_of_fst hr hread]
    · next hr =>
      have h1 := fixed_of_fst hr hread
      split
      · simp [h1]
      · split
        · simp [h1]
        · simp [h1]
        · split
          · next hr => simp [(fixed_of_fst hr (readSource_fixed _ _ _ _ _)).trans h1]
          · next hr => simp [(fixed_of_fst hr (readSource_fixed _ _ _ _ _)).trans h1]

@[simp] theorem endStream_fixed (s st status addr) : (endStream s st status addr).fixed = s.fixed := by simp [endStream]
@[simp] theorem invalidateLoading_fixed (s st) : (invalidateLoading s st).fixed = s.fixed := by simp [invalidateLoading]

@[simp] theorem abortWith_fixed (s status addr more) : (abortWith s status addr more).fixed = s.fixed := by
  unfold abortWith
  split <;> simp

@[simp] theorem abortStream_fixed (s status addr) : (abortStream s status addr).fixed = s.fixed := by simp [abortStream]
@[simp] theorem updStream_fixed (s f) : (updStream s f).fixed = s.fixed := by simp [updStream]

@[simp] theorem execChunkVerified_fixed (chunk s) : Keeps s (execChunkVerified chunk s) := by
  unfold execChunkVerified
  dsimp only
  split
  · rfl
  · split
    · rfl
    · split
      · next hr => exact fixed_of_fst hr (readSource_fixed _ _ _ _ _)
      · next hr => simp [fixed_of_fst hr (readSource_fixed _ _ _ _ _)]
      · next hr => simp [fixed_of_fst hr (readSource_fixed _ _ _ _ _)]

@[simp] theorem failed_fixed (s status addr) : (failed s status addr).1.fixed = s.fixed := by simp [failed]
@[simp] theorem done_fixed (s) : (done s).1.fixed = s.fixed := by simp [done]
@[simp] theorem passPacket_fixed (s len) : (passPacket s len).fixed = s.fixed := by simp [passPacket]

theorem packetWork_fixed (op act next_ s) (hact : ∀ s st d, (act s st d).1.fixed = s.fixed)
    (hnext : ∀ s len, (next_ s len).fixed = s.fixed) : Keeps s (packetWork op act next_ s) := by
  unfold packetWork
  split
  · simp
  · rename_i st o len d _
    have hd := hact (useOwners s) st d
    repeat' split
    all_goals simp_all

@[simp] theorem packetRow_fixed (op act s) (hact : ∀ s st d, (act s st d).1.fixed = s.fixed) : Keeps s (packetRow op act s) :=
  packetWork_fixed _ _ _ _ hact passPacket_fixed

@[simp] theorem execUnknownOpcode_fixed (s) : Keeps s (execUnknownOpcode s) := by
  unfold execUnknownOpcode
  split <;> simp

@[simp] theorem putFrame_fixed (s a bs) : (putFrame s a bs).fixed = s.fixed := by simp [putFrame]

@[simp] theorem putFrames_fixed (s a k bs) : (putFrames s a k bs).1.fixed = s.fixed := by
  induction bs generalizing s k with
  | nil => rfl
  | cons b bs ih =>
    unfold putFrames
    repeat' split
    all_goals simp [ih]

@[simp] theorem writeFrames_fixed (s a count bs) : (writeFrames s a count bs).1.fixed = s.fixed := by simp [writeFrames]

@[simp] theorem execWriteFramesZr_fixed (s) : Keeps s (execWriteFramesZr s) :=
  packetRow_fixed _ _ _ fun s st d => by
    dsimp only
    split <;> simp

@[simp] theorem putWord_fixed (s blk w v) : (putWord s blk w v).fixed = s.fixed := by simp [putWord]

@[simp] theorem putWords_fixed (s a w bs) : (putWords s a w bs).1.fixed = s.fixed := by
  induction bs generalizing s w with
  | nil => rfl
  | cons b bs ih => simp [putWords, ih]

@[simp] theorem passWords_fixed (s len) : (passWords s len).fixed = s.fixed := by
  unfold passWords
  split <;> simp

@[simp] theorem execInitBlockmem_fixed (s) : Keeps s (execInitBlockmem s) := by
  refine packetWork_fixed _ _ _ _ (fun s st d => ?_) passWords_fixed
  dsimp only
  repeat' split
  all_goals simp

@[simp] theorem putShadow_fixed (s a bs) : (putShadow s a bs).fixed = s.fixed := by simp [putShadow]

@[simp] theorem putStates_fixed (s a k bs) : (putStates s a k bs).1.fixed = s.fixed := by
  induction bs generalizing s k with
  | nil => rfl
  | cons b bs ih =>
    unfold putStates
    dsimp only
    repeat' split
    all_goals simp [ih]

@[simp] theorem execInitState_fixed (s) : Keeps s (execInitState s) := by simp [execInitState]
@[simp] theorem clearPlane_fixed (s g p) : (clearPlane s g p).fixed = s.fixed := by simp [clearPlane]

@[simp] theorem selectSector_fixed (p gs s) : (selectSector p gs s).1.fixed = s.fixed := by
  induction gs generalizing s with
  | nil => rfl
  | cons g gs ih => simp [selectSector, ih]

@[simp] theorem execSelectPlane_fixed (s) : Keeps s (execSelectPlane s) := by
  refine packetRow_fixed _ _ _ fun s st d => ?_
  dsimp only
  repeat' split
  all_goals simp

theorem teamWrites_fixed (t d) : ∀ w ∈ teamWrites t d, w.2.2.Fixed := by
  simp [teamWrites, Action.fixed_default]

@[simp] theorem loaderWrite_fixed (s idx sub v) {a : Action} (ha : a.Fixed) : (loaderWrite s idx sub v a).1.fixed = s.fixed := by
  simp [loaderWrite, ha]

@[simp] theorem loaderWrites_fixed (idx ws s) (h : ∀ w ∈ ws, w.2.2.Fixed) : (loaderWrites idx ws s).1.fixed = s.fixed := by
  induction ws generalizing s with
  | nil => rfl
  | cons w ws ih =>
    rw [List.forall_mem_cons] at h
    simp [loaderWrites, h.1, ih _ h.2]

@[simp] theorem execSetTeam_fixed (s) : Keeps s (execSetTeam s) := by
  refine packetRow_fixed _ _ _ fun s st d => ?_
  dsimp only
  repeat' split
  all_goals simp [loaderWrites_fixed _ _ _ (teamWrites_fixed _ _)]

@[simp] theorem actStartupOrder_fixed : actStartupOrder.Fixed := ⟨fun _ _ _ _ => rfl, fun _ _ _ => rfl⟩
@[simp] theorem execSetStartupOrder_fixed (s) : Keeps s (execSetStartupOrder s) := by simp [execSetStartupOrder]
@[simp] theorem execCheckCrc_fixed (s) : Keeps s (execCheckCrc s) := by simp [execCheckCrc]
@[simp] theorem execForwardToChain_fixed (follow s) : Keeps s (execForwardToChain follow s) := by simp [execForwardToChain]
@[simp] theorem takeValid_fixed (s g p crc startup) : (takeValid s g p crc startup).fixed = s.fixed := by simp [takeValid]

@[simp] theorem markSectors_fixed (p m startup gs s) : (markSectors p m startup gs s).1.fixed = s.fixed := by
  induction gs generalizing s with
  | nil => rfl
  | cons g gs ih =>
    unfold markSectors
    split
    · rfl
    · split <;> simp [ih]

@[simp] theorem execMarkValid_fixed (s) : Keeps s (execMarkValid s) := by simp [execMarkValid]
@[simp] theorem enterPhase_fixed (s ph) : (enterPhase s ph).fixed = s.fixed := by simp [enterPhase]
@[simp] theorem completeStream_fixed (s st) : (completeStream s st).fixed = s.fixed := by simp [completeStream]
@[simp] theorem takeSealed_fixed (s st) : (takeSealed s st).fixed = s.fixed := by simp [takeSealed]
@[simp] theorem endWork_fixed (s st d) : (endWork s st d).fixed = s.fixed := by simp [endWork]

@[simp] theorem execEndPacket_fixed (s) : Keeps s (execEndPacket s) := by
  unfold execEndPacket
  split
  · rfl
  · split
    · simp
    · split <;> simp

@[simp] theorem tamperRegions_fixed (s) : (tamperRegions s).fixed = s.fixed := by simp [tamperRegions]
@[simp] theorem execTamperN_fixed (widthNs s) : Keeps s (execTamperN widthNs s) := by simp [execTamperN]
@[simp] theorem keyWritten_fixed (s which key) : (keyWritten s which key).fixed = s.fixed := by simp [keyWritten]
@[simp] theorem actEfuseKey_fixed : actEfuseKey.Fixed := ⟨fun _ _ _ _ => by simp [actEfuseKey], fun _ _ _ => rfl⟩
@[simp] theorem actBbramKey_fixed : actBbramKey.Fixed := ⟨fun _ _ _ _ => by simp [actBbramKey], fun _ _ _ => rfl⟩
@[simp] theorem actBbramErase_fixed : actBbramErase.Fixed := ⟨fun _ _ _ _ => rfl, fun _ _ _ => rfl⟩
@[simp] theorem actFuseLock_fixed : actFuseLock.Fixed := ⟨fun _ _ _ _ => by simp [actFuseLock], fun _ _ _ => rfl⟩
@[simp] theorem useJtag_fixed (s) : (useJtag s).fixed = s.fixed := by simp [useJtag]
@[simp] theorem jtagRefused_fixed (s) : (jtagRefused s).fixed = s.fixed := by simp [jtagRefused]
@[simp] theorem execKeyProg_fixed (battery key check s) : Keeps s (execKeyProg battery key check s) := by simp [execKeyProg]
@[simp] theorem actOwnership_fixed (g) : (actOwnership g).Fixed := ⟨fun _ _ _ _ => by simp [actOwnership], fun _ _ _ => rfl⟩
@[simp] theorem actOwnerKey_fixed (o) : (actOwnerKey o).Fixed := ⟨fun _ _ _ _ => by simp [actOwnerKey], fun _ _ _ => rfl⟩

end Sys2Proof.Machine
end

section
/-! PROOFS. The queue and the root clock's count: modes, power, loading, the chain, integrity, tests and observation leave them. -/

namespace Sys2Proof.Machine

/-! #### The passages between modes (R623 to R651) -/

@[simp] theorem setMode_fixed (s m cause) : (setMode s m cause).fixed = s.fixed := by simp [setMode]
@[simp] theorem updateGaits_fixed (s) : (updateGaits s).fixed = s.fixed ∧ (updateGaits s).time = s.time := by simp [updateGaits]
@[simp] theorem gaitsAtWake_fixed (s) : (gaitsAtWake s).fixed = s.fixed := by simp [gaitsAtWake]
@[simp] theorem endVerify_fixed (s) : (endVerify s).fixed = s.fixed := by simp [endVerify]
@[simp] theorem abandonVerify_fixed (s) : (abandonVerify s).fixed = s.fixed := by simp [abandonVerify]
@[simp] theorem loseCapture_fixed (s) : (loseCapture s).fixed = s.fixed := by simp [loseCapture]
@[simp] theorem disarmCapture_fixed (s) : (disarmCapture s).fixed = s.fixed := by simp [disarmCapture]

@[simp] theorem saveFfs_fixed (s gs) : (saveFfs s gs).fixed = s.fixed :=
  foldl_fixed _ _ fun s g => by split <;> rfl

@[simp] theorem restoreFfs_fixed (s gs) : (restoreFfs s gs).fixed = s.fixed :=
  foldl_fixed _ _ fun s g => by split <;> rfl

@[simp] theorem loseSectors_fixed (s gs) : (loseSectors s gs).fixed = s.fixed := by simp [loseSectors]
@[simp] theorem loseCounters_fixed (s gone) : (loseCounters s gone).fixed = s.fixed := by simp [loseCounters]
@[simp] theorem dropOpen_fixed (s which) : (dropOpen s which).fixed = s.fixed := by simp [dropOpen]
@[simp] theorem dropPorts_fixed (s gs status) : (dropPorts s gs status).fixed = s.fixed := by simp [dropPorts]
@[simp] theorem drainChannel_fixed (s ch) : (drainChannel s ch).fixed = s.fixed := by simp [drainChannel]
@[simp] theorem settleBank_fixed (s key) : (settleBank s key).fixed = s.fixed := by simp [settleBank]
@[simp] theorem selfRefresh_fixed (s m) : (selfRefresh s m).fixed = s.fixed := by simp [selfRefresh]
@[simp] theorem wakeStack_fixed (s m) : (wakeStack s m).fixed = s.fixed := by simp [wakeStack]

@[simp] theorem quiesceWale_fixed (s) : (quiesceWale s).fixed = s.fixed := by
  simp only [quiesceWale, foldl_fixed, answer_fixed, State.fixed_mk, settleDram_fixed, implies_true]
  rw [foldl_fixed]
  · simp
  · intro s f
    split <;> simp

@[simp] theorem flushStores_fixed (s) : (flushStores s).fixed = s.fixed := by simp [flushStores]
@[simp] theorem failMovers_fixed (s) : (failMovers s).fixed = s.fixed := by simp [failMovers]
@[simp] theorem chainLanesOff_fixed (s) : (chainLanesOff s).fixed = s.fixed := by simp [chainLanesOff]
@[simp] theorem chainLanesOn_fixed (s) : (chainLanesOn s).fixed = s.fixed := by simp [chainLanesOn]
@[simp] theorem enterHold_fixed (s) : (enterHold s).fixed = s.fixed := by simp [enterHold]
@[simp] theorem leaveHold_fixed (s) : (leaveHold s).fixed = s.fixed := by simp [leaveHold]
@[simp] theorem banksOff_fixed (s) : (banksOff s).fixed = s.fixed := by simp [banksOff]
@[simp] theorem banksOn_fixed (s) : (banksOn s).fixed = s.fixed := by simp [banksOn]
@[simp] theorem panStable_fixed (s) : (panStable s).fixed = s.fixed := by simp [panStable]
@[simp] theorem panWake_fixed (s) : (panWake s).fixed = s.fixed := by simp [panWake]
@[simp] theorem enterStable_fixed (s) : (enterStable s).fixed = s.fixed := by simp [enterStable]
@[simp] theorem wake_fixed (s source) : (wake s source).fixed = s.fixed := by simp [wake]
@[simp] theorem freezeTeams_fixed (s) : (freezeTeams s).fixed = s.fixed := by simp [freezeTeams]
@[simp] theorem enterService_fixed (s) : (enterService s).fixed = s.fixed := by simp [enterService]
@[simp] theorem enterSafeStop_fixed (s cause) : (enterSafeStop s cause).fixed = s.fixed := by simp [enterSafeStop]
@[simp] theorem immediate_fixed (s cause) : (immediate s cause).fixed = s.fixed := by simp [immediate]
@[simp] theorem banksReset_fixed (s) : (banksReset s).fixed = s.fixed := by simp [banksReset]
@[simp] theorem bootFlags_fixed (s phase cause) : (bootFlags s phase cause).fixed = s.fixed := by simp [bootFlags]
@[simp] theorem clearWork_fixed (s) : (clearWork s).fixed = s.fixed := by simp [clearWork]
@[simp] theorem retrainStores_fixed (s) : (retrainStores s).fixed = s.fixed := by simp [retrainStores]
@[simp] theorem calLanes_fixed (s) : (calLanes s).fixed = s.fixed := by simp [calLanes]
@[simp] theorem enterCal_fixed (s cause) : (enterCal s cause).fixed = s.fixed := by simp [enterCal]
@[simp] theorem assertPorst_fixed (s) : (assertPorst s).fixed = s.fixed := by simp [assertPorst]

/-! #### The chronicle (R697 to R705) -/

@[simp] theorem sendEmergency_fixed (s h sess r) : (sendEmergency s h sess r).fixed = s.fixed := by
  unfold sendEmergency
  split <;> simp

@[simp] theorem emergency_fixed (s r) : (emergency s r).fixed = s.fixed := by simp [emergency]
@[simp] theorem writerLoses_fixed (s r) : (writerLoses s r).fixed = s.fixed := by simp [writerLoses]
@[simp] theorem bufferTake_fixed (s r) : (bufferTake s r).fixed = s.fixed := by simp [bufferTake]
@[simp] theorem writeRecord_fixed (s r) : (writeRecord s r).fixed = s.fixed := by simp [writeRecord]
@[simp] theorem summarise_fixed (s x) : (summarise s x).fixed = s.fixed := by simp [summarise]

@[simp] theorem coalesce_fixed (s r) : (coalesce s r).fixed = s.fixed := by
  unfold coalesce
  dsimp only
  repeat' split
  all_goals simp

@[simp] theorem writerAccept_fixed (s r) : (writerAccept s r).fixed = s.fixed := by simp [writerAccept]
@[simp] theorem execCoalesceWindowEnd_fixed (s) : Keeps s (execCoalesceWindowEnd s) := by simp [execCoalesceWindowEnd]

@[simp] theorem carry_fixed (s i) : (carry s i).fixed = s.fixed := by
  unfold carry
  split <;> simp

@[simp] theorem execChronicleRecord_fixed (s) : Keeps s (execChronicleRecord s) := by
  unfold execChronicleRecord
  repeat' split
  all_goals simp

@[simp] theorem writePacket_fixed (s rs status) : (writePacket s rs status).fixed = s.fixed := by simp [writePacket]
@[simp] theorem generalLess_fixed (s n) : (generalLess s n).fixed = s.fixed := by simp [generalLess]
@[simp] theorem onePacket_fixed (s whole status) : (onePacket s whole status).fixed = s.fixed := by simp [onePacket]
@[simp] theorem execRingPacketWrite_fixed (status s) : Keeps s (execRingPacketWrite status s) := by simp [execRingPacketWrite]

@[simp] theorem carryAll_fixed (fuel s) : (carryAll fuel s).fixed = s.fixed := by
  induction fuel generalizing s with
  | zero => rfl
  | succ fuel ih =>
    unfold carryAll
    split <;> simp [ih]

@[simp] theorem writeAll_fixed (fuel s) : (writeAll fuel s).fixed = s.fixed := by
  induction fuel generalizing s with
  | zero => rfl
  | succ fuel ih => simp [writeAll, ih]

@[simp] theorem flushChronicle_fixed (s) : (flushChronicle s).fixed = s.fixed := by simp [flushChronicle]

@[simp] theorem execGapRecord_fixed (source s) : Keeps s (execGapRecord source s) := by
  unfold execGapRecord
  dsimp only
  repeat' split
  all_goals simp

@[simp] theorem actAck_fixed : actAck.Fixed := ⟨fun _ _ _ _ => by simp [actAck], fun _ _ _ => rfl⟩
@[simp] theorem actChronEnable_fixed : actChronEnable.Fixed := ⟨fun _ _ _ _ => by simp [actChronEnable], fun _ _ _ => rfl⟩
@[simp] theorem actRingPlace_fixed (base) : (actRingPlace base).Fixed := ⟨fun _ _ _ _ => rfl, fun _ _ _ => rfl⟩

/-! #### Modes, power and heat (16, 19) -/

@[simp] theorem updSensor_fixed (s n f) : (updSensor s n f).fixed = s.fixed := by simp [updSensor]
@[simp] theorem readSensor_fixed (s n) : (readSensor s n).fixed = s.fixed := by simp [readSensor]
@[simp] theorem effectiveSensor_fixed (s n) : (effectiveSensor s n).fixed = s.fixed := by simp [effectiveSensor]
@[simp] theorem thresholdFault_fixed (s sub) : (thresholdFault s sub).fixed = s.fixed := by simp [thresholdFault]
@[simp] theorem checkThresholds_fixed (s) : (checkThresholds s).fixed = s.fixed := by simp [checkThresholds]
@[simp] theorem crossEvent_fixed (s scope code now) : (crossEvent s scope code now).fixed = s.fixed := by simp [crossEvent]
@[simp] theorem temperatureFlag_fixed (s) : (temperatureFlag s).fixed = s.fixed := by simp [temperatureFlag]
@[simp] theorem checkWarnings_fixed (s) : (checkWarnings s).fixed = s.fixed := by simp [checkWarnings]
@[simp] theorem checkThrottles_fixed (s) : (checkThrottles s).fixed = s.fixed := by simp [checkThrottles]
@[simp] theorem checkShutdown_fixed (s) : (checkShutdown s).fixed = s.fixed := by simp [checkShutdown]
@[simp] theorem beginStop_fixed (s host sensor us) : (beginStop s host sensor us).fixed = s.fixed := by simp [beginStop]

@[simp] theorem predict_fixed (s) : (predict s).fixed = s.fixed := by
  unfold predict
  split <;> simp

@[simp] theorem noteResume_fixed (s) : (noteResume s).fixed = s.fixed := by simp [noteResume]
@[simp] theorem resumeNow_fixed (s auto) : (resumeNow s auto).fixed = s.fixed := by simp [resumeNow]
@[simp] theorem execAutoResume_fixed (s) : Keeps s (execAutoResume s) := by simp [execAutoResume]

@[simp] theorem actMode_fixed : actMode.Fixed := by
  refine ⟨fun s who old new => ?_, fun _ _ _ => rfl⟩
  dsimp only [actMode]
  split <;> simp

@[simp] theorem actNotifyAddr_fixed : actNotifyAddr.Fixed := ⟨fun _ _ _ _ => rfl, fun _ _ _ => rfl⟩
@[simp] theorem takePower_fixed (s mw) : (takePower s mw).fixed = s.fixed := by simp [takePower]

@[simp] theorem execSensorExcluded_fixed (n s) : Keeps s (execSensorExcluded n s) := by
  unfold execSensorExcluded
  dsimp only
  split <;> simp

@[simp] theorem execSensorReadmitted_fixed (n s) : Keeps s (execSensorReadmitted n s) := by
  unfold execSensorReadmitted
  dsimp only
  split <;> simp

@[simp] theorem execReadsLowFlag_fixed (n s) : Keeps s (execReadsLowFlag n s) := by
  unfold execReadsLowFlag
  split <;> simp

@[simp] theorem actThreshold_fixed (sub) : (actThreshold sub).Fixed := ⟨fun _ _ _ _ => rfl, fun _ _ _ => rfl⟩
@[simp] theorem execGaitStepSlower_fixed (t s) : Keeps s (execGaitStepSlower t s) := by simp [execGaitStepSlower]
@[simp] theorem execGaitStepFaster_fixed (t s) : Keeps s (execGaitStepFaster t s) := by simp [execGaitStepFaster]
@[simp] theorem actGait_fixed : actGait.Fixed := ⟨fun _ _ _ _ => by simp [actGait], fun _ _ _ => rfl⟩
@[simp] theorem nextStop_fixed (s step) : (nextStop s step).fixed = s.fixed := by simp [nextStop]
@[simp] theorem drainBank_fixed (s b) : (drainBank s b).fixed = s.fixed := by simp [drainBank]

@[simp] theorem drainsEnded_fixed (s) : (drainsEnded s).fixed = s.fixed ∧ (drainsEnded s).time = s.time :=
  foldl_fixed_time _ _ fun s b => by split <;> simp

@[simp] theorem execOrderlyStopFallbacks_fixed (s) : Keeps s (execOrderlyStopFallbacks s) := by simp [execOrderlyStopFallbacks]
@[simp] theorem execSafeStopEntry_fixed (s) : Keeps s (execSafeStopEntry s) := by simp [execSafeStopEntry]
@[simp] theorem execSafeN_fixed (asserted widthNs s) : Keeps s (execSafeN asserted widthNs s) := by simp [execSafeN]
@[simp] theorem measured_fixed (s n mv ok) : (measured s n mv ok).fixed = s.fixed := by simp [measured]
@[simp] theorem excursion_fixed (s n mv) : (excursion s n mv).fixed = s.fixed := by simp [excursion]
@[simp] theorem execVinCoreOutOfRange_fixed (mv widthNs s) : Keeps s (execVinCoreOutOfRange mv widthNs s) := by simp [execVinCoreOutOfRange]
@[simp] theorem execVauxLow_fixed (mv widthNs s) : Keeps s (execVauxLow mv widthNs s) := by simp [execVauxLow]

@[simp] theorem execVdramVppOutOfRange_fixed (vpp mv widthNs s) : Keeps s (execVdramVppOutOfRange vpp mv widthNs s) := by
  simp [execVdramVppOutOfRange]

@[simp] theorem execVlaneOutOfRange_fixed (high mv widthNs s) : Keeps s (execVlaneOutOfRange high mv widthNs s) := by
  simp [execVlaneOutOfRange]

@[simp] theorem bankLost_fixed (s b) : (bankLost s b).fixed = s.fixed := by simp [bankLost]
@[simp] theorem execVccioOutOfRange_fixed (b mv widthNs s) : Keeps s (execVccioOutOfRange b mv widthNs s) := by simp [execVccioOutOfRange]
@[simp] theorem execRootPllLockLoss_fixed (s) : Keeps s (execRootPllLockLoss s) := by simp [execRootPllLockLoss]

/-! #### BIST, the farrier and calibration (R653 to R672) -/

@[simp] theorem blockDown_fixed (s src kind unit) : (blockDown s src kind unit).fixed = s.fixed := by simp [blockDown]
@[simp] theorem markClusters_fixed (s g m) : (markClusters s g m).fixed = s.fixed := by simp [markClusters]
@[simp] theorem clusterDown_fixed (s g c) : (clusterDown s g c).fixed = s.fixed := by simp [clusterDown]
@[simp] theorem repairColumn_fixed (s b col) : (repairColumn s b col).fixed = s.fixed := by simp [repairColumn]
@[simp] theorem disableWays_fixed (s sl m) : (disableWays s sl m).fixed = s.fixed := by simp [disableWays]
@[simp] theorem useSpares_fixed (s key n) : (useSpares s key n).1.fixed = s.fixed := by simp [useSpares]
@[simp] theorem copyDown_fixed (s t grp k) : (copyDown s t grp k).fixed = s.fixed := by simp [copyDown]
@[simp] theorem towerUntested_fixed (s t) : (towerUntested s t).fixed = s.fixed := by simp [towerUntested]
@[simp] theorem clusterFails_fixed (bist s g c) : (clusterFails bist s g c).fixed = s.fixed := by simp [clusterFails]

@[simp] theorem findFail_fixed (bist s unit) : (findFail bist s unit).fixed = s.fixed := by
  unfold findFail
  split <;> simp

@[simp] theorem moveRows_fixed (s g row) : (moveRows s g row).fixed = s.fixed := by simp [moveRows]
@[simp] theorem applyShift_fixed (s g row source) : (applyShift s g row source).fixed = s.fixed := by simp [applyShift]
@[simp] theorem shiftImpossible_fixed (s g m) : (shiftImpossible s g m).fixed = s.fixed := by simp [shiftImpossible]
@[simp] theorem repairSector_fixed (s g) : (repairSector s g).fixed = s.fixed := by simp [repairSector]
@[simp] theorem repairAll_fixed (s) : (repairAll s).fixed = s.fixed := by simp [repairAll]
@[simp] theorem cutTower_fixed (s t) : (cutTower s t).fixed = s.fixed := by simp [cutTower]
@[simp] theorem towerGroupDown_fixed (s t grp) : (towerGroupDown s t grp).fixed = s.fixed := by simp [towerGroupDown]

@[simp] theorem groupDown_fixed (s g) : (groupDown s g).fixed = s.fixed := by
  unfold groupDown
  split <;> simp

@[simp] theorem failGroup_fixed (s g) : (failGroup s g).fixed = s.fixed := by simp [failGroup]
@[simp] theorem setLines_fixed (s kind n v) : (setLines s kind n v).fixed = s.fixed := by simp [setLines]

@[simp] theorem failFar_fixed (s n t) : (failFar s n t).fixed = s.fixed := by
  unfold failFar
  repeat' split
  all_goals simp

@[simp] theorem driftedGroups_fixed (s) : (driftedGroups s).fixed = s.fixed := by simp [driftedGroups]

@[simp] theorem degrade_fixed (s kind n t) : (degrade s kind n t).fixed = s.fixed := by
  unfold degrade
  split <;> simp

@[simp] theorem useItem_fixed (s kind n t) : (useItem s kind n t).fixed = s.fixed := by
  unfold useItem
  dsimp only
  repeat' split
  all_goals simp

@[simp] theorem calibrate_fixed (s r) : (calibrate s r).fixed = s.fixed := by
  unfold calibrate
  dsimp only
  split <;> simp

@[simp] theorem calibrateAll_fixed (s runs trigger) : (calibrateAll s runs trigger).fixed = s.fixed := by simp [calibrateAll]
@[simp] theorem execSensorRead_fixed (raw powerMw s) : Keeps s (execSensorRead raw powerMw s) := by simp [execSensorRead]

/-! #### Start-up, the order and the library (07) -/

@[simp] theorem noteReport_fixed (s pos flags reason status) : (noteReport s pos flags reason status).fixed = s.fixed := by
  simp [noteReport]

@[simp] theorem sendReport_fixed (s ready) : (sendReport s ready).fixed = s.fixed := by simp [sendReport]
@[simp] theorem passGo_fixed (s countdown) : (passGo s countdown).fixed = s.fixed := by simp [passGo]
@[simp] theorem sendGo_fixed (s) : (sendGo s).fixed = s.fixed := by simp [sendGo]
@[simp] theorem checkGo_fixed (s) : (checkGo s).fixed = s.fixed := by simp [checkGo]
@[simp] theorem failStart_fixed (s reason) : (failStart s reason).fixed = s.fixed := by simp [failStart]

@[simp] theorem probeFlash_fixed (s answers octal flashId d0 d1) : (probeFlash s answers octal flashId d0 d1).fixed = s.fixed := by
  simp [probeFlash]

@[simp] theorem beginLoad_fixed (s) : (beginLoad s).fixed = s.fixed := by simp [beginLoad]
@[simp] theorem leaveReset_fixed (s) : (leaveReset s).fixed = s.fixed := by simp [leaveReset]
@[simp] theorem execPorstN_fixed (asserted straps s) : Keeps s (execPorstN asserted straps s) := by simp [execPorstN]

@[simp] theorem execVauxVinCoreReached_fixed (vauxMv vinMv s) : Keeps s (execVauxVinCoreReached vauxMv vinMv s) := by
  simp [execVauxVinCoreReached]

@[simp] theorem execSysrstN_fixed (widthNs s) : Keeps s (execSysrstN widthNs s) := by simp [execSysrstN]
@[simp] theorem criticalFailure_fixed (s block) : (criticalFailure s block).fixed = s.fixed := by simp [criticalFailure]
@[simp] theorem measureBank_fixed (mvs s b) : (measureBank mvs s b).fixed = s.fixed := by simp [measureBank]
@[simp] theorem execFuseLoadDone_fixed (critical vccioMv s) : Keeps s (execFuseLoadDone critical vccioMv s) := by simp [execFuseLoadDone]
@[simp] theorem execBistStart_fixed (refPpm s) : Keeps s (execBistStart refPpm s) := by simp [execBistStart]
@[simp] theorem execBistWaitTick_fixed (refPpm s) : Keeps s (execBistWaitTick refPpm s) := by simp [execBistWaitTick]
@[simp] theorem noteBist_fixed (s) : (noteBist s).fixed = s.fixed := by simp [noteBist]
@[simp] theorem execBistDone_fixed (critical fails s) : Keeps s (execBistDone critical fails s) := by simp [execBistDone]
@[simp] theorem execRepairDone_fixed (s) : Keeps s (execRepairDone s) := by simp [execRepairDone]
@[simp] theorem trainStack_fixed (s m init) : (trainStack s m init).fixed = s.fixed := by simp [trainStack]
@[simp] theorem forgetDram_fixed (s) : (forgetDram s).fixed = s.fixed := by simp [forgetDram]
@[simp] theorem trainDram_fixed (s) : (trainDram s).fixed = s.fixed := by simp [trainDram]

@[simp] theorem execCalibrationDone_fixed (runs flashAnswers octal flashId dir0 dir1 s) :
    Keeps s (execCalibrationDone runs flashAnswers octal flashId dir0 dir1 s) := by simp [execCalibrationDone]

@[simp] theorem returnDefaults_fixed (s) : (returnDefaults s).fixed = s.fixed := by simp [returnDefaults]
@[simp] theorem execStartupVerifyDone_fixed (cells s) : Keeps s (execStartupVerifyDone cells s) := by simp [execStartupVerifyDone]
@[simp] theorem execLoadPhaseEnd_fixed (s) : Keeps s (execLoadPhaseEnd s) := by simp [execLoadPhaseEnd]
@[simp] theorem disbandAtActivation_fixed (s t) : (disbandAtActivation s t).fixed = s.fixed := by simp [disbandAtActivation]

@[simp] theorem activateTeam_fixed (s t) : (activateTeam s t).fixed = s.fixed := by
  unfold activateTeam
  split <;> simp

@[simp] theorem activateSector_fixed (s g) : (activateSector s g).fixed = s.fixed := by simp [activateSector]
@[simp] theorem execActivation_fixed (s) : Keeps s (execActivation s) := by simp [execActivation]
@[simp] theorem enterRun_fixed (s) : (enterRun s).fixed = s.fixed := by simp [enterRun]

@[simp] theorem takeStep_fixed (s k) {act : State → State} (h : ∀ s, (act s).fixed = s.fixed) : (takeStep s k act).fixed = s.fixed := by
  simp [takeStep, h]

@[simp] theorem actHostFeed_fixed : actHostFeed.Fixed := ⟨fun _ _ _ _ => by simp [actHostFeed], fun _ _ _ => rfl⟩
@[simp] theorem setLib_fixed (s n x) : (setLib s n x).fixed = s.fixed := by simp [setLib]
@[simp] theorem copyFailed_fixed (s n) : (copyFailed s n).fixed = s.fixed := by simp [copyFailed]

@[simp] theorem copyImage_fixed (s img) : (copyImage s img).fixed = s.fixed := by
  unfold copyImage
  dsimp only
  repeat' split
  all_goals simp

@[simp] theorem execLibraryCopy_fixed (images s) : Keeps s (execLibraryCopy images s) := by simp [execLibraryCopy]
@[simp] theorem execLibraryCopyDone_fixed (failed s) : Keeps s (execLibraryCopyDone failed s) := by simp [execLibraryCopyDone]
@[simp] theorem actLibArea_fixed (size) : (actLibArea size).Fixed := ⟨fun _ _ _ _ => rfl, fun _ _ _ => rfl⟩
@[simp] theorem actWriteEntry_fixed : actWriteEntry.Fixed := ⟨fun _ _ _ _ => by simp [actWriteEntry], fun _ _ _ => rfl⟩
@[simp] theorem actWriteData_fixed : actWriteData.Fixed := ⟨fun _ _ _ _ => by simp [actWriteData], fun _ _ _ => rfl⟩
@[simp] theorem actLoadEntry_fixed : actLoadEntry.Fixed := ⟨fun _ _ _ _ => rfl, fun _ _ _ => rfl⟩

@[simp] theorem execLoadStart_fixed (s) : Keeps s (execLoadStart s) := by
  unfold execLoadStart
  split <;> simp

@[simp] theorem actLoadCancel_fixed : actLoadCancel.Fixed := ⟨fun _ _ _ _ => by simp [actLoadCancel], fun _ _ _ => rfl⟩

/-! #### The device chain (R347 to R351) -/

@[simp] theorem noteDevice_fixed (s pos) : (noteDevice s pos).fixed = s.fixed := by simp [noteDevice]
@[simp] theorem sendPosition_fixed (s) : (sendPosition s).fixed = s.fixed := by simp [sendPosition]
@[simp] theorem execPosition_fixed (f pos s) : Keeps s (execPosition f pos s) := by simp [execPosition]
@[simp] theorem execStream_fixed (f bytes s) : Keeps s (execStream f bytes s) := by simp [execStream]

@[simp] theorem execReport_fixed (f pos flags failReason status s) : Keeps s (execReport f pos flags failReason status s) := by
  simp [execReport]

@[simp] theorem execReportTimeout_fixed (s) : Keeps s (execReportTimeout s) := by simp [execReportTimeout]
@[simp] theorem execGo_fixed (f countdown s) : Keeps s (execGo f countdown s) := by simp [execGo]
@[simp] theorem actForceGo_fixed : actForceGo.Fixed := ⟨fun _ _ _ _ => by simp [actForceGo], fun _ _ _ => rfl⟩

@[simp] theorem execGoWaitTimeout_fixed (s) : Keeps s (execGoWaitTimeout s) := by
  unfold execGoWaitTimeout
  split <;> simp

@[simp] theorem execDelayResp_fixed (f t1 t2 t3 t4 s) : Keeps s (execDelayResp f t1 t2 t3 t4 s) := by simp [execDelayResp]
@[simp] theorem pushResponse_fixed (s msg) : (pushResponse s msg).fixed = s.fixed := by simp [pushResponse]

@[simp] theorem remoteReply_fixed (s src op tag len status data) : (remoteReply s src op tag len status data).fixed = s.fixed := by
  simp [remoteReply]

@[simp] theorem execRemoteReq_fixed (f message s) : Keeps s (execRemoteReq f message s) := by simp [execRemoteReq]

@[simp] theorem execRemoteResp_fixed (f message s) : Keeps s (execRemoteResp f message s) :=
  hitchFrame_fixed _ _ _ _ fun s => by
    dsimp only
    split <;> simp

@[simp] theorem execRemoteRequestPush_fixed (s) : Keeps s (execRemoteRequestPush s) := by simp [execRemoteRequestPush]

@[simp] theorem execRemoteTimeout_fixed (tag s) : Keeps s (execRemoteTimeout tag s) := by
  unfold execRemoteTimeout
  dsimp only
  repeat' split
  all_goals simp

@[simp] theorem linkUp_fixed (s up) : (linkUp s up).fixed = s.fixed := by simp [linkUp]
@[simp] theorem execLaneActive_fixed (l slow s) : Keeps s (execLaneActive l slow s) := by simp [execLaneActive]

/-! #### The integrity services (11) -/

@[simp] theorem scrubTo_fixed (s ch p) : (scrubTo s ch p).fixed = s.fixed := by simp [scrubTo]
@[simp] theorem beginPass_fixed (s) : (beginPass s).fixed = s.fixed := by simp [beginPass]
@[simp] theorem endPass_fixed (s) : (endPass s).fixed = s.fixed := by simp [endPass]
@[simp] theorem scrubAdvance_fixed (s ch) : (scrubAdvance s ch).fixed = s.fixed := by simp [scrubAdvance]
@[simp] theorem maintTransfer_fixed (s ch) : (maintTransfer s ch).fixed = s.fixed := by simp [maintTransfer]

@[simp] theorem watchLine_fixed (s ch phys a) : (watchLine s ch phys a).fixed = s.fixed := by
  unfold watchLine
  dsimp only
  split <;> simp

/-- Unfolded as a function, not at its arguments: the kernel would compute the place of the line to compare the match on it with itself. -/
@[simp] theorem scrubWrite_fixed (s ch data verifyErrs spareErrs) : (scrubWrite s ch data verifyErrs spareErrs).fixed = s.fixed := by
  have key : ∀ write, write = scrubWrite → (write s ch data verifyErrs spareErrs).fixed = s.fixed := by
    intro write hw
    delta scrubWrite at hw
    rw [hw]
    beta_reduce
    extract_lets c a sl s1
    have h1 : s1.fixed = s.fixed := by simp [s1]
    clear_value s1
    split
    · exact h1
    · split <;> simp [h1]
  exact key _ rfl

@[simp] theorem scrubOutcome_fixed (s ch phys a spare symbols verifyErrs spareErrs) :
    (scrubOutcome s ch phys a spare symbols verifyErrs spareErrs).fixed = s.fixed := by
  unfold scrubOutcome
  dsimp only
  split <;> simp

@[simp] theorem scrubFallback_fixed (s sub) : (scrubFallback s sub).fixed = s.fixed := by simp [scrubFallback]
@[simp] theorem useScrub_fixed (s) : (useScrub s).fixed = s.fixed := by simp [useScrub]

/-- Unfolded as scrubWrite is, the checks taken one by one. -/
@[simp] theorem execScrubRead_fixed (channel symbols verifyErrs spareErrs s) : Keeps s (execScrubRead channel symbols verifyErrs spareErrs s) := by
  have key : ∀ read, read = execScrubRead → Keeps s (read channel symbols verifyErrs spareErrs s) := by
    intro read hr
    delta execScrubRead at hr
    rw [hr]
    beta_reduce
    extract_lets +onlyGivenNames s0 ch
    refine keeps_of_ite (fun _ => by simp [s0]) fun _ => ?_
    extract_lets +onlyGivenNames s1 s2 c
    have h2 : s2.fixed = s.fixed := by simp [s2, s1, s0]
    clear_value s2
    refine keeps_of_ite (fun _ => h2) fun _ => ?_
    refine keeps_of_ite (fun _ => by simp [h2]) fun _ => ?_
    refine keeps_of_ite (fun _ => h2) fun _ => ?_
    extract_lets +onlyGivenNames p s3
    have h3 : s3.fixed = s.fixed := by simp [s3, h2]
    clear_value s3
    split <;> simp [h3]
  exact key _ rfl

@[simp] theorem execScrubWritebackTimeout_fixed (channel s) : Keeps s (execScrubWritebackTimeout channel s) := by
  unfold execScrubWritebackTimeout
  split <;> simp

@[simp] theorem execScrubPassLate_fixed (channel s) : Keeps s (execScrubPassLate channel s) := by simp [execScrubPassLate]
@[simp] theorem upsetObj_fixed (s idx sub m) : (upsetObj s idx sub m).fixed = s.fixed := by simp [upsetObj]

@[simp] theorem strike_fixed (s p m) : (strike s p m).fixed = s.fixed := by
  unfold strike
  split <;> simp

@[simp] theorem objFallback_fixed (s idx sub) : (objFallback s idx sub).fixed = s.fixed := by simp [objFallback]
@[simp] theorem checkRoot_fixed (s r) : (checkRoot s r).fixed = s.fixed := by simp [checkRoot]

@[simp] theorem checkTable_fixed (s) : (checkTable s).fixed = s.fixed := by
  unfold checkTable
  dsimp only
  repeat' split
  all_goals simp

@[simp] theorem dropPairFaults_fixed (s) : (dropPairFaults s).fixed = s.fixed := by simp [dropPairFaults]

@[simp] theorem execComplementCheck_fixed (upset s) : Keeps s (execComplementCheck upset s) := by
  unfold execComplementCheck
  split <;> simp

@[simp] theorem actClearCounts_fixed : actClearCounts.Fixed := ⟨fun _ _ _ _ => by simp [actClearCounts], fun _ _ _ => rfl⟩

@[simp] theorem verifyEnded_fixed (s) : (verifyEnded s).fixed = s.fixed := by
  unfold verifyEnded
  dsimp only
  repeat' split
  all_goals simp

@[simp] theorem actVerify_fixed : actVerify.Fixed := ⟨fun _ _ _ _ => by simp [actVerify], fun _ _ _ => rfl⟩
@[simp] theorem execVerifyRound_fixed (s) : Keeps s (execVerifyRound s) := by simp [execVerifyRound]

@[simp] theorem planeMismatch_fixed (s g p) : (planeMismatch s g p).fixed = s.fixed := by
  unfold planeMismatch
  dsimp only
  repeat' split
  all_goals simp

@[simp] theorem execVerifySectorPlaneDone_fixed (cellFault s) : Keeps s (execVerifySectorPlaneDone cellFault s) := by
  unfold execVerifySectorPlaneDone
  split <;> simp

/-! #### Stake monitors, tests and JTAG (17) -/

@[simp] theorem replaceVia_fixed (g s via) : (replaceVia g s via).fixed = s.fixed := by simp [replaceVia]
@[simp] theorem execStakeMonitorError_fixed (g vias s) : Keeps s (execStakeMonitorError g vias s) := by simp [execStakeMonitorError]
@[simp] theorem actShift_fixed : actShift.Fixed := ⟨fun _ _ _ _ => rfl, fun _ _ _ => rfl⟩

@[simp] theorem execRowShiftDone_fixed (s) : Keeps s (execRowShiftDone s) := by
  unfold execRowShiftDone
  split <;> simp

@[simp] theorem recalibrate_fixed (s runs trigger) : (recalibrate s runs trigger).fixed = s.fixed := by simp [recalibrate]
@[simp] theorem actCalibrate_fixed (runs) : (actCalibrate runs).Fixed := ⟨fun _ _ _ _ => by simp [actCalibrate], fun _ _ _ => rfl⟩

@[simp] theorem testBegins_fixed (s kind target) : (testBegins s kind target).fixed = s.fixed := by
  unfold testBegins
  split <;> simp

@[simp] theorem actTestRun_fixed : actTestRun.Fixed := ⟨fun _ _ _ _ => by simp [actTestRun], fun _ _ _ => by simp [actTestRun]⟩
@[simp] theorem testEnds_fixed (s kind target) : (testEnds s kind target).fixed = s.fixed := by simp [testEnds]
@[simp] theorem execTestComplete_fixed (fails s) : Keeps s (execTestComplete fails s) := by simp [execTestComplete]
@[simp] theorem actJtagOpen_fixed : actJtagOpen.Fixed := ⟨fun _ _ _ _ => by simp [actJtagOpen], fun _ _ _ => rfl⟩
@[simp] theorem actLock_fixed : actLock.Fixed := ⟨fun _ _ _ _ => rfl, fun _ _ _ => rfl⟩
@[simp] theorem execSamplePreload_fixed (preload s) : Keeps s (execSamplePreload preload s) := by simp [execSamplePreload]
@[simp] theorem execDebug_fixed (write addr len data s) : Keeps s (execDebug write addr len data s) := by simp [execDebug]
@[simp] theorem execDieSelect_fixed (die s) : Keeps s (execDieSelect die s) := by simp [execDieSelect]

/-! #### Observation (18) -/

@[simp] theorem actCounterConfig_fixed : actCounterConfig.Fixed := ⟨fun _ _ _ _ => rfl, fun _ _ _ => rfl⟩
@[simp] theorem clearCounter_fixed (s k) : (clearCounter s k).fixed = s.fixed := by simp [clearCounter]
@[simp] theorem actCounterClear_fixed : actCounterClear.Fixed := ⟨fun _ _ _ _ => by simp [actCounterClear], fun _ _ _ => rfl⟩

@[simp] theorem execCounterMilestone_fixed (block counter s) : Keeps s (execCounterMilestone block counter s) := by
  unfold execCounterMilestone
  dsimp only
  split <;> simp

@[simp] theorem snapshotAt_fixed (s t) : (snapshotAt s t).fixed = s.fixed := by simp [snapshotAt]
@[simp] theorem execTallySnapshot_fixed (s) : Keeps s (execTallySnapshot s) := by simp [execTallySnapshot]
@[simp] theorem actSnapshot_fixed : actSnapshot.Fixed := ⟨fun _ _ _ _ => by simp [actSnapshot], fun _ _ _ => rfl⟩

@[simp] theorem writeCopy_fixed (dest fuel off data s) : (writeCopy dest fuel off data s).fixed = s.fixed := by
  induction fuel generalizing off data s with
  | zero => rfl
  | succ fuel ih => simp [writeCopy, ih]

@[simp] theorem execSnapshotReadDone_fixed (s) : Keeps s (execSnapshotReadDone s) := by
  unfold execSnapshotReadDone
  split <;> simp

@[simp] theorem actTallyList_fixed : actTallyList.Fixed := ⟨fun _ _ _ _ => rfl, fun _ _ _ => rfl⟩
@[simp] theorem actTallyTime_fixed : actTallyTime.Fixed := ⟨fun _ _ _ _ => rfl, fun _ _ _ => rfl⟩
@[simp] theorem actTallyDest_fixed : actTallyDest.Fixed := ⟨fun _ _ _ _ => rfl, fun _ _ _ => rfl⟩
@[simp] theorem actSampleClear_fixed : actSampleClear.Fixed := ⟨fun _ _ _ _ => rfl, fun _ _ _ => rfl⟩
@[simp] theorem actSample_fixed (sub) : (actSample sub).Fixed := ⟨fun _ _ _ _ => rfl, fun _ _ _ => rfl⟩
@[simp] theorem updMon_fixed (s n f) : (updMon s n f).fixed = s.fixed := by simp [updMon]
@[simp] theorem actMonitor_fixed (n) : (actMonitor n).Fixed := ⟨fun _ _ _ _ => rfl, fun _ _ _ => rfl⟩
@[simp] theorem actMonSetting_fixed (n sub) : (actMonSetting n sub).Fixed := ⟨fun _ _ _ _ => rfl, fun _ _ _ => rfl⟩
@[simp] theorem monitorTake_fixed (s n v) : (monitorTake s n v).fixed = s.fixed := by simp [monitorTake]
@[simp] theorem execMonitorSample_fixed (n level s) : Keeps s (execMonitorSample n level s) := by simp [execMonitorSample]
@[simp] theorem actTmux_fixed : actTmux.Fixed := ⟨fun _ _ _ _ => rfl, fun _ _ _ => rfl⟩

end Sys2Proof.Machine
end

section
/-! PROOFS. A command takes no time, and the idle step is one period of the root clock (log entry 1, R180, R531). -/

namespace Sys2Proof.Machine

/-! #### Reading an object -/

theorem readFault_fixed (s idx sub) : ∀ t, readFault s idx sub = some t → t.fixed = s.fixed := by
  unfold readFault
  repeat' split
  all_goals simp

@[simp] theorem dictRead_fixed (s who q) : (dictRead s who q).1.fixed = s.fixed := by
  unfold dictRead
  dsimp only
  split
  · rfl
  · split
    · rfl
    · split
      · rfl
      · split
        · next h => exact readFault_fixed _ _ _ _ h
        · rfl

/-! #### Packets at their targets and initiators (08) -/

@[simp] theorem panCycle_fixed (s init off len) : (panCycle s init off len).fixed = s.fixed := by simp [panCycle]
@[simp] theorem windowCycle_fixed (s n off p) : (windowCycle s n off p).fixed = s.fixed := by simp [windowCycle]
@[simp] theorem panServe_fixed (s p off err) : (panServe s p off err).fixed = s.fixed := by simp [panServe]

theorem portServe_fixed (s p g c off) : ∀ t, portServe s p g c off = some t → t.fixed = s.fixed := by
  unfold portServe
  repeat' split
  all_goals simp

@[simp] theorem serviceServe_fixed (s p off) : (serviceServe s p off).fixed = s.fixed := by
  unfold serviceServe
  dsimp only
  repeat' split
  · simp
  · simp
  · next h => simp [readFault_fixed _ _ _ _ h]
  all_goals simp

theorem serveRequest_fixed (s p tag err) : ∀ t, serveRequest s p tag err = some t → t.fixed = s.fixed := by
  unfold serveRequest
  dsimp only
  repeat' split
  case h_5 => exact portServe_fixed _ _ _ _ _
  all_goals simp

theorem takePacket_fixed {s t : State} {k kind p} (h : takePacket s k kind = some (p, t)) : t.fixed = s.fixed := by
  revert h
  unfold takePacket
  repeat' split
  all_goals simp
  rintro rfl rfl
  simp

@[simp] theorem requestArrives_fixed (s k kind link tag err) : (requestArrives s k kind link tag err).fixed = s.fixed := by
  unfold requestArrives
  split
  · rfl
  · rename_i p s1 h
    have h1 := takePacket_fixed h
    split
    · simp [h1]
    · simp [h1]
    · exact getD_fixed fun t ht => (serveRequest_fixed _ _ _ _ _ ht).trans (by simp [h1])
    · exact getD_fixed fun t ht => (serveRequest_fixed _ _ _ _ _ ht).trans h1

@[simp] theorem tallyAnswer_fixed (s p status) : (tallyAnswer s p status).fixed = s.fixed := by simp [tallyAnswer]

@[simp] theorem deliver_fixed (s p status data) : (deliver s p status data).fixed = s.fixed := by
  unfold deliver
  split <;> simp

@[simp] theorem finish_fixed (s p status outcome data) : (finish s p status outcome data).fixed = s.fixed := by simp [finish]

@[simp] theorem responseTaken_fixed (s r status) : (responseTaken s r status).fixed = s.fixed := by
  unfold responseTaken
  split <;> simp

@[simp] theorem responseArrives_fixed (s k kind link) : (responseArrives s k kind link).fixed = s.fixed := by
  unfold responseArrives
  split
  · rfl
  · rename_i h
    rw [← takePacket_fixed h]
    split <;> simp

@[simp] theorem execResponseTimeout_fixed (k s) : Keeps s (execResponseTimeout k s) := by
  unfold execResponseTimeout
  split <;> simp

/-! #### What a write of each object means -/

@[simp] theorem actLevelKey_fixed (n) : (actLevelKey n).Fixed := by
  refine ⟨fun s who old new => ?_, fun _ _ _ => rfl⟩
  dsimp only [actLevelKey]
  split <;> simp

@[simp] theorem actLevelEnable_fixed : actLevelEnable.Fixed := ⟨fun _ _ _ _ => by simp [actLevelEnable], fun _ _ _ => rfl⟩
@[simp] theorem closeDue_fixed (s) : (closeDue s).fixed = s.fixed := by simp [closeDue]
@[simp] theorem actCanEnable_fixed : actCanEnable.Fixed := ⟨fun _ _ _ _ => by simp [actCanEnable], fun _ _ _ => rfl⟩
@[simp] theorem actCanRate_fixed (sub) : (actCanRate sub).Fixed := ⟨fun _ _ _ _ => rfl, fun _ _ _ => rfl⟩
@[simp] theorem actGateList_fixed : actGateList.Fixed := ⟨fun _ _ _ _ => rfl, fun _ _ _ => rfl⟩
@[simp] theorem actMap_fixed (idx sub) : (actMap idx sub).Fixed := ⟨fun _ _ _ _ => rfl, fun _ _ _ => rfl⟩
@[simp] theorem actPdEnable_fixed : actPdEnable.Fixed := ⟨fun _ _ _ _ => by simp [actPdEnable], fun _ _ _ => rfl⟩
@[simp] theorem actPdCycle_fixed : actPdCycle.Fixed := ⟨fun _ _ _ _ => rfl, fun _ _ _ => rfl⟩
@[simp] theorem actPdOffset_fixed : actPdOffset.Fixed := ⟨fun _ _ _ _ => rfl, fun _ _ _ => rfl⟩
@[simp] theorem actCaptureSetting_fixed : actCaptureSetting.Fixed := ⟨fun _ _ _ _ => rfl, fun _ _ _ => rfl⟩
@[simp] theorem actChainSync_fixed : actChainSync.Fixed := ⟨fun _ _ _ _ => by simp [actChainSync], fun _ _ _ => rfl⟩
@[simp] theorem actTimeCfg_fixed : actTimeCfg.Fixed := ⟨fun _ _ _ _ => by simp [actTimeCfg], fun _ _ _ => rfl⟩
@[simp] theorem actAuditSelect_fixed : actAuditSelect.Fixed := ⟨fun _ _ _ _ => rfl, fun _ _ _ => rfl⟩

/-- Each action of the tables of objects. -/
theorem actRows_fixed (idx sub) : ∀ r ∈ actRows1 ++ actRows2 ++ actRows3 ++ actRows4, (r.act idx sub).Fixed := by
  simp [actRows1, actRows2, actRows3, actRows4]

@[simp] theorem actionOf_fixed (idx sub) : (actionOf idx sub).Fixed := by
  unfold actionOf
  split
  · next h => exact actRows_fixed _ _ _ (List.mem_of_find?_eq_some h)
  · exact Action.fixed_default

/-! #### The dictionary engine (02) -/

@[simp] theorem plainReply_fixed (s svc e payload) : (plainReply s svc e payload).fixed = s.fixed := by simp [plainReply]
@[simp] theorem tookFrame_fixed (s e) : (tookFrame s e).fixed = s.fixed := by simp [tookFrame]

@[simp] theorem execOpenSession_fixed (e level options nonce s) : Keeps s (execOpenSession e level options nonce s) := by
  unfold execOpenSession
  dsimp only
  repeat' split
  all_goals simp

@[simp] theorem authFailed_fixed (s level h) : (authFailed s level h).fixed = s.fixed := by simp [authFailed]
@[simp] theorem openNow_fixed (s e n x right) : (openNow s e n x right).fixed = s.fixed := by simp [openNow]

@[simp] theorem answerChallenge_fixed (s e n x hmac sealedHmac) : (answerChallenge s e n x hmac sealedHmac).fixed = s.fixed := by
  simp [answerChallenge]

@[simp] theorem execResponse_fixed (e hmac sealedHmac s) : Keeps s (execResponse e hmac sealedHmac s) := by
  unfold execResponse
  dsimp only
  repeat' split
  · simp
  · simp
  · simp
  · simp
  · simp
  · next hr => exact receive_drop_fixed hr
  · next hr => simp [receive_refuse_fixed hr]
  · next hr => simp [receive_go_fixed hr]

@[simp] theorem execLevelLockExpiry_fixed (level s) : Keeps s (execLevelLockExpiry level s) := by simp [execLevelLockExpiry]

@[simp] theorem statusOnly_fixed (svc e payload s) {act : State → Fin 16 → State} (h : ∀ s n, (act s n).fixed = s.fixed) :
    (statusOnly svc e payload act s).fixed = s.fixed := by
  unfold statusOnly
  split
  · simp
  · split
    case h_1 hr => exact receive_drop_fixed hr
    case h_2 hr => simp [receive_refuse_fixed hr]
    case h_3 hr => simp [h, receive_go_fixed hr]
    case h_4 hr => exact receive_go_fixed hr

@[simp] theorem execIdleTimeout_fixed (n s) : Keeps s (execIdleTimeout n s) := by simp [execIdleTimeout]

@[simp] theorem tapRequest_fixed (s who r paired) : (tapRequest s who r paired).1.fixed = s.fixed := by
  unfold tapRequest
  split <;> simp

@[simp] theorem execTapForward_fixed (tap s) : Keeps s (execTapForward tap s) := by
  unfold execTapForward
  split <;> simp

@[simp] theorem execTapAnswer_fixed (tap late status data s) : Keeps s (execTapAnswer tap late status data s) := by
  unfold execTapAnswer
  dsimp only
  repeat' split
  all_goals simp

@[simp] theorem execTapTimeout_fixed (tap s) : Keeps s (execTapTimeout tap s) := by
  unfold execTapTimeout
  split <;> simp

@[simp] theorem execRead_fixed (e r s) : Keeps s (execRead e r s) := by
  unfold execRead
  dsimp only
  split
  · next hr => exact receive_drop_fixed hr
  · next hr => simp [receive_refuse_fixed hr]
  · next hr =>
    have hs := receive_go_fixed hr
    repeat' split
    · simp [hs]
    · exact hs
    · next ht => exact (fixed_of_fst ht (tapRequest_fixed _ _ _ _)).trans hs
    · next ht => simp [fixed_of_fst ht (tapRequest_fixed _ _ _ _), hs]
    · simp [hs]

@[simp] theorem tapWrite_fixed (e paired w s) : (tapWrite e paired w s).fixed = s.fixed := by
  unfold tapWrite
  dsimp only
  split
  · next hr => exact receive_drop_fixed hr
  · next hr => simp [receive_refuse_fixed hr]
  · next hr =>
    have hs := receive_go_fixed hr
    split
    · simp [hs]
    · split
      · next ht => exact (fixed_of_fst ht (tapRequest_fixed _ _ _ _)).trans hs
      · next ht => simp [fixed_of_fst ht (tapRequest_fixed _ _ _ _), hs]

@[simp] theorem anyWrite_fixed (e paired w s) : (anyWrite e paired w s).fixed = s.fixed := by simp [anyWrite]

@[simp] theorem execGateListTakesEffect_fixed (s) : Keeps s (execGateListTakesEffect s) := by
  unfold execGateListTakesEffect
  split <;> simp

@[simp] theorem endTransfer_fixed (s t) : (endTransfer s t).fixed = s.fixed := by simp [endTransfer]
@[simp] theorem commitTransfer_fixed (s t v) : (commitTransfer s t v).1.fixed = s.fixed := by simp [commitTransfer]

@[simp] theorem takeSegment_fixed (s t flagged last offset data) : (takeSegment s t flagged last offset data).1.fixed = s.fixed := by
  simp [takeSegment, (actionOf_fixed _ _).late_fixed]

@[simp] theorem execSegment_fixed (e offset data s) : Keeps s (execSegment e offset data s) := by
  unfold execSegment
  dsimp only
  split
  · next hr => exact receive_drop_fixed hr
  · next hr => simp [receive_refuse_fixed hr]
  · next hr =>
    have hs := receive_go_fixed hr
    repeat' split
    all_goals simp [hs]

@[simp] theorem execSegmentTimeout_fixed (n transfer s) : Keeps s (execSegmentTimeout n transfer s) := by
  unfold execSegmentTimeout
  split <;> simp

@[simp] theorem execAbort_fixed (e code s) : Keeps s (execAbort e code s) := by
  unfold execAbort
  split
  · next hr => exact receive_drop_fixed hr
  · next hr => exact receive_refuse_fixed hr
  · next hr => simp [receive_go_fixed hr]

@[simp] theorem execUnknownService_fixed (e service payload s) : Keeps s (execUnknownService e service payload s) := by
  simp [execUnknownService]

@[simp] theorem canRead_fixed (s node r) : (canRead s node r).fixed = s.fixed := by
  unfold canRead
  dsimp only
  split
  · split
    · next ht => exact fixed_of_fst ht (tapRequest_fixed _ _ _ _)
    · next ht => simp [fixed_of_fst ht (tapRequest_fixed _ _ _ _)]
  · simp

@[simp] theorem canWrite_fixed (s node r) : (canWrite s node r).fixed = s.fixed := by
  unfold canWrite
  dsimp only
  split
  · split
    · next ht => exact fixed_of_fst ht (tapRequest_fixed _ _ _ _)
    · next ht => simp [fixed_of_fst ht (tapRequest_fixed _ _ _ _)]
  · simp

@[simp] theorem canBegin_fixed (s node r) : (canBegin s node r).fixed = s.fixed := by
  unfold canBegin
  dsimp only
  repeat' split
  all_goals simp [(actionOf_fixed _ _).late_fixed]

@[simp] theorem canSegment_fixed (s node r last) : (canSegment s node r last).fixed = s.fixed := by
  unfold canSegment
  dsimp only
  split
  · simp
  · split
    · split
      · next ht => simpa using fixed_of_fst ht (tapRequest_fixed _ _ _ _)
      · next ht => simp [fixed_of_fst ht (tapRequest_fixed _ _ _ _)]
    · simp

@[simp] theorem execUsdoRequest_fixed (node r s) : Keeps s (execUsdoRequest node r s) := by
  unfold execUsdoRequest
  dsimp only
  repeat' split
  all_goals simp

@[simp] theorem execCanBusOff_fixed (state tec recv s) : Keeps s (execCanBusOff state tec recv s) := by simp [execCanBusOff]

@[simp] theorem execProcessData_fixed (port srcMac rtag cycle status image mac s) :
    Keeps s (execProcessData port srcMac rtag cycle status image mac s) := by simp [execProcessData]

@[simp] theorem applyEntry_fixed (s v bs) : (applyEntry s v bs).fixed = s.fixed := by simp [applyEntry]

@[simp] theorem applyEntries_fixed (image vs off s) : (applyEntries image vs off s).fixed = s.fixed := by
  induction vs generalizing off s with
  | nil => rfl
  | cons v vs ih => simp [applyEntries, ih]

@[simp] theorem execRxImageApply_fixed (s) : Keeps s (execRxImageApply s) := by
  unfold execRxImageApply
  dsimp only
  repeat' split
  all_goals simp

@[simp] theorem execPdReceiveFault_fixed (s) : Keeps s (execPdReceiveFault s) := by simp [execPdReceiveFault]

@[simp] theorem sampleEntry_fixed (taps s v) : (sampleEntry taps s v).1.fixed = s.fixed := by
  unfold sampleEntry
  dsimp only
  split
  · split <;> simp
  · simp [getD_fixed (readFault_fixed _ _ _)]

@[simp] theorem sampleEntries_fixed (taps vs s) : (sampleEntries taps vs s).1.fixed = s.fixed := by
  induction vs generalizing s with
  | nil => rfl
  | cons v vs ih => simp [sampleEntries, ih]

@[simp] theorem execTxImageSample_fixed (taps s) : Keeps s (execTxImageSample taps s) := by simp [execTxImageSample]

@[simp] theorem defaultWrite_fixed (s d) : (defaultWrite s d).1.fixed = s.fixed := by
  unfold defaultWrite
  dsimp only
  split
  · rfl
  · split
    · split
      · next ht => exact fixed_of_fst ht (tapRequest_fixed _ _ _ _)
      · next ht => exact fixed_of_fst ht (tapRequest_fixed _ _ _ _)
    · simp

@[simp] theorem execSetObjectDefault_fixed (s) : Keeps s (execSetObjectDefault s) := by simp [execSetObjectDefault]

/-! #### Edges of the fabric clocks and the switch edge (03 to 05) -/

@[simp] theorem cellsEdge_fixed (s n rising gs) : (cellsEdge s n rising gs).fixed = s.fixed := by simp [cellsEdge]
@[simp] theorem takePortEdge_fixed (s g c) : (takePortEdge s g c).fixed = s.fixed := by simp [takePortEdge]

@[simp] theorem unitEdge_fixed (ev n s kv) : (unitEdge ev n s kv).fixed = s.fixed := by
  unfold unitEdge
  dsimp only
  repeat' split
  all_goals simp

@[simp] theorem unitsEdge_fixed (s n gs) : (unitsEdge s n gs).fixed = s.fixed := by simp [unitsEdge]
@[simp] theorem settleFf_fixed (rose now before s t c i) : (settleFf rose now before s t c i).fixed = s.fixed := by simp [settleFf]
@[simp] theorem settleHalf_fixed (now before s x) : (settleHalf now before s x).fixed = s.fixed := by simp [settleHalf]

@[simp] theorem settle_fixed (fuel s) : (settle fuel s).fixed = s.fixed := by
  induction fuel generalizing s with
  | zero => rfl
  | succ fuel ih => simp [settle, ih]

@[simp] theorem execFabricClockEdge_fixed (clk s) : Keeps s (execFabricClockEdge clk s) := by simp [execFabricClockEdge]

@[simp] theorem execBlockmemPortAccess_fixed (u a b unordered flips s) : Keeps s (execBlockmemPortAccess u a b unordered flips s) := by
  simp [execBlockmemPortAccess]

@[simp] theorem lastEdges_fixed (s ms) : (lastEdges s ms).fixed = s.fixed := by simp [lastEdges]
@[simp] theorem performSwitch_fixed (s t q trigger r) : (performSwitch s t q trigger r).fixed = s.fixed := by simp [performSwitch]

@[simp] theorem execSwitchEdge_fixed (team s) : Keeps s (execSwitchEdge team s) := by
  unfold execSwitchEdge
  dsimp only
  repeat' split
  all_goals simp

/-! #### A command takes no time -/

/-- Every row: by its own lemma, or, where it is one write of an object or another operation or two, by theirs. -/
theorem exec_fixed (c : Instr) (s : State) : Keeps s (exec c s) := by
  cases c <;> simp [exec,
    execAck, execArithAccumulate, execFqueueUpdate, execFabMemReadCommand, execFabFclkWrite, execFclkDivisorChange, execSwitchAtTime,
    execStagePlane, execUnstage, execCancelPendingSwitch, execFallBackNow, execReleaseHold, execFallbackTrigger, execTeamMembersWrite,
    execTeamSettingWrite, execPlaneClear, execCaptureArm, execCaptureDisarm, execCaptureRelease, execReservationWrite,
    execStatClearSelected, execStatClearAll, execBankClearingDone, execPanWindowEnable, execPanConflictClear, execWaleFlush,
    execWaleInvalidate, execMoverDoorbell, execMoverStart, execMoverStop, execTimeSet, execIoPinWrite, execInputDrain, execDrainRetry,
    execIoBankStart, execIoBankStop, execLaneStart, execLaneStop, execLaneReceiverDetected, execLaneRetryTimer, execLockLost,
    execNeighbourRefresh, execActivateTableClear, execRetire, execRetrain, execSparesWrite, execKeyUnwrapEfuse, execKeyUnwrapBbram,
    execKeyGenerate, execKeyClear, execRegionEnable, execRegionEnableInitialise, execRegionDisable, execSealParamWrite, execSealKey,
    execSealProvision, execSealCommand, execWriteFrames, execKeyRoll, execEfuseKeyWrite, execBbramKeyWrite, execBbramErase,
    execFuseLockPlain, execFuseLockEfuseOnly, execOwnershipWrite, execOwnerKeyWrite, execAckAlarm, execChronicleEnable, execModeRun,
    execModeHold, execModeStable, execModeService, execOrderlyStop, execResume, execRestart, execWakeN, execWakeTime,
    execGaitFloorWrite, execOrderlyStopDrainStep, execOrderlyStopFlush, execDelayLineStep, execSysrstNRelease, execClockLock,
    execReleaseOutputs, execReleaseSetReset, execEnableWrites, execStartupOrderWrite, execHostFeedData, execLibraryAreaWrite,
    execWriteEntry, execWriteData, execLoadEntry, execCancelCurrent, execCancelAll, execChainDataTimeout, execForceGo, execDelayReq,
    execClearCounts, execVerify, execShift, execTemperatureCalibration, execCalibrateNow, execTestRunStart, execJtagOpenWrite,
    execLockCmd, execExtest, execIdcode, execExtestPulse, execExtestTrain, execBypass, execCounterConfigWrite, execCounterClearSelected,
    execCounterClearAll, execSnapshotNow, execSampleBufferClear, execMonitorStart, execMonitorStop, execMonitorClear,
    execNocReadRequest, execNocWriteRequest, execNocReadResponse, execNocWriteResponse, execOpeningTimeout, execClose, execWrite,
    execPairedWrite, execDictKeysWrite, execDictLevelEnableWrite, execCanEnable]

/-! #### The idle step (R180, R531) -/

@[simp] theorem levelTick_fixed (s later) : (levelTick s later).fixed = s.fixed ∧ (levelTick s later).time = s.time := by
  simp [levelTick]

@[simp] theorem levelTick_boot (s later) : (levelTick s later).boot = s.boot :=
  foldl_keeps State.boot (fun s k => by simp [counterAdd, apply_ite State.boot]) _ _

@[simp] theorem dueSwitches_fixed (s) : (dueSwitches s).fixed = s.fixed ∧ (dueSwitches s).time = s.time := by
  unfold dueSwitches
  simp only [grantAll_fixed, State.fixed_ite, State.fixed_mk, State.time_ite, ite_self]
  refine foldl_fixed_time _ _ fun s t => ?_
  split <;> simp

@[simp] theorem runPorts_fixed (s) : (runPorts s).fixed = s.fixed ∧ (runPorts s).time = s.time := by
  refine foldl_fixed_time _ _ fun s kv => ?_
  dsimp only
  repeat' split
  all_goals simp

@[simp] theorem deliverHeld_fixed (s) : (deliverHeld s).fixed = s.fixed ∧ (deliverHeld s).time = s.time := by
  unfold deliverHeld
  simp only [dropAbsent_fixed]
  refine foldl_fixed_time _ _ fun s p => ?_
  split <;> simp

@[simp] theorem timeEdge_fixed (s) : (timeEdge s).fixed = s.fixed := by
  simp [timeEdge]

theorem timeEdge_time_stands {s : State} (h : s.available = false ∨ s.now % 8 ≠ 0) : (timeEdge s).time = s.time := by
  simp [timeEdge, h]

theorem timeEdge_time_advances {s : State} (ha : s.available = true) (hn : s.now % 8 = 0) : (timeEdge s).time = { s.time with
    ns := BitVec.ofNat 64 ((s.time.ns.toNat * 2 ^ 32 + s.time.frac.toNat + s.time.addend.toNat) / 2 ^ 32)
    frac := BitVec.ofNat 32 (s.time.ns.toNat * 2 ^ 32 + s.time.frac.toNat + s.time.addend.toNat) } := by
  simp [timeEdge, ha, hn]

/-- The state at the end of a root period, before its edges: the period counted, and nothing of what is loaded busy. -/
def State.rootPassed (s : State) : State := { s with clk.roots := s.clk.roots + 1, fab.loadBusy := [] }

/-- The state that a tick's edges start from. -/
def State.ticked (s : State) : State := (levelTick s (s.now + 1)).rootPassed

theorem ticked_fixed (s : State) : s.ticked.fixed = (s.pending, s.clk.roots + 1) := by
  obtain ⟨hpending, hroots⟩ := Prod.mk.inj (levelTick_fixed s (s.now + 1)).1
  exact Prod.ext hpending (congrArg (· + 1) hroots)

theorem ticked_time (s : State) : s.ticked.time = s.time := (levelTick_fixed s (s.now + 1)).2

theorem ticked_now (s : State) : s.ticked.now = s.clk.roots + 1 := congrArg Prod.snd (ticked_fixed s)

theorem ticked_available (s : State) : s.ticked.available = s.available := by
  simp [State.available, State.ticked, State.rootPassed]

theorem tick_fixed (s) : (tick s).fixed = (s.pending, s.clk.roots + 1) := by
  rw [← ticked_fixed]
  simp [tick, State.ticked, State.rootPassed]

/-- Of a tick's parts only the edge of the time base's clock touches the time base. -/
theorem tick_time (s) : (tick s).time = (timeEdge s.ticked).time := by
  simp [tick, State.ticked, State.rootPassed]

/-- Settles O2: the time base's own edge, when it falls on this period, is all that moves the time base. -/
theorem idleStepIsAnEdge : Obligations.IdleStepIsAnEdge := by
  intro s hqueue
  obtain ⟨hpending, hroots⟩ := Prod.mk.inj (tick_fixed s)
  refine ⟨tick s, by rw [step, hqueue], hroots, hpending.trans hqueue, fun hstands => ?_, fun hon hedge => ?_⟩
  · rw [tick_time, timeEdge_time_stands (by rwa [ticked_available, ticked_now]), ticked_time]
  · rw [tick_time, timeEdge_time_advances (by rwa [ticked_available]) (by rwa [ticked_now]), ticked_time]

/-- Settles O6: of what a row's operations do, none touches the root clock's count. -/
theorem commandsTakeNoTime : Obligations.CommandsTakeNoTime := by
  intro c s t h
  have hkeeps : Keeps s (exec c s) := exec_fixed c s
  rw [h] at hkeeps
  exact congrArg Prod.snd hkeeps

end Sys2Proof.Machine
end

section
/-! PROOFS. The audit trail (R620): what grows, and what leaves the trail as it is, one lemma for each operation that others share, in the
model's order. Here: the trail, requests, the hitch, the fabric, teams and switches. -/

namespace Sys2Proof.Machine

/-- The audit trail, its records in the order in which they were stored. -/
def State.audit (s : State) : List AuditRec := s.sealed.audit

@[simp] theorem State.sealed_audit (s : State) : s.sealed.audit = s.audit := by rw [State.audit]

@[simp] theorem State.audit_mk (pending outs freeCtr fuses obj dict clk fab edge planes frames stage grants teams cap loader boot chain
    noc wale pan dram ecc crypt time banks pins lanes partition power board test obs) :
    (State.mk pending outs freeCtr fuses obj dict clk fab edge planes frames stage grants teams cap loader boot chain noc wale pan dram
      ecc crypt time banks pins lanes partition power board test obs).audit = partition.audit := by rw [State.audit]

@[simp] theorem State.audit_ite (c : Prop) [Decidable c] (a b : State) : (if c then a else b).audit = if c then a.audit else b.audit :=
  apply_ite _ _ _ _

@[simp] theorem fst_audit_ite {α : Type} (c : Prop) [Decidable c] (a b : State × α) :
    (if c then a else b).1.audit = if c then a.1.audit else b.1.audit := apply_ite (fun r : State × α => r.1.audit) _ _ _

@[simp] theorem foldl_audit {α : Type} {f : State → α → State} (l : List α) (s : State) (h : ∀ s x, (f s x).audit = s.audit) :
    (l.foldl f s).audit = s.audit := foldl_keeps State.audit h l s

/-- A fold that carries something beside the state. -/
@[simp] theorem foldl_fst_audit {α β : Type} {f : State × β → α → State × β} (l : List α) (r : State × β)
    (h : ∀ r x, (f r x).1.audit = r.1.audit) : (l.foldl f r).1.audit = r.1.audit := foldl_keeps (fun r : State × β => r.1.audit) h l r

/-- The state of an answer, taken apart. -/
theorem audit_of_fst {α : Type} {r : State × α} {s t : State} {x : α} (h : r = (t, x)) (hr : r.1.audit = s.audit) : t.audit = s.audit := by
  rw [← hr, h]

/-- The state that an outcome gives, where it gives one. -/
theorem getD_audit {o : Option State} {s : State} (h : ∀ t, o = some t → t.audit = s.audit) : (o.getD s).audit = s.audit := by
  cases o with
  | none => rfl
  | some t => exact h t rfl

/-- A command's answer, where it is a state at all, has every record of the trail in its place, and may have more after them. -/
def Appends (s : State) : Res → Prop
  | .next t => s.audit <+: t.audit
  | _ => True

@[simp] theorem appends_next {s t : State} : Appends s (.next t) ↔ s.audit <+: t.audit := Iff.rfl

@[simp] theorem appends_fault {s : State} (f : Fault) : Appends s (.fault f) := trivial

@[simp] theorem appends_ite (s : State) (c : Prop) [Decidable c] (a b : Res) :
    Appends s (if c then a else b) ↔ if c then Appends s a else Appends s b := by
  split <;> rfl

theorem appends_of_ite {s : State} {c : Prop} [Decidable c] {a b : Res} (ha : c → Appends s a) (hb : ¬c → Appends s b) :
    Appends s (if c then a else b) := by
  split
  · exact ha ‹_›
  · exact hb ‹_›

/-- A row whose first part leaves the trail as it was appends what its rest appends. -/
theorem Appends.of_audit_eq {s t : State} {r : Res} (hr : Appends t r) (h : t.audit = s.audit) : Appends s r := by
  cases r <;> simp_all [Appends]

/-- An object's own part in a write: it may add records where the write takes effect, and none where the write is refused late. -/
structure Action.Appends (a : Action) : Prop where
  apply_appends : ∀ s who old new, s.audit <+: (a.apply s who old new).audit
  late_audit : ∀ s v n, (a.late s v n).audit = s.audit

/-- An object without an action of its own. -/
theorem Action.appends_default : ({} : Action).Appends := ⟨fun _ _ _ _ => List.prefix_rfl, fun _ _ _ => rfl⟩

/-! #### The shared operations -/

@[simp] theorem State.emit_audit (s o) : (State.emit s o).audit = s.audit := by simp [State.emit]
@[simp] theorem State.drew_audit (s n) : (State.drew s n).audit = s.audit := by simp [State.drew]
@[simp] theorem State.putObj_audit (s idx sub bs) : (State.putObj s idx sub bs).audit = s.audit := by simp [State.putObj]
@[simp] theorem State.resetObj_audit (s idx sub) : (State.resetObj s idx sub).audit = s.audit := by simp [State.resetObj]

@[simp] theorem recordAt_audit (s tai src code sev flags payload) : (recordAt s tai src code sev flags payload).audit = s.audit := by
  simp [recordAt, sourceTake, raiseAlarm]

@[simp] theorem event_audit (s src code payload) : (event s src code payload).audit = s.audit := by simp [event]
@[simp] theorem traceEvent_audit (s tai src code payload) : (traceEvent s tai src code payload).audit = s.audit := by simp [traceEvent]
@[simp] theorem counterAdd_audit (s key n) : (counterAdd s key n).audit = s.audit := by simp [counterAdd]
@[simp] theorem counted_audit (s src sel v n) : (counted s src sel v n).audit = s.audit := by simp [counted]
@[simp] theorem countComp_audit (s idx sub) : (countComp s idx sub).audit = s.audit := by simp [countComp]
@[simp] theorem compEvent_audit (s idx sub) : (compEvent s idx sub).audit = s.audit := by simp [compEvent]
@[simp] theorem usePair_audit (s idx sub) : (usePair s idx sub).audit = s.audit := by simp [usePair]
@[simp] theorem noteFault_audit (s key) : (noteFault s key).audit = s.audit := by simp [noteFault]
@[simp] theorem State.setSession_audit (s n x) : (State.setSession s n x).audit = s.audit := by simp [State.setSession]

/-! #### Frames and sessions (R53 to R62) -/

@[simp] theorem recovered_audit (s stream rtag) : (recovered s stream rtag).audit = s.audit := by fun_cases recovered s stream rtag <;> simp
@[simp] theorem State.sendFrame_audit (s o) : (State.sendFrame s o).audit = s.audit := by simp [State.sendFrame]
@[simp] theorem badFrame_audit (s e) : (badFrame s e).audit = s.audit := by simp [badFrame]
@[simp] theorem respond_audit (s svc e payload) : (respond s svc e payload).audit = s.audit := by simp [respond]
@[simp] theorem canAnswer_audit (s node idx sub status data) : (canAnswer s node idx sub status data).audit = s.audit := by simp [canAnswer]

@[simp] theorem answerTap_audit (s t status length data) : (answerTap s t status length data).audit = s.audit := by
  fun_cases answerTap s t status length data <;> simp

@[simp] theorem closeSession_audit (s n reason) : (closeSession s n reason).audit = s.audit := by simp [closeSession]
@[simp] theorem endSession_audit (s n reason) : (endSession s n reason).audit = s.audit := by fun_cases endSession s n reason <;> simp
@[simp] theorem levelFault_audit (s) : (levelFault s).audit = s.audit := by simp [levelFault, closeLevel]

/-! #### Serving a request (R41 to R47) -/

@[simp] theorem levelsUsed_audit (s) : (levelsUsed s).audit = s.audit := by simp [levelsUsed]

/-- Checks 1 and 2 of R41 leave the trail, however they end. -/
theorem receive_audit {s : State} {svc e payload sizeOk r} (h : receive s svc e payload sizeOk = r) : r.state.audit = s.audit := by
  subst h
  fun_cases receive s svc e payload sizeOk <;> simp +zetaDelta [Framed.state]

@[simp] theorem criticalWritten_audit (s who idx sub old new) : (criticalWritten s who idx sub old new).audit = s.audit := by
  simp [criticalWritten]

/-- A write that takes effect appends what its object's action appends. -/
theorem applyWrite_appends (s who idx sub v) {a : Action} (ha : a.Appends) : s.audit <+: (applyWrite s who idx sub v a).audit := by
  fun_cases applyWrite s who idx sub v a
  · exact List.prefix_rfl
  · next s1 s2 =>
    have h2 : s2.audit = s.audit := by simp [s2, s1]
    rw [ha.late_audit, ← h2]
    exact ha.apply_appends _ _ _ _

theorem dictWrite_appends (s who paired w) {a : Action} (ha : a.Appends) : s.audit <+: (dictWrite s who paired w a).1.audit := by
  fun_cases dictWrite s who paired w a <;> simp +zetaDelta [ha.late_audit, applyWrite_appends _ _ _ _ _ ha]

theorem beginSegmented_audit (s n e w) {a : Action} (ha : a.Appends) : (beginSegmented s n e w a).1.audit = s.audit := by
  fun_cases beginSegmented s n e w a <;> simp [ha.late_audit]

theorem serveWrite_appends (e paired w s) {a : Action} (ha : a.Appends) : s.audit <+: (serveWrite e paired w a s).audit := by
  fun_cases serveWrite e paired w a s
  all_goals
    rw [← receive_audit ‹_›]
    simp +zetaDelta [Framed.state, dictWrite_appends, beginSegmented_audit, ha]

@[simp] theorem hostWrite_appends (e idx sub v s) {a : Action} (ha : a.Appends) : Appends s (hostWrite e idx sub v a s) :=
  serveWrite_appends _ _ _ _ ha

@[simp] theorem hostPaired_appends (e idx sub v c s) {a : Action} (ha : a.Appends) : Appends s (hostPaired e idx sub v c a s) :=
  serveWrite_appends _ _ _ _ ha

/-! #### Planes and clocks -/

@[simp] theorem State.setPlane_audit (s g p st) : (State.setPlane s g p st).audit = s.audit := by simp [State.setPlane]
@[simp] theorem State.setStopped_audit (s b) : (State.setStopped s b).audit = s.audit := by simp [State.setStopped]

/-! #### The hitch link (R590 to R592) -/

@[simp] theorem State.updLink_audit (s up f) : (State.updLink s up f).audit = s.audit := by simp [State.updLink]

@[simp] theorem pumpLink_audit (up fuel s) : (pumpLink up fuel s).audit = s.audit := by
  fun_induction pumpLink up fuel s <;> simp +zetaDelta [*]

@[simp] theorem pump_audit (s up) : (pump s up).audit = s.audit := by simp [pump]
@[simp] theorem hitchSend_audit (s up type dst payload) : (hitchSend s up type dst payload).audit = s.audit := by simp [hitchSend]
@[simp] theorem chainSend_audit (s bytes) : (chainSend s bytes).audit = s.audit := by simp [chainSend]
@[simp] theorem takeAck_audit (s up ack) : (takeAck s up ack).audit = s.audit := by fun_cases takeAck s up ack <;> simp
@[simp] theorem hitchTake_audit (s f) : (hitchTake s f).1.audit = s.audit := by simp [hitchTake]
@[simp] theorem passOn_audit (s f type payload) : (passOn s f type payload).audit = s.audit := by simp [passOn]

@[simp] theorem hitchFrame_audit (s f type payload) {take : State → State} (h : ∀ s, (take s).audit = s.audit) :
    (hitchFrame s f type payload take).audit = s.audit := by
  simp [hitchFrame, h]

@[simp] theorem execHitchResend_appends (up s) : Appends s (execHitchResend up s) := by
  fun_cases execHitchResend up s <;> simp +zetaDelta [linkDown]

/-! #### Units of the fabric (03, 04) -/

@[simp] theorem State.opened_audit (s) : (State.opened s).audit = s.audit := by simp [State.opened]
@[simp] theorem State.outgoing_audit (s) : (State.outgoing s).audit = s.audit := by simp [State.outgoing]
@[simp] theorem State.edgeTaken_audit (s e) : (State.edgeTaken s e).audit = s.audit := by simp [State.edgeTaken]
@[simp] theorem setBmRow_audit (s blk row v) : (setBmRow s blk row v).audit = s.audit := by simp [setBmRow]
@[simp] theorem latchRead_audit (s port chained i r) : (latchRead s port chained i r).audit = s.audit := by simp [latchRead]
@[simp] theorem bmError_audit (s u flags) : (bmError s u flags).audit = s.audit := by simp [bmError]
@[simp] theorem flipRow_audit (s p flips) : (flipRow s p flips).audit = s.audit := by fun_cases flipRow s p flips <;> simp
@[simp] theorem writeRow_audit (s p keep) : (writeRow s p keep).audit = s.audit := by fun_cases writeRow s p keep <;> simp

@[simp] theorem blockmemEdge_audit (s u a b idleDin unordered flips) :
    (blockmemEdge s u a b idleDin unordered flips).audit = s.audit := by
  unfold blockmemEdge
  dsimp only
  repeat' split
  all_goals simp

@[simp] theorem takeBlockEdge_audit (s u a b idleDin unordered flips) :
    (takeBlockEdge s u a b idleDin unordered flips).audit = s.audit := by simp [takeBlockEdge]

@[simp] theorem takeSliceEdge_audit (s u i) : (takeSliceEdge s u i).audit = s.audit := by simp [takeSliceEdge]
@[simp] theorem takeQueueEdge_audit (s u i) : (takeQueueEdge s u i).audit = s.audit := by simp [takeQueueEdge]
@[simp] theorem actFabMemRead_appends : actFabMemRead.Appends := by constructor <;> simp [actFabMemRead]
@[simp] theorem actFclk_appends (n) : (actFclk n).Appends := by constructor <;> simp [actFclk]
@[simp] theorem takeDivisor_audit (s n) : (takeDivisor s n).audit = s.audit := by simp [takeDivisor]

/-! #### Teams, staging, switches and capture (05) -/

@[simp] theorem State.updTeam_audit (s t f) : (State.updTeam s t f).audit = s.audit := by simp [State.updTeam]
@[simp] theorem dropGrants_audit (s t) : (dropGrants s t).audit = s.audit := by simp [dropGrants]
@[simp] theorem noteGrant_audit (s towers t r) : (noteGrant s towers t r).audit = s.audit := by simp [noteGrant]
@[simp] theorem tryGrant_audit (s t) : (tryGrant s t).audit = s.audit := by fun_cases tryGrant s t <;> simp +zetaDelta
@[simp] theorem grantFallback_audit (s t) : (grantFallback s t).audit = s.audit := by fun_cases grantFallback s t <;> simp +zetaDelta
@[simp] theorem grantAll_audit (s) : (grantAll s).audit = s.audit := by simp [grantAll]
@[simp] theorem seekAnew_audit (s t) : (seekAnew s t).audit = s.audit := by simp [seekAnew]

@[simp] theorem resumeEdges_audit (s stopped) : (resumeEdges s stopped).audit = s.audit := by
  unfold resumeEdges
  simp only [State.audit_ite, State.audit_mk, State.sealed_audit, ite_self]
  exact foldl_audit _ _ fun s t => by split <;> simp

@[simp] theorem dueSwitches_audit (s) : (dueSwitches s).audit = s.audit := by
  unfold dueSwitches
  simp only [grantAll_audit, State.audit_ite, State.audit_mk, State.sealed_audit, ite_self]
  exact foldl_audit _ _ fun s t => by split <;> simp

@[simp] theorem State.updEngine_audit (s w f) : (State.updEngine s w f).audit = s.audit := by simp [State.updEngine]
@[simp] theorem queueStaging_audit (s jobs fb) : (queueStaging s jobs fb).audit = s.audit := by simp [queueStaging]

@[simp] theorem abandonStaging_audit (s t) : (abandonStaging s t).audit = s.audit :=
  foldl_audit _ _ fun s w => by split <;> simp

@[simp] theorem execStagingStart_appends (tower s) : Appends s (execStagingStart tower s) := by fun_cases execStagingStart tower s <;> simp

@[simp] theorem stageSector_audit (s g p) : (stageSector s g p).audit = s.audit := by
  unfold stageSector
  dsimp only
  repeat' split
  all_goals simp

@[simp] theorem execStagingComplete_appends (tower s) : Appends s (execStagingComplete tower s) := by
  fun_cases execStagingComplete tower s <;> simp +zetaDelta

@[simp] theorem cancelPending_audit (s t reason) : (cancelPending s t reason).audit = s.audit := by simp [cancelPending]

@[simp] theorem cancelAllSwitches_audit (s reason fallbacks) : (cancelAllSwitches s reason fallbacks).audit = s.audit := by
  simp [cancelAllSwitches, cancelFallback]

@[simp] theorem holdTeam_audit (s t cause) : (holdTeam s t cause).audit = s.audit := by simp [holdTeam]
@[simp] theorem freezeTeam_audit (s t idx sub) : (freezeTeam s t idx sub).audit = s.audit := by simp [freezeTeam]

@[simp] theorem triggerFallbacks_audit (s ts cause) : (triggerFallbacks s ts cause).audit = s.audit := by
  simp [triggerFallbacks, beginFallback]

@[simp] theorem triggerFallback_audit (s t cause) : (triggerFallback s t cause).audit = s.audit := by simp [triggerFallback]
@[simp] theorem teamFault_audit (s t sub) : (teamFault s t sub).audit = s.audit := by simp [teamFault]
@[simp] theorem checkActive_audit (s t) : (checkActive s t).audit = s.audit := by simp [checkActive]
@[simp] theorem teamUsed_audit (s t) : (teamUsed s t).audit = s.audit := by simp [teamUsed]

@[simp] theorem acceptTimed_audit (s t p time) : (acceptTimed s t p time).audit = s.audit := by
  unfold acceptTimed
  split <;> simp

@[simp] theorem unstageTeam_audit (s t) : (unstageTeam s t).audit = s.audit :=
  foldl_audit _ _ fun s g => by split <;> simp

@[simp] theorem releaseTeam_audit (s t) : (releaseTeam s t).audit = s.audit := by simp [releaseTeam]

@[simp] theorem switchApply_audit (s0 t op p time) : (switchApply s0 t op p time).audit = s0.audit := by
  fun_cases switchApply s0 t op p time <;> simp +zetaDelta

@[simp] theorem actSwitch_appends : actSwitch.Appends := by constructor <;> simp [actSwitch]

@[simp] theorem execReinRequest_appends (sector plane s) : Appends s (execReinRequest sector plane s) := by
  fun_cases execReinRequest sector plane s <;> simp +zetaDelta

@[simp] theorem switchSector_audit (s g q) : (switchSector s g q).audit = s.audit := by fun_cases switchSector s g q <;> simp

@[simp] theorem execFenceTimeout_appends (team s) : Appends s (execFenceTimeout team s) := by
  fun_cases execFenceTimeout team s <;> simp +zetaDelta

@[simp] theorem portsDown_audit (s g) : (portsDown s g).audit = s.audit := by fun_cases portsDown s g <;> simp +zetaDelta
@[simp] theorem disband_audit (s t) : (disband s t).audit = s.audit := by simp [disband, dropStaging]
@[simp] theorem setMembers_audit (s t v) : (setMembers s t v).audit = s.audit := by fun_cases setMembers s t v <;> simp +zetaDelta
@[simp] theorem actMembers_appends (t) : (actMembers t).Appends := by constructor <;> simp [actMembers]
@[simp] theorem actTeamSetting_appends (t sub) : (actTeamSetting t sub).Appends := by constructor <;> simp [actTeamSetting]
@[simp] theorem actPlaneClear_appends : actPlaneClear.Appends := by constructor <;> simp [actPlaneClear]

@[simp] theorem actCapture_appends : actCapture.Appends := by
  refine ⟨fun s who old new => ?_, fun _ _ _ => rfl⟩
  dsimp only [actCapture]
  split <;> simp

@[simp] theorem execCaptureEdge_appends (routed s) : Appends s (execCaptureEdge routed s) := by fun_cases execCaptureEdge routed s <;> simp

end Sys2Proof.Machine
end

section
/-! PROOFS. The audit trail (R620): the memories, the network and the movers. -/

namespace Sys2Proof.Machine

/-! #### DRAM lines as stored (10, 11) -/

@[simp] theorem State.updChan_audit (s c f) : (State.updChan s c f).audit = s.audit := by simp [State.updChan]
@[simp] theorem settleRet_audit (s ch) : (settleRet s ch).audit = s.audit := by simp [settleRet]
@[simp] theorem setRet_audit (s ch r) : (setRet s ch r).audit = s.audit := by simp [setRet]
@[simp] theorem State.updBank_audit (s k f) : (State.updBank s k f).audit = s.audit := by simp [State.updBank]
@[simp] theorem dramFallback_audit (s sub) : (dramFallback s sub).audit = s.audit := by simp [dramFallback]
@[simp] theorem useDram_audit (s sub) : (useDram s sub).audit = s.audit := by simp [useDram]
@[simp] theorem lineDrew_audit (s symbols) : (lineDrew s symbols).audit = s.audit := by simp [lineDrew]

@[simp] theorem lineEvent_audit (s ch a init symbols k) : (lineEvent s ch a init symbols k).audit = s.audit := by
  fun_cases lineEvent s ch a init symbols k <;> simp

@[simp] theorem retireRank_audit (s0 ch k cause) : (retireRank s0 ch k cause).audit = s0.audit := by simp [retireRank, retireEvents]
@[simp] theorem checkRemaps_audit (s ch) : (checkRemaps s ch).audit = s.audit := by simp [checkRemaps, faultRemap]

@[simp] theorem remapGo_audit (ch rank l a data tai entries errs s) : (remapGo ch rank l a data tai entries errs s).audit = s.audit := by
  fun_induction remapGo ch rank l a data tai entries errs s <;> simp +zetaDelta [*]

@[simp] theorem hardFault_audit (s ch rank l a data spareErrs) : (hardFault s ch rank l a data spareErrs).audit = s.audit := by
  simp [hardFault]

@[simp] theorem storeLine_audit (s phys data poison) : (storeLine s phys data poison).audit = s.audit := by simp [storeLine]
@[simp] theorem useRow_audit (s ch key row) : (useRow s ch key row).audit = s.audit := by fun_cases useRow s ch key row <;> simp [touchRow]
@[simp] theorem accessRow_audit (s l rank spare) : (accessRow s l rank spare).audit = s.audit := by simp [accessRow]

@[simp] theorem rawRead_audit (s0 a init symbols spareErrs) : (rawRead s0 a init symbols spareErrs).1.audit = s0.audit := by
  fun_cases rawRead s0 a init symbols spareErrs <;> simp +zetaDelta

@[simp] theorem rawWrite_audit (s0 a data poison) : (rawWrite s0 a data poison).1.audit = s0.audit := by
  fun_cases rawWrite s0 a data poison <;> simp +zetaDelta

@[simp] theorem refillBudget_audit (s ch) : (refillBudget s ch).audit = s.audit := by simp [refillBudget]
@[simp] theorem debit_audit (s ch n) : (debit s ch n).audit = s.audit := by simp [debit]

/-! #### Encryption engines and their metadata (12) -/

@[simp] theorem State.updRegion_audit (s r f) : (State.updRegion s r f).audit = s.audit := by simp [State.updRegion]
@[simp] theorem lockRegion_audit (s r cause) : (lockRegion s r cause).audit = s.audit := by simp [lockRegion]
@[simp] theorem failLine_audit (s r a init) : (failLine s r a init).audit = s.audit := by fun_cases failLine s r a init <;> simp +zetaDelta
@[simp] theorem poisonSubtree_audit (s r l m cause) : (poisonSubtree s r l m cause).audit = s.audit := by simp [poisonSubtree]
@[simp] theorem regionCompFault_audit (s r sub) : (regionCompFault s r sub).audit = s.audit := by simp [regionCompFault]
@[simp] theorem majorOverflow_audit (s r l m) : (majorOverflow s r l m).audit = s.audit := by simp [majorOverflow]
@[simp] theorem cachePut_audit (s a data dirty) : (cachePut s a data dirty).audit = s.audit := by simp [cachePut]
@[simp] theorem cacheLook_audit (s hit) : (cacheLook s hit).audit = s.audit := by simp [cacheLook]
@[simp] theorem cacheDrop_audit (s a) : (cacheDrop s a).audit = s.audit := by simp [cacheDrop]

/-- By the recursion's own body: Lean derives no equations for fetchNode within its limits. -/
@[simp] theorem fetchNode_audit (r init errs fuel l m s) : (fetchNode r init errs fuel l m s).1.audit = s.audit := by
  delta fetchNode
  refine brecOn_holds (fun fetch : Nat → Nat → State → RawRead => ∀ l m s, (fetch l m s).1.audit = s.audit) _ ?_ ?_ fuel l m s
  · intro below l m s
    delta fetchNode._f
    rcases hc : cacheFind s errs (nodeAddr s r l m) with _ | ⟨b, _ | _⟩ <;> simp [hc]
  · intro fuel below ih l m s
    delta fetchNode._f
    rcases hc : cacheFind s errs (nodeAddr s r l m) with _ | ⟨b, _ | _⟩ <;> simp [hc, ih]

@[simp] theorem getNode_audit (s r init errs l m) : (getNode s r init errs l m).1.audit = s.audit := by simp [getNode]
@[simp] theorem putSlot_audit (s a slot v) : (putSlot s a slot v).audit = s.audit := by fun_cases putSlot s a slot v <;> simp

@[simp] theorem retagNode_audit (s r l m major minor) : (retagNode s r l m major minor).audit = s.audit := by
  fun_cases retagNode s r l m major minor <;> simp

@[simp] theorem writeBackNode_audit (s a data) : (writeBackNode s a data).audit = s.audit := by
  fun_cases writeBackNode s a data <;> simp +zetaDelta [bumpChild]

@[simp] theorem trimCache_audit (keep fuel s) : (trimCache keep fuel s).audit = s.audit := by
  induction fuel generalizing s with
  | zero => rfl
  | succ fuel ih =>
    unfold trimCache
    repeat' split
    all_goals simp [ih]

@[simp] theorem writeBackMeta_audit (fuel s) : (writeBackMeta fuel s).audit = s.audit := by
  induction fuel generalizing s with
  | zero => rfl
  | succ fuel ih =>
    unfold writeBackMeta
    split
    · rfl
    · rw [ih]
      split <;> simp

@[simp] theorem authStore_audit (s r j major minor data poison) : (authStore s r j major minor data poison).1.audit = s.audit := by
  simp [authStore]

@[simp] theorem useRegion_audit (s a) : (useRegion s a).audit = s.audit := by fun_cases useRegion s a <;> simp

@[simp] theorem engineRead_audit (s a init errs spareErrs) : (engineRead s a init errs spareErrs).1.audit = s.audit := by
  fun_cases engineRead s a init errs spareErrs <;> simp +zetaDelta [authRead]

@[simp] theorem engineWrite_audit (s a init data poison errs) : (engineWrite s a init data poison errs).1.audit = s.audit := by
  fun_cases engineWrite s a init data poison errs <;> simp +zetaDelta [authWrite, reencrypt]

@[simp] theorem enginePartial_audit (s a init off data errs spareErrs) :
    (enginePartial s a init off data errs spareErrs).1.audit = s.audit := by simp [enginePartial]

/-! #### The network (08) -/

@[simp] theorem actReservation_appends (n) : (actReservation n).Appends := by constructor <;> simp [actReservation]
@[simp] theorem updStat_audit (s i f) : (updStat s i f).audit = s.audit := by simp [updStat]
@[simp] theorem issue_audit (s p) : (issue s p).audit = s.audit := by simp [issue]
@[simp] theorem takeTag_audit (s) : (takeTag s).2.audit = s.audit := by simp [takeTag]

@[simp] theorem request_audit (s kind init addr len cls data use gt) : (request s kind init addr len cls data use gt).audit = s.audit := by
  simp [request]

@[simp] theorem answer_audit (s p status data outcome) : (answer s p status data outcome).audit = s.audit := by simp [answer]
@[simp] theorem refuse_audit (s p status code) : (refuse s p status code).audit = s.audit := by simp [refuse]
@[simp] theorem passed_audit (s p) : (passed s p).audit = s.audit := by simp [passed]
@[simp] theorem linkCorrected_audit (s p) : (linkCorrected s p).audit = s.audit := by simp [linkCorrected]
@[simp] theorem headerLost_audit (s p) : (headerLost s p).audit = s.audit := by simp [headerLost]

@[simp] theorem execPacketPromotedUrgent_appends (k s) : Appends s (execPacketPromotedUrgent k s) := by
  fun_cases execPacketPromotedUrgent k s <;> simp

@[simp] theorem actStat_appends : actStat.Appends := by constructor <;> simp [actStat]

/-! #### The pannier (09) -/

@[simp] theorem setBank_audit (s b v) : (setBank s b v).audit = s.audit := by simp [setBank]
@[simp] theorem setBankTest_audit (s bank31 t) : (setBankTest s bank31 t).audit = s.audit := by simp [setBankTest]
@[simp] theorem panPut_audit (s off b) : (panPut s off b).audit = s.audit := by fun_cases panPut s off b <;> simp

@[simp] theorem panWrite_audit (place i bs s) : (panWrite place i bs s).audit = s.audit := by
  fun_induction panWrite place i bs s <;> simp [*]

@[simp] theorem controllerWrite_audit (off data s) : (controllerWrite off data s).audit = s.audit := by simp [controllerWrite]
@[simp] theorem writeSealedStatus_audit (s) : (writeSealedStatus s).audit = s.audit := by simp [writeSealedStatus]
@[simp] theorem panErr_audit (s off err) : (panErr s off err).1.audit = s.audit := by fun_cases panErr s off err <;> simp +zetaDelta
@[simp] theorem wordsServed_audit (s off len) : (wordsServed s off len).audit = s.audit := by simp [wordsServed]
@[simp] theorem execBankClearingDone_appends (b s) : Appends s (execBankClearingDone b s) := by simp [execBankClearingDone, clearBank]
@[simp] theorem updWindow_audit (s n f) : (updWindow s n f).audit = s.audit := by simp [updWindow]
@[simp] theorem windowServed_audit (s xs) : (windowServed s xs).audit = s.audit := by simp [windowServed]
@[simp] theorem windowUnderflow_audit (s n len) : (windowUnderflow s n len).audit = s.audit := by simp [windowUnderflow]
@[simp] theorem windowPush_audit (s n data) : (windowPush s n data).1.audit = s.audit := by simp [windowPush, windowOverflow]
@[simp] theorem windowPop_audit (s n len err) : (windowPop s n len err).1.audit = s.audit := by simp [windowPop]
@[simp] theorem windowRelease_audit (s n len) : (windowRelease s n len).1.audit = s.audit := by simp [windowRelease]

@[simp] theorem windowIndexed_audit (s n off len wdata err) : (windowIndexed s n off len wdata err).1.audit = s.audit := by
  fun_cases windowIndexed s n off len wdata err <;> simp +zetaDelta

@[simp] theorem windowStatus_audit (s n) : (windowStatus s n).1.audit = s.audit := by simp [windowStatus]
@[simp] theorem windowAccess_audit (s n off p err) : (windowAccess s n off p err).1.audit = s.audit := by simp [windowAccess]

@[simp] theorem windowAnswer_appends {s : State} (init) {r : WindowRes} (h : r.1.audit = s.audit) : Appends s (windowAnswer init r) := by
  simp [windowAnswer, h]

@[simp] theorem actWindowEnable_appends (n) : (actWindowEnable n).Appends := by constructor <;> simp [actWindowEnable]
@[simp] theorem actWindowSetting_appends (n) : (actWindowSetting n).Appends := by constructor <;> simp [actWindowSetting]
@[simp] theorem actConflictClear_appends : actConflictClear.Appends := by constructor <;> simp [actConflictClear]
@[simp] theorem startRegion_audit (s bank31) : (startRegion s bank31).audit = s.audit := by simp [startRegion]
@[simp] theorem restoreRegion_audit (s bank31) : (restoreRegion s bank31).audit = s.audit := by simp [restoreRegion]
@[simp] theorem nextRegion_audit (s bank31) : (nextRegion s bank31).audit = s.audit := by simp [nextRegion]

/-! #### Wale (09) -/

@[simp] theorem setWay_audit (s k x) : (setWay s k x).audit = s.audit := by simp [setWay]
@[simp] theorem updSlice_audit (s sl f) : (updSlice s sl f).audit = s.audit := by simp [updSlice]
@[simp] theorem touchWay_audit (s k) : (touchWay s k).audit = s.audit := by simp [touchWay]
@[simp] theorem toController_audit (s r) : (toController s r).audit = s.audit := by simp [toController]
@[simp] theorem beginBack_audit (s sl x evicted) : (beginBack s sl x evicted).audit = s.audit := by simp [beginBack]

@[simp] theorem offerPinned_audit (s sl set) : (offerPinned s sl set).audit = s.audit :=
  foldl_audit _ _ fun s w => by split <;> simp

@[simp] theorem placeLine_audit (s sl w x) : (placeLine s sl w x).audit = s.audit := by
  unfold placeLine
  dsimp only
  split <;> simp

@[simp] theorem sendUncached_audit (s sl r line) : (sendUncached s sl r line).1.audit = s.audit := by simp [sendUncached]

@[simp] theorem tryLine_audit (s earlier r line) : (tryLine s earlier r line).1.audit = s.audit := by
  fun_cases tryLine s earlier r line <;> simp +zetaDelta [serveHit]

@[simp] theorem tryLines_audit (earlier ls s r) : (tryLines earlier ls s r).1.audit = s.audit := by
  fun_induction tryLines earlier ls s r <;> simp +zetaDelta [*]

@[simp] theorem settleReq_audit (s r) : (settleReq s r).1.audit = s.audit := by simp [settleReq]
@[simp] theorem tryReq_audit (s id) : (tryReq s id).audit = s.audit := by fun_cases tryReq s id <;> simp +zetaDelta
@[simp] theorem runSlices_audit (s) : (runSlices s).audit = s.audit := by simp [runSlices]

@[simp] theorem lineErr_audit (s sl line err) : (lineErr s sl line err).audit = s.audit := by
  fun_cases lineErr s sl line err <;> simp [waleEcc]

@[simp] theorem tagErr_audit (s sl line t) : (tagErr s sl line t).audit = s.audit := by fun_cases tagErr s sl line t <;> simp

@[simp] theorem acceptSlice_audit (s p tag err) : (acceptSlice s p tag err).audit = s.audit := by
  fun_cases acceptSlice s p tag err <;> simp +zetaDelta

@[simp] theorem takeAtPort_audit (s sl x) : (takeAtPort s sl x).audit = s.audit := by simp [takeAtPort]

@[simp] theorem runPorts_audit (s) : (runPorts s).audit = s.audit := by
  refine foldl_audit _ _ fun s kv => ?_
  dsimp only
  repeat' split
  all_goals simp

@[simp] theorem emptyPorts_audit (s) : (emptyPorts s).audit = s.audit := by simp [emptyPorts]
@[simp] theorem reachSlice_audit (s p tag err) : (reachSlice s p tag err).audit = s.audit := by simp [reachSlice]

@[simp] theorem dramAnswer_audit (s r status data) : (dramAnswer s r status data).audit = s.audit := by
  fun_cases dramAnswer s r status data <;> simp +zetaDelta

@[simp] theorem serveUnallocated_audit (s sl line status data) : (serveUnallocated s sl line status data).audit = s.audit := by
  simp [serveUnallocated]

@[simp] theorem execLineFillDone_appends (k s) : Appends s (execLineFillDone k s) := by fun_cases execLineFillDone k s <;> simp +zetaDelta
@[simp] theorem keepBack_audit (s b) : (keepBack s b).audit = s.audit := by fun_cases keepBack s b <;> simp

@[simp] theorem execWriteBackAnswered_appends (k status s) : Appends s (execWriteBackAnswered k status s) := by
  unfold execWriteBackAnswered
  dsimp only
  repeat' split
  all_goals simp [flushLine]

@[simp] theorem actFlush_appends (invalidate) : (actFlush invalidate).Appends := by constructor <;> simp [actFlush, beginFlush]
@[simp] theorem invalidateSlice_audit (s sl) : (invalidateSlice s sl).audit = s.audit := by simp [invalidateSlice]
@[simp] theorem flushNow_audit (s sl invalidate) : (flushNow s sl invalidate).audit = s.audit := by simp [flushNow]
@[simp] theorem performDram_audit (s r errs spareErrs) : (performDram s r errs spareErrs).audit = s.audit := by simp [performDram]
@[simp] theorem settleDram_audit (s) : (settleDram s).audit = s.audit := by simp [settleDram]
@[simp] theorem flushAll_audit (s invalidate) : (flushAll s invalidate).audit = s.audit := by simp [flushAll]

@[simp] theorem peekLine_audit (s line init) : (peekLine s line init).1.audit = s.audit := by
  fun_cases peekLine s line init <;> simp +zetaDelta

@[simp] theorem peekGo_audit (init a ls s st acc) : (peekGo init a ls s st acc).1.audit = s.audit := by
  fun_induction peekGo init a ls s st acc <;> simp +zetaDelta [*]

@[simp] theorem pokeLine_audit (s init line off data) : (pokeLine s init line off data).1.audit = s.audit := by
  fun_cases pokeLine s init line off data <;> simp

@[simp] theorem poke_audit (init fuel addr bs s) : (poke init fuel addr bs s).1.audit = s.audit := by
  fun_induction poke init fuel addr bs s <;> simp +zetaDelta [*]

@[simp] theorem pokeAll_audit (s init a data) : (pokeAll s init a data).1.audit = s.audit := by simp [pokeAll]

/-! #### Base ports (R172, R382 to R384) -/

@[simp] theorem toPort_audit (s g c ctx ws) : (toPort s g c ctx ws).audit = s.audit := by simp [toPort]
@[simp] theorem portAnswer_audit (s p g c status data) : (portAnswer s p g c status data).audit = s.audit := by simp [portAnswer]
@[simp] theorem dropAbsent_audit (s) : (dropAbsent s).audit = s.audit := by simp [dropAbsent]

@[simp] theorem deliverHeld_audit (s) : (deliverHeld s).audit = s.audit := by
  unfold deliverHeld
  rw [dropAbsent_audit]
  exact foldl_audit _ _ fun s p => by split <;> simp

@[simp] theorem portInbound_audit (s p g c off) : (portInbound s p g c off).audit = s.audit := by simp [portInbound]
@[simp] theorem portReply_audit (s g c ws) : (portReply s g c ws).audit = s.audit := by fun_cases portReply s g c ws <;> simp +zetaDelta
@[simp] theorem portTaken_audit (s g c words) : (portTaken s g c words).audit = s.audit := by simp [portTaken, portTransaction, portRequest]
@[simp] theorem endPort_audit (s g c status) : (endPort s g c status).audit = s.audit := by simp [endPort]

/-! #### The movers (R385 to R387) -/

@[simp] theorem updMover_audit (s m f) : (updMover s m f).audit = s.audit := by simp [updMover]

@[simp] theorem moverIssue_audit (m fuel s) : (moverIssue m fuel s).audit = s.audit := by
  fun_induction moverIssue m fuel s <;> simp_all +zetaDelta

@[simp] theorem moverGo_audit (s m) : (moverGo s m).audit = s.audit := by simp [moverGo]
@[simp] theorem moverSettle_audit (s m) : (moverSettle s m).audit = s.audit := by simp [moverSettle]
@[simp] theorem moverFail_audit (s m status) : (moverFail s m status).audit = s.audit := by simp [moverFail]
@[simp] theorem readDescriptor_audit (s m addr) : (readDescriptor s m addr).audit = s.audit := by simp [readDescriptor]
@[simp] theorem startMover_audit (s m addr) : (startMover s m addr).audit = s.audit := by simp [startMover]

@[simp] theorem moverResponse_audit (s m use p status data) : (moverResponse s m use p status data).audit = s.audit := by
  fun_cases moverResponse s m use p status data <;> simp +zetaDelta [gotDescriptor]

@[simp] theorem moverDoorbell_audit (s init m addr) : (moverDoorbell s init m addr).1.audit = s.audit := by simp [moverDoorbell]
@[simp] theorem actMoverStart_appends : actMoverStart.Appends := by constructor <;> simp [actMoverStart]
@[simp] theorem stopMover_audit (s m) : (stopMover s m).audit = s.audit := by simp [stopMover]
@[simp] theorem actMoverStop_appends : actMoverStop.Appends := by constructor <;> simp [actMoverStop]

end Sys2Proof.Machine
end

section
/-! PROOFS. The audit trail (R620): time, lanes, keys, the sealed partition and streams. -/

namespace Sys2Proof.Machine

/-! #### The time base and the I/O banks (13) -/

@[simp] theorem updBank_audit (s b f) : (updBank s b f).audit = s.audit := by simp [updBank]
@[simp] theorem timeState_audit (s st gm) : (timeState s st gm).audit = s.audit := by simp [timeState]
@[simp] theorem runSelection_audit (s) : (runSelection s).audit = s.audit := by fun_cases runSelection s <;> simp +zetaDelta
@[simp] theorem execSync_appends (m s) : Appends s (execSync m s) := by simp [execSync, discipline, servo, stepTime]
@[simp] theorem actTimeSet_appends : actTimeSet.Appends := by constructor <;> simp [actTimeSet]
@[simp] theorem updPin_audit (s b pin f) : (updPin s b pin f).audit = s.audit := by simp [updPin]
@[simp] theorem actPin_appends (b pin) : (actPin b pin).Appends := by constructor <;> simp [actPin]
@[simp] theorem applySafe_audit (s b cause zpin) : (applySafe s b cause zpin).audit = s.audit := by simp [applySafe, safePin]
@[simp] theorem pinFallback_audit (s b pin) : (pinFallback s b pin).audit = s.audit := by simp [pinFallback]
@[simp] theorem usePin_audit (s b pin) : (usePin s b pin).audit = s.audit := by simp [usePin]

@[simp] theorem execInputEdge_appends (b pin rising time fraction s) : Appends s (execInputEdge b pin rising time fraction s) := by
  simp [execInputEdge, dropEdge]

@[simp] theorem drain_audit (s b) : (drain s b).audit = s.audit := by simp [drain]
@[simp] theorem execOutputPoll_appends (b s) : Appends s (execOutputPoll b s) := by simp [execOutputPoll, takeSlot, pollFailed]
@[simp] theorem drivePin_audit (s b pin action at_) : (drivePin s b pin action at_).audit = s.audit := by simp [drivePin]
@[simp] theorem runEntry_audit (s b e at_) : (runEntry s b e at_).audit = s.audit := by simp [runEntry]
@[simp] theorem dropHead_audit (s b) : (dropHead s b).audit = s.audit := by simp [dropHead]

@[simp] theorem runBatch_audit (b cyc fuel used s) : (runBatch b cyc fuel used s).audit = s.audit := by
  fun_induction runBatch b cyc fuel used s <;> simp_all +zetaDelta

@[simp] theorem execOutputEntryExecute_appends (b s) : Appends s (execOutputEntryExecute b s) := by
  unfold execOutputEntryExecute
  dsimp only
  repeat' split
  all_goals simp

@[simp] theorem execReturnTimer_appends (b pin s) : Appends s (execReturnTimer b pin s) := by
  fun_cases execReturnTimer b pin s <;> simp +zetaDelta

@[simp] theorem applySafeAll_audit (s cause) : (applySafeAll s cause).audit = s.audit := by simp [applySafeAll]
@[simp] theorem startBank_audit (s b) : (startBank s b).audit = s.audit := by simp [startBank]
@[simp] theorem actBank_appends (b) : (actBank b).Appends := by constructor <;> simp [actBank]
@[simp] theorem actBankSetting_appends (b) : (actBankSetting b).Appends := by constructor <;> simp [actBankSetting]

/-! #### The lanes (14) -/

@[simp] theorem updLane_audit (s k f) : (updLane s k f).audit = s.audit := by simp [updLane]
@[simp] theorem marker_audit (s k kind count content) : (marker s k kind count content).audit = s.audit := by simp [marker, putMarker]
@[simp] theorem rxUnit_audit (k s unit) : (rxUnit k s unit).audit = s.audit := by fun_cases rxUnit k s unit <;> simp [rxData, rxKchars]
@[simp] theorem pushData_audit (s k) : (pushData s k).audit = s.audit := by simp [pushData]
@[simp] theorem pushMarks_audit (s k) : (pushMarks s k).audit = s.audit := by simp [pushMarks]

@[simp] theorem sendRecords_audit (k fuel bs s) : (sendRecords k fuel bs s).audit = s.audit := by
  fun_induction sendRecords k fuel bs s <;> simp [*]

@[simp] theorem beginLane_audit (s k) : (beginLane s k).audit = s.audit := by simp [beginLane]
@[simp] theorem stopLane_audit (s k cause) : (stopLane s k cause).audit = s.audit := by simp [stopLane]
@[simp] theorem actLane_appends (k) : (actLane k).Appends := by constructor <;> simp [actLane]
@[simp] theorem actLaneSetting_appends (k sub) : (actLaneSetting k sub).Appends := by constructor <;> simp [actLaneSetting]
@[simp] theorem actQuad_appends (q) : (actQuad q).Appends := by constructor <;> simp [actQuad]
@[simp] theorem failLane_audit (s k step reason) : (failLane s k step reason).audit = s.audit := by simp [failLane]
@[simp] theorem afterStep_audit (s k) : (afterStep s k).audit = s.audit := by fun_cases afterStep s k <;> simp
@[simp] theorem execLaneStep_appends (l s) : Appends s (execLaneStep l s) := by fun_cases execLaneStep l s <;> simp
@[simp] theorem execLaneBringupLimit_appends (l s) : Appends s (execLaneBringupLimit l s) := by simp [execLaneBringupLimit, stepFailed]
@[simp] theorem loseLock_audit (s k) : (loseLock s k).audit = s.audit := by simp [loseLock]
@[simp] theorem actServiceMode_appends (p) : (actServiceMode p).Appends := by constructor <;> simp [actServiceMode]
@[simp] theorem stopLanes_audit (s again) : (stopLanes s again).audit = s.audit := by simp [stopLanes]

/-! #### The DRAM controller (10) -/

@[simp] theorem execDramRequest_appends (k s) : Appends s (execDramRequest k s) := by fun_cases execDramRequest k s <;> simp +zetaDelta

@[simp] theorem execRequestUrgent_appends (channel write k s) : Appends s (execRequestUrgent channel write k s) := by
  fun_cases execRequestUrgent channel write k s <;> simp

@[simp] theorem refreshBank_audit (s key) : (refreshBank s key).audit = s.audit := by simp [refreshBank]
@[simp] theorem neighbourBank_audit (s key) : (neighbourBank s key).audit = s.audit := by fun_cases neighbourBank s key <;> simp +zetaDelta
@[simp] theorem serveDram_audit (s ch r errs spareErrs) : (serveDram s ch r errs spareErrs).audit = s.audit := by simp [serveDram]

@[simp] theorem execDramCommandSlot_appends (channel pcB errs spareErrs s0) :
    Appends s0 (execDramCommandSlot channel pcB errs spareErrs s0) := by
  fun_cases execDramCommandSlot channel pcB errs spareErrs s0 <;> simp +zetaDelta [refillHeat]

@[simp] theorem execRetrainBurst_appends (channel pcB failing s) : Appends s (execRetrainBurst channel pcB failing s) := by
  simp [execRetrainBurst, repairLanes]

@[simp] theorem beginRetrain_audit (s ch) : (beginRetrain s ch).audit = s.audit := by simp [beginRetrain]
@[simp] theorem actRetire_appends : actRetire.Appends := by constructor <;> simp [actRetire]
@[simp] theorem actRetrain_appends : actRetrain.Appends := by constructor <;> simp [actRetrain]
@[simp] theorem actSpares_appends : actSpares.Appends := by constructor <;> simp [actSpares]
@[simp] theorem migAdvance_audit (s ch) : (migAdvance s ch).audit = s.audit := by simp [migAdvance]

@[simp] theorem execMigrationCopy_appends (channel symbols s0) : Appends s0 (execMigrationCopy channel symbols s0) := by
  fun_cases execMigrationCopy channel symbols s0 <;> simp +zetaDelta [migWrite]

@[simp] theorem execMigrationLineTimeout_appends (channel s) : Appends s (execMigrationLineTimeout channel s) := by
  fun_cases execMigrationLineTimeout channel s <;> simp

/-! #### Key slots and regions (12) -/

@[simp] theorem actKey_appends : actKey.Appends := by constructor <;> simp [actKey]
@[simp] theorem disableRegion_audit (s r) : (disableRegion s r).audit = s.audit := by simp [disableRegion, dropMeta, dropFaults]
@[simp] theorem actRegion_appends (r) : (actRegion r).Appends := by constructor <;> simp [actRegion, enableRegion]
@[simp] theorem actRegionSetting_appends (r) : (actRegionSetting r).Appends := by constructor <;> simp [actRegionSetting]
@[simp] theorem initLines_audit (s r) : (initLines s r).audit = s.audit := by simp [initLines]
@[simp] theorem initNodes_audit (s r) : (initNodes s r).audit = s.audit := by simp [initNodes]
@[simp] theorem initRegion_audit (s r) : (initRegion s r).audit = s.audit := by simp [initRegion]

/-! #### The sealed partition (15): here the trail grows -/

@[simp] theorem writeImage_audit (s p) : (writeImage s p).audit = s.audit := by simp [writeImage]
@[simp] theorem writeImages_audit (s) : (writeImages s).audit = s.audit := by simp [writeImages]
@[simp] theorem reidentify_audit (s) : (reidentify s).audit = s.audit := by simp [reidentify]

/-- A change is recorded at the trail's end (R620). -/
theorem recordChange_appends (s param level session old new) : s.audit <+: (recordChange s param level session old new).audit := by
  simp [recordChange]

@[simp] theorem changeRefused_audit (s param) : (changeRefused s param).audit = s.audit := by simp [changeRefused]

theorem setParam_appends (s who p v) : s.audit <+: (setParam s who p v).audit := by
  simp [setParam, recordChange_appends]

@[simp] theorem actSealParam_appends : actSealParam.Appends := by constructor <;> simp [actSealParam, setParam_appends]
@[simp] theorem actSealKey_appends : actSealKey.Appends := by constructor <;> simp [actSealKey, recordChange_appends]
@[simp] theorem actProvision_appends : actProvision.Appends := by constructor <;> simp [actProvision]
@[simp] theorem actSealCommand_appends (c) : (actSealCommand c).Appends := by constructor <;> simp [actSealCommand]
@[simp] theorem storeCheck_audit (s) : (storeCheck s).audit = s.audit := by fun_cases storeCheck s <;> simp
@[simp] theorem tableFault_audit (s p) : (tableFault s p).audit = s.audit := by simp [tableFault]
@[simp] theorem undoWrites_audit (s) : (undoWrites s).audit = s.audit := by simp [undoWrites]

@[simp] theorem execParameterImageCheck_appends (s) : Appends s (execParameterImageCheck s) := by
  fun_cases execParameterImageCheck s <;> simp +zetaDelta [faultOver]

@[simp] theorem updPort_audit (s p f) : (updPort s p f).audit = s.audit := by simp [updPort]

@[simp] theorem execSampleFrame_appends (p bits s) : Appends s (execSampleFrame p bits s) := by
  fun_cases execSampleFrame p bits s <;> simp +zetaDelta [appendSample]

theorem sealedHash_appends (s h) : s.audit <+: (sealedHash s h).1.audit := by
  fun_cases sealedHash s h <;> simp +zetaDelta [recordChange_appends]

/-! #### Configuration streams (06) -/

@[simp] theorem useOwners_audit (s) : (useOwners s).audit = s.audit := by simp [useOwners]

@[simp] theorem readSource_audit (s src off n given) : (readSource s src off n given).1.audit = s.audit := by
  fun_cases readSource s src off n given <;> simp +zetaDelta [peek]

@[simp] theorem takeFeed_audit (s bs) : (takeFeed s bs).audit = s.audit := by simp [takeFeed]
@[simp] theorem takeChain_audit (s bs) : (takeChain s bs).audit = s.audit := by simp [takeChain]
@[simp] theorem dropSource_audit (s src n fwd) : (dropSource s src n fwd).audit = s.audit := by fun_cases dropSource s src n fwd <;> simp

@[simp] theorem noteSource_audit (s src status) : (noteSource s src status).audit = s.audit := by
  fun_cases noteSource s src status <;> simp +zetaDelta

@[simp] theorem setResult_audit (s h status addr packet offset) : (setResult s h status addr packet offset).audit = s.audit := by
  simp [setResult]

@[simp] theorem loseSource_audit (s src) : (loseSource s src).audit = s.audit := by fun_cases loseSource s src <;> simp

@[simp] theorem passSection_audit (s src h rest) : (passSection s src h rest).audit = s.audit := by
  unfold passSection
  dsimp only
  split
  case h_3 => split <;> next hr => simp [audit_of_fst hr (readSource_audit _ _ _ _ _)]
  all_goals simp

@[simp] theorem refuseHeader_audit (s src h rest status) : (refuseHeader s src h rest status).audit = s.audit := by simp [refuseHeader]
@[simp] theorem acceptHeader_audit (s src h tags) : (acceptHeader s src h tags).audit = s.audit := by simp [acceptHeader]

@[simp] theorem execStreamHeader_appends (src header tags s) : Appends s (execStreamHeader src header tags s) := by
  unfold execStreamHeader
  split
  · simp
  · have hread : (readSource (useOwners s) src 0 512 (padTo header 512)).1.audit = s.audit := by simp
    split
    · next hr => simp [audit_of_fst hr hread]
    · next hr => simp [audit_of_fst hr hread]
    · next hr =>
      have h1 := audit_of_fst hr hread
      split
      · simp [h1]
      · split
        · simp [h1]
        · simp [h1]
        · split
          all_goals next hr => simp [audit_of_fst hr (readSource_audit _ _ _ _ _), h1]

@[simp] theorem endStream_audit (s st status addr) : (endStream s st status addr).audit = s.audit := by simp [endStream]

@[simp] theorem abortWith_audit (s status addr more) : (abortWith s status addr more).audit = s.audit := by
  fun_cases abortWith s status addr more <;> simp +zetaDelta [invalidateLoading]

@[simp] theorem abortStream_audit (s status addr) : (abortStream s status addr).audit = s.audit := by simp [abortStream]
@[simp] theorem updStream_audit (s f) : (updStream s f).audit = s.audit := by simp [updStream]

@[simp] theorem execChunkVerified_appends (chunk s) : Appends s (execChunkVerified chunk s) := by
  fun_cases execChunkVerified chunk s
  case case1 | case2 => simp
  all_goals simp +zetaDelta [audit_of_fst ‹readSource _ _ _ _ _ = _› (readSource_audit _ _ _ _ _)]

@[simp] theorem failed_audit (s status addr) : (failed s status addr).1.audit = s.audit := by simp [failed]
@[simp] theorem done_audit (s) : (done s).1.audit = s.audit := by simp [done]
@[simp] theorem passPacket_audit (s len) : (passPacket s len).audit = s.audit := by simp [passPacket]

/-- A packet's work appends what its own act appends. -/
theorem packetWork_appends (op act next_ s) (hact : ∀ s st d, s.audit <+: (act s st d).1.audit)
    (hnext : ∀ s len, (next_ s len).audit = s.audit) : Appends s (packetWork op act next_ s) := by
  unfold packetWork
  split
  · simp
  · rename_i st o len d _
    have hd := hact (useOwners s) st d
    rw [useOwners_audit] at hd
    repeat' split
    all_goals simp_all

@[simp] theorem packetRow_appends (op act s) (hact : ∀ s st d, s.audit <+: (act s st d).1.audit) : Appends s (packetRow op act s) :=
  packetWork_appends _ _ _ _ hact passPacket_audit

@[simp] theorem execUnknownOpcode_appends (s) : Appends s (execUnknownOpcode s) := by fun_cases execUnknownOpcode s <;> simp
@[simp] theorem putFrame_audit (s a bs) : (putFrame s a bs).audit = s.audit := by simp [putFrame]

@[simp] theorem putFrames_audit (s a i blocks) : (putFrames s a i blocks).1.audit = s.audit := by
  fun_induction putFrames s a i blocks <;> simp [*]

@[simp] theorem writeFrames_audit (s a count bs) : (writeFrames s a count bs).1.audit = s.audit := by simp [writeFrames]

@[simp] theorem execWriteFramesZr_appends (s) : Appends s (execWriteFramesZr s) :=
  packetRow_appends _ _ _ fun s st d => by
    dsimp only
    split <;> simp

@[simp] theorem putWord_audit (s blk w v) : (putWord s blk w v).audit = s.audit := by simp [putWord]

@[simp] theorem putWords_audit (s a i blocks) : (putWords s a i blocks).1.audit = s.audit := by
  fun_induction putWords s a i blocks <;> simp [*]

@[simp] theorem passWords_audit (s len) : (passWords s len).audit = s.audit := by fun_cases passWords s len <;> simp

@[simp] theorem execInitBlockmem_appends (s) : Appends s (execInitBlockmem s) := by
  refine packetWork_appends _ _ _ _ (fun s st d => ?_) passWords_audit
  dsimp only
  repeat' split
  all_goals simp

@[simp] theorem putShadow_audit (s a bs) : (putShadow s a bs).audit = s.audit := by simp [putShadow]

@[simp] theorem putStates_audit (s a i blocks) : (putStates s a i blocks).1.audit = s.audit := by
  fun_induction putStates s a i blocks <;> simp [*]

@[simp] theorem clearPlane_audit (s g p) : (clearPlane s g p).audit = s.audit := by simp [clearPlane]

@[simp] theorem selectSector_audit (p sectors s) : (selectSector p sectors s).1.audit = s.audit := by
  fun_induction selectSector p sectors s <;> simp +zetaDelta [*]

@[simp] theorem execSelectPlane_appends (s) : Appends s (execSelectPlane s) := by
  refine packetRow_appends _ _ _ fun s st d => ?_
  dsimp only
  repeat' split
  all_goals simp

theorem teamWrites_appends (t d) : ∀ w ∈ teamWrites t d, w.2.2.Appends := by
  simp [teamWrites, Action.appends_default]

theorem loaderWrite_appends (s idx sub v) {a : Action} (ha : a.Appends) : s.audit <+: (loaderWrite s idx sub v a).1.audit := by
  fun_cases loaderWrite s idx sub v a <;> exact dictWrite_appends _ _ _ _ ha

theorem loaderWrites_appends (idx ws s) (h : ∀ w ∈ ws, w.2.2.Appends) : s.audit <+: (loaderWrites idx ws s).1.audit := by
  fun_induction loaderWrites idx ws s with
  | case1 => exact List.prefix_rfl
  | case2 s sub v a rest r hr ih =>
    exact (loaderWrite_appends _ _ _ _ (h _ List.mem_cons_self)).trans (ih fun w hw => h w (List.mem_cons_of_mem _ hw))
  | case3 => exact loaderWrite_appends _ _ _ _ (h _ List.mem_cons_self)

@[simp] theorem execSetTeam_appends (s) : Appends s (execSetTeam s) := by
  refine packetRow_appends _ _ _ fun s st d => ?_
  dsimp only
  repeat' split
  all_goals simp [loaderWrites_appends _ _ _ (teamWrites_appends _ _)]

@[simp] theorem actStartupOrder_appends : actStartupOrder.Appends := by constructor <;> simp [actStartupOrder]

@[simp] theorem execSetStartupOrder_appends (s) : Appends s (execSetStartupOrder s) :=
  packetRow_appends _ _ _ fun s _ d => by
    dsimp only
    split <;> simp [loaderWrite_appends]

@[simp] theorem takeValid_audit (s g p crc startup) : (takeValid s g p crc startup).audit = s.audit := by simp [takeValid]

@[simp] theorem markSectors_audit (p m startup sectors s) : (markSectors p m startup sectors s).1.audit = s.audit := by
  fun_induction markSectors p m startup sectors s <;> simp +zetaDelta [*]

@[simp] theorem enterPhase_audit (s ph) : (enterPhase s ph).audit = s.audit := by simp [enterPhase]
@[simp] theorem completeStream_audit (s st) : (completeStream s st).audit = s.audit := by simp [completeStream]
@[simp] theorem takeSealed_audit (s st) : (takeSealed s st).audit = s.audit := by simp [takeSealed]

theorem endWork_appends (s st d) : s.audit <+: (endWork s st d).audit := by
  fun_cases endWork s st d <;> simp +zetaDelta [sealedHash_appends]

@[simp] theorem execEndPacket_appends (s) : Appends s (execEndPacket s) := by
  fun_cases execEndPacket s <;> simp [endWork_appends]

@[simp] theorem execTamperN_appends (widthNs s) : Appends s (execTamperN widthNs s) := by simp [execTamperN, tamperRegions]
@[simp] theorem keyWritten_audit (s which key) : (keyWritten s which key).audit = s.audit := by simp [keyWritten]
@[simp] theorem actEfuseKey_appends : actEfuseKey.Appends := by constructor <;> simp [actEfuseKey]
@[simp] theorem actBbramKey_appends : actBbramKey.Appends := by constructor <;> simp [actBbramKey]
@[simp] theorem actBbramErase_appends : actBbramErase.Appends := by constructor <;> simp [actBbramErase]
@[simp] theorem actFuseLock_appends : actFuseLock.Appends := by constructor <;> simp [actFuseLock]
@[simp] theorem useJtag_audit (s) : (useJtag s).audit = s.audit := by simp [useJtag]
@[simp] theorem jtagRefused_audit (s) : (jtagRefused s).audit = s.audit := by simp [jtagRefused]
@[simp] theorem actOwnership_appends (g) : (actOwnership g).Appends := by constructor <;> simp [actOwnership]
@[simp] theorem actOwnerKey_appends (o) : (actOwnerKey o).Appends := by constructor <;> simp [actOwnerKey]

end Sys2Proof.Machine
end

section
/-! PROOFS. The audit trail (R620): modes, power, loading, the chain, integrity, tests and observation. -/

namespace Sys2Proof.Machine

/-! #### The passages between modes (R623 to R651) -/

@[simp] theorem setMode_audit (s m cause) : (setMode s m cause).audit = s.audit := by simp [setMode]
@[simp] theorem updateGaits_audit (s) : (updateGaits s).audit = s.audit := by simp [updateGaits, regrant]
@[simp] theorem endVerify_audit (s) : (endVerify s).audit = s.audit := by simp [endVerify]
@[simp] theorem loseCapture_audit (s) : (loseCapture s).audit = s.audit := by simp [loseCapture]
@[simp] theorem disarmCapture_audit (s) : (disarmCapture s).audit = s.audit := by simp [disarmCapture]

@[simp] theorem saveFfs_audit (s gs) : (saveFfs s gs).audit = s.audit :=
  foldl_audit _ _ fun s g => by split <;> simp

@[simp] theorem restoreFfs_audit (s gs) : (restoreFfs s gs).audit = s.audit :=
  foldl_audit _ _ fun s g => by split <;> simp

@[simp] theorem loseSectors_audit (s gs) : (loseSectors s gs).audit = s.audit := by simp [loseSectors]
@[simp] theorem loseCounters_audit (s gone) : (loseCounters s gone).audit = s.audit := by simp [loseCounters]
@[simp] theorem dropOpen_audit (s which) : (dropOpen s which).audit = s.audit := by simp [dropOpen]
@[simp] theorem dropPorts_audit (s gs status) : (dropPorts s gs status).audit = s.audit := by simp [dropPorts]
@[simp] theorem selfRefresh_audit (s m) : (selfRefresh s m).audit = s.audit := by simp [selfRefresh, drainChannel, settleBank]

@[simp] theorem quiesceWale_audit (s) : (quiesceWale s).audit = s.audit := by
  simp only [quiesceWale, foldl_audit, answer_audit, State.audit_mk, State.sealed_audit, settleDram_audit, implies_true]
  rw [foldl_audit]
  · simp
  · intro s f
    split <;> simp

@[simp] theorem flushStores_audit (s) : (flushStores s).audit = s.audit := by simp [flushStores]
@[simp] theorem enterHold_audit (s) : (enterHold s).audit = s.audit := by simp [enterHold]
@[simp] theorem leaveHold_audit (s) : (leaveHold s).audit = s.audit := by simp [leaveHold]
@[simp] theorem panWake_audit (s) : (panWake s).audit = s.audit := by simp [panWake]

@[simp] theorem enterStable_audit (s) : (enterStable s).audit = s.audit := by
  simp [enterStable, abandonVerify, failMovers, chainLanesOff, banksOff, panStable]

@[simp] theorem wake_audit (s source) : (wake s source).audit = s.audit := by
  simp [wake, resumeLanes, gaitsAtWake, wakeStack, chainLanesOn, banksOn]

@[simp] theorem freezeTeams_audit (s) : (freezeTeams s).audit = s.audit := by simp [freezeTeams]
@[simp] theorem enterService_audit (s) : (enterService s).audit = s.audit := by simp [enterService]
@[simp] theorem enterSafeStop_audit (s cause) : (enterSafeStop s cause).audit = s.audit := by simp [enterSafeStop]
@[simp] theorem immediate_audit (s cause) : (immediate s cause).audit = s.audit := by simp [immediate]
@[simp] theorem calLanes_audit (s) : (calLanes s).audit = s.audit := by simp [calLanes]

@[simp] theorem enterCal_audit (s cause) : (enterCal s cause).audit = s.audit := by
  simp [enterCal, resumeTests, banksReset, bootFlags, clearWork, retrainStores]

@[simp] theorem assertPorst_audit (s) : (assertPorst s).audit = s.audit := by simp [assertPorst]

/-! #### The chronicle (R697 to R705) -/

@[simp] theorem sendEmergency_audit (s h sess r) : (sendEmergency s h sess r).audit = s.audit := by
  fun_cases sendEmergency s h sess r <;> simp

@[simp] theorem writeRecord_audit (s r) : (writeRecord s r).audit = s.audit := by simp [writeRecord, emergency, bufferTake, writerLoses]
@[simp] theorem summarise_audit (s x) : (summarise s x).audit = s.audit := by simp [summarise]

@[simp] theorem coalesce_audit (s r) : (coalesce s r).audit = s.audit := by
  unfold coalesce
  dsimp only
  repeat' split
  all_goals simp

@[simp] theorem carry_audit (s i) : (carry s i).audit = s.audit := by fun_cases carry s i <;> simp +zetaDelta [writerAccept]
@[simp] theorem execChronicleRecord_appends (s) : Appends s (execChronicleRecord s) := by fun_cases execChronicleRecord s <;> simp

@[simp] theorem onePacket_audit (s whole status) : (onePacket s whole status).audit = s.audit := by
  simp [onePacket, writePacket, generalLess]

@[simp] theorem carryAll_audit (fuel s) : (carryAll fuel s).audit = s.audit := by fun_induction carryAll fuel s <;> simp [*]
@[simp] theorem writeAll_audit (fuel s) : (writeAll fuel s).audit = s.audit := by fun_induction writeAll fuel s <;> simp [*]
@[simp] theorem execGapRecord_appends (source s) : Appends s (execGapRecord source s) := by fun_cases execGapRecord source s <;> simp
@[simp] theorem actAck_appends : actAck.Appends := by constructor <;> simp [actAck]
@[simp] theorem actChronEnable_appends : actChronEnable.Appends := by constructor <;> simp [actChronEnable]
@[simp] theorem actRingPlace_appends (base) : (actRingPlace base).Appends := by constructor <;> simp [actRingPlace]

/-! #### Modes, power and heat (16, 19) -/

@[simp] theorem updSensor_audit (s n f) : (updSensor s n f).audit = s.audit := by simp [updSensor]
@[simp] theorem readSensor_audit (s n) : (readSensor s n).audit = s.audit := by simp [readSensor]
@[simp] theorem effectiveSensor_audit (s n) : (effectiveSensor s n).audit = s.audit := by simp [effectiveSensor]
@[simp] theorem thresholdFault_audit (s sub) : (thresholdFault s sub).audit = s.audit := by simp [thresholdFault]
@[simp] theorem checkThresholds_audit (s) : (checkThresholds s).audit = s.audit := by simp [checkThresholds]
@[simp] theorem crossEvent_audit (s scope code now) : (crossEvent s scope code now).audit = s.audit := by simp [crossEvent]
@[simp] theorem temperatureFlag_audit (s) : (temperatureFlag s).audit = s.audit := by simp [temperatureFlag]
@[simp] theorem checkWarnings_audit (s) : (checkWarnings s).audit = s.audit := by simp [checkWarnings]
@[simp] theorem checkThrottles_audit (s) : (checkThrottles s).audit = s.audit := by simp [checkThrottles]
@[simp] theorem checkShutdown_audit (s) : (checkShutdown s).audit = s.audit := by simp [checkShutdown]
@[simp] theorem beginStop_audit (s host sensor us) : (beginStop s host sensor us).audit = s.audit := by simp [beginStop]
@[simp] theorem predict_audit (s) : (predict s).audit = s.audit := by fun_cases predict s <;> simp +zetaDelta
@[simp] theorem noteResume_audit (s) : (noteResume s).audit = s.audit := by simp [noteResume]
@[simp] theorem resumeNow_audit (s auto) : (resumeNow s auto).audit = s.audit := by simp [resumeNow]

@[simp] theorem actMode_appends : actMode.Appends := by
  refine ⟨fun s who old new => ?_, fun _ _ _ => rfl⟩
  dsimp only [actMode]
  split <;> simp

@[simp] theorem actNotifyAddr_appends : actNotifyAddr.Appends := by constructor <;> simp [actNotifyAddr]
@[simp] theorem takePower_audit (s mw) : (takePower s mw).audit = s.audit := by simp [takePower]
@[simp] theorem execSensorExcluded_appends (n s) : Appends s (execSensorExcluded n s) := by fun_cases execSensorExcluded n s <;> simp
@[simp] theorem execSensorReadmitted_appends (n s) : Appends s (execSensorReadmitted n s) := by fun_cases execSensorReadmitted n s <;> simp
@[simp] theorem execReadsLowFlag_appends (n s) : Appends s (execReadsLowFlag n s) := by fun_cases execReadsLowFlag n s <;> simp
@[simp] theorem actThreshold_appends (sub) : (actThreshold sub).Appends := by constructor <;> simp [actThreshold]
@[simp] theorem actGait_appends : actGait.Appends := by constructor <;> simp [actGait]
@[simp] theorem nextStop_audit (s step) : (nextStop s step).audit = s.audit := by simp [nextStop]

@[simp] theorem drainsEnded_audit (s) : (drainsEnded s).audit = s.audit :=
  foldl_audit _ _ fun s b => by split <;> simp

@[simp] theorem execOrderlyStopDrainStep_appends (s) : Appends s (execOrderlyStopDrainStep s) := by
  simp [execOrderlyStopDrainStep, drainBank]

@[simp] theorem execOrderlyStopFlush_appends (s) : Appends s (execOrderlyStopFlush s) := by simp [execOrderlyStopFlush, flushChronicle]
@[simp] theorem measured_audit (s n mv ok) : (measured s n mv ok).audit = s.audit := by simp [measured]
@[simp] theorem excursion_audit (s n mv) : (excursion s n mv).audit = s.audit := by simp [excursion]

@[simp] theorem execVccioOutOfRange_appends (b mv widthNs s) : Appends s (execVccioOutOfRange b mv widthNs s) := by
  simp [execVccioOutOfRange, bankLost]

/-! #### BIST, the farrier and calibration (R653 to R672) -/

@[simp] theorem blockDown_audit (s src kind unit) : (blockDown s src kind unit).audit = s.audit := by simp [blockDown]
@[simp] theorem markClusters_audit (s g m) : (markClusters s g m).audit = s.audit := by simp [markClusters]
@[simp] theorem clusterDown_audit (s g c) : (clusterDown s g c).audit = s.audit := by simp [clusterDown]
@[simp] theorem repairColumn_audit (s b col) : (repairColumn s b col).audit = s.audit := by simp [repairColumn]
@[simp] theorem copyDown_audit (s t grp k) : (copyDown s t grp k).audit = s.audit := by simp [copyDown]
@[simp] theorem towerUntested_audit (s t) : (towerUntested s t).audit = s.audit := by simp [towerUntested]

@[simp] theorem findFail_audit (bist s unit) : (findFail bist s unit).audit = s.audit := by
  fun_cases findFail bist s unit <;> simp +zetaDelta [disableWays, useSpares, clusterFails]

@[simp] theorem moveRows_audit (s g row) : (moveRows s g row).audit = s.audit := by simp [moveRows]
@[simp] theorem applyShift_audit (s g row source) : (applyShift s g row source).audit = s.audit := by simp [applyShift]

@[simp] theorem groupDown_audit (s group) : (groupDown s group).audit = s.audit := by
  fun_cases groupDown s group <;> simp [towerGroupDown, cutTower]

@[simp] theorem failGroup_audit (s g) : (failGroup s g).audit = s.audit := by simp [failGroup]
@[simp] theorem setLines_audit (s kind n v) : (setLines s kind n v).audit = s.audit := by simp [setLines]
@[simp] theorem failFar_audit (s n t) : (failFar s n t).audit = s.audit := by fun_cases failFar s n t <;> simp
@[simp] theorem driftedGroups_audit (s) : (driftedGroups s).audit = s.audit := by simp [driftedGroups]
@[simp] theorem degrade_audit (s kind n t) : (degrade s kind n t).audit = s.audit := by fun_cases degrade s kind n t <;> simp +zetaDelta
@[simp] theorem useItem_audit (s kind n t) : (useItem s kind n t).audit = s.audit := by fun_cases useItem s kind n t <;> simp
@[simp] theorem calibrate_audit (s r) : (calibrate s r).audit = s.audit := by fun_cases calibrate s r <;> simp +zetaDelta
@[simp] theorem calibrateAll_audit (s runs trigger) : (calibrateAll s runs trigger).audit = s.audit := by simp [calibrateAll]

/-! #### Start-up, the order and the library (07) -/

@[simp] theorem noteReport_audit (s pos flags reason status) : (noteReport s pos flags reason status).audit = s.audit := by
  simp [noteReport]

@[simp] theorem sendReport_audit (s ready) : (sendReport s ready).audit = s.audit := by simp [sendReport]
@[simp] theorem passGo_audit (s countdown) : (passGo s countdown).audit = s.audit := by simp [passGo]
@[simp] theorem sendGo_audit (s) : (sendGo s).audit = s.audit := by simp [sendGo]
@[simp] theorem checkGo_audit (s) : (checkGo s).audit = s.audit := by simp [checkGo]
@[simp] theorem failStart_audit (s reason) : (failStart s reason).audit = s.audit := by simp [failStart]
@[simp] theorem beginLoad_audit (s) : (beginLoad s).audit = s.audit := by simp [beginLoad]
@[simp] theorem leaveReset_audit (s) : (leaveReset s).audit = s.audit := by simp [leaveReset]
@[simp] theorem criticalFailure_audit (s block) : (criticalFailure s block).audit = s.audit := by simp [criticalFailure]

@[simp] theorem execFuseLoadDone_appends (critical vccioMv s) : Appends s (execFuseLoadDone critical vccioMv s) := by
  simp [execFuseLoadDone, sealedStart, sealedRun, measureBank]

@[simp] theorem noteBist_audit (s) : (noteBist s).audit = s.audit := by simp [noteBist]

@[simp] theorem execRepairDone_appends (s) : Appends s (execRepairDone s) := by
  simp [execRepairDone, repairAll, repairSector, shiftImpossible]

@[simp] theorem trainDram_audit (s) : (trainDram s).audit = s.audit := by simp [trainDram, sealedRegion, trainStack, forgetDram]

@[simp] theorem execCalibrationDone_appends (runs flashAnswers octal flashId dir0 dir1 s) :
    Appends s (execCalibrationDone runs flashAnswers octal flashId dir0 dir1 s) := by simp [execCalibrationDone, sealedImage, probeFlash]

@[simp] theorem execStartupVerifyDone_appends (cells s) : Appends s (execStartupVerifyDone cells s) := by
  simp [execStartupVerifyDone, returnDefaults]

@[simp] theorem activateTeam_audit (s t) : (activateTeam s t).audit = s.audit := by
  fun_cases activateTeam s t <;> simp +zetaDelta [disbandAtActivation]

@[simp] theorem execActivation_appends (s) : Appends s (execActivation s) := by simp [execActivation, activateSector]
@[simp] theorem enterRun_audit (s) : (enterRun s).audit = s.audit := by simp [enterRun]

@[simp] theorem takeStep_audit (s k) {act : State → State} (h : ∀ s, (act s).audit = s.audit) : (takeStep s k act).audit = s.audit := by
  simp [takeStep, h]

@[simp] theorem execReleaseOutputs_appends (s) : Appends s (execReleaseOutputs s) := by simp [execReleaseOutputs, releaseHeads]
@[simp] theorem execEnableWrites_appends (s) : Appends s (execEnableWrites s) := by simp [execEnableWrites, startBanks, startLanes]
@[simp] theorem actHostFeed_appends : actHostFeed.Appends := by constructor <;> simp [actHostFeed]
@[simp] theorem setLib_audit (s n x) : (setLib s n x).audit = s.audit := by simp [setLib]
@[simp] theorem copyFailed_audit (s n) : (copyFailed s n).audit = s.audit := by simp [copyFailed]
@[simp] theorem copyImage_audit (s img) : (copyImage s img).audit = s.audit := by fun_cases copyImage s img <;> simp +zetaDelta
@[simp] theorem actLibArea_appends (size) : (actLibArea size).Appends := by constructor <;> simp [actLibArea]
@[simp] theorem actWriteEntry_appends : actWriteEntry.Appends := by constructor <;> simp [actWriteEntry]
@[simp] theorem actWriteData_appends : actWriteData.Appends := by constructor <;> simp [actWriteData]
@[simp] theorem actLoadEntry_appends : actLoadEntry.Appends := by constructor <;> simp [actLoadEntry]
@[simp] theorem execLoadStart_appends (s) : Appends s (execLoadStart s) := by fun_cases execLoadStart s <;> simp
@[simp] theorem actLoadCancel_appends : actLoadCancel.Appends := by constructor <;> simp [actLoadCancel]

/-! #### The device chain (R347 to R351) -/

@[simp] theorem noteDevice_audit (s pos) : (noteDevice s pos).audit = s.audit := by simp [noteDevice]
@[simp] theorem sendPosition_audit (s) : (sendPosition s).audit = s.audit := by simp [sendPosition]
@[simp] theorem actForceGo_appends : actForceGo.Appends := by constructor <;> simp [actForceGo]
@[simp] theorem execGoWaitTimeout_appends (s) : Appends s (execGoWaitTimeout s) := by fun_cases execGoWaitTimeout s <;> simp
@[simp] theorem pushResponse_audit (s msg) : (pushResponse s msg).audit = s.audit := by simp [pushResponse]

@[simp] theorem remoteReply_audit (s src op tag len status data) : (remoteReply s src op tag len status data).audit = s.audit := by
  simp [remoteReply]

@[simp] theorem execRemoteResp_appends (f message s) : Appends s (execRemoteResp f message s) := by
  unfold execRemoteResp
  rw [appends_next, hitchFrame_audit]
  intro s
  dsimp only
  split <;> simp

@[simp] theorem execRemoteTimeout_appends (tag s) : Appends s (execRemoteTimeout tag s) := by
  fun_cases execRemoteTimeout tag s <;> simp +zetaDelta

@[simp] theorem execLaneActive_appends (l slow s) : Appends s (execLaneActive l slow s) := by simp [execLaneActive, linkUp]

/-! #### The integrity services (11) -/

@[simp] theorem scrubTo_audit (s ch p) : (scrubTo s ch p).audit = s.audit := by simp [scrubTo]
@[simp] theorem beginPass_audit (s) : (beginPass s).audit = s.audit := by simp [beginPass]
@[simp] theorem endPass_audit (s) : (endPass s).audit = s.audit := by simp [endPass]
@[simp] theorem scrubAdvance_audit (s ch) : (scrubAdvance s ch).audit = s.audit := by simp [scrubAdvance]
@[simp] theorem maintTransfer_audit (s ch) : (maintTransfer s ch).audit = s.audit := by simp [maintTransfer]

@[simp] theorem watchLine_audit (s ch phys a) : (watchLine s ch phys a).audit = s.audit := by
  fun_cases watchLine s ch phys a <;> simp +zetaDelta

/-- Unfolded as a function, not at its arguments: the kernel would compute the place of the line to compare the match on it with itself. -/
@[simp] theorem scrubWrite_audit (s ch data verifyErrs spareErrs) : (scrubWrite s ch data verifyErrs spareErrs).audit = s.audit := by
  have key : ∀ write, write = scrubWrite → (write s ch data verifyErrs spareErrs).audit = s.audit := by
    intro write hw
    delta scrubWrite at hw
    rw [hw]
    beta_reduce
    extract_lets c a sl s1
    have h1 : s1.audit = s.audit := by simp [s1]
    clear_value s1
    repeat' split
    all_goals simp [h1]
  exact key _ rfl

@[simp] theorem scrubOutcome_audit (s ch phys a spare symbols verifyErrs spareErrs) :
    (scrubOutcome s ch phys a spare symbols verifyErrs spareErrs).audit = s.audit := by
  fun_cases scrubOutcome s ch phys a spare symbols verifyErrs spareErrs <;> simp +zetaDelta

@[simp] theorem scrubFallback_audit (s sub) : (scrubFallback s sub).audit = s.audit := by simp [scrubFallback]
@[simp] theorem useScrub_audit (s) : (useScrub s).audit = s.audit := by simp [useScrub]

/-- Unfolded as scrubWrite is, the checks taken one by one. -/
@[simp] theorem execScrubRead_appends (channel symbols verifyErrs spareErrs s) :
    Appends s (execScrubRead channel symbols verifyErrs spareErrs s) := by
  have key : ∀ read, read = execScrubRead → Appends s (read channel symbols verifyErrs spareErrs s) := by
    intro read hr
    delta execScrubRead at hr
    rw [hr]
    beta_reduce
    extract_lets +onlyGivenNames s0 ch
    refine appends_of_ite (fun _ => by simp [s0]) fun _ => ?_
    extract_lets +onlyGivenNames s1 s2 c
    have h2 : s2.audit = s.audit := by simp [s2, s1, s0]
    clear_value s2
    refine appends_of_ite (fun _ => by simp [h2]) fun _ => ?_
    refine appends_of_ite (fun _ => by simp [h2]) fun _ => ?_
    refine appends_of_ite (fun _ => by simp [h2]) fun _ => ?_
    extract_lets +onlyGivenNames p s3
    have h3 : s3.audit = s.audit := by simp [s3, h2]
    clear_value s3
    split <;> simp [h3]
  exact key _ rfl

@[simp] theorem execScrubWritebackTimeout_appends (channel s) : Appends s (execScrubWritebackTimeout channel s) := by
  fun_cases execScrubWritebackTimeout channel s <;> simp

@[simp] theorem upsetObj_audit (s idx sub m) : (upsetObj s idx sub m).audit = s.audit := by simp [upsetObj]

/-- An upset that does not strike the trail leaves it. -/
theorem strike_audit (s m) {p : PairRef} (h : p ≠ .sealedArea 1) : (strike s p m).audit = s.audit := by
  unfold strike
  repeat' split
  all_goals simp_all

@[simp] theorem objFallback_audit (s idx sub) : (objFallback s idx sub).audit = s.audit := by simp [objFallback]
@[simp] theorem checkRoot_audit (s r) : (checkRoot s r).audit = s.audit := by simp [checkRoot]
@[simp] theorem checkTable_audit (s) : (checkTable s).audit = s.audit := by fun_cases checkTable s <;> simp +zetaDelta
@[simp] theorem dropPairFaults_audit (s) : (dropPairFaults s).audit = s.audit := by simp [dropPairFaults]

theorem execComplementCheck_appends (s) {upset : Option (PairRef × U64)} (h : ∀ m, upset ≠ some (.sealedArea 1, m)) :
    Appends s (execComplementCheck upset s) := by
  unfold execComplementCheck
  rcases upset with _ | ⟨p, m⟩
  · simp
  · have hp : p ≠ .sealedArea 1 := fun hp => h m (by rw [hp])
    simp [strike_audit _ _ hp]

@[simp] theorem actClearCounts_appends : actClearCounts.Appends := by constructor <;> simp [actClearCounts]
@[simp] theorem verifyEnded_audit (s) : (verifyEnded s).audit = s.audit := by fun_cases verifyEnded s <;> simp +zetaDelta
@[simp] theorem actVerify_appends : actVerify.Appends := by constructor <;> simp [actVerify]

@[simp] theorem planeMismatch_audit (s g p) : (planeMismatch s g p).audit = s.audit := by
  unfold planeMismatch
  dsimp only
  repeat' split
  all_goals simp

@[simp] theorem execVerifySectorPlaneDone_appends (cellFault s) : Appends s (execVerifySectorPlaneDone cellFault s) := by
  fun_cases execVerifySectorPlaneDone cellFault s <;> simp +zetaDelta

/-! #### Stake monitors, tests and JTAG (17) -/

@[simp] theorem execStakeMonitorError_appends (g vias s) : Appends s (execStakeMonitorError g vias s) := by
  simp [execStakeMonitorError, replaceVia]

@[simp] theorem actShift_appends : actShift.Appends := by constructor <;> simp [actShift]
@[simp] theorem execRowShiftDone_appends (s) : Appends s (execRowShiftDone s) := by fun_cases execRowShiftDone s <;> simp +zetaDelta
@[simp] theorem recalibrate_audit (s runs trigger) : (recalibrate s runs trigger).audit = s.audit := by simp [recalibrate]
@[simp] theorem actCalibrate_appends (runs) : (actCalibrate runs).Appends := by constructor <;> simp [actCalibrate]

@[simp] theorem testBegins_audit (s kind target) : (testBegins s kind target).audit = s.audit := by
  fun_cases testBegins s kind target <;> simp +zetaDelta

@[simp] theorem actTestRun_appends : actTestRun.Appends := by constructor <;> simp [actTestRun]
@[simp] theorem execTestComplete_appends (fails s) : Appends s (execTestComplete fails s) := by simp [execTestComplete, testEnds]
@[simp] theorem actJtagOpen_appends : actJtagOpen.Appends := by constructor <;> simp [actJtagOpen]
@[simp] theorem actLock_appends : actLock.Appends := by constructor <;> simp [actLock]

/-! #### Observation (18) -/

@[simp] theorem actCounterConfig_appends : actCounterConfig.Appends := by constructor <;> simp [actCounterConfig]
@[simp] theorem actCounterClear_appends : actCounterClear.Appends := by constructor <;> simp [actCounterClear, clearCounter]

@[simp] theorem execCounterMilestone_appends (block counter s) : Appends s (execCounterMilestone block counter s) := by
  fun_cases execCounterMilestone block counter s <;> simp

@[simp] theorem snapshotAt_audit (s t) : (snapshotAt s t).audit = s.audit := by simp [snapshotAt]
@[simp] theorem actSnapshot_appends : actSnapshot.Appends := by constructor <;> simp [actSnapshot]

@[simp] theorem writeCopy_audit (dest fuel off bs s) : (writeCopy dest fuel off bs s).audit = s.audit := by
  fun_induction writeCopy dest fuel off bs s <;> simp [*]

@[simp] theorem execSnapshotReadDone_appends (s) : Appends s (execSnapshotReadDone s) := by
  fun_cases execSnapshotReadDone s <;> simp +zetaDelta

@[simp] theorem actTallyList_appends : actTallyList.Appends := by constructor <;> simp [actTallyList]
@[simp] theorem actTallyTime_appends : actTallyTime.Appends := by constructor <;> simp [actTallyTime]
@[simp] theorem actTallyDest_appends : actTallyDest.Appends := by constructor <;> simp [actTallyDest]
@[simp] theorem actSampleClear_appends : actSampleClear.Appends := by constructor <;> simp [actSampleClear]
@[simp] theorem actSample_appends (sub) : (actSample sub).Appends := by constructor <;> simp [actSample]
@[simp] theorem updMon_audit (s n f) : (updMon s n f).audit = s.audit := by simp [updMon]
@[simp] theorem actMonitor_appends (n) : (actMonitor n).Appends := by constructor <;> simp [actMonitor]
@[simp] theorem actMonSetting_appends (n sub) : (actMonSetting n sub).Appends := by constructor <;> simp [actMonSetting]
@[simp] theorem execMonitorSample_appends (n level s) : Appends s (execMonitorSample n level s) := by simp [execMonitorSample, monitorTake]
@[simp] theorem actTmux_appends : actTmux.Appends := by constructor <;> simp [actTmux]

end Sys2Proof.Machine
end

section
/-! PROOFS. The audit trail (R620): reading and writing objects, a command, a step. -/

namespace Sys2Proof.Machine

/-! #### Reading an object -/

theorem readFault_audit {s t idx sub} (h : readFault s idx sub = some t) : t.audit = s.audit := by
  revert h
  fun_cases readFault s idx sub <;> rintro ⟨⟩ <;> simp

@[simp] theorem dictRead_audit (s who q) : (dictRead s who q).1.audit = s.audit := by
  fun_cases dictRead s who q
  case case4 h => exact readFault_audit h
  all_goals rfl

/-! #### Packets at their targets and initiators (08) -/

@[simp] theorem panCycle_audit (s init off len) : (panCycle s init off len).audit = s.audit := by simp [panCycle]
@[simp] theorem windowCycle_audit (s n off p) : (windowCycle s n off p).audit = s.audit := by simp [windowCycle]
@[simp] theorem panServe_audit (s p off err) : (panServe s p off err).audit = s.audit := by simp [panServe, panRead, panStore]

theorem portServe_audit {s t p g c off} (h : portServe s p g c off = some t) : t.audit = s.audit := by
  revert h
  fun_cases portServe s p g c off <;> rintro ⟨⟩ <;> simp

@[simp] theorem serviceServe_audit (s p off) : (serviceServe s p off).audit = s.audit := by
  fun_cases serviceServe s p off
  case case3 h => simp [readFault_audit h]
  all_goals simp +zetaDelta

theorem serveRequest_audit {s t p tag err} (h : serveRequest s p tag err = some t) : t.audit = s.audit := by
  revert h
  fun_cases serveRequest s p tag err
  case case7 => exact portServe_audit
  all_goals
    rintro ⟨⟩
    simp +zetaDelta

theorem takePacket_audit {s t : State} {k kind p} (h : takePacket s k kind = some (p, t)) : t.audit = s.audit := by
  revert h
  fun_cases takePacket s k kind <;> rintro ⟨⟩
  simp

@[simp] theorem requestArrives_audit (s k kind link tag err) : (requestArrives s k kind link tag err).audit = s.audit := by
  unfold requestArrives
  split
  · rfl
  · next p s1 h =>
    have h1 := takePacket_audit h
    split
    · simp [h1]
    · simp [h1]
    · exact getD_audit fun t ht => (serveRequest_audit ht).trans (by simp [h1])
    · exact getD_audit fun t ht => (serveRequest_audit ht).trans h1

@[simp] theorem deliver_audit (s p status data) : (deliver s p status data).audit = s.audit := by
  fun_cases deliver s p status data <;> simp [drained, lanePushed, tallyAnswer]

@[simp] theorem finish_audit (s p status outcome data) : (finish s p status outcome data).audit = s.audit := by
  simp [finish, sampleTxn, takeSample]

@[simp] theorem responseTaken_audit (s r status) : (responseTaken s r status).audit = s.audit := by
  fun_cases responseTaken s r status <;> simp [statDone, statEvents]

@[simp] theorem responseArrives_audit (s k kind link) : (responseArrives s k kind link).audit = s.audit := by
  fun_cases responseArrives s k kind link
  case case1 => rfl
  all_goals simp [← takePacket_audit ‹_›]

@[simp] theorem execResponseTimeout_appends (k s) : Appends s (execResponseTimeout k s) := by
  fun_cases execResponseTimeout k s <;> simp +zetaDelta

/-! #### What a write of each object means -/

@[simp] theorem actLevelKey_appends (n) : (actLevelKey n).Appends := by
  refine ⟨fun s who old new => ?_, fun _ _ _ => rfl⟩
  dsimp only [actLevelKey]
  split <;> simp

@[simp] theorem actLevelEnable_appends : actLevelEnable.Appends := by constructor <;> simp [actLevelEnable]
@[simp] theorem closeDue_audit (s) : (closeDue s).audit = s.audit := by simp [closeDue]
@[simp] theorem actCanEnable_appends : actCanEnable.Appends := by constructor <;> simp [actCanEnable]
@[simp] theorem actCanRate_appends (sub) : (actCanRate sub).Appends := by constructor <;> simp [actCanRate]
@[simp] theorem actGateList_appends : actGateList.Appends := by constructor <;> simp [actGateList]
@[simp] theorem actMap_appends (idx sub) : (actMap idx sub).Appends := by constructor <;> simp [actMap]
@[simp] theorem actPdEnable_appends : actPdEnable.Appends := by constructor <;> simp [actPdEnable]
@[simp] theorem actPdCycle_appends : actPdCycle.Appends := by constructor <;> simp [actPdCycle]
@[simp] theorem actPdOffset_appends : actPdOffset.Appends := by constructor <;> simp [actPdOffset]
@[simp] theorem actCaptureSetting_appends : actCaptureSetting.Appends := by constructor <;> simp [actCaptureSetting]
@[simp] theorem actChainSync_appends : actChainSync.Appends := by constructor <;> simp [actChainSync]
@[simp] theorem actTimeCfg_appends : actTimeCfg.Appends := by constructor <;> simp [actTimeCfg]
@[simp] theorem actAuditSelect_appends : actAuditSelect.Appends := by constructor <;> simp [actAuditSelect]

/-- Each action of the tables of objects. -/
theorem actRows_appends (idx sub) : ∀ r ∈ actRows1 ++ actRows2 ++ actRows3 ++ actRows4, (r.act idx sub).Appends := by
  simp [actRows1, actRows2, actRows3, actRows4]

theorem actionOf_appends (idx sub) : (actionOf idx sub).Appends := by
  unfold actionOf
  split
  · next h => exact actRows_appends _ _ _ (List.mem_of_find?_eq_some h)
  · exact Action.appends_default

/-! #### The dictionary engine (02) -/

@[simp] theorem plainReply_audit (s svc e payload) : (plainReply s svc e payload).audit = s.audit := by simp [plainReply]
@[simp] theorem tookFrame_audit (s e) : (tookFrame s e).audit = s.audit := by simp [tookFrame]

@[simp] theorem execOpenSession_appends (e level options nonce s) : Appends s (execOpenSession e level options nonce s) := by
  fun_cases execOpenSession e level options nonce s <;> simp +zetaDelta

@[simp] theorem answerChallenge_audit (s e n x hmac sealedHmac) : (answerChallenge s e n x hmac sealedHmac).audit = s.audit := by
  simp [answerChallenge, authFailed, openNow]

@[simp] theorem execResponse_appends (e hmac sealedHmac s) : Appends s (execResponse e hmac sealedHmac s) := by
  fun_cases execResponse e hmac sealedHmac s
  case case6 | case7 | case8 => simp [← receive_audit ‹_›, Framed.state]
  all_goals simp

theorem statusOnly_audit (svc e payload s) {act : State → Fin 16 → State} (h : ∀ s n, (act s n).audit = s.audit) :
    (statusOnly svc e payload act s).audit = s.audit := by
  fun_cases statusOnly svc e payload act s
  case case1 => simp
  case case2 => rfl
  all_goals simp [← receive_audit ‹_›, Framed.state, h]

@[simp] theorem execClose_appends (e s) : Appends s (execClose e s) := by simp [execClose, statusOnly_audit]

@[simp] theorem tapRequest_audit (s who r paired) : (tapRequest s who r paired).1.audit = s.audit := by
  fun_cases tapRequest s who r paired <;> simp

@[simp] theorem execTapForward_appends (tap s) : Appends s (execTapForward tap s) := by fun_cases execTapForward tap s <;> simp +zetaDelta

@[simp] theorem execTapAnswer_appends (tap late status data s) : Appends s (execTapAnswer tap late status data s) := by
  fun_cases execTapAnswer tap late status data s <;> simp +zetaDelta

@[simp] theorem execTapTimeout_appends (tap s) : Appends s (execTapTimeout tap s) := by fun_cases execTapTimeout tap s <;> simp +zetaDelta

@[simp] theorem execRead_appends (e r s) : Appends s (execRead e r s) := by
  fun_cases execRead e r s
  case case5 | case6 =>
    simp +zetaDelta [audit_of_fst ‹tapRequest _ _ _ _ = _› (tapRequest_audit _ _ _ _),
      ← receive_audit ‹receive _ _ _ _ _ = _›, Framed.state]
  all_goals simp +zetaDelta [← receive_audit ‹_›, Framed.state]

@[simp] theorem tapWrite_audit (e paired w s) : (tapWrite e paired w s).audit = s.audit := by
  fun_cases tapWrite e paired w s
  case case4 | case5 =>
    simp +zetaDelta [audit_of_fst ‹tapRequest _ _ _ _ = _› (tapRequest_audit _ _ _ _),
      ← receive_audit ‹receive _ _ _ _ _ = _›, Framed.state]
  all_goals simp +zetaDelta [← receive_audit ‹_›, Framed.state]

theorem anyWrite_appends (e paired w s) : s.audit <+: (anyWrite e paired w s).audit := by
  unfold anyWrite
  split
  · simp
  · simp [serveWrite_appends, actionOf_appends]

@[simp] theorem execWrite_appends (e w s) : Appends s (execWrite e w s) := anyWrite_appends _ _ _ _
@[simp] theorem execPairedWrite_appends (e w s) : Appends s (execPairedWrite e w s) := anyWrite_appends _ _ _ _

@[simp] theorem execDictKeysWrite_appends (e key wrap s) : Appends s (execDictKeysWrite e key wrap s) := by
  simp [execDictKeysWrite, serveWrite_appends]

@[simp] theorem execDictLevelEnableWrite_appends (e v c s) : Appends s (execDictLevelEnableWrite e v c s) := by
  simp [execDictLevelEnableWrite, serveWrite_appends]

@[simp] theorem execGateListTakesEffect_appends (s) : Appends s (execGateListTakesEffect s) := by
  fun_cases execGateListTakesEffect s <;> simp

@[simp] theorem endTransfer_audit (s t) : (endTransfer s t).audit = s.audit := by simp [endTransfer]

theorem commitTransfer_appends (s t v) : s.audit <+: (commitTransfer s t v).1.audit :=
  dictWrite_appends (endTransfer s t) _ _ _ (actionOf_appends _ _)

theorem takeSegment_appends (s t flagged last offset data) : s.audit <+: (takeSegment s t flagged last offset data).1.audit := by
  fun_cases takeSegment s t flagged last offset data <;> simp [(actionOf_appends _ _).late_audit, commitTransfer_appends]

@[simp] theorem execSegment_appends (e offset data s) : Appends s (execSegment e offset data s) := by
  fun_cases execSegment e offset data s
  all_goals
    refine Appends.of_audit_eq ?_ (receive_audit ‹_›)
    simp +zetaDelta [Framed.state, takeSegment_appends]

@[simp] theorem execSegmentTimeout_appends (n transfer s) : Appends s (execSegmentTimeout n transfer s) := by
  fun_cases execSegmentTimeout n transfer s <;> simp

@[simp] theorem execAbort_appends (e code s) : Appends s (execAbort e code s) := by
  fun_cases execAbort e code s <;> simp +zetaDelta [← receive_audit ‹_›, Framed.state]

@[simp] theorem execUnknownService_appends (e service payload s) : Appends s (execUnknownService e service payload s) := by
  simp [execUnknownService, statusOnly_audit]

@[simp] theorem canRead_audit (s node r) : (canRead s node r).audit = s.audit := by
  fun_cases canRead s node r
  case case1 | case2 => next ht => simp [audit_of_fst ht (tapRequest_audit _ _ _ _)]
  all_goals simp +zetaDelta

theorem canWrite_appends (s node r) : s.audit <+: (canWrite s node r).audit := by
  fun_cases canWrite s node r
  case case3 => simp +zetaDelta [dictWrite_appends, actionOf_appends]
  all_goals next ht => simp [audit_of_fst ht (tapRequest_audit _ _ _ _)]

@[simp] theorem canBegin_audit (s node r) : (canBegin s node r).audit = s.audit := by
  fun_cases canBegin s node r <;> simp +zetaDelta [(actionOf_appends _ _).late_audit]

theorem canSegment_appends (s node r last) : s.audit <+: (canSegment s node r last).audit := by
  fun_cases canSegment s node r last
  case case2 | case3 => next ht => simp [audit_of_fst ht (tapRequest_audit _ _ _ _)]
  all_goals simp +zetaDelta [takeSegment_appends]

@[simp] theorem execUsdoRequest_appends (node r s) : Appends s (execUsdoRequest node r s) := by
  unfold execUsdoRequest
  split
  · simp
  · refine Appends.of_audit_eq (t := counted s 0x0000 1 0 1) ?_ (counted_audit _ _ _ _ _)
    dsimp only
    generalize counted s 0x0000 1 0 1 = s1
    repeat' split
    all_goals simp [canSegment_appends, canWrite_appends]

theorem applyEntry_appends (s v bs) : s.audit <+: (applyEntry s v bs).audit := by
  fun_cases applyEntry s v bs <;> simp [dictWrite_appends, actionOf_appends]

theorem applyEntries_appends (image vs off s) : s.audit <+: (applyEntries image vs off s).audit := by
  fun_induction applyEntries image vs off s with
  | case1 => exact List.prefix_rfl
  | case2 v vs off s ih => exact (applyEntry_appends s v _).trans ih

@[simp] theorem execRxImageApply_appends (s) : Appends s (execRxImageApply s) := by
  fun_cases execRxImageApply s
  case case3 s1 s2 =>
    have h1 : s1.audit = s.audit := by simp [s1]
    have h2 : s1.audit <+: s2.audit := by simp [s2, applyEntries_appends]
    simpa [h1] using h2
  all_goals simp

@[simp] theorem sampleEntry_audit (taps s v) : (sampleEntry taps s v).1.audit = s.audit := by
  have hread idx sub : ((readFault s idx sub).getD s).audit = s.audit := getD_audit fun _ h => readFault_audit h
  fun_cases sampleEntry taps s v <;> simp +zetaDelta [hread]

@[simp] theorem sampleEntries_audit (taps vs s) : (sampleEntries taps vs s).1.audit = s.audit := by
  fun_induction sampleEntries taps vs s <;> simp +zetaDelta [*]

theorem defaultWrite_appends (s d) : s.audit <+: (defaultWrite s d).1.audit := by
  fun_cases defaultWrite s d
  case case2 | case3 => next ht => simp [audit_of_fst ht (tapRequest_audit _ _ _ _)]
  all_goals simp [dictWrite_appends, actionOf_appends]

@[simp] theorem execSetObjectDefault_appends (s) : Appends s (execSetObjectDefault s) :=
  packetRow_appends _ _ _ fun s _ d => by
    dsimp only
    split <;> simp [defaultWrite_appends]

/-! #### Edges of the fabric clocks and the switch edge (03 to 05) -/

@[simp] theorem cellsEdge_audit (s n rising gs) : (cellsEdge s n rising gs).audit = s.audit := by simp [cellsEdge]
@[simp] theorem unitEdge_audit (ev n s kv) : (unitEdge ev n s kv).audit = s.audit := by fun_cases unitEdge ev n s kv <;> simp [takePortEdge]
@[simp] theorem settleHalf_audit (now before s x) : (settleHalf now before s x).audit = s.audit := by simp [settleHalf, settleFf]
@[simp] theorem settle_audit (fuel s) : (settle fuel s).audit = s.audit := by fun_induction settle fuel s <;> simp +zetaDelta [*]
@[simp] theorem execFabricClockEdge_appends (clk s) : Appends s (execFabricClockEdge clk s) := by simp [execFabricClockEdge, unitsEdge]

@[simp] theorem execSwitchEdge_appends (team s) : Appends s (execSwitchEdge team s) := by
  unfold execSwitchEdge
  dsimp only
  repeat' split
  all_goals simp [performSwitch, dropUncovered, lastEdges]

/-! #### The idle step -/

@[simp] theorem tick_audit (s) : (tick s).audit = s.audit := by simp [tick, levelTick, timeEdge]

/-! #### A command, and a step -/

/-- Every row but an upset that strikes the trail: by its own lemma, or, where it is one write of an object or another operation or two,
by theirs. -/
theorem exec_appends {c : Instr} (s) (h : ∀ m, c ≠ .complementCheck (some (.sealedArea 1, m))) : Appends s (exec c s) := by
  cases c with
  | complementCheck upset => exact execComplementCheck_appends s fun m hm => h m (by rw [hm])
  | _ => simp [exec,
    execAck, execHitchAckDue, execArithAccumulate, execFqueueUpdate, execFabMemReadCommand, execFabMemReadDone, execFabFclkWrite,
    execFclkDivisorChange, execSwitchAtTime, execStagePlane, execUnstage, execCancelPendingSwitch, execFallBackNow, execReleaseHold,
    execFallbackTrigger, execTeamMembersWrite, execTeamSettingWrite, execPlaneClear, execCaptureArm, execCaptureDisarm,
    execCaptureRelease, execCaptureTrigger, execCaptureCopyDone, execReservationWrite, execReservationTakesEffect,
    execStatClearSelected, execStatClearAll, execStatWindowEnd, execWindowPush, execWindowPop, execWindowRelease,
    execWindowIndexedAccess, execWindowStatusRead, execPanWindowEnable, execPanConflictClear, execBackgroundTestRegion,
    execBackgroundRegionTimeout, execWaleFlush, execWaleInvalidate, execFlushDone, execMaintenanceEntryTimeout,
    execBaseportTransaction, execMoverDoorbell, execMoverStart, execMoverStop, execMoverStartTime, execMoverDescriptorDone,
    execAnnounce, execPdelay, execSyncTimeout, execTimeSet, execSyncInterval, execIoPinWrite, execInputDrain, execDrainRetry,
    execIoBankStart, execIoBankStop, execLaneRxPush, execLanePushRetry, execLaneTxPop, execLaneStart, execLaneStop,
    execLaneReceiverDetected, execLaneLocked, execLaneTs2Received, execLaneRetryTimer, execLockLost, execLaneAdaptStep,
    execServiceLaneAutoTry, execRefreshInterval, execNeighbourRefresh, execActivateTableClear, execRetire, execRetrain,
    execSparesWrite, execCaParityError, execKeyUnwrapEfuse, execKeyUnwrapBbram, execKeyGenerate, execKeyClear, execRegionEnable,
    execRegionEnableInitialise, execRegionDisable, execRegionInitialised, execSealParamWrite, execSealKey, execSealProvision,
    execSealCommand, execSealN, execSampleSync, execWriteFrames, execInitState, execCheckCrc, execKeyRoll, execForwardToChain,
    execMarkValid, execEfuseKeyWrite, execBbramKeyWrite, execBbramErase, execFuseLockPlain, execFuseLockEfuseOnly, execKeyProg,
    execOwnershipWrite, execOwnerKeyWrite, execCoalesceWindowEnd, execRingPacketWrite, execAckAlarm, execChronicleEnable,
    execAutoResume, execModeRun, execModeHold, execModeStable, execModeService, execOrderlyStop, execResume, execRestart, execWakeN,
    execWakeTime, execGaitStepSlower, execGaitStepFaster, execGaitFloorWrite, execOrderlyStopFallbacks, execSafeStopEntry, execSafeN,
    execVinCoreOutOfRange, execVauxLow, execVdramVppOutOfRange, execVlaneOutOfRange, execRootPllLockLoss, execSensorRead,
    execDelayLineStep, execPorstN, execVauxVinCoreReached, execSysrstN, execSysrstNRelease, execBistStart, execBistWaitTick,
    execBistDone, execLoadPhaseEnd, execClockLock, execReleaseSetReset, execStartupOrderWrite, execHostFeedData, execLibraryCopy,
    execLibraryCopyDone, execLibraryAreaWrite, execWriteEntry, execWriteData, execLoadEntry, execCancelCurrent, execCancelAll,
    execChainDataTimeout, execPosition, execStream, execReport, execReportTimeout, execGo, execForceGo, execDelayReq, execDelayResp,
    execRemoteReq, execRemoteRequestPush, execScrubPassLate, execClearCounts, execVerify, execVerifyRound, execShift,
    execTemperatureCalibration, execCalibrateNow, execTestRunStart, execJtagOpenWrite, execLockCmd, execExtest, execIdcode,
    execSamplePreload, execExtestPulse, execExtestTrain, execDebug, execDieSelect, execBypass, execCounterConfigWrite,
    execCounterClearSelected, execCounterClearAll, execTallySnapshot, execSnapshotNow, execSampleBufferClear, execMonitorStart,
    execMonitorStop, execMonitorClear, execNocReadRequest, execNocWriteRequest, execNocReadResponse, execNocWriteResponse,
    execLevelLockExpiry, execOpeningTimeout, execIdleTimeout, execCanEnable, execCanBusOff, execProcessData, execPdReceiveFault,
    execTxImageSample, execBlockmemPortAccess]

/-- Settles O8: the idle step leaves the trail, and of what a row's operations do to it, only the recording of a change stores a record,
at its end. -/
theorem auditAppendOnly : Obligations.AuditAppendOnly := by
  intro s t hstep hspared
  unfold step at hstep
  split at hstep
  · obtain rfl : tick s = t := Host.Outcome.next.inj hstep
    exact ⟨[], (tick_audit s).trans (List.append_nil _).symm⟩
  · next c rest hq =>
    have happ := exec_appends { s with pending := rest } fun m hc => hspared m rest (hc ▸ hq)
    rw [hstep] at happ
    obtain ⟨more, hmore⟩ := happ
    exact ⟨more, hmore.symm⟩

end Sys2Proof.Machine
end

section
/-! PROOFS. The tally reader's snapshots (R688): when one is taken, and when it is missed. -/

namespace Sys2Proof.Machine

/-! #### What a record leaves of the observation part -/

/-- Of the observation part an event changes the chronicle and the alarm bits alone. -/
theorem event_obs_eq (s : State) (src code : Nat) (p : List Byte) :
    ∃ c r, (event s src code p).obs = { s.obs with chron := c, errorReg := r } := by
  unfold event recordAt raiseAlarm sourceTake
  dsimp only
  split <;> split <;> exact ⟨_, _, rfl⟩

@[simp] theorem event_tallyNext (s : State) (src code : Nat) (p : List Byte) :
    (event s src code p).obs.tallyNext = s.obs.tallyNext := by
  obtain ⟨c, r, h⟩ := event_obs_eq s src code p; rw [h]
@[simp] theorem event_latched (s : State) (src code : Nat) (p : List Byte) :
    (event s src code p).obs.latched = s.obs.latched := by
  obtain ⟨c, r, h⟩ := event_obs_eq s src code p; rw [h]
@[simp] theorem event_snapMissed (s : State) (src code : Nat) (p : List Byte) :
    (event s src code p).obs.snapMissed = s.obs.snapMissed := by
  obtain ⟨c, r, h⟩ := event_obs_eq s src code p; rw [h]

/-! #### A snapshot due, by whether the previous one is still being read -/

/-- What a snapshot takes: the words of the counters listed. -/
def tallyWords (s : State) : List U64 := (tallyList s).map fun k => BitVec.ofNat 64 (counterWord s k)

theorem snapshotAt_idle {s : State} (h : s.obs.latched = none) (t : Nat) :
    snapshotAt s t = { s with obs.latched := some (t, tallyWords s) } := by
  simp [snapshotAt, tallyWords, h]

theorem snapshotAt_reading {s : State} (h : s.obs.latched ≠ none) (t : Nat) : snapshotAt s t =
    event { s with obs.snapMissed := satInc s.obs.snapMissed maxU32 } tallySrc 0xB013 (u64 t) := by
  simp [snapshotAt, Option.isSome_iff_ne_none.mpr h]

/-- Taken or missed, a snapshot leaves the time of the next one. -/
@[simp] theorem snapshotAt_tallyNext (s : State) (t : Nat) : (snapshotAt s t).obs.tallyNext = s.obs.tallyNext := by
  by_cases h : s.obs.latched = none
  · rw [snapshotAt_idle h]
  · rw [snapshotAt_reading h, event_tallyNext]

theorem snapshotAt_latched_idle {s : State} (h : s.obs.latched = none) (t : Nat) :
    (snapshotAt s t).obs.latched = some (t, tallyWords s) := by
  rw [snapshotAt_idle h]

theorem snapshotAt_latched_reading {s : State} (h : s.obs.latched ≠ none) (t : Nat) :
    (snapshotAt s t).obs.latched = s.obs.latched := by
  rw [snapshotAt_reading h, event_latched]

theorem snapshotAt_snapMissed_reading {s : State} (h : s.obs.latched ≠ none) (t : Nat) :
    (snapshotAt s t).obs.snapMissed = satInc s.obs.snapMissed maxU32 := by
  rw [snapshotAt_reading h, event_snapMissed]

/-! #### The time of the next snapshot -/

/-- The state with the time of the next snapshot replaced. -/
def State.setTallyNext (s : State) (n : Nat) : State := { s with obs.tallyNext := n }

@[simp] theorem State.setTallyNext_tallyNext (s : State) (n : Nat) : (s.setTallyNext n).obs.tallyNext = n := rfl
@[simp] theorem State.setTallyNext_latched (s : State) (n : Nat) : (s.setTallyNext n).obs.latched = s.obs.latched := rfl
@[simp] theorem State.setTallyNext_snapMissed (s : State) (n : Nat) : (s.setTallyNext n).obs.snapMissed = s.obs.snapMissed := rfl
@[simp] theorem State.setTallyNext_num (s : State) (n idx sub : Nat) : (s.setTallyNext n).num idx sub = s.num idx sub := rfl
@[simp] theorem State.setTallyNext_counterWord (s : State) (n k : Nat) : counterWord (s.setTallyNext n) k = counterWord s k := rfl

@[simp] theorem tallyWords_setTallyNext (s : State) (n : Nat) : tallyWords (s.setTallyNext n) = tallyWords s := by
  simp [tallyWords, tallyList]

/-- TALLY_SNAPSHOT once its time has come: the next time is set, and the snapshot of this one taken or missed. -/
theorem execTallySnapshot_due {s : State} (hset : s.obs.tallyNext ≠ 0) (hdue : s.obs.tallyNext ≤ s.tai) (hmode : s.mode ≠ .startUp) :
    execTallySnapshot s = .next (snapshotAt
      (s.setTallyNext (if s.num 0x6D22 2 = 0 then 0 else s.obs.tallyNext + s.num 0x6D22 2 * 1000)) s.obs.tallyNext) := by
  simp [execTallySnapshot, State.setTallyNext, hset, Nat.not_lt.mpr hdue, hmode]

/-! #### Writes of OBS_TALLY_CFG -/

theorem row_tallyTime : rowOf 0x6D22 1 =
    some ⟨0x6D22, 0x6D22, 1, 1, 0x1B, .rw, 2, 0, [], 0, 0, 0⟩ :=
  rowOf_eq (mem_rows6Da (List.mem_of_getElem? (i := 13) rfl)) (by decide)

theorem actionOf_tallyTime : actionOf 0x6D22 1 = actTallyTime := rfl

theorem answerTap_obs (s : State) (t : TapReq) (status length : Nat) (data : List Byte) :
    (answerTap s t status length data).obs = s.obs := by
  unfold answerTap
  split
  · exact respond_obs _ _ _ _
  · rfl
  · rfl

/-- A session that closes leaves the time of the next snapshot: it answers its requests at taps, and is recorded. -/
theorem closeSession_tallyNext (s : State) (n reason : Nat) : (closeSession s n reason).obs.tallyNext = s.obs.tallyNext := by
  unfold closeSession
  split
  · rfl
  · rw [event_tallyNext]
    exact congrArg Observe.tallyNext (foldl_keeps State.obs (fun s t => answerTap_obs s t _ _ _) _ _)

theorem closeDue_tallyNext (s : State) : (closeDue s).obs.tallyNext = s.obs.tallyNext := by
  unfold closeDue
  refine foldl_keeps (fun s : State => s.obs.tallyNext) (fun s k => ?_) (List.range 16) s
  split
  · rfl
  · exact closeSession_tallyNext _ _ _

/-- A WRITE of an object outside the tap area that passes every check takes effect and is answered; sessions due to close then close. -/
theorem exec_write_goes {s s1 : State} {e : Env} {w : WriteReq} {a : Action} {who : Requester} (harea : inTapArea w.index.toNat = false)
    (ha : actionOf w.index.toNat w.sub.toNat = a) (h : WriteGoes s e false w a s1 who) :
    exec (.write e w) s = .next (closeDue (writeAnswered s1 who e false w a)) := by
  have hrun : exec (.write e w) s = .next (anyWrite e false w s) := rfl
  rw [hrun, anyWrite, harea, if_neg Bool.false_ne_true, ha, serveWrite_goes h]

@[simp] theorem writeAnswered_obs (s1 : State) (who : Requester) (e : Env) (paired : Bool) (w : WriteReq) (a : Action) :
    (writeAnswered s1 who e paired w a).obs = (written s1 who paired w a).obs := respond_obs _ _ _ _

/-- A value written to OBS_TALLY_CFG.time is the time of the next snapshot. -/
theorem written_tallyTime (s1 : State) (who : Requester) (v : U64) :
    (written s1 who false (wholeWrite 0x6D22 1 (u64 v.toNat)) actTallyTime).obs.tallyNext = v.toNat := by
  rw [written_rw (by decide) (by decide) row_tallyTime rfl rfl rfl]
  exact leNat_u64 v

/-- OBS_TALLY_CFG.command 1 is a snapshot at the TAI of its write. -/
theorem written_snapshot (s1 : State) (who : Requester) :
    written s1 who false (wholeWrite 0x6D22 4 [1]) actSnapshot = snapshotAt s1 s1.tai :=
  written_wo (by decide) (by decide) row_snapshotNow rfl rfl

/-- Settles O59: a write sets the time, and a snapshot due, by the time or by the command, is taken or missed as one at a time. -/
theorem snapshotRules : Obligations.SnapshotRules := by
  unfold Obligations.SnapshotRules
  refine ⟨fun e v s s1 who hgoes => ?_, fun s hset hdue hmode => ?_, fun e => rowCompletes_host (fun _ => rfl) fun _ s1 who _ => ?_⟩
  · rw [actionOf_tallyTime] at hgoes
    refine ⟨_, exec_write_goes (show inTapArea 0x6D22 = false by decide) actionOf_tallyTime hgoes, ?_⟩
    rw [closeDue_tallyNext, writeAnswered_obs, written_tallyTime]
  · refine ⟨_, execTallySnapshot_due hset hdue hmode, ?_, fun hidle => ?_, fun hreading => ?_⟩
    · rw [snapshotAt_tallyNext, State.setTallyNext_tallyNext]
    · rw [snapshotAt_latched_idle (by rwa [State.setTallyNext_latched]), tallyWords_setTallyNext, tallyWords]
    · rw [← s.setTallyNext_latched] at hreading
      exact ⟨snapshotAt_latched_reading hreading _, snapshotAt_snapMissed_reading hreading _, _, snapshotAt_reading hreading _⟩
  · rw [writeAnswered_obs, written_snapshot]
    exact ⟨fun hidle => snapshotAt_latched_idle hidle _,
      fun hreading => ⟨snapshotAt_latched_reading hreading _, snapshotAt_snapMissed_reading hreading _⟩⟩

end Sys2Proof.Machine
end

section
/-! PROOFS. Where the machine stops (R709, R710, log entry 68): at a supply beyond its absolute maximum, and at no other command. A command
whose condition does not hold is no action (log entry 11), and so answers a next state too. -/

namespace Sys2Proof.Machine

/-! #### Commands that answer a next state -/

/-- A command is answered by a next state. -/
def Proceeds (r : Res) : Prop := ∃ t, r = .next t

theorem Proceeds.next {t : State} : Proceeds (.next t) := ⟨t, rfl⟩

theorem Proceeds.ite {c : Prop} {_ : Decidable c} {a b : Res} (ha : Proceeds a) (hb : Proceeds b) : Proceeds (if c then a else b) := by
  split
  · exact ha
  · exact hb

/-- A row that stops the machine under a condition, where the condition does not hold. -/
theorem Proceeds.of_not {c : Prop} {_ : Decidable c} {a b : Res} (hc : ¬c) (hb : Proceeds b) : Proceeds (if c then a else b) := by
  rwa [if_neg hc]

/-! Next, the rows that branch by what they find (a queue's head, a kept answer, a checked frame), in the order of their parts: each branch
ends in a state. -/

/-! #### The hitch, teams, the network and Wale (05, 08, 09) -/

@[simp] theorem execHitchResend_proceeds (up s) : Proceeds (execHitchResend up s) := by
  fun_cases execHitchResend up s <;> exact .next

@[simp] theorem execStagingStart_proceeds (tower s) : Proceeds (execStagingStart tower s) := by
  fun_cases execStagingStart tower s <;> exact .next

@[simp] theorem execStagingComplete_proceeds (tower s) : Proceeds (execStagingComplete tower s) := by
  fun_cases execStagingComplete tower s <;> exact .next

@[simp] theorem execReinRequest_proceeds (sector plane s) : Proceeds (execReinRequest sector plane s) := by
  fun_cases execReinRequest sector plane s <;> exact .next

@[simp] theorem execFenceTimeout_proceeds (team s) : Proceeds (execFenceTimeout team s) := by
  fun_cases execFenceTimeout team s <;> exact .next

@[simp] theorem execCaptureEdge_proceeds (routed s) : Proceeds (execCaptureEdge routed s) := by
  fun_cases execCaptureEdge routed s <;> exact .next

@[simp] theorem execSwitchEdge_proceeds (team s) : Proceeds (execSwitchEdge team s) := by
  unfold execSwitchEdge
  dsimp only
  split
  case h_1 =>
    split
    · exact .ite .next .next
    · exact .next
  case h_2 =>
    split
    · split
      · exact .ite .next .next
      · exact .next
    · exact .next

@[simp] theorem execPacketPromotedUrgent_proceeds (k s) : Proceeds (execPacketPromotedUrgent k s) := by
  fun_cases execPacketPromotedUrgent k s <;> exact .next

@[simp] theorem execLineFillDone_proceeds (k s) : Proceeds (execLineFillDone k s) := by
  fun_cases execLineFillDone k s <;> exact .next

@[simp] theorem execWriteBackAnswered_proceeds (k status s) : Proceeds (execWriteBackAnswered k status s) := by
  fun_cases execWriteBackAnswered k status s <;> exact .next

@[simp] theorem execResponseTimeout_proceeds (k s) : Proceeds (execResponseTimeout k s) := by
  fun_cases execResponseTimeout k s <;> exact .next

/-! #### Time, I/O, lanes and the DRAM (10, 13, 14) -/

@[simp] theorem execOutputEntryExecute_proceeds (b s) : Proceeds (execOutputEntryExecute b s) := by
  fun_cases execOutputEntryExecute b s <;> exact .next

@[simp] theorem execReturnTimer_proceeds (b pin s) : Proceeds (execReturnTimer b pin s) := by
  fun_cases execReturnTimer b pin s <;> exact .next

@[simp] theorem execLaneStep_proceeds (l s) : Proceeds (execLaneStep l s) := by
  fun_cases execLaneStep l s <;> exact .next

@[simp] theorem execDramRequest_proceeds (k s) : Proceeds (execDramRequest k s) := by
  fun_cases execDramRequest k s <;> exact .next

@[simp] theorem execRequestUrgent_proceeds (channel write k s) : Proceeds (execRequestUrgent channel write k s) := by
  fun_cases execRequestUrgent channel write k s <;> exact .next

@[simp] theorem execDramCommandSlot_proceeds (channel pcB errs spareErrs s) :
    Proceeds (execDramCommandSlot channel pcB errs spareErrs s) := by
  fun_cases execDramCommandSlot channel pcB errs spareErrs s <;> exact .next

@[simp] theorem execMigrationCopy_proceeds (channel symbols s) : Proceeds (execMigrationCopy channel symbols s) := by
  fun_cases execMigrationCopy channel symbols s <;> exact .next

@[simp] theorem execMigrationLineTimeout_proceeds (channel s) : Proceeds (execMigrationLineTimeout channel s) := by
  fun_cases execMigrationLineTimeout channel s <;> exact .next

/-! #### The sealed partition, the loader and start-up (07, 15) -/

@[simp] theorem execParameterImageCheck_proceeds (s) : Proceeds (execParameterImageCheck s) := by
  fun_cases execParameterImageCheck s <;> exact .next

@[simp] theorem execSampleFrame_proceeds (p bits s) : Proceeds (execSampleFrame p bits s) := by
  fun_cases execSampleFrame p bits s <;> exact .next

/-- A packet's row: of another opcode it does nothing, and one that fails a check aborts its stream. -/
@[simp] theorem packetWork_proceeds (op act next_ s) : Proceeds (packetWork op act next_ s) := by
  fun_cases packetWork op act next_ s <;> exact .next

@[simp] theorem execStreamHeader_proceeds (src header tags s) : Proceeds (execStreamHeader src header tags s) := by
  unfold execStreamHeader
  refine .ite .next ?_
  split
  case h_1 | h_2 => exact .next
  case h_3 =>
    split
    case h_1 => exact .next
    case h_2 =>
      split
      case h_1 | h_2 => exact .ite .next .next
      case h_3 => split <;> exact .next

@[simp] theorem execChunkVerified_proceeds (chunk s) : Proceeds (execChunkVerified chunk s) := by
  fun_cases execChunkVerified chunk s <;> exact .next

@[simp] theorem execUnknownOpcode_proceeds (s) : Proceeds (execUnknownOpcode s) := by
  fun_cases execUnknownOpcode s <;> exact .next

@[simp] theorem execEndPacket_proceeds (s) : Proceeds (execEndPacket s) := by
  fun_cases execEndPacket s <;> exact .next

@[simp] theorem execLoadStart_proceeds (s) : Proceeds (execLoadStart s) := by
  fun_cases execLoadStart s <;> exact .next

@[simp] theorem execGoWaitTimeout_proceeds (s) : Proceeds (execGoWaitTimeout s) := by
  fun_cases execGoWaitTimeout s <;> exact .next

@[simp] theorem execRemoteTimeout_proceeds (tag s) : Proceeds (execRemoteTimeout tag s) := by
  fun_cases execRemoteTimeout tag s <;> exact .next

/-! #### Integrity, test, power, and what is observed (11, 16 to 18) -/

@[simp] theorem execChronicleRecord_proceeds (s) : Proceeds (execChronicleRecord s) := by
  fun_cases execChronicleRecord s <;> exact .next

@[simp] theorem execGapRecord_proceeds (source s) : Proceeds (execGapRecord source s) := by
  fun_cases execGapRecord source s <;> exact .next

@[simp] theorem execSensorExcluded_proceeds (n s) : Proceeds (execSensorExcluded n s) := by
  fun_cases execSensorExcluded n s <;> exact .next

@[simp] theorem execSensorReadmitted_proceeds (n s) : Proceeds (execSensorReadmitted n s) := by
  fun_cases execSensorReadmitted n s <;> exact .next

@[simp] theorem execReadsLowFlag_proceeds (n s) : Proceeds (execReadsLowFlag n s) := by
  fun_cases execReadsLowFlag n s <;> exact .next

@[simp] theorem execScrubRead_proceeds (channel symbols verifyErrs spareErrs s) :
    Proceeds (execScrubRead channel symbols verifyErrs spareErrs s) := by
  fun_cases execScrubRead channel symbols verifyErrs spareErrs s <;> exact .next

@[simp] theorem execScrubWritebackTimeout_proceeds (channel s) : Proceeds (execScrubWritebackTimeout channel s) := by
  fun_cases execScrubWritebackTimeout channel s <;> exact .next

@[simp] theorem execVerifySectorPlaneDone_proceeds (cellFault s) : Proceeds (execVerifySectorPlaneDone cellFault s) := by
  fun_cases execVerifySectorPlaneDone cellFault s <;> exact .next

@[simp] theorem execRowShiftDone_proceeds (s) : Proceeds (execRowShiftDone s) := by
  fun_cases execRowShiftDone s <;> exact .next

@[simp] theorem execCounterMilestone_proceeds (block counter s) : Proceeds (execCounterMilestone block counter s) := by
  fun_cases execCounterMilestone block counter s <;> exact .next

@[simp] theorem execSnapshotReadDone_proceeds (s) : Proceeds (execSnapshotReadDone s) := by
  fun_cases execSnapshotReadDone s <;> exact .next

/-! #### The dictionary (02) -/

@[simp] theorem execOpenSession_proceeds (e level options nonce s) : Proceeds (execOpenSession e level options nonce s) := by
  fun_cases execOpenSession e level options nonce s <;> exact .next

@[simp] theorem execResponse_proceeds (e hmac sealedHmac s) : Proceeds (execResponse e hmac sealedHmac s) := by
  fun_cases execResponse e hmac sealedHmac s <;> exact .next

@[simp] theorem execTapForward_proceeds (tap s) : Proceeds (execTapForward tap s) := by
  fun_cases execTapForward tap s <;> exact .next

@[simp] theorem execTapAnswer_proceeds (tap late status data s) : Proceeds (execTapAnswer tap late status data s) := by
  fun_cases execTapAnswer tap late status data s <;> exact .next

@[simp] theorem execTapTimeout_proceeds (tap s) : Proceeds (execTapTimeout tap s) := by
  fun_cases execTapTimeout tap s <;> exact .next

@[simp] theorem execRead_proceeds (e r s) : Proceeds (execRead e r s) := by
  fun_cases execRead e r s <;> exact .next

@[simp] theorem execGateListTakesEffect_proceeds (s) : Proceeds (execGateListTakesEffect s) := by
  fun_cases execGateListTakesEffect s <;> exact .next

@[simp] theorem execSegment_proceeds (e offset data s) : Proceeds (execSegment e offset data s) := by
  fun_cases execSegment e offset data s <;> exact .next

@[simp] theorem execSegmentTimeout_proceeds (n transfer s) : Proceeds (execSegmentTimeout n transfer s) := by
  fun_cases execSegmentTimeout n transfer s <;> exact .next

@[simp] theorem execAbort_proceeds (e code s) : Proceeds (execAbort e code s) := by
  fun_cases execAbort e code s <;> exact .next

@[simp] theorem execUsdoRequest_proceeds (node r s) : Proceeds (execUsdoRequest node r s) := by
  fun_cases execUsdoRequest node r s <;> exact .next

@[simp] theorem execRxImageApply_proceeds (s) : Proceeds (execRxImageApply s) := by
  fun_cases execRxImageApply s <;> exact .next

/-! #### Supplies beyond their absolute maximum -/

/-- Whether a command measures a supply beyond its absolute maximum (R709). -/
def measuresBeyond : Instr → Bool
  | .vauxVinCoreReached vauxMv vinMv => decide (2100 < vauxMv ∨ 2100 < vinMv)
  | .vinCoreOutOfRange mv _ => beyond mv 2100
  | .vauxLow mv _ => beyond mv 2100
  | .vdramVppOutOfRange vpp mv _ => beyond mv (if vpp then 2100 else 1400)
  | .vlaneOutOfRange high mv _ => beyond mv (if high then 1500 else 1100)
  | .vccioOutOfRange b mv _ => beyond mv (if b.val < 6 then 2100 else 3800)
  | _ => false

/-- The machine stops at a supply beyond its absolute maximum (R710). -/
theorem exec_fault_of_measuresBeyond {c : Instr} (s : State) (h : measuresBeyond c = true) :
    exec c s = .fault .beyondAbsoluteMaximum := by
  revert h
  fun_cases measuresBeyond c with
  | case1 => exact fun h => if_pos (of_decide_eq_true h)
  | case7 => exact fun h => nomatch h
  | _ => exact fun h => if_pos h

/-- The commands that measure supplies. -/
theorem supply_of_measuresBeyond {c : Instr} (h : measuresBeyond c = true) :
    (∃ a b, c = .vauxVinCoreReached a b) ∨ (∃ mv w, c = .vinCoreOutOfRange mv w) ∨ (∃ mv w, c = .vauxLow mv w) ∨
      (∃ v mv w, c = .vdramVppOutOfRange v mv w) ∨ (∃ h mv w, c = .vlaneOutOfRange h mv w) ∨
      (∃ b mv w, c = .vccioOutOfRange b mv w) := by
  revert h
  fun_cases measuresBeyond c with
  | case7 => exact fun h => nomatch h
  | _ => simp

/-- Every other command answers a next state: a supply within its absolute maximum, a row under one condition or several in turn, a packet,
a row that branches by what it finds, and last the rows that answer at once. -/
theorem exec_proceeds {c : Instr} (s : State) (h : measuresBeyond c = false) : Proceeds (exec c s) := by
  cases c with
  | vauxVinCoreReached => exact .of_not (of_decide_eq_false h) .next
  | vlaneOutOfRange | vccioOutOfRange => exact .of_not (ne_true_of_eq_false h) .next
  | vinCoreOutOfRange | vauxLow | vdramVppOutOfRange => exact .of_not (ne_true_of_eq_false h) (.ite .next .next)
  | levelLockExpiry | openingTimeout | idleTimeout | canBusOff | pdReceiveFault | captureCopyDone | tamperN | bistWaitTick | repairDone
    | activation | libraryCopy | reportTimeout | reservationTakesEffect | moverDescriptorDone | statWindowEnd | flushDone
    | backgroundRegionTimeout | retrainBurst | caParityError | scrubPassLate | complementCheck | regionInitialised | sync | announce
    | pdelay | syncTimeout | inputEdge | laneTs2Received | laneActive | laneRxPush | laneAdaptStep | serviceLaneAutoTry | sampleSync
    | gaitStepSlower | gaitStepFaster | rootPllLockLoss | testComplete | tallySnapshot | monitorSample | ringPacketWrite | syncInterval =>
    exact .ite .next .next
  | unknownService | fabMemReadDone | keyProg | porstN | sysrstN | fuseLoadDone | bistDone | startupVerifyDone | loadPhaseEnd
    | libraryCopyDone | backgroundTestRegion | refreshInterval | verifyRound | laneTxPop | sealN | stakeMonitorError | debug =>
    exact .ite .next (.ite .next .next)
  | processData => exact .ite .next (.ite .next (.ite .next (.ite .next .next)))
  | txImageSample | bistStart | calibrationDone | outputPoll | safeN => exact .ite .next (.ite .next (.ite .next .next))
  | captureTrigger => exact .ite .next (.ite (.ite .next .next) .next)
  | remoteRequestPush | laneLocked => exact .ite .next (.ite .next (.ite .next (.ite .next (.ite .next .next))))
  | selectPlane | writeFrames | writeFramesZr | initBlockmem | initState | setTeam | setStartupOrder | checkCrc | keyRoll | forwardToChain
    | setObjectDefault | markValid =>
    simp only [exec, packetRow, packetWork_proceeds, execSelectPlane, execWriteFrames, execWriteFramesZr, execInitBlockmem,
      execInitState, execSetTeam, execSetStartupOrder, execCheckCrc, execKeyRoll, execForwardToChain, execSetObjectDefault, execMarkValid]
  | openSession | response | read | segment | segmentTimeout | abort | gateListTakesEffect | usdoRequest | rxImageApply | tapForward
    | tapAnswer | tapTimeout | stagingStart | stagingComplete | reinRequest | switchEdge | fenceTimeout | captureEdge | streamHeader
    | chunkVerified | unknownOpcode | endPacket | loadStart | goWaitTimeout | hitchResend | remoteTimeout | responseTimeout
    | packetPromotedUrgent | lineFillDone | writeBackAnswered | dramRequest | dramCommandSlot | requestUrgent | migrationLineTimeout
    | scrubRead | scrubWritebackTimeout | verifySectorPlaneDone | outputEntryExecute | returnTimer | laneStep | parameterImageCheck
    | sampleFrame | sensorExcluded | sensorReadmitted | readsLowFlag | rowShiftDone | counterMilestone | snapshotReadDone | chronicleRecord
    | gapRecord | migrationCopy =>
    simp [exec]
  | _ => exact .next

/-- Settles O10: a command that measures no supply beyond its absolute maximum answers a next state, and one that does stops the machine. -/
theorem onlySuppliesStop : Obligations.OnlySuppliesStop := by
  unfold Obligations.OnlySuppliesStop
  intro c s
  cases h : measuresBeyond c with
  | false => exact .inl (exec_proceeds s h)
  | true => exact .inr ⟨exec_fault_of_measuresBeyond s h, supply_of_measuresBeyond h⟩

end Sys2Proof.Machine
end

section
-- The proofs from here on are elaborated one after another: side by side they take more memory than the check allows.
set_option Elab.async false

section
/-! PROOFS. Scopes: what an operation may change, and how simp follows a chain of operations back. Each operation has one lemma
that says its scope; the frames of the commands (O49 to O54) and the invariants of every step (O4, O7, O9) are read off it. -/

namespace Sys2Proof.Machine

/-- What an operation may change: parts of State, objects beyond their fallback (R46), the bytes of the two memories, and the level
monitors. -/
structure Scope where
  parts : List Part
  keys : ObjKey → Prop := fun _ => False
  dramBytes : Prop := False
  panBytes : Prop := False
  monitors : Prop := False
  /-- The settings of ECC_SCRUB, which fall back together (R490), are in a scope together. -/
  scrub : keys (objKey 0x6700 1) ↔ keys (objKey 0x6700 2) := by simp [objKey]

/-- The scope of everything: of what may write any object. -/
def Scope.Full (m : Scope) : Prop := (∀ p, p ∈ m.parts) ∧ (∀ k, m.keys k) ∧ m.dramBytes ∧ m.panBytes ∧ m.monitors

/-- The scope of a list of parts, of no object, no byte and no monitor. -/
def Scope.quiet (ps : List Part) : Scope where
  parts := ps
  keys _ := False
  scrub := Iff.rfl

@[simp] theorem Scope.quiet_parts (ps : List Part) : (Scope.quiet ps).parts = ps := rfl

/-- The entry of an object whose stored pair mismatches. -/
def ObjVal.faulty (x : ObjVal) : Prop := x ≠ {} ∧ x.comp ≠ complBytes x.val

/-- An object is as it was, or some pair of its index outside the scope mismatched (R46). -/
def Scope.kept (m : Scope) (x y : AMap ObjVal) (j : ObjKey) : Prop :=
  AMap.get {} y j = AMap.get {} x j ∨ ∃ k, k / 256 = j / 256 ∧ ¬ m.keys k ∧ (AMap.get {} x k).faulty

/-- Locks stay blown, and what the factory has set stays. -/
structure Fuses.Kept (f g : Fuses) : Prop where
  plainLock : f.plainLock = true → g.plainLock = true
  efuseOnly : f.efuseOnly = true → g.efuseOnly = true
  debugLock : f.debugLock = true → g.debugLock = true
  serial : g.serial = f.serial
  speedGrade : g.speedGrade = f.speedGrade
  vendorKey : g.vendorKey = f.vendorKey

/-- Bytes that change keep the canonical form, and change only where a scope has them. -/
def bytesMove (allowed : Prop) (m n : List Host.Cell) : Prop := n = m ∨ allowed ∧ (Memory.wf m = true → Memory.wf n = true)

/-- That the contents of the DRAM are lost (R715) stays noted, but for a scope that may disable the regions. -/
def dramLostMove (m : Scope) (x y : Pins) : Prop := y.dramLost = x.dramLost ∨ y.dramLost = true ∨ m.keys (objKey 0x6810 1)

/-- What every operation keeps, and what one of a scope may change. -/
structure Moves (m : Scope) (s t : State) : Prop where
  frame : changesOnly m.parts s t
  objects : ∀ j, m.keys j ∨ m.kept s.obj t.obj j
  outs : s.outs <+: t.outs
  fuses : s.fuses.Kept t.fuses
  dramBytes : bytesMove m.dramBytes s.dram.mem t.dram.mem
  panBytes : bytesMove m.panBytes s.pan.mem t.pan.mem
  monitors : t.obs.monitors = s.obs.monitors ∨ m.monitors
  dramLost : dramLostMove m s.board t.board

theorem Fuses.Kept.refl (f : Fuses) : f.Kept f := ⟨id, id, id, rfl, rfl, rfl⟩

theorem Fuses.Kept.trans {f g h : Fuses} (a : f.Kept g) (b : g.Kept h) : f.Kept h :=
  ⟨b.plainLock ∘ a.plainLock, b.efuseOnly ∘ a.efuseOnly, b.debugLock ∘ a.debugLock, b.serial.trans a.serial,
    b.speedGrade.trans a.speedGrade, b.vendorKey.trans a.vendorKey⟩

@[simp] theorem Fuses.kept_iff (f g : Fuses) : f.Kept g ↔ (f.plainLock = true → g.plainLock = true) ∧ (f.efuseOnly = true → g.efuseOnly = true) ∧
    (f.debugLock = true → g.debugLock = true) ∧ g.serial = f.serial ∧ g.speedGrade = f.speedGrade ∧ g.vendorKey = f.vendorKey :=
  ⟨fun ⟨a, b, c, d, e, g⟩ => ⟨a, b, c, d, e, g⟩, fun ⟨a, b, c, d, e, g⟩ => ⟨a, b, c, d, e, g⟩⟩

theorem Part.same_trans {s t u : State} {p : Part} (a : Part.same s t p) (b : Part.same t u p) : Part.same s u p := by
  cases p <;> exact Eq.trans b a

theorem Part.same_refl (s : State) (p : Part) : Part.same s s p := by cases p <;> rfl

theorem bytesMove.trans {p : Prop} {m n o : List Host.Cell} (a : bytesMove p m n) (b : bytesMove p n o) : bytesMove p m o := by
  rcases a with rfl | ⟨hp, a⟩
  · exact b
  · rcases b with rfl | ⟨-, b⟩
    · exact .inr ⟨hp, a⟩
    · exact .inr ⟨hp, b ∘ a⟩

@[simp] theorem bytesMove.refl {p : Prop} (m : List Host.Cell) : bytesMove p m m := .inl rfl

@[simp] theorem bytesMove_put {p : Prop} {m : List Host.Cell} (hp : p) (a : Nat) (b : Byte) : bytesMove p m (Memory.put m a b) :=
  .inr ⟨hp, Memory.wf_put m a b⟩

@[simp] theorem bytesMove_write {p : Prop} {m : List Host.Cell} (hp : p) (a : Nat) (bs : List Byte) : bytesMove p m (Memory.write m a bs) :=
  .inr ⟨hp, Memory.wf_write bs m a⟩

@[simp] theorem bytesMove_filter {p : Prop} {m : List Host.Cell} (hp : p) (q : Host.Cell → Bool) : bytesMove p m (m.filter q) :=
  .inr ⟨hp, AMap.wf_filter _ m q⟩

@[simp] theorem bytesMove_nil {p : Prop} {m : List Host.Cell} (hp : p) : bytesMove p m [] := .inr ⟨hp, fun _ => rfl⟩

theorem dramLostMove.trans {m : Scope} {x y z : Pins} (a : dramLostMove m x y) (b : dramLostMove m y z) : dramLostMove m x z := by
  rcases b with hb | hb
  · exact a.imp hb.trans fun h => h.imp hb.trans id
  · exact .inr hb

theorem dramLostMove.refl {m : Scope} (x : Pins) : dramLostMove m x x := .inl rfl

@[simp] theorem dramLostMove_iff {m : Scope} (x y : Pins) :
    dramLostMove m x y ↔ y.dramLost = x.dramLost ∨ y.dramLost = true ∨ m.keys (objKey 0x6810 1) := Iff.rfl

@[refl, simp] theorem Moves.refl (m : Scope) (s : State) : Moves m s s :=
  ⟨fun p _ => Part.same_refl s p, fun _ => .inr (.inl rfl), List.prefix_rfl, .refl _, .inl rfl, .inl rfl, .inl rfl, .inl rfl⟩

theorem kept_trans {m : Scope} {x y z : AMap ObjVal} (a : ∀ j, m.keys j ∨ m.kept x y j) (b : ∀ j, m.keys j ∨ m.kept y z j) (j : ObjKey) :
    m.keys j ∨ m.kept x z j := by
  rcases b j with hb | hb | ⟨k, hk, hnk, hf⟩
  · exact .inl hb
  · rcases a j with ha | ha | ha
    · exact .inl ha
    · exact .inr (.inl (hb.trans ha))
    · exact .inr (.inr ha)
  · rcases a k with ha | ha | ⟨i, hi, hni, hfi⟩
    · exact absurd ha hnk
    · exact .inr (.inr ⟨k, hk, hnk, ha ▸ hf⟩)
    · exact .inr (.inr ⟨i, hi.trans hk, hni, hfi⟩)

theorem Moves.trans {m : Scope} {s t u : State} (a : Moves m s t) (b : Moves m t u) : Moves m s u :=
  ⟨fun p hp => Part.same_trans (a.frame p hp) (b.frame p hp),
    fun j => kept_trans a.objects b.objects j,
    a.outs.trans b.outs, a.fuses.trans b.fuses, a.dramBytes.trans b.dramBytes, a.panBytes.trans b.panBytes,
    b.monitors.elim (fun h => a.monitors.imp_left h.trans) .inr, a.dramLost.trans b.dramLost⟩

/-- Some move by another way than through the last operation: the side of `Links` that a proof never takes. -/
structure MovesElse (m : Scope) (s t : State) : Prop where
  moves : Moves m s t


/-- An operation that takes s to t keeps to a scope: whatever moves to s, moves on to t. Said as an equivalence, for simp to follow a chain of operations back. -/
abbrev Links (m : Scope) (s t : State) : Prop := ∀ b, Moves m b t ↔ (Moves m b s ∨ MovesElse m b t)

theorem Moves.links {m : Scope} {s t : State} (h : Moves m s t) : Links m s t := fun _ =>
  ⟨fun g => .inr ⟨g⟩, fun g => g.elim (·.trans h) (·.moves)⟩

theorem Links.after {m : Scope} {b s t : State} (h : Links m s t) (hb : Moves m b s) : Moves m b t := (h b).mpr (.inl hb)

theorem Links.moves {m : Scope} {s t : State} (h : Links m s t) : Moves m s t := (h s).mpr (.inl (.refl m s))


/-- A part outside a list is as it was. -/
theorem Links.same {ps : List Part} {s t : State} (h : Links (.quiet ps) s t) (p : Part) (hp : p ∉ ps := by decide) : Part.same s t p :=
  h.moves.frame p hp

theorem Links.monitors_same {ps : List Part} {s t : State} (h : Links (.quiet ps) s t) : t.obs.monitors = s.obs.monitors :=
  h.moves.monitors.resolve_right id

/-- An update of the parts of a scope, where the outputs grow, locks and memories are kept, and objects keep to the scope's keys. -/
@[simp] theorem links_mk {m : Scope} (s : State) {outs freeCtr fuses obj dict clk fab edge planes frames stage grants teams cap loader boot chain noc wale pan dram ecc crypt time banks pins lanes partition power board test obs}
    (h_outs : outs = s.outs ∨ (.outs ∈ m.parts ∧ s.outs <+: outs)) (h_freeCtr : freeCtr = s.freeCtr ∨ .freeCtr ∈ m.parts) (h_fuses :
    fuses = s.fuses ∨ (.fuses ∈ m.parts ∧ s.fuses.Kept fuses)) (h_obj : obj = s.obj ∨ (.obj ∈ m.parts ∧ ∀ j, m.keys j ∨ m.kept
    s.obj obj j)) (h_dict : dict = s.dict ∨ .dict ∈ m.parts) (h_clk : clk = s.clk ∨ .clk ∈ m.parts) (h_fab : fab = s.fab ∨ .fab ∈
    m.parts) (h_edge : edge = s.edge ∨ .edge ∈ m.parts) (h_planes : planes = s.planes ∨ .planes ∈ m.parts) (h_frames : frames =
    s.frames ∨ .frames ∈ m.parts) (h_stage : stage = s.stage ∨ .stage ∈ m.parts) (h_grants : grants = s.grants ∨ .grants ∈ m.parts)
    (h_teams : teams = s.teams ∨ .teams ∈ m.parts) (h_cap : cap = s.cap ∨ .cap ∈ m.parts) (h_loader : loader = s.loader ∨ .loader ∈
    m.parts) (h_boot : boot = s.boot ∨ .boot ∈ m.parts) (h_chain : chain = s.chain ∨ .chain ∈ m.parts) (h_noc : noc = s.noc ∨ .noc ∈
    m.parts) (h_wale : wale = s.wale ∨ .wale ∈ m.parts) (h_pan : pan = s.pan ∨ (.pan ∈ m.parts ∧ bytesMove m.panBytes s.pan.mem
    pan.mem)) (h_dram : dram = s.dram ∨ (.dram ∈ m.parts ∧ bytesMove m.dramBytes s.dram.mem dram.mem)) (h_ecc : ecc = s.ecc ∨ .ecc ∈
    m.parts) (h_crypt : crypt = s.crypt ∨ .crypt ∈ m.parts) (h_time : time = s.time ∨ .time ∈ m.parts) (h_banks : banks = s.banks ∨
    .banks ∈ m.parts) (h_pins : pins = s.pins ∨ .pins ∈ m.parts) (h_lanes : lanes = s.lanes ∨ .lanes ∈ m.parts) (h_sealed : partition
    = s.sealed ∨ .sealed ∈ m.parts) (h_power : power = s.power ∨ .power ∈ m.parts) (h_board :
    board = s.board ∨ (.board ∈ m.parts ∧ dramLostMove m s.board board))
    (h_test : test = s.test ∨ .test ∈ m.parts) (h_obs : obs = s.obs ∨ (.obs ∈ m.parts ∧ (obs.monitors = s.obs.monitors ∨ m.monitors))) :
    Links m s (State.mk s.pending outs freeCtr fuses obj dict clk fab edge planes frames stage grants teams cap loader boot chain noc wale pan dram ecc crypt time banks pins lanes partition power board test obs) := by
  refine Moves.links ⟨fun p hp => ?_, fun j => ?_, ?_, ?_, ?_, ?_, ?_, ?_⟩
  · cases p
    case pending => rfl
    case outs => exact h_outs.elim id fun h => absurd h.1 hp
    case freeCtr => exact h_freeCtr.elim id fun h => absurd h hp
    case fuses => exact h_fuses.elim id fun h => absurd h.1 hp
    case obj => exact h_obj.elim id fun h => absurd h.1 hp
    case dict => exact h_dict.elim id fun h => absurd h hp
    case clk => exact h_clk.elim id fun h => absurd h hp
    case fab => exact h_fab.elim id fun h => absurd h hp
    case edge => exact h_edge.elim id fun h => absurd h hp
    case planes => exact h_planes.elim id fun h => absurd h hp
    case frames => exact h_frames.elim id fun h => absurd h hp
    case stage => exact h_stage.elim id fun h => absurd h hp
    case grants => exact h_grants.elim id fun h => absurd h hp
    case teams => exact h_teams.elim id fun h => absurd h hp
    case cap => exact h_cap.elim id fun h => absurd h hp
    case loader => exact h_loader.elim id fun h => absurd h hp
    case boot => exact h_boot.elim id fun h => absurd h hp
    case chain => exact h_chain.elim id fun h => absurd h hp
    case noc => exact h_noc.elim id fun h => absurd h hp
    case wale => exact h_wale.elim id fun h => absurd h hp
    case pan => exact h_pan.elim id fun h => absurd h.1 hp
    case dram => exact h_dram.elim id fun h => absurd h.1 hp
    case ecc => exact h_ecc.elim id fun h => absurd h hp
    case crypt => exact h_crypt.elim id fun h => absurd h hp
    case time => exact h_time.elim id fun h => absurd h hp
    case banks => exact h_banks.elim id fun h => absurd h hp
    case pins => exact h_pins.elim id fun h => absurd h hp
    case lanes => exact h_lanes.elim id fun h => absurd h hp
    case sealed => exact h_sealed.elim id fun h => absurd h hp
    case power => exact h_power.elim id fun h => absurd h hp
    case board => exact h_board.elim id fun h => absurd h.1 hp
    case test => exact h_test.elim id fun h => absurd h hp
    case obs => exact h_obs.elim id fun h => absurd h.1 hp
  · rcases h_obj with rfl | h
    · exact .inr (.inl rfl)
    · exact h.2 j
  · rcases h_outs with rfl | h
    · exact List.prefix_rfl
    · exact h.2
  · rcases h_fuses with rfl | h
    · exact .refl _
    · exact h.2
  · rcases h_dram with rfl | h
    · exact .inl rfl
    · exact h.2
  · rcases h_pan with rfl | h
    · exact .inl rfl
    · exact h.2
  · rcases h_obs with rfl | h
    · exact .inl rfl
    · exact h.2
  · rcases h_board with rfl | h
    · exact .inl rfl
    · exact h.2


@[simp] theorem moves_ite {m : Scope} {b s t : State} (c : Prop) [Decidable c] :
    Moves m b (if c then s else t) ↔ if c then Moves m b s else Moves m b t := by
  split <;> rfl

@[simp] theorem moves_fst_ite {α : Type} {m : Scope} {b : State} {r q : State × α} (c : Prop) [Decidable c] :
    Moves m b (if c then r else q).1 ↔ if c then Moves m b r.1 else Moves m b q.1 := by
  split <;> rfl

@[simp] theorem moves_mk_fst {α : Type} {m : Scope} {b s : State} (x : α) : Moves m b (s, x).1 ↔ Moves m b s := Iff.rfl

theorem foldl_moves {α : Type} {m : Scope} {f : State → α → State} (l : List α) (s : State) (h : ∀ s x, Moves m s (f s x)) :
    Moves m s (l.foldl f s) := by
  induction l generalizing s with
  | nil => exact .refl m s
  | cons x l ih => exact (h s x).trans (ih _)

@[simp] theorem foldl_links {α : Type} {m : Scope} {f : State → α → State} (l : List α) (s : State) (h : ∀ s x, Moves m s (f s x)) :
    Links m s (l.foldl f s) := (foldl_moves l s h).links

/-- A fold that carries something beside the state. -/
@[simp] theorem foldl_fst_links {α β : Type} {m : Scope} {f : State × β → α → State × β} (l : List α) (r : State × β)
    (h : ∀ r x, Moves m r.1 (f r x).1) : Links m r.1 (l.foldl f r).1 := by
  apply Moves.links
  induction l generalizing r with
  | nil => exact .refl m r.1
  | cons x l ih => exact (h r x).trans (ih _)

/-- The state of an answer, taken apart. -/
theorem moves_of_fst {α : Type} {m : Scope} {r : State × α} {s t : State} {x : α} (h : r = (t, x)) (hr : Moves m s r.1) : Moves m s t := by
  rwa [h] at hr

/-- The state that an outcome gives, where it gives one. -/
theorem moves_getD {m : Scope} {o : Option State} {s : State} (h : ∀ t, o = some t → Moves m s t) : Moves m s (o.getD s) := by
  cases o with
  | none => exact .refl m s
  | some t => exact h t rfl

/-- A command's answer, where it is a state at all, is within a scope. -/
def Ends (m : Scope) (s : State) : Res → Prop
  | .next t => Moves m s t
  | _ => True

@[simp] theorem ends_next {m : Scope} {s t : State} : Ends m s (.next t) ↔ Moves m s t := Iff.rfl
@[simp] theorem ends_fault {m : Scope} {s : State} (f : Fault) : Ends m s (.fault f) := trivial

@[simp] theorem ends_ite {m : Scope} {s : State} (c : Prop) [Decidable c] (a b : Res) :
    Ends m s (if c then a else b) ↔ if c then Ends m s a else Ends m s b := by
  split <;> rfl

theorem ends_of_ite {m : Scope} {s : State} {c : Prop} [Decidable c] {a b : Res} (ha : c → Ends m s a) (hb : ¬ c → Ends m s b) :
    Ends m s (if c then a else b) := by
  split
  · exact ha ‹_›
  · exact hb ‹_›

/-- An object's own part in a write is within a scope, where the write takes effect and where it is refused late. -/
structure Action.Within (m : Scope) (a : Action) : Prop where
  apply : ∀ s who old new, Moves m s (a.apply s who old new)
  late : ∀ s v n, Moves m s (a.late s v n)

/-- An object without an action of its own. -/
theorem Action.within_default {m : Scope} : ({} : Action).Within m := ⟨fun s _ _ _ => .refl m s, fun s _ _ => .refl m s⟩

theorem Action.Within.apply_links {m : Scope} {a : Action} (ha : a.Within m) (s who old new) : Links m s (a.apply s who old new) :=
  (ha.apply s who old new).links

theorem Action.Within.late_links {m : Scope} {a : Action} (ha : a.Within m) (s v n) : Links m s (a.late s v n) := (ha.late s v n).links

end Sys2Proof.Machine
end

section
/-! PROOFS. The scope of each operation, in the model's order: requests, the hitch, the fabric, teams and switches. -/

namespace Sys2Proof.Machine

variable {sc : Scope}

/-! #### The shared operations -/

@[simp] theorem State.emit_links (s o) (h : [.outs] ⊆ sc.parts) : Links sc s (State.emit s o) :=
  Moves.links (by simp at h; dsimp only [State.emit]; simp [h])

@[simp] theorem State.drew_links (s n) (h : [.freeCtr] ⊆ sc.parts) : Links sc s (State.drew s n) :=
  Moves.links (by simp at h; dsimp only [State.drew]; simp [h])

theorem stored_faulty {s : State} {idx sub : Nat} (hf : s.pairOk idx sub = false) : (AMap.get {} s.obj (objKey idx sub)).faulty := by
  simp only [State.pairOk, Bool.or_eq_false_iff, decide_eq_false_iff_not] at hf
  exact hf

/-- An object changed, where it is in the scope or its pair mismatches. -/
theorem obj_moves {s : State} {x : AMap ObjVal} {idx sub : Nat} (h : [.obj] ⊆ sc.parts)
    (hx : ∀ j, j ≠ objKey idx sub → AMap.get {} x j = AMap.get {} s.obj j) (hk : sc.keys (objKey idx sub) ∨ s.pairOk idx sub = false) :
    Moves sc s { s with obj := x } := by
  have hkeys : ∀ j, sc.keys j ∨ sc.kept s.obj x j := fun j => by
    by_cases hj : j = objKey idx sub
    · subst hj
      by_cases hm : sc.keys (objKey idx sub)
      · exact .inl hm
      · exact .inr (.inr ⟨_, rfl, hm, stored_faulty (hk.resolve_left hm)⟩)
    · exact .inr (.inl (hx j hj))
  simp at h
  simp [h, hkeys]

/-- Objects of one index changed, where a pair of it mismatches. -/
theorem obj_index_moves {s : State} {x : AMap ObjVal} {idx sub : Nat} (h : [.obj] ⊆ sc.parts) (hs : sub < 256)
    (hx : ∀ j, j / 256 ≠ idx → AMap.get {} x j = AMap.get {} s.obj j) (hk : ¬ sc.keys (objKey idx sub)) (hf : s.pairOk idx sub = false) :
    Moves sc s { s with obj := x } := by
  have hkeys : ∀ j, sc.keys j ∨ sc.kept s.obj x j := fun j => by
    by_cases hj : j / 256 = idx
    · have hi : (idx * 256 + sub) / 256 = idx := by omega
      exact .inr (.inr ⟨_, hi.trans hj.symm, hk, stored_faulty hf⟩)
    · exact .inr (.inl (hx j hj))
  simp at h
  simp [h, hkeys]

theorem putObj_moves {s : State} {idx sub : Nat} (bs) (h : [.obj] ⊆ sc.parts)
    (hk : sc.keys (objKey idx sub) ∨ s.pairOk idx sub = false) : Moves sc s (s.putObj idx sub bs) :=
  obj_moves h (fun _ hj => AMap.get_set_other _ _ _ _ _ hj) hk

theorem resetObj_moves {s : State} {idx sub : Nat} (h : [.obj] ⊆ sc.parts)
    (hk : sc.keys (objKey idx sub) ∨ s.pairOk idx sub = false) : Moves sc s (s.resetObj idx sub) :=
  obj_moves h (fun _ hj => AMap.get_del_other _ _ _ _ hj) hk

@[simp] theorem State.putObj_links (s idx sub bs) (h : [.obj] ⊆ sc.parts) (hk : sc.keys (objKey idx sub)) :
    Links sc s (State.putObj s idx sub bs) :=
  (putObj_moves bs h (.inl hk)).links

@[simp] theorem State.resetObj_links (s idx sub) (h : [.obj] ⊆ sc.parts) (hk : sc.keys (objKey idx sub)) :
    Links sc s (State.resetObj s idx sub) :=
  (resetObj_moves h (.inl hk)).links

@[simp] theorem sourceTake_links (s r trace) (h : [.obs] ⊆ sc.parts) : Links sc s (sourceTake s r trace) :=
  Moves.links (by simp at h; dsimp only [sourceTake]; simp [h])

@[simp] theorem raiseAlarm_links (s sev code) (h : [.board, .obs] ⊆ sc.parts) : Links sc s (raiseAlarm s sev code) :=
  Moves.links (by simp at h; dsimp only [raiseAlarm]; simp [h])

@[simp] theorem recordAt_links (s tai src code sev flags payload) (h : [.board, .obs] ⊆ sc.parts) :
    Links sc s (recordAt s tai src code sev flags payload) :=
  Moves.links (by simp at h; dsimp only [recordAt]; simp [h])

@[simp] theorem recordAt_monitors (s tai src code sev flags payload) :
    (recordAt s tai src code sev flags payload).obs.monitors = s.obs.monitors :=
  (recordAt_links (sc := .quiet [.board, .obs]) s tai src code sev flags payload (by simp)).monitors_same

@[simp] theorem recordAt_dramLost (s tai src code sev flags payload) :
    (recordAt s tai src code sev flags payload).board.dramLost = s.board.dramLost := by
  obtain ⟨a, o, h⟩ := recordAt_eq s tai src code sev flags payload
  rw [h]

@[simp] theorem event_links (s src code payload) (h : [.board, .obs] ⊆ sc.parts) : Links sc s (event s src code payload) :=
  Moves.links (by simp at h; dsimp only [event]; simp [h])

@[simp] theorem event_monitors (s src code payload) : (event s src code payload).obs.monitors = s.obs.monitors :=
  (event_links (sc := .quiet [.board, .obs]) s src code payload (by simp)).monitors_same

@[simp] theorem event_dramLost (s src code payload) : (event s src code payload).board.dramLost = s.board.dramLost :=
  recordAt_dramLost ..

@[simp] theorem traceEvent_links (s tai src code payload) (h : [.board, .obs] ⊆ sc.parts) : Links sc s (traceEvent s tai src code payload)
    :=
  Moves.links (by simp at h; dsimp only [traceEvent]; simp [h])

@[simp] theorem counterAdd_links (s key n) (h : [.board, .obs] ⊆ sc.parts) : Links sc s (counterAdd s key n) :=
  Moves.links (by simp at h; dsimp only [counterAdd]; simp [h])

@[simp] theorem counted_links (s src sel v n) (h : [.board, .obs] ⊆ sc.parts) : Links sc s (counted s src sel v n) :=
  Moves.links (by simp at h; dsimp only [counted]; simp [h])

@[simp] theorem counted_monitors (s src sel v n) : (counted s src sel v n).obs.monitors = s.obs.monitors :=
  (counted_links (sc := .quiet [.board, .obs]) s src sel v n (by simp)).monitors_same

@[simp] theorem counted_dramLost (s src sel v n) : (counted s src sel v n).board.dramLost = s.board.dramLost := by
  obtain ⟨a, o, h⟩ := counted_eq s src sel v n
  rw [h]

@[simp] theorem countComp_links (s idx sub) (h : [.ecc] ⊆ sc.parts) : Links sc s (countComp s idx sub) :=
  Moves.links (by simp at h; dsimp only [countComp]; simp [h])

@[simp] theorem compEvent_links (s idx sub) (h : [.ecc, .board, .obs] ⊆ sc.parts) : Links sc s (compEvent s idx sub) :=
  Moves.links (by simp at h; dsimp only [compEvent]; simp [h])

@[simp] theorem usePair_links (s idx sub) (h : [.obj, .ecc, .board, .obs] ⊆ sc.parts) : Links sc s (usePair s idx sub) := by
  apply Moves.links
  simp at h
  unfold usePair
  split
  · rfl
  · exact (resetObj_moves (by simp [h]) (.inr (Bool.eq_false_of_not_eq_true ‹_›))).trans
      (compEvent_links _ idx sub (by simp [h])).moves

@[simp] theorem noteFault_links (s key) (h : [.ecc] ⊆ sc.parts) : Links sc s (noteFault s key) :=
  Moves.links (by simp at h; dsimp only [noteFault]; simp [h])

@[simp] theorem State.setSession_links (s n x) (h : [.dict] ⊆ sc.parts) : Links sc s (State.setSession s n x) :=
  Moves.links (by simp at h; dsimp only [State.setSession]; simp [h])

/-! #### Frames and sessions (R53 to R62) -/

@[simp] theorem recovered_links (s stream rtag) (h : [.dict] ⊆ sc.parts) : Links sc s (recovered s stream rtag) := by
  apply Moves.links
  simp at h
  unfold recovered
  dsimp only
  repeat' split
  all_goals simp [h]

@[simp] theorem State.sendFrame_links (s o) (h : [.outs, .dict] ⊆ sc.parts) : Links sc s (State.sendFrame s o) :=
  Moves.links (by simp at h; dsimp only [State.sendFrame]; simp [h])

@[simp] theorem badFrame_links (s e) (h : [.board, .obs] ⊆ sc.parts) : Links sc s (badFrame s e) :=
  Moves.links (by simp at h; dsimp only [badFrame]; simp [h])

@[simp] theorem respond_links (s svc e payload) (h : [.outs, .dict] ⊆ sc.parts) : Links sc s (respond s svc e payload) :=
  Moves.links (by simp at h; dsimp only [respond]; simp [h])

@[simp] theorem canAnswer_links (s node idx sub status data) (h : [.outs] ⊆ sc.parts) : Links sc s (canAnswer s node idx sub status data) :=
  Moves.links (by simp at h; dsimp only [canAnswer]; simp [h])

@[simp] theorem answerTap_links (s t status length data) (h : [.outs, .dict] ⊆ sc.parts) : Links sc s (answerTap s t status length data)
    := by
  apply Moves.links
  simp at h
  unfold answerTap
  split <;> simp [h]

@[simp] theorem closeSession_links (s n reason) (h : [.outs, .dict, .board, .obs] ⊆ sc.parts) : Links sc s (closeSession s n reason) :=
  Moves.links (by simp at h; dsimp only [closeSession]; simp [h])

@[simp] theorem endSession_links (s n reason) (h : [.outs, .dict, .board, .obs] ⊆ sc.parts) : Links sc s (endSession s n reason) := by
  apply Moves.links
  simp at h
  unfold endSession
  split <;> simp [h]

@[simp] theorem closeLevel_links (s level reason) (h : [.outs, .dict, .board, .obs] ⊆ sc.parts) : Links sc s (closeLevel s level reason) :=
  Moves.links (by simp at h; dsimp only [closeLevel]; simp [h])

/-- The fallback of DICT_LEVEL_ENABLE, where its pair mismatches (R739). -/
theorem levelFault_moves {s : State} (h : [.outs, .obj, .dict, .ecc, .board, .obs] ⊆ sc.parts)
    (hf : sc.keys (objKey 0x1110 0) ∨ s.pairOk 0x1110 0 = false) : Moves sc s (levelFault s) := by
  simp at h
  refine (putObj_moves [0x08] (by simp [h]) hf).trans ?_
  simp [levelFault, h]

/-! #### Serving a request (R41 to R47) -/

@[simp] theorem levelsUsed_links (s) (h : [.outs, .obj, .dict, .ecc, .board, .obs] ⊆ sc.parts) : Links sc s (levelsUsed s) := by
  apply Moves.links
  unfold levelsUsed
  split
  · rfl
  · exact levelFault_moves h (.inr (Bool.eq_false_of_not_eq_true ‹_›))

theorem receive_moves {s : State} {svc e payload sizeOk r} (h : [.outs, .obj, .dict, .ecc, .board, .obs] ⊆ sc.parts)
    (hr : receive s svc e payload sizeOk = r) : Moves sc s r.state := by
  subst hr
  simp at h
  fun_cases receive s svc e payload sizeOk <;> simp +zetaDelta [Framed.state, h]

@[simp] theorem criticalWritten_links (s who idx sub old new) (h : [.board, .obs] ⊆ sc.parts) : Links sc s (criticalWritten s who idx sub
    old new) :=
  Moves.links (by simp at h; dsimp only [criticalWritten]; simp [h])

@[simp] theorem applyWrite_links (s who idx sub v) {a : Action} (ha : a.Within sc) (h : [.obj, .board, .obs] ⊆ sc.parts)
    (hk : sc.keys (objKey idx sub)) : Links sc s (applyWrite s who idx sub v a) := by
  apply Moves.links
  simp at h
  unfold applyWrite
  split <;> simp [h, hk, ha.apply_links, ha.late_links]

@[simp] theorem dictWrite_links (s who paired w) {a : Action} (ha : a.Within sc) (h : [.obj, .board, .obs] ⊆ sc.parts)
    (hk : sc.keys (objKey w.index.toNat w.sub.toNat)) : Links sc s (dictWrite s who paired w a).1 := by
  apply Moves.links
  simp at h
  unfold dictWrite
  split <;> simp [h, hk, ha, ha.late_links]

@[simp] theorem beginSegmented_links (s n e w) {a : Action} (ha : a.Within sc) (h : [.dict] ⊆ sc.parts) :
    Links sc s (beginSegmented s n e w a).1 := by
  apply Moves.links
  simp at h
  unfold beginSegmented
  split <;> simp [h, ha.late_links]

@[simp] theorem serveWrite_links (e paired w s) {a : Action} (ha : a.Within sc) (h : [.outs, .obj, .dict, .ecc, .board, .obs] ⊆ sc.parts)
    (hk : sc.keys (objKey w.index.toNat w.sub.toNat)) : Links sc s (serveWrite e paired w a s) := by
  apply Moves.links
  fun_cases serveWrite e paired w a s
  all_goals
    refine (receive_moves h ‹_›).trans ?_
    simp at h
    simp +zetaDelta [Framed.state, h, ha, hk]

theorem hostWrite_ends (e idx sub v s) {a : Action} (ha : a.Within sc) (h : [.outs, .obj, .dict, .ecc, .board, .obs] ⊆ sc.parts)
    (hi : idx < 65536) (hs : sub < 256) (hk : sc.keys (objKey idx sub)) : Ends sc s (hostWrite e idx sub v a s) :=
  Links.moves (serveWrite_links e false _ s ha h (by simpa [wholeWrite, Nat.mod_eq_of_lt hi, Nat.mod_eq_of_lt hs] using hk))

theorem hostPaired_ends (e idx sub v c s) {a : Action} (ha : a.Within sc) (h : [.outs, .obj, .dict, .ecc, .board, .obs] ⊆ sc.parts)
    (hi : idx < 65536) (hs : sub < 256) (hk : sc.keys (objKey idx sub)) : Ends sc s (hostPaired e idx sub v c a s) :=
  Links.moves (serveWrite_links e true _ s ha h (by simpa [pairWrite, Nat.mod_eq_of_lt hi, Nat.mod_eq_of_lt hs] using hk))

/-! #### Planes and clocks -/

@[simp] theorem State.setPlane_links (s g p st) (h : [.planes] ⊆ sc.parts) : Links sc s (State.setPlane s g p st) :=
  Moves.links (by simp at h; dsimp only [State.setPlane]; simp [h])

@[simp] theorem State.setStopped_links (s b) (h : [.clk] ⊆ sc.parts) : Links sc s (State.setStopped s b) :=
  Moves.links (by simp at h; dsimp only [State.setStopped]; simp [h])

/-! #### The hitch link (R590 to R592) -/

@[simp] theorem State.updLink_links (s up f) (h : [.lanes] ⊆ sc.parts) : Links sc s (State.updLink s up f) :=
  Moves.links (by simp at h; dsimp only [State.updLink]; simp [h])

@[simp] theorem pumpLink_links (up fuel s) (h : [.outs, .lanes] ⊆ sc.parts) : Links sc s (pumpLink up fuel s) := by
  simp at h
  induction fuel generalizing s with
  | zero => exact (Moves.refl sc _).links
  | succ fuel ih =>
    apply Moves.links
    unfold pumpLink
    dsimp only
    repeat' split
    all_goals simp [h, ih]

@[simp] theorem pump_links (s up) (h : [.outs, .lanes] ⊆ sc.parts) : Links sc s (pump s up) :=
  Moves.links (by simp at h; dsimp only [pump]; simp [h])

@[simp] theorem hitchSend_links (s up type dst payload) (h : [.outs, .lanes] ⊆ sc.parts) : Links sc s (hitchSend s up type dst payload) :=
  Moves.links (by simp at h; dsimp only [hitchSend]; simp [h])

@[simp] theorem chainSend_links (s bytes) (h : [.outs, .chain, .lanes] ⊆ sc.parts) : Links sc s (chainSend s bytes) :=
  Moves.links (by simp at h; dsimp only [chainSend]; simp [h])

@[simp] theorem takeAck_links (s up ack) (h : [.outs, .lanes] ⊆ sc.parts) : Links sc s (takeAck s up ack) := by
  apply Moves.links
  simp at h
  unfold takeAck
  dsimp only
  split <;> simp [h]

@[simp] theorem hitchTake_links (s f) (h : [.outs, .lanes] ⊆ sc.parts) : Links sc s (hitchTake s f).1 :=
  Moves.links (by simp at h; dsimp only [hitchTake]; simp [h])

@[simp] theorem passOn_links (s f type payload) (h : [.outs, .lanes] ⊆ sc.parts) : Links sc s (passOn s f type payload) :=
  Moves.links (by simp at h; dsimp only [passOn]; simp [h])

@[simp] theorem hitchFrame_links (s f type payload) {take : State → State} (ht : ∀ s, Moves sc s (take s)) (h : [.outs, .lanes] ⊆ sc.parts) :
    Links sc s (hitchFrame s f type payload take) :=
  Moves.links (by have ht s := (ht s).links; simp at h; dsimp only [hitchFrame]; simp [h, ht])

@[simp] theorem execHitchAckDue_ends (up s) (h : [.outs, .lanes] ⊆ sc.parts) : Ends sc s (execHitchAckDue up s) :=
  by simp at h; dsimp only [execHitchAckDue]; simp [h]

@[simp] theorem linkDown_links (s up seq) (h : [.lanes, .board, .obs] ⊆ sc.parts) : Links sc s (linkDown s up seq) :=
  Moves.links (by simp at h; dsimp only [linkDown]; simp [h])

@[simp] theorem execHitchResend_ends (up s) (h : [.outs, .lanes, .board, .obs] ⊆ sc.parts) : Ends sc s (execHitchResend up s) := by
  simp at h
  unfold execHitchResend
  dsimp only
  split <;> simp [h]

/-! #### Units of the fabric (03, 04) -/

@[simp] theorem State.opened_links (s) (h : [.edge] ⊆ sc.parts) : Links sc s (State.opened s) :=
  Moves.links (by simp at h; dsimp only [State.opened]; simp [h])

@[simp] theorem State.outgoing_links (s) (h : [.planes] ⊆ sc.parts) : Links sc s (State.outgoing s) :=
  Moves.links (by simp at h; dsimp only [State.outgoing]; simp [h])

@[simp] theorem State.edgeTaken_links (s e) (h : [.edge] ⊆ sc.parts) : Links sc s (State.edgeTaken s e) :=
  Moves.links (by simp at h; dsimp only [State.edgeTaken]; simp [h])

@[simp] theorem setBmRow_links (s blk row v) (h : [.fab] ⊆ sc.parts) : Links sc s (setBmRow s blk row v) :=
  Moves.links (by simp at h; dsimp only [setBmRow]; simp [h])

@[simp] theorem latchRead_links (s port chained i r) (h : [.fab] ⊆ sc.parts) : Links sc s (latchRead s port chained i r) :=
  Moves.links (by simp at h; dsimp only [latchRead]; simp [h])

@[simp] theorem bmError_links (s u flags) (h : [.ecc, .board, .obs] ⊆ sc.parts) : Links sc s (bmError s u flags) :=
  Moves.links (by simp at h; dsimp only [bmError]; simp [h])

@[simp] theorem flipRow_links (s p flips) (h : [.fab, .edge] ⊆ sc.parts) : Links sc s (flipRow s p flips) := by
  apply Moves.links
  simp at h
  unfold flipRow
  split <;> simp [h]

@[simp] theorem writeRow_links (s p keep) (h : [.fab] ⊆ sc.parts) : Links sc s (writeRow s p keep) := by
  apply Moves.links
  simp at h
  unfold writeRow
  split <;> simp [h]

@[simp] theorem blockmemEdge_links (s u a b idleDin unordered flips) (h : [.freeCtr, .fab, .edge, .ecc, .board, .obs] ⊆ sc.parts) : Links
    sc s (blockmemEdge s u a b idleDin unordered flips) := by
  apply Moves.links
  simp at h
  unfold blockmemEdge
  dsimp only
  repeat' split
  all_goals simp [h]

@[simp] theorem takeBlockEdge_links (s u a b idleDin unordered flips) (h : [.freeCtr, .fab, .edge, .ecc, .board, .obs] ⊆ sc.parts) : Links
    sc s (takeBlockEdge s u a b idleDin unordered flips) :=
  Moves.links (by simp at h; dsimp only [takeBlockEdge]; simp [h])

@[simp] theorem takeSliceEdge_links (s u i) (h : [.fab, .edge] ⊆ sc.parts) : Links sc s (takeSliceEdge s u i) :=
  Moves.links (by simp at h; dsimp only [takeSliceEdge]; simp [h])

@[simp] theorem takeQueueEdge_links (s u i) (h : [.fab, .edge] ⊆ sc.parts) : Links sc s (takeQueueEdge s u i) :=
  Moves.links (by simp at h; dsimp only [takeQueueEdge]; simp [h])

@[simp] theorem actFabMemRead_within (h : [.fab] ⊆ sc.parts) : actFabMemRead.Within sc := by
  simp at h
  exact ⟨fun s _ _ _ => by simp [h, actFabMemRead], fun s _ _ => by simp [actFabMemRead]⟩

@[simp] theorem execFabMemReadDone_ends (busError s) (h : [.fab] ⊆ sc.parts) : Ends sc s (execFabMemReadDone busError s) :=
  by simp at h; dsimp only [execFabMemReadDone]; simp [h]

@[simp] theorem actFclk_within (n) (h : [.clk] ⊆ sc.parts) : (actFclk n).Within sc := by
  simp at h
  exact ⟨fun s _ _ _ => by simp [h, actFclk], fun s _ _ => by simp [actFclk]⟩

@[simp] theorem takeDivisor_links (s n) (h : [.clk] ⊆ sc.parts) : Links sc s (takeDivisor s n) :=
  Moves.links (by simp at h; dsimp only [takeDivisor]; simp [h])

/-! #### Teams, staging, switches and capture (05) -/

@[simp] theorem State.updTeam_links (s t f) (h : [.teams] ⊆ sc.parts) : Links sc s (State.updTeam s t f) :=
  Moves.links (by simp at h; dsimp only [State.updTeam]; simp [h])

@[simp] theorem dropGrants_links (s t) (h : [.grants] ⊆ sc.parts) : Links sc s (dropGrants s t) :=
  Moves.links (by simp at h; dsimp only [dropGrants]; simp [h])

@[simp] theorem noteGrant_links (s towers t r) (h : [.grants] ⊆ sc.parts) : Links sc s (noteGrant s towers t r) :=
  Moves.links (by simp at h; dsimp only [noteGrant]; simp [h])

@[simp] theorem tryGrant_links (s t) (h : [.grants, .teams, .board, .obs] ⊆ sc.parts) : Links sc s (tryGrant s t) := by
  apply Moves.links
  simp at h
  unfold tryGrant
  dsimp only
  repeat' split
  all_goals simp [h]

@[simp] theorem grantFallback_links (s t) (h : [.grants, .teams, .board, .obs] ⊆ sc.parts) : Links sc s (grantFallback s t) := by
  apply Moves.links
  simp at h
  unfold grantFallback
  dsimp only
  split <;> simp [h]

@[simp] theorem grantAll_links (s) (h : [.grants, .teams, .board, .obs] ⊆ sc.parts) : Links sc s (grantAll s) :=
  Moves.links (by simp at h; dsimp only [grantAll]; simp [h])

@[simp] theorem seekAnew_links (s t) (h : [.grants, .teams] ⊆ sc.parts) : Links sc s (seekAnew s t) :=
  Moves.links (by simp at h; dsimp only [seekAnew]; simp [h])

@[simp] theorem regrant_links (s) (h : [.grants, .teams, .cap, .board, .obs] ⊆ sc.parts) : Links sc s (regrant s) :=
  Moves.links (by simp at h; dsimp only [regrant]; simp [h])

theorem cap_moves {b s : State} {x : Capture} (h : .cap ∈ sc.parts) (hs : Moves sc b s) : Moves sc b { s with cap := x } := by simp [h, hs]

@[simp] theorem resumeEdges_links (s stopped) (h : [.grants, .teams, .cap, .board, .obs] ⊆ sc.parts) : Links sc s (resumeEdges s stopped) := by
  apply Moves.links
  simp at h
  unfold resumeEdges
  dsimp only
  have hstep : ∀ c : Prop, [Decidable c] → ∀ {b s : State} {x}, Moves sc b s → Moves sc b (if c then { s with cap := x } else s) := by
    intro c _ b s x hs
    split
    · exact cap_moves h.2.2.1 hs
    · exact hs
  refine hstep _ (foldl_moves _ _ fun s t => ?_)
  split <;> simp [h]

@[simp] theorem State.updEngine_links (s w f) (h : [.stage] ⊆ sc.parts) : Links sc s (State.updEngine s w f) :=
  Moves.links (by simp at h; dsimp only [State.updEngine]; simp [h])

@[simp] theorem queueStaging_links (s jobs fb) (h : [.stage] ⊆ sc.parts) : Links sc s (queueStaging s jobs fb) :=
  Moves.links (by simp at h; dsimp only [queueStaging]; simp [h])

@[simp] theorem dropStaging_links (s t) (h : [.stage] ⊆ sc.parts) : Links sc s (dropStaging s t) :=
  Moves.links (by simp at h; dsimp only [dropStaging]; simp [h])

@[simp] theorem abandonStaging_links (s t) (h : [.stage, .board, .obs] ⊆ sc.parts) : Links sc s (abandonStaging s t) := by
  apply Moves.links
  simp at h
  exact foldl_moves _ _ fun s w => by split <;> simp [h]

@[simp] theorem execStagingStart_ends (tower s) (h : [.stage] ⊆ sc.parts) : Ends sc s (execStagingStart tower s) := by
  simp at h
  unfold execStagingStart
  dsimp only
  split <;> simp [h]

@[simp] theorem stageSector_links (s g p) (h : [.fab, .planes] ⊆ sc.parts) : Links sc s (stageSector s g p) := by
  apply Moves.links
  simp at h
  unfold stageSector
  dsimp only
  repeat' split
  all_goals simp [h]

@[simp] theorem execStagingComplete_ends (tower s) (h : [.fab, .planes, .stage, .grants, .teams, .board, .obs] ⊆ sc.parts) :
    Ends sc s (execStagingComplete tower s) := by
  simp at h
  unfold execStagingComplete
  dsimp only
  split
  · simp
  · refine (grantAll_links _ (by simp [h])).after (.trans (State.updEngine_links s _ _ (by simp [h])).moves (foldl_moves _ _ fun s part => ?_))
    simp [h]

@[simp] theorem cancelPending_links (s t reason) (h : [.grants, .teams, .board, .obs] ⊆ sc.parts) : Links sc s (cancelPending s t reason) :=
  Moves.links (by simp at h; dsimp only [cancelPending]; simp [h])

@[simp] theorem cancelFallback_links (s t reason) (h : [.grants, .teams, .board, .obs] ⊆ sc.parts) : Links sc s (cancelFallback s t
    reason) :=
  Moves.links (by simp at h; dsimp only [cancelFallback]; simp [h])

@[simp] theorem cancelAllSwitches_links (s reason fallbacks) (h : [.grants, .teams, .board, .obs] ⊆ sc.parts) : Links sc s
    (cancelAllSwitches s reason fallbacks) :=
  Moves.links (by simp at h; dsimp only [cancelAllSwitches]; simp [h])

@[simp] theorem holdTeam_links (s t cause) (h : [.grants, .teams, .board, .obs] ⊆ sc.parts) : Links sc s (holdTeam s t cause) :=
  Moves.links (by simp at h; dsimp only [holdTeam]; simp [h])

@[simp] theorem freezeTeam_links (s t idx sub) (h : [.grants, .teams, .board, .obs] ⊆ sc.parts) : Links sc s (freezeTeam s t idx sub) :=
  Moves.links (by simp at h; dsimp only [freezeTeam]; simp [h])

@[simp] theorem beginFallback_links (s t cause) (h : [.stage, .grants, .teams, .board, .obs] ⊆ sc.parts) : Links sc s (beginFallback s t
    cause).1 :=
  Moves.links (by simp at h; dsimp only [beginFallback]; simp [h])

@[simp] theorem triggerFallbacks_links (s ts cause) (h : [.stage, .grants, .teams, .board, .obs] ⊆ sc.parts) : Links sc s
    (triggerFallbacks s ts cause) :=
  Moves.links (by simp at h; dsimp only [triggerFallbacks]; simp [h])

@[simp] theorem triggerFallback_links (s t cause) (h : [.stage, .grants, .teams, .board, .obs] ⊆ sc.parts) : Links sc s (triggerFallback s
    t cause) :=
  Moves.links (by simp at h; dsimp only [triggerFallback]; simp [h])

@[simp] theorem teamFault_links (s t sub) (h : [.grants, .teams, .ecc, .board, .obs] ⊆ sc.parts) : Links sc s (teamFault s t sub) :=
  Moves.links (by simp at h; dsimp only [teamFault]; simp [h])

@[simp] theorem checkActive_links (s t) (h : [.stage, .grants, .teams, .ecc, .board, .obs] ⊆ sc.parts) : Links sc s (checkActive s t) :=
  Moves.links (by simp at h; dsimp only [checkActive]; simp [h])

@[simp] theorem teamUsed_links (s t) (h : [.stage, .grants, .teams, .ecc, .board, .obs] ⊆ sc.parts) : Links sc s (teamUsed s t) :=
  Moves.links (by simp at h; dsimp only [teamUsed]; simp [h])

@[simp] theorem acceptTimed_links (s t p time) (h : [.stage, .grants, .teams, .board, .obs] ⊆ sc.parts) : Links sc s (acceptTimed s t p
    time) := by
  apply Moves.links
  simp at h
  unfold acceptTimed
  split <;> simp [h]

@[simp] theorem unstageTeam_links (s t) (h : [.planes] ⊆ sc.parts) : Links sc s (unstageTeam s t) := by
  apply Moves.links
  simp at h
  exact foldl_moves _ _ fun s g => by split <;> simp [h]

@[simp] theorem releaseTeam_links (s t) (h : [.teams, .board, .obs] ⊆ sc.parts) : Links sc s (releaseTeam s t) :=
  Moves.links (by simp at h; dsimp only [releaseTeam]; simp [h])

@[simp] theorem switchApply_links (s0 t op p time) (h : [.planes, .stage, .grants, .teams, .ecc, .board, .obs] ⊆ sc.parts) : Links sc s0
    (switchApply s0 t op p time) := by
  apply Moves.links
  simp at h
  unfold switchApply
  split <;> simp [h]

@[simp] theorem actSwitch_within (h : [.dict, .planes, .stage, .grants, .teams, .ecc, .board, .obs] ⊆ sc.parts) : actSwitch.Within sc := by
  simp at h
  exact ⟨fun s _ _ _ => by simp [h, actSwitch], fun s _ _ => by simp [h, actSwitch]⟩

@[simp] theorem execReinRequest_ends (sector plane s) (h : [.stage, .grants, .teams, .ecc, .board, .obs] ⊆ sc.parts) : Ends sc s
    (execReinRequest sector plane s) := by
  simp at h
  unfold execReinRequest
  dsimp only
  repeat' split
  all_goals simp [h]

@[simp] theorem switchSector_links (s g q) (h : [.fab, .planes] ⊆ sc.parts) : Links sc s (switchSector s g q) := by
  apply Moves.links
  simp at h
  unfold switchSector
  split <;> simp [h]

@[simp] theorem dropUncovered_links (s) (h : [.outs, .dict] ⊆ sc.parts) : Links sc s (dropUncovered s) :=
  Moves.links (by simp at h; dsimp only [dropUncovered]; simp [h])

@[simp] theorem execFenceTimeout_ends (team s) (h : [.grants, .teams, .board, .obs] ⊆ sc.parts) : Ends sc s (execFenceTimeout team s) := by
  simp at h
  unfold execFenceTimeout
  dsimp only
  split <;> simp [h]

@[simp] theorem portsDown_links (s g) (h : [.obj, .stage, .grants, .teams, .ecc, .board, .obs] ⊆ sc.parts) : Links sc s (portsDown s g) :=
    by
  apply Moves.links
  simp at h
  unfold portsDown
  split <;> simp [h]

@[simp] theorem disband_links (s t) (h : [.obj, .planes, .stage, .grants, .teams, .board, .obs] ⊆ sc.parts)
    (hk : ∀ sub, sc.keys (objKey (0x6210 + t) sub)) : Links sc s (disband s t) :=
  Moves.links (by simp at h; dsimp only [disband]; simp [h, hk])

@[simp] theorem setMembers_links (s t v) (h : [.obj, .planes, .stage, .grants, .teams, .board, .obs] ⊆ sc.parts)
    (hk : ∀ sub, sc.keys (objKey (0x6210 + t) sub)) : Links sc s (setMembers s t v) := by
  apply Moves.links
  simp at h
  unfold setMembers
  dsimp only
  repeat' split
  all_goals simp [h, hk]

@[simp] theorem actMembers_within (t) (h : [.obj, .planes, .stage, .grants, .teams, .board, .obs] ⊆ sc.parts)
    (hk : ∀ sub, sc.keys (objKey (0x6210 + t) sub)) : (actMembers t).Within sc := by
  simp at h
  exact ⟨fun s _ _ _ => by simp [h, hk, actMembers], fun s _ _ => by simp [actMembers]⟩

@[simp] theorem actTeamSetting_within (t sub) (h : [.teams] ⊆ sc.parts) : (actTeamSetting t sub).Within sc := by
  simp at h
  exact ⟨fun s _ _ _ => by simp [h, actTeamSetting], fun s _ _ => by simp [actTeamSetting]⟩

@[simp] theorem actPlaneClear_within (h : [.planes] ⊆ sc.parts) : actPlaneClear.Within sc := by
  simp at h
  exact ⟨fun s _ _ _ => by simp [h, actPlaneClear], fun s _ _ => by simp [actPlaneClear]⟩

@[simp] theorem actCapture_within (h : [.cap] ⊆ sc.parts) : actCapture.Within sc := by
  simp at h
  refine ⟨fun s who old new => ?_, fun s _ _ => .refl sc s⟩
  dsimp only [actCapture]
  split <;> simp [h]

@[simp] theorem execCaptureTrigger_ends (sector s) (h : [.cap, .board, .obs] ⊆ sc.parts) : Ends sc s (execCaptureTrigger sector s) :=
  by simp at h; dsimp only [execCaptureTrigger]; simp [h]

@[simp] theorem execCaptureEdge_ends (routed s) (h : [.cap] ⊆ sc.parts) : Ends sc s (execCaptureEdge routed s) := by
  simp at h
  unfold execCaptureEdge
  dsimp only
  split <;> simp [h]

@[simp] theorem execCaptureCopyDone_ends (s) (h : [.outs, .cap, .board, .obs] ⊆ sc.parts) : Ends sc s (execCaptureCopyDone s) :=
  by simp at h; dsimp only [execCaptureCopyDone]; simp [h]

end Sys2Proof.Machine
end

section
/-! PROOFS. The scope of each operation: the memories, the network and the movers. -/

namespace Sys2Proof.Machine

variable {sc : Scope}

/-! #### DRAM lines as stored (10, 11) -/

@[simp] theorem State.updChan_links (s c f) (h : [.dram] ⊆ sc.parts) : Links sc s (State.updChan s c f) :=
  Moves.links (by simp at h; dsimp only [State.updChan]; simp [h])

@[simp] theorem settleRet_links (s ch) (h : [.dram, .board, .obs] ⊆ sc.parts) : Links sc s (settleRet s ch) :=
  Moves.links (by simp at h; dsimp only [settleRet]; simp [h])

@[simp] theorem setRet_links (s ch r) (h : [.dram] ⊆ sc.parts) : Links sc s (setRet s ch r) :=
  Moves.links (by simp at h; dsimp only [setRet]; simp [h])

@[simp] theorem State.updBank_links (s k f) (h : [.dram] ⊆ sc.parts) : Links sc s (State.updBank s k f) :=
  Moves.links (by simp at h; dsimp only [State.updBank]; simp [h])

/-- DRAM_CFG's fallback, where the setting's pair mismatches. -/
theorem dramFallback_moves {s : State} {sub : Nat} (h : [.obj, .ecc, .board, .obs] ⊆ sc.parts) (hf : s.pairOk 0x6601 sub = false) :
    Moves sc s (dramFallback s sub) := by
  simp at h
  exact (compEvent_links _ _ _ (by simp [h])).after (putObj_moves _ (by simp [h]) (.inr hf))

@[simp] theorem useDram_links (s sub) (h : [.obj, .ecc, .board, .obs] ⊆ sc.parts) : Links sc s (useDram s sub) := by
  apply Moves.links
  unfold useDram
  split
  · rfl
  · exact dramFallback_moves h (Bool.eq_false_of_not_eq_true ‹_›)

@[simp] theorem touchRow_links (s key row) (h : [.obj, .dram, .ecc, .board, .obs] ⊆ sc.parts) : Links sc s (touchRow s key row) :=
  Moves.links (by simp at h; dsimp only [touchRow]; simp [h])

@[simp] theorem lineDrew_links (s symbols) (h : [.freeCtr] ⊆ sc.parts) : Links sc s (lineDrew s symbols) :=
  Moves.links (by simp at h; dsimp only [lineDrew]; simp [h])

@[simp] theorem lineEvent_links (s ch a init symbols k) (h : [.board, .obs] ⊆ sc.parts) : Links sc s (lineEvent s ch a init symbols k) := by
  apply Moves.links
  simp at h
  unfold lineEvent
  split <;> simp [h]

@[simp] theorem retireEvents_links (s ch k cause withSpare) (h : [.dram, .board, .obs] ⊆ sc.parts) : Links sc s (retireEvents s ch k cause
    withSpare) :=
  Moves.links (by simp at h; dsimp only [retireEvents]; simp [h])

@[simp] theorem retireRank_links (s0 ch k cause) (h : [.dram, .board, .obs] ⊆ sc.parts) : Links sc s0 (retireRank s0 ch k cause) :=
  Moves.links (by simp at h; dsimp only [retireRank]; simp [h])

@[simp] theorem faultRemap_links (s ch e) (h : [.dram, .ecc, .board, .obs] ⊆ sc.parts) : Links sc s (faultRemap s ch e) :=
  Moves.links (by simp at h; dsimp only [faultRemap]; simp [h])

@[simp] theorem checkRemaps_links (s ch) (h : [.dram, .ecc, .board, .obs] ⊆ sc.parts) : Links sc s (checkRemaps s ch) :=
  Moves.links (by simp at h; dsimp only [checkRemaps]; simp [h])

@[simp] theorem remapGo_links (ch rank l a data tai es errs s) (h : [.dram, .board, .obs] ⊆ sc.parts) (hd : sc.dramBytes) : Links sc s
    (remapGo ch rank l a data tai es errs s) := by
  simp at h
  induction es generalizing errs s with
  | nil => exact Moves.links (by simp [h, remapGo])
  | cons e es ih => exact Moves.links (by simp [h, hd, remapGo, ih])

@[simp] theorem hardFault_links (s ch rank l a data spareErrs) (h : [.dram, .board, .obs] ⊆ sc.parts) (hd : sc.dramBytes) : Links sc s
    (hardFault s ch rank l a data spareErrs) :=
  Moves.links (by simp at h; dsimp only [hardFault]; simp [h, hd])

@[simp] theorem storeLine_links (s phys data poison) (h : [.dram] ⊆ sc.parts) (hd : sc.dramBytes) : Links sc s (storeLine s phys data
    poison) :=
  Moves.links (by simp at h; dsimp only [storeLine]; simp [h, hd])

@[simp] theorem useRow_links (s ch key row) (h : [.obj, .dram, .ecc, .board, .obs] ⊆ sc.parts) : Links sc s (useRow s ch key row) := by
  apply Moves.links
  simp at h
  unfold useRow
  split <;> simp [h]

@[simp] theorem accessRow_links (s l rank spare) (h : [.obj, .dram, .ecc, .board, .obs] ⊆ sc.parts) : Links sc s (accessRow s l rank
    spare) :=
  Moves.links (by simp at h; dsimp only [accessRow]; simp [h])

@[simp] theorem rawRead_links (s0 a init symbols spareErrs) (h : [.freeCtr, .obj, .dram, .ecc, .board, .obs] ⊆ sc.parts) (hd :
    sc.dramBytes) : Links sc s0 (rawRead s0 a init symbols spareErrs).1 := by
  apply Moves.links
  simp at h
  unfold rawRead
  dsimp only
  repeat' split
  all_goals simp [h, hd]

@[simp] theorem rawWrite_links (s0 a data poison) (h : [.obj, .dram, .ecc, .board, .obs] ⊆ sc.parts) (hd : sc.dramBytes) : Links sc s0
    (rawWrite s0 a data poison).1 := by
  apply Moves.links
  simp at h
  unfold rawWrite
  dsimp only
  split <;> simp [h, hd]

@[simp] theorem refillBudget_links (s ch) (h : [.obj, .dram, .ecc, .board, .obs] ⊆ sc.parts) : Links sc s (refillBudget s ch) :=
  Moves.links (by simp at h; dsimp only [refillBudget]; simp [h])

@[simp] theorem debit_links (s ch n) (h : [.dram] ⊆ sc.parts) : Links sc s (debit s ch n) :=
  Moves.links (by simp at h; dsimp only [debit]; simp [h])

@[simp] theorem refillHeat_links (s ch) (h : [.dram] ⊆ sc.parts) : Links sc s (refillHeat s ch) :=
  Moves.links (by simp at h; dsimp only [refillHeat]; simp [h])

/-! #### Encryption engines and their metadata (12) -/

@[simp] theorem State.updRegion_links (s r f) (h : [.crypt] ⊆ sc.parts) : Links sc s (State.updRegion s r f) :=
  Moves.links (by simp at h; dsimp only [State.updRegion]; simp [h])

@[simp] theorem lockRegion_links (s r cause) (h : [.crypt] ⊆ sc.parts) : Links sc s (lockRegion s r cause) :=
  Moves.links (by simp at h; dsimp only [lockRegion]; simp [h])

@[simp] theorem failLine_links (s r a init) (h : [.crypt, .board, .obs] ⊆ sc.parts) : Links sc s (failLine s r a init) := by
  apply Moves.links
  simp at h
  unfold failLine
  dsimp only
  repeat' split
  all_goals simp [h]

@[simp] theorem poisonSubtree_links (s r l m cause) (h : [.crypt, .board, .obs] ⊆ sc.parts) : Links sc s (poisonSubtree s r l m cause) :=
  Moves.links (by simp at h; dsimp only [poisonSubtree]; simp [h])

@[simp] theorem regionCompFault_links (s r sub) (h : [.ecc, .crypt, .board, .obs] ⊆ sc.parts) : Links sc s (regionCompFault s r sub) :=
  Moves.links (by simp at h; dsimp only [regionCompFault]; simp [h])

@[simp] theorem majorOverflow_links (s r l m) (h : [.crypt, .board, .obs] ⊆ sc.parts) : Links sc s (majorOverflow s r l m) :=
  Moves.links (by simp at h; dsimp only [majorOverflow]; simp [h])

@[simp] theorem cachePut_links (s a data dirty) (h : [.crypt] ⊆ sc.parts) : Links sc s (cachePut s a data dirty) :=
  Moves.links (by simp at h; dsimp only [cachePut]; simp [h])

@[simp] theorem cacheLook_links (s hit) (h : [.crypt, .board, .obs] ⊆ sc.parts) : Links sc s (cacheLook s hit) :=
  Moves.links (by simp at h; dsimp only [cacheLook]; simp [h])

@[simp] theorem cacheDrop_links (s a) (h : [.crypt] ⊆ sc.parts) : Links sc s (cacheDrop s a) :=
  Moves.links (by simp at h; dsimp only [cacheDrop]; simp [h])

@[simp] theorem fetchNode_links (r init errs fuel l m s) (h : [.freeCtr, .obj, .dram, .ecc, .crypt, .board, .obs] ⊆ sc.parts)
    (hd : sc.dramBytes) : Links sc s (fetchNode r init errs fuel l m s).1 := by
  simp at h
  delta fetchNode
  refine brecOn_holds (fun fetch : Nat → Nat → State → RawRead => ∀ l m s, Links sc s (fetch l m s).1) _ ?_ ?_ fuel l m s
  · intro below l m s
    apply Moves.links
    delta fetchNode._f
    rcases hc : cacheFind s errs (nodeAddr s r l m) with _ | ⟨b, _ | _⟩ <;> simp [h, hd, hc]
  · intro fuel below ih l m s
    apply Moves.links
    delta fetchNode._f
    rcases hc : cacheFind s errs (nodeAddr s r l m) with _ | ⟨b, _ | _⟩ <;> simp [h, hd, hc, ih]

@[simp] theorem getNode_links (s r init errs l m) (h : [.freeCtr, .obj, .dram, .ecc, .crypt, .board, .obs] ⊆ sc.parts) (hd : sc.dramBytes)
    : Links sc s (getNode s r init errs l m).1 :=
  Moves.links (by simp at h; dsimp only [getNode]; simp [h, hd])

@[simp] theorem putSlot_links (s a slot v) (h : [.obj, .dram, .ecc, .board, .obs] ⊆ sc.parts) (hd : sc.dramBytes) : Links sc s (putSlot s
    a slot v) := by
  apply Moves.links
  simp at h
  unfold putSlot
  split <;> simp [h, hd]

@[simp] theorem retagNode_links (s r l m major minor) (h : [.obj, .dram, .ecc, .board, .obs] ⊆ sc.parts) (hd : sc.dramBytes) : Links sc s
    (retagNode s r l m major minor) := by
  apply Moves.links
  simp at h
  unfold retagNode
  dsimp only
  split <;> simp [h, hd]

@[simp] theorem bumpChild_links (s r l m) (h : [.freeCtr, .obj, .dram, .ecc, .crypt, .board, .obs] ⊆ sc.parts) (hd : sc.dramBytes) : Links
    sc s (bumpChild s r l m).1 :=
  Moves.links (by simp at h; dsimp only [bumpChild]; simp [h, hd])

@[simp] theorem writeBackNode_links (s a data) (h : [.freeCtr, .obj, .dram, .ecc, .crypt, .board, .obs] ⊆ sc.parts) (hd : sc.dramBytes) :
    Links sc s (writeBackNode s a data) := by
  apply Moves.links
  simp at h
  unfold writeBackNode
  split <;> simp [h, hd]

@[simp] theorem trimCache_links (keep fuel s) (h : [.freeCtr, .obj, .dram, .ecc, .crypt, .board, .obs] ⊆ sc.parts) (hd : sc.dramBytes) :
    Links sc s (trimCache keep fuel s) := by
  simp at h
  induction fuel generalizing s with
  | zero => exact (Moves.refl sc _).links
  | succ fuel ih =>
    apply Moves.links
    unfold trimCache
    repeat' split
    all_goals simp [h, hd, ih]

@[simp] theorem writeBackMeta_links (fuel s) (h : [.freeCtr, .obj, .dram, .ecc, .crypt, .board, .obs] ⊆ sc.parts) (hd : sc.dramBytes) :
    Links sc s (writeBackMeta fuel s) := by
  simp at h
  induction fuel generalizing s with
  | zero => exact (Moves.refl sc _).links
  | succ fuel ih =>
    apply Moves.links
    unfold writeBackMeta
    split
    · rfl
    · rw [ih]
      split <;> simp [h, hd]

@[simp] theorem authRead_links (s r a init errs spareErrs) (h : [.freeCtr, .obj, .dram, .ecc, .crypt, .board, .obs] ⊆ sc.parts) (hd :
    sc.dramBytes) : Links sc s (authRead s r a init errs spareErrs).1 :=
  Moves.links (by simp at h; dsimp only [authRead]; simp [h, hd])

@[simp] theorem authStore_links (s r j major minor data poison) (h : [.obj, .dram, .ecc, .board, .obs] ⊆ sc.parts) (hd : sc.dramBytes) :
    Links sc s (authStore s r j major minor data poison).1 :=
  Moves.links (by simp at h; dsimp only [authStore]; simp [h, hd])

@[simp] theorem reencrypt_links (r old major init minors s j) (h : [.freeCtr, .obj, .dram, .ecc, .crypt, .board, .obs] ⊆ sc.parts) (hd :
    sc.dramBytes) : Links sc s (reencrypt r old major init minors s j) :=
  Moves.links (by simp at h; dsimp only [reencrypt]; simp [h, hd])

@[simp] theorem authWrite_links (s r a init data poison errs) (h : [.freeCtr, .obj, .dram, .ecc, .crypt, .board, .obs] ⊆ sc.parts) (hd :
    sc.dramBytes) : Links sc s (authWrite s r a init data poison errs).1 :=
  Moves.links (by simp at h; dsimp only [authWrite]; simp [h, hd])

@[simp] theorem useRegion_links (s a) (h : [.ecc, .crypt, .board, .obs] ⊆ sc.parts) : Links sc s (useRegion s a) := by
  apply Moves.links
  simp at h
  unfold useRegion
  split <;> simp [h]

@[simp] theorem engineRead_links (s a init errs spareErrs) (h : [.freeCtr, .obj, .dram, .ecc, .crypt, .board, .obs] ⊆ sc.parts) (hd :
    sc.dramBytes) : Links sc s (engineRead s a init errs spareErrs).1 := by
  apply Moves.links
  simp at h
  unfold engineRead
  dsimp only
  repeat' split
  all_goals simp [h, hd]

@[simp] theorem engineWrite_links (s a init data poison errs) (h : [.freeCtr, .obj, .dram, .ecc, .crypt, .board, .obs] ⊆ sc.parts) (hd :
    sc.dramBytes) : Links sc s (engineWrite s a init data poison errs).1 := by
  apply Moves.links
  simp at h
  unfold engineWrite
  dsimp only
  repeat' split
  all_goals simp [h, hd]

@[simp] theorem enginePartial_links (s a init off data errs spareErrs) (h : [.freeCtr, .obj, .dram, .ecc, .crypt, .board, .obs] ⊆
    sc.parts) (hd : sc.dramBytes) : Links sc s (enginePartial s a init off data errs spareErrs).1 :=
  Moves.links (by simp at h; dsimp only [enginePartial]; simp [h, hd])

/-! #### The network (08) -/

@[simp] theorem actReservation_within (n) (h : [.noc] ⊆ sc.parts) : (actReservation n).Within sc := by
  simp at h
  exact ⟨fun s _ _ _ => by simp [h, actReservation], fun s _ _ => by simp [actReservation]⟩

@[simp] theorem execReservationTakesEffect_ends (n s) (h : [.noc, .board, .obs] ⊆ sc.parts) : Ends sc s (execReservationTakesEffect n s) :=
  by simp at h; dsimp only [execReservationTakesEffect]; simp [h]

@[simp] theorem updStat_links (s i f) (h : [.noc] ⊆ sc.parts) : Links sc s (updStat s i f) :=
  Moves.links (by simp at h; dsimp only [updStat]; simp [h])

@[simp] theorem statEvents_links (s i old new) (h : [.board, .obs] ⊆ sc.parts) : Links sc s (statEvents s i old new) :=
  Moves.links (by simp at h; dsimp only [statEvents]; simp [h])

@[simp] theorem statDone_links (s p status) (h : [.noc, .board, .obs] ⊆ sc.parts) : Links sc s (statDone s p status) :=
  Moves.links (by simp at h; dsimp only [statDone]; simp [h])

@[simp] theorem takeSample_links (s p status) (h : [.board, .obs] ⊆ sc.parts) : Links sc s (takeSample s p status) :=
  Moves.links (by simp at h; dsimp only [takeSample]; simp [h])

@[simp] theorem sampleTxn_links (s p status) (h : [.freeCtr, .board, .obs] ⊆ sc.parts) : Links sc s (sampleTxn s p status) :=
  Moves.links (by simp at h; dsimp only [sampleTxn]; simp [h])

@[simp] theorem issue_links (s p) (h : [.noc, .board, .obs] ⊆ sc.parts) : Links sc s (issue s p) :=
  Moves.links (by simp at h; dsimp only [issue]; simp [h])

@[simp] theorem takeTag_links (s) (h : [.noc] ⊆ sc.parts) : Links sc s (takeTag s).2 :=
  Moves.links (by simp at h; dsimp only [takeTag]; simp [h])

@[simp] theorem request_links (s kind init addr len cls data use gt) (h : [.noc, .board, .obs] ⊆ sc.parts) :
    Links sc s (request s kind init addr len cls data use gt) :=
  Moves.links (by simp at h; dsimp only [request]; simp [h])

@[simp] theorem answer_links (s p status data outcome) (h : [.noc] ⊆ sc.parts) : Links sc s (answer s p status data outcome) :=
  Moves.links (by simp at h; dsimp only [answer]; simp [h])

@[simp] theorem refuse_links (s p status code) (h : [.noc, .board, .obs] ⊆ sc.parts) : Links sc s (refuse s p status code) :=
  Moves.links (by simp at h; dsimp only [refuse]; simp [h])

@[simp] theorem passed_links (s p) (h : [.board, .obs] ⊆ sc.parts) : Links sc s (passed s p) :=
  Moves.links (by simp at h; dsimp only [passed]; simp [h])

@[simp] theorem linkCorrected_links (s p) (h : [.noc, .board, .obs] ⊆ sc.parts) : Links sc s (linkCorrected s p) :=
  Moves.links (by simp at h; dsimp only [linkCorrected]; simp [h])

@[simp] theorem headerLost_links (s p) (h : [.noc, .board, .obs] ⊆ sc.parts) : Links sc s (headerLost s p) :=
  Moves.links (by simp at h; dsimp only [headerLost]; simp [h])

@[simp] theorem execPacketPromotedUrgent_ends (k s) (h : [.noc, .board, .obs] ⊆ sc.parts) : Ends sc s (execPacketPromotedUrgent k s) := by
  simp at h
  unfold execPacketPromotedUrgent
  split <;> simp [h]

@[simp] theorem actStat_within (h : [.noc] ⊆ sc.parts) : actStat.Within sc := by
  simp at h
  exact ⟨fun s _ _ _ => by simp [h, actStat], fun s _ _ => by simp [actStat]⟩

@[simp] theorem execStatWindowEnd_ends (s) (h : [.noc] ⊆ sc.parts) : Ends sc s (execStatWindowEnd s) :=
  by simp at h; dsimp only [execStatWindowEnd]; simp [h]

/-! #### The pannier (09) -/

@[simp] theorem setBank_links (s b v) (h : [.pan, .board, .obs] ⊆ sc.parts) : Links sc s (setBank s b v) :=
  Moves.links (by simp at h; dsimp only [setBank]; simp [h])

@[simp] theorem clearBank_links (s b) (h : [.pan] ⊆ sc.parts) (hp : sc.panBytes) : Links sc s (clearBank s b) :=
  Moves.links (by simp at h; dsimp only [clearBank]; simp [h, hp])

@[simp] theorem setBankTest_links (s bank31 t) (h : [.pan] ⊆ sc.parts) : Links sc s (setBankTest s bank31 t) :=
  Moves.links (by simp at h; dsimp only [setBankTest]; simp [h])

@[simp] theorem panPut_links (s off b) (h : [.pan] ⊆ sc.parts) (hp : sc.panBytes) : Links sc s (panPut s off b) := by
  apply Moves.links
  simp at h
  unfold panPut
  split <;> simp [h, hp]

@[simp] theorem panWrite_links (place i bs s) (h : [.pan] ⊆ sc.parts) (hp : sc.panBytes) : Links sc s (panWrite place i bs s) := by
  simp at h
  induction bs generalizing i s with
  | nil => exact (Moves.refl sc _).links
  | cons b bs ih => exact Moves.links (by simp [h, hp, panWrite, ih])

@[simp] theorem controllerWrite_links (off data s) (h : [.pan, .sealed] ⊆ sc.parts) (hp : sc.panBytes) : Links sc s (controllerWrite off
    data s) :=
  Moves.links (by simp at h; dsimp only [controllerWrite]; simp [h, hp])

@[simp] theorem writeSealedStatus_links (s) (h : [.pan, .sealed] ⊆ sc.parts) (hp : sc.panBytes) : Links sc s (writeSealedStatus s) :=
  Moves.links (by simp at h; dsimp only [writeSealedStatus]; simp [h, hp])

@[simp] theorem panErr_links (s off err) (h : [.pan, .ecc, .sealed, .board, .obs] ⊆ sc.parts) (hp : sc.panBytes) : Links sc s (panErr s
    off err).1 := by
  apply Moves.links
  simp at h
  unfold panErr
  split <;> simp [h, hp]

@[simp] theorem wordsServed_links (s off len) (h : [.board, .obs] ⊆ sc.parts) : Links sc s (wordsServed s off len) :=
  Moves.links (by simp at h; dsimp only [wordsServed]; simp [h])

@[simp] theorem panRead_links (s off len err) (h : [.pan, .ecc, .sealed, .board, .obs] ⊆ sc.parts) (hp : sc.panBytes) : Links sc s
    (panRead s off len err).1 :=
  Moves.links (by simp at h; dsimp only [panRead]; simp [h, hp])

@[simp] theorem panStore_links (s off data err) (h : [.pan, .ecc, .sealed, .board, .obs] ⊆ sc.parts) (hp : sc.panBytes) : Links sc s
    (panStore s off data err).1 :=
  Moves.links (by simp at h; dsimp only [panStore]; simp [h, hp])

@[simp] theorem updWindow_links (s n f) (h : [.pan] ⊆ sc.parts) : Links sc s (updWindow s n f) :=
  Moves.links (by simp at h; dsimp only [updWindow]; simp [h])

@[simp] theorem windowServed_links (s xs) (h : [.board, .obs] ⊆ sc.parts) : Links sc s (windowServed s xs) :=
  Moves.links (by simp at h; dsimp only [windowServed]; simp [h])

@[simp] theorem windowOverflow_links (s n) (h : [.pan, .board, .obs] ⊆ sc.parts) : Links sc s (windowOverflow s n) :=
  Moves.links (by simp at h; dsimp only [windowOverflow]; simp [h])

@[simp] theorem windowUnderflow_links (s n len) (h : [.pan, .board, .obs] ⊆ sc.parts) : Links sc s (windowUnderflow s n len) :=
  Moves.links (by simp at h; dsimp only [windowUnderflow]; simp [h])

@[simp] theorem windowPush_links (s n data) (h : [.pan, .board, .obs] ⊆ sc.parts) (hp : sc.panBytes) : Links sc s (windowPush s n data).1 :=
  Moves.links (by simp at h; dsimp only [windowPush]; simp [h, hp])

@[simp] theorem windowPop_links (s n len err) (h : [.pan, .ecc, .sealed, .board, .obs] ⊆ sc.parts) (hp : sc.panBytes) : Links sc s
    (windowPop s n len err).1 :=
  Moves.links (by simp at h; dsimp only [windowPop]; simp [h, hp])

@[simp] theorem windowRelease_links (s n len) (h : [.pan, .board, .obs] ⊆ sc.parts) : Links sc s (windowRelease s n len).1 :=
  Moves.links (by simp at h; dsimp only [windowRelease]; simp [h])

@[simp] theorem windowIndexed_links (s n off len wdata err) (h : [.pan, .ecc, .sealed, .board, .obs] ⊆ sc.parts) (hp : sc.panBytes) :
    Links sc s (windowIndexed s n off len wdata err).1 := by
  apply Moves.links
  simp at h
  unfold windowIndexed
  split <;> simp [h, hp]

@[simp] theorem windowStatus_links (s n) : Links sc s (windowStatus s n).1 :=
  Moves.links (by dsimp only [windowStatus]; simp)

@[simp] theorem windowAccess_links (s n off p err) (h : [.pan, .ecc, .sealed, .board, .obs] ⊆ sc.parts) (hp : sc.panBytes) : Links sc s
    (windowAccess s n off p err).1 :=
  Moves.links (by simp at h; dsimp only [windowAccess]; simp [h, hp])

theorem windowAnswer_ends {s : State} (init) {r : WindowRes} (hr : Links sc s r.1) (h : [.outs] ⊆ sc.parts) :
    Ends sc s (windowAnswer init r) := by
  simp at h
  simp [windowAnswer, h, hr]

@[simp] theorem execWindowPush_ends (initiator n data s) (h : [.outs, .pan, .board, .obs] ⊆ sc.parts) (hp : sc.panBytes) :
    Ends sc s (execWindowPush initiator n data s) := by
  simp at h
  exact windowAnswer_ends _ (windowPush_links _ _ _ (by simp [h]) hp) (by simp [h])

/-- A pop whose words are good: the bytes of the pannier stay. -/
theorem windowPop_good_links (s n len) (h : [.pan, .board, .obs] ⊆ sc.parts) : Links sc s (windowPop s n len .good).1 :=
  Moves.links (by simp at h; dsimp only [windowPop, panErr]; simp [h])

@[simp] theorem execWindowPop_ends (initiator n len s) (h : [.outs, .pan, .board, .obs] ⊆ sc.parts) :
    Ends sc s (execWindowPop initiator n len s) := by
  simp at h
  exact windowAnswer_ends _ (windowPop_good_links _ _ _ (by simp [h])) (by simp [h])

@[simp] theorem execWindowRelease_ends (initiator n len s) (h : [.outs, .pan, .board, .obs] ⊆ sc.parts) :
    Ends sc s (execWindowRelease initiator n len s) := by
  simp at h
  exact windowAnswer_ends _ (windowRelease_links _ _ _ (by simp [h])) (by simp [h])

@[simp] theorem execWindowIndexedAccess_ends (initiator n offset len wdata s) (h : [.outs, .pan, .ecc, .sealed, .board, .obs] ⊆ sc.parts)
    (hp : sc.panBytes) : Ends sc s (execWindowIndexedAccess initiator n offset len wdata s) := by
  simp at h
  exact windowAnswer_ends _ (windowIndexed_links _ _ _ _ _ _ (by simp [h]) hp) (by simp [h])

@[simp] theorem execWindowStatusRead_ends (initiator n s) (h : [.outs] ⊆ sc.parts) : Ends sc s (execWindowStatusRead initiator n s) := by
  simp at h
  exact windowAnswer_ends _ (windowStatus_links _ _) (by simp [h])

@[simp] theorem actWindowEnable_within (n) (h : [.pan] ⊆ sc.parts) : (actWindowEnable n).Within sc := by
  simp at h
  exact ⟨fun s _ _ _ => by simp [h, actWindowEnable], fun s _ _ => by simp [actWindowEnable]⟩

@[simp] theorem actWindowSetting_within (n) : (actWindowSetting n).Within sc := by
  exact ⟨fun s _ _ _ => by simp [actWindowSetting], fun s _ _ => by simp [actWindowSetting]⟩

@[simp] theorem actConflictClear_within (h : [.pan] ⊆ sc.parts) : actConflictClear.Within sc := by
  simp at h
  exact ⟨fun s _ _ _ => by simp [h, actConflictClear], fun s _ _ => by simp [actConflictClear]⟩

@[simp] theorem startRegion_links (s bank31) (h : [.pan] ⊆ sc.parts) : Links sc s (startRegion s bank31) :=
  Moves.links (by simp at h; dsimp only [startRegion]; simp [h])

@[simp] theorem restoreRegion_links (s bank31) (h : [.pan] ⊆ sc.parts) (hp : sc.panBytes) : Links sc s (restoreRegion s bank31) :=
  Moves.links (by simp at h; dsimp only [restoreRegion]; simp [h, hp])

@[simp] theorem nextRegion_links (s bank31) (h : [.pan, .board, .obs] ⊆ sc.parts) (hp : sc.panBytes) : Links sc s (nextRegion s bank31) :=
  Moves.links (by simp at h; dsimp only [nextRegion]; simp [h, hp])

@[simp] theorem execBackgroundTestRegion_ends (bank31 failed s) (h : [.pan, .sealed, .board, .obs] ⊆ sc.parts) (hp : sc.panBytes) : Ends
    sc s (execBackgroundTestRegion bank31 failed s) :=
  by simp at h; dsimp only [execBackgroundTestRegion]; simp [h, hp]

@[simp] theorem execBackgroundRegionTimeout_ends (bank31 s) (h : [.pan, .board, .obs] ⊆ sc.parts) (hp : sc.panBytes) : Ends sc s
    (execBackgroundRegionTimeout bank31 s) :=
  by simp at h; dsimp only [execBackgroundRegionTimeout]; simp [h, hp]

@[simp] theorem resumeTests_links (s) (h : [.pan] ⊆ sc.parts) (hp : sc.panBytes) : Links sc s (resumeTests s) :=
  Moves.links (by simp at h; dsimp only [resumeTests]; simp [h, hp])

/-! #### Wale (09) -/

@[simp] theorem setWay_links (s k x) (h : [.wale] ⊆ sc.parts) : Links sc s (setWay s k x) :=
  Moves.links (by simp at h; dsimp only [setWay]; simp [h])

@[simp] theorem updSlice_links (s sl f) (h : [.wale] ⊆ sc.parts) : Links sc s (updSlice s sl f) :=
  Moves.links (by simp at h; dsimp only [updSlice]; simp [h])

@[simp] theorem touchWay_links (s k) (h : [.wale] ⊆ sc.parts) : Links sc s (touchWay s k) :=
  Moves.links (by simp at h; dsimp only [touchWay]; simp [h])

@[simp] theorem toController_links (s r) (h : [.noc, .wale] ⊆ sc.parts) : Links sc s (toController s r) :=
  Moves.links (by simp at h; dsimp only [toController]; simp [h])

@[simp] theorem beginBack_links (s sl x evicted) (h : [.noc, .wale] ⊆ sc.parts) : Links sc s (beginBack s sl x evicted) :=
  Moves.links (by simp at h; dsimp only [beginBack]; simp [h])

@[simp] theorem offerPinned_links (s sl set) (h : [.noc, .wale] ⊆ sc.parts) : Links sc s (offerPinned s sl set) := by
  apply Moves.links
  simp at h
  exact foldl_moves _ _ fun s w => by split <;> simp [h]

@[simp] theorem placeLine_links (s sl w x) (h : [.noc, .wale, .board, .obs] ⊆ sc.parts) : Links sc s (placeLine s sl w x) := by
  apply Moves.links
  simp at h
  unfold placeLine
  dsimp only
  split <;> simp [h]

@[simp] theorem sendUncached_links (s sl r line) (h : [.noc, .wale] ⊆ sc.parts) : Links sc s (sendUncached s sl r line).1 :=
  Moves.links (by simp at h; dsimp only [sendUncached]; simp [h])

@[simp] theorem serveHit_links (s r line k x) (h : [.wale] ⊆ sc.parts) : Links sc s (serveHit s r line k x).1 :=
  Moves.links (by simp at h; dsimp only [serveHit]; simp [h])

@[simp] theorem tryLine_links (s earlier r line) (h : [.noc, .wale, .board, .obs] ⊆ sc.parts) : Links sc s (tryLine s earlier r line).1 :=
    by
  apply Moves.links
  simp at h
  unfold tryLine
  dsimp only
  repeat' split
  all_goals simp [h]

@[simp] theorem tryLines_links (earlier ls s r) (h : [.noc, .wale, .board, .obs] ⊆ sc.parts) : Links sc s (tryLines earlier ls s r).1 := by
  simp at h
  induction ls generalizing s r with
  | nil => exact (Moves.refl sc s).links
  | cons l ls ih => exact Moves.links (by simp [h, tryLines, ih])

@[simp] theorem settleReq_links (s r) (h : [.noc] ⊆ sc.parts) : Links sc s (settleReq s r).1 :=
  Moves.links (by simp at h; dsimp only [settleReq]; simp [h])

@[simp] theorem tryReq_links (s id) (h : [.noc, .wale, .board, .obs] ⊆ sc.parts) : Links sc s (tryReq s id) := by
  apply Moves.links
  simp at h
  unfold tryReq
  dsimp only
  repeat' split
  all_goals simp [h]

@[simp] theorem runSlices_links (s) (h : [.noc, .wale, .board, .obs] ⊆ sc.parts) : Links sc s (runSlices s) :=
  Moves.links (by simp at h; dsimp only [runSlices]; simp [h])

@[simp] theorem waleEcc_links (s sl bad) (h : [.ecc] ⊆ sc.parts) : Links sc s (waleEcc s sl bad) :=
  Moves.links (by simp at h; dsimp only [waleEcc]; simp [h])

@[simp] theorem lineErr_links (s sl line err) (h : [.wale, .ecc, .board, .obs] ⊆ sc.parts) : Links sc s (lineErr s sl line err) := by
  apply Moves.links
  simp at h
  unfold lineErr
  repeat' split
  all_goals simp [h]

@[simp] theorem tagErr_links (s sl line t) (h : [.wale, .board, .obs] ⊆ sc.parts) : Links sc s (tagErr s sl line t) := by
  apply Moves.links
  simp at h
  unfold tagErr
  split <;> simp [h]

@[simp] theorem acceptSlice_links (s p tag err) (h : [.noc, .wale, .ecc, .crypt, .board, .obs] ⊆ sc.parts) : Links sc s (acceptSlice s p
    tag err) := by
  apply Moves.links
  simp at h
  unfold acceptSlice
  dsimp only
  repeat' split
  all_goals simp [h]

@[simp] theorem takeAtPort_links (s sl x) (h : [.noc, .wale, .ecc, .crypt, .board, .obs] ⊆ sc.parts) : Links sc s (takeAtPort s sl x) :=
  Moves.links (by simp at h; dsimp only [takeAtPort]; simp [h])

@[simp] theorem emptyPorts_links (s) (h : [.noc, .wale, .ecc, .crypt, .board, .obs] ⊆ sc.parts) : Links sc s (emptyPorts s) := by
  apply Moves.links
  simp at h
  refine Moves.trans (t := { s with wale.ports := [] }) (by simp [h]) (foldl_moves _ _ fun s kv => ?_)
  simp [h]

@[simp] theorem reachSlice_links (s p tag err) (h : [.noc, .wale, .ecc, .crypt, .board, .obs] ⊆ sc.parts) : Links sc s (reachSlice s p tag
    err) :=
  Moves.links (by simp at h; dsimp only [reachSlice]; simp [h])

@[simp] theorem dramAnswer_links (s r status data) (h : [.noc, .wale] ⊆ sc.parts) : Links sc s (dramAnswer s r status data) := by
  apply Moves.links
  simp at h
  unfold dramAnswer
  dsimp only
  repeat' split
  all_goals simp [h]

@[simp] theorem serveUnallocated_links (s sl line status data) (h : [.noc, .wale, .board, .obs] ⊆ sc.parts) : Links sc s (serveUnallocated
    s sl line status data) :=
  Moves.links (by simp at h; dsimp only [serveUnallocated]; simp [h])

@[simp] theorem execLineFillDone_ends (k s) (h : [.noc, .wale, .board, .obs] ⊆ sc.parts) : Ends sc s (execLineFillDone k s) := by
  simp at h
  unfold execLineFillDone
  dsimp only
  repeat' split
  all_goals simp [h]

@[simp] theorem flushLine_links (s sl line status) (h : [.wale] ⊆ sc.parts) : Links sc s (flushLine s sl line status) :=
  Moves.links (by simp at h; dsimp only [flushLine]; simp [h])

@[simp] theorem keepBack_links (s b) (h : [.noc, .wale, .board, .obs] ⊆ sc.parts) : Links sc s (keepBack s b) := by
  apply Moves.links
  simp at h
  unfold keepBack
  dsimp only
  repeat' split
  all_goals simp [h]

@[simp] theorem execWriteBackAnswered_ends (k status s) (h : [.noc, .wale, .board, .obs] ⊆ sc.parts) : Ends sc s (execWriteBackAnswered k
    status s) := by
  simp at h
  unfold execWriteBackAnswered
  dsimp only
  repeat' split
  all_goals simp [h]

@[simp] theorem beginFlush_links (s sl invalidate) (h : [.noc, .wale] ⊆ sc.parts) : Links sc s (beginFlush s sl invalidate) :=
  Moves.links (by simp at h; dsimp only [beginFlush]; simp [h])

@[simp] theorem actFlush_within (invalidate) (h : [.noc, .wale] ⊆ sc.parts) : (actFlush invalidate).Within sc := by
  simp at h
  exact ⟨fun s _ _ _ => by simp [h, actFlush], fun s _ _ => by simp [actFlush]⟩

@[simp] theorem invalidateSlice_links (s sl) (h : [.wale] ⊆ sc.parts) : Links sc s (invalidateSlice s sl) :=
  Moves.links (by simp at h; dsimp only [invalidateSlice]; simp [h])

@[simp] theorem execFlushDone_ends (slice s) (h : [.wale, .board, .obs] ⊆ sc.parts) : Ends sc s (execFlushDone slice s) :=
  by simp at h; dsimp only [execFlushDone]; simp [h]

@[simp] theorem execMaintenanceEntryTimeout_ends (slice line s) (h : [.wale] ⊆ sc.parts) : Ends sc s (execMaintenanceEntryTimeout slice
    line s) :=
  by simp at h; dsimp only [execMaintenanceEntryTimeout]; simp [h]

@[simp] theorem flushNow_links (s sl invalidate) (h : [.freeCtr, .obj, .wale, .dram, .ecc, .crypt, .board, .obs] ⊆ sc.parts) (hd :
    sc.dramBytes) : Links sc s (flushNow s sl invalidate) :=
  Moves.links (by simp at h; dsimp only [flushNow]; simp [h, hd])

@[simp] theorem performDram_links (s r errs spareErrs) (h : [.freeCtr, .obj, .noc, .wale, .dram, .ecc, .crypt, .board, .obs] ⊆ sc.parts)
    (hd : sc.dramBytes) : Links sc s (performDram s r errs spareErrs) :=
  Moves.links (by simp at h; dsimp only [performDram]; simp [h, hd])

@[simp] theorem settleDram_links (s) (h : [.freeCtr, .obj, .noc, .wale, .dram, .ecc, .crypt, .board, .obs] ⊆ sc.parts) (hd : sc.dramBytes)
    : Links sc s (settleDram s) :=
  Moves.links (by simp at h; dsimp only [settleDram]; simp [h, hd])

@[simp] theorem flushAll_links (s invalidate) (h : [.freeCtr, .obj, .noc, .wale, .dram, .ecc, .crypt, .board, .obs] ⊆ sc.parts) (hd :
    sc.dramBytes) : Links sc s (flushAll s invalidate) :=
  Moves.links (by simp at h; dsimp only [flushAll]; simp [h, hd])

@[simp] theorem peekLine_links (s line init) (h : [.freeCtr, .obj, .dram, .ecc, .crypt, .board, .obs] ⊆ sc.parts) (hd : sc.dramBytes) :
    Links sc s (peekLine s line init).1 := by
  apply Moves.links
  simp at h
  unfold peekLine
  dsimp only
  repeat' split
  all_goals simp [h, hd]

@[simp] theorem peekGo_links (init a ls s st acc) (h : [.freeCtr, .obj, .dram, .ecc, .crypt, .board, .obs] ⊆ sc.parts) (hd : sc.dramBytes)
    : Links sc s (peekGo init a ls s st acc).1 := by
  simp at h
  induction ls generalizing s st acc with
  | nil => exact (Moves.refl sc _).links
  | cons l ls ih => exact Moves.links (by simp [h, hd, peekGo, ih])

@[simp] theorem peek_links (s init a n) (h : [.freeCtr, .obj, .dram, .ecc, .crypt, .board, .obs] ⊆ sc.parts) (hd : sc.dramBytes) : Links
    sc s (peek s init a n).1 :=
  Moves.links (by simp at h; dsimp only [peek]; simp [h, hd])

@[simp] theorem pokeLine_links (s init line off data) (h : [.freeCtr, .obj, .noc, .wale, .dram, .ecc, .crypt, .board, .obs] ⊆ sc.parts)
    (hd : sc.dramBytes) : Links sc s (pokeLine s init line off data).1 := by
  apply Moves.links
  simp at h
  unfold pokeLine
  dsimp only
  repeat' split
  all_goals simp [h, hd]

@[simp] theorem poke_links (init fuel a data s) (h : [.freeCtr, .obj, .noc, .wale, .dram, .ecc, .crypt, .board, .obs] ⊆ sc.parts) (hd :
    sc.dramBytes) : Links sc s (poke init fuel a data s).1 := by
  simp at h
  induction fuel generalizing a data s with
  | zero => exact (Moves.refl sc _).links
  | succ fuel ih => exact Moves.links (by simp [h, hd, poke, ih])

@[simp] theorem pokeAll_links (s init a data) (h : [.freeCtr, .obj, .noc, .wale, .dram, .ecc, .crypt, .board, .obs] ⊆ sc.parts) (hd :
    sc.dramBytes) : Links sc s (pokeAll s init a data).1 :=
  Moves.links (by simp at h; dsimp only [pokeAll]; simp [h, hd])

/-! #### Base ports (R172, R382 to R384) -/

@[simp] theorem toPort_links (s g c ctx ws) (h : [.outs, .fab, .board, .obs] ⊆ sc.parts) : Links sc s (toPort s g c ctx ws) :=
  Moves.links (by simp at h; dsimp only [toPort]; simp [h])

@[simp] theorem portAnswer_links (s p g c status data) (h : [.outs, .fab, .noc, .board, .obs] ⊆ sc.parts) : Links sc s (portAnswer s p g c
    status data) :=
  Moves.links (by simp at h; dsimp only [portAnswer]; simp [h])

@[simp] theorem dropAbsent_links (s) (h : [.fab, .board, .obs] ⊆ sc.parts) : Links sc s (dropAbsent s) :=
  Moves.links (by simp at h; dsimp only [dropAbsent]; simp [h])

@[simp] theorem portInbound_links (s p g c off) (h : [.outs, .fab, .noc, .board, .obs] ⊆ sc.parts) : Links sc s (portInbound s p g c off) :=
  Moves.links (by simp at h; dsimp only [portInbound]; simp [h])

@[simp] theorem portRequest_links (s g c ws) (h : [.noc, .board, .obs] ⊆ sc.parts) : Links sc s (portRequest s g c ws) :=
  Moves.links (by simp at h; dsimp only [portRequest]; simp [h])

@[simp] theorem portReply_links (s g c ws) (h : [.noc, .board, .obs] ⊆ sc.parts) : Links sc s (portReply s g c ws) := by
  apply Moves.links
  simp at h
  unfold portReply
  dsimp only
  repeat' split
  all_goals simp [h]

@[simp] theorem portTransaction_links (s g c words) (h : [.noc, .board, .obs] ⊆ sc.parts) : Links sc s (portTransaction s g c words) :=
  Moves.links (by simp at h; dsimp only [portTransaction]; simp [h])

@[simp] theorem portTaken_links (s g c words) (h : [.planes, .noc, .board, .obs] ⊆ sc.parts) : Links sc s (portTaken s g c words) :=
  Moves.links (by simp at h; dsimp only [portTaken]; simp [h])

@[simp] theorem execBaseportTransaction_ends (sector cluster words s) (h : [.edge, .planes, .noc, .board, .obs] ⊆ sc.parts) : Ends sc s
    (execBaseportTransaction sector cluster words s) :=
  by simp at h; dsimp only [execBaseportTransaction]; simp [h]

@[simp] theorem endPort_links (s g c status) (h : [.outs, .fab, .noc, .board, .obs] ⊆ sc.parts) : Links sc s (endPort s g c status) :=
  Moves.links (by simp at h; dsimp only [endPort]; simp [h])

/-! #### The movers (R385 to R387) -/

@[simp] theorem updMover_links (s m f) (h : [.noc] ⊆ sc.parts) : Links sc s (updMover s m f) :=
  Moves.links (by simp at h; dsimp only [updMover]; simp [h])

@[simp] theorem moverIssue_links (m fuel s) (h : [.noc, .board, .obs] ⊆ sc.parts) : Links sc s (moverIssue m fuel s) := by
  simp at h
  induction fuel generalizing s with
  | zero => exact (Moves.refl sc _).links
  | succ fuel ih => exact Moves.links (by simp [h, moverIssue, ih])

@[simp] theorem moverGo_links (s m) (h : [.noc, .board, .obs] ⊆ sc.parts) : Links sc s (moverGo s m) :=
  Moves.links (by simp at h; dsimp only [moverGo]; simp [h])

@[simp] theorem moverSettle_links (s m) (h : [.noc, .board, .obs] ⊆ sc.parts) : Links sc s (moverSettle s m) :=
  Moves.links (by simp at h; dsimp only [moverSettle]; simp [h])

@[simp] theorem moverFail_links (s m status) (h : [.noc, .board, .obs] ⊆ sc.parts) : Links sc s (moverFail s m status) :=
  Moves.links (by simp at h; dsimp only [moverFail]; simp [h])

@[simp] theorem readDescriptor_links (s m addr) (h : [.noc, .board, .obs] ⊆ sc.parts) : Links sc s (readDescriptor s m addr) :=
  Moves.links (by simp at h; dsimp only [readDescriptor]; simp [h])

@[simp] theorem startMover_links (s m addr) (h : [.noc, .board, .obs] ⊆ sc.parts) : Links sc s (startMover s m addr) :=
  Moves.links (by simp at h; dsimp only [startMover]; simp [h])

@[simp] theorem gotDescriptor_links (s m d) (h : [.noc, .board, .obs] ⊆ sc.parts) : Links sc s (gotDescriptor s m d) :=
  Moves.links (by simp at h; dsimp only [gotDescriptor]; simp [h])

@[simp] theorem moverResponse_links (s m use p status data) (h : [.noc, .board, .obs] ⊆ sc.parts) : Links sc s (moverResponse s m use p
    status data) := by
  apply Moves.links
  simp at h
  unfold moverResponse
  dsimp only
  repeat' split
  all_goals simp [h]

@[simp] theorem moverDoorbell_links (s init m addr) (h : [.noc, .board, .obs] ⊆ sc.parts) : Links sc s (moverDoorbell s init m addr).1 :=
  Moves.links (by simp at h; dsimp only [moverDoorbell]; simp [h])

@[simp] theorem actMoverStart_within (h : [.noc, .board, .obs] ⊆ sc.parts) : actMoverStart.Within sc := by
  simp at h
  exact ⟨fun s _ _ _ => by simp [h, actMoverStart], fun s _ _ => by simp [actMoverStart]⟩

@[simp] theorem stopMover_links (s m) (h : [.noc, .board, .obs] ⊆ sc.parts) : Links sc s (stopMover s m) :=
  Moves.links (by simp at h; dsimp only [stopMover]; simp [h])

@[simp] theorem actMoverStop_within (h : [.noc, .board, .obs] ⊆ sc.parts) : actMoverStop.Within sc := by
  simp at h
  exact ⟨fun s _ _ _ => by simp [h, actMoverStop], fun s _ _ => by simp [actMoverStop]⟩

@[simp] theorem execMoverStartTime_ends (m s) (h : [.noc, .board, .obs] ⊆ sc.parts) : Ends sc s (execMoverStartTime m s) :=
  by simp at h; dsimp only [execMoverStartTime]; simp [h]

@[simp] theorem execMoverDescriptorDone_ends (m s) (h : [.noc, .board, .obs] ⊆ sc.parts) : Ends sc s (execMoverDescriptorDone m s) :=
  by simp at h; dsimp only [execMoverDescriptorDone]; simp [h]

end Sys2Proof.Machine
end

section
/-! PROOFS. The scope of each operation: time, pins, lanes, keys, the sealed partition and streams. -/

namespace Sys2Proof.Machine

variable {sc : Scope}

/-! #### The time base and the I/O banks (13) -/

@[simp] theorem updBank_links (s b f) (h : [.banks] ⊆ sc.parts) : Links sc s (updBank s b f) :=
  Moves.links (by simp at h; dsimp only [updBank]; simp [h])

@[simp] theorem timeState_links (s st gm) (h : [.time, .board, .obs] ⊆ sc.parts) : Links sc s (timeState s st gm) :=
  Moves.links (by simp at h; dsimp only [timeState]; simp [h])

@[simp] theorem runSelection_links (s) (h : [.time, .board, .obs] ⊆ sc.parts) : Links sc s (runSelection s) := by
  apply Moves.links
  simp at h
  unfold runSelection
  dsimp only
  split <;> simp [h]

@[simp] theorem execAnnounce_ends (m s) (h : [.time, .board, .obs] ⊆ sc.parts) : Ends sc s (execAnnounce m s) :=
  by simp at h; dsimp only [execAnnounce]; simp [h]

@[simp] theorem execPdelay_ends (m s) (h : [.time] ⊆ sc.parts) : Ends sc s (execPdelay m s) :=
  by simp at h; dsimp only [execPdelay]; simp [h]

@[simp] theorem servo_links (s) (h : [.freeCtr, .time] ⊆ sc.parts) : Links sc s (servo s) :=
  Moves.links (by simp at h; dsimp only [servo]; simp [h])

@[simp] theorem stepTime_links (s off) (h : [.time, .board, .obs] ⊆ sc.parts) : Links sc s (stepTime s off) :=
  Moves.links (by simp at h; dsimp only [stepTime]; simp [h])

@[simp] theorem discipline_links (s off) (h : [.freeCtr, .time, .board, .obs] ⊆ sc.parts) : Links sc s (discipline s off) :=
  Moves.links (by simp at h; dsimp only [discipline]; simp [h])

@[simp] theorem execSync_ends (m s) (h : [.freeCtr, .time, .board, .obs] ⊆ sc.parts) : Ends sc s (execSync m s) :=
  by simp at h; dsimp only [execSync]; simp [h]

@[simp] theorem execSyncTimeout_ends (s) (h : [.time, .board, .obs] ⊆ sc.parts) : Ends sc s (execSyncTimeout s) :=
  by simp at h; dsimp only [execSyncTimeout]; simp [h]

@[simp] theorem actTimeSet_within (h : [.time, .board, .obs] ⊆ sc.parts) : actTimeSet.Within sc := by
  simp at h
  exact ⟨fun s _ _ _ => by simp [h, actTimeSet], fun s _ _ => by simp [actTimeSet]⟩

@[simp] theorem execSyncInterval_ends (port s) (h : [.outs, .time] ⊆ sc.parts) : Ends sc s (execSyncInterval port s) :=
  by simp at h; dsimp only [execSyncInterval]; simp [h]

@[simp] theorem updPin_links (s b pin f) (h : [.pins] ⊆ sc.parts) : Links sc s (updPin s b pin f) :=
  Moves.links (by simp at h; dsimp only [updPin]; simp [h])

@[simp] theorem actPin_within (b pin) : (actPin b pin).Within sc := by
  exact ⟨fun s _ _ _ => by simp [actPin], fun s _ _ => by simp [actPin]⟩

@[simp] theorem safePin_links (b zpin s pin) (h : [.pins] ⊆ sc.parts) : Links sc s (safePin b zpin s pin) :=
  Moves.links (by simp at h; dsimp only [safePin]; simp [h])

@[simp] theorem applySafe_links (s b cause zpin) (h : [.banks, .pins, .board, .obs] ⊆ sc.parts) : Links sc s (applySafe s b cause zpin) :=
  Moves.links (by simp at h; dsimp only [applySafe]; simp [h])

/-- A pin's fallback, where the pair of its configuration mismatches. -/
theorem pinFallback_moves {s : State} {b pin : Nat} (h : [.obj, .ecc, .banks, .pins, .board, .obs] ⊆ sc.parts)
    (hf : sc.keys (objKey (0x6920 + b) (pin + 1)) ∨ s.pairOk (0x6920 + b) (pin + 1) = false) : Moves sc s (pinFallback s b pin) := by
  have hobj : (applySafe s b 5 (some pin)).obj = s.obj :=
    (applySafe_links (sc := .quiet [.banks, .pins, .board, .obs]) s b 5 (some pin) (by simp)).same .obj
  simp at h
  refine (compEvent_links _ _ _ (by simp [h])).after (.trans (applySafe_links s b 5 (some pin) (by simp [h])).moves ?_)
  exact resetObj_moves (by simp [h]) (hf.imp_right fun hf => by unfold State.pairOk State.stored; rw [hobj]; exact hf)

@[simp] theorem usePin_links (s b pin) (h : [.obj, .ecc, .banks, .pins, .board, .obs] ⊆ sc.parts) : Links sc s (usePin s b pin) := by
  apply Moves.links
  unfold usePin
  split
  · rfl
  · exact pinFallback_moves h (.inr (Bool.eq_false_of_not_eq_true ‹_›))

@[simp] theorem dropEdge_links (s b pin) (h : [.banks, .board, .obs] ⊆ sc.parts) : Links sc s (dropEdge s b pin) :=
  Moves.links (by simp at h; dsimp only [dropEdge]; simp [h])

@[simp] theorem execInputEdge_ends (b pin rising time fraction s) (h : [.obj, .ecc, .banks, .pins, .board, .obs] ⊆ sc.parts) : Ends sc s
    (execInputEdge b pin rising time fraction s) :=
  by simp at h; dsimp only [execInputEdge]; simp [h]

@[simp] theorem drain_links (s b) (h : [.noc, .banks, .board, .obs] ⊆ sc.parts) : Links sc s (drain s b) :=
  Moves.links (by simp at h; dsimp only [drain]; simp [h])

@[simp] theorem drained_links (s b addr status) (h : [.banks, .board, .obs] ⊆ sc.parts) : Links sc s (drained s b addr status) :=
  Moves.links (by simp at h; dsimp only [drained]; simp [h])

@[simp] theorem takeSlot_links (b s slot) (h : [.banks, .board, .obs] ⊆ sc.parts) : Links sc s (takeSlot b s slot) :=
  Moves.links (by simp at h; dsimp only [takeSlot]; simp [h])

@[simp] theorem pollFailed_links (s b addr status) (h : [.board, .obs] ⊆ sc.parts) : Links sc s (pollFailed s b addr status) :=
  Moves.links (by simp at h; dsimp only [pollFailed]; simp [h])

@[simp] theorem execOutputPoll_ends (b s) (h : [.pan, .ecc, .banks, .sealed, .board, .obs] ⊆ sc.parts) (hp : sc.panBytes) : Ends sc s
    (execOutputPoll b s) :=
  by simp at h; dsimp only [execOutputPoll]; simp [h, hp]

@[simp] theorem drivePin_links (s b pin action at_) (h : [.freeCtr, .pins] ⊆ sc.parts) : Links sc s (drivePin s b pin action at_) :=
  Moves.links (by simp at h; dsimp only [drivePin]; simp [h])

@[simp] theorem runEntry_links (s b e at_) (h : [.freeCtr, .banks, .pins, .board, .obs] ⊆ sc.parts) : Links sc s (runEntry s b e at_) :=
  Moves.links (by simp at h; dsimp only [runEntry]; simp [h])

@[simp] theorem dropHead_links (s b) (h : [.banks] ⊆ sc.parts) : Links sc s (dropHead s b) :=
  Moves.links (by simp at h; dsimp only [dropHead]; simp [h])

@[simp] theorem runBatch_links (b cyc fuel used s) (h : [.freeCtr, .banks, .pins, .board, .obs] ⊆ sc.parts) : Links sc s (runBatch b cyc
    fuel used s) := by
  simp at h
  induction fuel generalizing used s with
  | zero => exact (Moves.refl sc _).links
  | succ fuel ih =>
    apply Moves.links
    unfold runBatch
    split <;> simp [h, ih]

@[simp] theorem execOutputEntryExecute_ends (b s) (h : [.freeCtr, .obj, .ecc, .banks, .pins, .board, .obs] ⊆ sc.parts) : Ends sc s
    (execOutputEntryExecute b s) := by
  simp at h
  unfold execOutputEntryExecute
  dsimp only
  repeat' split
  all_goals simp [h]

@[simp] theorem execReturnTimer_ends (b pin s) (h : [.freeCtr, .obj, .ecc, .banks, .pins, .board, .obs] ⊆ sc.parts) : Ends sc s
    (execReturnTimer b pin s) := by
  simp at h
  unfold execReturnTimer
  dsimp only
  split <;> simp [h]

@[simp] theorem applySafeAll_links (s cause) (h : [.banks, .pins, .board, .obs] ⊆ sc.parts) : Links sc s (applySafeAll s cause) :=
  Moves.links (by simp at h; dsimp only [applySafeAll]; simp [h])

@[simp] theorem startBank_links (s b) (h : [.banks, .board, .obs] ⊆ sc.parts) : Links sc s (startBank s b) :=
  Moves.links (by simp at h; dsimp only [startBank]; simp [h])

@[simp] theorem actBank_within (b) (h : [.banks, .pins, .board, .obs] ⊆ sc.parts) : (actBank b).Within sc := by
  simp at h
  exact ⟨fun s _ _ _ => by simp [h, actBank], fun s _ _ => by simp [actBank]⟩

@[simp] theorem actBankSetting_within (b) : (actBankSetting b).Within sc := by
  exact ⟨fun s _ _ _ => by simp [actBankSetting], fun s _ _ => by simp [actBankSetting]⟩

@[simp] theorem startBanks_links (s) (h : [.banks, .board, .obs] ⊆ sc.parts) : Links sc s (startBanks s) :=
  Moves.links (by simp at h; dsimp only [startBanks]; simp [h])

@[simp] theorem releaseHeads_links (s) (h : [.banks] ⊆ sc.parts) : Links sc s (releaseHeads s) :=
  Moves.links (by simp at h; dsimp only [releaseHeads]; simp [h])

/-! #### The lanes (14) -/

@[simp] theorem updLane_links (s k f) (h : [.lanes] ⊆ sc.parts) : Links sc s (updLane s k f) :=
  Moves.links (by simp at h; dsimp only [updLane]; simp [h])

@[simp] theorem putMarker_links (s k kind count content) (h : [.lanes, .board, .obs] ⊆ sc.parts) : Links sc s (putMarker s k kind count
    content) :=
  Moves.links (by simp at h; dsimp only [putMarker]; simp [h])

@[simp] theorem marker_links (s k kind count content) (h : [.lanes, .board, .obs] ⊆ sc.parts) : Links sc s (marker s k kind count content)
    :=
  Moves.links (by simp at h; dsimp only [marker]; simp [h])

@[simp] theorem rxData_links (s k bs) (h : [.lanes, .board, .obs] ⊆ sc.parts) : Links sc s (rxData s k bs) :=
  Moves.links (by simp at h; dsimp only [rxData]; simp [h])

@[simp] theorem rxKchars_links (s k cs) (h : [.lanes, .board, .obs] ⊆ sc.parts) : Links sc s (rxKchars s k cs) :=
  Moves.links (by simp at h; dsimp only [rxKchars]; simp [h])

@[simp] theorem rxUnit_links (k s u) (h : [.lanes, .board, .obs] ⊆ sc.parts) : Links sc s (rxUnit k s u) := by
  apply Moves.links
  simp at h
  unfold rxUnit
  split <;> simp [h]

@[simp] theorem pushData_links (s k) (h : [.noc, .lanes, .board, .obs] ⊆ sc.parts) : Links sc s (pushData s k) :=
  Moves.links (by simp at h; dsimp only [pushData]; simp [h])

@[simp] theorem pushMarks_links (s k) (h : [.noc, .lanes, .board, .obs] ⊆ sc.parts) : Links sc s (pushMarks s k) :=
  Moves.links (by simp at h; dsimp only [pushMarks]; simp [h])

@[simp] theorem execLaneRxPush_ends (n units s) (h : [.noc, .lanes, .board, .obs] ⊆ sc.parts) : Ends sc s (execLaneRxPush n units s) :=
  by simp at h; dsimp only [execLaneRxPush]; simp [h]

@[simp] theorem execLanePushRetry_ends (n s) (h : [.noc, .lanes, .board, .obs] ⊆ sc.parts) : Ends sc s (execLanePushRetry n s) :=
  by simp at h; dsimp only [execLanePushRetry]; simp [h]

@[simp] theorem lanePushed_links (s k mark addr len status) (h : [.lanes, .board, .obs] ⊆ sc.parts) : Links sc s (lanePushed s k mark addr
    len status) :=
  Moves.links (by simp at h; dsimp only [lanePushed]; simp [h])

@[simp] theorem sendRecords_links (k fuel bs s) (h : [.outs] ⊆ sc.parts) : Links sc s (sendRecords k fuel bs s) := by
  simp at h
  induction fuel generalizing bs s with
  | zero => exact (Moves.refl sc _).links
  | succ fuel ih =>
    apply Moves.links
    unfold sendRecords
    split <;> simp [h, ih]

@[simp] theorem execLaneTxPop_ends (n s) (h : [.outs, .pan, .ecc, .lanes, .sealed, .board, .obs] ⊆ sc.parts) (hp : sc.panBytes) : Ends sc
    s (execLaneTxPop n s) :=
  by simp at h; dsimp only [execLaneTxPop]; simp [h, hp]

@[simp] theorem beginLane_links (s k) (h : [.lanes] ⊆ sc.parts) : Links sc s (beginLane s k) :=
  Moves.links (by simp at h; dsimp only [beginLane]; simp [h])

@[simp] theorem stopLane_links (s k cause) (h : [.lanes, .board, .obs] ⊆ sc.parts) : Links sc s (stopLane s k cause) :=
  Moves.links (by simp at h; dsimp only [stopLane]; simp [h])

@[simp] theorem actLane_within (k) (h : [.lanes, .board, .obs] ⊆ sc.parts) : (actLane k).Within sc := by
  simp at h
  exact ⟨fun s _ _ _ => by simp [h, actLane], fun s _ _ => by simp [actLane]⟩

@[simp] theorem actLaneSetting_within (k sub) : (actLaneSetting k sub).Within sc := by
  exact ⟨fun s _ _ _ => by simp [actLaneSetting], fun s _ _ => by simp [actLaneSetting]⟩

@[simp] theorem actQuad_within (q) : (actQuad q).Within sc := by
  exact ⟨fun s _ _ _ => by simp [actQuad], fun s _ _ => by simp [actQuad]⟩

@[simp] theorem failLane_links (s k step reason) (h : [.lanes, .board, .obs] ⊆ sc.parts) : Links sc s (failLane s k step reason) :=
  Moves.links (by simp at h; dsimp only [failLane]; simp [h])

@[simp] theorem afterStep_links (s k) (h : [.lanes] ⊆ sc.parts) : Links sc s (afterStep s k) := by
  apply Moves.links
  simp at h
  unfold afterStep
  split <;> simp [h]

@[simp] theorem execLaneLocked_ends (l fom s) (h : [.lanes, .board, .obs] ⊆ sc.parts) : Ends sc s (execLaneLocked l fom s) :=
  by simp at h; dsimp only [execLaneLocked]; simp [h]

@[simp] theorem execLaneTs2Received_ends (l maxRate hitch pre post s) (h : [.lanes, .board, .obs] ⊆ sc.parts) : Ends sc s
    (execLaneTs2Received l maxRate hitch pre post s) :=
  by simp at h; dsimp only [execLaneTs2Received]; simp [h]

@[simp] theorem execLaneStep_ends (l s) (h : [.lanes] ⊆ sc.parts) : Ends sc s (execLaneStep l s) := by
  simp at h
  unfold execLaneStep
  dsimp only
  split <;> simp [h]

@[simp] theorem stepFailed_links (s k failed reached) (h : [.lanes, .board, .obs] ⊆ sc.parts) : Links sc s (stepFailed s k failed reached)
    :=
  Moves.links (by simp at h; dsimp only [stepFailed]; simp [h])

@[simp] theorem execLaneBringupLimit_ends (l s) (h : [.lanes, .board, .obs] ⊆ sc.parts) : Ends sc s (execLaneBringupLimit l s) :=
  by simp at h; dsimp only [execLaneBringupLimit]; simp [h]

@[simp] theorem loseLock_links (s k) (h : [.lanes, .board, .obs] ⊆ sc.parts) : Links sc s (loseLock s k) :=
  Moves.links (by simp at h; dsimp only [loseLock]; simp [h])

@[simp] theorem execLaneAdaptStep_ends (l setting up s) (h : [.lanes] ⊆ sc.parts) : Ends sc s (execLaneAdaptStep l setting up s) :=
  by simp at h; dsimp only [execLaneAdaptStep]; simp [h]

@[simp] theorem execServiceLaneAutoTry_ends (p s) (h : [.lanes] ⊆ sc.parts) : Ends sc s (execServiceLaneAutoTry p s) :=
  by simp at h; dsimp only [execServiceLaneAutoTry]; simp [h]

@[simp] theorem actServiceMode_within (p) (h : [.lanes] ⊆ sc.parts) : (actServiceMode p).Within sc := by
  simp at h
  exact ⟨fun s _ _ _ => by simp [h, actServiceMode], fun s _ _ => by simp [actServiceMode]⟩

@[simp] theorem startLanes_links (s) (h : [.lanes] ⊆ sc.parts) : Links sc s (startLanes s) :=
  Moves.links (by simp at h; dsimp only [startLanes]; simp [h])

@[simp] theorem stopLanes_links (s again) (h : [.lanes, .board, .obs] ⊆ sc.parts) : Links sc s (stopLanes s again) :=
  Moves.links (by simp at h; dsimp only [stopLanes]; simp [h])

@[simp] theorem resumeLanes_links (s) (h : [.lanes] ⊆ sc.parts) : Links sc s (resumeLanes s) :=
  Moves.links (by simp at h; dsimp only [resumeLanes]; simp [h])

/-! #### The DRAM controller (10) -/

@[simp] theorem execDramRequest_ends (k s) (h : [.noc, .wale, .dram] ⊆ sc.parts) : Ends sc s (execDramRequest k s) := by
  simp at h
  unfold execDramRequest
  dsimp only
  repeat' split
  all_goals simp [h]

@[simp] theorem execRequestUrgent_ends (channel write k s) (h : [.dram, .board, .obs] ⊆ sc.parts) : Ends sc s (execRequestUrgent channel
    write k s) := by
  simp at h
  unfold execRequestUrgent
  dsimp only
  split <;> simp [h]

@[simp] theorem execRefreshInterval_ends (b s) (h : [.dram, .board, .obs] ⊆ sc.parts) : Ends sc s (execRefreshInterval b s) :=
  by simp at h; dsimp only [execRefreshInterval]; simp [h]

@[simp] theorem refreshBank_links (s key) (h : [.dram, .board, .obs] ⊆ sc.parts) : Links sc s (refreshBank s key) :=
  Moves.links (by simp at h; dsimp only [refreshBank]; simp [h])

@[simp] theorem neighbourBank_links (s key) (h : [.obj, .dram, .ecc, .board, .obs] ⊆ sc.parts) : Links sc s (neighbourBank s key) := by
  apply Moves.links
  simp at h
  unfold neighbourBank
  split <;> simp [h]

@[simp] theorem serveDram_links (s ch r errs spareErrs) (h : [.freeCtr, .obj, .noc, .wale, .dram, .ecc, .crypt, .board, .obs] ⊆ sc.parts)
    (hd : sc.dramBytes) : Links sc s (serveDram s ch r errs spareErrs) :=
  Moves.links (by simp at h; dsimp only [serveDram]; simp [h, hd])

@[simp] theorem execDramCommandSlot_ends (channel pcB errs spareErrs s0) (h : [.freeCtr, .obj, .noc, .wale, .dram, .ecc, .crypt, .board,
    .obs] ⊆ sc.parts) (hd : sc.dramBytes) : Ends sc s0 (execDramCommandSlot channel pcB errs spareErrs s0) := by
  simp at h
  unfold execDramCommandSlot
  dsimp only
  repeat' split
  all_goals simp [h, hd]

@[simp] theorem repairLanes_links (s ch pc failing) (h : [.dram, .board, .obs] ⊆ sc.parts) : Links sc s (repairLanes s ch pc failing) :=
  Moves.links (by simp at h; dsimp only [repairLanes]; simp [h])

@[simp] theorem execRetrainBurst_ends (channel pcB failing s) (h : [.dram, .board, .obs] ⊆ sc.parts) : Ends sc s (execRetrainBurst channel
    pcB failing s) :=
  by simp at h; dsimp only [execRetrainBurst]; simp [h]

@[simp] theorem beginRetrain_links (s ch) (h : [.dram] ⊆ sc.parts) : Links sc s (beginRetrain s ch) :=
  Moves.links (by simp at h; dsimp only [beginRetrain]; simp [h])

@[simp] theorem actRetire_within (h : [.dram, .board, .obs] ⊆ sc.parts) : actRetire.Within sc := by
  simp at h
  exact ⟨fun s _ _ _ => by simp [h, actRetire], fun s _ _ => by simp [actRetire]⟩

@[simp] theorem actRetrain_within (h : [.dram] ⊆ sc.parts) : actRetrain.Within sc := by
  simp at h
  exact ⟨fun s _ _ _ => by simp [h, actRetrain], fun s _ _ => by simp [actRetrain]⟩

@[simp] theorem actSpares_within (h : [.dram] ⊆ sc.parts) : actSpares.Within sc := by
  simp at h
  exact ⟨fun s _ _ _ => by simp [h, actSpares], fun s _ _ => by simp [actSpares]⟩

@[simp] theorem execCaParityError_ends (channel rank s) (h : [.dram, .board, .obs] ⊆ sc.parts) : Ends sc s (execCaParityError channel rank
    s) :=
  by simp at h; dsimp only [execCaParityError]; simp [h]

@[simp] theorem migAdvance_links (s ch) (h : [.dram, .board, .obs] ⊆ sc.parts) : Links sc s (migAdvance s ch) :=
  Moves.links (by simp at h; dsimp only [migAdvance]; simp [h])

@[simp] theorem migWrite_links (s ch a symbols) (h : [.freeCtr, .obj, .dram, .ecc, .board, .obs] ⊆ sc.parts) (hd : sc.dramBytes) : Links
    sc s (migWrite s ch a symbols) :=
  Moves.links (by simp at h; dsimp only [migWrite]; simp [h, hd])

@[simp] theorem execMigrationCopy_ends (channel symbols s0) (h : [.freeCtr, .obj, .wale, .dram, .ecc, .board, .obs] ⊆ sc.parts) (hd :
    sc.dramBytes) : Ends sc s0 (execMigrationCopy channel symbols s0) := by
  simp at h
  unfold execMigrationCopy
  dsimp only
  repeat' split
  all_goals simp [h, hd]

@[simp] theorem execMigrationLineTimeout_ends (channel s) (h : [.dram] ⊆ sc.parts) : Ends sc s (execMigrationLineTimeout channel s) := by
  simp at h
  unfold execMigrationLineTimeout
  split <;> simp [h]

/-! #### Key slots and regions (12) -/

@[simp] theorem actKey_within (h : [.freeCtr, .crypt, .board, .obs] ⊆ sc.parts) : actKey.Within sc := by
  simp at h
  exact ⟨fun s _ _ _ => by simp [h, actKey], fun s _ _ => by simp [h, actKey]⟩

@[simp] theorem dropMeta_links (s r) (h : [.crypt] ⊆ sc.parts) : Links sc s (dropMeta s r) :=
  Moves.links (by simp at h; dsimp only [dropMeta]; simp [h])

@[simp] theorem dropFaults_links (s r) (h : [.crypt] ⊆ sc.parts) : Links sc s (dropFaults s r) :=
  Moves.links (by simp at h; dsimp only [dropFaults]; simp [h])

@[simp] theorem enableRegion_links (s r cmd) (h : [.freeCtr, .obj, .noc, .wale, .dram, .ecc, .crypt, .board, .obs] ⊆ sc.parts) (hd :
    sc.dramBytes) : Links sc s (enableRegion s r cmd) :=
  Moves.links (by simp at h; dsimp only [enableRegion]; simp [h, hd])

@[simp] theorem disableRegion_links (s r) (h : [.freeCtr, .obj, .noc, .wale, .dram, .ecc, .crypt, .board, .obs] ⊆ sc.parts)
    (hd : sc.dramBytes) (hk : sc.keys (objKey (0x6810 + r) 1)) : Links sc s (disableRegion s r) :=
  Moves.links (by simp at h; dsimp only [disableRegion]; simp [h, hd, hk])

@[simp] theorem actRegion_within (r) (h : [.freeCtr, .obj, .noc, .wale, .dram, .ecc, .crypt, .board, .obs] ⊆ sc.parts)
    (hd : sc.dramBytes) (hk : sc.keys (objKey (0x6810 + r) 1)) : (actRegion r).Within sc := by
  simp at h
  exact ⟨fun s _ _ _ => by simp [h, hd, hk, actRegion], fun s _ _ => by simp [actRegion]⟩

@[simp] theorem actRegionSetting_within (r) : (actRegionSetting r).Within sc := by
  exact ⟨fun s _ _ _ => by simp [actRegionSetting], fun s _ _ => by simp [actRegionSetting]⟩

@[simp] theorem initLines_links (s r) (h : [.obj, .dram, .ecc, .board, .obs] ⊆ sc.parts) (hd : sc.dramBytes) : Links sc s (initLines s r) :=
  Moves.links (by simp at h; dsimp only [initLines]; simp [h, hd])

@[simp] theorem initNodes_links (s r) (h : [.obj, .dram, .ecc, .board, .obs] ⊆ sc.parts) (hd : sc.dramBytes) :
    Links sc s (initNodes s r) := by
  apply Moves.links
  simp at h
  unfold initNodes
  split
  · rfl
  · exact foldl_moves _ _ fun s l => foldl_moves _ _ fun s m => by simp [h, hd]

@[simp] theorem initRegion_links (s r) (h : [.obj, .dram, .ecc, .crypt, .board, .obs] ⊆ sc.parts) (hd : sc.dramBytes) : Links sc s
    (initRegion s r) :=
  Moves.links (by simp at h; dsimp only [initRegion]; simp [h, hd])

@[simp] theorem execRegionInitialised_ends (r s) (h : [.obj, .dram, .ecc, .crypt, .board, .obs] ⊆ sc.parts) (hd : sc.dramBytes) : Ends sc
    s (execRegionInitialised r s) :=
  by simp at h; dsimp only [execRegionInitialised]; simp [h, hd]

/-! #### The sealed partition (15) -/

@[simp] theorem writeImage_links (s p) (h : [.pan, .sealed] ⊆ sc.parts) (hp : sc.panBytes) : Links sc s (writeImage s p) :=
  Moves.links (by simp at h; dsimp only [writeImage]; simp [h, hp])

@[simp] theorem writeImages_links (s) (h : [.pan, .sealed] ⊆ sc.parts) (hp : sc.panBytes) : Links sc s (writeImages s) :=
  Moves.links (by simp at h; dsimp only [writeImages]; simp [h, hp])

@[simp] theorem reidentify_links (s) (h : [.sealed, .board, .obs] ⊆ sc.parts) : Links sc s (reidentify s) :=
  Moves.links (by simp at h; dsimp only [reidentify]; simp [h])

@[simp] theorem recordChange_links (s param level session old new) (h : [.sealed, .board, .obs] ⊆ sc.parts) : Links sc s (recordChange s
    param level session old new) :=
  Moves.links (by simp at h; dsimp only [recordChange]; simp [h])

@[simp] theorem changeRefused_links (s param) (h : [.board, .obs] ⊆ sc.parts) : Links sc s (changeRefused s param) :=
  Moves.links (by simp at h; dsimp only [changeRefused]; simp [h])

@[simp] theorem setParam_links (s who p v) (h : [.pan, .sealed, .board, .obs] ⊆ sc.parts) (hp : sc.panBytes) : Links sc s (setParam s who
    p v) :=
  Moves.links (by simp at h; dsimp only [setParam]; simp [h, hp])

@[simp] theorem actSealParam_within (h : [.pan, .sealed, .board, .obs] ⊆ sc.parts) (hp : sc.panBytes) : actSealParam.Within sc := by
  simp at h
  exact ⟨fun s _ _ _ => by simp [h, hp, actSealParam], fun s _ _ => by simp [h, actSealParam]⟩

@[simp] theorem actSealKey_within (h : [.pan, .sealed, .board, .obs] ⊆ sc.parts) (hp : sc.panBytes) : actSealKey.Within sc := by
  simp at h
  exact ⟨fun s _ _ _ => by simp [h, hp, actSealKey], fun s _ _ => by simp [h, actSealKey]⟩

@[simp] theorem actProvision_within (h : [.sealed] ⊆ sc.parts) : actProvision.Within sc := by
  simp at h
  exact ⟨fun s _ _ _ => by simp [h, actProvision], fun s _ _ => by simp [actProvision]⟩

@[simp] theorem actSealCommand_within (c) (h : [.pan, .sealed, .board, .obs] ⊆ sc.parts) (hp : sc.panBytes) : (actSealCommand c).Within sc
    := by
  simp at h
  exact ⟨fun s _ _ _ => by simp [h, hp, actSealCommand], fun s _ _ => by simp [h, actSealCommand]⟩

@[simp] theorem execSealN_ends (opened widthMs s) (h : [.dict, .pan, .sealed, .board, .obs] ⊆ sc.parts) (hp : sc.panBytes) : Ends sc s
    (execSealN opened widthMs s) :=
  by simp at h; dsimp only [execSealN]; simp [h, hp]

@[simp] theorem storeCheck_links (s) (h : [.pan, .sealed, .board, .obs] ⊆ sc.parts) (hp : sc.panBytes) : Links sc s (storeCheck s) := by
  apply Moves.links
  simp at h
  unfold storeCheck
  split <;> simp [h, hp]

@[simp] theorem tableFault_links (s p) (h : [.pan, .sealed, .board, .obs] ⊆ sc.parts) (hp : sc.panBytes) : Links sc s (tableFault s p) :=
  Moves.links (by simp at h; dsimp only [tableFault]; simp [h, hp])

@[simp] theorem faultOver_links (s) (h : [.pan, .sealed] ⊆ sc.parts) (hp : sc.panBytes) : Links sc s (faultOver s) :=
  Moves.links (by simp at h; dsimp only [faultOver]; simp [h, hp])

@[simp] theorem undoWrites_links (s) (h : [.pan] ⊆ sc.parts) (hp : sc.panBytes) : Links sc s (undoWrites s) :=
  Moves.links (by simp at h; dsimp only [undoWrites]; simp [h, hp])

@[simp] theorem execParameterImageCheck_ends (s) (h : [.pan, .sealed, .board, .obs] ⊆ sc.parts) (hp : sc.panBytes) : Ends sc s
    (execParameterImageCheck s) := by
  simp at h
  unfold execParameterImageCheck
  dsimp only
  repeat' split
  all_goals simp [h, hp]

@[simp] theorem updPort_links (s p f) (h : [.sealed] ⊆ sc.parts) : Links sc s (updPort s p f) :=
  Moves.links (by simp at h; dsimp only [updPort]; simp [h])

@[simp] theorem execSampleSync_ends (p s) (h : [.outs, .sealed] ⊆ sc.parts) : Ends sc s (execSampleSync p s) :=
  by simp at h; dsimp only [execSampleSync]; simp [h]

@[simp] theorem appendSample_links (s p t w flags raw) (h : [.pan, .sealed] ⊆ sc.parts) (hp : sc.panBytes) : Links sc s (appendSample s p
    t w flags raw) :=
  Moves.links (by simp at h; dsimp only [appendSample]; simp [h, hp])

@[simp] theorem execSampleFrame_ends (p bits s) (h : [.pan, .sealed, .board, .obs] ⊆ sc.parts) (hp : sc.panBytes) : Ends sc s
    (execSampleFrame p bits s) := by
  simp at h
  unfold execSampleFrame
  dsimp only
  split <;> simp [h, hp]

@[simp] theorem sealedStart_links (s) (h : [.sealed] ⊆ sc.parts) : Links sc s (sealedStart s) :=
  Moves.links (by simp at h; dsimp only [sealedStart]; simp [h])

@[simp] theorem sealedRun_links (s) (h : [.sealed, .board, .obs] ⊆ sc.parts) : Links sc s (sealedRun s) :=
  Moves.links (by simp at h; dsimp only [sealedRun]; simp [h])

@[simp] theorem sealedImage_links (s) (h : [.pan, .sealed] ⊆ sc.parts) (hp : sc.panBytes) : Links sc s (sealedImage s) :=
  Moves.links (by simp at h; dsimp only [sealedImage]; simp [h, hp])

@[simp] theorem sealedRegion_links (s) (h : [.freeCtr, .obj, .dram, .ecc, .crypt, .board, .obs] ⊆ sc.parts) (hd : sc.dramBytes) : Links sc
    s (sealedRegion s) :=
  Moves.links (by simp at h; dsimp only [sealedRegion]; simp [h, hd])

@[simp] theorem sealedHash_links (s v) (h : [.pan, .sealed, .board, .obs] ⊆ sc.parts) (hp : sc.panBytes) : Links sc s (sealedHash s v).1 :=
  Moves.links (by simp at h; dsimp only [sealedHash]; simp [h, hp])

/-! #### Configuration streams (06) -/

@[simp] theorem useOwners_links (s) (h : [.obj, .ecc, .board, .obs] ⊆ sc.parts) : Links sc s (useOwners s) := by
  simp at h
  refine (foldl_moves _ _ fun s g => ?_).links
  split
  · rfl
  · exact (compEvent_links _ _ _ (by simp [h])).after (putObj_moves _ (by simp [h]) (.inr (Bool.eq_false_of_not_eq_true ‹_›)))

@[simp] theorem readSource_links (s src off n given) (h : [.freeCtr, .obj, .dram, .ecc, .crypt, .board, .obs] ⊆ sc.parts) (hd :
    sc.dramBytes) : Links sc s (readSource s src off n given).1 := by
  apply Moves.links
  simp at h
  unfold readSource
  dsimp only
  repeat' split
  all_goals simp [h, hd]

@[simp] theorem takeFeed_links (s bs) (h : [.outs, .loader, .chain, .lanes] ⊆ sc.parts) : Links sc s (takeFeed s bs) :=
  Moves.links (by simp at h; dsimp only [takeFeed]; simp [h])

@[simp] theorem takeChain_links (s bs) (h : [.chain] ⊆ sc.parts) : Links sc s (takeChain s bs) :=
  Moves.links (by simp at h; dsimp only [takeChain]; simp [h])

@[simp] theorem dropSource_links (s src n fwd) (h : [.outs, .loader, .chain, .lanes] ⊆ sc.parts) : Links sc s (dropSource s src n fwd) := by
  apply Moves.links
  simp at h
  unfold dropSource
  split <;> simp [h]

@[simp] theorem noteSource_links (s src status) (h : [.loader, .chain, .board, .obs] ⊆ sc.parts) : Links sc s (noteSource s src status) :=
    by
  apply Moves.links
  simp at h
  unfold noteSource
  dsimp only
  split <;> simp [h]

@[simp] theorem setResult_links (s hdr status addr packet offset) (h : [.loader] ⊆ sc.parts) :
    Links sc s (setResult s hdr status addr packet offset) :=
  Moves.links (by simp at h; dsimp only [setResult]; simp [h])

@[simp] theorem loseSource_links (s src) (h : [.loader, .chain] ⊆ sc.parts) : Links sc s (loseSource s src) := by
  apply Moves.links
  simp at h
  unfold loseSource
  split <;> simp [h]

@[simp] theorem passSection_links (s src hdr rest) (h : [.outs, .freeCtr, .obj, .loader, .chain, .dram, .ecc, .crypt, .lanes, .board,
    .obs] ⊆ sc.parts) (hd : sc.dramBytes) : Links sc s (passSection s src hdr rest) := by
  apply Moves.links
  simp at h
  have hread n := readSource_links s src 0 n [] (by simp [h]) hd
  unfold passSection
  dsimp only
  split
  case h_3 =>
    split
    · next hr => exact (chainSend_links _ _ (by simp [h])).after (moves_of_fst hr (hread _).moves)
    · next hr => exact moves_of_fst hr (hread _).moves
  all_goals simp [h]

@[simp] theorem refuseHeader_links (s src hdr rest status) (h : [.outs, .freeCtr, .obj, .loader, .chain, .dram, .ecc, .crypt, .lanes,
    .board, .obs] ⊆ sc.parts) (hd : sc.dramBytes) : Links sc s (refuseHeader s src hdr rest status) :=
  Moves.links (by simp at h; dsimp only [refuseHeader]; simp [h, hd])

@[simp] theorem acceptHeader_links (s src hdr tags) (h : [.outs, .loader, .chain, .lanes, .board, .obs] ⊆ sc.parts) :
    Links sc s (acceptHeader s src hdr tags) :=
  Moves.links (by simp at h; dsimp only [acceptHeader]; simp [h])

@[simp] theorem execStreamHeader_ends (src header tags s) (h : [.outs, .freeCtr, .obj, .loader, .chain, .dram, .ecc, .crypt, .lanes,
    .board, .obs] ⊆ sc.parts) (hd : sc.dramBytes) : Ends sc s (execStreamHeader src header tags s) := by
  simp at h
  have hread0 := (readSource_links (useOwners s) src 0 512 (padTo header 512) (by simp [h]) hd).after
    (useOwners_links s (by simp [h])).moves
  unfold execStreamHeader
  split
  · simp
  · split
    · next hr => exact moves_of_fst hr hread0
    · next hr => simp [h, hd, moves_of_fst hr hread0]
    · next s1 _ hr =>
      have h1 := moves_of_fst hr hread0
      have hread n := (readSource_links s1 src 512 n tags (by simp [h]) hd).after h1
      split
      · simp [h, hd, h1]
      · split
        · split <;> simp [h, hd, h1]
        · split <;> simp [h, hd, h1]
        · split
          · next hr => simp [h, hd, moves_of_fst hr (hread _)]
          · next hr => simp [h, hd, moves_of_fst hr (hread _)]

@[simp] theorem endStream_links (s st status addr) (h : [.outs, .loader, .chain, .lanes, .board, .obs] ⊆ sc.parts) :
    Links sc s (endStream s st status addr) := by
  apply Moves.links
  simp at h
  unfold endStream
  dsimp only
  split <;> simp [h]

@[simp] theorem invalidateLoading_links (s st) (h : [.planes] ⊆ sc.parts) : Links sc s (invalidateLoading s st) :=
  Moves.links (by simp at h; dsimp only [invalidateLoading]; simp [h])

@[simp] theorem abortWith_links (s status addr more) (h : [.outs, .planes, .loader, .chain, .lanes, .board, .obs] ⊆ sc.parts) : Links sc s
    (abortWith s status addr more) := by
  apply Moves.links
  simp at h
  unfold abortWith
  split <;> simp [h]

@[simp] theorem abortStream_links (s status addr) (h : [.outs, .planes, .loader, .chain, .lanes, .board, .obs] ⊆ sc.parts) : Links sc s
    (abortStream s status addr) :=
  Moves.links (by simp at h; dsimp only [abortStream]; simp [h])

@[simp] theorem updStream_links (s f) (h : [.loader] ⊆ sc.parts) : Links sc s (updStream s f) :=
  Moves.links (by simp at h; dsimp only [updStream]; simp [h])

@[simp] theorem execChunkVerified_ends (chunk s) (h : [.outs, .freeCtr, .obj, .planes, .loader, .chain, .dram, .ecc, .crypt, .lanes,
    .board, .obs] ⊆ sc.parts) (hd : sc.dramBytes) : Ends sc s (execChunkVerified chunk s) := by
  simp at h
  have hread src off n g := (readSource_links s src off n g (by simp [h]) hd).moves
  unfold execChunkVerified
  dsimp only
  split
  · simp
  · split
    · simp
    · split
      · next hr => exact moves_of_fst hr (hread _ _ _ _)
      · next hr => simp [h, moves_of_fst hr (hread _ _ _ _)]
      · next hr => simp [h, hd, moves_of_fst hr (hread _ _ _ _)]

@[simp] theorem failed_links (s status addr) : Links sc s (failed s status addr).1 :=
  Moves.links (by dsimp only [failed]; simp)

@[simp] theorem done_links (s) : Links sc s (done s).1 :=
  Moves.links (by dsimp only [done]; simp)

@[simp] theorem passPacket_links (s len) (h : [.loader] ⊆ sc.parts) : Links sc s (passPacket s len) :=
  Moves.links (by simp at h; dsimp only [passPacket]; simp [h])

theorem packetWork_ends {op act next_ s} (hact : ∀ s st d, Moves sc s (act s st d).1) (hnext : ∀ s len, Moves sc s (next_ s len))
    (h : [.outs, .obj, .planes, .loader, .chain, .ecc, .lanes, .board, .obs] ⊆ sc.parts) : Ends sc s (packetWork op act next_ s) := by
  have hown := (useOwners_links (sc := sc) s (by simp at h; simp [h])).moves
  simp at h
  unfold packetWork
  split
  · simp
  · next st o len d _ =>
    have hd := hown.trans (hact (useOwners s) st d)
    iterate 4 (split; · simp [h])
    split
    · next hr => simp [h, moves_of_fst hr hd]
    · next hr => exact (moves_of_fst hr hd).trans (hnext _ _)

@[simp] theorem packetRow_ends (op act s) (hact : ∀ s st d, Moves sc s (act s st d).1)
    (h : [.outs, .obj, .planes, .loader, .chain, .ecc, .lanes, .board, .obs] ⊆ sc.parts) : Ends sc s (packetRow op act s) :=
  packetWork_ends hact (fun s len => (passPacket_links s len (by simp at h; simp [h])).moves) h

@[simp] theorem execUnknownOpcode_ends (s) (h : [.outs, .planes, .loader, .chain, .lanes, .board, .obs] ⊆ sc.parts) : Ends sc s
    (execUnknownOpcode s) := by
  simp at h
  unfold execUnknownOpcode
  split <;> simp [h]

@[simp] theorem putFrame_links (s a bs) (h : [.frames, .loader] ⊆ sc.parts) : Links sc s (putFrame s a bs) :=
  Moves.links (by simp at h; dsimp only [putFrame]; simp [h])

@[simp] theorem putFrames_links (s a k bs) (h : [.frames, .loader] ⊆ sc.parts) : Links sc s (putFrames s a k bs).1 := by
  fun_induction putFrames s a k bs with
  | case1 => exact (Moves.refl sc _).links
  | case2 => exact (Moves.refl sc _).links
  | case3 => exact (Moves.refl sc _).links
  | case4 s k b rest st hcur hcheck ih => exact ((putFrame_links s _ b h).moves.trans ih.moves).links

@[simp] theorem writeFrames_links (s a count bs) (h : [.frames, .loader] ⊆ sc.parts) : Links sc s (writeFrames s a count bs).1 :=
  Moves.links (by simp at h; dsimp only [writeFrames]; simp [h])

@[simp] theorem execWriteFramesZr_ends (s) (h : [.outs, .obj, .planes, .frames, .loader, .chain, .ecc, .lanes, .board, .obs] ⊆ sc.parts) :
    Ends sc s (execWriteFramesZr s) := by
  simp at h
  refine packetRow_ends _ _ _ (fun s st d => ?_) (by simp [h])
  dsimp only
  split <;> simp [h]

@[simp] theorem putWord_links (s blk w v) (h : [.fab, .edge] ⊆ sc.parts) : Links sc s (putWord s blk w v) :=
  Moves.links (by simp at h; dsimp only [putWord]; simp [h])

@[simp] theorem putWords_links (s a w bs) (h : [.fab, .edge] ⊆ sc.parts) : Links sc s (putWords s a w bs).1 := by
  simp at h
  induction bs generalizing s w with
  | nil => exact (Moves.refl sc _).links
  | cons b bs ih => exact Moves.links (by simp [h, putWords, ih])

@[simp] theorem passWords_links (s len) (h : [.loader] ⊆ sc.parts) : Links sc s (passWords s len) := by
  apply Moves.links
  simp at h
  unfold passWords
  split <;> simp [h]

@[simp] theorem execInitBlockmem_ends (s) (h : [.outs, .obj, .fab, .edge, .planes, .loader, .chain, .ecc, .lanes, .board, .obs] ⊆
    sc.parts) : Ends sc s (execInitBlockmem s) := by
  simp at h
  refine packetWork_ends (fun s st d => ?_) (fun s len => (passWords_links s len (by simp [h])).moves) (by simp [h])
  dsimp only
  repeat' split
  all_goals simp [h]

@[simp] theorem putShadow_links (s a bs) (h : [.fab] ⊆ sc.parts) : Links sc s (putShadow s a bs) :=
  Moves.links (by simp at h; dsimp only [putShadow]; simp [h])

@[simp] theorem putStates_links (s a k bs) (h : [.fab] ⊆ sc.parts) : Links sc s (putStates s a k bs).1 := by
  fun_induction putStates s a k bs with
  | case1 => exact (Moves.refl sc _).links
  | case2 => exact (Moves.refl sc _).links
  | case3 => exact (Moves.refl sc _).links
  | case4 s k b rest st hcur x hcheck ih => exact ((putShadow_links s _ b h).moves.trans ih.moves).links

@[simp] theorem execInitState_ends (s) (h : [.outs, .obj, .fab, .planes, .loader, .chain, .ecc, .lanes, .board, .obs] ⊆ sc.parts) : Ends
    sc s (execInitState s) :=
  by simp at h; dsimp only [execInitState]; simp [h]

@[simp] theorem clearPlane_links (s g p) (h : [.fab, .frames] ⊆ sc.parts) : Links sc s (clearPlane s g p) :=
  Moves.links (by simp at h; dsimp only [clearPlane]; simp [h])

@[simp] theorem selectSector_links (p gs s) (h : [.fab, .planes, .frames, .loader] ⊆ sc.parts) : Links sc s (selectSector p gs s).1 := by
  simp at h
  induction gs generalizing s with
  | nil => exact (Moves.refl sc _).links
  | cons g gs ih => exact Moves.links (by simp [h, selectSector, ih])

@[simp] theorem execSelectPlane_ends (s) (h : [.outs, .obj, .fab, .planes, .frames, .loader, .chain, .ecc, .lanes, .board, .obs] ⊆
    sc.parts) : Ends sc s (execSelectPlane s) := by
  simp at h
  refine packetRow_ends _ _ _ (fun s st d => ?_) (by simp [h])
  dsimp only
  repeat' split
  all_goals simp [h]

theorem loaderWrite_links (s idx sub v) {a : Action} (ha : a.Within sc) (h : [.obj, .board, .obs] ⊆ sc.parts) (hi : idx < 65536)
    (hs : sub < 256) (hk : sc.keys (objKey idx sub)) : Links sc s (loaderWrite s idx sub v a).1 := by
  unfold loaderWrite
  split
  all_goals exact dictWrite_links _ _ _ _ ha h (by simpa [wholeWrite, pairWrite, Nat.mod_eq_of_lt hi, Nat.mod_eq_of_lt hs] using hk)

theorem loaderWrites_links (idx ws s) (h : [.obj, .board, .obs] ⊆ sc.parts) (hi : idx < 65536) (hw : ∀ w ∈ ws,
    w.1 < 256 ∧ sc.keys (objKey idx w.1) ∧ w.2.2.Within sc) : Links sc s (loaderWrites idx ws s).1 := by
  induction ws generalizing s with
  | nil => exact (Moves.refl sc _).links
  | cons w ws ih =>
    obtain ⟨⟨hs, hk, ha⟩, hrest⟩ := List.forall_mem_cons.mp hw
    have hone := loaderWrite_links s idx w.1 w.2.1 ha h hi hs hk
    apply Moves.links
    unfold loaderWrites
    dsimp only
    split
    · exact (ih _ hrest).after hone.moves
    · exact hone.moves

theorem teamWrites_within (t d) (h : [.obj, .planes, .stage, .grants, .teams, .board, .obs] ⊆ sc.parts)
    (hk : ∀ sub, sc.keys (objKey (0x6210 + t) sub)) : ∀ w ∈ teamWrites t d,
    w.1 < 256 ∧ sc.keys (objKey (0x6210 + t) w.1) ∧ w.2.2.Within sc := by
  simp at h
  simp [teamWrites, hk, h, Action.within_default]

@[simp] theorem execSetTeam_ends (s) (h : [.outs, .obj, .planes, .stage, .grants, .teams, .loader, .chain, .ecc, .lanes, .board, .obs] ⊆
    sc.parts) (hk : ∀ t sub, sc.keys (objKey (0x6210 + t) sub)) : Ends sc s (execSetTeam s) := by
  simp at h
  refine packetRow_ends _ _ _ (fun s st d => ?_) (by simp [h])
  dsimp only
  split
  · simp
  · split
    · simp [h]
    have hw := (loaderWrites_links (0x6210 + natAt d 0 1) (teamWrites (natAt d 0 1) d) s (by simp [h]) (by omega)
      (teamWrites_within _ _ (by simp [h]) (hk _))).moves
    split <;> simp [hw]

@[simp] theorem actStartupOrder_within : actStartupOrder.Within sc := by
  exact ⟨fun s _ _ _ => by simp [actStartupOrder], fun s _ _ => by simp [actStartupOrder]⟩

@[simp] theorem execSetStartupOrder_ends (s) (h : [.outs, .obj, .planes, .loader, .chain, .ecc, .lanes, .board, .obs] ⊆ sc.parts)
    (hk : sc.keys (objKey 0x6110 1)) : Ends sc s (execSetStartupOrder s) := by
  simp at h
  refine packetRow_ends _ _ _ (fun s st d => ?_) (by simp [h])
  have hw := (loaderWrite_links s 0x6110 1 d actStartupOrder_within (by simp [h]) (by decide) (by decide) hk).moves
  dsimp only
  repeat' split
  all_goals simp [hw]

@[simp] theorem execCheckCrc_ends (s) (h : [.outs, .obj, .planes, .loader, .chain, .ecc, .lanes, .board, .obs] ⊆ sc.parts) : Ends sc s
    (execCheckCrc s) :=
  by simp at h; dsimp only [execCheckCrc]; simp [h]

@[simp] theorem execForwardToChain_ends (follow s) (h : [.outs, .obj, .planes, .loader, .chain, .ecc, .lanes, .board, .obs] ⊆ sc.parts) :
    Ends sc s (execForwardToChain follow s) :=
  by simp at h; dsimp only [execForwardToChain]; simp [h]

@[simp] theorem takeValid_links (s g p crc startup) (h : [.planes, .loader, .board, .obs] ⊆ sc.parts) : Links sc s (takeValid s g p crc
    startup) :=
  Moves.links (by simp at h; dsimp only [takeValid]; simp [h])

@[simp] theorem markSectors_links (p m startup gs s) (h : [.planes, .loader, .board, .obs] ⊆ sc.parts) : Links sc s (markSectors p m
    startup gs s).1 := by
  simp at h
  induction gs generalizing s with
  | nil => exact (Moves.refl sc _).links
  | cons g gs ih =>
    apply Moves.links
    unfold markSectors
    split
    · rfl
    · split <;> simp [h, ih]

@[simp] theorem execMarkValid_ends (s) (h : [.outs, .obj, .planes, .loader, .chain, .ecc, .lanes, .board, .obs] ⊆ sc.parts) : Ends sc s
    (execMarkValid s) :=
  by simp at h; dsimp only [execMarkValid]; simp [h]

@[simp] theorem enterPhase_links (s ph) (h : [.boot] ⊆ sc.parts) : Links sc s (enterPhase s ph) :=
  Moves.links (by simp at h; dsimp only [enterPhase]; simp [h])

@[simp] theorem completeStream_links (s st) (h : [.outs, .loader, .boot, .chain, .lanes, .board, .obs] ⊆ sc.parts) : Links sc s
    (completeStream s st) :=
  Moves.links (by simp at h; dsimp only [completeStream]; simp [h])

@[simp] theorem takeSealed_links (s st) (h : [.planes, .loader, .board, .obs] ⊆ sc.parts) : Links sc s (takeSealed s st) :=
  Moves.links (by simp at h; dsimp only [takeSealed]; simp [h])

@[simp] theorem endWork_links (s st d) (h : [.outs, .planes, .loader, .boot, .chain, .pan, .lanes, .sealed, .board, .obs] ⊆ sc.parts)
    (hp : sc.panBytes) : Links sc s (endWork s st d) := by
  apply Moves.links
  simp at h
  unfold endWork
  dsimp only
  repeat' split
  all_goals simp [h, hp]

@[simp] theorem execEndPacket_ends (s) (h : [.outs, .planes, .loader, .boot, .chain, .pan, .lanes, .sealed, .board, .obs] ⊆ sc.parts) (hp
    : sc.panBytes) : Ends sc s (execEndPacket s) := by
  simp at h
  unfold execEndPacket
  split
  · simp
  · split
    · simp [h]
    · split <;> simp [h, hp]

@[simp] theorem tamperRegions_links (s) (h : [.crypt, .board, .obs] ⊆ sc.parts) : Links sc s (tamperRegions s) :=
  Moves.links (by simp at h; dsimp only [tamperRegions]; simp [h])

@[simp] theorem execTamperN_ends (widthNs s) (h : [.outs, .fuses, .planes, .loader, .chain, .crypt, .lanes, .board, .obs] ⊆ sc.parts) :
    Ends sc s (execTamperN widthNs s) :=
  by simp at h; dsimp only [execTamperN]; simp [h]

@[simp] theorem keyWritten_links (s which key) (h : [.board, .obs] ⊆ sc.parts) : Links sc s (keyWritten s which key) :=
  Moves.links (by simp at h; dsimp only [keyWritten]; simp [h])

@[simp] theorem actEfuseKey_within (h : [.fuses, .board, .obs] ⊆ sc.parts) : actEfuseKey.Within sc := by
  simp at h
  exact ⟨fun s _ _ _ => by simp [h, actEfuseKey], fun s _ _ => by simp [actEfuseKey]⟩

@[simp] theorem actBbramKey_within (h : [.fuses, .board, .obs] ⊆ sc.parts) : actBbramKey.Within sc := by
  simp at h
  exact ⟨fun s _ _ _ => by simp [h, actBbramKey], fun s _ _ => by simp [actBbramKey]⟩

@[simp] theorem actBbramErase_within (h : [.fuses] ⊆ sc.parts) : actBbramErase.Within sc := by
  simp at h
  exact ⟨fun s _ _ _ => by simp [h, actBbramErase], fun s _ _ => by simp [actBbramErase]⟩

@[simp] theorem actFuseLock_within (h : [.fuses] ⊆ sc.parts) : actFuseLock.Within sc := by
  simp at h
  exact ⟨fun s _ _ _ => by simp [h, actFuseLock], fun s _ _ => by simp [actFuseLock]⟩

@[simp] theorem useJtag_links (s) (h : [.obj, .ecc, .board, .obs] ⊆ sc.parts) : Links sc s (useJtag s) :=
  Moves.links (by simp at h; dsimp only [useJtag]; simp [h])

@[simp] theorem jtagRefused_links (s) (h : [.board, .test, .obs] ⊆ sc.parts) : Links sc s (jtagRefused s) :=
  Moves.links (by simp at h; dsimp only [jtagRefused]; simp [h])

@[simp] theorem execKeyProg_ends (battery key check s) (h : [.fuses, .obj, .ecc, .board, .test, .obs] ⊆ sc.parts) : Ends sc s (execKeyProg
    battery key check s) :=
  by simp at h; dsimp only [execKeyProg]; simp [h]

@[simp] theorem actOwnership_within (g) (h : [.board, .obs] ⊆ sc.parts) : (actOwnership g).Within sc := by
  simp at h
  exact ⟨fun s _ _ _ => by simp [h, actOwnership], fun s _ _ => by simp [actOwnership]⟩

@[simp] theorem actOwnerKey_within (o) (h : [.board, .obs] ⊆ sc.parts) : (actOwnerKey o).Within sc := by
  simp at h
  exact ⟨fun s _ _ _ => by simp [h, actOwnerKey], fun s _ _ => by simp [actOwnerKey]⟩

end Sys2Proof.Machine
end

section
/-! PROOFS. The scope of each operation: modes, power, loading, the chain, integrity, tests and observation. -/

namespace Sys2Proof.Machine

variable {sc : Scope}

/-! #### The passages between modes (R623 to R651) -/

@[simp] theorem setMode_links (s m cause) (h : [.power, .board, .obs] ⊆ sc.parts) : Links sc s (setMode s m cause) :=
  Moves.links (by simp at h; dsimp only [setMode]; simp [h])

@[simp] theorem updateGaits_links (s) (h : [.grants, .teams, .cap, .power, .board, .obs] ⊆ sc.parts) : Links sc s (updateGaits s) :=
  Moves.links (by simp at h; dsimp only [updateGaits]; simp [h])

@[simp] theorem gaitsAtWake_links (s) (h : [.grants, .teams, .cap, .power, .board, .obs] ⊆ sc.parts) : Links sc s (gaitsAtWake s) :=
  Moves.links (by simp at h; dsimp only [gaitsAtWake]; simp [h])

@[simp] theorem endVerify_links (s) (h : [.ecc, .board, .obs] ⊆ sc.parts) : Links sc s (endVerify s) :=
  Moves.links (by simp at h; dsimp only [endVerify]; simp [h])

@[simp] theorem abandonVerify_links (s) (h : [.ecc, .board, .obs] ⊆ sc.parts) : Links sc s (abandonVerify s) :=
  Moves.links (by simp at h; dsimp only [abandonVerify]; simp [h])

@[simp] theorem loseCapture_links (s) (h : [.cap] ⊆ sc.parts) : Links sc s (loseCapture s) :=
  Moves.links (by simp at h; dsimp only [loseCapture]; simp [h])

@[simp] theorem disarmCapture_links (s) (h : [.cap] ⊆ sc.parts) : Links sc s (disarmCapture s) :=
  Moves.links (by simp at h; dsimp only [disarmCapture]; simp [h])

@[simp] theorem saveFfs_links (s gs) (h : [.fab] ⊆ sc.parts) : Links sc s (saveFfs s gs) := by
  simp at h
  exact (foldl_moves _ _ fun s g => by split <;> simp [h]).links

@[simp] theorem restoreFfs_links (s gs) (h : [.fab] ⊆ sc.parts) : Links sc s (restoreFfs s gs) := by
  simp at h
  exact (foldl_moves _ _ fun s g => by split <;> simp [h]).links

@[simp] theorem loseSectors_links (s gs) (h : [.fab, .edge] ⊆ sc.parts) : Links sc s (loseSectors s gs) :=
  Moves.links (by simp at h; dsimp only [loseSectors]; simp [h])

@[simp] theorem loseCounters_links (s gone) (h : [.obs] ⊆ sc.parts) : Links sc s (loseCounters s gone) :=
  Moves.links (by simp at h; dsimp only [loseCounters]; simp [h])

@[simp] theorem dropOpen_links (s which) (h : [.noc] ⊆ sc.parts) : Links sc s (dropOpen s which) :=
  Moves.links (by simp at h; dsimp only [dropOpen]; simp [h])

@[simp] theorem dropPorts_links (s gs status) (h : [.noc] ⊆ sc.parts) : Links sc s (dropPorts s gs status) := by
  apply Moves.links
  simp at h
  unfold dropPorts
  dsimp only
  refine Moves.trans ?_ (foldl_moves _ _ fun s kv => foldl_moves _ _ fun s p => ?_)
  · simp [h]
  · simp [h]

@[simp] theorem drainChannel_links (s ch) (h : [.freeCtr, .obj, .noc, .wale, .dram, .ecc, .crypt, .board, .obs] ⊆ sc.parts) (hd :
    sc.dramBytes) : Links sc s (drainChannel s ch) :=
  Moves.links (by simp at h; dsimp only [drainChannel]; simp [h, hd])

@[simp] theorem settleBank_links (s key) (h : [.obj, .dram, .ecc, .board, .obs] ⊆ sc.parts) : Links sc s (settleBank s key) :=
  Moves.links (by simp at h; dsimp only [settleBank]; simp [h])

@[simp] theorem selfRefresh_links (s m) (h : [.freeCtr, .obj, .noc, .wale, .dram, .ecc, .crypt, .board, .obs] ⊆ sc.parts) (hd :
    sc.dramBytes) : Links sc s (selfRefresh s m) :=
  Moves.links (by simp at h; dsimp only [selfRefresh]; simp [h, hd])

@[simp] theorem wakeStack_links (s m) (h : [.dram, .board, .obs] ⊆ sc.parts) : Links sc s (wakeStack s m) :=
  Moves.links (by simp at h; dsimp only [wakeStack]; simp [h])

@[simp] theorem quiesceWale_links (s) (h : [.freeCtr, .obj, .noc, .wale, .dram, .ecc, .crypt, .board, .obs] ⊆ sc.parts)
    (hd : sc.dramBytes) : Links sc s (quiesceWale s) := by
  apply Moves.links
  simp at h
  unfold quiesceWale
  extract_lets +onlyGivenNames s2 src s3 s4
  have h3 : Moves sc s s3 := Moves.trans (by simp [src, s2, h, hd]) (foldl_moves _ _ fun s f => by split <;> simp [h])
  have h4 : Moves sc s s4 := (settleDram_links s3 (by simp [h]) hd).after h3
  clear_value s4
  simp [h, h4]

@[simp] theorem flushStores_links (s) (h : [.freeCtr, .obj, .noc, .wale, .dram, .ecc, .crypt, .board, .obs] ⊆ sc.parts) (hd :
    sc.dramBytes) : Links sc s (flushStores s) :=
  Moves.links (by simp at h; dsimp only [flushStores]; simp [h, hd])

@[simp] theorem failMovers_links (s) (h : [.noc, .board, .obs] ⊆ sc.parts) : Links sc s (failMovers s) :=
  Moves.links (by simp at h; dsimp only [failMovers]; simp [h])

@[simp] theorem chainLanesOff_links (s) (h : [.lanes] ⊆ sc.parts) : Links sc s (chainLanesOff s) :=
  Moves.links (by simp at h; dsimp only [chainLanesOff]; simp [h])

@[simp] theorem chainLanesOn_links (s) (h : [.lanes] ⊆ sc.parts) : Links sc s (chainLanesOn s) :=
  Moves.links (by simp at h; dsimp only [chainLanesOn]; simp [h])

@[simp] theorem enterHold_links (s) (h : [.clk, .power, .board, .obs] ⊆ sc.parts) : Links sc s (enterHold s) :=
  Moves.links (by simp at h; dsimp only [enterHold]; simp [h])

@[simp] theorem leaveHold_links (s) (h : [.clk, .grants, .teams, .cap, .power, .board, .obs] ⊆ sc.parts) : Links sc s (leaveHold s) :=
  Moves.links (by simp at h; dsimp only [leaveHold]; simp [h])

@[simp] theorem banksOff_links (s) (h : [.banks, .pins, .board, .obs] ⊆ sc.parts) : Links sc s (banksOff s) :=
  Moves.links (by simp at h; dsimp only [banksOff]; simp [h])

@[simp] theorem banksOn_links (s) (h : [.banks, .board, .obs] ⊆ sc.parts) : Links sc s (banksOn s) :=
  Moves.links (by simp at h; dsimp only [banksOn]; simp [h])

@[simp] theorem panStable_links (s) (h : [.pan, .board, .obs] ⊆ sc.parts) : Links sc s (panStable s) :=
  Moves.links (by simp at h; dsimp only [panStable]; simp [h])

@[simp] theorem panWake_links (s) (h : [.obj, .pan, .board, .obs] ⊆ sc.parts) (hk : ∀ n, sc.keys (objKey (0x6520 + n) 1)) :
    Links sc s (panWake s) := by
  apply Moves.links
  simp at h
  have hbanks := foldl_moves (m := sc) (List.range 30) s (f := fun s b =>
    if bankState s b = 1 then setBank s b 0 else if bankState s b = 2 then setBank s b 3 else s) fun s b => by
      split
      · simp [h]
      · split <;> simp [h]
  unfold panWake
  dsimp only
  split
  · exact hbanks.trans (foldl_moves _ _ fun s n => by split <;> simp [h, hk])
  · exact hbanks

@[simp] theorem enterStable_links (s) (h : [.outs, .freeCtr, .obj, .clk, .fab, .edge, .planes, .grants, .teams, .cap, .loader, .chain,
    .noc, .wale, .pan, .dram, .ecc, .crypt, .banks, .pins, .lanes, .power, .board, .obs] ⊆ sc.parts) (hd : sc.dramBytes) : Links sc s
    (enterStable s) :=
  Moves.links (by simp at h; dsimp only [enterStable]; simp [h, hd])

@[simp] theorem wake_links (s source) (h : [.obj, .clk, .fab, .grants, .teams, .cap, .noc, .wale, .pan, .dram, .banks, .lanes, .power, .board, .obs] ⊆ sc.parts)
    (hk : ∀ n, sc.keys (objKey (0x6520 + n) 1)) : Links sc s (wake s source) :=
  Moves.links (by simp at h; dsimp only [wake]; simp [h, hk])

@[simp] theorem freezeTeams_links (s) (h : [.teams] ⊆ sc.parts) : Links sc s (freezeTeams s) :=
  Moves.links (by simp at h; dsimp only [freezeTeams]; simp [h])

@[simp] theorem enterService_links (s) (h : [.outs, .clk, .planes, .grants, .teams, .cap, .loader, .chain, .banks, .pins, .lanes, .power,
    .board, .obs] ⊆ sc.parts) : Links sc s (enterService s) :=
  Moves.links (by simp at h; dsimp only [enterService]; simp [h])

@[simp] theorem enterSafeStop_links (s cause) (h : [.outs, .freeCtr, .obj, .clk, .fab, .edge, .planes, .grants, .teams, .cap, .loader,
    .chain, .noc, .wale, .dram, .ecc, .crypt, .banks, .pins, .lanes, .power, .board, .test, .obs] ⊆ sc.parts) (hd : sc.dramBytes) : Links sc s
    (enterSafeStop s cause) :=
  Moves.links (by simp at h; dsimp only [enterSafeStop]; simp [h, hd])

@[simp] theorem immediate_links (s cause) (h : [.outs, .freeCtr, .obj, .clk, .fab, .edge, .planes, .grants, .teams, .cap, .loader, .chain,
    .noc, .wale, .dram, .ecc, .crypt, .banks, .pins, .lanes, .power, .board, .test, .obs] ⊆ sc.parts) (hd : sc.dramBytes) : Links sc s
    (immediate s cause) :=
  Moves.links (by simp at h; dsimp only [immediate]; simp [h, hd])

@[simp] theorem banksReset_links (s) (h : [.banks, .pins] ⊆ sc.parts) : Links sc s (banksReset s) :=
  Moves.links (by simp at h; dsimp only [banksReset]; simp [h])

@[simp] theorem bootFlags_links (s phase cause) (h : [.boot, .board, .obs] ⊆ sc.parts) : Links sc s (bootFlags s phase cause) :=
  Moves.links (by simp at h; dsimp only [bootFlags]; simp [h])

@[simp] theorem clearWork_links (s) (h : [.clk, .fab, .edge, .stage, .cap, .noc, .sealed, .power, .test] ⊆ sc.parts) : Links sc s
    (clearWork s) :=
  Moves.links (by simp at h; dsimp only [clearWork]; simp [h])

@[simp] theorem retrainStores_links (s) (h : [.freeCtr, .obj, .noc, .wale, .dram, .ecc, .crypt, .board, .obs] ⊆ sc.parts) (hd :
    sc.dramBytes) : Links sc s (retrainStores s) :=
  Moves.links (by simp at h; dsimp only [retrainStores]; simp [h, hd])

@[simp] theorem calLanes_links (s) (h : [.lanes] ⊆ sc.parts) : Links sc s (calLanes s) :=
  Moves.links (by simp at h; dsimp only [calLanes]; simp [h])

@[simp] theorem enterCal_links (s cause) (h : [.outs, .freeCtr, .obj, .clk, .fab, .edge, .planes, .stage, .grants, .teams, .cap, .loader,
    .boot, .chain, .noc, .wale, .pan, .dram, .ecc, .crypt, .banks, .pins, .lanes, .sealed, .power, .board, .test, .obs] ⊆ sc.parts) (hd :
    sc.dramBytes) (hp : sc.panBytes) : Links sc s (enterCal s cause) :=
  Moves.links (by simp at h; dsimp only [enterCal]; simp [h, hd, hp])

@[simp] theorem assertPorst_links (s) (h : [.obj, .dict, .clk, .fab, .edge, .planes, .frames, .stage, .grants, .teams, .cap, .loader,
    .boot, .chain, .noc, .wale, .pan, .dram, .ecc, .crypt, .time, .banks, .pins, .lanes, .sealed, .power, .board, .test, .obs] ⊆ sc.parts)
    (hd : sc.dramBytes) (hp : sc.panBytes) (hm : sc.monitors) (hk : ∀ k, sc.keys k) : Links sc s (assertPorst s) := by
  apply Moves.links
  simp at h
  have hmem : State.reset.dram.mem = [] ∧ State.reset.pan.mem = [] := ⟨rfl, rfl⟩
  dsimp only [assertPorst]
  simp [h, hd, hp, hm, hk, hmem]

/-! #### The chronicle (R697 to R705) -/

@[simp] theorem sendEmergency_links (s host sess r) (h : [.outs, .dict, .board, .obs] ⊆ sc.parts) :
    Links sc s (sendEmergency s host sess r) := by
  apply Moves.links
  simp at h
  unfold sendEmergency
  split <;> simp [h]

@[simp] theorem emergency_links (s r) (h : [.outs, .dict, .board, .obs] ⊆ sc.parts) : Links sc s (emergency s r) := by
  apply Moves.links
  simp at h
  unfold emergency
  split
  · rfl
  · extract_lets s1 d s2 s3 c
    have h1 : Moves sc s s1 := foldl_moves _ _ fun s n => by
      dsimp only
      split <;> simp [h]
    clear_value s1
    simp [s3, s2, h, h1]

@[simp] theorem writerLoses_links (s r) (h : [.board, .obs] ⊆ sc.parts) : Links sc s (writerLoses s r) :=
  Moves.links (by simp at h; dsimp only [writerLoses]; simp [h])

@[simp] theorem bufferTake_links (s r) (h : [.board, .obs] ⊆ sc.parts) : Links sc s (bufferTake s r) :=
  Moves.links (by simp at h; dsimp only [bufferTake]; simp [h])

@[simp] theorem writeRecord_links (s r) (h : [.outs, .dict, .board, .obs] ⊆ sc.parts) : Links sc s (writeRecord s r) :=
  Moves.links (by simp at h; dsimp only [writeRecord]; simp [h])

@[simp] theorem summarise_links (s x) (h : [.outs, .dict, .board, .obs] ⊆ sc.parts) : Links sc s (summarise s x) :=
  Moves.links (by simp at h; dsimp only [summarise]; simp [h])

@[simp] theorem coalesce_links (s r) (h : [.outs, .dict, .board, .obs] ⊆ sc.parts) : Links sc s (coalesce s r) := by
  apply Moves.links
  simp at h
  unfold coalesce
  dsimp only
  repeat' split
  all_goals simp [h]

@[simp] theorem writerAccept_links (s r) (h : [.outs, .dict, .board, .obs] ⊆ sc.parts) : Links sc s (writerAccept s r) :=
  Moves.links (by simp at h; dsimp only [writerAccept]; simp [h])

@[simp] theorem execCoalesceWindowEnd_ends (s) (h : [.outs, .dict, .board, .obs] ⊆ sc.parts) : Ends sc s (execCoalesceWindowEnd s) :=
  by simp at h; dsimp only [execCoalesceWindowEnd]; simp [h]

@[simp] theorem carry_links (s i) (h : [.outs, .dict, .board, .obs] ⊆ sc.parts) : Links sc s (carry s i) := by
  apply Moves.links
  simp at h
  unfold carry
  split <;> simp [h]

@[simp] theorem execChronicleRecord_ends (s) (h : [.outs, .dict, .board, .obs] ⊆ sc.parts) : Ends sc s (execChronicleRecord s) := by
  simp at h
  unfold execChronicleRecord
  repeat' split
  all_goals simp [h]

@[simp] theorem writePacket_links (s rs status) (h : [.freeCtr, .obj, .noc, .wale, .dram, .ecc, .crypt, .board, .obs] ⊆ sc.parts) (hd :
    sc.dramBytes) : Links sc s (writePacket s rs status) :=
  Moves.links (by simp at h; dsimp only [writePacket]; simp [h, hd])

@[simp] theorem generalLess_links (s n) (h : [.obs] ⊆ sc.parts) : Links sc s (generalLess s n) :=
  Moves.links (by simp at h; dsimp only [generalLess]; simp [h])

@[simp] theorem onePacket_links (s whole status) (h : [.freeCtr, .obj, .noc, .wale, .dram, .ecc, .crypt, .board, .obs] ⊆ sc.parts) (hd :
    sc.dramBytes) : Links sc s (onePacket s whole status) :=
  Moves.links (by simp at h; dsimp only [onePacket]; simp [h, hd])

@[simp] theorem execRingPacketWrite_ends (status s) (h : [.freeCtr, .obj, .noc, .wale, .dram, .ecc, .crypt, .board, .obs] ⊆ sc.parts) (hd
    : sc.dramBytes) : Ends sc s (execRingPacketWrite status s) :=
  by simp at h; dsimp only [execRingPacketWrite]; simp [h, hd]

@[simp] theorem carryAll_links (fuel s) (h : [.outs, .freeCtr, .obj, .dict, .noc, .wale, .dram, .ecc, .crypt, .board, .obs] ⊆ sc.parts)
    (hd : sc.dramBytes) : Links sc s (carryAll fuel s) := by
  simp at h
  induction fuel generalizing s with
  | zero => exact (Moves.refl sc _).links
  | succ fuel ih =>
    apply Moves.links
    unfold carryAll
    split <;> simp [h, hd, ih]

@[simp] theorem writeAll_links (fuel s) (h : [.freeCtr, .obj, .noc, .wale, .dram, .ecc, .crypt, .board, .obs] ⊆ sc.parts) (hd :
    sc.dramBytes) : Links sc s (writeAll fuel s) := by
  simp at h
  induction fuel generalizing s with
  | zero => exact (Moves.refl sc _).links
  | succ fuel ih => exact Moves.links (by simp [h, hd, writeAll, ih])

@[simp] theorem flushChronicle_links (s) (h : [.outs, .freeCtr, .obj, .dict, .noc, .wale, .dram, .ecc, .crypt, .board, .obs] ⊆ sc.parts)
    (hd : sc.dramBytes) : Links sc s (flushChronicle s) :=
  Moves.links (by simp at h; dsimp only [flushChronicle]; simp [h, hd])

@[simp] theorem execGapRecord_ends (source s) (h : [.board, .obs] ⊆ sc.parts) : Ends sc s (execGapRecord source s) := by
  simp at h
  unfold execGapRecord
  dsimp only
  repeat' split
  all_goals simp [h]

@[simp] theorem actAck_within (h : [.board, .obs] ⊆ sc.parts) : actAck.Within sc := by
  simp at h
  exact ⟨fun s _ _ _ => by simp [h, actAck], fun s _ _ => by simp [actAck]⟩

@[simp] theorem actChronEnable_within (h : [.board, .obs] ⊆ sc.parts) : actChronEnable.Within sc := by
  simp at h
  exact ⟨fun s _ _ _ => by simp [h, actChronEnable], fun s _ _ => by simp [actChronEnable]⟩

@[simp] theorem actRingPlace_within (base) : (actRingPlace base).Within sc := by
  exact ⟨fun s _ _ _ => by simp [actRingPlace], fun s _ _ => by simp [actRingPlace]⟩

/-! #### Modes, power and heat (16, 19) -/

@[simp] theorem updSensor_links (s n f) (h : [.power] ⊆ sc.parts) : Links sc s (updSensor s n f) :=
  Moves.links (by simp at h; dsimp only [updSensor]; simp [h])

@[simp] theorem readSensor_links (s n) (h : [.power, .board, .obs] ⊆ sc.parts) : Links sc s (readSensor s n) :=
  Moves.links (by simp at h; dsimp only [readSensor]; simp [h])

@[simp] theorem effectiveSensor_links (s n) (h : [.power] ⊆ sc.parts) : Links sc s (effectiveSensor s n) :=
  Moves.links (by simp at h; dsimp only [effectiveSensor]; simp [h])

/-- A threshold's fallback, where its pair mismatches. -/
theorem thresholdFault_moves {s : State} {sub : Nat} (h : [.obj, .ecc, .board, .obs] ⊆ sc.parts) (hf : s.pairOk 0x6B20 sub = false) :
    Moves sc s (thresholdFault s sub) := by
  simp at h
  refine (resetObj_moves (by simp [h]) (.inr hf)).trans ?_
  simp [thresholdFault, h]

@[simp] theorem checkThresholds_links (s) (h : [.obj, .ecc, .board, .obs] ⊆ sc.parts) : Links sc s (checkThresholds s) :=
  (foldl_moves _ _ fun s i => by
    split
    · rfl
    · exact thresholdFault_moves h (Bool.eq_false_of_not_eq_true ‹_›)).links

@[simp] theorem crossEvent_links (s scope code now) (h : [.board, .obs] ⊆ sc.parts) : Links sc s (crossEvent s scope code now) :=
  Moves.links (by simp at h; dsimp only [crossEvent]; simp [h])

@[simp] theorem temperatureFlag_links (s) (h : [.obs] ⊆ sc.parts) : Links sc s (temperatureFlag s) :=
  Moves.links (by simp at h; dsimp only [temperatureFlag]; simp [h])

@[simp] theorem checkWarnings_links (s) (h : [.dram, .power, .board, .obs] ⊆ sc.parts) : Links sc s (checkWarnings s) :=
  Moves.links (by simp at h; dsimp only [checkWarnings]; simp [h])

@[simp] theorem checkThrottles_links (s) (h : [.dram, .power, .board, .obs] ⊆ sc.parts) : Links sc s (checkThrottles s) :=
  Moves.links (by simp at h; dsimp only [checkThrottles]; simp [h])

@[simp] theorem checkShutdown_links (s) (h : [.outs, .freeCtr, .obj, .clk, .fab, .edge, .planes, .grants, .teams, .cap, .loader, .chain,
    .noc, .wale, .dram, .ecc, .crypt, .banks, .pins, .lanes, .power, .board, .test, .obs] ⊆ sc.parts) (hd : sc.dramBytes) : Links sc s
    (checkShutdown s) :=
  Moves.links (by simp at h; dsimp only [checkShutdown]; simp [h, hd])

@[simp] theorem beginStop_links (s host sensor us) (h : [.noc, .power, .board, .obs] ⊆ sc.parts) : Links sc s (beginStop s host sensor us)
    :=
  Moves.links (by simp at h; dsimp only [beginStop]; simp [h])

@[simp] theorem predict_links (s) (h : [.noc, .power, .board, .obs] ⊆ sc.parts) : Links sc s (predict s) := by
  apply Moves.links
  simp at h
  unfold predict
  split <;> simp [h]

@[simp] theorem noteResume_links (s) (h : [.power] ⊆ sc.parts) : Links sc s (noteResume s) :=
  Moves.links (by simp at h; dsimp only [noteResume]; simp [h])

@[simp] theorem resumeNow_links (s auto) (h : [.outs, .freeCtr, .obj, .clk, .fab, .edge, .planes, .stage, .grants, .teams, .cap, .loader,
    .boot, .chain, .noc, .wale, .pan, .dram, .ecc, .crypt, .banks, .pins, .lanes, .sealed, .power, .board, .test, .obs] ⊆ sc.parts) (hd :
    sc.dramBytes) (hp : sc.panBytes) : Links sc s (resumeNow s auto) :=
  Moves.links (by simp at h; dsimp only [resumeNow]; simp [h, hd, hp])

@[simp] theorem execAutoResume_ends (s) (h : [.outs, .freeCtr, .obj, .clk, .fab, .edge, .planes, .stage, .grants, .teams, .cap, .loader,
    .boot, .chain, .noc, .wale, .pan, .dram, .ecc, .crypt, .banks, .pins, .lanes, .sealed, .power, .board, .test, .obs] ⊆ sc.parts) (hd :
    sc.dramBytes) (hp : sc.panBytes) : Ends sc s (execAutoResume s) :=
  by simp at h; dsimp only [execAutoResume]; simp [h, hd, hp]

@[simp] theorem actMode_within (h : [.outs, .freeCtr, .obj, .clk, .fab, .edge, .planes, .stage, .grants, .teams, .cap, .loader, .boot,
    .chain, .noc, .wale, .pan, .dram, .ecc, .crypt, .banks, .pins, .lanes, .sealed, .power, .board, .test, .obs] ⊆ sc.parts)
    (hd : sc.dramBytes) (hp : sc.panBytes) (hk : ∀ n, sc.keys (objKey (0x6520 + n) 1)) : actMode.Within sc := by
  simp at h
  refine ⟨fun s who old new => ?_, fun s _ _ => .refl sc s⟩
  dsimp only [actMode]
  split <;> simp [h, hd, hp, hk]

@[simp] theorem actNotifyAddr_within : actNotifyAddr.Within sc := by
  exact ⟨fun s _ _ _ => by simp [actNotifyAddr], fun s _ _ => by simp [actNotifyAddr]⟩

@[simp] theorem takePower_links (s mw) (h : [.power] ⊆ sc.parts) : Links sc s (takePower s mw) :=
  Moves.links (by simp at h; dsimp only [takePower]; simp [h])

@[simp] theorem execSensorExcluded_ends (n s) (h : [.power, .board, .obs] ⊆ sc.parts) : Ends sc s (execSensorExcluded n s) := by
  simp at h
  unfold execSensorExcluded
  dsimp only
  split <;> simp [h]

@[simp] theorem execSensorReadmitted_ends (n s) (h : [.power, .board, .obs] ⊆ sc.parts) : Ends sc s (execSensorReadmitted n s) := by
  simp at h
  unfold execSensorReadmitted
  dsimp only
  split <;> simp [h]

@[simp] theorem execReadsLowFlag_ends (n s) (h : [.power, .board, .obs] ⊆ sc.parts) : Ends sc s (execReadsLowFlag n s) := by
  simp at h
  unfold execReadsLowFlag
  split <;> simp [h]

@[simp] theorem actThreshold_within (sub) : (actThreshold sub).Within sc := by
  exact ⟨fun s _ _ _ => by simp [actThreshold], fun s _ _ => by simp [actThreshold]⟩

@[simp] theorem execGaitStepSlower_ends (t s) (h : [.grants, .teams, .cap, .power, .board, .obs] ⊆ sc.parts) : Ends sc s
    (execGaitStepSlower t s) :=
  by simp at h; dsimp only [execGaitStepSlower]; simp [h]

@[simp] theorem execGaitStepFaster_ends (t s) (h : [.grants, .teams, .cap, .power, .board, .obs] ⊆ sc.parts) : Ends sc s
    (execGaitStepFaster t s) :=
  by simp at h; dsimp only [execGaitStepFaster]; simp [h]

@[simp] theorem actGait_within (h : [.grants, .teams, .cap, .power, .board, .obs] ⊆ sc.parts) : actGait.Within sc := by
  simp at h
  exact ⟨fun s _ _ _ => by simp [h, actGait], fun s _ _ => by simp [actGait]⟩

@[simp] theorem nextStop_links (s step) (h : [.power] ⊆ sc.parts) : Links sc s (nextStop s step) :=
  Moves.links (by simp at h; dsimp only [nextStop]; simp [h])

@[simp] theorem drainBank_links (s b) (h : [.banks, .pins, .board, .obs] ⊆ sc.parts) : Links sc s (drainBank s b) :=
  Moves.links (by simp at h; dsimp only [drainBank]; simp [h])

@[simp] theorem drainsEnded_links (s) (h : [.banks, .pins, .board, .obs] ⊆ sc.parts) : Links sc s (drainsEnded s) := by
  apply Moves.links
  simp at h
  exact foldl_moves _ _ fun s b => by split <;> simp [h]

@[simp] theorem execOrderlyStopFallbacks_ends (s) (h : [.stage, .grants, .teams, .power, .board, .obs] ⊆ sc.parts) : Ends sc s
    (execOrderlyStopFallbacks s) :=
  by simp at h; dsimp only [execOrderlyStopFallbacks]; simp [h]

@[simp] theorem execSafeStopEntry_ends (s) (h : [.outs, .freeCtr, .obj, .clk, .fab, .edge, .planes, .grants, .teams, .cap, .loader,
    .chain, .noc, .wale, .dram, .ecc, .crypt, .banks, .pins, .lanes, .power, .board, .test, .obs] ⊆ sc.parts) (hd : sc.dramBytes) : Ends sc s
    (execSafeStopEntry s) :=
  by simp at h; dsimp only [execSafeStopEntry]; simp [h, hd]

@[simp] theorem execSafeN_ends (asserted widthNs s) (h : [.outs, .freeCtr, .obj, .clk, .fab, .edge, .planes, .grants, .teams, .cap,
    .loader, .chain, .noc, .wale, .dram, .ecc, .crypt, .banks, .pins, .lanes, .power, .board, .test, .obs] ⊆ sc.parts) (hd : sc.dramBytes) :
    Ends sc s (execSafeN asserted widthNs s) :=
  by simp at h; dsimp only [execSafeN]; simp [h, hd]

@[simp] theorem measured_links (s n mv ok) (h : [.board] ⊆ sc.parts) : Links sc s (measured s n mv ok) :=
  Moves.links (by simp at h; dsimp only [measured]; simp [h])

@[simp] theorem excursion_links (s n mv) (h : [.board, .obs] ⊆ sc.parts) : Links sc s (excursion s n mv) :=
  Moves.links (by simp at h; dsimp only [excursion]; simp [h])

@[simp] theorem execVinCoreOutOfRange_ends (mv widthNs s) (h : [.outs, .freeCtr, .obj, .clk, .fab, .edge, .planes, .grants, .teams, .cap,
    .loader, .chain, .noc, .wale, .dram, .ecc, .crypt, .banks, .pins, .lanes, .power, .board, .test, .obs] ⊆ sc.parts) (hd : sc.dramBytes) :
    Ends sc s (execVinCoreOutOfRange mv widthNs s) :=
  by simp at h; dsimp only [execVinCoreOutOfRange]; simp [h, hd]

@[simp] theorem execVauxLow_ends (mv widthNs s) (h : [.obj, .dict, .clk, .fab, .edge, .planes, .frames, .stage, .grants, .teams, .cap,
    .loader, .boot, .chain, .noc, .wale, .pan, .dram, .ecc, .crypt, .time, .banks, .pins, .lanes, .sealed, .power, .board, .test,
    .obs] ⊆ sc.parts) (hd : sc.dramBytes) (hp : sc.panBytes) (hm : sc.monitors) (hk : ∀ k, sc.keys k) : Ends sc s (execVauxLow mv widthNs s) :=
  by simp at h; dsimp only [execVauxLow]; simp [h, hd, hp, hm, hk]

@[simp] theorem execVdramVppOutOfRange_ends (vpp mv widthNs s) (h : [.outs, .freeCtr, .obj, .clk, .fab, .edge, .planes, .grants, .teams,
    .cap, .loader, .chain, .noc, .wale, .dram, .ecc, .crypt, .banks, .pins, .lanes, .power, .board, .test, .obs] ⊆ sc.parts) (hd :
    sc.dramBytes) : Ends sc s (execVdramVppOutOfRange vpp mv widthNs s) :=
  by simp at h; dsimp only [execVdramVppOutOfRange]; simp [h, hd]

@[simp] theorem execVlaneOutOfRange_ends (high mv widthNs s) (h : [.lanes, .board, .obs] ⊆ sc.parts) : Ends sc s (execVlaneOutOfRange high
    mv widthNs s) :=
  by simp at h; dsimp only [execVlaneOutOfRange]; simp [h]

@[simp] theorem bankLost_links (s b) (h : [.banks, .pins, .board, .obs] ⊆ sc.parts) : Links sc s (bankLost s b) :=
  Moves.links (by simp at h; dsimp only [bankLost]; simp [h])

@[simp] theorem execVccioOutOfRange_ends (b mv widthNs s) (h : [.banks, .pins, .board, .obs] ⊆ sc.parts) : Ends sc s (execVccioOutOfRange
    b mv widthNs s) :=
  by simp at h; dsimp only [execVccioOutOfRange]; simp [h]

@[simp] theorem execRootPllLockLoss_ends (s) (h : [.outs, .freeCtr, .obj, .clk, .fab, .edge, .planes, .grants, .teams, .cap, .loader,
    .chain, .noc, .wale, .dram, .ecc, .crypt, .banks, .pins, .lanes, .power, .board, .test, .obs] ⊆ sc.parts) (hd : sc.dramBytes) : Ends sc s
    (execRootPllLockLoss s) :=
  by simp at h; dsimp only [execRootPllLockLoss]; simp [h, hd]

/-! #### BIST, the farrier and calibration (R653 to R672) -/

@[simp] theorem blockDown_links (s src kind unit) (h : [.board, .test, .obs] ⊆ sc.parts) : Links sc s (blockDown s src kind unit) :=
  Moves.links (by simp at h; dsimp only [blockDown]; simp [h])

@[simp] theorem markClusters_links (s g m) (h : [.outs, .obj, .fab, .stage, .grants, .teams, .noc, .ecc, .board, .test, .obs] ⊆ sc.parts)
    : Links sc s (markClusters s g m) :=
  Moves.links (by simp at h; dsimp only [markClusters]; simp [h])

@[simp] theorem clusterDown_links (s g c) (h : [.outs, .obj, .fab, .stage, .grants, .teams, .noc, .ecc, .board, .test, .obs] ⊆ sc.parts) :
    Links sc s (clusterDown s g c) :=
  Moves.links (by simp at h; dsimp only [clusterDown]; simp [h])

@[simp] theorem repairColumn_links (s b col) (h : [.pan, .board, .test, .obs] ⊆ sc.parts) : Links sc s (repairColumn s b col) :=
  Moves.links (by simp at h; dsimp only [repairColumn]; simp [h])

@[simp] theorem disableWays_links (s sl m) (h : [.wale] ⊆ sc.parts) : Links sc s (disableWays s sl m) :=
  Moves.links (by simp at h; dsimp only [disableWays]; simp [h])

@[simp] theorem useSpares_links (s key n) (h : [.test] ⊆ sc.parts) : Links sc s (useSpares s key n).1 :=
  Moves.links (by simp at h; dsimp only [useSpares]; simp [h])

@[simp] theorem copyDown_links (s t grp k) (h : [.board, .obs] ⊆ sc.parts) : Links sc s (copyDown s t grp k) :=
  Moves.links (by simp at h; dsimp only [copyDown]; simp [h])

@[simp] theorem towerUntested_links (s t) (h : [.board, .test, .obs] ⊆ sc.parts) : Links sc s (towerUntested s t) :=
  Moves.links (by simp at h; dsimp only [towerUntested]; simp [h])

@[simp] theorem clusterFails_links (bist s g c) (h : [.outs, .obj, .fab, .stage, .grants, .teams, .noc, .ecc, .board, .test, .obs] ⊆
    sc.parts) : Links sc s (clusterFails bist s g c) :=
  Moves.links (by simp at h; dsimp only [clusterFails]; simp [h])

@[simp] theorem findFail_links (bist s unit) (h : [.outs, .obj, .fab, .stage, .grants, .teams, .noc, .wale, .pan, .ecc, .banks, .power,
    .board, .test, .obs] ⊆ sc.parts) : Links sc s (findFail bist s unit) := by
  apply Moves.links
  simp at h
  unfold findFail
  split <;> simp [h]

@[simp] theorem moveRows_links (s g row) (h : [.test] ⊆ sc.parts) : Links sc s (moveRows s g row) :=
  Moves.links (by simp at h; dsimp only [moveRows]; simp [h])

@[simp] theorem applyShift_links (s g row source) (h : [.fuses, .board, .test, .obs] ⊆ sc.parts) : Links sc s (applyShift s g row source) :=
  Moves.links (by simp at h; dsimp only [applyShift]; simp [h])

@[simp] theorem shiftImpossible_links (s g m) (h : [.outs, .obj, .fab, .stage, .grants, .teams, .noc, .ecc, .board, .test, .obs] ⊆
    sc.parts) : Links sc s (shiftImpossible s g m) :=
  Moves.links (by simp at h; dsimp only [shiftImpossible]; simp [h])

@[simp] theorem repairSector_links (s g) (h : [.outs, .fuses, .obj, .fab, .stage, .grants, .teams, .noc, .ecc, .board, .test, .obs] ⊆
    sc.parts) : Links sc s (repairSector s g) :=
  Moves.links (by simp at h; dsimp only [repairSector]; simp [h])

@[simp] theorem repairAll_links (s) (h : [.outs, .fuses, .obj, .fab, .stage, .grants, .teams, .noc, .pan, .ecc, .board, .test, .obs] ⊆
    sc.parts) : Links sc s (repairAll s) := by
  apply Moves.links
  simp at h
  unfold repairAll
  extract_lets s1 s2
  have h2 : Moves sc s s2 := Moves.trans (t := s1) (by simp [s1, h]) (foldl_moves _ _ fun s kv => foldl_moves _ _ fun s col => by simp [h])
  clear_value s2
  simp [h, h2]

@[simp] theorem cutTower_links (s t) (h : [.outs, .freeCtr, .obj, .clk, .fab, .edge, .planes, .grants, .teams, .cap, .loader, .chain,
    .noc, .wale, .dram, .ecc, .crypt, .banks, .pins, .lanes, .power, .board, .test, .obs] ⊆ sc.parts) (hd : sc.dramBytes) : Links sc s
    (cutTower s t) :=
  Moves.links (by simp at h; dsimp only [cutTower]; simp [h, hd])

@[simp] theorem towerGroupDown_links (s t grp) (h : [.outs, .freeCtr, .obj, .clk, .fab, .edge, .planes, .grants, .teams, .cap, .loader,
    .chain, .noc, .wale, .dram, .ecc, .crypt, .banks, .pins, .lanes, .power, .board, .test, .obs] ⊆ sc.parts) (hd : sc.dramBytes) : Links sc s
    (towerGroupDown s t grp) :=
  Moves.links (by simp at h; dsimp only [towerGroupDown]; simp [h, hd])

@[simp] theorem groupDown_links (s g) (h : [.outs, .freeCtr, .obj, .clk, .fab, .edge, .planes, .stage, .grants, .teams, .cap, .loader,
    .chain, .noc, .wale, .dram, .ecc, .crypt, .banks, .pins, .lanes, .power, .board, .test, .obs] ⊆ sc.parts) (hd : sc.dramBytes) : Links sc s
    (groupDown s g) := by
  apply Moves.links
  simp at h
  unfold groupDown
  split <;> simp [h, hd]

@[simp] theorem failGroup_links (s g) (h : [.outs, .freeCtr, .obj, .clk, .fab, .edge, .planes, .stage, .grants, .teams, .cap, .loader,
    .chain, .noc, .wale, .dram, .ecc, .crypt, .banks, .pins, .lanes, .power, .board, .test, .obs] ⊆ sc.parts) (hd : sc.dramBytes) : Links sc s
    (failGroup s g) :=
  Moves.links (by simp at h; dsimp only [failGroup]; simp [h, hd])

@[simp] theorem setLines_links (s kind n v) (h : [.test] ⊆ sc.parts) : Links sc s (setLines s kind n v) :=
  Moves.links (by simp at h; dsimp only [setLines]; simp [h])

@[simp] theorem failFar_links (s n t) (h : [.outs, .freeCtr, .obj, .clk, .fab, .edge, .planes, .stage, .grants, .teams, .cap, .loader,
    .chain, .noc, .wale, .dram, .ecc, .crypt, .banks, .pins, .lanes, .power, .board, .test, .obs] ⊆ sc.parts) (hd : sc.dramBytes) : Links sc s
    (failFar s n t) := by
  apply Moves.links
  simp at h
  unfold failFar
  repeat' split
  all_goals simp [h, hd]

@[simp] theorem driftedGroups_links (s) (h : [.outs, .freeCtr, .obj, .clk, .fab, .edge, .planes, .stage, .grants, .teams, .cap, .loader,
    .chain, .noc, .wale, .dram, .ecc, .crypt, .banks, .pins, .lanes, .power, .board, .test, .obs] ⊆ sc.parts) (hd : sc.dramBytes) : Links sc s
    (driftedGroups s) :=
  Moves.links (by simp at h; dsimp only [driftedGroups]; simp [h, hd])

@[simp] theorem degrade_links (s kind n t) (h : [.outs, .freeCtr, .obj, .clk, .fab, .edge, .planes, .stage, .grants, .teams, .cap,
    .loader, .chain, .noc, .wale, .dram, .ecc, .crypt, .banks, .pins, .lanes, .power, .board, .test, .obs] ⊆ sc.parts) (hd : sc.dramBytes) :
    Links sc s (degrade s kind n t) := by
  apply Moves.links
  simp at h
  unfold degrade
  split <;> simp [h, hd]

@[simp] theorem useItem_links (s kind n t) (h : [.power, .test] ⊆ sc.parts) : Links sc s (useItem s kind n t) := by
  apply Moves.links
  simp at h
  unfold useItem
  dsimp only
  repeat' split
  all_goals simp [h]

@[simp] theorem calibrate_links (s r) (h : [.outs, .freeCtr, .obj, .clk, .fab, .edge, .planes, .stage, .grants, .teams, .cap, .loader,
    .chain, .noc, .wale, .dram, .ecc, .crypt, .banks, .pins, .lanes, .power, .board, .test, .obs] ⊆ sc.parts) (hd : sc.dramBytes) : Links sc s
    (calibrate s r) := by
  apply Moves.links
  simp at h
  unfold calibrate
  dsimp only
  split <;> simp [h, hd]

@[simp] theorem calibrateAll_links (s runs trigger) (h : [.outs, .freeCtr, .obj, .clk, .fab, .edge, .planes, .stage, .grants, .teams,
    .cap, .loader, .chain, .noc, .wale, .dram, .ecc, .crypt, .banks, .pins, .lanes, .power, .board, .test, .obs] ⊆ sc.parts) (hd :
    sc.dramBytes) : Links sc s (calibrateAll s runs trigger) :=
  Moves.links (by simp at h; dsimp only [calibrateAll]; simp [h, hd])

@[simp] theorem execSensorRead_ends (raw powerMw s) (h : [.outs, .freeCtr, .obj, .clk, .fab, .edge, .planes, .stage, .grants, .teams,
    .cap, .loader, .chain, .noc, .wale, .dram, .ecc, .crypt, .banks, .pins, .lanes, .power, .board, .test, .obs] ⊆ sc.parts) (hd :
    sc.dramBytes) : Ends sc s (execSensorRead raw powerMw s) :=
  by simp at h; dsimp only [execSensorRead]; simp [h, hd]

/-! #### Start-up, the order and the library (07) -/

@[simp] theorem noteReport_links (s pos flags reason status) (h : [.chain, .board, .obs] ⊆ sc.parts) : Links sc s (noteReport s pos flags
    reason status) :=
  Moves.links (by simp at h; dsimp only [noteReport]; simp [h])

@[simp] theorem sendReport_links (s ready) (h : [.outs, .chain, .lanes, .board, .obs] ⊆ sc.parts) : Links sc s (sendReport s ready) :=
  Moves.links (by simp at h; dsimp only [sendReport]; simp [h])

@[simp] theorem passGo_links (s countdown) (h : [.outs, .lanes] ⊆ sc.parts) : Links sc s (passGo s countdown) :=
  Moves.links (by simp at h; dsimp only [passGo]; simp [h])

@[simp] theorem sendGo_links (s) (h : [.outs, .freeCtr, .chain, .lanes] ⊆ sc.parts) : Links sc s (sendGo s) :=
  Moves.links (by simp at h; dsimp only [sendGo]; simp [h])

@[simp] theorem checkGo_links (s) (h : [.outs, .freeCtr, .chain, .lanes] ⊆ sc.parts) : Links sc s (checkGo s) :=
  Moves.links (by simp at h; dsimp only [checkGo]; simp [h])

@[simp] theorem failStart_links (s reason) (h : [.outs, .boot, .chain, .lanes, .board, .obs] ⊆ sc.parts) : Links sc s (failStart s reason)
    :=
  Moves.links (by simp at h; dsimp only [failStart]; simp [h])

@[simp] theorem probeFlash_links (s answers octal flashId d0 d1) (h : [.loader, .boot] ⊆ sc.parts) : Links sc s (probeFlash s answers
    octal flashId d0 d1) :=
  Moves.links (by simp at h; dsimp only [probeFlash]; simp [h])

@[simp] theorem beginLoad_links (s) (h : [.outs, .boot, .chain, .lanes, .board, .obs] ⊆ sc.parts) : Links sc s (beginLoad s) :=
  Moves.links (by simp at h; dsimp only [beginLoad]; simp [h])

@[simp] theorem leaveReset_links (s) (h : [.boot, .board, .obs] ⊆ sc.parts) : Links sc s (leaveReset s) :=
  Moves.links (by simp at h; dsimp only [leaveReset]; simp [h])

@[simp] theorem execPorstN_ends (asserted straps s) (h : [.obj, .dict, .clk, .fab, .edge, .planes, .frames, .stage, .grants, .teams, .cap,
    .loader, .boot, .chain, .noc, .wale, .pan, .dram, .ecc, .crypt, .time, .banks, .pins, .lanes, .sealed, .power, .board, .test,
    .obs] ⊆ sc.parts) (hd : sc.dramBytes) (hp : sc.panBytes) (hm : sc.monitors) (hk : ∀ k, sc.keys k) : Ends sc s (execPorstN asserted straps s) :=
  by simp at h; dsimp only [execPorstN]; simp [h, hd, hp, hm, hk]

@[simp] theorem execVauxVinCoreReached_ends (vauxMv vinMv s) (h : [.boot, .power, .board, .obs] ⊆ sc.parts) : Ends sc s
    (execVauxVinCoreReached vauxMv vinMv s) :=
  by simp at h; dsimp only [execVauxVinCoreReached]; simp [h]

@[simp] theorem execSysrstN_ends (widthNs s) (h : [.outs, .planes, .loader, .boot, .chain, .lanes, .board, .obs] ⊆ sc.parts) : Ends sc s
    (execSysrstN widthNs s) :=
  by simp at h; dsimp only [execSysrstN]; simp [h]

@[simp] theorem criticalFailure_links (s block) (h : [.outs, .freeCtr, .obj, .clk, .fab, .edge, .planes, .grants, .teams, .cap, .loader,
    .boot, .chain, .noc, .wale, .dram, .ecc, .crypt, .banks, .pins, .lanes, .power, .board, .test, .obs] ⊆ sc.parts) (hd : sc.dramBytes) :
    Links sc s (criticalFailure s block) :=
  Moves.links (by simp at h; dsimp only [criticalFailure]; simp [h, hd])

@[simp] theorem measureBank_links (mvs s b) (h : [.banks, .board, .obs] ⊆ sc.parts) : Links sc s (measureBank mvs s b) :=
  Moves.links (by simp at h; dsimp only [measureBank]; simp [h])

@[simp] theorem execFuseLoadDone_ends (critical vccioMv s) (h : [.outs, .freeCtr, .fuses, .obj, .clk, .fab, .edge, .planes, .grants,
    .teams, .cap, .loader, .boot, .chain, .noc, .wale, .pan, .dram, .ecc, .crypt, .banks, .pins, .lanes, .sealed, .power, .board, .test, .obs]
    ⊆ sc.parts) (hd : sc.dramBytes) : Ends sc s (execFuseLoadDone critical vccioMv s) :=
  by simp at h; dsimp only [execFuseLoadDone]; simp [h, hd]

@[simp] theorem execBistStart_ends (refPpm s) (h : [.boot, .board, .test, .obs] ⊆ sc.parts) : Ends sc s (execBistStart refPpm s) :=
  by simp at h; dsimp only [execBistStart]; simp [h]

@[simp] theorem execBistWaitTick_ends (refPpm s) (h : [.boot, .board, .obs] ⊆ sc.parts) : Ends sc s (execBistWaitTick refPpm s) :=
  by simp at h; dsimp only [execBistWaitTick]; simp [h]

@[simp] theorem noteBist_links (s) (h : [.boot] ⊆ sc.parts) : Links sc s (noteBist s) :=
  Moves.links (by simp at h; dsimp only [noteBist]; simp [h])

@[simp] theorem execBistDone_ends (critical fails s) (h : [.outs, .freeCtr, .obj, .clk, .fab, .edge, .planes, .stage, .grants, .teams,
    .cap, .loader, .boot, .chain, .noc, .wale, .pan, .dram, .ecc, .crypt, .banks, .pins, .lanes, .power, .board, .test, .obs] ⊆ sc.parts) (hd
    : sc.dramBytes) : Ends sc s (execBistDone critical fails s) :=
  by simp at h; dsimp only [execBistDone]; simp [h, hd]

@[simp] theorem execRepairDone_ends (s) (h : [.outs, .freeCtr, .fuses, .obj, .clk, .fab, .edge, .planes, .stage, .grants, .teams, .cap,
    .loader, .boot, .chain, .noc, .wale, .pan, .dram, .ecc, .crypt, .banks, .pins, .lanes, .sealed, .power, .board, .test, .obs] ⊆ sc.parts)
    (hd : sc.dramBytes) (hp : sc.panBytes) : Ends sc s (execRepairDone s) :=
  by simp at h; dsimp only [execRepairDone]; simp [h, hd, hp]

@[simp] theorem trainStack_links (s m init) (h : [.dram, .board, .obs] ⊆ sc.parts) : Links sc s (trainStack s m init) :=
  Moves.links (by simp at h; dsimp only [trainStack]; simp [h])

@[simp] theorem forgetDram_links (s) (h : [.freeCtr, .obj, .loader, .noc, .wale, .dram, .ecc, .crypt, .board, .obs] ⊆ sc.parts)
    (hd : sc.dramBytes) (hk : ∀ r, sc.keys (objKey (0x6810 + r) 1)) : Links sc s (forgetDram s) := by
  apply Moves.links
  simp at h
  unfold forgetDram
  split
  · rfl
  · extract_lets s1
    have h1 : Moves sc s s1 := foldl_moves _ _ fun s r => by split <;> simp [h, hd, hk]
    clear_value s1
    have h0 : sc.keys (objKey 0x6810 1) := hk 0
    simp [h, h0, h1]

@[simp] theorem trainDram_links (s) (h : [.freeCtr, .obj, .loader, .noc, .wale, .dram, .ecc, .crypt, .board, .obs] ⊆ sc.parts)
    (hd : sc.dramBytes) (hk : ∀ r, sc.keys (objKey (0x6810 + r) 1)) : Links sc s (trainDram s) :=
  Moves.links (by simp at h; dsimp only [trainDram]; simp [h, hd, hk])

@[simp] theorem execCalibrationDone_ends (runs flashAnswers octal flashId dir0 dir1 s) (h : [.outs, .freeCtr, .obj, .clk, .fab, .edge,
    .planes, .stage, .grants, .teams, .cap, .loader, .boot, .chain, .noc, .wale, .pan, .dram, .ecc, .crypt, .banks, .pins, .lanes, .sealed,
    .power, .board, .test, .obs] ⊆ sc.parts) (hd : sc.dramBytes) (hp : sc.panBytes) (hk : ∀ r, sc.keys (objKey (0x6810 + r) 1)) :
    Ends sc s (execCalibrationDone runs flashAnswers octal flashId dir0 dir1 s) :=
  by simp at h; dsimp only [execCalibrationDone]; simp [h, hd, hp, hk]

@[simp] theorem returnDefaults_links (s) (h : [.freeCtr, .obj, .dict, .clk, .fab, .planes, .frames, .grants, .teams, .loader, .noc, .wale,
    .pan, .dram, .ecc, .crypt, .board, .obs] ⊆ sc.parts) (hd : sc.dramBytes) (hm : sc.monitors) (hk : ∀ k, sc.keys k) : Links sc s (returnDefaults s) := by
  apply Moves.links
  simp at h
  unfold returnDefaults
  extract_lets +onlyGivenNames s1
  have h1 : Moves sc s s1 := foldl_moves _ _ fun s r => by split <;> simp [h, hd, hk]
  clear_value s1
  simp [h, h1, hk, hm]

@[simp] theorem execStartupVerifyDone_ends (cells s) (h : [.outs, .freeCtr, .obj, .dict, .clk, .fab, .planes, .frames, .grants, .teams,
    .loader, .boot, .chain, .noc, .wale, .pan, .dram, .ecc, .crypt, .lanes, .board, .obs] ⊆ sc.parts) (hd : sc.dramBytes) (hm : sc.monitors)
    (hk : ∀ k, sc.keys k) : Ends sc s (execStartupVerifyDone cells s) :=
  by simp at h; dsimp only [execStartupVerifyDone]; simp [h, hd, hm, hk]

@[simp] theorem execLoadPhaseEnd_ends (s) (h : [.outs, .freeCtr, .boot, .chain, .lanes, .board, .obs] ⊆ sc.parts) : Ends sc s
    (execLoadPhaseEnd s) :=
  by simp at h; dsimp only [execLoadPhaseEnd]; simp [h]

@[simp] theorem disbandAtActivation_links (s t) (h : [.obj, .planes, .stage, .grants, .teams, .board, .obs] ⊆ sc.parts)
    (hk : ∀ sub, sc.keys (objKey (0x6210 + t) sub)) : Links sc s (disbandAtActivation s t) :=
  Moves.links (by simp at h; dsimp only [disbandAtActivation]; simp [h, hk])

@[simp] theorem activateTeam_links (s t) (h : [.obj, .planes, .stage, .grants, .teams, .board, .obs] ⊆ sc.parts)
    (hk : ∀ sub, sc.keys (objKey (0x6210 + t) sub)) : Links sc s (activateTeam s t) := by
  apply Moves.links
  simp at h
  unfold activateTeam
  split <;> simp [h, hk]

@[simp] theorem activateSector_links (s g) (h : [.planes] ⊆ sc.parts) : Links sc s (activateSector s g) :=
  Moves.links (by simp at h; dsimp only [activateSector]; simp [h])

@[simp] theorem execActivation_ends (s) (h : [.obj, .fab, .planes, .stage, .grants, .teams, .boot, .chain, .board, .obs] ⊆ sc.parts)
    (hk : ∀ t sub, sc.keys (objKey (0x6210 + t) sub)) : Ends sc s (execActivation s) :=
  by simp at h; dsimp only [execActivation]; simp [h, hk]

@[simp] theorem enterRun_links (s) (h : [.boot, .power, .board, .obs] ⊆ sc.parts) : Links sc s (enterRun s) :=
  Moves.links (by simp at h; dsimp only [enterRun]; simp [h])

@[simp] theorem takeStep_links (s k) {act : State → State} (ha : ∀ s, Moves sc s (act s)) (h : [.boot, .power, .board, .obs] ⊆
    sc.parts) : Links sc s (takeStep s k act) :=
  Moves.links (by have ha s := (ha s).links; simp at h; dsimp only [takeStep]; simp [h, ha])

@[simp] theorem actHostFeed_within (h : [.outs, .loader, .chain, .lanes] ⊆ sc.parts) : actHostFeed.Within sc := by
  simp at h
  exact ⟨fun s _ _ _ => by simp [h, actHostFeed], fun s _ _ => by simp [actHostFeed]⟩

@[simp] theorem setLib_links (s n x) (h : [.loader] ⊆ sc.parts) : Links sc s (setLib s n x) :=
  Moves.links (by simp at h; dsimp only [setLib]; simp [h])

@[simp] theorem copyFailed_links (s n) (h : [.loader, .board, .obs] ⊆ sc.parts) : Links sc s (copyFailed s n) :=
  Moves.links (by simp at h; dsimp only [copyFailed]; simp [h])

@[simp] theorem copyImage_links (s img) (h : [.freeCtr, .obj, .loader, .noc, .wale, .dram, .ecc, .crypt, .board, .obs] ⊆ sc.parts) (hd :
    sc.dramBytes) : Links sc s (copyImage s img) := by
  apply Moves.links
  simp at h
  unfold copyImage
  dsimp only
  repeat' split
  all_goals simp [h, hd]

@[simp] theorem execLibraryCopy_ends (images s) (h : [.freeCtr, .obj, .loader, .noc, .wale, .dram, .ecc, .crypt, .board, .obs] ⊆ sc.parts)
    (hd : sc.dramBytes) : Ends sc s (execLibraryCopy images s) :=
  by simp at h; dsimp only [execLibraryCopy]; simp [h, hd]

@[simp] theorem execLibraryCopyDone_ends (failed s) (h : [.loader, .board, .obs] ⊆ sc.parts) : Ends sc s (execLibraryCopyDone failed s) :=
  by simp at h; dsimp only [execLibraryCopyDone]; simp [h]

@[simp] theorem actLibArea_within (size) : (actLibArea size).Within sc := by
  exact ⟨fun s _ _ _ => by simp [actLibArea], fun s _ _ => by simp [actLibArea]⟩

@[simp] theorem actWriteEntry_within (h : [.loader] ⊆ sc.parts) : actWriteEntry.Within sc := by
  simp at h
  exact ⟨fun s _ _ _ => by simp [h, actWriteEntry], fun s _ _ => by simp [actWriteEntry]⟩

@[simp] theorem actWriteData_within (h : [.freeCtr, .obj, .loader, .noc, .wale, .dram, .ecc, .crypt, .board, .obs] ⊆ sc.parts) (hd :
    sc.dramBytes) : actWriteData.Within sc := by
  simp at h
  exact ⟨fun s _ _ _ => by simp [h, hd, actWriteData], fun s _ _ => by simp [actWriteData]⟩

@[simp] theorem actLoadEntry_within (h : [.loader] ⊆ sc.parts) : actLoadEntry.Within sc := by
  simp at h
  exact ⟨fun s _ _ _ => by simp [h, actLoadEntry], fun s _ _ => by simp [actLoadEntry]⟩

@[simp] theorem execLoadStart_ends (s) (h : [.loader, .board, .obs] ⊆ sc.parts) : Ends sc s (execLoadStart s) := by
  simp at h
  unfold execLoadStart
  split <;> simp [h]

@[simp] theorem actLoadCancel_within (h : [.outs, .planes, .loader, .chain, .lanes, .board, .obs] ⊆ sc.parts) : actLoadCancel.Within sc :=
    by
  simp at h
  exact ⟨fun s _ _ _ => by simp [h, actLoadCancel], fun s _ _ => by simp [actLoadCancel]⟩

/-! #### The device chain (R347 to R351) -/

@[simp] theorem noteDevice_links (s pos) (h : [.chain] ⊆ sc.parts) : Links sc s (noteDevice s pos) :=
  Moves.links (by simp at h; dsimp only [noteDevice]; simp [h])

@[simp] theorem sendPosition_links (s) (h : [.outs, .chain, .lanes, .board, .obs] ⊆ sc.parts) : Links sc s (sendPosition s) :=
  Moves.links (by simp at h; dsimp only [sendPosition]; simp [h])

@[simp] theorem execPosition_ends (f pos s) (h : [.outs, .chain, .lanes, .board, .obs] ⊆ sc.parts) : Ends sc s (execPosition f pos s) :=
  by simp at h; dsimp only [execPosition]; simp [h]

@[simp] theorem execStream_ends (f bytes s) (h : [.outs, .chain, .lanes] ⊆ sc.parts) : Ends sc s (execStream f bytes s) :=
  by simp at h; dsimp only [execStream]; simp [h]

@[simp] theorem execReport_ends (f pos flags failReason status s) (h : [.outs, .freeCtr, .chain, .lanes, .board, .obs] ⊆ sc.parts) : Ends
    sc s (execReport f pos flags failReason status s) :=
  by simp at h; dsimp only [execReport]; simp [h]

@[simp] theorem execReportTimeout_ends (s) (h : [.chain, .board, .obs] ⊆ sc.parts) : Ends sc s (execReportTimeout s) :=
  by simp at h; dsimp only [execReportTimeout]; simp [h]

@[simp] theorem execGo_ends (f countdown s) (h : [.outs, .chain, .lanes] ⊆ sc.parts) : Ends sc s (execGo f countdown s) :=
  by simp at h; dsimp only [execGo]; simp [h]

@[simp] theorem actForceGo_within (h : [.outs, .freeCtr, .chain, .lanes] ⊆ sc.parts) : actForceGo.Within sc := by
  simp at h
  exact ⟨fun s _ _ _ => by simp [h, actForceGo], fun s _ _ => by simp [actForceGo]⟩

@[simp] theorem execGoWaitTimeout_ends (s) (h : [.outs, .boot, .chain, .lanes, .board, .obs] ⊆ sc.parts) : Ends sc s (execGoWaitTimeout s)
    := by
  simp at h
  unfold execGoWaitTimeout
  split <;> simp [h]

@[simp] theorem execDelayResp_ends (f t1 t2 t3 t4 s) (h : [.outs, .lanes] ⊆ sc.parts) : Ends sc s (execDelayResp f t1 t2 t3 t4 s) :=
  by simp at h; dsimp only [execDelayResp]; simp [h]

@[simp] theorem pushResponse_links (s msg) (h : [.pan, .board, .obs] ⊆ sc.parts) (hp : sc.panBytes) : Links sc s (pushResponse s msg) :=
  Moves.links (by simp at h; dsimp only [pushResponse]; simp [h, hp])

@[simp] theorem remoteReply_links (s src op tag len status data) (h : [.outs, .lanes] ⊆ sc.parts) : Links sc s (remoteReply s src op tag
    len status data) :=
  Moves.links (by simp at h; dsimp only [remoteReply]; simp [h])

@[simp] theorem execRemoteReq_ends (f message s) (h : [.outs, .noc, .lanes, .board, .obs] ⊆ sc.parts) : Ends sc s (execRemoteReq f message
    s) :=
  by simp at h; dsimp only [execRemoteReq]; simp [h]

@[simp] theorem execRemoteResp_ends (f message s) (h : [.outs, .pan, .lanes, .board, .obs] ⊆ sc.parts) (hp : sc.panBytes) :
    Ends sc s (execRemoteResp f message s) := by
  simp at h
  refine (hitchFrame_links _ _ _ _ (fun s => ?_) (by simp [h])).moves
  dsimp only
  split <;> simp [h, hp]

@[simp] theorem execRemoteRequestPush_ends (s) (h : [.outs, .pan, .ecc, .lanes, .sealed, .board, .obs] ⊆ sc.parts) (hp : sc.panBytes) :
    Ends sc s (execRemoteRequestPush s) :=
  by simp at h; dsimp only [execRemoteRequestPush]; simp [h, hp]

@[simp] theorem execRemoteTimeout_ends (tag s) (h : [.pan, .lanes, .board, .obs] ⊆ sc.parts) (hp : sc.panBytes) : Ends sc s
    (execRemoteTimeout tag s) := by
  simp at h
  unfold execRemoteTimeout
  dsimp only
  repeat' split
  all_goals simp [h, hp]

@[simp] theorem linkUp_links (s up) (h : [.outs, .chain, .lanes, .board, .obs] ⊆ sc.parts) : Links sc s (linkUp s up) :=
  Moves.links (by simp at h; dsimp only [linkUp]; simp [h])

@[simp] theorem execLaneActive_ends (l slow s) (h : [.outs, .chain, .lanes, .board, .obs] ⊆ sc.parts) : Ends sc s (execLaneActive l slow
    s) :=
  by simp at h; dsimp only [execLaneActive]; simp [h]

/-! #### The integrity services (11) -/

@[simp] theorem scrubTo_links (s ch p) (h : [.dram] ⊆ sc.parts) : Links sc s (scrubTo s ch p) :=
  Moves.links (by simp at h; dsimp only [scrubTo]; simp [h])

@[simp] theorem beginPass_links (s) (h : [.dram, .ecc] ⊆ sc.parts) : Links sc s (beginPass s) :=
  Moves.links (by simp at h; dsimp only [beginPass]; simp [h])

@[simp] theorem endPass_links (s) (h : [.dram, .ecc, .board, .obs] ⊆ sc.parts) : Links sc s (endPass s) :=
  Moves.links (by simp at h; dsimp only [endPass]; simp [h])

@[simp] theorem scrubAdvance_links (s ch) (h : [.dram, .ecc, .board, .obs] ⊆ sc.parts) : Links sc s (scrubAdvance s ch) :=
  Moves.links (by simp at h; dsimp only [scrubAdvance]; simp [h])

@[simp] theorem maintTransfer_links (s ch) (h : [.dram, .board, .obs] ⊆ sc.parts) : Links sc s (maintTransfer s ch) :=
  Moves.links (by simp at h; dsimp only [maintTransfer]; simp [h])

@[simp] theorem watchLine_links (s ch phys a) (h : [.dram, .board, .obs] ⊆ sc.parts) : Links sc s (watchLine s ch phys a) := by
  apply Moves.links
  simp at h
  unfold watchLine
  dsimp only
  split <;> simp [h]

@[simp] theorem scrubWrite_links (s ch data verifyErrs spareErrs) (h : [.wale, .dram, .board, .obs] ⊆ sc.parts) (hd : sc.dramBytes) :
    Links sc s (scrubWrite s ch data verifyErrs spareErrs) := by
  simp at h
  have key : ∀ write, write = scrubWrite → Moves sc s (write s ch data verifyErrs spareErrs) := by
    intro write hw
    delta scrubWrite at hw
    rw [hw]
    beta_reduce
    extract_lets c a sl s1
    have h1 : Moves sc s s1 := by simp [h, s1]
    clear_value s1
    split
    · exact h1
    · split <;> simp [h, hd, h1]
  exact (key _ rfl).links

@[simp] theorem scrubOutcome_links (s ch phys a spare symbols verifyErrs spareErrs) (h : [.freeCtr, .obj, .wale, .dram, .ecc, .board,
    .obs] ⊆ sc.parts) (hd : sc.dramBytes) : Links sc s (scrubOutcome s ch phys a spare symbols verifyErrs spareErrs) := by
  apply Moves.links
  simp at h
  unfold scrubOutcome
  dsimp only
  split <;> simp [h, hd]

/-- The fallback of ECC_SCRUB, whose settings fall back together (R490), where the pair of one mismatches. -/
theorem scrubFallback_moves {s : State} {sub : Nat} (h : [.obj, .ecc, .board, .obs] ⊆ sc.parts)
    (hs : (sub = 1 ∨ sub = 2) ∨ ∀ k, sc.keys k) (hf : s.pairOk 0x6700 sub = false) : Moves sc s (scrubFallback s sub) := by
  have hboth : Moves sc s ((s.resetObj 0x6700 1).resetObj 0x6700 2) := by
    simp at h
    by_cases hk : sc.keys (objKey 0x6700 1)
    · exact (resetObj_moves (by simp [h]) (.inl hk)).trans (resetObj_moves (by simp [h]) (.inl (sc.scrub.mp hk)))
    · have hsub := hs.resolve_right fun hall => hk (hall _)
      have hnk : ¬ sc.keys (objKey 0x6700 sub) := by
        rcases hsub with rfl | rfl
        · exact hk
        · rwa [← sc.scrub]
      refine obj_index_moves (by simp [h]) (idx := 0x6700) (sub := sub) (by omega) (fun j hj => ?_) hnk hf
      have hne : j ≠ objKey 0x6700 1 ∧ j ≠ objKey 0x6700 2 := by simp only [objKey]; omega
      exact (AMap.get_del_other _ _ _ _ hne.2).trans (AMap.get_del_other _ _ _ _ hne.1)
  simp at h
  refine hboth.trans ?_
  simp [scrubFallback, h]

@[simp] theorem useScrub_links (s) (h : [.obj, .ecc, .board, .obs] ⊆ sc.parts) : Links sc s (useScrub s) := by
  have hone : ∀ s k, k = 1 ∨ k = 2 → Moves sc s (if s.pairOk 0x6700 k then s else scrubFallback s k) := fun s k hk => by
    split
    · rfl
    · exact scrubFallback_moves h (.inl hk) (Bool.eq_false_of_not_eq_true ‹_›)
  exact ((hone s 1 (.inl rfl)).trans (hone _ 2 (.inr rfl))).links

@[simp] theorem execScrubRead_ends (channel symbols verifyErrs spareErrs s) (h : [.freeCtr, .obj, .wale, .dram, .ecc, .board, .obs] ⊆
    sc.parts) (hd : sc.dramBytes) : Ends sc s (execScrubRead channel symbols verifyErrs spareErrs s) := by
  simp at h
  have key : ∀ read, read = execScrubRead → Ends sc s (read channel symbols verifyErrs spareErrs s) := by
    intro read hr
    delta execScrubRead at hr
    rw [hr]
    beta_reduce
    extract_lets +onlyGivenNames s0 ch
    refine ends_of_ite (fun _ => by simp [h, s0]) fun _ => ?_
    extract_lets +onlyGivenNames s1 s2 c
    have h2 : Moves sc s s2 := by simp [h, s2, s1, s0]
    clear_value s2
    refine ends_of_ite (fun _ => h2) fun _ => ?_
    refine ends_of_ite (fun _ => by simp [h, hd, h2]) fun _ => ?_
    refine ends_of_ite (fun _ => h2) fun _ => ?_
    extract_lets +onlyGivenNames p s3
    have h3 : Moves sc s s3 := by simp [s3, h, h2]
    clear_value s3
    split <;> simp [h, hd, h3]
  exact key _ rfl

@[simp] theorem execScrubWritebackTimeout_ends (channel s) (h : [.dram, .ecc, .board, .obs] ⊆ sc.parts) : Ends sc s
    (execScrubWritebackTimeout channel s) := by
  simp at h
  unfold execScrubWritebackTimeout
  split <;> simp [h]

@[simp] theorem execScrubPassLate_ends (channel s) (h : [.obj, .dram, .ecc, .board, .obs] ⊆ sc.parts) : Ends sc s (execScrubPassLate
    channel s) :=
  by simp at h; dsimp only [execScrubPassLate]; simp [h]

@[simp] theorem upsetObj_links (s idx sub m) (h : [.obj] ⊆ sc.parts) (hk : ∀ k, sc.keys k) : Links sc s (upsetObj s idx sub m) :=
  Moves.links (by simp at h; dsimp only [upsetObj]; simp [h, hk])

@[simp] theorem strike_links (s p m) (h : [.obj, .teams, .dram, .crypt, .sealed] ⊆ sc.parts) (hk : ∀ k, sc.keys k) :
    Links sc s (strike s p m) := by
  apply Moves.links
  simp at h
  unfold strike
  split <;> simp [h, hk]

theorem rwp_rows : objTable.all (fun r => decide (r.acc = .rwp → (r.lo ≤ 0x6700 → 0x6700 ≤ r.hi → 1 ≤ r.slo ∧ r.shi ≤ 2) ∧
    (r.lo ≤ 0x6927 → 0x6920 ≤ r.hi → 1 ≤ r.slo) ∧ (r.lo ≤ 0x1110 → 0x1110 ≤ r.hi → r.shi = 0))) = true := by decide +kernel

/-- The subs of protected objects: ECC_SCRUB's settings, the pins' configurations, DICT_LEVEL_ENABLE. -/
theorem isRwp_subs {idx sub : Nat} (h : isRwp idx sub = true) :
    (idx = 0x6700 → sub = 1 ∨ sub = 2) ∧ (0x6920 ≤ idx → idx ≤ 0x6927 → 1 ≤ sub) ∧ (idx = 0x1110 → sub = 0) := by
  unfold isRwp at h
  split at h
  · next r hr =>
    have hrows := of_decide_eq_true (List.all_eq_true.mp rwp_rows r (List.mem_of_find?_eq_some hr)) (of_decide_eq_true h)
    have hcov := List.find?_some hr
    simp only [ObjRow.covers, Bool.and_eq_true, decide_eq_true_eq] at hcov
    omega
  · cases h

theorem compEvent_moves {b s : State} (idx sub) (h : [.ecc, .board, .obs] ⊆ sc.parts) (hs : Moves sc b s) :
    Moves sc b (compEvent s idx sub) := (compEvent_links s idx sub h).after hs

/-- An object's fallback, where its pair mismatches: a protected object, or any where the scope has every object. -/
theorem objFallback_moves {s : State} {idx sub : Nat}
    (h : [.outs, .obj, .dict, .grants, .teams, .ecc, .crypt, .banks, .pins, .board, .obs] ⊆ sc.parts)
    (hr : isRwp idx sub = true ∨ ∀ k, sc.keys k) (hf : s.pairOk idx sub = false) : Moves sc s (objFallback s idx sub) := by
  simp at h
  unfold objFallback
  split
  · next hi =>
    subst hi
    refine levelFault_moves (by simp [h]) (hr.symm.imp (· _) fun hr => ?_)
    rwa [(isRwp_subs hr).2.2 rfl] at hf
  split
  · simp [h]
  split
  · exact compEvent_moves _ _ (by simp [h]) (putObj_moves _ (by simp [h]) (.inr hf))
  split
  · exact compEvent_moves _ _ (by simp [h]) (putObj_moves _ (by simp [h]) (.inr hf))
  split
  · next hi => subst hi; exact dramFallback_moves (by simp [h]) hf
  split
  · next hi => subst hi; exact scrubFallback_moves (by simp [h]) (hr.imp_left fun hr => (isRwp_subs hr).1 rfl) hf
  split
  · split <;> simp [h]
  split
  · next hi =>
    refine pinFallback_moves (by simp [h]) (hr.symm.imp (· _) fun hr => ?_)
    have hsub := (isRwp_subs hr).2.1 hi.1 hi.2
    rwa [Nat.add_sub_cancel' hi.1, Nat.sub_add_cancel hsub]
  split
  · next hi => subst hi; exact thresholdFault_moves (by simp [h]) hf
  · exact compEvent_moves _ _ (by simp [h]) (resetObj_moves (by simp [h]) (.inr hf))

@[simp] theorem checkRoot_links (s r) (h : [.ecc, .crypt, .board, .obs] ⊆ sc.parts) : Links sc s (checkRoot s r) :=
  Moves.links (by simp at h; dsimp only [checkRoot]; simp [h])

@[simp] theorem checkTable_links (s) (h : [.pan, .ecc, .sealed, .board, .obs] ⊆ sc.parts) (hp : sc.panBytes) : Links sc s (checkTable s)
    := by
  apply Moves.links
  simp at h
  unfold checkTable
  dsimp only
  repeat' split
  all_goals simp [h, hp]

@[simp] theorem dropPairFaults_links (s) (h : [.ecc] ⊆ sc.parts) : Links sc s (dropPairFaults s) :=
  Moves.links (by simp at h; dsimp only [dropPairFaults]; simp [h])

@[simp] theorem execComplementCheck_ends (upset s) (h : [.outs, .obj, .dict, .stage, .grants, .teams, .pan, .dram, .ecc, .crypt, .banks,
    .pins, .sealed, .board, .obs] ⊆ sc.parts) (hp : sc.panBytes) (hk : ∀ k, sc.keys k) : Ends sc s (execComplementCheck upset s) := by
  have hstrike : ∀ s : State, ∀ k, Moves sc s (if s.pairOk (k / 256) (k % 256) then s else objFallback s (k / 256) (k % 256)) :=
    fun s k => by
      split
      · rfl
      · exact objFallback_moves (by simp at h; simp [h]) (.inr hk) (Bool.eq_false_of_not_eq_true ‹_›)
  simp at h
  unfold execComplementCheck
  split <;> simp [h, hp, hk, hstrike, foldl_links]

@[simp] theorem actClearCounts_within (h : [.dram, .ecc, .obs] ⊆ sc.parts) : actClearCounts.Within sc := by
  simp at h
  exact ⟨fun s _ _ _ => by simp [h, actClearCounts], fun s _ _ => by simp [actClearCounts]⟩

@[simp] theorem verifyEnded_links (s) (h : [.ecc, .board, .obs] ⊆ sc.parts) : Links sc s (verifyEnded s) := by
  apply Moves.links
  simp at h
  unfold verifyEnded
  dsimp only
  repeat' split
  all_goals simp [h]

@[simp] theorem actVerify_within (h : [.ecc, .board, .obs] ⊆ sc.parts) : actVerify.Within sc := by
  simp at h
  exact ⟨fun s _ _ _ => by simp [h, actVerify], fun s _ _ => by simp [actVerify]⟩

@[simp] theorem execVerifyRound_ends (s) (h : [.ecc, .board, .obs] ⊆ sc.parts) : Ends sc s (execVerifyRound s) :=
  by simp at h; dsimp only [execVerifyRound]; simp [h]

@[simp] theorem planeMismatch_links (s g p) (h : [.planes, .grants, .teams, .board, .obs] ⊆ sc.parts) : Links sc s (planeMismatch s g p)
    := by
  apply Moves.links
  simp at h
  unfold planeMismatch
  dsimp only
  repeat' split
  all_goals simp [h]

@[simp] theorem execVerifySectorPlaneDone_ends (cellFault s) (h : [.planes, .grants, .teams, .ecc, .board, .obs] ⊆ sc.parts) : Ends sc s
    (execVerifySectorPlaneDone cellFault s) := by
  simp at h
  unfold execVerifySectorPlaneDone
  split <;> simp [h]

/-! #### Stake monitors, tests and JTAG (17) -/

@[simp] theorem replaceVia_links (g s via) (h : [.outs, .freeCtr, .obj, .clk, .fab, .edge, .planes, .stage, .grants, .teams, .cap,
    .loader, .chain, .noc, .wale, .dram, .ecc, .crypt, .banks, .pins, .lanes, .power, .board, .test, .obs] ⊆ sc.parts) (hd : sc.dramBytes) :
    Links sc s (replaceVia g s via) :=
  Moves.links (by simp at h; dsimp only [replaceVia]; simp [h, hd])

@[simp] theorem execStakeMonitorError_ends (g vias s) (h : [.outs, .freeCtr, .obj, .clk, .fab, .edge, .planes, .stage, .grants, .teams,
    .cap, .loader, .chain, .noc, .wale, .dram, .ecc, .crypt, .banks, .pins, .lanes, .power, .board, .test, .obs] ⊆ sc.parts) (hd :
    sc.dramBytes) : Ends sc s (execStakeMonitorError g vias s) :=
  by simp at h; dsimp only [execStakeMonitorError]; simp [h, hd]

@[simp] theorem actShift_within (h : [.test] ⊆ sc.parts) : actShift.Within sc := by
  simp at h
  exact ⟨fun s _ _ _ => by simp [h, actShift], fun s _ _ => by simp [actShift]⟩

@[simp] theorem execRowShiftDone_ends (s) (h : [.fuses, .cap, .board, .test, .obs] ⊆ sc.parts) : Ends sc s (execRowShiftDone s) := by
  simp at h
  unfold execRowShiftDone
  split <;> simp [h]

@[simp] theorem recalibrate_links (s runs trigger) (h : [.outs, .freeCtr, .obj, .clk, .fab, .edge, .planes, .stage, .grants, .teams, .cap,
    .loader, .chain, .noc, .wale, .dram, .ecc, .crypt, .banks, .pins, .lanes, .power, .board, .test, .obs] ⊆ sc.parts) (hd : sc.dramBytes) :
    Links sc s (recalibrate s runs trigger) :=
  Moves.links (by simp at h; dsimp only [recalibrate]; simp [h, hd])

@[simp] theorem actCalibrate_within (runs) (h : [.outs, .freeCtr, .obj, .clk, .fab, .edge, .planes, .stage, .grants, .teams, .cap,
    .loader, .chain, .noc, .wale, .dram, .ecc, .crypt, .banks, .pins, .lanes, .power, .board, .test, .obs] ⊆ sc.parts) (hd : sc.dramBytes) :
    (actCalibrate runs).Within sc := by
  simp at h
  exact ⟨fun s _ _ _ => by simp [h, hd, actCalibrate], fun s _ _ => by simp [actCalibrate]⟩

@[simp] theorem testBegins_links (s kind target) (h : [.freeCtr, .obj, .fab, .edge, .planes, .frames, .cap, .noc, .wale, .pan, .dram,
    .ecc, .crypt, .board, .obs] ⊆ sc.parts) (hd : sc.dramBytes) (hk : ∀ r, sc.keys (objKey (0x6810 + r) 1)) :
    Links sc s (testBegins s kind target) := by
  apply Moves.links
  simp at h
  unfold testBegins
  split
  case h_5 =>
    extract_lets ch k s1
    have h1 : Moves sc s s1 := foldl_moves _ _ fun s r => by split <;> simp [h, hd, hk]
    clear_value s1
    simp [h, hd, h1]
  all_goals simp [h, hd]

@[simp] theorem actTestRun_within (h : [.freeCtr, .obj, .fab, .edge, .planes, .frames, .cap, .noc, .wale, .pan, .dram, .ecc, .crypt,
    .board, .test, .obs] ⊆ sc.parts) (hd : sc.dramBytes) (hk : ∀ r, sc.keys (objKey (0x6810 + r) 1)) : actTestRun.Within sc := by
  simp at h
  exact ⟨fun s _ _ _ => by simp [h, hd, hk, actTestRun], fun s _ _ => by simp [h, actTestRun]⟩

@[simp] theorem testEnds_links (s kind target) (h : [.wale, .pan, .board, .obs] ⊆ sc.parts) : Links sc s (testEnds s kind target) :=
  Moves.links (by simp at h; dsimp only [testEnds]; simp [h])

@[simp] theorem execTestComplete_ends (fails s) (h : [.outs, .obj, .fab, .stage, .grants, .teams, .noc, .wale, .pan, .ecc, .banks, .power,
    .board, .test, .obs] ⊆ sc.parts) : Ends sc s (execTestComplete fails s) :=
  by simp at h; dsimp only [execTestComplete]; simp [h]

@[simp] theorem actJtagOpen_within (h : [.board, .obs] ⊆ sc.parts) : actJtagOpen.Within sc := by
  simp at h
  exact ⟨fun s _ _ _ => by simp [h, actJtagOpen], fun s _ _ => by simp [actJtagOpen]⟩

@[simp] theorem actLock_within (h : [.fuses] ⊆ sc.parts) : actLock.Within sc := by
  simp at h
  exact ⟨fun s _ _ _ => by simp [h, actLock], fun s _ _ => by simp [actLock]⟩

@[simp] theorem execSamplePreload_ends (preload s) (h : [.outs, .freeCtr, .obj, .ecc, .board, .test, .obs] ⊆ sc.parts) : Ends sc s
    (execSamplePreload preload s) :=
  by simp at h; dsimp only [execSamplePreload]; simp [h]

@[simp] theorem execDebug_ends (write addr len data s) (h : [.obj, .noc, .ecc, .board, .test, .obs] ⊆ sc.parts) : Ends sc s (execDebug
    write addr len data s) :=
  by simp at h; dsimp only [execDebug]; simp [h]

@[simp] theorem execDieSelect_ends (die s) (h : [.obj, .ecc, .board, .test, .obs] ⊆ sc.parts) : Ends sc s (execDieSelect die s) :=
  by simp at h; dsimp only [execDieSelect]; simp [h]

/-! #### Observation (18) -/

@[simp] theorem actCounterConfig_within (h : [.obs] ⊆ sc.parts) : actCounterConfig.Within sc := by
  simp at h
  exact ⟨fun s _ _ _ => by simp [h, actCounterConfig], fun s _ _ => by simp [actCounterConfig]⟩

@[simp] theorem clearCounter_links (s k) (h : [.obs] ⊆ sc.parts) : Links sc s (clearCounter s k) :=
  Moves.links (by simp at h; dsimp only [clearCounter]; simp [h])

@[simp] theorem actCounterClear_within (h : [.obs] ⊆ sc.parts) : actCounterClear.Within sc := by
  simp at h
  exact ⟨fun s _ _ _ => by simp [h, actCounterClear], fun s _ _ => by simp [actCounterClear]⟩

@[simp] theorem execCounterMilestone_ends (block counter s) (h : [.board, .obs] ⊆ sc.parts) : Ends sc s (execCounterMilestone block
    counter s) := by
  simp at h
  unfold execCounterMilestone
  dsimp only
  split <;> simp [h]

@[simp] theorem snapshotAt_links (s t) (h : [.board, .obs] ⊆ sc.parts) : Links sc s (snapshotAt s t) :=
  Moves.links (by simp at h; dsimp only [snapshotAt]; simp [h])

@[simp] theorem execTallySnapshot_ends (s) (h : [.board, .obs] ⊆ sc.parts) : Ends sc s (execTallySnapshot s) :=
  by simp at h; dsimp only [execTallySnapshot]; simp [h]

@[simp] theorem actSnapshot_within (h : [.board, .obs] ⊆ sc.parts) : actSnapshot.Within sc := by
  simp at h
  exact ⟨fun s _ _ _ => by simp [h, actSnapshot], fun s _ _ => by simp [actSnapshot]⟩

@[simp] theorem writeCopy_links (dest fuel off data s) (h : [.noc, .board, .obs] ⊆ sc.parts) : Links sc s (writeCopy dest fuel off data s)
    := by
  simp at h
  induction fuel generalizing off data s with
  | zero => exact (Moves.refl sc _).links
  | succ fuel ih => exact Moves.links (by simp [h, writeCopy, ih])

@[simp] theorem execSnapshotReadDone_ends (s) (h : [.noc, .board, .obs] ⊆ sc.parts) : Ends sc s (execSnapshotReadDone s) := by
  simp at h
  unfold execSnapshotReadDone
  split <;> simp [h]

@[simp] theorem actTallyList_within : actTallyList.Within sc := by
  exact ⟨fun s _ _ _ => by simp [actTallyList], fun s _ _ => by simp [actTallyList]⟩

@[simp] theorem actTallyTime_within (h : [.obs] ⊆ sc.parts) : actTallyTime.Within sc := by
  simp at h
  exact ⟨fun s _ _ _ => by simp [h, actTallyTime], fun s _ _ => by simp [actTallyTime]⟩

@[simp] theorem actTallyDest_within : actTallyDest.Within sc := by
  exact ⟨fun s _ _ _ => by simp [actTallyDest], fun s _ _ => by simp [actTallyDest]⟩

@[simp] theorem actSampleClear_within (h : [.obs] ⊆ sc.parts) : actSampleClear.Within sc := by
  simp at h
  exact ⟨fun s _ _ _ => by simp [h, actSampleClear], fun s _ _ => by simp [actSampleClear]⟩

@[simp] theorem actSample_within (sub) : (actSample sub).Within sc := by
  exact ⟨fun s _ _ _ => by simp [actSample], fun s _ _ => by simp [actSample]⟩

@[simp] theorem updMon_links (s n f) (h : [.obs] ⊆ sc.parts) (hm : sc.monitors) : Links sc s (updMon s n f) :=
  Moves.links (by simp at h; dsimp only [updMon]; simp [h, hm])

@[simp] theorem actMonitor_within (n) (h : [.obs] ⊆ sc.parts) (hm : sc.monitors) : (actMonitor n).Within sc := by
  simp at h
  exact ⟨fun s _ _ _ => by simp [h, hm, actMonitor], fun s _ _ => by simp [actMonitor]⟩

@[simp] theorem actMonSetting_within (n sub) : (actMonSetting n sub).Within sc := by
  exact ⟨fun s _ _ _ => by simp [actMonSetting], fun s _ _ => by simp [actMonSetting]⟩

@[simp] theorem monitorTake_links (s n v) (h : [.board, .obs] ⊆ sc.parts) (hm : sc.monitors) : Links sc s (monitorTake s n v) :=
  Moves.links (by simp at h; dsimp only [monitorTake]; simp [h, hm])

@[simp] theorem execMonitorSample_ends (n level s) (h : [.board, .obs] ⊆ sc.parts) (hm : sc.monitors) : Ends sc s (execMonitorSample n
    level s) :=
  by simp at h; dsimp only [execMonitorSample]; simp [h, hm]

@[simp] theorem actTmux_within : actTmux.Within sc := by
  exact ⟨fun s _ _ _ => by simp [actTmux], fun s _ _ => by simp [actTmux]⟩

end Sys2Proof.Machine
end

section
/-! PROOFS. The scope of each operation: reads, packets, the dictionary engine, the fabric's edges and the idle step. -/

namespace Sys2Proof.Machine

variable {sc : Scope}

/-! #### Reading an object -/

theorem readFault_moves {s t : State} {idx sub} (h : [.outs, .obj, .dict, .grants, .teams, .pan, .ecc, .crypt, .banks, .pins, .sealed,
    .board, .obs] ⊆ sc.parts) (hp : sc.panBytes) (ht : readFault s idx sub = some t) : Moves sc s t := by
  revert ht
  simp at h
  unfold readFault
  split
  · next hr =>
    rintro ⟨⟩
    exact objFallback_moves (by simp [h]) (.inl hr.1) (Bool.eq_false_of_not_eq_true hr.2)
  repeat' split
  all_goals rintro ⟨⟩ <;> simp [h, hp]

@[simp] theorem dictRead_links (s who q) (h : [.outs, .obj, .dict, .grants, .teams, .pan, .ecc, .crypt, .banks, .pins, .sealed, .board,
    .obs] ⊆ sc.parts) (hp : sc.panBytes) : Links sc s (dictRead s who q).1 := by
  apply Moves.links
  unfold dictRead
  dsimp only
  split
  · rfl
  · split
    · rfl
    · split
      · rfl
      · split
        · next ht => exact readFault_moves h hp ht
        · rfl

/-! #### Packets at their targets and initiators (08) -/

@[simp] theorem panCycle_links (s init off len) (h : [.pan, .board, .obs] ⊆ sc.parts) : Links sc s (panCycle s init off len) :=
  Moves.links (by simp at h; dsimp only [panCycle]; simp [h])

@[simp] theorem windowCycle_links (s n off p) (h : [.pan, .board, .obs] ⊆ sc.parts) : Links sc s (windowCycle s n off p) :=
  Moves.links (by simp at h; dsimp only [windowCycle]; simp [h])

@[simp] theorem panServe_links (s p off err) (h : [.noc, .pan, .ecc, .sealed, .board, .obs] ⊆ sc.parts) (hp : sc.panBytes) : Links sc s
    (panServe s p off err) :=
  Moves.links (by simp at h; dsimp only [panServe]; simp [h, hp])

theorem portServe_moves {s t : State} {p g c off} (h : [.outs, .fab, .noc, .board, .obs] ⊆ sc.parts)
    (ht : portServe s p g c off = some t) : Moves sc s t := by
  revert ht
  simp at h
  unfold portServe
  repeat' split
  all_goals rintro ⟨⟩ <;> simp [h]

@[simp] theorem serviceServe_links (s p off) (h : [.outs, .obj, .dict, .grants, .teams, .noc, .pan, .ecc, .crypt, .banks, .pins, .sealed,
    .board, .obs] ⊆ sc.parts) (hp : sc.panBytes) : Links sc s (serviceServe s p off) := by
  apply Moves.links
  simp at h
  unfold serviceServe
  dsimp only
  split
  · split
    · simp [h]
    · split
      · simp [h]
      · split
        · next ht =>
          have h1 := readFault_moves (sc := sc) (by simp [h]) hp ht
          simp [h, h1]
        · simp [h]
  · split
    · simp [h]
    · split <;> simp [h]

theorem serveRequest_moves {s t : State} {p tag err} (h : [.outs, .obj, .dict, .fab, .grants, .teams, .noc, .wale, .pan, .ecc,
    .crypt, .banks, .pins, .sealed, .board, .obs] ⊆ sc.parts) (hp : sc.panBytes) (ht : serveRequest s p tag err = some t) :
    Moves sc s t := by
  revert ht
  simp at h
  unfold serveRequest
  dsimp only
  repeat' split
  case h_5 => exact portServe_moves (by simp [h])
  all_goals (rintro ⟨⟩; simp [h, hp])

theorem takePacket_moves {s t : State} {k kind p} (h : [.noc, .board, .obs] ⊆ sc.parts) (ht : takePacket s k kind = some (p, t)) :
    Moves sc s t := by
  revert ht
  simp at h
  unfold takePacket
  repeat' split
  all_goals simp
  rintro rfl rfl
  simp [h]

@[simp] theorem requestArrives_links (s k kind link tag err) (h : [.outs, .obj, .dict, .fab, .grants, .teams, .noc, .wale, .pan, .ecc,
    .crypt, .banks, .pins, .sealed, .board, .obs] ⊆ sc.parts) (hp : sc.panBytes) : Links sc s (requestArrives s k kind link tag err) := by
  apply Moves.links
  have hall := h
  simp at h
  unfold requestArrives
  split
  · rfl
  · rename_i p s1 ht
    have h1 := takePacket_moves (sc := sc) (by simp [h]) ht
    split
    · simp [h, h1]
    · simp [h, h1]
    · exact moves_getD fun t ht => Moves.trans (by simp [h, h1]) (serveRequest_moves hall hp ht)
    · exact moves_getD fun t ht => h1.trans (serveRequest_moves hall hp ht)

@[simp] theorem tallyAnswer_links (s p status) (h : [.board, .obs] ⊆ sc.parts) : Links sc s (tallyAnswer s p status) :=
  Moves.links (by simp at h; dsimp only [tallyAnswer]; simp [h])

@[simp] theorem deliver_links (s p status data) (h : [.outs, .fab, .grants, .teams, .noc, .banks, .lanes, .board, .obs] ⊆ sc.parts) :
    Links sc s (deliver s p status data) := by
  apply Moves.links
  simp at h
  unfold deliver
  split <;> simp [h]

@[simp] theorem finish_links (s p status outcome data) (h : [.outs, .freeCtr, .fab, .grants, .teams, .noc, .banks, .lanes, .board, .obs] ⊆
    sc.parts) : Links sc s (finish s p status outcome data) :=
  Moves.links (by simp at h; dsimp only [finish]; simp [h])

@[simp] theorem responseTaken_links (s r status) (h : [.outs, .freeCtr, .fab, .grants, .teams, .noc, .banks, .lanes, .board, .obs] ⊆
    sc.parts) : Links sc s (responseTaken s r status) := by
  apply Moves.links
  simp at h
  unfold responseTaken
  split <;> simp [h]

@[simp] theorem responseArrives_links (s k kind link) (h : [.outs, .freeCtr, .fab, .grants, .teams, .noc, .banks, .lanes, .board, .obs] ⊆
    sc.parts) : Links sc s (responseArrives s k kind link) := by
  apply Moves.links
  simp at h
  unfold responseArrives
  split
  · rfl
  · rename_i ht
    have h1 := takePacket_moves (sc := sc) (by simp [h]) ht
    split <;> simp [h, h1]

@[simp] theorem execResponseTimeout_ends (k s) (h : [.outs, .freeCtr, .fab, .grants, .teams, .noc, .banks, .lanes, .board, .obs] ⊆
    sc.parts) : Ends sc s (execResponseTimeout k s) := by
  simp at h
  unfold execResponseTimeout
  split <;> simp [h]

/-! #### What a write of each object means -/

@[simp] theorem actLevelKey_within (n) (h : [.outs, .dict, .board, .obs] ⊆ sc.parts) : (actLevelKey n).Within sc := by
  simp at h
  refine ⟨fun s who old new => ?_, fun s _ _ => .refl sc s⟩
  dsimp only [actLevelKey]
  split <;> simp [h]

@[simp] theorem actLevelEnable_within (h : [.outs, .dict, .board, .obs] ⊆ sc.parts) : actLevelEnable.Within sc := by
  simp at h
  refine ⟨fun s who old new => ?_, fun s _ _ => .refl sc s⟩
  refine Moves.trans (t := { s with dict.levelFault := false }) (by simp [h])
    (foldl_moves _ _ fun s p => foldl_moves _ _ fun s k => ?_)
  repeat' split
  all_goals simp [h]

@[simp] theorem closeDue_links (s) (h : [.outs, .dict, .board, .obs] ⊆ sc.parts) : Links sc s (closeDue s) :=
  Moves.links (by simp at h; dsimp only [closeDue]; simp [h])

@[simp] theorem actCanEnable_within (h : [.dict] ⊆ sc.parts) : actCanEnable.Within sc := by
  simp at h
  exact ⟨fun s _ _ _ => by simp [h, actCanEnable], fun s _ _ => by simp [actCanEnable]⟩

@[simp] theorem actCanRate_within (sub) : (actCanRate sub).Within sc := by
  exact ⟨fun s _ _ _ => by simp [actCanRate], fun s _ _ => by simp [actCanRate]⟩

@[simp] theorem actGateList_within (h : [.dict] ⊆ sc.parts) : actGateList.Within sc := by
  simp at h
  exact ⟨fun s _ _ _ => by simp [h, actGateList], fun s _ _ => by simp [actGateList]⟩

@[simp] theorem actMap_within (idx sub) : (actMap idx sub).Within sc := by
  exact ⟨fun s _ _ _ => by simp [actMap], fun s _ _ => by simp [actMap]⟩

@[simp] theorem actPdEnable_within (h : [.dict] ⊆ sc.parts) : actPdEnable.Within sc := by
  simp at h
  exact ⟨fun s _ _ _ => by simp [h, actPdEnable], fun s _ _ => by simp [actPdEnable]⟩

@[simp] theorem actPdCycle_within : actPdCycle.Within sc := by
  exact ⟨fun s _ _ _ => by simp [actPdCycle], fun s _ _ => by simp [actPdCycle]⟩

@[simp] theorem actPdOffset_within : actPdOffset.Within sc := by
  exact ⟨fun s _ _ _ => by simp [actPdOffset], fun s _ _ => by simp [actPdOffset]⟩

@[simp] theorem actCaptureSetting_within : actCaptureSetting.Within sc := by
  exact ⟨fun s _ _ _ => by simp [actCaptureSetting], fun s _ _ => by simp [actCaptureSetting]⟩

@[simp] theorem actChainSync_within (h : [.outs, .freeCtr, .chain, .lanes] ⊆ sc.parts) : actChainSync.Within sc := by
  simp at h
  exact ⟨fun s _ _ _ => by simp [h, actChainSync], fun s _ _ => by simp [actChainSync]⟩

@[simp] theorem actTimeCfg_within (h : [.time, .board, .obs] ⊆ sc.parts) : actTimeCfg.Within sc := by
  simp at h
  exact ⟨fun s _ _ _ => by simp [h, actTimeCfg], fun s _ _ => by simp [actTimeCfg]⟩

@[simp] theorem actAuditSelect_within : actAuditSelect.Within sc := by
  exact ⟨fun s _ _ _ => by simp [actAuditSelect], fun s _ _ => by simp [actAuditSelect]⟩

theorem actRows_within (hf : sc.Full) (idx sub) : ∀ r ∈ actRows1 ++ actRows2 ++ actRows3 ++ actRows4, (r.act idx sub).Within sc := by
  have ⟨h, hk, hd, hp, hm⟩ := hf
  simp [actRows1, actRows2, actRows3, actRows4, h, hk, hd, hp, hm]

@[simp] theorem actionOf_within (idx sub) (hf : sc.Full) : (actionOf idx sub).Within sc := by
  unfold actionOf
  split
  · next hr => exact actRows_within hf _ _ _ (List.mem_of_find?_eq_some hr)
  · exact Action.within_default

/-! #### The dictionary engine (02) -/

@[simp] theorem plainReply_links (s svc e payload) (h : [.outs, .dict] ⊆ sc.parts) : Links sc s (plainReply s svc e payload) :=
  Moves.links (by simp at h; dsimp only [plainReply]; simp [h])

@[simp] theorem tookFrame_links (s e) (h : [.dict] ⊆ sc.parts) : Links sc s (tookFrame s e) :=
  Moves.links (by simp at h; dsimp only [tookFrame]; simp [h])

@[simp] theorem execOpenSession_ends (e level options nonce s) (h : [.outs, .freeCtr, .obj, .dict, .ecc, .board, .obs] ⊆ sc.parts) : Ends
    sc s (execOpenSession e level options nonce s) := by
  simp at h
  unfold execOpenSession
  dsimp only
  repeat' split
  all_goals simp [h]

@[simp] theorem authFailed_links (s level host) (h : [.dict, .board, .obs] ⊆ sc.parts) : Links sc s (authFailed s level host) :=
  Moves.links (by simp at h; dsimp only [authFailed]; simp [h])

@[simp] theorem openNow_links (s e n x right) (h : [.outs, .dict, .board, .obs] ⊆ sc.parts) : Links sc s (openNow s e n x right) :=
  Moves.links (by simp at h; dsimp only [openNow]; simp [h])

@[simp] theorem answerChallenge_links (s e n x hmac sealedHmac) (h : [.outs, .dict, .board, .obs] ⊆ sc.parts) : Links sc s
    (answerChallenge s e n x hmac sealedHmac) :=
  Moves.links (by simp at h; dsimp only [answerChallenge]; simp [h])

@[simp] theorem execResponse_ends (e hmac sealedHmac s) (h : [.outs, .obj, .dict, .ecc, .board, .obs] ⊆ sc.parts) : Ends sc s
    (execResponse e hmac sealedHmac s) := by
  have hr {r} (hr : receive s 3 e (hmac ++ sealedHmac.getD []) true = r) := receive_moves h hr
  simp at h
  unfold execResponse
  dsimp only
  repeat' split
  case h_1 => next ht => exact hr ht
  case h_2 => next ht => have h1 := hr ht; simp only [Framed.state] at h1; simp [h, h1]
  case h_3 => next ht => have h1 := hr ht; simp only [Framed.state] at h1; simp [h, h1]
  all_goals simp [h]

@[simp] theorem execLevelLockExpiry_ends (level s) (h : [.dict] ⊆ sc.parts) : Ends sc s (execLevelLockExpiry level s) :=
  by simp at h; dsimp only [execLevelLockExpiry]; simp [h]

@[simp] theorem statusOnly_links (svc e payload s) {act : State → Fin 16 → State} (ha : ∀ s n, Moves sc s (act s n)) (h : [.outs,
    .obj, .dict, .ecc, .board, .obs] ⊆ sc.parts) : Links sc s (statusOnly svc e payload act s) := by
  apply Moves.links
  have hr {r} (hr : receive s svc e payload true = r) := receive_moves h hr
  have ha s n := (ha s n).links
  simp at h
  unfold statusOnly
  split
  · simp [h]
  · split
    case h_1 ht => exact hr ht
    case h_2 ht => have h1 := hr ht; simp only [Framed.state] at h1; simp [h, h1]
    case h_3 ht => have h1 := hr ht; simp only [Framed.state] at h1; simp [ha, h1]
    case h_4 ht => exact hr ht

@[simp] theorem execIdleTimeout_ends (n s) (h : [.outs, .dict, .board, .obs] ⊆ sc.parts) : Ends sc s (execIdleTimeout n s) :=
  by simp at h; dsimp only [execIdleTimeout]; simp [h]

@[simp] theorem tapRequest_links (s who r paired) (h : [.dict] ⊆ sc.parts) : Links sc s (tapRequest s who r paired).1 := by
  apply Moves.links
  simp at h
  unfold tapRequest
  split <;> simp [h]

@[simp] theorem execTapForward_ends (tap s) (h : [.outs, .dict, .noc, .board, .obs] ⊆ sc.parts) : Ends sc s (execTapForward tap s) := by
  simp at h
  unfold execTapForward
  split <;> simp [h]

@[simp] theorem execTapAnswer_ends (tap late status data s) (h : [.outs, .dict, .board, .obs] ⊆ sc.parts) : Ends sc s (execTapAnswer tap
    late status data s) := by
  simp at h
  unfold execTapAnswer
  dsimp only
  repeat' split
  all_goals simp [h]

@[simp] theorem execTapTimeout_ends (tap s) (h : [.outs, .dict, .board, .obs] ⊆ sc.parts) : Ends sc s (execTapTimeout tap s) := by
  simp at h
  unfold execTapTimeout
  split <;> simp [h]

@[simp] theorem execRead_ends (e r s) (h : [.outs, .obj, .dict, .grants, .teams, .pan, .ecc, .crypt, .banks, .pins, .sealed, .board, .obs]
    ⊆ sc.parts) (hp : sc.panBytes) : Ends sc s (execRead e r s) := by
  simp at h
  unfold execRead
  dsimp only
  split
  · next hr => exact receive_moves (by simp [h]) hr
  · next hr =>
    have h1 := receive_moves (sc := sc) (by simp [h]) hr
    simp only [Framed.state] at h1
    simp [h, h1]
  · next hr =>
    have h1 := receive_moves (sc := sc) (by simp [h]) hr
    simp only [Framed.state] at h1
    have htap who q paired := (tapRequest_links _ who q paired (by simp [h])).after h1
    repeat' split
    case h_1 => next ht => exact moves_of_fst ht (htap _ _ _)
    case h_2 => next ht => simp [h, moves_of_fst ht (htap _ _ _)]
    all_goals simp [h, hp, h1]

@[simp] theorem tapWrite_links (e paired w s) (h : [.outs, .obj, .dict, .ecc, .board, .obs] ⊆ sc.parts) : Links sc s (tapWrite e paired w
    s) := by
  apply Moves.links
  simp at h
  unfold tapWrite
  dsimp only
  split
  · next hr => exact receive_moves (by simp [h]) hr
  · next hr =>
    have h1 := receive_moves (sc := sc) (by simp [h]) hr
    simp only [Framed.state] at h1
    simp [h, h1]
  · next hr =>
    have h1 := receive_moves (sc := sc) (by simp [h]) hr
    simp only [Framed.state] at h1
    have htap who q paired := (tapRequest_links _ who q paired (by simp [h])).after h1
    split
    · simp [h, h1]
    · split
      · next ht => exact moves_of_fst ht (htap _ _ _)
      · next ht => simp [h, moves_of_fst ht (htap _ _ _)]

@[simp] theorem anyWrite_links (e paired w s) (hf : sc.Full) : Links sc s (anyWrite e paired w s) :=
  Moves.links (by have ⟨h, hk, hd, hp, hm⟩ := hf; dsimp only [anyWrite]; simp [h, hk, hf])

@[simp] theorem execGateListTakesEffect_ends (s) (h : [.dict] ⊆ sc.parts) : Ends sc s (execGateListTakesEffect s) := by
  simp at h
  unfold execGateListTakesEffect
  split <;> simp [h]

@[simp] theorem endTransfer_links (s t) (h : [.dict] ⊆ sc.parts) : Links sc s (endTransfer s t) :=
  Moves.links (by simp at h; dsimp only [endTransfer]; simp [h])

@[simp] theorem commitTransfer_links (s t v) (hf : sc.Full) : Links sc s (commitTransfer s t v).1 :=
  Moves.links (by have ⟨h, hk, hd, hp, hm⟩ := hf; dsimp only [commitTransfer]; simp [h, hk, hf])

@[simp] theorem takeSegment_links (s t flagged last offset data) (hf : sc.Full) : Links sc s (takeSegment s t flagged last offset data).1 := by
  apply Moves.links
  have ⟨h, hk, hd, hp, hm⟩ := hf
  simp [h, hf, takeSegment, Action.Within.late_links (actionOf_within _ _ hf)]

@[simp] theorem execSegment_ends (e offset data s) (hf : sc.Full) : Ends sc s (execSegment e offset data s) := by
  have ⟨h, _⟩ := hf
  unfold execSegment
  dsimp only
  split
  · next hr => exact receive_moves (by simp [h]) hr
  · next hr =>
    have h1 := receive_moves (sc := sc) (by simp [h]) hr
    simp only [Framed.state] at h1
    simp [h, h1]
  · next hr =>
    have h1 := receive_moves (sc := sc) (by simp [h]) hr
    simp only [Framed.state] at h1
    repeat' split
    all_goals simp [h, hf, h1]

@[simp] theorem execSegmentTimeout_ends (n transfer s) (h : [.outs, .dict] ⊆ sc.parts) : Ends sc s (execSegmentTimeout n transfer s) := by
  simp at h
  unfold execSegmentTimeout
  split <;> simp [h]

@[simp] theorem execAbort_ends (e code s) (h : [.outs, .obj, .dict, .ecc, .board, .obs] ⊆ sc.parts) : Ends sc s (execAbort e code s) := by
  have hr {r} (hr : receive s 20 e (u32 code.toNat) true = r) := receive_moves h hr
  simp at h
  unfold execAbort
  split
  · next ht => exact hr ht
  · next ht => exact hr ht
  · next ht =>
    have h1 := hr ht
    simp only [Framed.state] at h1
    simp [h, h1]

@[simp] theorem execUnknownService_ends (e service payload s) (h : [.outs, .obj, .dict, .ecc, .board, .obs] ⊆ sc.parts) : Ends sc s
    (execUnknownService e service payload s) :=
  by simp at h; dsimp only [execUnknownService]; simp [h]

@[simp] theorem canRead_links (s node r) (h : [.outs, .obj, .dict, .grants, .teams, .pan, .ecc, .crypt, .banks, .pins, .sealed, .board,
    .obs] ⊆ sc.parts) (hp : sc.panBytes) : Links sc s (canRead s node r) := by
  apply Moves.links
  simp at h
  have htap who q paired := (tapRequest_links (sc := sc) s who q paired (by simp [h])).moves
  unfold canRead
  dsimp only
  split
  · split
    · next ht => exact moves_of_fst ht (htap _ _ _)
    · next ht => simp [h, moves_of_fst ht (htap _ _ _)]
  · simp [h, hp]

@[simp] theorem canWrite_links (s node r) (hf : sc.Full) : Links sc s (canWrite s node r) := by
  apply Moves.links
  have ⟨h, hk, hd, hp, hm⟩ := hf
  have htap who q paired := (tapRequest_links (sc := sc) s who q paired (by simp [h])).moves
  unfold canWrite
  dsimp only
  split
  · split
    · next ht => exact moves_of_fst ht (htap _ _ _)
    · next ht => simp [h, moves_of_fst ht (htap _ _ _)]
  · simp [h, hk, hf]

@[simp] theorem canBegin_links (s node r) (hf : sc.Full) : Links sc s (canBegin s node r) := by
  apply Moves.links
  have ⟨h, hk, hd, hp, hm⟩ := hf
  unfold canBegin
  dsimp only
  repeat' split
  all_goals simp [h, hk, hd, hp, hm, Action.Within.late_links (actionOf_within _ _ hf)]

@[simp] theorem canSegment_links (s node r last) (hf : sc.Full) : Links sc s (canSegment s node r last) := by
  apply Moves.links
  have ⟨h, hk, hd, hp, hm⟩ := hf
  unfold canSegment
  dsimp only
  split
  · simp [h]
  · next t _ =>
    have htap who q paired := (tapRequest_links (sc := sc) _ who q paired (by simp [h])).after (endTransfer_links s t (by simp [h])).moves
    split
    · split
      · next ht => simpa using moves_of_fst ht (htap _ _ _)
      · next ht => simp [h, moves_of_fst ht (htap _ _ _)]
    · simp [h, hf]

@[simp] theorem execUsdoRequest_ends (node r s) (hf : sc.Full) : Ends sc s (execUsdoRequest node r s) := by
  have ⟨h, hk, hd, hp, hm⟩ := hf
  unfold execUsdoRequest
  dsimp only
  repeat' split
  all_goals simp [h, hp, hf]

@[simp] theorem execCanBusOff_ends (state tec recv s) (h : [.dict, .board, .obs] ⊆ sc.parts) : Ends sc s (execCanBusOff state tec recv s) :=
  by simp at h; dsimp only [execCanBusOff]; simp [h]

@[simp] theorem execProcessData_ends (port srcMac rtag cycle status image mac s) (h : [.dict, .board, .obs] ⊆ sc.parts) : Ends sc s
    (execProcessData port srcMac rtag cycle status image mac s) :=
  by simp at h; dsimp only [execProcessData]; simp [h]

@[simp] theorem applyEntry_links (s v bs) (hf : sc.Full) : Links sc s (applyEntry s v bs) :=
  Moves.links (by have ⟨h, hk, hd, hp, hm⟩ := hf; dsimp only [applyEntry]; simp [h, hk, hd, hp, hm, hf])

@[simp] theorem applyEntries_links (image vs off s) (hf : sc.Full) : Links sc s (applyEntries image vs off s) := by
  have ⟨h, hk, hd, hp, hm⟩ := hf
  induction vs generalizing off s with
  | nil => exact (Moves.refl sc _).links
  | cons v vs ih => exact Moves.links (by simp [hf, applyEntries, ih])

@[simp] theorem execRxImageApply_ends (s) (hf : sc.Full) : Ends sc s (execRxImageApply s) := by
  have ⟨h, hk, hd, hp, hm⟩ := hf
  unfold execRxImageApply
  dsimp only
  repeat' split
  all_goals simp [h, hk, hd, hp, hm, hf]

@[simp] theorem execPdReceiveFault_ends (s) (h : [.obj, .dict, .stage, .grants, .teams, .ecc, .board, .obs] ⊆ sc.parts) : Ends sc s
    (execPdReceiveFault s) :=
  by simp at h; dsimp only [execPdReceiveFault]; simp [h]

@[simp] theorem sampleEntry_links (taps s v) (h : [.outs, .freeCtr, .obj, .dict, .grants, .teams, .pan, .ecc, .crypt, .banks, .pins,
    .sealed, .board, .obs] ⊆ sc.parts) (hp : sc.panBytes) : Links sc s (sampleEntry taps s v).1 := by
  apply Moves.links
  simp at h
  have hread s idx sub : Moves sc s ((readFault s idx sub).getD s) := moves_getD fun t ht => readFault_moves (by simp [h]) hp ht
  unfold sampleEntry
  dsimp only
  split
  · split <;> simp [h]
  · simp [h, (hread _ _ _).links]

@[simp] theorem sampleEntries_links (taps vs s) (h : [.outs, .freeCtr, .obj, .dict, .grants, .teams, .pan, .ecc, .crypt, .banks, .pins,
    .sealed, .board, .obs] ⊆ sc.parts) (hp : sc.panBytes) : Links sc s (sampleEntries taps vs s).1 := by
  simp at h
  induction vs generalizing s with
  | nil => exact (Moves.refl sc _).links
  | cons v vs ih => exact Moves.links (by simp [h, hp, sampleEntries, ih])

@[simp] theorem execTxImageSample_ends (taps s) (h : [.outs, .freeCtr, .obj, .dict, .grants, .teams, .pan, .ecc, .crypt, .banks, .pins,
    .sealed, .board, .obs] ⊆ sc.parts) (hp : sc.panBytes) : Ends sc s (execTxImageSample taps s) :=
  by simp at h; dsimp only [execTxImageSample]; simp [h, hp]

@[simp] theorem defaultWrite_links (s d) (hf : sc.Full) : Links sc s (defaultWrite s d).1 := by
  apply Moves.links
  have ⟨h, hk, hd, hp, hm⟩ := hf
  have htap who q paired := (tapRequest_links (sc := sc) s who q paired (by simp [h])).moves
  unfold defaultWrite
  dsimp only
  split
  · rfl
  · split
    · split
      · next ht => exact moves_of_fst ht (htap _ _ _)
      · next ht => exact moves_of_fst ht (htap _ _ _)
    · simp [h, hk, hf]

@[simp] theorem execSetObjectDefault_ends (s) (hf : sc.Full) : Ends sc s (execSetObjectDefault s) :=
  by have ⟨h, hk, hd, hp, hm⟩ := hf; dsimp only [execSetObjectDefault]; simp [h, hf]

/-! #### Edges of the fabric clocks and the switch edge (03 to 05) -/

@[simp] theorem cellsEdge_links (s n rising gs) (h : [.fab, .planes] ⊆ sc.parts) : Links sc s (cellsEdge s n rising gs) :=
  Moves.links (by simp at h; dsimp only [cellsEdge]; simp [h])

@[simp] theorem takePortEdge_links (s g c) (h : [.fab, .edge, .planes, .noc, .board, .obs] ⊆ sc.parts) : Links sc s (takePortEdge s g c) := by
  apply Moves.links
  simp at h
  have hedge := (State.edgeTaken_links (sc := sc) s (.base (g * 64 + c)) (by simp [h])).moves
  unfold takePortEdge
  extract_lets +onlyGivenNames b
  split
  · rfl
  · generalize s.edgeTaken (.base (g * 64 + c)) = s1 at hedge ⊢
    dsimp only
    split <;> simp [h, hedge]

@[simp] theorem unitEdge_links (ev n s kv) (h : [.freeCtr, .fab, .edge, .planes, .noc, .ecc, .board, .obs] ⊆ sc.parts) : Links sc s
    (unitEdge ev n s kv) := by
  apply Moves.links
  simp at h
  unfold unitEdge
  dsimp only
  repeat' split
  all_goals simp [h]

@[simp] theorem unitsEdge_links (s n gs) (h : [.freeCtr, .fab, .edge, .planes, .noc, .ecc, .board, .obs] ⊆ sc.parts) : Links sc s
    (unitsEdge s n gs) :=
  Moves.links (by simp at h; dsimp only [unitsEdge]; simp [h])

@[simp] theorem settleFf_links (rose now before s t c i) (h : [.freeCtr, .fab] ⊆ sc.parts) : Links sc s (settleFf rose now before s t c i)
    :=
  Moves.links (by simp at h; dsimp only [settleFf]; simp [h])

@[simp] theorem settleHalf_links (now before s x) (h : [.freeCtr, .fab] ⊆ sc.parts) : Links sc s (settleHalf now before s x) :=
  Moves.links (by simp at h; dsimp only [settleHalf]; simp [h])

@[simp] theorem settle_links (fuel s) (h : [.freeCtr, .fab] ⊆ sc.parts) : Links sc s (settle fuel s) := by
  simp at h
  induction fuel generalizing s with
  | zero => exact (Moves.refl sc _).links
  | succ fuel ih => exact Moves.links (by simp [h, settle, ih])

@[simp] theorem execFabricClockEdge_ends (clk s) (h : [.freeCtr, .fab, .edge, .planes, .noc, .ecc, .board, .obs] ⊆ sc.parts) : Ends sc s
    (execFabricClockEdge clk s) :=
  by simp at h; dsimp only [execFabricClockEdge]; simp [h]

@[simp] theorem execBlockmemPortAccess_ends (u a b unordered flips s) (h : [.freeCtr, .fab, .edge, .ecc, .board, .obs] ⊆ sc.parts) : Ends
    sc s (execBlockmemPortAccess u a b unordered flips s) :=
  by simp at h; dsimp only [execBlockmemPortAccess]; simp [h]

@[simp] theorem lastEdges_links (s ms) (h : [.fab, .planes] ⊆ sc.parts) : Links sc s (lastEdges s ms) :=
  Moves.links (by simp at h; dsimp only [lastEdges]; simp [h])

@[simp] theorem performSwitch_links (s t q trigger r) (h : [.outs, .freeCtr, .dict, .fab, .edge, .planes, .teams, .board, .obs] ⊆
    sc.parts) : Links sc s (performSwitch s t q trigger r) :=
  Moves.links (by simp at h; dsimp only [performSwitch]; simp [h])

@[simp] theorem execSwitchEdge_ends (team s) (h : [.outs, .freeCtr, .dict, .fab, .edge, .planes, .stage, .grants, .teams, .ecc, .board,
    .obs] ⊆ sc.parts) : Ends sc s (execSwitchEdge team s) := by
  simp at h
  unfold execSwitchEdge
  dsimp only
  repeat' split
  all_goals simp [h]

/-! #### A command takes no time -/

/-! #### The idle step (R180, R531) -/

@[simp] theorem levelTick_links (s later) (h : [.freeCtr, .board, .obs] ⊆ sc.parts) : Links sc s (levelTick s later) :=
  Moves.links (by simp at h; dsimp only [levelTick]; simp [h])

@[simp] theorem dueSwitches_links (s) (h : [.grants, .teams, .cap, .board, .obs] ⊆ sc.parts) : Links sc s (dueSwitches s) := by
  apply Moves.links
  simp at h
  unfold dueSwitches
  extract_lets +onlyGivenNames s1 c s2
  have h1 : Moves sc s s1 := foldl_moves _ _ fun s t => by
    split
    · rfl
    · split <;> simp [h]
  clear_value s1
  simp [s2, h, h1]

@[simp] theorem runPorts_links (s) (h : [.noc, .wale, .ecc, .crypt, .board, .obs] ⊆ sc.parts) : Links sc s (runPorts s) := by
  simp at h
  refine (foldl_moves _ _ fun s kv => ?_).links
  dsimp only
  repeat' split
  all_goals simp [h]

@[simp] theorem deliverHeld_links (s) (h : [.outs, .fab, .noc, .board, .obs] ⊆ sc.parts) : Links sc s (deliverHeld s) := by
  apply Moves.links
  simp at h
  refine (dropAbsent_links _ (by simp [h])).after (Moves.trans ?_ (foldl_moves _ _ fun s p => ?_))
  · simp [h]
  · split <;> simp [h]

@[simp] theorem timeEdge_links (s) (h : [.time] ⊆ sc.parts) : Links sc s (timeEdge s) :=
  Moves.links (by simp at h; dsimp only [timeEdge]; simp [h])

end Sys2Proof.Machine
end

section
/-! PROOFS. The scope of each command that is one write of an object, or one operation. -/

namespace Sys2Proof.Machine

variable {sc : Scope}

@[simp] theorem execAck_ends (f s) (h : [.outs, .lanes] ⊆ sc.parts) : Ends sc s (execAck f s) := by
  simp at h
  dsimp only [execAck]
  simp [h]

@[simp] theorem execArithAccumulate_ends (u i s) (h : [.fab, .edge] ⊆ sc.parts) : Ends sc s (execArithAccumulate u i s) := by
  simp at h
  dsimp only [execArithAccumulate]
  simp [h]

@[simp] theorem execFqueueUpdate_ends (u i s) (h : [.fab, .edge] ⊆ sc.parts) : Ends sc s (execFqueueUpdate u i s) := by
  simp at h
  dsimp only [execFqueueUpdate]
  simp [h]

@[simp] theorem execFabMemReadCommand_ends (e v s) (h : [.outs, .obj, .dict, .fab, .ecc, .board, .obs] ⊆ sc.parts) (hk : sc.keys (objKey
    0x6340 2)) : Ends sc s (execFabMemReadCommand e v s) := by
  simp at h
  exact hostWrite_ends _ _ _ _ _ (by simp [h]) (by simp [h]) (by decide) (by decide) hk

@[simp] theorem execFabFclkWrite_ends (e n v s) (h : [.outs, .obj, .dict, .clk, .ecc, .board, .obs] ⊆ sc.parts) (hk : sc.keys (objKey
    0x6310 (n.val + 1))) : Ends sc s (execFabFclkWrite e n v s) := by
  simp at h
  exact hostWrite_ends _ _ _ _ _ (by simp [h]) (by simp [h]) (by decide) (by omega) hk

@[simp] theorem execFclkDivisorChange_ends (n s) (h : [.clk] ⊆ sc.parts) : Ends sc s (execFclkDivisorChange n s) := by
  simp at h
  dsimp only [execFclkDivisorChange]
  simp [h]

@[simp] theorem execSwitchAtTime_ends (e team plane planeCheck time s) (h : [.outs, .obj, .dict, .planes, .stage, .grants, .teams, .ecc,
    .board, .obs] ⊆ sc.parts) (hk : sc.keys (objKey 0x6220 1)) : Ends sc s (execSwitchAtTime e team plane planeCheck time s) := by
  simp at h
  exact hostWrite_ends _ _ _ _ _ (by simp [h]) (by simp [h]) (by decide) (by decide) hk

@[simp] theorem execStagePlane_ends (e team plane planeCheck s) (h : [.outs, .obj, .dict, .planes, .stage, .grants, .teams, .ecc, .board,
    .obs] ⊆ sc.parts) (hk : sc.keys (objKey 0x6220 1)) : Ends sc s (execStagePlane e team plane planeCheck s) := by
  simp at h
  exact hostWrite_ends _ _ _ _ _ (by simp [h]) (by simp [h]) (by decide) (by decide) hk

@[simp] theorem execUnstage_ends (e team plane planeCheck s) (h : [.outs, .obj, .dict, .planes, .stage, .grants, .teams, .ecc, .board,
    .obs] ⊆ sc.parts) (hk : sc.keys (objKey 0x6220 1)) : Ends sc s (execUnstage e team plane planeCheck s) := by
  simp at h
  exact hostWrite_ends _ _ _ _ _ (by simp [h]) (by simp [h]) (by decide) (by decide) hk

@[simp] theorem execCancelPendingSwitch_ends (e team plane planeCheck s) (h : [.outs, .obj, .dict, .planes, .stage, .grants, .teams, .ecc,
    .board, .obs] ⊆ sc.parts) (hk : sc.keys (objKey 0x6220 1)) : Ends sc s (execCancelPendingSwitch e team plane planeCheck s) := by
  simp at h
  exact hostWrite_ends _ _ _ _ _ (by simp [h]) (by simp [h]) (by decide) (by decide) hk

@[simp] theorem execFallBackNow_ends (e team plane planeCheck s) (h : [.outs, .obj, .dict, .planes, .stage, .grants, .teams, .ecc, .board,
    .obs] ⊆ sc.parts) (hk : sc.keys (objKey 0x6220 1)) : Ends sc s (execFallBackNow e team plane planeCheck s) := by
  simp at h
  exact hostWrite_ends _ _ _ _ _ (by simp [h]) (by simp [h]) (by decide) (by decide) hk

@[simp] theorem execReleaseHold_ends (e team plane planeCheck s) (h : [.outs, .obj, .dict, .planes, .stage, .grants, .teams, .ecc, .board,
    .obs] ⊆ sc.parts) (hk : sc.keys (objKey 0x6220 1)) : Ends sc s (execReleaseHold e team plane planeCheck s) := by
  simp at h
  exact hostWrite_ends _ _ _ _ _ (by simp [h]) (by simp [h]) (by decide) (by decide) hk

@[simp] theorem execFallbackTrigger_ends (team cause s) (h : [.obj, .stage, .grants, .teams, .ecc, .board, .obs] ⊆ sc.parts) : Ends sc s
    (execFallbackTrigger team cause s) := by
  simp at h
  dsimp only [execFallbackTrigger]
  simp [h]

@[simp] theorem execTeamMembersWrite_ends (e team v c s) (h : [.outs, .obj, .dict, .planes, .stage, .grants, .teams, .ecc, .board, .obs] ⊆
    sc.parts) (hx : ∀ sub, sc.keys (objKey (0x6210 + team.val) sub)) : Ends sc s (execTeamMembersWrite e team v c s) := by
  simp at h
  exact hostPaired_ends _ _ _ _ _ _ (by simp [h, hx]) (by simp [h]) (by omega) (by decide) (hx _)

@[simp] theorem execTeamSettingWrite_ends (e team setting v c s) (h : [.outs, .obj, .dict, .teams, .ecc, .board, .obs] ⊆ sc.parts) (hk :
    sc.keys (objKey (0x6210 + team.val) (setting.val + 2))) : Ends sc s (execTeamSettingWrite e team setting v c s) := by
  simp at h
  exact hostPaired_ends _ _ _ _ _ _ (by simp [h]) (by simp [h]) (by omega) (by omega) hk

@[simp] theorem execPlaneClear_ends (e v s) (h : [.outs, .obj, .dict, .planes, .ecc, .board, .obs] ⊆ sc.parts) (hk : sc.keys (objKey
    0x6230 1)) : Ends sc s (execPlaneClear e v s) := by
  simp at h
  exact hostWrite_ends _ _ _ _ _ (by simp [h]) (by simp [h]) (by decide) (by decide) hk

@[simp] theorem execCaptureArm_ends (e s) (h : [.outs, .obj, .dict, .cap, .ecc, .board, .obs] ⊆ sc.parts) (hk : sc.keys (objKey 0x6350 5))
    : Ends sc s (execCaptureArm e s) := by
  simp at h
  exact hostWrite_ends _ _ _ _ _ (by simp [h]) (by simp [h]) (by decide) (by decide) hk

@[simp] theorem execCaptureDisarm_ends (e s) (h : [.outs, .obj, .dict, .cap, .ecc, .board, .obs] ⊆ sc.parts) (hk : sc.keys (objKey 0x6350
    5)) : Ends sc s (execCaptureDisarm e s) := by
  simp at h
  exact hostWrite_ends _ _ _ _ _ (by simp [h]) (by simp [h]) (by decide) (by decide) hk

@[simp] theorem execCaptureRelease_ends (e s) (h : [.outs, .obj, .dict, .cap, .ecc, .board, .obs] ⊆ sc.parts) (hk : sc.keys (objKey 0x6350
    5)) : Ends sc s (execCaptureRelease e s) := by
  simp at h
  exact hostWrite_ends _ _ _ _ _ (by simp [h]) (by simp [h]) (by decide) (by decide) hk

@[simp] theorem execReservationWrite_ends (e n v s) (h : [.outs, .obj, .dict, .noc, .ecc, .board, .obs] ⊆ sc.parts) (hk : sc.keys (objKey
    0x6410 (n.val + 1))) : Ends sc s (execReservationWrite e n v s) := by
  simp at h
  exact hostWrite_ends _ _ _ _ _ (by simp [h]) (by simp [h]) (by decide) (by omega) hk

@[simp] theorem execStatClearSelected_ends (e s) (h : [.outs, .obj, .dict, .noc, .ecc, .board, .obs] ⊆ sc.parts) (hk : sc.keys (objKey
    0x6420 3)) : Ends sc s (execStatClearSelected e s) := by
  simp at h
  exact hostWrite_ends _ _ _ _ _ (by simp [h]) (by simp [h]) (by decide) (by decide) hk

@[simp] theorem execStatClearAll_ends (e s) (h : [.outs, .obj, .dict, .noc, .ecc, .board, .obs] ⊆ sc.parts) (hk : sc.keys (objKey 0x6420
    3)) : Ends sc s (execStatClearAll e s) := by
  simp at h
  exact hostWrite_ends _ _ _ _ _ (by simp [h]) (by simp [h]) (by decide) (by decide) hk

@[simp] theorem execBankClearingDone_ends (b s) (h : [.pan, .board, .obs] ⊆ sc.parts) (hp : sc.panBytes) : Ends sc s (execBankClearingDone
    b s) := by
  simp at h
  dsimp only [execBankClearingDone]
  simp [h, hp]

@[simp] theorem execPanWindowEnable_ends (e n v s) (h : [.outs, .obj, .dict, .pan, .ecc, .board, .obs] ⊆ sc.parts) (hk : sc.keys (objKey
    (0x6520 + n.val) 1)) : Ends sc s (execPanWindowEnable e n v s) := by
  simp at h
  exact hostWrite_ends _ _ _ _ _ (by simp [h]) (by simp [h]) (by omega) (by decide) hk

@[simp] theorem execPanConflictClear_ends (e v s) (h : [.outs, .obj, .dict, .pan, .ecc, .board, .obs] ⊆ sc.parts) (hk : sc.keys (objKey
    0x6531 0)) : Ends sc s (execPanConflictClear e v s) := by
  simp at h
  exact hostWrite_ends _ _ _ _ _ (by simp [h]) (by simp [h]) (by decide) (by decide) hk

@[simp] theorem execWaleFlush_ends (e mask s) (h : [.outs, .obj, .dict, .noc, .wale, .ecc, .board, .obs] ⊆ sc.parts) (hk : sc.keys (objKey
    0x6501 1)) : Ends sc s (execWaleFlush e mask s) := by
  simp at h
  exact hostWrite_ends _ _ _ _ _ (by simp [h]) (by simp [h]) (by decide) (by decide) hk

@[simp] theorem execWaleInvalidate_ends (e mask s) (h : [.outs, .obj, .dict, .noc, .wale, .ecc, .board, .obs] ⊆ sc.parts) (hk : sc.keys
    (objKey 0x6501 2)) : Ends sc s (execWaleInvalidate e mask s) := by
  simp at h
  exact hostWrite_ends _ _ _ _ _ (by simp [h]) (by simp [h]) (by decide) (by decide) hk

@[simp] theorem execMoverDoorbell_ends (initiator m addr s) (h : [.outs, .noc, .board, .obs] ⊆ sc.parts) : Ends sc s (execMoverDoorbell
    initiator m addr s) := by
  simp at h
  dsimp only [execMoverDoorbell]
  simp [h]

@[simp] theorem execMoverStart_ends (e m addr s) (h : [.outs, .obj, .dict, .noc, .ecc, .board, .obs] ⊆ sc.parts) (hk : sc.keys (objKey
    0x6431 1)) : Ends sc s (execMoverStart e m addr s) := by
  simp at h
  exact hostWrite_ends _ _ _ _ _ (by simp [h]) (by simp [h]) (by decide) (by decide) hk

@[simp] theorem execMoverStop_ends (e mask s) (h : [.outs, .obj, .dict, .noc, .ecc, .board, .obs] ⊆ sc.parts) (hk : sc.keys (objKey 0x6431
    2)) : Ends sc s (execMoverStop e mask s) := by
  simp at h
  exact hostWrite_ends _ _ _ _ _ (by simp [h]) (by simp [h]) (by decide) (by decide) hk

@[simp] theorem execTimeSet_ends (e v s) (h : [.outs, .obj, .dict, .ecc, .time, .board, .obs] ⊆ sc.parts) (hk : sc.keys (objKey 0x6902 1))
    : Ends sc s (execTimeSet e v s) := by
  simp at h
  exact hostWrite_ends _ _ _ _ _ (by simp [h]) (by simp [h]) (by decide) (by decide) hk

@[simp] theorem execIoPinWrite_ends (e b pin v c s) (h : [.outs, .obj, .dict, .ecc, .board, .obs] ⊆ sc.parts) (hk : sc.keys (objKey
    (0x6920 + b.val) (pin.val + 1))) : Ends sc s (execIoPinWrite e b pin v c s) := by
  simp at h
  exact hostPaired_ends _ _ _ _ _ _ (by simp) (by simp [h]) (by omega) (by omega) hk

@[simp] theorem execInputDrain_ends (b s) (h : [.noc, .banks, .board, .obs] ⊆ sc.parts) : Ends sc s (execInputDrain b s) := by
  simp at h
  dsimp only [execInputDrain]
  simp [h]

@[simp] theorem execDrainRetry_ends (b s) (h : [.noc, .banks, .board, .obs] ⊆ sc.parts) : Ends sc s (execDrainRetry b s) := by
  simp at h
  dsimp only [execDrainRetry]
  simp [h]

@[simp] theorem execIoBankStart_ends (e b s) (h : [.outs, .obj, .dict, .ecc, .banks, .pins, .board, .obs] ⊆ sc.parts) (hk : sc.keys
    (objKey (0x6910 + b.val) 2)) : Ends sc s (execIoBankStart e b s) := by
  simp at h
  exact hostWrite_ends _ _ _ _ _ (by simp [h]) (by simp [h]) (by omega) (by decide) hk

@[simp] theorem execIoBankStop_ends (e b s) (h : [.outs, .obj, .dict, .ecc, .banks, .pins, .board, .obs] ⊆ sc.parts) (hk : sc.keys (objKey
    (0x6910 + b.val) 2)) : Ends sc s (execIoBankStop e b s) := by
  simp at h
  exact hostWrite_ends _ _ _ _ _ (by simp [h]) (by simp [h]) (by omega) (by decide) hk

@[simp] theorem execLaneStart_ends (e n s) (h : [.outs, .obj, .dict, .ecc, .lanes, .board, .obs] ⊆ sc.parts) (hk : sc.keys (objKey (0x6A00
    + n.val) 7)) : Ends sc s (execLaneStart e n s) := by
  simp at h
  exact hostWrite_ends _ _ _ _ _ (by simp [h]) (by simp [h]) (by omega) (by decide) hk

@[simp] theorem execLaneStop_ends (e n s) (h : [.outs, .obj, .dict, .ecc, .lanes, .board, .obs] ⊆ sc.parts) (hk : sc.keys (objKey (0x6A00
    + n.val) 7)) : Ends sc s (execLaneStop e n s) := by
  simp at h
  exact hostWrite_ends _ _ _ _ _ (by simp [h]) (by simp [h]) (by omega) (by decide) hk

@[simp] theorem execLaneReceiverDetected_ends (l s) (h : [.lanes] ⊆ sc.parts) : Ends sc s (execLaneReceiverDetected l s) := by
  simp at h
  dsimp only [execLaneReceiverDetected]
  simp [h]

@[simp] theorem execLaneRetryTimer_ends (l s) (h : [.lanes] ⊆ sc.parts) : Ends sc s (execLaneRetryTimer l s) := by
  simp at h
  dsimp only [execLaneRetryTimer]
  simp [h]

@[simp] theorem execLockLost_ends (l s) (h : [.lanes, .board, .obs] ⊆ sc.parts) : Ends sc s (execLockLost l s) := by
  simp at h
  dsimp only [execLockLost]
  simp [h]

@[simp] theorem execNeighbourRefresh_ends (b s) (h : [.obj, .dram, .ecc, .board, .obs] ⊆ sc.parts) : Ends sc s (execNeighbourRefresh b s)
    := by
  simp at h
  dsimp only [execNeighbourRefresh]
  simp [h]

@[simp] theorem execActivateTableClear_ends (b s) (h : [.dram] ⊆ sc.parts) : Ends sc s (execActivateTableClear b s) := by
  simp at h
  dsimp only [execActivateTableClear]
  simp [h]

@[simp] theorem execRetire_ends (e v s) (h : [.outs, .obj, .dict, .dram, .ecc, .board, .obs] ⊆ sc.parts) (hk : sc.keys (objKey 0x6640 1))
    : Ends sc s (execRetire e v s) := by
  simp at h
  exact hostWrite_ends _ _ _ _ _ (by simp [h]) (by simp [h]) (by decide) (by decide) hk

@[simp] theorem execRetrain_ends (e v s) (h : [.outs, .obj, .dict, .dram, .ecc, .board, .obs] ⊆ sc.parts) (hk : sc.keys (objKey 0x6640 2))
    : Ends sc s (execRetrain e v s) := by
  simp at h
  exact hostWrite_ends _ _ _ _ _ (by simp [h]) (by simp [h]) (by decide) (by decide) hk

@[simp] theorem execSparesWrite_ends (e v c s) (h : [.outs, .obj, .dict, .dram, .ecc, .board, .obs] ⊆ sc.parts) (hk : sc.keys (objKey
    0x6601 1)) : Ends sc s (execSparesWrite e v c s) := by
  simp at h
  exact hostPaired_ends _ _ _ _ _ _ (by simp [h]) (by simp [h]) (by decide) (by decide) hk

@[simp] theorem execKeyUnwrapEfuse_ends (e slot wrap s) (h : [.outs, .freeCtr, .obj, .dict, .ecc, .crypt, .board, .obs] ⊆ sc.parts) (hk :
    sc.keys (objKey 0x6820 1)) : Ends sc s (execKeyUnwrapEfuse e slot wrap s) := by
  simp at h
  exact hostWrite_ends _ _ _ _ _ (by simp [h]) (by simp [h]) (by decide) (by decide) hk

@[simp] theorem execKeyUnwrapBbram_ends (e slot wrap s) (h : [.outs, .freeCtr, .obj, .dict, .ecc, .crypt, .board, .obs] ⊆ sc.parts) (hk :
    sc.keys (objKey 0x6820 1)) : Ends sc s (execKeyUnwrapBbram e slot wrap s) := by
  simp at h
  exact hostWrite_ends _ _ _ _ _ (by simp [h]) (by simp [h]) (by decide) (by decide) hk

@[simp] theorem execKeyGenerate_ends (e slot s) (h : [.outs, .freeCtr, .obj, .dict, .ecc, .crypt, .board, .obs] ⊆ sc.parts) (hk : sc.keys
    (objKey 0x6820 1)) : Ends sc s (execKeyGenerate e slot s) := by
  simp at h
  exact hostWrite_ends _ _ _ _ _ (by simp [h]) (by simp [h]) (by decide) (by decide) hk

@[simp] theorem execKeyClear_ends (e slot s) (h : [.outs, .freeCtr, .obj, .dict, .ecc, .crypt, .board, .obs] ⊆ sc.parts) (hk : sc.keys
    (objKey 0x6820 1)) : Ends sc s (execKeyClear e slot s) := by
  simp at h
  exact hostWrite_ends _ _ _ _ _ (by simp [h]) (by simp [h]) (by decide) (by decide) hk

@[simp] theorem execRegionEnable_ends (e r s) (h : [.outs, .freeCtr, .obj, .dict, .noc, .wale, .dram, .ecc, .crypt, .board, .obs] ⊆
    sc.parts) (hd : sc.dramBytes) (hx : sc.keys (objKey (0x6810 + r.val) 1)) (hk : sc.keys (objKey (0x6810 + r.val) 7)) : Ends sc s
    (execRegionEnable e r s) := by
  simp at h
  exact hostWrite_ends _ _ _ _ _ (by simp [h, hd, hx]) (by simp [h]) (by omega) (by decide) hk

@[simp] theorem execRegionEnableInitialise_ends (e r s) (h : [.outs, .freeCtr, .obj, .dict, .noc, .wale, .dram, .ecc, .crypt, .board,
    .obs] ⊆ sc.parts) (hd : sc.dramBytes) (hx : sc.keys (objKey (0x6810 + r.val) 1)) (hk : sc.keys (objKey (0x6810 + r.val) 7)) : Ends sc s
    (execRegionEnableInitialise e r s) := by
  simp at h
  exact hostWrite_ends _ _ _ _ _ (by simp [h, hd, hx]) (by simp [h]) (by omega) (by decide) hk

@[simp] theorem execRegionDisable_ends (e r s) (h : [.outs, .freeCtr, .obj, .dict, .noc, .wale, .dram, .ecc, .crypt, .board, .obs] ⊆
    sc.parts) (hd : sc.dramBytes) (hx : sc.keys (objKey (0x6810 + r.val) 1)) (hk : sc.keys (objKey (0x6810 + r.val) 7)) : Ends sc s
    (execRegionDisable e r s) := by
  simp at h
  exact hostWrite_ends _ _ _ _ _ (by simp [h, hd, hx]) (by simp [h]) (by omega) (by decide) hk

@[simp] theorem execSealParamWrite_ends (e param v c s) (h : [.outs, .obj, .dict, .pan, .ecc, .sealed, .board, .obs] ⊆ sc.parts) (hp :
    sc.panBytes) (hk : sc.keys (objKey 0x7024 0)) : Ends sc s (execSealParamWrite e param v c s) := by
  simp at h
  exact hostWrite_ends _ _ _ _ _ (by simp [h, hp]) (by simp [h]) (by decide) (by decide) hk

@[simp] theorem execSealKey_ends (e wrap s) (h : [.outs, .obj, .dict, .pan, .ecc, .sealed, .board, .obs] ⊆ sc.parts) (hp : sc.panBytes)
    (hk : sc.keys (objKey 0x7008 0)) : Ends sc s (execSealKey e wrap s) := by
  simp at h
  exact hostWrite_ends _ _ _ _ _ (by simp [h, hp]) (by simp [h]) (by decide) (by decide) hk

@[simp] theorem execSealProvision_ends (e ownerHash wrap s) (h : [.outs, .obj, .dict, .ecc, .sealed, .board, .obs] ⊆ sc.parts) (hk :
    sc.keys (objKey 0x7001 0)) : Ends sc s (execSealProvision e ownerHash wrap s) := by
  simp at h
  exact hostWrite_ends _ _ _ _ _ (by simp [h]) (by simp [h]) (by decide) (by decide) hk

@[simp] theorem execSealCommand_ends (e channel v s) (h : [.outs, .obj, .dict, .pan, .ecc, .sealed, .board, .obs] ⊆ sc.parts) (hp :
    sc.panBytes) (hk : sc.keys (objKey 0x7010 (0x31 + channel.val))) : Ends sc s (execSealCommand e channel v s) := by
  simp at h
  exact hostWrite_ends _ _ _ _ _ (by simp [h, hp]) (by simp [h]) (by decide) (by omega) hk

@[simp] theorem execWriteFrames_ends (s) (h : [.outs, .obj, .planes, .frames, .loader, .chain, .ecc, .lanes, .board, .obs] ⊆ sc.parts) :
    Ends sc s (execWriteFrames s) := by
  simp at h
  exact packetRow_ends _ _ _ (fun s st d => by simp [h]) (by simp [h])

@[simp] theorem execKeyRoll_ends (s) (h : [.outs, .obj, .planes, .loader, .chain, .ecc, .lanes, .board, .obs] ⊆ sc.parts) : Ends sc s
    (execKeyRoll s) := by
  simp at h
  exact packetRow_ends _ _ _ (fun s st d => by simp [h]) (by simp [h])

@[simp] theorem execEfuseKeyWrite_ends (e wrap s) (h : [.outs, .fuses, .obj, .dict, .ecc, .board, .obs] ⊆ sc.parts) (hk : sc.keys (objKey
    0x6160 2)) : Ends sc s (execEfuseKeyWrite e wrap s) := by
  simp at h
  exact hostWrite_ends _ _ _ _ _ (by simp [h]) (by simp [h]) (by decide) (by decide) hk

@[simp] theorem execBbramKeyWrite_ends (e wrap s) (h : [.outs, .fuses, .obj, .dict, .ecc, .board, .obs] ⊆ sc.parts) (hk : sc.keys (objKey
    0x6160 3)) : Ends sc s (execBbramKeyWrite e wrap s) := by
  simp at h
  exact hostWrite_ends _ _ _ _ _ (by simp [h]) (by simp [h]) (by decide) (by decide) hk

@[simp] theorem execBbramErase_ends (e v s) (h : [.outs, .fuses, .obj, .dict, .ecc, .board, .obs] ⊆ sc.parts) (hk : sc.keys (objKey 0x6160
    4)) : Ends sc s (execBbramErase e v s) := by
  simp at h
  exact hostWrite_ends _ _ _ _ _ (by simp [h]) (by simp [h]) (by decide) (by decide) hk

@[simp] theorem execFuseLockPlain_ends (e s) (h : [.outs, .fuses, .obj, .dict, .ecc, .board, .obs] ⊆ sc.parts) (hk : sc.keys (objKey
    0x6160 7)) : Ends sc s (execFuseLockPlain e s) := by
  simp at h
  exact hostWrite_ends _ _ _ _ _ (by simp [h]) (by simp [h]) (by decide) (by decide) hk

@[simp] theorem execFuseLockEfuseOnly_ends (e s) (h : [.outs, .fuses, .obj, .dict, .ecc, .board, .obs] ⊆ sc.parts) (hk : sc.keys (objKey
    0x6160 7)) : Ends sc s (execFuseLockEfuseOnly e s) := by
  simp at h
  exact hostWrite_ends _ _ _ _ _ (by simp [h]) (by simp [h]) (by decide) (by decide) hk

@[simp] theorem execOwnershipWrite_ends (e sector v c s) (h : [.outs, .obj, .dict, .ecc, .board, .obs] ⊆ sc.parts) (hk : sc.keys (objKey
    0x6150 (sector.val + 1))) : Ends sc s (execOwnershipWrite e sector v c s) := by
  simp at h
  exact hostPaired_ends _ _ _ _ _ _ (by simp [h]) (by simp [h]) (by decide) (by omega) hk

@[simp] theorem execOwnerKeyWrite_ends (e owner hash s) (h : [.outs, .obj, .dict, .ecc, .board, .obs] ⊆ sc.parts) (hk : sc.keys (objKey
    0x6151 (owner.val + 1))) : Ends sc s (execOwnerKeyWrite e owner hash s) := by
  simp at h
  exact hostWrite_ends _ _ _ _ _ (by simp [h]) (by simp [h]) (by decide) (by omega) hk

@[simp] theorem execAckAlarm_ends (e s) (h : [.outs, .obj, .dict, .ecc, .board, .obs] ⊆ sc.parts) (hk : sc.keys (objKey 0x6D62 0)) : Ends
    sc s (execAckAlarm e s) := by
  simp at h
  exact hostWrite_ends _ _ _ _ _ (by simp [h]) (by simp [h]) (by decide) (by decide) hk

@[simp] theorem execChronicleEnable_ends (e v s) (h : [.outs, .obj, .dict, .ecc, .board, .obs] ⊆ sc.parts) (hk : sc.keys (objKey 0x6D60
    1)) : Ends sc s (execChronicleEnable e v s) := by
  simp at h
  exact hostWrite_ends _ _ _ _ _ (by simp [h]) (by simp [h]) (by decide) (by decide) hk

@[simp] theorem execModeRun_ends (e s) (h : [.outs, .freeCtr, .obj, .dict, .clk, .fab, .edge, .planes, .stage, .grants, .teams, .cap,
    .loader, .boot, .chain, .noc, .wale, .pan, .dram, .ecc, .crypt, .banks, .pins, .lanes, .sealed, .power, .board, .test, .obs] ⊆ sc.parts)
    (hd : sc.dramBytes) (hp : sc.panBytes) (hx : ∀ n, sc.keys (objKey (0x6520 + n) 1)) (hk : sc.keys (objKey 0x6001 0)) : Ends sc s
    (execModeRun e s) := by
  simp at h
  exact hostWrite_ends _ _ _ _ _ (by simp [h, hd, hp, hx]) (by simp [h]) (by decide) (by decide) hk

@[simp] theorem execModeHold_ends (e s) (h : [.outs, .freeCtr, .obj, .dict, .clk, .fab, .edge, .planes, .stage, .grants, .teams, .cap,
    .loader, .boot, .chain, .noc, .wale, .pan, .dram, .ecc, .crypt, .banks, .pins, .lanes, .sealed, .power, .board, .test, .obs] ⊆ sc.parts)
    (hd : sc.dramBytes) (hp : sc.panBytes) (hx : ∀ n, sc.keys (objKey (0x6520 + n) 1)) (hk : sc.keys (objKey 0x6001 0)) : Ends sc s
    (execModeHold e s) := by
  simp at h
  exact hostWrite_ends _ _ _ _ _ (by simp [h, hd, hp, hx]) (by simp [h]) (by decide) (by decide) hk

@[simp] theorem execModeStable_ends (e s) (h : [.outs, .freeCtr, .obj, .dict, .clk, .fab, .edge, .planes, .stage, .grants, .teams, .cap,
    .loader, .boot, .chain, .noc, .wale, .pan, .dram, .ecc, .crypt, .banks, .pins, .lanes, .sealed, .power, .board, .test, .obs] ⊆ sc.parts)
    (hd : sc.dramBytes) (hp : sc.panBytes) (hx : ∀ n, sc.keys (objKey (0x6520 + n) 1)) (hk : sc.keys (objKey 0x6001 0)) : Ends sc s
    (execModeStable e s) := by
  simp at h
  exact hostWrite_ends _ _ _ _ _ (by simp [h, hd, hp, hx]) (by simp [h]) (by decide) (by decide) hk

@[simp] theorem execModeService_ends (e s) (h : [.outs, .freeCtr, .obj, .dict, .clk, .fab, .edge, .planes, .stage, .grants, .teams, .cap,
    .loader, .boot, .chain, .noc, .wale, .pan, .dram, .ecc, .crypt, .banks, .pins, .lanes, .sealed, .power, .board, .test, .obs] ⊆ sc.parts)
    (hd : sc.dramBytes) (hp : sc.panBytes) (hx : ∀ n, sc.keys (objKey (0x6520 + n) 1)) (hk : sc.keys (objKey 0x6001 0)) : Ends sc s
    (execModeService e s) := by
  simp at h
  exact hostWrite_ends _ _ _ _ _ (by simp [h, hd, hp, hx]) (by simp [h]) (by decide) (by decide) hk

@[simp] theorem execOrderlyStop_ends (e s) (h : [.outs, .freeCtr, .obj, .dict, .clk, .fab, .edge, .planes, .stage, .grants, .teams, .cap,
    .loader, .boot, .chain, .noc, .wale, .pan, .dram, .ecc, .crypt, .banks, .pins, .lanes, .sealed, .power, .board, .test, .obs] ⊆ sc.parts)
    (hd : sc.dramBytes) (hp : sc.panBytes) (hx : ∀ n, sc.keys (objKey (0x6520 + n) 1)) (hk : sc.keys (objKey 0x6001 0)) : Ends sc s
    (execOrderlyStop e s) := by
  simp at h
  exact hostWrite_ends _ _ _ _ _ (by simp [h, hd, hp, hx]) (by simp [h]) (by decide) (by decide) hk

@[simp] theorem execResume_ends (e s) (h : [.outs, .freeCtr, .obj, .dict, .clk, .fab, .edge, .planes, .stage, .grants, .teams, .cap,
    .loader, .boot, .chain, .noc, .wale, .pan, .dram, .ecc, .crypt, .banks, .pins, .lanes, .sealed, .power, .board, .test, .obs] ⊆ sc.parts)
    (hd : sc.dramBytes) (hp : sc.panBytes) (hx : ∀ n, sc.keys (objKey (0x6520 + n) 1)) (hk : sc.keys (objKey 0x6001 0)) : Ends sc s
    (execResume e s) := by
  simp at h
  exact hostWrite_ends _ _ _ _ _ (by simp [h, hd, hp, hx]) (by simp [h]) (by decide) (by decide) hk

@[simp] theorem execRestart_ends (e s) (h : [.outs, .freeCtr, .obj, .dict, .clk, .fab, .edge, .planes, .stage, .grants, .teams, .cap,
    .loader, .boot, .chain, .noc, .wale, .pan, .dram, .ecc, .crypt, .banks, .pins, .lanes, .sealed, .power, .board, .test, .obs] ⊆ sc.parts)
    (hd : sc.dramBytes) (hp : sc.panBytes) (hx : ∀ n, sc.keys (objKey (0x6520 + n) 1)) (hk : sc.keys (objKey 0x6001 0)) : Ends sc s
    (execRestart e s) := by
  simp at h
  exact hostWrite_ends _ _ _ _ _ (by simp [h, hd, hp, hx]) (by simp [h]) (by decide) (by decide) hk

@[simp] theorem execWakeN_ends (widthNs s) (h : [.obj, .clk, .fab, .grants, .teams, .cap, .noc, .wale, .pan, .dram, .banks, .lanes,
    .power, .board, .obs] ⊆ sc.parts) (hx : ∀ n, sc.keys (objKey (0x6520 + n) 1)) : Ends sc s (execWakeN widthNs s) := by
  simp at h
  dsimp only [execWakeN]
  simp [h, hx]

@[simp] theorem execWakeTime_ends (s) (h : [.obj, .clk, .fab, .grants, .teams, .cap, .noc, .wale, .pan, .dram, .banks, .lanes, .power,
    .board, .obs] ⊆ sc.parts) (hx : ∀ n, sc.keys (objKey (0x6520 + n) 1)) : Ends sc s (execWakeTime s) := by
  simp at h
  dsimp only [execWakeTime]
  simp [h, hx]

@[simp] theorem execGaitFloorWrite_ends (e v s) (h : [.outs, .obj, .dict, .grants, .teams, .cap, .ecc, .power, .board, .obs] ⊆ sc.parts)
    (hk : sc.keys (objKey 0x6B30 2)) : Ends sc s (execGaitFloorWrite e v s) := by
  simp at h
  exact hostWrite_ends _ _ _ _ _ (by simp [h]) (by simp [h]) (by decide) (by decide) hk

@[simp] theorem execOrderlyStopDrainStep_ends (s) (h : [.banks, .pins, .power, .board, .obs] ⊆ sc.parts) : Ends sc s
    (execOrderlyStopDrainStep s) := by
  simp at h
  dsimp only [execOrderlyStopDrainStep]
  simp [h]

@[simp] theorem execOrderlyStopFlush_ends (s) (h : [.outs, .freeCtr, .obj, .dict, .noc, .wale, .dram, .ecc, .crypt, .banks, .pins, .power,
    .board, .obs] ⊆ sc.parts) (hd : sc.dramBytes) : Ends sc s (execOrderlyStopFlush s) := by
  simp at h
  dsimp only [execOrderlyStopFlush]
  simp [h, hd]

@[simp] theorem execDelayLineStep_ends (line s) (h : [.test] ⊆ sc.parts) : Ends sc s (execDelayLineStep line s) := by
  simp at h
  dsimp only [execDelayLineStep]
  simp [h]

@[simp] theorem execSysrstNRelease_ends (s) (h : [.outs, .freeCtr, .obj, .clk, .fab, .edge, .planes, .stage, .grants, .teams, .cap,
    .loader, .boot, .chain, .noc, .wale, .pan, .dram, .ecc, .crypt, .banks, .pins, .lanes, .sealed, .power, .board, .test, .obs] ⊆ sc.parts)
    (hd : sc.dramBytes) (hp : sc.panBytes) : Ends sc s (execSysrstNRelease s) := by
  simp at h
  dsimp only [execSysrstNRelease]
  simp [h, hd, hp]

@[simp] theorem execClockLock_ends (s) (h : [.clk, .boot, .power, .board, .obs] ⊆ sc.parts) : Ends sc s (execClockLock s) := by
  simp at h
  refine (takeStep_links _ _ (fun s => ?_) (by simp [h])).moves
  have hdiv : Moves sc s ((List.range 8).foldl takeDivisor s) := by simp [h]
  generalize (List.range 8).foldl takeDivisor s = t at hdiv ⊢
  simp [h, hdiv]

@[simp] theorem execReleaseOutputs_ends (s) (h : [.boot, .banks, .power, .board, .obs] ⊆ sc.parts) : Ends sc s (execReleaseOutputs s) :=
    by
  simp at h
  dsimp only [execReleaseOutputs]
  simp [h]

@[simp] theorem execReleaseSetReset_ends (s) (h : [.boot, .power, .board, .obs] ⊆ sc.parts) : Ends sc s (execReleaseSetReset s) := by
  simp at h
  dsimp only [execReleaseSetReset]
  simp [h]

@[simp] theorem execEnableWrites_ends (s) (h : [.boot, .banks, .lanes, .power, .board, .obs] ⊆ sc.parts) : Ends sc s (execEnableWrites s)
    := by
  simp at h
  dsimp only [execEnableWrites]
  simp [h]

@[simp] theorem execStartupOrderWrite_ends (e data s) (h : [.outs, .obj, .dict, .ecc, .board, .obs] ⊆ sc.parts) (hk : sc.keys (objKey
    0x6110 1)) : Ends sc s (execStartupOrderWrite e data s) := by
  simp at h
  exact hostWrite_ends _ _ _ _ _ (by simp) (by simp [h]) (by decide) (by decide) hk

@[simp] theorem execHostFeedData_ends (e data s) (h : [.outs, .obj, .dict, .loader, .chain, .ecc, .lanes, .board, .obs] ⊆ sc.parts) (hk :
    sc.keys (objKey 0x6101 1)) : Ends sc s (execHostFeedData e data s) := by
  simp at h
  exact hostWrite_ends _ _ _ _ _ (by simp [h]) (by simp [h]) (by decide) (by decide) hk

@[simp] theorem execLibraryAreaWrite_ends (e size v s) (h : [.outs, .obj, .dict, .ecc, .board, .obs] ⊆ sc.parts) (hk : sc.keys (objKey
    0x6120 (if size then 2 else 1))) : Ends sc s (execLibraryAreaWrite e size v s) := by
  simp at h
  exact hostWrite_ends _ _ _ _ _ (by simp) (by simp [h]) (by decide) (by split <;> decide) hk

@[simp] theorem execWriteEntry_ends (e v s) (h : [.outs, .obj, .dict, .loader, .ecc, .board, .obs] ⊆ sc.parts) (hk : sc.keys (objKey
    0x6120 5)) : Ends sc s (execWriteEntry e v s) := by
  simp at h
  exact hostWrite_ends _ _ _ _ _ (by simp [h]) (by simp [h]) (by decide) (by decide) hk

@[simp] theorem execWriteData_ends (e data s) (h : [.outs, .freeCtr, .obj, .dict, .loader, .noc, .wale, .dram, .ecc, .crypt, .board, .obs]
    ⊆ sc.parts) (hd : sc.dramBytes) (hk : sc.keys (objKey 0x6120 6)) : Ends sc s (execWriteData e data s) := by
  simp at h
  exact hostWrite_ends _ _ _ _ _ (by simp [h, hd]) (by simp [h]) (by decide) (by decide) hk

@[simp] theorem execLoadEntry_ends (e v s) (h : [.outs, .obj, .dict, .loader, .ecc, .board, .obs] ⊆ sc.parts) (hk : sc.keys (objKey 0x6130
    1)) : Ends sc s (execLoadEntry e v s) := by
  simp at h
  exact hostWrite_ends _ _ _ _ _ (by simp [h]) (by simp [h]) (by decide) (by decide) hk

@[simp] theorem execCancelCurrent_ends (e s) (h : [.outs, .obj, .dict, .planes, .loader, .chain, .ecc, .lanes, .board, .obs] ⊆ sc.parts)
    (hk : sc.keys (objKey 0x6130 4)) : Ends sc s (execCancelCurrent e s) := by
  simp at h
  exact hostWrite_ends _ _ _ _ _ (by simp [h]) (by simp [h]) (by decide) (by decide) hk

@[simp] theorem execCancelAll_ends (e s) (h : [.outs, .obj, .dict, .planes, .loader, .chain, .ecc, .lanes, .board, .obs] ⊆ sc.parts) (hk :
    sc.keys (objKey 0x6130 4)) : Ends sc s (execCancelAll e s) := by
  simp at h
  exact hostWrite_ends _ _ _ _ _ (by simp [h]) (by simp [h]) (by decide) (by decide) hk

@[simp] theorem execChainDataTimeout_ends (s) (h : [.outs, .boot, .chain, .lanes, .board, .obs] ⊆ sc.parts) : Ends sc s
    (execChainDataTimeout s) := by
  simp at h
  dsimp only [execChainDataTimeout]
  simp [h]

@[simp] theorem execForceGo_ends (e v s) (h : [.outs, .freeCtr, .obj, .dict, .chain, .ecc, .lanes, .board, .obs] ⊆ sc.parts) (hk : sc.keys
    (objKey 0x6170 5)) : Ends sc s (execForceGo e v s) := by
  simp at h
  exact hostWrite_ends _ _ _ _ _ (by simp [h]) (by simp [h]) (by decide) (by decide) hk

@[simp] theorem execDelayReq_ends (f t1 s) (h : [.outs, .lanes] ⊆ sc.parts) : Ends sc s (execDelayReq f t1 s) := by
  simp at h
  dsimp only [execDelayReq]
  simp [h]

@[simp] theorem execClearCounts_ends (e v s) (h : [.outs, .obj, .dict, .dram, .ecc, .board, .obs] ⊆ sc.parts) (hk : sc.keys (objKey 0x6730
    1)) : Ends sc s (execClearCounts e v s) := by
  simp at h
  exact hostWrite_ends _ _ _ _ _ (by simp [h]) (by simp [h]) (by decide) (by decide) hk

@[simp] theorem execVerify_ends (e v s) (h : [.outs, .obj, .dict, .ecc, .board, .obs] ⊆ sc.parts) (hk : sc.keys (objKey 0x6730 2)) : Ends
    sc s (execVerify e v s) := by
  simp at h
  exact hostWrite_ends _ _ _ _ _ (by simp [h]) (by simp [h]) (by decide) (by decide) hk

@[simp] theorem execShift_ends (e v s) (h : [.outs, .obj, .dict, .ecc, .board, .test, .obs] ⊆ sc.parts) (hk : sc.keys (objKey 0x6302 1)) :
    Ends sc s (execShift e v s) := by
  simp at h
  exact hostWrite_ends _ _ _ _ _ (by simp [h]) (by simp [h]) (by decide) (by decide) hk

@[simp] theorem execTemperatureCalibration_ends (r s) (h : [.outs, .freeCtr, .obj, .clk, .fab, .edge, .planes, .stage, .grants, .teams,
    .cap, .loader, .chain, .noc, .wale, .dram, .ecc, .crypt, .banks, .pins, .lanes, .power, .board, .test, .obs] ⊆ sc.parts) (hd :
    sc.dramBytes) : Ends sc s (execTemperatureCalibration r s) := by
  simp at h
  dsimp only [execTemperatureCalibration]
  simp [h, hd]

@[simp] theorem execCalibrateNow_ends (e runs s) (h : [.outs, .freeCtr, .obj, .dict, .clk, .fab, .edge, .planes, .stage, .grants, .teams,
    .cap, .loader, .chain, .noc, .wale, .dram, .ecc, .crypt, .banks, .pins, .lanes, .power, .board, .test, .obs] ⊆ sc.parts) (hd :
    sc.dramBytes) (hk : sc.keys (objKey 0x6B40 2)) : Ends sc s (execCalibrateNow e runs s) := by
  simp at h
  exact hostWrite_ends _ _ _ _ _ (by simp [h, hd]) (by simp [h]) (by decide) (by decide) hk

@[simp] theorem execTestRunStart_ends (e s) (h : [.outs, .freeCtr, .obj, .dict, .fab, .edge, .planes, .frames, .cap, .noc, .wale, .pan,
    .dram, .ecc, .crypt, .board, .test, .obs] ⊆ sc.parts) (hd : sc.dramBytes) (hx : ∀ r, sc.keys (objKey (0x6810 + r) 1)) (hk : sc.keys
    (objKey 0x6C01 3)) : Ends sc s (execTestRunStart e s) := by
  simp at h
  exact hostWrite_ends _ _ _ _ _ (by simp [h, hd, hx]) (by simp [h]) (by decide) (by decide) hk

@[simp] theorem execJtagOpenWrite_ends (e v c s) (h : [.outs, .obj, .dict, .ecc, .board, .obs] ⊆ sc.parts) (hk : sc.keys (objKey 0x6C20
    1)) : Ends sc s (execJtagOpenWrite e v c s) := by
  simp at h
  exact hostPaired_ends _ _ _ _ _ _ (by simp [h]) (by simp [h]) (by decide) (by decide) hk

@[simp] theorem execLockCmd_ends (e v s) (h : [.outs, .fuses, .obj, .dict, .ecc, .board, .obs] ⊆ sc.parts) (hk : sc.keys (objKey 0x6C20
    3)) : Ends sc s (execLockCmd e v s) := by
  simp at h
  exact hostWrite_ends _ _ _ _ _ (by simp [h]) (by simp [h]) (by decide) (by decide) hk

@[simp] theorem execExtest_ends (cells s) (h : [.obj, .ecc, .board, .test, .obs] ⊆ sc.parts) : Ends sc s (execExtest cells s) := by
  simp at h
  dsimp only [execExtest]
  simp [h]

@[simp] theorem execIdcode_ends (s) (h : [.outs, .test] ⊆ sc.parts) : Ends sc s (execIdcode s) := by
  simp at h
  dsimp only [execIdcode]
  simp [h]

@[simp] theorem execExtestPulse_ends (l s) (h : [.outs, .obj, .ecc, .board, .test, .obs] ⊆ sc.parts) : Ends sc s (execExtestPulse l s) :=
    by
  simp at h
  dsimp only [execExtestPulse]
  simp [h]

@[simp] theorem execExtestTrain_ends (l s) (h : [.outs, .obj, .ecc, .board, .test, .obs] ⊆ sc.parts) : Ends sc s (execExtestTrain l s) :=
    by
  simp at h
  dsimp only [execExtestTrain]
  simp [h]

@[simp] theorem execBypass_ends (tdi s) (h : [.outs, .test] ⊆ sc.parts) : Ends sc s (execBypass tdi s) := by
  simp at h
  dsimp only [execBypass]
  simp [h]

@[simp] theorem execCounterConfigWrite_ends (e v s) (h : [.outs, .obj, .dict, .ecc, .board, .obs] ⊆ sc.parts) (hk : sc.keys (objKey 0x6D10
    3)) : Ends sc s (execCounterConfigWrite e v s) := by
  simp at h
  exact hostWrite_ends _ _ _ _ _ (by simp [h]) (by simp [h]) (by decide) (by decide) hk

@[simp] theorem execCounterClearSelected_ends (e s) (h : [.outs, .obj, .dict, .ecc, .board, .obs] ⊆ sc.parts) (hk : sc.keys (objKey 0x6D10
    5)) : Ends sc s (execCounterClearSelected e s) := by
  simp at h
  exact hostWrite_ends _ _ _ _ _ (by simp [h]) (by simp [h]) (by decide) (by decide) hk

@[simp] theorem execCounterClearAll_ends (e s) (h : [.outs, .obj, .dict, .ecc, .board, .obs] ⊆ sc.parts) (hk : sc.keys (objKey 0x6D10 5))
    : Ends sc s (execCounterClearAll e s) := by
  simp at h
  exact hostWrite_ends _ _ _ _ _ (by simp [h]) (by simp [h]) (by decide) (by decide) hk

@[simp] theorem execSnapshotNow_ends (e s) (h : [.outs, .obj, .dict, .ecc, .board, .obs] ⊆ sc.parts) (hk : sc.keys (objKey 0x6D22 4)) :
    Ends sc s (execSnapshotNow e s) := by
  simp at h
  exact hostWrite_ends _ _ _ _ _ (by simp [h]) (by simp [h]) (by decide) (by decide) hk

@[simp] theorem execSampleBufferClear_ends (e s) (h : [.outs, .obj, .dict, .ecc, .board, .obs] ⊆ sc.parts) (hk : sc.keys (objKey 0x6D30
    6)) : Ends sc s (execSampleBufferClear e s) := by
  simp at h
  exact hostWrite_ends _ _ _ _ _ (by simp [h]) (by simp [h]) (by decide) (by decide) hk

@[simp] theorem execMonitorStart_ends (e n s) (h : [.outs, .obj, .dict, .ecc, .board, .obs] ⊆ sc.parts) (hm : sc.monitors) (hk : sc.keys
    (objKey (0x6D40 + n.val) 5)) : Ends sc s (execMonitorStart e n s) := by
  simp at h
  exact hostWrite_ends _ _ _ _ _ (by simp [h, hm]) (by simp [h]) (by omega) (by decide) hk

@[simp] theorem execMonitorStop_ends (e n s) (h : [.outs, .obj, .dict, .ecc, .board, .obs] ⊆ sc.parts) (hm : sc.monitors) (hk : sc.keys
    (objKey (0x6D40 + n.val) 5)) : Ends sc s (execMonitorStop e n s) := by
  simp at h
  exact hostWrite_ends _ _ _ _ _ (by simp [h, hm]) (by simp [h]) (by omega) (by decide) hk

@[simp] theorem execMonitorClear_ends (e n s) (h : [.outs, .obj, .dict, .ecc, .board, .obs] ⊆ sc.parts) (hm : sc.monitors) (hk : sc.keys
    (objKey (0x6D40 + n.val) 5)) : Ends sc s (execMonitorClear e n s) := by
  simp at h
  exact hostWrite_ends _ _ _ _ _ (by simp [h, hm]) (by simp [h]) (by omega) (by decide) hk

@[simp] theorem execNocReadRequest_ends (k link tag err s) (h : [.outs, .obj, .dict, .fab, .grants, .teams, .noc, .wale, .pan, .ecc,
    .crypt, .banks, .pins, .sealed, .board, .obs] ⊆ sc.parts) (hp : sc.panBytes) : Ends sc s (execNocReadRequest k link tag err s) := by
  simp at h
  dsimp only [execNocReadRequest]
  simp [h, hp]

@[simp] theorem execNocWriteRequest_ends (k link tag err s) (h : [.outs, .obj, .dict, .fab, .grants, .teams, .noc, .wale, .pan, .ecc,
    .crypt, .banks, .pins, .sealed, .board, .obs] ⊆ sc.parts) (hp : sc.panBytes) : Ends sc s (execNocWriteRequest k link tag err s) := by
  simp at h
  dsimp only [execNocWriteRequest]
  simp [h, hp]

@[simp] theorem execNocReadResponse_ends (k link s) (h : [.outs, .freeCtr, .fab, .grants, .teams, .noc, .banks, .lanes, .board, .obs] ⊆
    sc.parts) : Ends sc s (execNocReadResponse k link s) := by
  simp at h
  dsimp only [execNocReadResponse]
  simp [h]

@[simp] theorem execNocWriteResponse_ends (k link s) (h : [.outs, .freeCtr, .fab, .grants, .teams, .noc, .banks, .lanes, .board, .obs] ⊆
    sc.parts) : Ends sc s (execNocWriteResponse k link s) := by
  simp at h
  dsimp only [execNocWriteResponse]
  simp [h]

@[simp] theorem execOpeningTimeout_ends (n s) (h : [.dict] ⊆ sc.parts) : Ends sc s (execOpeningTimeout n s) := by
  simp at h
  dsimp only [execOpeningTimeout]
  simp [h]

@[simp] theorem execClose_ends (e s) (h : [.outs, .obj, .dict, .ecc, .board, .obs] ⊆ sc.parts) : Ends sc s (execClose e s) := by
  simp at h
  dsimp only [execClose]
  simp [h]

@[simp] theorem execWrite_ends (e w s) (hf : sc.Full) : Ends sc s (execWrite e w s) := (anyWrite_links _ _ _ _ hf).moves

@[simp] theorem execPairedWrite_ends (e w s) (hf : sc.Full) : Ends sc s (execPairedWrite e w s) := (anyWrite_links _ _ _ _ hf).moves

@[simp] theorem execDictKeysWrite_ends (e key wrap s) (h : [.outs, .obj, .dict, .ecc, .board, .obs] ⊆ sc.parts) (hk : sc.keys (objKey
    0x1120 (key.val + 1))) : Ends sc s (execDictKeysWrite e key wrap s) := by
  simp at h
  refine (closeDue_links _ (by simp [h])).after (serveWrite_links _ _ _ _ (by simp [h]) (by simp [h]) ?_).moves
  simpa [wholeWrite, pairWrite, Nat.mod_eq_of_lt (show key.val + 1 < 256 by omega)] using hk

@[simp] theorem execDictLevelEnableWrite_ends (e v c s) (h : [.outs, .obj, .dict, .ecc, .board, .obs] ⊆ sc.parts)
    (hk : sc.keys (objKey 0x1110 0)) : Ends sc s (execDictLevelEnableWrite e v c s) := by
  simp at h
  exact (closeDue_links _ (by simp [h])).after (serveWrite_links _ _ _ _ (by simp [h]) (by simp [h]) (by simpa [pairWrite] using hk)).moves

@[simp] theorem execCanEnable_ends (e v s) (h : [.outs, .obj, .dict, .ecc, .board, .obs] ⊆ sc.parts) (hk : sc.keys (objKey 0x1040 1)) :
    Ends sc s (execCanEnable e v s) := by
  simp at h
  exact hostWrite_ends _ _ _ _ _ (by simp [h]) (by simp [h]) (by decide) (by decide) hk

end Sys2Proof.Machine
end

section
/-! PROOFS. What every step keeps: the canonical form of the memories, what is sent, the fuses and the queue. -/

namespace Sys2Proof.Machine
variable {sc : Scope}

/-- Every command is within the full scope. -/
theorem exec_full (hf : sc.Full) (c : Instr) (s : State) : Ends sc s (exec c s) := by
  have ⟨h, hk, hd, hp, hm⟩ := hf
  cases c <;> simp [exec, h, hk, hd, hp, hm, hf]

@[simp] theorem tick_links (s) (h : [.outs, .freeCtr, .clk, .fab, .grants, .teams, .cap, .noc, .wale, .pan, .ecc, .crypt, .time, .banks,
    .pins, .power, .board, .obs] ⊆ sc.parts) : Links sc s (tick s) :=
  Moves.links (by simp at h; dsimp only [tick]; simp [h])

/-- The scope of every part, every object and every byte. -/
def Scope.all : Scope where
  parts := [.pending, .outs, .freeCtr, .fuses, .obj, .dict, .clk, .fab, .edge, .planes, .frames, .stage, .grants, .teams, .cap, .loader,
    .boot, .chain, .noc, .wale, .pan, .dram, .ecc, .crypt, .time, .banks, .pins, .lanes, .sealed, .power, .board, .test, .obs]
  keys _ := True
  dramBytes := True
  panBytes := True
  monitors := True
  scrub := Iff.rfl

theorem Scope.all_full : Scope.all.Full := ⟨fun p => by cases p <;> decide, fun _ => trivial, trivial, trivial, trivial⟩

/-- The command at the front of the queue, taken from it, moves nothing else. -/
theorem moves_of_step {s t : State} (h : step s = .next t) : ∃ rest, Moves Scope.all { s with pending := rest } t := by
  unfold step at h
  split at h
  · have htick : Moves Scope.all s (tick s) := Links.moves (tick_links s (by simp [Scope.all]))
    rw [Host.Outcome.next.inj h] at htick
    exact ⟨s.pending, htick⟩
  · next c rest _ =>
    have hend := exec_full Scope.all_full c { s with pending := rest }
    rw [h] at hend
    exact ⟨rest, hend⟩

theorem bytesMove.wf {p : Prop} {m n : List Host.Cell} (h : bytesMove p m n) (hm : Memory.wf m = true) : Memory.wf n = true := by
  rcases h with rfl | ⟨-, h⟩
  · exact hm
  · exact h hm

/-- Settles O4: every operation changes a byte memory by Memory.put and write, by a filter or by clearing it. -/
theorem memoriesStayCanonical : Obligations.MemoriesStayCanonical := by
  intro s t hwf hstep
  obtain ⟨rest, hmoves⟩ := moves_of_step hstep
  exact ⟨hmoves.dramBytes.wf hwf.1, hmoves.panBytes.wf hwf.2⟩

/-- Settles O7: every operation keeps what is sent, and sends behind it. -/
theorem outputsOnlyGrow : Obligations.OutputsOnlyGrow := by
  intro s t hstep
  obtain ⟨rest, hmoves⟩ := moves_of_step hstep
  exact hmoves.outs.imp fun _ => Eq.symm

/-- Settles O9: every operation keeps the fuses that it does not blow. -/
theorem fusesStay : Obligations.FusesStay := by
  intro s t hstep
  obtain ⟨rest, hmoves⟩ := moves_of_step hstep
  exact (Fuses.kept_iff _ _).mp hmoves.fuses

/-- Settles O5. -/
theorem execKeepsQueue : Obligations.ExecKeepsQueue := by
  intro c s t h
  have hkeeps : Keeps s (exec c s) := exec_fixed c s
  rw [h] at hkeeps
  exact congrArg Prod.fst hkeeps

/-- Settles O1. -/
theorem stepRunsFrontCommand : Obligations.StepRunsFrontCommand := fun _ _ => rfl

/-- Settles O3. -/
theorem resetState : Obligations.ResetState :=
  ⟨rfl, rfl, rfl, rfl, fun _ _ => rfl, fun _ _ => rfl, rfl, rfl, rfl, rfl, rfl, rfl, rfl⟩
end Sys2Proof.Machine
end

section
/-! PROOFS. Frames, read off a command's scope. -/

namespace Sys2Proof.Machine

/-- The scope of a list of parts, of no object and of any byte and monitor. -/
def Scope.of (ps : List Part) : Scope where
  parts := ps
  keys _ := False
  dramBytes := True
  panBytes := True
  monitors := True
  scrub := Iff.rfl

/-- The scope of a list of parts and of any object, byte and monitor. -/
def Scope.wide (ps : List Part) : Scope where
  parts := ps
  keys _ := True
  dramBytes := True
  panBytes := True
  monitors := True
  scrub := Iff.rfl

/-- The scope of a write of one object, other than ECC_SCRUB's. -/
def Scope.writing (ps : List Part) (idx sub : Nat) (hi : idx ≠ 0x6700) (hs : sub < 256) : Scope where
  parts := ps
  keys k := k = objKey idx sub
  dramBytes := True
  panBytes := True
  monitors := True
  scrub := by
    have hne (i : Nat) (h : i < 256) : 0x6700 * 256 + i ≠ idx * 256 + sub := by omega
    exact iff_of_false (hne 1 (by decide)) (hne 2 (by decide))

/-- The scope of everything but the bytes of the memories. -/
def Scope.still : Scope where
  parts := Scope.all.parts
  keys _ := True
  monitors := True
  scrub := Iff.rfl

@[simp] theorem Scope.of_parts (ps : List Part) : (Scope.of ps).parts = ps := rfl
@[simp] theorem Scope.wide_parts (ps : List Part) : (Scope.wide ps).parts = ps := rfl
@[simp] theorem Scope.wide_keys (ps : List Part) (k : ObjKey) : (Scope.wide ps).keys k := trivial
@[simp] theorem Scope.writing_parts (ps : List Part) (idx sub hi hs) : (Scope.writing ps idx sub hi hs).parts = ps := rfl
@[simp] theorem Scope.still_parts (p : Part) : p ∈ Scope.still.parts := Scope.all_full.1 p

theorem objectSame_of_kept {m : Scope} {s t : State} {j : ObjKey} (h : m.kept s.obj t.obj j) : objectSame j s t := by
  rcases h with h | ⟨k, hk, -, hne, hcomp⟩
  · exact .inl h
  · have hkey : objKey (j / 256) (k % 256) = k := by rw [← hk]; exact Nat.div_add_mod' k 256
    refine .inr ⟨k % 256, ?_⟩
    simp only [State.pairOk, State.stored, hkey, Bool.or_eq_false_iff, decide_eq_false_iff_not]
    exact ⟨hne, hcomp⟩

theorem moves_of_ends {m : Scope} {s t : State} {r : Res} (h : Ends m s r) (ht : r = .next t) : Moves m s t := by
  rwa [ht] at h

theorem frame {ps : List Part} {s t : State} {r : Res} (h : Ends (.wide ps) s r) (ht : r = .next t) : changesOnly ps s t :=
  (moves_of_ends h ht).frame

theorem frame_objects {ps : List Part} {s t : State} {r : Res} (h : Ends (.of ps) s r) (ht : r = .next t) :
    changesOnly ps s t ∧ objectsSame s t :=
  ⟨(moves_of_ends h ht).frame, fun j => objectSame_of_kept (((moves_of_ends h ht).objects j).resolve_left id)⟩

theorem frame_write {ps : List Part} {idx sub : Nat} {s t : State} {r : Res} {hi hs} (h : Ends (.writing ps idx sub hi hs) s r)
    (ht : r = .next t) : changesOnly ps s t ∧ othersSame idx sub s t :=
  ⟨(moves_of_ends h ht).frame, fun j hj => objectSame_of_kept (((moves_of_ends h ht).objects j).resolve_left hj)⟩

theorem dram_still {s t : State} {r : Res} (h : Ends .still s r) (ht : r = .next t) : t.dram.mem = s.dram.mem :=
  (moves_of_ends h ht).dramBytes.resolve_right fun h => h.1

theorem pan_still {s t : State} {r : Res} (h : Ends .still s r) (ht : r = .next t) : t.pan.mem = s.pan.mem :=
  (moves_of_ends h ht).panBytes.resolve_right fun h => h.1

end Sys2Proof.Machine
end

section
/-! PROOFS. O49: a session that lapses answers what its taps hold, whoever asked. -/

namespace Sys2Proof.Machine

/-- The envelope of a frame of a session. -/
def sessionEnv (n : Byte) : Env := ⟨⟨0, 0⟩, 0, none, 0x445A, 1, n, 0, 0, 0, 0, 0, []⟩

/-- Sessions 0 and 1 open, session 0 for longer than its idle timeout, and a tap request that is booked for session 0 and carries the
envelope of session 1. -/
def crossedTap : State := { State.reset with
  clk.roots := 960000000000000
  dict.sessions := [(0, { phase := .opened }), (1, { phase := .opened, lastValid := 960000000000000 })]
  dict.taps := [⟨0, .session 0, some (sessionEnv 1), 0, 0, 0, 0, false, 0, 0, [], none, 0, none, 0⟩] }

/-- The state after an idle timeout of session 0, as its close gives it. -/
theorem idleTimeout_crossedTap : exec (.idleTimeout 0) crossedTap = .next (closeSession crossedTap 0 1) := by
  show execIdleTimeout 0 crossedTap = _
  exact if_pos (by decide +kernel)

/-- The answer to the tap request counts as one sent in session 1. -/
theorem txSeq_crossedTap : ((closeSession crossedTap 0 1).session 1).txSeq ≠ (crossedTap.session 1).txSeq := by decide +kernel

/-- Refutes O49: an idle timeout answers the tap requests booked for its session in the session of their envelopes, which State does not
bind to it. -/
theorem not_framesOfControlAndFabric : ¬ Obligations.FramesOfControlAndFabric := by
  unfold Obligations.FramesOfControlAndFabric
  rintro ⟨-, -, -, -, -, hidle, -⟩
  have hsession := (hidle 0 crossedTap _ idleTimeout_crossedTap).2 1 (by decide)
  exact txSeq_crossedTap (congrArg Session.txSeq hsession)

end Sys2Proof.Machine
end

section
/-! PROOFS. O50: frames of the stream, start-up, library and chain commands. -/

namespace Sys2Proof.Machine

/-- Settles O50: each clause is read off the scope of its command. -/
theorem framesOfLoadingAndChain : Obligations.FramesOfLoadingAndChain :=
  ⟨fun _ _ _ _ _ h => frame_objects (execStreamHeader_ends (h := by simp) (hd := trivial) ..) h,
   fun _ _ _ h => frame_objects (execChunkVerified_ends (h := by simp) (hd := trivial) ..) h,
   fun _ _ h => frame (execUnknownOpcode_ends (h := by simp) ..) h,
   fun _ _ h => frame_objects (execSelectPlane_ends (h := by simp) ..) h,
   fun _ _ h => frame_objects (execWriteFrames_ends (h := by simp) ..) h,
   fun _ _ h => frame_objects (execWriteFramesZr_ends (h := by simp) ..) h,
   fun _ _ h => frame_objects (execInitBlockmem_ends (h := by simp) ..) h,
   fun _ _ h => frame_objects (execInitState_ends (h := by simp) ..) h,
   fun _ _ h => frame (execSetTeam_ends (h := by simp) (hk := by simp) ..) h,
   fun _ _ h => frame_write (hi := by decide) (hs := by decide) (execSetStartupOrder_ends (h := by simp) (hk := rfl) ..) h,
   fun _ _ h => frame_objects (execCheckCrc_ends (h := by simp) ..) h,
   fun _ _ h => frame_objects (execKeyRoll_ends (h := by simp) ..) h,
   fun _ _ _ h => frame_objects (execForwardToChain_ends (h := by simp) ..) h,
   fun _ _ h => frame_objects (execMarkValid_ends (h := by simp) ..) h,
   fun _ _ h => frame (execEndPacket_ends (h := by simp) (hp := trivial) ..) h,
   fun _ _ _ h => frame (execTamperN_ends (h := by simp) ..) h,
   fun _ _ _ _ h => frame_write (hi := by decide) (hs := by decide) (execEfuseKeyWrite_ends (h := by simp) (hk := rfl) ..) h,
   fun _ _ _ _ h => frame_write (hi := by decide) (hs := by decide) (execBbramKeyWrite_ends (h := by simp) (hk := rfl) ..) h,
   fun _ _ _ _ h => frame_write (hi := by decide) (hs := by decide) (execBbramErase_ends (h := by simp) (hk := rfl) ..) h,
   fun _ _ _ h => frame_write (hi := by decide) (hs := by decide) (execFuseLockPlain_ends (h := by simp) (hk := rfl) ..) h,
   fun _ _ _ h => frame_write (hi := by decide) (hs := by decide) (execFuseLockEfuseOnly_ends (h := by simp) (hk := rfl) ..) h,
   fun _ _ _ _ _ h => frame_objects (execKeyProg_ends (h := by simp) ..) h,
   fun _ _ _ _ _ _ h => frame_write (hi := by decide) (hs := by omega) (execOwnershipWrite_ends (h := by simp) (hk := rfl) ..) h,
   fun _ _ _ _ _ h => frame_write (hi := by decide) (hs := by omega) (execOwnerKeyWrite_ends (h := by simp) (hk := rfl) ..) h,
   fun _ _ _ h => frame (execSysrstN_ends (h := by simp) ..) h,
   fun _ _ _ _ h => frame_objects (execFuseLoadDone_ends (h := by simp) (hd := trivial) ..) h,
   fun _ _ _ h => frame (execBistStart_ends (h := by simp) ..) h,
   fun _ _ _ h => frame (execBistWaitTick_ends (h := by simp) ..) h,
   fun _ _ _ _ h => frame_objects (execBistDone_ends (h := by simp) (hd := trivial) ..) h,
   fun _ _ h => frame_objects (execRepairDone_ends (h := by simp) (hd := trivial) (hp := trivial) ..) h,
   fun _ _ _ _ _ _ _ _ h => frame (execCalibrationDone_ends (h := by simp) (hd := trivial) (hp := trivial) (hk := by simp) ..) h,
   fun _ _ _ h => frame (execStartupVerifyDone_ends (h := by simp) (hd := trivial) (hm := trivial) (hk := by simp) ..) h,
   fun _ _ h => frame (execLoadPhaseEnd_ends (h := by simp) ..) h,
   fun _ _ h => frame (execActivation_ends (h := by simp) (hk := by simp) ..) h,
   fun _ _ h => frame (execClockLock_ends (h := by simp) ..) h,
   fun _ _ h => frame (execReleaseOutputs_ends (h := by simp) ..) h,
   fun _ _ h => frame (execReleaseSetReset_ends (h := by simp) ..) h,
   fun _ _ h => frame (execEnableWrites_ends (h := by simp) ..) h,
   fun _ _ _ _ h => frame_write (hi := by decide) (hs := by decide) (execHostFeedData_ends (h := by simp) (hk := rfl) ..) h,
   fun _ _ _ _ h => frame_write (hi := by decide) (hs := by decide) (execStartupOrderWrite_ends (h := by simp) (hk := rfl) ..) h,
   fun _ _ _ h => frame_objects (execLibraryCopy_ends (h := by simp) (hd := trivial) ..) h,
   fun _ _ _ h => frame (execLibraryCopyDone_ends (h := by simp) ..) h,
   fun _ _ _ _ _ h => frame_write (hi := by decide) (hs := by split <;> decide) (execLibraryAreaWrite_ends (h := by simp) (hk := rfl) ..) h,
   fun _ _ _ _ h => frame_write (hi := by decide) (hs := by decide) (execWriteEntry_ends (h := by simp) (hk := rfl) ..) h,
   fun _ _ _ _ h => frame_write (hi := by decide) (hs := by decide) (execWriteData_ends (h := by simp) (hd := trivial) (hk := rfl) ..) h,
   fun _ _ _ _ h => frame_write (hi := by decide) (hs := by decide) (execLoadEntry_ends (h := by simp) (hk := rfl) ..) h,
   fun _ _ h => frame (execLoadStart_ends (h := by simp) ..) h,
   fun _ _ _ h => frame_write (hi := by decide) (hs := by decide) (execCancelCurrent_ends (h := by simp) (hk := rfl) ..) h,
   fun _ _ _ h => frame_write (hi := by decide) (hs := by decide) (execCancelAll_ends (h := by simp) (hk := rfl) ..) h,
   fun _ _ _ _ h => frame (execPosition_ends (h := by simp) ..) h,
   fun _ _ _ _ h => frame (execStream_ends (h := by simp) ..) h,
   fun _ _ _ _ _ _ _ h => frame (execReport_ends (h := by simp) ..) h,
   fun _ _ h => frame (execReportTimeout_ends (h := by simp) ..) h,
   fun _ _ _ _ h => frame (execGo_ends (h := by simp) ..) h,
   fun _ _ _ _ h => frame_write (hi := by decide) (hs := by decide) (execForceGo_ends (h := by simp) (hk := rfl) ..) h,
   fun _ _ h => frame (execGoWaitTimeout_ends (h := by simp) ..) h,
   fun _ _ _ _ h => frame (execDelayReq_ends (h := by simp) ..) h,
   fun _ _ _ _ _ _ _ h => frame (execDelayResp_ends (h := by simp) ..) h,
   fun _ _ _ _ h => frame (execRemoteReq_ends (h := by simp) ..) h,
   fun _ _ _ _ h => frame (execRemoteResp_ends (h := by simp) (hp := trivial) ..) h,
   fun _ _ _ h => frame (execAck_ends (h := by simp) ..) h,
   fun _ _ _ h => frame (execHitchAckDue_ends (h := by simp) ..) h,
   fun _ _ _ h => frame (execHitchResend_ends (h := by simp) ..) h,
   fun _ _ h => frame (execRemoteRequestPush_ends (h := by simp) (hp := trivial) ..) h,
   fun _ _ _ h => frame (execRemoteTimeout_ends (h := by simp) (hp := trivial) ..) h,
   fun _ _ h => frame_objects (execSysrstNRelease_ends (h := by simp) (hd := trivial) (hp := trivial) ..) h,
   fun _ _ h => frame (execChainDataTimeout_ends (h := by simp) ..) h,
   fun _ _ _ _ h => frame (execVauxVinCoreReached_ends (h := by simp) ..) h⟩

end Sys2Proof.Machine
end

section
/-! PROOFS. A write of an object, seen on what the dictionary's engine does not touch. -/

namespace Sys2Proof.Machine
/-- A command's answer, where it is a state at all, agrees with the state before it on a view of it. -/
def Leaves {β : Type} (f : State → β) (s : State) : Res → Prop
  | .next t => f t = f s
  | _ => True

@[simp] theorem leaves_next {β : Type} {f : State → β} {s t : State} : Leaves f s (.next t) ↔ f t = f s := Iff.rfl

theorem leaves_ite {β : Type} {f : State → β} {s : State} {c : Prop} [Decidable c] {a b : Res} (ha : Leaves f s a) (hb : Leaves f s b) :
    Leaves f s (if c then a else b) := by
  split
  · exact ha
  · exact hb

theorem leaves_of {β : Type} {f : State → β} {s t : State} {r : Res} (h : Leaves f s r) (ht : r = .next t) : f t = f s := by
  rwa [ht] at h

/-! #### A write of an object, seen on a part that the dictionary's engine does not touch -/

/-- What the dictionary's engine itself may change in a write: its own parts, and objects, but no byte of a memory and no monitor. -/
def Scope.engine : Scope where
  parts := [.outs, .obj, .dict, .ecc, .board, .obs]
  keys _ := True
  scrub := Iff.rfl

@[simp] theorem Scope.engine_parts : .outs ∈ Scope.engine.parts ∧ .obj ∈ Scope.engine.parts ∧ .dict ∈ Scope.engine.parts ∧
    .ecc ∈ Scope.engine.parts ∧ .board ∈ Scope.engine.parts ∧ .obs ∈ Scope.engine.parts := by decide
@[simp] theorem Scope.engine_keys (k : ObjKey) : Scope.engine.keys k := trivial

/-- What an object's own part in a write leads to: from what holds before a write to what holds after it. -/
structure Action.Leads (P Q : State → Prop) (a : Action) : Prop where
  apply : ∀ s who old new, P s → Q (a.apply s who old new)
  late : ∀ s v n, Q s → Q (a.late s v n)

section
variable {P Q : State → Prop} {a : Action} (ha : a.Leads P Q) (hPQ : ∀ s, P s → Q s) (hP : ∀ s t, Moves .engine s t → P s → P t)
  (hQ : ∀ s t, Moves .engine s t → Q s → Q t)

include ha hP in
theorem applyWrite_leads {s : State} (who idx sub v) (hs : P s) (hn : P s → Q s) : Q (applyWrite s who idx sub v a) := by
  unfold applyWrite
  split
  · exact hn hs
  · exact ha.late _ _ _ (ha.apply _ _ _ _ (hP s _ (by simp) hs))

include ha hPQ hP

theorem dictWrite_leads {s : State} (who paired w) (hs : P s) : Q (dictWrite s who paired w a).1 := by
  unfold dictWrite
  split
  · dsimp only
    split
    · exact ha.late _ _ _ (hPQ _ (hP s _ (by simp) hs))
    · exact hPQ _ (hP s _ (by simp) hs)
  · exact applyWrite_leads ha hP _ _ _ _ hs (hPQ s)

theorem beginSegmented_leads {s : State} (n e w) (hs : P s) : Q (beginSegmented s n e w a).1 := by
  unfold beginSegmented
  split
  · dsimp only
    split
    · exact ha.late _ _ _ (hPQ s hs)
    · exact hPQ s hs
  · exact hPQ _ (hP s _ (by simp) hs)

include hQ

theorem serveWrite_leads {s : State} (e paired w) (hs : P s) : Q (serveWrite e paired w a s) := by
  have hreply {s : State} (svc p) (h : Q s) : Q (respond s svc e p) := hQ s _ (by simp) h
  fun_cases serveWrite e paired w a s
  all_goals have hr := hP _ _ (receive_moves (sc := .engine) (by simp) ‹_›) hs
  case case1 => exact hPQ _ hr
  case case2 => exact hreply _ _ (hPQ _ hr)
  case case3 => exact hreply _ _ (hPQ _ hr)
  case case4 => exact hreply _ _ (beginSegmented_leads ha hPQ hP _ _ _ hr)
  case case5 => exact hreply _ _ (dictWrite_leads ha hPQ hP _ _ _ hr)

/-- A write from a host leads to what its object's own part leads to. -/
theorem hostWrite_leads {e idx sub v s t} (h : hostWrite e idx sub v a s = .next t) (hs : P s) : Q t := by
  rw [← Host.Outcome.next.inj h]
  exact serveWrite_leads ha hPQ hP hQ _ _ _ hs

end

/-- What an object's own part in a write leaves on a view of the state. -/
structure Action.Leaves {β : Type} (f : State → β) (a : Action) : Prop where
  apply : ∀ s who old new, f (a.apply s who old new) = f s
  late : ∀ s v n, f (a.late s v n) = f s

/-- A write from a host leaves what its object's own part leaves, and the engine. -/
theorem hostWrite_view {β : Type} {f : State → β} {a : Action} (ha : a.Leaves f) (hf : ∀ s t, Moves .engine s t → f t = f s) {e idx sub v s t}
    (h : hostWrite e idx sub v a s = .next t) : f t = f s :=
  hostWrite_leads (P := fun t => f t = f s) (Q := fun t => f t = f s)
    ⟨fun u _ _ _ hu => (ha.apply u _ _ _).trans hu, fun u _ _ hu => (ha.late u _ _).trans hu⟩ (fun _ => id)
    (fun u t hm hu => (hf u t hm).trans hu) (fun u t hm hu => (hf u t hm).trans hu) h rfl

/-- A part that the dictionary's engine does not have. -/
theorem Moves.engine_same {s t : State} (h : Moves .engine s t) (p : Part) (hp : p ∉ [Part.outs, .obj, .dict, .ecc, .board, .obs]) : Part.same s t p :=
  h.frame p hp
end Sys2Proof.Machine
end

section
/-! PROOFS. The pannier's windows and bytes. -/

namespace Sys2Proof.Machine

/-! #### The windows' pointers -/

theorem updWindow_other (s : State) {n k : Nat} (h : k ≠ n) (f : Window → Window) : (updWindow s n f).window k = s.window k :=
  AMap.get_upd_other _ _ _ _ _ h

/-- A list of windows is as it was. -/
theorem window_of_pan {s t : State} (h : t.pan.windows = s.pan.windows) (k : Nat) : t.window k = s.window k := by
  unfold State.window
  rw [h]

@[simp] theorem event_window (s : State) (src code : Nat) (p : List Byte) (k : Nat) : (event s src code p).window k = s.window k :=
  window_of_pan (by simp) k


@[simp] theorem panPut_windows (s : State) (off : Nat) (b : Byte) : (panPut s off b).pan.windows = s.pan.windows := by
  unfold panPut setBankTest
  repeat' split
  all_goals rfl

@[simp] theorem panWrite_windows (place : Nat → Nat) (bs : List Byte) (i : Nat) (s : State) :
    (panWrite place i bs s).pan.windows = s.pan.windows := by
  induction bs generalizing i s with
  | nil => rfl
  | cons b bs ih => rw [panWrite, ih, panPut_windows]

@[simp] theorem windowServed_pan (s : State) (xs : List (Nat × Nat)) : (windowServed s xs).pan = s.pan :=
  (windowServed_links (sc := .quiet [.board, .obs]) s xs (by simp)).same .pan

@[simp] theorem windowServed_window (s : State) (xs : List (Nat × Nat)) (k : Nat) : (windowServed s xs).window k = s.window k :=
  window_of_pan (by simp) k

@[simp] theorem panWrite_window (place : Nat → Nat) (i : Nat) (bs : List Byte) (s : State) (k : Nat) :
    (panWrite place i bs s).window k = s.window k := window_of_pan (by simp) k

theorem windowOverflow_other (s : State) {n k : Nat} (h : k ≠ n) : (windowOverflow s n).window k = s.window k := by
  simp [windowOverflow, updWindow_other _ h]

theorem windowUnderflow_other (s : State) {n k : Nat} (len : Nat) (h : k ≠ n) : (windowUnderflow s n len).window k = s.window k := by
  simp [windowUnderflow, updWindow_other _ h]

theorem windowPush_other (s : State) {n k : Nat} (data : List Byte) (h : k ≠ n) : (windowPush s n data).1.window k = s.window k := by
  unfold windowPush
  dsimp only
  repeat' split
  all_goals simp [updWindow_other _ h, windowOverflow_other _ h]

theorem windowPop_other (s : State) {n k : Nat} (len : Nat) (h : k ≠ n) : (windowPop s n len .good).1.window k = s.window k := by
  unfold windowPop
  dsimp only [panErr]
  repeat' split
  all_goals simp [updWindow_other _ h, windowUnderflow_other _ _ h]

theorem windowRelease_other (s : State) {n k : Nat} (len : Nat) (h : k ≠ n) : (windowRelease s n len).1.window k = s.window k := by
  unfold windowRelease
  dsimp only
  repeat' split
  all_goals simp [updWindow_other _ h, windowUnderflow_other _ _ h]

/-- A command of a window answers its initiator, and leaves the window that its work leaves. -/
theorem window_of_answer {init : Byte} {r : WindowRes} {s t : State} {k : Nat} (ht : windowAnswer init r = .next t)
    (h : r.1.window k = s.window k) : t.window k = s.window k := by
  rw [← Host.Outcome.next.inj ht]
  exact h


/-- A part of the pannier that a write of an object does not reach: its windows. -/
theorem window_of_engine (k : Nat) (s t : State) (h : Moves .engine s t) : t.window k = s.window k :=
  window_of_pan (congrArg Pannier.windows (h.engine_same .pan (by decide))) k

theorem actWindowEnable_leaves {n k : Nat} (h : k ≠ n) : (actWindowEnable n).Leaves (·.window k) where
  apply s who old new := by
    dsimp only [actWindowEnable]
    split
    · exact updWindow_other s h _
    · rfl
  late _ _ _ := rfl

theorem execPanWindowEnable_other {e : Env} {n : Fin 16} {v : Byte} {s t : State} (h : exec (.panWindowEnable e n v) s = .next t) (k : Nat)
    (hk : k ≠ n.val) : t.window k = s.window k :=
  hostWrite_view (f := (·.window k)) (actWindowEnable_leaves hk) (window_of_engine k) h

/-! #### The bytes of the pannier -/

/-- Where a background test keeps an offset's byte depends on the tests' regions and states alone. -/
theorem shadowAt_congr {s t : State} (h : ∀ k, (bankTest t k).region = (bankTest s k).region ∧ (bankTest t k).testing = (bankTest s k).testing ∧
    (bankTest t k).failed = (bankTest s k).failed) (off : Nat) : shadowAt t off = shadowAt s off := by
  unfold shadowAt
  congr 1
  funext k
  obtain ⟨hr, ht, hf⟩ := h k
  simp only [hr, ht, hf]

@[simp] theorem shadowAt_panPut (s : State) (off : Nat) (b : Byte) (a : Nat) : shadowAt (panPut s off b) a = shadowAt s a := by
  refine shadowAt_congr (fun k => ?_) a
  unfold panPut
  split
  · next j i _ => cases j <;> cases k <;> exact ⟨rfl, rfl, rfl⟩
  · exact ⟨rfl, rfl, rfl⟩

/-- An offset that a test keeps lies in its region, at its place. -/
theorem shadowAt_some {s : State} {off : Nat} {k : Bool} {i : Nat} (h : shadowAt s off = some (k, i)) :
    i < 512 ∧ off = regionOff k (bankTest s k).region + i := by
  obtain ⟨j, -, hj⟩ := List.exists_of_findSome?_eq_some h
  simp only [Option.ite_none_right_eq_some, Option.some.injEq, Prod.mk.injEq] at hj
  obtain ⟨⟨-, hlo, hhi⟩, rfl, rfl⟩ := hj
  omega

theorem getD_setAt_other (l : List Byte) (i j : Nat) (b : Byte) (h : j ≠ i) : (setAt l i b).getD j 0 = l.getD j 0 := by
  induction l generalizing i j with
  | nil => rfl
  | cons x l ih => cases i <;> cases j <;> simp_all [setAt]

theorem getD_padTo (l : List Byte) {n i : Nat} (h : i < n) : (padTo l n).getD i 0 = l.getD i 0 := by
  simp only [padTo, List.getD_eq_getElem?_getD, List.getElem?_append, List.length_take, List.getElem?_take, List.getElem?_replicate]
  grind

/-- A byte of the pannier stored at one offset leaves the others. -/
theorem panByte_panPut_other (s : State) {off a : Nat} (b : Byte) (h : off ≠ a) : panByte (panPut s off b) a = panByte s a := by
  unfold panByte
  rw [shadowAt_panPut]
  cases ha : shadowAt s a with
  | none =>
    dsimp only
    unfold panPut
    split
    · next j i _ => cases j <;> rfl
    · exact Memory.byte_put_other _ _ _ _ h.symm
  | some p =>
    obtain ⟨k, i⟩ := p
    obtain ⟨hi, hat⟩ := shadowAt_some ha
    dsimp only
    unfold panPut
    split
    · next j l hl =>
      obtain ⟨hl, hoff⟩ := shadowAt_some hl
      by_cases hjk : j = k
      · subst hjk
        have hne : i ≠ l := by omega
        have hb (x : BankTest) : bankTest (setBankTest s j x) j = x := by cases j <;> rfl
        rw [hb, getD_setAt_other _ _ _ _ hne, getD_padTo _ hi]
      · have hb (x : BankTest) : bankTest (setBankTest s j x) k = bankTest s k := by
          revert hjk; cases j <;> cases k <;> simp [bankTest, setBankTest]
        rw [hb]
    · cases k <;> rfl

theorem panByte_panWrite_other (place : Nat → Nat) (bs : List Byte) (i : Nat) (s : State) {a : Nat} (h : ∀ j < bs.length, place (i + j) ≠ a) :
    panByte (panWrite place i bs s) a = panByte s a := by
  induction bs generalizing i s with
  | nil => rfl
  | cons b bs ih =>
    rw [panWrite, ih (i + 1) _ fun j hj => by simpa [Nat.add_assoc, Nat.add_comm 1] using h (j + 1) (by simpa using hj),
      panByte_panPut_other (off := place i) s b (h 0 (by simp))]

theorem mem_panPut_other (s : State) {off a : Nat} (b : Byte) (h : off ≠ a) :
    Memory.byte (panPut s off b).pan.mem a = Memory.byte s.pan.mem a := by
  unfold panPut
  split
  · next j i _ => cases j <;> rfl
  · exact Memory.byte_put_other _ _ _ _ h.symm

theorem mem_panWrite_other (place : Nat → Nat) (bs : List Byte) (i : Nat) (s : State) {a : Nat} (h : ∀ j < bs.length, place (i + j) ≠ a) :
    Memory.byte (panWrite place i bs s).pan.mem a = Memory.byte s.pan.mem a := by
  induction bs generalizing i s with
  | nil => rfl
  | cons b bs ih =>
    rw [panWrite, ih (i + 1) _ fun j hj => by simpa [Nat.add_assoc, Nat.add_comm 1] using h (j + 1) (by simpa using hj),
      mem_panPut_other (off := place i) s b (h 0 (by simp))]

theorem setBankTest_mem (s : State) (k : Bool) (x : BankTest) : (setBankTest s k x).pan.mem = s.pan.mem := by cases k <;> rfl

/-- Going on to the next region writes back what the region held, and no other byte. -/
theorem mem_nextRegion_other (s : State) (bank31 : Bool) {a : Nat}
    (h : ∀ i < (bankTest s bank31).shadow.length, regionOff bank31 (bankTest s bank31).region + i ≠ a) :
    Memory.byte (nextRegion s bank31).pan.mem a = Memory.byte s.pan.mem a := by
  have hback : Memory.byte (restoreRegion s bank31).pan.mem a = Memory.byte s.pan.mem a := by
    rw [restoreRegion, mem_panWrite_other _ _ _ _ (by simpa using h), setBankTest_mem]
  unfold nextRegion
  dsimp only
  split <;> simp only [event_pan, setBankTest_mem, hback]

theorem execBackgroundRegionTimeout_mem {bank31 : Bool} {s t : State} (h : exec (.backgroundRegionTimeout bank31) s = .next t) (a : Nat)
    (ha : ∀ i < (bankTest s bank31).shadow.length, regionOff bank31 (bankTest s bank31).region + i ≠ a) :
    Memory.byte t.pan.mem a = Memory.byte s.pan.mem a := by
  change execBackgroundRegionTimeout bank31 s = _ at h
  unfold execBackgroundRegionTimeout at h
  dsimp only at h
  split at h <;> cases h
  · rfl
  · rw [event_pan, mem_nextRegion_other s bank31 ha]

end Sys2Proof.Machine
end

section
/-! PROOFS. O51: frames of the network, mover, Wale and pannier commands. -/

namespace Sys2Proof.Machine

/-- Settles O51: each clause is read off the scope of its command, and a window of its own off its rule. -/
theorem framesOfNetworkAndCaches : Obligations.FramesOfNetworkAndCaches :=
  ⟨fun _ _ _ _ _ _ h => frame_objects (execNocReadRequest_ends (h := by simp) (hp := trivial) ..) h,
   fun _ _ _ _ _ _ h => frame_objects (execNocWriteRequest_ends (h := by simp) (hp := trivial) ..) h,
   fun _ _ _ _ h => frame (execNocReadResponse_ends (h := by simp) ..) h,
   fun _ _ _ _ h => frame (execNocWriteResponse_ends (h := by simp) ..) h,
   fun _ _ _ h => frame (execResponseTimeout_ends (h := by simp) ..) h,
   fun _ _ _ h => frame (execPacketPromotedUrgent_ends (h := by simp) ..) h,
   fun _ _ _ _ _ h => frame_write (hi := by decide) (hs := by omega) (execReservationWrite_ends (h := by simp) (hk := rfl) ..) h,
   fun _ _ _ h => frame (execReservationTakesEffect_ends (h := by simp) ..) h,
   fun _ _ _ _ _ h => frame (execMoverDoorbell_ends (h := by simp) ..) h,
   fun _ _ _ _ _ h => frame_write (hi := by decide) (hs := by decide) (execMoverStart_ends (h := by simp) (hk := rfl) ..) h,
   fun _ _ _ _ h => frame_write (hi := by decide) (hs := by decide) (execMoverStop_ends (h := by simp) (hk := rfl) ..) h,
   fun _ _ _ h => frame (execMoverStartTime_ends (h := by simp) ..) h,
   fun _ _ _ h => frame (execMoverDescriptorDone_ends (h := by simp) ..) h,
   fun _ _ _ h => frame_write (hi := by decide) (hs := by decide) (execStatClearSelected_ends (h := by simp) (hk := rfl) ..) h,
   fun _ _ _ h => frame_write (hi := by decide) (hs := by decide) (execStatClearAll_ends (h := by simp) (hk := rfl) ..) h,
   fun _ _ h => frame (execStatWindowEnd_ends (h := by simp) ..) h,
   fun _ _ _ h => frame (execLineFillDone_ends (h := by simp) ..) h,
   fun _ _ _ _ h => frame (execWriteBackAnswered_ends (h := by simp) ..) h,
   fun _ _ _ _ h => frame (execMaintenanceEntryTimeout_ends (h := by simp) ..) h,
   fun _ _ _ _ h => frame_write (hi := by decide) (hs := by decide) (execWaleFlush_ends (h := by simp) (hk := rfl) ..) h,
   fun _ _ _ _ h => frame_write (hi := by decide) (hs := by decide) (execWaleInvalidate_ends (h := by simp) (hk := rfl) ..) h,
   fun _ _ _ h => frame (execFlushDone_ends (h := by simp) ..) h,
   fun _ _ _ _ _ h => ⟨frame (execWindowPush_ends (h := by simp) (hp := trivial) ..) h, fun _ hk =>
     window_of_answer h (windowPush_other _ _ hk)⟩,
   fun _ _ _ _ _ h => ⟨frame (execWindowPop_ends (h := by simp) ..) h, fun _ hk =>
     window_of_answer h (windowPop_other _ _ hk), pan_still (execWindowPop_ends (h := by simp) ..) h⟩,
   fun _ _ _ _ _ h => ⟨frame (execWindowRelease_ends (h := by simp) ..) h, fun _ hk =>
     window_of_answer h (windowRelease_other _ _ hk), pan_still (execWindowRelease_ends (h := by simp) ..) h⟩,
   fun _ _ _ _ _ _ _ h => frame (execWindowIndexedAccess_ends (h := by simp) (hp := trivial) ..) h,
   fun _ _ _ _ h => frame (execWindowStatusRead_ends (h := by simp) ..) h,
   fun _ _ _ _ _ h =>
     and_assoc.1 ⟨frame_write (hi := by omega) (hs := by decide) (execPanWindowEnable_ends (h := by simp) (hk := rfl) ..) h,
     execPanWindowEnable_other h, pan_still (execPanWindowEnable_ends (h := by simp) (hk := trivial) ..) h⟩,
   fun _ _ _ _ h =>
     and_assoc.1 ⟨frame_write (hi := by decide) (hs := by decide) (execPanConflictClear_ends (h := by simp) (hk := rfl) ..) h,
     pan_still (execPanConflictClear_ends (h := by simp) (hk := trivial) ..) h⟩,
   fun _ _ _ _ h => frame (execBackgroundTestRegion_ends (h := by simp) (hp := trivial) ..) h,
   fun _ _ _ h => ⟨frame (execBackgroundRegionTimeout_ends (h := by simp) (hp := trivial) ..) h, execBackgroundRegionTimeout_mem h⟩,
   fun _ _ _ h => frame (execBankClearingDone_ends (h := by simp) (hp := trivial) ..) h⟩

end Sys2Proof.Machine
end

section
/-! PROOFS. The DRAM's channels and the regions. -/

namespace Sys2Proof.Machine

/-! #### The channels of the DRAM and the regions -/

theorem chan_of_dram {s t : State} (h : t.dram.chans = s.dram.chans) (k : Nat) : t.chan k = s.chan k := by
  unfold State.chan
  rw [h]

@[simp] theorem event_chan (s : State) (src code : Nat) (p : List Byte) (k : Nat) : (event s src code p).chan k = s.chan k :=
  chan_of_dram (by simp) k

@[simp] theorem counted_chan (s : State) (src sel v n : Nat) (k : Nat) : (counted s src sel v n).chan k = s.chan k :=
  chan_of_dram (by simp) k

section
variable {ch k : Nat} (hk : k ≠ ch)
include hk

theorem updChan_other (s : State) (f : Channel → Channel) : (s.updChan ch f).chan k = s.chan k :=
  AMap.get_upd_other _ _ _ _ _ hk

theorem settleRet_other (s : State) : (settleRet s ch).chan k = s.chan k := by
  unfold settleRet
  dsimp only
  split <;> simp [updChan_other hk]

theorem setRet_other (s : State) (r : RetCopy) : (setRet s ch r).chan k = s.chan k := updChan_other hk s _

omit hk in
theorem retireEvents_chan (s : State) (c r cause withSpare : Nat) : (retireEvents s c r cause withSpare).chan k = s.chan k := by
  simp only [retireEvents, event_chan]
  rfl

theorem retireRank_other (s : State) (r cause : Nat) : (retireRank s ch r cause).chan k = s.chan k := by
  unfold retireRank
  dsimp only
  repeat' split
  all_goals simp [retireEvents_chan, updChan_other hk, setRet_other hk, settleRet_other hk]

theorem repairLanes_other (s : State) (pc : Nat) (failing : List Nat) : (repairLanes s ch pc failing).chan k = s.chan k := by
  unfold repairLanes
  simp only [apply_ite (fun s : State => s.chan k), event_chan, updChan_other hk]
  have hfold {f : State × Nat → Nat → State × Nat} (hf : ∀ acc l, (f acc l).1.chan k = acc.1.chan k) (l : List Nat) (acc : State × Nat) :
      (l.foldl f acc).1.chan k = acc.1.chan k := by
    induction l generalizing acc with
    | nil => rfl
    | cons x l ih => rw [List.foldl_cons, ih, hf]
  rw [hfold fun acc l => by rw [event_chan, updChan_other hk], ite_self]

end

theorem execRequestUrgent_other {channel : Fin 32} {write : Bool} {i : Nat} {s t : State}
    (h : exec (.requestUrgent channel write i) s = .next t) (k : Nat) (hk : k ≠ channel.val) : t.chan k = s.chan k := by
  change execRequestUrgent channel write i s = _ at h
  unfold execRequestUrgent at h
  dsimp only at h
  repeat' split at h
  all_goals cases h
  all_goals simp [updChan_other hk]

theorem execRetrainBurst_other {channel : Fin 32} {pcB : Bool} {failing : List (Fin 36)} {s t : State}
    (h : exec (.retrainBurst channel pcB failing) s = .next t) (k : Nat) (hk : k ≠ channel.val) : t.chan k = s.chan k := by
  refine leaves_of (f := fun s => s.chan k) (?_ : Leaves _ s (execRetrainBurst channel pcB failing s)) h
  unfold execRetrainBurst
  refine leaves_ite rfl ?_
  simp only [leaves_next, apply_ite (fun s : State => s.chan k), updChan_other hk, repairLanes_other hk, ite_self]

theorem execCaParityError_other {channel : Fin 32} {rank : Fin 4} {s t : State} (h : exec (.caParityError channel rank) s = .next t) (k : Nat)
    (hk : k ≠ channel.val) : t.chan k = s.chan k := by
  refine leaves_of (f := fun s => s.chan k) (?_ : Leaves _ s (execCaParityError channel rank s)) h
  unfold execCaParityError
  refine leaves_ite rfl ?_
  simp only [leaves_next, apply_ite (fun s : State => s.chan k), retireRank_other hk, event_chan, updChan_other hk, ite_self]

theorem execMigrationLineTimeout_other {channel : Fin 32} {s t : State} (h : exec (.migrationLineTimeout channel) s = .next t) (k : Nat)
    (hk : k ≠ channel.val) : t.chan k = s.chan k := by
  refine leaves_of (f := fun s => s.chan k) (?_ : Leaves _ s (execMigrationLineTimeout channel s)) h
  unfold execMigrationLineTimeout
  split
  · rfl
  · simp only [leaves_next, apply_ite (fun s : State => s.chan k), updChan_other hk, ite_self]

theorem execScrubPassLate_other {channel : Fin 32} {s t : State} (h : exec (.scrubPassLate channel) s = .next t) (k : Nat)
    (hk : k ≠ channel.val) : t.chan k = s.chan k := by
  have huse : (useScrub s).chan k = s.chan k :=
    chan_of_dram (congrArg Dram.chans ((useScrub_links (sc := .engine) s (by simp)).moves.engine_same .dram (by decide))) k
  refine leaves_of (f := fun s => s.chan k) (?_ : Leaves _ s (execScrubPassLate channel s)) h
  unfold execScrubPassLate
  dsimp only
  split
  · exact huse
  · rw [leaves_next, event_chan, updChan_other hk, huse]

/-- What a region's command writes, and its enable with it where it disables the region. -/
def Scope.regionOff (r : Fin 16) : Scope where
  parts := Scope.all.parts
  keys k := k = objKey (0x6810 + r.val) 7 ∨ k = objKey (0x6810 + r.val) 1
  dramBytes := True
  panBytes := True
  monitors := True
  scrub := by
    have hne (i j : Nat) (hi : i < 256) (hj : j < 256) : 0x6700 * 256 + i ≠ (0x6810 + r.val) * 256 + j := by omega
    exact iff_of_false (not_or.mpr ⟨hne _ _ (by decide) (by decide), hne _ _ (by decide) (by decide)⟩)
      (not_or.mpr ⟨hne _ _ (by decide) (by decide), hne _ _ (by decide) (by decide)⟩)

@[simp] theorem Scope.regionOff_parts (r : Fin 16) (p : Part) : p ∈ (Scope.regionOff r).parts := Scope.all_full.1 p

/-- Disabling a region writes its command and its enable, and no other object. -/
theorem execRegionDisable_objects {e : Env} {r : Fin 16} {s t : State} (h : exec (.regionDisable e r) s = .next t) (j : ObjKey)
    (h7 : j ≠ objKey (0x6810 + r.val) 7) (h1 : j ≠ objKey (0x6810 + r.val) 1) : objectSame j s t := by
  have hm := moves_of_ends (execRegionDisable_ends (sc := .regionOff r) e r s (by simp) trivial (.inr rfl) (.inl rfl)) h
  exact objectSame_of_kept ((hm.objects j).resolve_left (not_or.mpr ⟨h7, h1⟩))

theorem execRegionInitialised_other {r : Fin 16} {s t : State} (h : exec (.regionInitialised r) s = .next t) (k : Nat)
    (hk : k ≠ r.val) : t.region k = s.region k := by
  have hcrypt : (initNodes (initLines s r.val) r.val).crypt = s.crypt :=
    ((initNodes_links (sc := .of [.obj, .dram, .ecc, .board, .obs]) _ _ (by simp) trivial).after
      (initLines_links s r.val (by simp) trivial).moves).frame .crypt (by decide)
  change execRegionInitialised r s = _ at h
  unfold execRegionInitialised at h
  dsimp only at h
  split at h <;> rw [← Host.Outcome.next.inj h]
  simp only [State.region, event_crypt, initRegion, State.updRegion, hcrypt]
  exact AMap.get_upd_other _ _ _ _ _ hk

/-- An object's own part in a write matters at the value written alone. -/
theorem hostWrite_apply_congr {e : Env} {idx sub : Nat} {v : List Byte} {a b : Action} {r : ObjRow} {s : State} (hi : idx < 65536)
    (hs : sub < 256) (hr : rowOf idx sub = some r) (hm : r.mask = 0) (hc : a.clean v = v) (hb : b = { a with apply := b.apply })
    (hv : ∀ s who old, b.apply s who old v = a.apply s who old v) : hostWrite e idx sub v a s = hostWrite e idx sub v b s := by
  have happly (s who) : applyWrite s who idx sub v b = applyWrite s who idx sub v a := by
    have hc' : b.clean v = v := by rw [hb]; exact hc
    have hstores : b.stores = a.stores := by rw [hb]
    have hlate : b.late = a.late := by rw [hb]
    simp only [applyWrite, hr, storedForm_whole hm hc, storedForm_whole hm hc', hv, hstores, hlate]
  have hi' : (wholeWrite idx sub v).index.toNat = idx := by simp [wholeWrite, Nat.mod_eq_of_lt hi]
  have hs' : (wholeWrite idx sub v).sub.toNat = sub := by simp [wholeWrite, Nat.mod_eq_of_lt hs]
  have hdict (s who) : dictWrite s who false (wholeWrite idx sub v) b = dictWrite s who false (wholeWrite idx sub v) a := by
    have hcheck : writeCheck s who false false (wholeWrite idx sub v) b = writeCheck s who false false (wholeWrite idx sub v) a := by
      rw [hb]; rfl
    have hlate : b.late = a.late := by rw [hb]
    simp only [dictWrite, hcheck, hi', hs', hlate]
    split
    · rfl
    · exact congrArg (·, 0) (happly s who)
  have hbegin (s n) : beginSegmented s n e (wholeWrite idx sub v) b = beginSegmented s n e (wholeWrite idx sub v) a := by
    rw [hb]; rfl
  simp only [hostWrite, serveWrite, hdict, hbegin]

/-- What a region's command does where it is 1 or 2, the commands that enable it. -/
def actRegionEnable (r : Nat) : Action := { actRegion r with apply := fun s _ _ v => enableRegion s r (leNat v) }

theorem actRegionEnable_within {sc : Scope} (r) (h : [.freeCtr, .obj, .noc, .wale, .dram, .ecc, .crypt, .board, .obs] ⊆ sc.parts)
    (hd : sc.dramBytes) : (actRegionEnable r).Within sc := by
  simp at h
  exact ⟨fun s _ _ _ => by simp [h, hd, actRegionEnable], fun s _ _ => by simp [actRegionEnable, actRegion]⟩

/-- A command that enables a region writes no other object. -/
theorem regionEnable_frame {e : Env} {r : Fin 16} {b : Byte} {s t : State} (hb : leNat [b] ≠ 3)
    (h : hostWrite e (0x6810 + r.val) 7 [b] (actRegion r.val) s = .next t) :
    changesOnly [.outs, .freeCtr, .obj, .dict, .noc, .wale, .dram, .ecc, .crypt, .board, .obs] s t ∧ othersSame (0x6810 + r.val) 7 s t := by
  have hr := r.isLt
  have happly (s who old) : (actRegionEnable r.val).apply s who old [b] = (actRegion r.val).apply s who old [b] := by
    simp only [actRegion, actRegionEnable, if_neg hb]
  have hsame : hostWrite e (0x6810 + r.val) 7 [b] (actRegion r.val) s = hostWrite e (0x6810 + r.val) 7 [b] (actRegionEnable r.val) s :=
    hostWrite_apply_congr (by omega) (by decide) (row_regionDisable r) rfl rfl (by simp only [actRegionEnable]) happly
  have hends := hostWrite_ends (sc := .writing [.outs, .freeCtr, .obj, .dict, .noc, .wale, .dram, .ecc, .crypt, .board, .obs]
    (0x6810 + r.val) 7 (by omega) (by decide)) e _ _ [b] s (actRegionEnable_within r.val (by simp) trivial) (by simp) (by omega)
    (by decide) rfl
  rw [hsame] at h
  exact frame_write hends h

theorem migrationCopy_frame {channel : Fin 32} {symbols : Nat} {s t : State} (h : exec (.migrationCopy channel symbols) s = .next t) :
    changesOnly [.freeCtr, .obj, .wale, .dram, .ecc, .board, .obs] s t ∧ objectsSame s t :=
  frame_objects (execMigrationCopy_ends (h := by simp) (hd := trivial) channel symbols s) h

end Sys2Proof.Machine
end

section
/-! PROOFS. O52: frames of the DRAM, integrity, key and region commands. -/

namespace Sys2Proof.Machine

/-- Settles O52: each clause is read off the scope of its command, and a channel or region of its own off its rule. -/
theorem framesOfMemory : Obligations.FramesOfMemory :=
  ⟨fun _ _ _ h => ⟨frame (execDramRequest_ends (h := by simp) ..) h, dram_still (execDramRequest_ends (h := by simp) ..) h⟩,
   fun _ _ _ _ _ _ h => frame_objects (execDramCommandSlot_ends (h := by simp) (hd := trivial) ..) h,
   fun _ _ _ _ _ h => ⟨frame (execRequestUrgent_ends (h := by simp) ..) h, execRequestUrgent_other h,
     dram_still (execRequestUrgent_ends (h := by simp) ..) h⟩,
   fun _ _ _ h => ⟨frame (execRefreshInterval_ends (h := by simp) ..) h, dram_still (execRefreshInterval_ends (h := by simp) ..) h⟩,
   fun _ _ _ h => and_assoc.1 ⟨frame_objects (execNeighbourRefresh_ends (h := by simp) ..) h,
     dram_still (execNeighbourRefresh_ends (h := by simp) ..) h⟩,
   fun _ _ _ h => ⟨frame (execActivateTableClear_ends (h := by simp) ..) h, dram_still (execActivateTableClear_ends (h := by simp) ..) h⟩,
   fun _ _ _ _ _ h => ⟨frame (execRetrainBurst_ends (h := by simp) ..) h, execRetrainBurst_other h,
     dram_still (execRetrainBurst_ends (h := by simp) ..) h⟩,
   fun _ _ _ _ h => ⟨frame (execCaParityError_ends (h := by simp) ..) h, execCaParityError_other h,
     dram_still (execCaParityError_ends (h := by simp) ..) h⟩,
   fun _ _ _ h => ⟨frame (execMigrationLineTimeout_ends (h := by simp) ..) h, execMigrationLineTimeout_other h,
     dram_still (execMigrationLineTimeout_ends (h := by simp) ..) h⟩,
   fun _ _ _ _ h => and_assoc.1 ⟨frame_write (hi := by decide) (hs := by decide) (execRetire_ends (h := by simp) (hk := rfl) ..) h,
     dram_still (execRetire_ends (h := by simp) (hk := trivial) ..) h⟩,
   fun _ _ _ _ h => and_assoc.1 ⟨frame_write (hi := by decide) (hs := by decide) (execRetrain_ends (h := by simp) (hk := rfl) ..) h,
     dram_still (execRetrain_ends (h := by simp) (hk := trivial) ..) h⟩,
   fun _ _ _ _ _ h => and_assoc.1 ⟨frame_write (hi := by decide) (hs := by decide) (execSparesWrite_ends (h := by simp) (hk := rfl) ..) h,
     dram_still (execSparesWrite_ends (h := by simp) (hk := trivial) ..) h⟩,
   fun _ _ _ _ _ _ h => frame_objects (execScrubRead_ends (h := by simp) (hd := trivial) ..) h,
   fun _ _ _ h => ⟨frame (execScrubWritebackTimeout_ends (h := by simp) ..) h,
     dram_still (execScrubWritebackTimeout_ends (h := by simp) ..) h⟩,
   fun _ _ _ h => and_assoc.1 ⟨frame_objects (execScrubPassLate_ends (h := by simp) ..) h, execScrubPassLate_other h,
     dram_still (execScrubPassLate_ends (h := by simp) ..) h⟩,
   fun _ _ _ h => frame (execComplementCheck_ends (h := by simp) (hp := trivial) (hk := by simp) ..) h,
   fun _ _ _ _ h => and_assoc.1 ⟨frame_write (hi := by decide) (hs := by decide) (execClearCounts_ends (h := by simp) (hk := rfl) ..) h,
     dram_still (execClearCounts_ends (h := by simp) (hk := trivial) ..) h⟩,
   fun _ _ _ _ h => frame_write (hi := by decide) (hs := by decide) (execVerify_ends (h := by simp) (hk := rfl) ..) h,
   fun _ _ h => frame (execVerifyRound_ends (h := by simp) ..) h,
   fun _ _ _ h => frame (execVerifySectorPlaneDone_ends (h := by simp) ..) h,
   fun _ _ _ _ _ h => frame_write (hi := by decide) (hs := by decide) (execKeyUnwrapEfuse_ends (h := by simp) (hk := rfl) ..) h,
   fun _ _ _ _ _ h => frame_write (hi := by decide) (hs := by decide) (execKeyUnwrapBbram_ends (h := by simp) (hk := rfl) ..) h,
   fun _ _ _ _ h => frame_write (hi := by decide) (hs := by decide) (execKeyGenerate_ends (h := by simp) (hk := rfl) ..) h,
   fun _ _ _ _ h => frame_write (hi := by decide) (hs := by decide) (execKeyClear_ends (h := by simp) (hk := rfl) ..) h,
   fun _ _ _ _ h => regionEnable_frame (b := 1) (by decide) h,
   fun _ _ _ _ h => regionEnable_frame (b := 2) (by decide) h,
   fun _ _ _ _ h => ⟨frame (execRegionDisable_ends (h := by simp) (hd := trivial) (hk := by simp) (hx := by simp) ..) h,
     execRegionDisable_objects h⟩,
   fun _ _ _ h => and_assoc.1 ⟨frame_objects (execRegionInitialised_ends (h := by simp) (hd := trivial) ..) h,
     execRegionInitialised_other h⟩,
   fun _ _ _ _ h => migrationCopy_frame h⟩

end Sys2Proof.Machine
end

section
/-! PROOFS. The I/O banks and the lanes. -/

namespace Sys2Proof.Machine

/-! #### The I/O banks -/

theorem bank_of_banks {s t : State} (h : t.banks = s.banks) (k : Nat) : t.bank k = s.bank k := by
  unfold State.bank
  rw [h]

theorem bank_of_engine (k : Nat) (s t : State) (h : Moves .engine s t) : t.bank k = s.bank k :=
  bank_of_banks (h.engine_same .banks (by decide)) k

@[simp] theorem event_bank (s : State) (src code : Nat) (p : List Byte) (k : Nat) : (event s src code p).bank k = s.bank k :=
  bank_of_banks (by simp) k

@[simp] theorem counted_bank (s : State) (src sel v n : Nat) (k : Nat) : (counted s src sel v n).bank k = s.bank k :=
  bank_of_banks (by simp) k

@[simp] theorem compEvent_bank (s : State) (idx sub k : Nat) : (compEvent s idx sub).bank k = s.bank k :=
  bank_of_banks ((compEvent_links s idx sub (by simp)).same (ps := [.ecc, .board, .obs]) .banks) k

@[simp] theorem resetObj_bank (s : State) (idx sub k : Nat) : (s.resetObj idx sub).bank k = s.bank k := rfl

@[simp] theorem updPin_bank (s : State) (b pin k : Nat) (f : Pin → Pin) : (updPin s b pin f).bank k = s.bank k := rfl

@[simp] theorem drew_bank (s : State) (n k : Nat) : (s.drew n).bank k = s.bank k := rfl

@[simp] theorem drivePin_bank (s : State) (b pin action at_ k : Nat) : (drivePin s b pin action at_).bank k = s.bank k := by
  simp only [drivePin, updPin_bank, apply_ite (fun s : State => s.bank k), drew_bank, ite_self]

@[simp] theorem safePin_bank (b : Nat) (zpin : Option Nat) (s : State) (pin k : Nat) : (safePin b zpin s pin).bank k = s.bank k := by
  simp only [safePin, apply_ite (fun s : State => s.bank k), updPin_bank, ite_self]

@[simp] theorem request_bank (s : State) (kind init addr len cls : Nat) (data : List Byte) (use : TxnUse) (gt : Bool) (k : Nat) :
    (request s kind init addr len cls data use gt).bank k = s.bank k :=
  bank_of_banks ((request_links s kind init addr len cls data use gt (by simp)).same (ps := [.noc, .board, .obs]) .banks) k

theorem windowPop_bank (s : State) (n len : Nat) (err : MemErr) (k : Nat) : (windowPop s n len err).1.bank k = s.bank k :=
  bank_of_banks ((windowPop_links (sc := .of [.pan, .ecc, .sealed, .board, .obs]) s n len err (by simp) trivial).moves.frame .banks (by decide)) k

@[simp] theorem pollFailed_bank (s : State) (b addr status k : Nat) : (pollFailed s b addr status).bank k = s.bank k := event_bank ..

section
variable {b k : Nat} (hk : k ≠ b)
include hk

theorem updBank_other (s : State) (f : IoBank → IoBank) : (updBank s b f).bank k = s.bank k := AMap.get_upd_other _ _ _ _ _ hk

theorem startBank_other (s : State) : (startBank s b).bank k = s.bank k := by
  simp only [startBank, apply_ite (fun s : State => s.bank k), event_bank, updBank_other hk, ite_self]

theorem applySafe_other (s : State) (cause : Nat) (zpin : Option Nat) : (applySafe s b cause zpin).bank k = s.bank k := by
  simp only [applySafe, apply_ite (fun s : State => s.bank k), event_bank, updBank_other hk, ite_self,
    foldl_keeps (fun s : State => s.bank k) fun s pin => safePin_bank b zpin s pin k]

theorem usePin_other (s : State) (pin : Nat) : (usePin s b pin).bank k = s.bank k := by
  simp only [usePin, pinFallback, apply_ite (fun s : State => s.bank k), compEvent_bank, resetObj_bank, applySafe_other hk, ite_self]

theorem dropEdge_other (s : State) (pin : Nat) : (dropEdge s b pin).bank k = s.bank k := by
  simp only [dropEdge, event_bank, updBank_other hk]

theorem drain_other (s : State) : (drain s b).bank k = s.bank k := by
  simp only [drain, request_bank, updBank_other hk]

theorem takeSlot_other (s : State) (slot : List Byte) : (takeSlot b s slot).bank k = s.bank k := by
  simp only [takeSlot, apply_ite (fun s : State => s.bank k), event_bank, updBank_other hk, ite_self]

theorem dropHead_other (s : State) : (dropHead s b).bank k = s.bank k := updBank_other hk s _

theorem runEntry_other (s : State) (e : IoEntry) (at_ : Nat) : (runEntry s b e at_).bank k = s.bank k := by
  simp only [runEntry, apply_ite (fun s : State => s.bank k), counted_bank, updPin_bank, drivePin_bank, updBank_other hk, ite_self]

theorem runBatch_other (cyc fuel : Nat) (used : List Nat) (s : State) : (runBatch b cyc fuel used s).bank k = s.bank k := by
  induction fuel generalizing used s with
  | zero => rfl
  | succ fuel ih =>
    rw [runBatch]
    split
    · rfl
    · simp only [apply_ite (fun s : State => s.bank k), ih, runEntry_other hk, dropHead_other hk, ite_self]

theorem actBank_leaves : (actBank b).Leaves fun s => s.bank k where
  apply s who old new := by
    simp only [actBank, apply_ite (fun s : State => s.bank k), startBank_other hk, applySafe_other hk, ite_self]
  late _ _ _ := rfl

end

theorem execInputEdge_other {b : Fin 8} {pin : Fin 48} {rising : Bool} {time : U64} {fraction : Byte} {s t : State} (h : exec (.inputEdge b pin rising time fraction) s = .next t) (k : Nat) (hk : k ≠ b.val) :
    t.bank k = s.bank k := by
  refine leaves_of (f := fun s => s.bank k) (?_ : Leaves _ s (execInputEdge b pin rising time fraction s)) h
  unfold execInputEdge
  dsimp only
  refine leaves_ite (usePin_other hk s _) ?_
  simp only [leaves_next, apply_ite (fun s : State => s.bank k), ite_self, dropEdge_other hk, updBank_other hk, counted_bank, updPin_bank, usePin_other hk]

theorem execInputDrain_other {b : Fin 8} {s t : State} (h : exec (.inputDrain b) s = .next t) (k : Nat) (hk : k ≠ b.val) :
    t.bank k = s.bank k := by
  refine leaves_of (f := fun s => s.bank k) (?_ : Leaves _ s (execInputDrain b s)) h
  unfold execInputDrain
  simp only [leaves_next, apply_ite (fun s : State => s.bank k), drain_other hk, ite_self]

theorem execDrainRetry_other {b : Fin 8} {s t : State} (h : exec (.drainRetry b) s = .next t) (k : Nat) (hk : k ≠ b.val) :
    t.bank k = s.bank k := by
  refine leaves_of (f := fun s => s.bank k) (?_ : Leaves _ s (execDrainRetry b s)) h
  unfold execDrainRetry
  simp only [leaves_next, apply_ite (fun s : State => s.bank k), drain_other hk, ite_self]

theorem execOutputPoll_other {b : Fin 8} {s t : State} (h : exec (.outputPoll b) s = .next t) (k : Nat) (hk : k ≠ b.val) :
    t.bank k = s.bank k := by
  refine leaves_of (f := fun s => s.bank k) (?_ : Leaves _ s (execOutputPoll b s)) h
  unfold execOutputPoll
  refine leaves_ite rfl (leaves_ite ?_ (leaves_ite ?_ ?_))
  · rw [leaves_next, pollFailed_bank, updBank_other hk]
  · exact updBank_other hk s _
  · have hslots (r : WindowRes) (l : List Nat) : (l.foldl (fun s i => takeSlot b.val s (bytesAt r.2.2 (16 * i) 16)) r.1).bank k = r.1.bank k :=
      foldl_keeps (fun s : State => s.bank k) (fun s _ => takeSlot_other hk s _) l r.1
    simp only [leaves_next, apply_ite (fun s : State => s.bank k), pollFailed_bank, hslots, windowPop_bank, updBank_other hk, ite_self]

theorem execOutputEntryExecute_other {b : Fin 8} {s t : State} (h : exec (.outputEntryExecute b) s = .next t) (k : Nat) (hk : k ≠ b.val) :
    t.bank k = s.bank k := by
  refine leaves_of (f := fun s => s.bank k) (?_ : Leaves _ s (execOutputEntryExecute b s)) h
  unfold execOutputEntryExecute
  have huse (q : List IoEntry) :
      (match q with
      | e :: _ => usePin s b.val (entryPin e)
      | [] => s).bank k = s.bank k := by
    cases q with
    | nil => rfl
    | cons e q => exact usePin_other hk s _
  dsimp only
  split
  · exact huse _
  · refine leaves_ite (huse _) (leaves_ite (leaves_ite ?_ ?_) ?_)
    all_goals
      simp only [leaves_next, event_bank, counted_bank, runBatch_other hk, runEntry_other hk, updBank_other hk, dropHead_other hk]
      exact huse _

theorem execReturnTimer_other {b : Fin 8} {pin : Fin 48} {s t : State} (h : exec (.returnTimer b pin) s = .next t) (k : Nat) (hk : k ≠ b.val) :
    t.bank k = s.bank k := by
  refine leaves_of (f := fun s => s.bank k) (?_ : Leaves _ s (execReturnTimer b pin s)) h
  unfold execReturnTimer
  dsimp only
  split
  · exact usePin_other hk s _
  · refine leaves_ite (usePin_other hk s _) ?_
    simp only [leaves_next, apply_ite (fun s : State => s.bank k), drivePin_bank, updPin_bank, usePin_other hk, ite_self]

theorem execIoBankStart_other {e : Env} {b : Fin 8} {s t : State} (h : exec (.ioBankStart e b) s = .next t) (k : Nat) (hk : k ≠ b.val) :
    t.bank k = s.bank k :=
  hostWrite_view (f := fun s => s.bank k) (actBank_leaves hk) (bank_of_engine k) h

theorem execIoBankStop_other {e : Env} {b : Fin 8} {s t : State} (h : exec (.ioBankStop e b) s = .next t) (k : Nat) (hk : k ≠ b.val) :
    t.bank k = s.bank k :=
  hostWrite_view (f := fun s => s.bank k) (actBank_leaves hk) (bank_of_engine k) h

/-! #### The lanes -/

theorem lane_of_lanes {s t : State} (h : t.lanes.lanes = s.lanes.lanes) (k : Nat) : t.lane k = s.lane k := by
  unfold State.lane
  rw [h]

theorem lane_of_engine (k : Nat) (s t : State) (h : Moves .engine s t) : t.lane k = s.lane k :=
  lane_of_lanes (congrArg Lanes.lanes (h.engine_same .lanes (by decide))) k

@[simp] theorem event_lane (s : State) (src code : Nat) (p : List Byte) (k : Nat) : (event s src code p).lane k = s.lane k :=
  lane_of_lanes (by simp) k

@[simp] theorem counted_lane (s : State) (src sel v n : Nat) (k : Nat) : (counted s src sel v n).lane k = s.lane k :=
  lane_of_lanes (by simp) k

@[simp] theorem emit_lane (s : State) (o : Out) (k : Nat) : (s.emit o).lane k = s.lane k := rfl

@[simp] theorem updLink_lane (s : State) (up : Bool) (f : Hitch → Hitch) (k : Nat) : (s.updLink up f).lane k = s.lane k := by
  cases up <;> rfl

@[simp] theorem request_lane (s : State) (kind init addr len cls : Nat) (data : List Byte) (use : TxnUse) (gt : Bool) (k : Nat) :
    (request s kind init addr len cls data use gt).lane k = s.lane k :=
  lane_of_lanes (congrArg Lanes.lanes
    ((request_links s kind init addr len cls data use gt (by simp)).same (ps := [.noc, .board, .obs]) .lanes)) k

theorem windowPop_lane (s : State) (n len : Nat) (err : MemErr) (k : Nat) : (windowPop s n len err).1.lane k = s.lane k :=
  lane_of_lanes (congrArg Lanes.lanes
    ((windowPop_links (sc := .of [.pan, .ecc, .sealed, .board, .obs]) s n len err (by simp) trivial).moves.frame .lanes (by decide))) k

theorem pumpLink_lane (up : Bool) (fuel : Nat) (s : State) (k : Nat) : (pumpLink up fuel s).lane k = s.lane k := by
  induction fuel generalizing s with
  | zero => rfl
  | succ fuel ih =>
    rw [pumpLink]
    dsimp only
    repeat' split
    all_goals simp [ih]

@[simp] theorem pump_lane (s : State) (up : Bool) (k : Nat) : (pump s up).lane k = s.lane k := pumpLink_lane ..

@[simp] theorem hitchSend_lane (s : State) (up : Bool) (type dst : Nat) (p : List Byte) (k : Nat) :
    (hitchSend s up type dst p).lane k = s.lane k := by
  simp only [hitchSend, pump_lane, updLink_lane]

@[simp] theorem sendPosition_lane (s : State) (k : Nat) : (sendPosition s).lane k = s.lane k := by
  have hnote (s : State) (d : Nat) : (noteDevice s d).lane k = s.lane k := by
    unfold noteDevice
    split <;> rfl
  simp only [sendPosition, apply_ite (fun s : State => s.lane k), event_lane, hnote, hitchSend_lane, ite_self]

@[simp] theorem linkUp_lane (s : State) (up : Bool) (k : Nat) : (linkUp s up).lane k = s.lane k := by
  simp only [linkUp, apply_ite (fun s : State => s.lane k), pump_lane, updLink_lane, sendPosition_lane, ite_self,
    foldl_keeps (fun s : State => s.lane k) fun s _ => hitchSend_lane s false 5 0xFF (u64 s.tai) k]

@[simp] theorem sendRecords_lane (n fuel : Nat) (bs : List Byte) (s : State) (k : Nat) : (sendRecords n fuel bs s).lane k = s.lane k := by
  induction fuel generalizing bs s with
  | zero => rfl
  | succ fuel ih =>
    rw [sendRecords]
    split
    · rfl
    · rw [ih, emit_lane]

section
variable {n k : Nat} (hk : k ≠ n)
include hk

theorem updLane_other (s : State) (f : Lane → Lane) : (updLane s n f).lane k = s.lane k := AMap.get_upd_other _ _ _ _ _ hk

theorem beginLane_other (s : State) : (beginLane s n).lane k = s.lane k := updLane_other hk s _

theorem stopLane_other (s : State) (cause : Nat) : (stopLane s n cause).lane k = s.lane k := by
  simp only [stopLane, apply_ite (fun s : State => s.lane k), event_lane, updLane_other hk, ite_self]

theorem failLane_other (s : State) (step reason : Nat) : (failLane s n step reason).lane k = s.lane k := by
  simp only [failLane, event_lane, updLane_other hk]

theorem stepFailed_other (s : State) (failed reached : Nat) : (stepFailed s n failed reached).lane k = s.lane k := by
  simp only [stepFailed, event_lane, updLane_other hk]

theorem afterStep_other (s : State) : (afterStep s n).lane k = s.lane k := by
  unfold afterStep
  split <;> exact updLane_other hk s _

theorem putMarker_other (s : State) (kind count : Nat) (content : List Byte) : (putMarker s n kind count content).lane k = s.lane k := by
  simp only [putMarker, apply_ite (fun s : State => s.lane k), counted_lane, updLane_other hk, ite_self]

theorem marker_other (s : State) (kind count : Nat) (content : List Byte) : (marker s n kind count content).lane k = s.lane k := by
  unfold marker
  split
  · rfl
  · refine (putMarker_other hk _ kind count content).trans ?_
    split
    · rw [putMarker_other hk, updLane_other hk]
    · rfl

theorem rxData_other (s : State) (bs : List Byte) : (rxData s n bs).lane k = s.lane k := by
  simp only [rxData, apply_ite (fun s : State => s.lane k), counted_lane, marker_other hk, updLane_other hk, ite_self]

theorem rxUnit_other (s : State) (u : RxUnit) : (rxUnit n s u).lane k = s.lane k := by
  cases u with
  | data bs => exact rxData_other hk s bs
  | kchars cs =>
    rw [rxUnit, rxKchars]
    have hstep (s : State) (p : List Byte) : (marker s n 1 p.length p).lane k = s.lane k := marker_other hk s 1 p.length p
    exact foldl_keeps (fun s : State => s.lane k) hstep _ s
  | control kind content =>
    rw [rxUnit]
    split
    · rw [counted_lane, updLane_other hk]
    · exact marker_other hk s _ _ _
  | idle => rfl

theorem pushData_other (s : State) : (pushData s n).lane k = s.lane k := by
  simp only [pushData, apply_ite (fun s : State => s.lane k), request_lane, updLane_other hk, ite_self]

theorem pushMarks_other (s : State) : (pushMarks s n).lane k = s.lane k := by
  simp only [pushMarks, apply_ite (fun s : State => s.lane k), request_lane, updLane_other hk, ite_self]

theorem loseLock_other (s : State) : (loseLock s n).lane k = s.lane k := by
  simp only [loseLock, apply_ite (fun s : State => s.lane k), updLink_lane, marker_other hk, event_lane, updLane_other hk, ite_self]

theorem actLane_leaves : (actLane n).Leaves fun s => s.lane k where
  apply s who old new := by
    simp only [actLane, apply_ite (fun s : State => s.lane k), beginLane_other hk, stopLane_other hk, ite_self]
  late _ _ _ := rfl

end

theorem execLaneStart_other {e : Env} {n : Fin 48} {s t : State} (h : exec (.laneStart e n) s = .next t) (k : Nat) (hk : k ≠ n.val) :
    t.lane k = s.lane k :=
  hostWrite_view (f := fun s => s.lane k) (actLane_leaves hk) (lane_of_engine k) h

theorem execLaneStop_other {e : Env} {n : Fin 48} {s t : State} (h : exec (.laneStop e n) s = .next t) (k : Nat) (hk : k ≠ n.val) :
    t.lane k = s.lane k :=
  hostWrite_view (f := fun s => s.lane k) (actLane_leaves hk) (lane_of_engine k) h

theorem execLaneReceiverDetected_other {l : LaneId} {s t : State} (h : exec (.laneReceiverDetected l) s = .next t) (k : Nat) (hk : k ≠ laneKey l) :
    t.lane k = s.lane k := by
  refine leaves_of (f := fun s => s.lane k) (?_ : Leaves _ s (execLaneReceiverDetected l s)) h
  unfold execLaneReceiverDetected
  simp only [leaves_next, apply_ite (fun s : State => s.lane k), updLane_other hk, ite_self]

theorem execLaneLocked_other {l : LaneId} {fom : Nat} {s t : State} (h : exec (.laneLocked l fom) s = .next t) (k : Nat) (hk : k ≠ laneKey l) :
    t.lane k = s.lane k := by
  refine leaves_of (f := fun s => s.lane k) (?_ : Leaves _ s (execLaneLocked l fom s)) h
  unfold execLaneLocked
  dsimp only
  refine leaves_ite rfl ?_
  repeat' refine leaves_ite ?_ ?_
  all_goals simp only [leaves_next, apply_ite (fun s : State => s.lane k), marker_other hk, afterStep_other hk, updLane_other hk, ite_self]

theorem execLaneTs2Received_other {l : LaneId} {maxRate : Byte} {hitch : Bool} {pre post : Byte} {s t : State} (h : exec (.laneTs2Received l maxRate hitch pre post) s = .next t) (k : Nat) (hk : k ≠ laneKey l) :
    t.lane k = s.lane k := by
  refine leaves_of (f := fun s => s.lane k) (?_ : Leaves _ s (execLaneTs2Received l maxRate hitch pre post s)) h
  unfold execLaneTs2Received
  refine leaves_ite rfl ?_
  simp only [leaves_next, apply_ite (fun s : State => s.lane k), failLane_other hk, afterStep_other hk, updLane_other hk, ite_self]

theorem execLaneStep_other {l : LaneId} {s t : State} (h : exec (.laneStep l) s = .next t) (k : Nat) (hk : k ≠ laneKey l) :
    t.lane k = s.lane k := by
  refine leaves_of (f := fun s => s.lane k) (?_ : Leaves _ s (execLaneStep l s)) h
  unfold execLaneStep
  dsimp only
  split
  · rfl
  · simp only [leaves_next, apply_ite (fun s : State => s.lane k), updLane_other hk, ite_self]

theorem execLaneActive_other {l : LaneId} {slow : Bool} {s t : State} (h : exec (.laneActive l slow) s = .next t) (k : Nat) (hk : k ≠ laneKey l) :
    t.lane k = s.lane k := by
  refine leaves_of (f := fun s => s.lane k) (?_ : Leaves _ s (execLaneActive l slow s)) h
  unfold execLaneActive
  refine leaves_ite rfl ?_
  simp only [leaves_next, apply_ite (fun s : State => s.lane k), linkUp_lane, event_lane, updLane_other hk, ite_self]

theorem execLaneBringupLimit_other {l : LaneId} {s t : State} (h : exec (.laneBringupLimit l) s = .next t) (k : Nat) (hk : k ≠ laneKey l) :
    t.lane k = s.lane k := by
  refine leaves_of (f := fun s => s.lane k) (?_ : Leaves _ s (execLaneBringupLimit l s)) h
  unfold execLaneBringupLimit
  simp only [leaves_next, apply_ite (fun s : State => s.lane k), failLane_other hk, stepFailed_other hk, updLane_other hk, ite_self]

theorem execLaneRetryTimer_other {l : LaneId} {s t : State} (h : exec (.laneRetryTimer l) s = .next t) (k : Nat) (hk : k ≠ laneKey l) :
    t.lane k = s.lane k := by
  refine leaves_of (f := fun s => s.lane k) (?_ : Leaves _ s (execLaneRetryTimer l s)) h
  unfold execLaneRetryTimer
  simp only [leaves_next, apply_ite (fun s : State => s.lane k), beginLane_other hk, ite_self]

theorem execLockLost_other {l : LaneId} {s t : State} (h : exec (.lockLost l) s = .next t) (k : Nat) (hk : k ≠ laneKey l) :
    t.lane k = s.lane k := by
  refine leaves_of (f := fun s => s.lane k) (?_ : Leaves _ s (execLockLost l s)) h
  unfold execLockLost
  exact loseLock_other hk s

theorem execLaneRxPush_other {n : Fin 48} {units : List RxUnit} {s t : State} (h : exec (.laneRxPush n units) s = .next t) (k : Nat) (hk : k ≠ n.val) :
    t.lane k = s.lane k := by
  refine leaves_of (f := fun s => s.lane k) (?_ : Leaves _ s (execLaneRxPush n units s)) h
  unfold execLaneRxPush
  refine leaves_ite rfl ?_
  simp only [leaves_next, apply_ite (fun s : State => s.lane k), pushData_other hk, pushMarks_other hk, ite_self,
    foldl_keeps (fun s : State => s.lane k) fun s u => rxUnit_other hk s u]

theorem execLanePushRetry_other {n : Fin 48} {s t : State} (h : exec (.lanePushRetry n) s = .next t) (k : Nat) (hk : k ≠ n.val) :
    t.lane k = s.lane k := by
  refine leaves_of (f := fun s => s.lane k) (?_ : Leaves _ s (execLanePushRetry n s)) h
  unfold execLanePushRetry
  simp only [leaves_next, apply_ite (fun s : State => s.lane k), pushData_other hk, pushMarks_other hk, ite_self]

theorem execLaneTxPop_other {n : Fin 48} {s t : State} (h : exec (.laneTxPop n) s = .next t) (k : Nat) (hk : k ≠ n.val) :
    t.lane k = s.lane k := by
  refine leaves_of (f := fun s => s.lane k) (?_ : Leaves _ s (execLaneTxPop n s)) h
  unfold execLaneTxPop
  refine leaves_ite rfl (leaves_ite ?_ ?_)
  all_goals
    simp only [leaves_next, apply_ite (fun s : State => s.lane k), event_lane, updLane_other hk, sendRecords_lane, ite_self,
      apply_ite (fun p : State × Nat × List Byte => p.1), windowPop_lane]

theorem execLaneAdaptStep_other {l : LaneId} {setting : Fin 6} {up : Bool} {s t : State} (h : exec (.laneAdaptStep l setting up) s = .next t) (k : Nat) (hk : k ≠ laneKey l) :
    t.lane k = s.lane k := by
  refine leaves_of (f := fun s => s.lane k) (?_ : Leaves _ s (execLaneAdaptStep l setting up s)) h
  unfold execLaneAdaptStep
  exact leaves_ite rfl (updLane_other hk s _)

theorem execServiceLaneAutoTry_other {p : Fin 2} {s t : State} (h : exec (.serviceLaneAutoTry p) s = .next t) (k : Nat) (hk : k ≠ 48 + p.val) :
    t.lane k = s.lane k := by
  refine leaves_of (f := fun s => s.lane k) (?_ : Leaves _ s (execServiceLaneAutoTry p s)) h
  unfold execServiceLaneAutoTry
  exact leaves_ite rfl (updLane_other hk _ _)

end Sys2Proof.Machine
end

section
/-! PROOFS. O53: frames of the time, pin and lane commands. -/

namespace Sys2Proof.Machine

/-- Settles O53: each clause is read off the scope of its command, and a bank or lane of its own off its rule. -/
theorem framesOfTimeAndLanes : Obligations.FramesOfTimeAndLanes :=
  ⟨fun _ _ _ h => frame (execSync_ends (h := by simp) ..) h,
   fun _ _ _ h => frame (execAnnounce_ends (h := by simp) ..) h,
   fun _ _ _ h => frame (execPdelay_ends (h := by simp) ..) h,
   fun _ _ h => frame (execSyncTimeout_ends (h := by simp) ..) h,
   fun _ _ _ _ h => frame_write (hi := by decide) (hs := by decide) (execTimeSet_ends (h := by simp) (hk := rfl) ..) h,
   fun _ _ _ _ _ _ _ h => and_assoc.1 ⟨frame_objects (execInputEdge_ends (h := by simp) ..) h, execInputEdge_other h⟩,
   fun _ _ _ h => ⟨frame (execInputDrain_ends (h := by simp) ..) h, execInputDrain_other h⟩,
   fun _ _ _ h => ⟨frame (execDrainRetry_ends (h := by simp) ..) h, execDrainRetry_other h⟩,
   fun _ _ _ h => ⟨frame (execOutputPoll_ends (h := by simp) (hp := trivial) ..) h, execOutputPoll_other h⟩,
   fun _ _ _ h => and_assoc.1 ⟨frame_objects (execOutputEntryExecute_ends (h := by simp) ..) h, execOutputEntryExecute_other h⟩,
   fun _ _ _ _ h => and_assoc.1 ⟨frame_objects (execReturnTimer_ends (h := by simp) ..) h, execReturnTimer_other h⟩,
   fun _ _ _ _ h => and_assoc.1 ⟨frame_write (hi := by omega) (hs := by decide) (execIoBankStart_ends (h := by simp) (hk := rfl) ..) h,
     execIoBankStart_other h⟩,
   fun _ _ _ _ h => and_assoc.1 ⟨frame_write (hi := by omega) (hs := by decide) (execIoBankStop_ends (h := by simp) (hk := rfl) ..) h,
     execIoBankStop_other h⟩,
   fun _ _ _ _ _ _ _ h => frame_write (hi := by omega) (hs := by omega) (execIoPinWrite_ends (h := by simp) (hk := rfl) ..) h,
   fun _ _ _ _ h => and_assoc.1 ⟨frame_write (hi := by omega) (hs := by decide) (execLaneStart_ends (h := by simp) (hk := rfl) ..) h,
     execLaneStart_other h⟩,
   fun _ _ _ _ h => and_assoc.1 ⟨frame_write (hi := by omega) (hs := by decide) (execLaneStop_ends (h := by simp) (hk := rfl) ..) h,
     execLaneStop_other h⟩,
   fun _ _ _ h => ⟨frame (execLaneReceiverDetected_ends (h := by simp) ..) h, execLaneReceiverDetected_other h⟩,
   fun _ _ _ _ h => ⟨frame (execLaneLocked_ends (h := by simp) ..) h, execLaneLocked_other h⟩,
   fun _ _ _ _ _ _ _ h => ⟨frame (execLaneTs2Received_ends (h := by simp) ..) h, execLaneTs2Received_other h⟩,
   fun _ _ _ h => ⟨frame (execLaneStep_ends (h := by simp) ..) h, execLaneStep_other h⟩,
   fun _ _ _ _ h => ⟨frame (execLaneActive_ends (h := by simp) ..) h, execLaneActive_other h⟩,
   fun _ _ _ h => ⟨frame (execLaneBringupLimit_ends (h := by simp) ..) h, execLaneBringupLimit_other h⟩,
   fun _ _ _ h => ⟨frame (execLaneRetryTimer_ends (h := by simp) ..) h, execLaneRetryTimer_other h⟩,
   fun _ _ _ h => ⟨frame (execLockLost_ends (h := by simp) ..) h, execLockLost_other h⟩,
   fun _ _ _ _ h => ⟨frame (execLaneRxPush_ends (h := by simp) ..) h, execLaneRxPush_other h⟩,
   fun _ _ _ h => ⟨frame (execLanePushRetry_ends (h := by simp) ..) h, execLanePushRetry_other h⟩,
   fun _ _ _ h => ⟨frame (execLaneTxPop_ends (h := by simp) (hp := trivial) ..) h, execLaneTxPop_other h⟩,
   fun _ _ _ _ _ h => ⟨frame (execLaneAdaptStep_ends (h := by simp) ..) h, execLaneAdaptStep_other h⟩,
   fun _ _ _ h => ⟨frame (execServiceLaneAutoTry_ends (h := by simp) ..) h, execServiceLaneAutoTry_other h⟩,
   fun _ _ _ h => frame (execSyncInterval_ends (h := by simp) ..) h⟩

end Sys2Proof.Machine
end

section
/-! PROOFS. Sensors, a bank's supply, monitors, and what a reset keeps. -/

namespace Sys2Proof.Machine

/-! #### The sensors, and a bank's supply -/

theorem updSensor_other {n k : Nat} (hk : k ≠ n) (s : State) (f : Sensor → Sensor) : (updSensor s n f).sensor k = s.sensor k :=
  AMap.get_upd_other _ _ _ _ _ hk

@[simp] theorem event_sensor (s : State) (src code : Nat) (p : List Byte) (k : Nat) : (event s src code p).sensor k = s.sensor k := by
  simp only [State.sensor, event_power]

theorem execSensorExcluded_other {n : Fin 288} {s t : State} (h : exec (.sensorExcluded n) s = .next t) (k : Nat) (hk : k ≠ n.val) :
    t.sensor k = s.sensor k := by
  refine leaves_of (f := fun s => s.sensor k) (?_ : Leaves _ s (execSensorExcluded n s)) h
  unfold execSensorExcluded
  dsimp only
  split
  · rfl
  · refine leaves_ite rfl ?_
    rw [leaves_next, event_sensor, updSensor_other hk]

theorem execSensorReadmitted_other {n : Fin 288} {s t : State} (h : exec (.sensorReadmitted n) s = .next t) (k : Nat) (hk : k ≠ n.val) :
    t.sensor k = s.sensor k := by
  refine leaves_of (f := fun s => s.sensor k) (?_ : Leaves _ s (execSensorReadmitted n s)) h
  unfold execSensorReadmitted
  dsimp only
  split
  · rfl
  · refine leaves_ite rfl ?_
    rw [leaves_next, event_sensor, updSensor_other hk]

theorem execReadsLowFlag_other {n : Fin 288} {s t : State} (h : exec (.readsLowFlag n) s = .next t) (k : Nat) (hk : k ≠ n.val) :
    t.sensor k = s.sensor k := by
  refine leaves_of (f := fun s => s.sensor k) (?_ : Leaves _ s (execReadsLowFlag n s)) h
  unfold execReadsLowFlag
  dsimp only
  split
  · rfl
  · refine leaves_ite ?_ (leaves_ite (updSensor_other hk s _) rfl)
    rw [leaves_next, event_sensor, updSensor_other hk]

theorem bankLost_other {b k : Nat} (hk : k ≠ b) (s : State) : (bankLost s b).bank k = s.bank k := by
  have hpin (s : State) (pin : Nat) : (if pinOut s b pin then
      updPin s b pin fun p => { p with prev := p.level, level := 2, ret := none, changedAt := s.now + 1 } else s).bank k = s.bank k := by
    split <;> rfl
  simp only [bankLost, apply_ite (fun s : State => s.bank k), event_bank, updBank_other hk, ite_self,
    foldl_keeps (fun s : State => s.bank k) hpin]

@[simp] theorem excursion_bank (s : State) (n : Nat) (mv : Int) (k : Nat) : (excursion s n mv).bank k = s.bank k :=
  bank_of_banks ((excursion_links s n mv (by simp)).same (ps := [.board, .obs]) .banks) k

theorem execVccioOutOfRange_other {b : Fin 8} {mv : Int} {widthNs : Nat} {s t : State} (h : exec (.vccioOutOfRange b mv widthNs) s = .next t) (k : Nat) (hk : k ≠ b.val) :
    t.bank k = s.bank k := by
  refine leaves_of (f := fun s => s.bank k) (?_ : Leaves _ s (execVccioOutOfRange b mv widthNs s)) h
  unfold execVccioOutOfRange
  refine leaves_ite trivial ?_
  simp only [leaves_next, apply_ite (fun s : State => s.bank k), excursion_bank, bankLost_other hk, updBank_other hk, ite_self]

/-! #### The level monitors -/

theorem mon_of_monitors {s t : State} (h : t.obs.monitors = s.obs.monitors) (k : Nat) : t.mon k = s.mon k := by
  unfold State.mon
  rw [h]

theorem mon_of_engine (k : Nat) (s t : State) (h : Moves .engine s t) : t.mon k = s.mon k :=
  mon_of_monitors (h.monitors.resolve_right id) k

theorem event_mon (s : State) (src code : Nat) (p : List Byte) (k : Nat) : (event s src code p).mon k = s.mon k :=
  mon_of_monitors (event_monitors s src code p) k

section
variable {n k : Nat} (hk : k ≠ n)
include hk

theorem updMon_other (s : State) (f : Monitor → Monitor) : (updMon s n f).mon k = s.mon k := AMap.get_upd_other _ _ _ _ _ hk

theorem monitorTake_other (s : State) (v : Nat) : (monitorTake s n v).mon k = s.mon k := by
  simp only [monitorTake, apply_ite (fun s : State => s.mon k), event_mon, updMon_other hk, ite_self]

theorem actMonitor_leaves : (actMonitor n).Leaves fun s => s.mon k where
  apply s _ _ _ := updMon_other hk s _
  late _ _ _ := rfl

end

theorem execMonitorStart_other {e : Env} {n : Fin 16} {s t : State} (h : exec (.monitorStart e n) s = .next t) (k : Nat) (hk : k ≠ n.val) :
    t.mon k = s.mon k :=
  hostWrite_view (f := fun s => s.mon k) (actMonitor_leaves hk) (mon_of_engine k) h

theorem execMonitorStop_other {e : Env} {n : Fin 16} {s t : State} (h : exec (.monitorStop e n) s = .next t) (k : Nat) (hk : k ≠ n.val) :
    t.mon k = s.mon k :=
  hostWrite_view (f := fun s => s.mon k) (actMonitor_leaves hk) (mon_of_engine k) h

theorem execMonitorClear_other {e : Env} {n : Fin 16} {s t : State} (h : exec (.monitorClear e n) s = .next t) (k : Nat) (hk : k ≠ n.val) :
    t.mon k = s.mon k :=
  hostWrite_view (f := fun s => s.mon k) (actMonitor_leaves hk) (mon_of_engine k) h

theorem execMonitorSample_other {n : Fin 16} {level : Nat} {s t : State} (h : exec (.monitorSample n level) s = .next t) (k : Nat) (hk : k ≠ n.val) :
    t.mon k = s.mon k := by
  refine leaves_of (f := fun s => s.mon k) (?_ : Leaves _ s (execMonitorSample n level s)) h
  unfold execMonitorSample
  exact leaves_ite rfl (monitorTake_other hk s _)

/-! #### PORST_N: what no reset clears -/

/-- What a reset keeps: the outputs, the fuses, the random source's place, and the sealed partition's records and key. -/
structure Reset.Kept (s t : State) : Prop where
  outs : t.outs = s.outs
  fuses : t.fuses = s.fuses
  freeCtr : t.freeCtr = s.freeCtr
  store : t.sealed.store = s.sealed.store
  audit : t.sealed.audit = s.sealed.audit
  key : t.sealed.key = s.sealed.key
  provisioned : t.sealed.provisioned = s.sealed.provisioned

theorem Reset.kept_of_same {s t : State} (ho : t.outs = s.outs) (hf : t.fuses = s.fuses) (hc : t.freeCtr = s.freeCtr)
    (hs : t.sealed = s.sealed) : Reset.Kept s t :=
  ⟨ho, hf, hc, by rw [hs], by rw [hs], by rw [hs], by rw [hs]⟩

theorem Reset.Kept.trans {s t u : State} (a : Reset.Kept s t) (b : Reset.Kept t u) : Reset.Kept s u :=
  ⟨b.outs.trans a.outs, b.fuses.trans a.fuses, b.freeCtr.trans a.freeCtr, b.store.trans a.store, b.audit.trans a.audit, b.key.trans a.key,
    b.provisioned.trans a.provisioned⟩

theorem setMode_kept (s : State) (m : Mode) (cause : Nat) : Reset.Kept s (setMode s m cause) := by
  have h := setMode_links (sc := .quiet [.power, .board, .obs]) s m cause (by simp)
  exact Reset.kept_of_same (h.same .outs) (h.same .fuses) (h.same .freeCtr) (h.same .sealed)

theorem leaveReset_kept (s : State) : Reset.Kept s (leaveReset s) := by
  have h := leaveReset_links (sc := .quiet [.boot, .board, .obs]) s (by simp)
  exact Reset.kept_of_same (h.same .outs) (h.same .fuses) (h.same .freeCtr) (h.same .sealed)

theorem assertPorst_kept (s : State) : Reset.Kept s (assertPorst s) := by
  unfold assertPorst
  refine Reset.Kept.trans ?_ (setMode_kept _ _ _)
  exact ⟨rfl, rfl, rfl, rfl, rfl, rfl, rfl⟩

/-- What a reset keeps is kept by a command whose answer says so. -/
theorem Reset.Kept.frame {s t : State} (h : Reset.Kept s t) :
    t.outs = s.outs ∧ t.fuses = s.fuses ∧ t.freeCtr = s.freeCtr ∧ t.sealed.store = s.sealed.store ∧ t.sealed.audit = s.sealed.audit ∧
      t.sealed.key = s.sealed.key ∧ t.sealed.provisioned = s.sealed.provisioned :=
  ⟨h.outs, h.fuses, h.freeCtr, h.store, h.audit, h.key, h.provisioned⟩

theorem execPorstN_kept {asserted : Bool} {straps : Straps} {s t : State} (h : execPorstN asserted straps s = .next t) : Reset.Kept s t := by
  unfold execPorstN at h
  split at h
  · rw [← Host.Outcome.next.inj h]
    exact (assertPorst_kept s).trans ⟨rfl, rfl, rfl, rfl, rfl, rfl, rfl⟩
  · split at h
    · rw [← Host.Outcome.next.inj h]
      exact ⟨rfl, rfl, rfl, rfl, rfl, rfl, rfl⟩
    · rw [← Host.Outcome.next.inj h]
      refine Reset.Kept.trans ?_ (leaveReset_kept _)
      exact ⟨rfl, rfl, rfl, rfl, rfl, rfl, rfl⟩

theorem execVauxLow_kept {mv : Int} {widthNs : Nat} {s t : State} (h : execVauxLow mv widthNs s = .next t) : Reset.Kept s t := by
  unfold execVauxLow at h
  dsimp only at h
  split at h
  · cases h
  · split at h
    · rw [← Host.Outcome.next.inj h]
      exact ⟨rfl, rfl, rfl, rfl, rfl, rfl, rfl⟩
    · rw [← Host.Outcome.next.inj h]
      have hassert := assertPorst_kept { s with board.mv := AMap.set 0 s.board.mv 13 mv.toNat }
      exact ⟨hassert.outs, hassert.fuses, hassert.freeCtr, hassert.store, hassert.audit, hassert.key, hassert.provisioned⟩

end Sys2Proof.Machine
end

section
/-! PROOFS. O54: frames of the sealed, mode, supply, sensor, test and observation commands. -/

namespace Sys2Proof.Machine

/-- Settles O54: each clause is read off the scope of its command, and an entry of its own off its rule. -/
theorem framesOfModesAndServices : Obligations.FramesOfModesAndServices :=
  ⟨fun _ _ _ _ _ h => frame_write (hi := by decide) (hs := by decide) (execSealProvision_ends (h := by simp) (hk := rfl) ..) h,
   fun _ _ _ _ _ _ h =>
     frame_write (hi := by decide) (hs := by decide) (execSealParamWrite_ends (h := by simp) (hp := trivial) (hk := rfl) ..) h,
   fun _ _ _ _ h => frame_write (hi := by decide) (hs := by decide) (execSealKey_ends (h := by simp) (hp := trivial) (hk := rfl) ..) h,
   fun _ _ _ _ _ h => frame_write (hi := by decide) (hs := by omega) (execSealCommand_ends (h := by simp) (hp := trivial) (hk := rfl) ..) h,
   fun _ _ _ _ h => frame (execSealN_ends (h := by simp) (hp := trivial) ..) h,
   fun _ _ h => frame (execParameterImageCheck_ends (h := by simp) (hp := trivial) ..) h,
   fun _ _ _ h => frame (execSampleSync_ends (h := by simp) ..) h,
   fun _ _ _ _ h => frame (execSampleFrame_ends (h := by simp) (hp := trivial) ..) h,
   fun _ _ _ h => frame (execModeRun_ends (h := by simp) (hd := trivial) (hp := trivial) (hk := by simp) (hx := by simp) ..) h,
   fun _ _ _ h => frame (execModeHold_ends (h := by simp) (hd := trivial) (hp := trivial) (hk := by simp) (hx := by simp) ..) h,
   fun _ _ _ h => frame (execModeStable_ends (h := by simp) (hd := trivial) (hp := trivial) (hk := by simp) (hx := by simp) ..) h,
   fun _ _ _ h => frame (execModeService_ends (h := by simp) (hd := trivial) (hp := trivial) (hk := by simp) (hx := by simp) ..) h,
   fun _ _ _ h => frame (execOrderlyStop_ends (h := by simp) (hd := trivial) (hp := trivial) (hk := by simp) (hx := by simp) ..) h,
   fun _ _ _ h => frame (execResume_ends (h := by simp) (hd := trivial) (hp := trivial) (hk := by simp) (hx := by simp) ..) h,
   fun _ _ _ h => frame (execRestart_ends (h := by simp) (hd := trivial) (hp := trivial) (hk := by simp) (hx := by simp) ..) h,
   fun _ _ _ h => frame (execWakeN_ends (h := by simp) (hx := by simp) ..) h,
   fun _ _ h => frame (execWakeTime_ends (h := by simp) (hx := by simp) ..) h,
   fun _ _ _ _ h => frame_objects (execSensorRead_ends (h := by simp) (hd := trivial) ..) h,
   fun _ _ _ h => ⟨frame (execSensorExcluded_ends (h := by simp) ..) h, execSensorExcluded_other h⟩,
   fun _ _ _ h => ⟨frame (execSensorReadmitted_ends (h := by simp) ..) h, execSensorReadmitted_other h⟩,
   fun _ _ _ h => ⟨frame (execReadsLowFlag_ends (h := by simp) ..) h, execReadsLowFlag_other h⟩,
   fun _ _ _ h => frame (execGaitStepSlower_ends (h := by simp) ..) h,
   fun _ _ _ h => frame (execGaitStepFaster_ends (h := by simp) ..) h,
   fun _ _ _ _ h => frame_write (hi := by decide) (hs := by decide) (execGaitFloorWrite_ends (h := by simp) (hk := rfl) ..) h,
   fun _ _ h => frame (execOrderlyStopDrainStep_ends (h := by simp) ..) h,
   fun _ _ h => frame_objects (execOrderlyStopFlush_ends (h := by simp) (hd := trivial) ..) h,
   fun _ _ h => frame (execOrderlyStopFallbacks_ends (h := by simp) ..) h,
   fun _ _ h => frame_objects (execSafeStopEntry_ends (h := by simp) (hd := trivial) ..) h,
   fun _ _ _ _ h => frame_objects (execSafeN_ends (h := by simp) (hd := trivial) ..) h,
   fun _ _ _ _ h => frame_objects (execVinCoreOutOfRange_ends (h := by simp) (hd := trivial) ..) h,
   fun _ _ _ _ _ h => frame_objects (execVdramVppOutOfRange_ends (h := by simp) (hd := trivial) ..) h,
   fun _ _ _ _ _ h => frame (execVlaneOutOfRange_ends (h := by simp) ..) h,
   fun _ _ _ _ _ h => ⟨frame (execVccioOutOfRange_ends (h := by simp) ..) h, execVccioOutOfRange_other h⟩,
   fun _ _ h => frame_objects (execRootPllLockLoss_ends (h := by simp) (hd := trivial) ..) h,
   fun _ _ h => frame_objects (execAutoResume_ends (h := by simp) (hd := trivial) (hp := trivial) ..) h,
   fun _ _ _ _ h => frame_objects (execStakeMonitorError_ends (h := by simp) (hd := trivial) ..) h,
   fun _ _ _ _ h => frame_write (hi := by decide) (hs := by decide) (execShift_ends (h := by simp) (hk := rfl) ..) h,
   fun _ _ h => frame (execRowShiftDone_ends (h := by simp) ..) h,
   fun _ _ _ h => frame_objects (execTemperatureCalibration_ends (h := by simp) (hd := trivial) ..) h,
   fun _ _ _ _ h => frame_write (hi := by decide) (hs := by decide) (execCalibrateNow_ends (h := by simp) (hd := trivial) (hk := rfl) ..) h,
   fun _ _ _ h => frame (execTestRunStart_ends (h := by simp) (hd := trivial) (hk := by simp) (hx := by simp) ..) h,
   fun _ _ _ h => frame_objects (execTestComplete_ends (h := by simp) ..) h,
   fun _ _ _ _ _ h => frame_write (hi := by decide) (hs := by decide) (execJtagOpenWrite_ends (h := by simp) (hk := rfl) ..) h,
   fun _ _ _ _ h => frame_write (hi := by decide) (hs := by decide) (execLockCmd_ends (h := by simp) (hk := rfl) ..) h,
   fun _ _ _ h => frame_objects (execExtest_ends (h := by simp) ..) h,
   fun _ _ h => frame (execIdcode_ends (h := by simp) ..) h,
   fun _ _ _ h => frame_objects (execSamplePreload_ends (h := by simp) ..) h,
   fun _ _ _ h => frame_objects (execExtestPulse_ends (h := by simp) ..) h,
   fun _ _ _ h => frame_objects (execExtestTrain_ends (h := by simp) ..) h,
   fun _ _ _ _ _ _ h => frame_objects (execDebug_ends (h := by simp) ..) h,
   fun _ _ _ h => frame_objects (execDieSelect_ends (h := by simp) ..) h,
   fun _ _ _ h => frame (execBypass_ends (h := by simp) ..) h,
   fun _ _ _ _ h => frame_write (hi := by decide) (hs := by decide) (execCounterConfigWrite_ends (h := by simp) (hk := rfl) ..) h,
   fun _ _ _ h => frame_write (hi := by decide) (hs := by decide) (execCounterClearSelected_ends (h := by simp) (hk := rfl) ..) h,
   fun _ _ _ h => frame_write (hi := by decide) (hs := by decide) (execCounterClearAll_ends (h := by simp) (hk := rfl) ..) h,
   fun _ _ _ _ h => frame (execCounterMilestone_ends (h := by simp) ..) h,
   fun _ _ h => frame (execTallySnapshot_ends (h := by simp) ..) h,
   fun _ _ _ h => frame_write (hi := by decide) (hs := by decide) (execSnapshotNow_ends (h := by simp) (hk := rfl) ..) h,
   fun _ _ h => frame (execSnapshotReadDone_ends (h := by simp) ..) h,
   fun _ _ _ h => frame_write (hi := by decide) (hs := by decide) (execSampleBufferClear_ends (h := by simp) (hk := rfl) ..) h,
   fun _ _ _ _ h =>
     and_assoc.1 ⟨frame_write (hi := by omega) (hs := by decide) (execMonitorStart_ends (h := by simp) (hm := trivial) (hk := rfl) ..) h,
     execMonitorStart_other h⟩,
   fun _ _ _ _ h =>
     and_assoc.1 ⟨frame_write (hi := by omega) (hs := by decide) (execMonitorStop_ends (h := by simp) (hm := trivial) (hk := rfl) ..) h,
     execMonitorStop_other h⟩,
   fun _ _ _ _ h =>
     and_assoc.1 ⟨frame_write (hi := by omega) (hs := by decide) (execMonitorClear_ends (h := by simp) (hm := trivial) (hk := rfl) ..) h,
     execMonitorClear_other h⟩,
   fun _ _ _ _ h => ⟨frame (execMonitorSample_ends (h := by simp) (hm := trivial) ..) h, execMonitorSample_other h⟩,
   fun _ _ h => frame (execChronicleRecord_ends (h := by simp) ..) h,
   fun _ _ _ h => frame_objects (execRingPacketWrite_ends (h := by simp) (hd := trivial) ..) h,
   fun _ _ h => frame (execCoalesceWindowEnd_ends (h := by simp) ..) h,
   fun _ _ _ h => frame (execGapRecord_ends (h := by simp) ..) h,
   fun _ _ _ h => frame_write (hi := by decide) (hs := by decide) (execAckAlarm_ends (h := by simp) (hk := rfl) ..) h,
   fun _ _ _ _ h => frame_write (hi := by decide) (hs := by decide) (execChronicleEnable_ends (h := by simp) (hk := rfl) ..) h,
   fun _ _ _ _ h => Reset.Kept.frame <| execPorstN_kept h,
   fun _ _ _ _ h => Reset.Kept.frame <| execVauxLow_kept h⟩

end Sys2Proof.Machine
end

section
/-! PROOFS. The bytes that commands store in the pannier. -/

namespace Sys2Proof.Machine

/-! #### The bytes that commands store in the pannier -/

theorem panByte_of_pan {s t : State} (h : t.pan = s.pan) (a : Nat) : panByte t a = panByte s a := by
  have hat : shadowAt t a = shadowAt s a := shadowAt_congr (fun k => by simp only [bankTest, h]; exact ⟨trivial, trivial, trivial⟩) a
  unfold panByte
  rw [hat]
  simp only [bankTest, h]

@[simp] theorem event_panByte (s : State) (src code : Nat) (p : List Byte) (a : Nat) : panByte (event s src code p) a = panByte s a :=
  panByte_of_pan (by simp) a

@[simp] theorem emit_panByte (s : State) (o : Out) (a : Nat) : panByte (s.emit o) a = panByte s a := rfl

@[simp] theorem updWindow_panByte (s : State) (n : Nat) (f : Window → Window) (a : Nat) : panByte (updWindow s n f) a = panByte s a := rfl

@[simp] theorem windowServed_panByte (s : State) (xs : List (Nat × Nat)) (a : Nat) : panByte (windowServed s xs) a = panByte s a :=
  panByte_of_pan (by simp) a

@[simp] theorem windowOverflow_panByte (s : State) (n a : Nat) : panByte (windowOverflow s n) a = panByte s a := by
  simp only [windowOverflow, event_panByte, updWindow_panByte]

theorem windowPush_panByte (s : State) (n : Nat) (data : List Byte) {a : Nat}
    (h : ∀ i < data.length, windowPlace s n (s.window n).wr i ≠ a) : panByte (windowPush s n data).1 a = panByte s a := by
  have hwrite : panByte (panWrite (windowPlace s n (s.window n).wr) 0 data s) a = panByte s a :=
    panByte_panWrite_other _ _ _ _ (by simpa using h)
  unfold windowPush
  dsimp only
  repeat' split
  all_goals simp [hwrite]

theorem windowIndexed_panByte (s : State) (n off len : Nat) (bs : List Byte) {a : Nat}
    (h : ∀ i < bs.length, windowPlace s n ((s.window n).rd + off) i ≠ a) : panByte (windowIndexed s n off len (some bs) .good).1 a = panByte s a := by
  have hwrite (t : State) : panByte (panWrite (windowPlace s n ((s.window n).rd + off)) 0 bs t) a = panByte t a :=
    panByte_panWrite_other _ _ _ _ (by simpa using h)
  unfold windowIndexed
  simp only [panErr, ite_self]
  repeat' split
  all_goals simp [hwrite]

/-- A command of a window answers its initiator, and leaves the bytes that its work leaves. -/
theorem panByte_of_answer {init : Byte} {r : WindowRes} {s t : State} {a : Nat} (ht : windowAnswer init r = .next t)
    (h : panByte r.1 a = panByte s a) : panByte t a = panByte s a := by
  rw [← Host.Outcome.next.inj ht]
  exact h

theorem panByte_of_engine (a : Nat) (s t : State) (h : Moves .engine s t) : panByte t a = panByte s a :=
  panByte_of_pan (h.engine_same .pan (by decide)) a

theorem controllerWrite_panByte {off n : Nat} {data : List Byte} (s : State) {a : Nat} (hn : data.length = n)
    (h : ∀ i < n, bank31 (off + i) ≠ a) : panByte (controllerWrite off data s) a = panByte s a := by
  have hat (i : Nat) (hi : i < data.length) : 0x7C0000 + off + (0 + i) ≠ a := by
    simpa [bank31, Nat.add_assoc] using h i (hn ▸ hi)
  exact panByte_panWrite_other (0x7C0000 + off + ·) data 0 { s with sealed.image := Memory.write s.sealed.image off data } hat

/-- A command to the controller stores its entry of the ring and the count, and no other byte. -/
theorem actSealCommand_leads (c : Nat) {n a : Nat} {x : Byte} (hring : ∀ i < 16, bank31 (0xA00 + n % 64 * 16 + i) ≠ a)
    (hcount : ∀ i < 8, bank31 (0xE00 + i) ≠ a) :
    (actSealCommand c).Leads (fun s => s.sealed.commands = n ∧ panByte s a = x) fun s => panByte s a = x where
  apply s who old new hs := by
    obtain ⟨rfl, rfl⟩ := hs
    simp only [actSealCommand]
    rw [event_panByte]
    have htwo (u : State) (k : Nat) : panByte (controllerWrite 0xE00 (u64 k) u) a = panByte u a :=
      controllerWrite_panByte u (leBytes_length k 8) hcount
    rw [htwo]
    generalize hd : u64 s.tai ++ u8 c ++ u8 (natAt new 3 1) ++ zeros 2 ++ u32 (natAt new 0 3) = data
    have hlen : data.length = 16 := by rw [← hd]; simp
    exact controllerWrite_panByte s hlen hring
  late s v code hs := by
    simp only [actSealCommand]
    split
    · rwa [event_panByte]
    · exact hs

theorem execSealCommand_panByte {e : Env} {channel : Fin 16} {v : U32} {s t : State} {a : Nat} (h : exec (.sealCommand e channel v) s = .next t)
    (hring : ∀ i < 16, bank31 (0xA00 + s.sealed.commands % 64 * 16 + i) ≠ a) (hcount : ∀ i < 8, bank31 (0xE00 + i) ≠ a) :
    panByte t a = panByte s a :=
  hostWrite_leads (actSealCommand_leads channel.val hring hcount) (fun _ hs => hs.2)
    (fun u w hm hu => ⟨(congrArg Sealed.commands (hm.engine_same .sealed (by decide))).trans hu.1, (panByte_of_engine a u w hm).trans hu.2⟩)
    (fun u w hm hu => (panByte_of_engine a u w hm).trans hu) h ⟨rfl, rfl⟩

/-- A byte outside a bank that is cleared. -/
theorem byte_filter {m : List Host.Cell} {p : Host.Cell → Bool} {a : Nat} (h : ∀ c, c.1 = a → p c = true) :
    Memory.byte (m.filter p) a = Memory.byte m a := by
  induction m with
  | nil => rfl
  | cons c m ih =>
    unfold Memory.byte at ih ⊢
    by_cases hc : a = c.1
    · rw [List.filter_cons_of_pos (h c hc.symm)]
      simp only [AMap.get, hc, if_true]
    · rw [List.filter_cons]
      split <;> simp only [AMap.get, hc, if_false, ih]

theorem execBankClearingDone_mem {b : Fin 32} {s t : State} {a : Nat} (h : exec (.bankClearingDone b) s = .next t) (ha : panBank a ≠ b.val) :
    Memory.byte t.pan.mem a = Memory.byte s.pan.mem a := by
  have hset (s : State) (b v : Nat) : (setBank s b v).pan.mem = s.pan.mem := by
    unfold setBank
    split
    · rfl
    · rw [event_pan]
  rw [← Host.Outcome.next.inj h]
  split
  · rw [hset]
    exact byte_filter fun c hc => by simpa [hc] using ha
  · rfl

end Sys2Proof.Machine
end

section
/-! PROOFS. O55: a whole line of the DRAM, and the frames of the byte memories. -/

namespace Sys2Proof.Machine

/-! #### Where a line of the DRAM lies -/

/-- What decides a line's place in a channel: its retirement copies, its migration, its pseudo-channels down and its remaps. -/
def Channel.place (c : Channel) : RetCopy × RetCopy × RetCopy × Nat × Nat × AMap Remap := (c.c0, c.c1, c.c2, c.mig, c.pcDown, c.remap)

/-- Two states in which every line lies at the same place. -/
structure SamePlaces (s t : State) : Prop where
  place : ∀ k, (t.chan k).place = (s.chan k).place
  stack : t.dram.stack = s.dram.stack
  test : t.test = s.test

theorem SamePlaces.of_dram {s t : State} (hd : t.dram = s.dram) (ht : t.test = s.test) : SamePlaces s t :=
  ⟨fun k => congrArg Channel.place (chan_of_dram (by rw [hd]) k), by rw [hd], ht⟩

theorem SamePlaces.trans {s t u : State} (a : SamePlaces s t) (b : SamePlaces t u) : SamePlaces s u :=
  ⟨fun k => (b.place k).trans (a.place k), b.stack.trans a.stack, b.test.trans a.test⟩

/-- A change of a channel beside what decides places. -/
theorem SamePlaces.updChan (s : State) (ch : Nat) {f : Channel → Channel} (hf : ∀ c, (f c).place = c.place) : SamePlaces s (s.updChan ch f) := by
  refine ⟨fun k => ?_, rfl, rfl⟩
  by_cases hk : k = ch
  · subst hk
    exact (congrArg Channel.place (AMap.get_upd_same ..)).trans (hf _)
  · rw [updChan_other hk]

theorem SamePlaces.symm {s t : State} (h : SamePlaces s t) : SamePlaces t s := ⟨fun k => (h.place k).symm, h.stack.symm, h.test.symm⟩

/-- The same change of two states' channel, as far as places go. -/
theorem SamePlaces.updChan_congr {s t : State} (h : SamePlaces s t) (ch : Nat) {f g : Channel → Channel}
    (hf : ∀ c d : Channel, d.place = c.place → (g d).place = (f c).place) : SamePlaces (s.updChan ch f) (t.updChan ch g) := by
  refine ⟨fun k => ?_, h.stack, h.test⟩
  by_cases hk : k = ch
  · subst hk
    have hs : (s.updChan k f).chan k = f (s.chan k) := AMap.get_upd_same ..
    have ht : (t.updChan k g).chan k = g (t.chan k) := AMap.get_upd_same ..
    rw [hs, ht]
    exact hf _ _ (h.place k)
  · rw [updChan_other hk, updChan_other hk]
    exact h.place k

theorem SamePlaces.event (s : State) (src code : Nat) (p : List Byte) : SamePlaces s (event s src code p) := .of_dram (by simp) (by simp)

theorem SamePlaces.counted (s : State) (src sel v n : Nat) : SamePlaces s (counted s src sel v n) := .of_dram (by simp) (by simp)

theorem retOf_congr {c d : Channel} (h : d.place = c.place) : retOf d = retOf c := by
  simp only [Channel.place, Prod.mk.injEq] at h
  obtain ⟨h0, h1, h2, -⟩ := h
  simp only [retOf, h0, h1, h2]

theorem servingRank_congr {c d : Channel} (h : d.place = c.place) (k i : Nat) : servingRank d k i = servingRank c k i := by
  have hr := retOf_congr h
  simp only [Channel.place, Prod.mk.injEq] at h
  obtain ⟨-, -, -, hmig, -, -⟩ := h
  unfold servingRank
  rw [hr, hmig]

theorem remaps_congr {c d : Channel} (h : d.place = c.place) : remaps d = remaps c := by
  simp only [Channel.place, Prod.mk.injEq] at h
  simp only [remaps, h.2.2.2.2.2]

theorem remapOf_congr {c d : Channel} (h : d.place = c.place) (rank : Nat) (l : DLoc) : remapOf d rank l = remapOf c rank l := by
  unfold remapOf
  rw [remaps_congr h]

theorem settleRet_congr {s t : State} (h : SamePlaces s t) (ch : Nat) : SamePlaces (settleRet s ch) (settleRet t ch) := by
  have hp := h.place ch
  have hr := retOf_congr hp
  simp only [Channel.place, Prod.mk.injEq] at hp
  obtain ⟨h0, h1, h2, -⟩ := hp
  unfold settleRet
  simp only [hr, h0, h1, h2]
  split
  · exact h
  · refine ((SamePlaces.event ..).symm.trans ?_).trans (SamePlaces.event ..)
    refine h.updChan_congr ch fun c d hcd => ?_
    simp only [Channel.place, Prod.mk.injEq, true_and] at hcd ⊢
    exact ⟨hcd.2.2.2.1, hcd.2.2.2.2.1, hcd.2.2.2.2.2⟩

theorem faultRemap_congr {s t : State} (h : SamePlaces s t) (ch e : Nat) : SamePlaces (faultRemap s ch e) (faultRemap t ch e) := by
  refine ((SamePlaces.event ..).symm.trans ?_).trans (SamePlaces.event ..)
  have hupd : SamePlaces (s.updChan ch fun c => { c with remap := AMap.upd {} c.remap e fun r => { r with faulted := true } })
      (t.updChan ch fun c => { c with remap := AMap.upd {} c.remap e fun r => { r with faulted := true } }) := by
    refine h.updChan_congr ch fun c d hcd => ?_
    simp only [Channel.place, Prod.mk.injEq] at hcd ⊢
    obtain ⟨h0, h1, h2, hm, hp, hr⟩ := hcd
    exact ⟨h0, h1, h2, hm, hp, by rw [hr]⟩
  exact ⟨hupd.place, hupd.stack, hupd.test⟩

theorem checkRemaps_congr {s t : State} (h : SamePlaces s t) (ch : Nat) : SamePlaces (checkRemaps s ch) (checkRemaps t ch) := by
  unfold checkRemaps
  rw [remaps_congr (h.place ch)]
  generalize remaps (s.chan ch) = l
  induction l generalizing s t with
  | nil => exact h
  | cons e l ih =>
    rw [List.foldl_cons, List.foldl_cons]
    split
    · exact ih h
    · exact ih (faultRemap_congr h ch e.1)

theorem placeOf_congr {s t : State} (h : SamePlaces s t) (a : Nat) : placeOf t a = placeOf s a := by
  have hp := h.place (dloc a).chan
  have hdown : (t.chan (dloc a).chan).pcDown = (s.chan (dloc a).chan).pcDown := congrArg (fun p => p.2.2.2.2.1) hp
  unfold placeOf
  simp only [stackState, h.stack, hdown, servingRank_congr hp, rankUnderTest, h.test, remapOf_congr hp]
  rfl

/-! #### A whole line written outside every region -/

/-- A write to the store keeps to its line. -/
theorem rawWrite_mem {s : State} {a phys rank : Nat} {spare poison : Bool} {data : List Byte} (hlen : data.length = 64)
    (hp : placeOf (checkRemaps (settleRet s (dloc a).chan) (dloc a).chan) a = .at_ phys rank spare) :
    (rawWrite s a data poison).1.dram.mem = Memory.write s.dram.mem phys data := by
  have hpad : padTo data 64 = data := by simp [padTo, hlen, List.take_of_length_le (Nat.le_of_eq hlen)]
  have hstill (u : State) : (accessRow (checkRemaps (settleRet s (dloc a).chan) (dloc a).chan) (dloc a) rank spare).dram.mem = s.dram.mem :=
    (((accessRow_links (sc := .quiet [.obj, .dram, .ecc, .board, .obs]) _ _ _ _ (by simp)).after
      ((checkRemaps_links _ _ (by simp)).after (settleRet_links s _ (by simp)).moves)).dramBytes).resolve_right fun h => h.1
  unfold rawWrite
  simp only [hp, counted_dram, storeLine, hpad, hstill s]

/-- Which region covers an address does not depend on the DRAM's channels, the board or the counters. -/
theorem regionOf_counted (u : State) (ch : Nat) (f : Channel → Channel) (src sel v n a : Nat) :
    regionOf (counted (u.updChan ch f) src sel v n) a = regionOf u a := by
  obtain ⟨x, o, hc⟩ := counted_eq (u.updChan ch f) src sel v n
  rw [hc]
  rfl

/-- A request that a command slot carries out, a whole line written outside every region, is a write to the store. -/
theorem serveDram_mem {u : State} {ch phys rank : Nat} {r : DReq} {spare : Bool} (errs : List (Nat × Nat)) (spareErrs : List Bool)
    (hw : r.write = true) (hlen : r.data.length = 64) (hreg : regionOf u (r.line * 64) = none)
    (hp : placeOf (checkRemaps (settleRet u (dloc (r.line * 64)).chan) (dloc (r.line * 64)).chan) (r.line * 64) = .at_ phys rank spare) :
    (serveDram u ch r errs spareErrs).dram.mem = Memory.write u.dram.mem phys r.data := by
  have hstate : ∃ t, serveDram u ch r errs spareErrs = performDram t r errs spareErrs ∧ SamePlaces u t ∧ t.dram.mem = u.dram.mem ∧
      regionOf t (r.line * 64) = regionOf u (r.line * 64) := by
    unfold serveDram
    dsimp only
    generalize hs1 : counted (u.updChan ch _) (chanSrc ch) 0x0C (u.nsSince r.at_) 1 = s1
    have hplaces : SamePlaces u s1 := by
      rw [← hs1]
      refine SamePlaces.trans ?_ (SamePlaces.counted ..)
      exact SamePlaces.updChan u ch fun _ => rfl
    have hmem : s1.dram.mem = u.dram.mem := by rw [← hs1, counted_dram]; rfl
    have hregion : regionOf s1 (r.line * 64) = regionOf u (r.line * 64) := hs1 ▸ regionOf_counted u ch _ _ _ _ _ _
    split
    · exact ⟨s1, rfl, hplaces, hmem, hregion⟩
    · exact ⟨_, rfl, hplaces.trans (SamePlaces.updChan s1 ch fun _ => rfl), hmem, hregion⟩
  obtain ⟨t, ht, hplaces, hmem, hregion⟩ := hstate
  have hreg' : regionOf t (r.line * 64) = none := hregion.trans hreg
  have huse : useRegion t (r.line * 64) = t := by simp only [useRegion, hreg']
  have hat := (placeOf_congr (checkRemaps_congr (settleRet_congr hplaces _) _) _).trans hp
  have hengine : engineWrite t (r.line * 64) r.initiator r.data r.poison errs = rawWrite t (r.line * 64) r.data r.poison := by
    simp only [engineWrite, huse, hreg']
  have hanswer (w : State × Nat) : (dramAnswer w.1 r w.2 []).dram = w.1.dram :=
    (dramAnswer_links w.1 r w.2 [] (by simp)).same (ps := [.noc, .wale]) .dram
  rw [ht, performDram]
  simp only [hw, hlen, hengine, hanswer, not_true_eq_false, if_false, if_true]
  rw [rawWrite_mem hlen hat, hmem]

/-- The state that a command slot's choice is made in has the memory's bytes as they were. -/
theorem refill_mem (s : State) (ch : Nat) : (refillHeat (refillBudget s ch) ch).dram.mem = s.dram.mem :=
  ((refillBudget_links (sc := .quiet [.obj, .dram, .ecc, .board, .obs]) s ch (by simp)).moves.dramBytes).resolve_right fun h => h.1

/-- Settles O55: a window's bytes, the controller's ring, a bank's clearing and a whole line of the DRAM, each off its rule. -/
theorem framesOfBytes : Obligations.FramesOfBytes := by
  refine ⟨fun _ _ _ _ _ _ h ha => panByte_of_answer h (windowPush_panByte _ _ _ ha),
    fun _ _ _ _ _ _ _ _ h ha => panByte_of_answer h (windowIndexed_panByte _ _ _ _ _ ha),
    fun _ _ _ _ _ _ h hring hcount => execSealCommand_panByte h hring hcount,
    fun _ _ _ _ h ha => execBankClearingDone_mem h ha, ?_⟩
  intro channel pcB errs spareErrs s u v t r phys rank spare hrefresh hu hstack hdue hpick hw hlen hreg hv hplace h
  have hserve : execDramCommandSlot channel pcB errs spareErrs s = .next (serveDram u channel.val r errs spareErrs) := by
    subst hu
    simp only [execDramCommandSlot, hrefresh, hdue, hstack, hpick, not_true_eq_false, if_false, if_true]
  have ht : serveDram u channel.val r errs spareErrs = t := Host.Outcome.next.inj (hserve.symm.trans h)
  subst hv
  have hmem : t.dram.mem = Memory.write s.dram.mem phys r.data := by
    rw [← ht, serveDram_mem errs spareErrs hw hlen hreg hplace, hu, refill_mem]
  refine ⟨hmem, fun a ha => ?_⟩
  rw [hmem, Memory.byte_write_other _ _ _ _ (by omega)]

end Sys2Proof.Machine
end

section
/-! PROOFS. O11: session commands complete. -/

namespace Sys2Proof.Machine

/-- OPEN that R735 refuses answers the code, whatever it records. -/
theorem execOpenSession_refused {e : Env} {level options : Byte} {nonce : List Byte} {s u : State} {c : Nat}
    (ht : frameTaken s e (level :: options :: nonce) = true) (hn : nonce.length = 16) (hu : u = levelsUsed (tookFrame s e))
    (hr : openRefusal u level.toNat = some c) :
    ∃ t, execOpenSession e level options nonce s = .next t ∧ t.outs = (plainReply u 0x01 e (u32 c)).outs ∧
      t.dict = (plainReply u 0x01 e (u32 c)).dict := by
  subst hu
  simp only [execOpenSession, ht, hn, hr]
  exact ⟨_, rfl, by split <;> simp, by split <;> simp⟩

/-- RESPONSE whose HMAC is right opens the session. -/
theorem answerChallenge_right {s : State} {e : Env} {n : Nat} {x : Session} {hmac : List Byte} {sealedHmac : Option (List Byte)}
    (he : s.elapsed x.heldAt 1000000000 = false) (hx : hmac = Crypto.hmac (levelKey s x.level) (challenge s x n)) :
    ∃ right, answerChallenge s e n x hmac sealedHmac = openNow s e n x right := by
  simp [answerChallenge, he, ← hx]

/-- The session that a right RESPONSE opens. -/
theorem session_openNow (s : State) (e : Env) (n : Nat) (x : Session) (right : Bool) :
    (openNow s e n x right).session n =
      { phase := .opened, level := x.level, wantsSealed := x.wantsSealed, sealedRight := right, subscribed := x.subscribed, host := x.host,
        ks := Crypto.hmac (levelKey s x.level) ([0x5A, 0x44, 0x54, 0x31] ++ x.devNonce ++ x.hostNonce ++ u8 n), lastValid := s.now } := by
  have hevent (s : State) (src code : Nat) (p : List Byte) : (event s src code p).session n = s.session n := by
    simp only [State.session, event_dict]
  have hfails (s : State) (f : AMap Nat) : State.session { s with dict := { s.dict with fails := f } } n = s.session n := rfl
  unfold openNow
  simp only [apply_ite (fun s : State => s.session n), hevent, ite_self, hfails, session_sendFrame, session_setSession_same]

/-- Settles O11: each command by its own cases, a right RESPONSE by the session that it opens. -/
theorem sessionCommandsComplete : Obligations.SessionCommandsComplete := by
  refine ⟨?_, fun _ _ _ _ _ _ _ ht hn hu hr => execOpenSession_refused ht hn hu hr, ?_, fun _ _ h => if_pos h,
    fun _ _ hp he => if_pos ⟨hp, he⟩, fun _ _ hp he => if_pos ⟨hp, he⟩, ?_⟩
  · intro e level options nonce s u n ht hn hu hr hf
    subst hu
    change execOpenSession _ _ _ _ _ = _
    simp only [execOpenSession, ht, hn, hr, hf]
    rfl
  · intro e hmac sealedHmac s ht hl hs hn hp hh hw he hx
    obtain ⟨r, hr⟩ := recovered_eq s (envStream e) e.rtag
    obtain ⟨right, hright⟩ := answerChallenge_right (s := tookFrame s e) (e := e) (n := e.session.toNat) (sealedHmac := sealedHmac)
      (x := s.session e.session.toNat) (hmac := hmac) (by rw [tookFrame, hr]; exact he) (by rw [tookFrame, hr]; exact hx)
    refine ⟨_, execResponse_opening ht hl hs hn hp hh hw, ?_⟩
    rw [hright, session_openNow, tookFrame, hr]
    exact ⟨rfl, rfl, rfl, rfl⟩
  · intro e s s1 n hs hr
    change execClose e s = _
    simp only [execClose, statusOnly, hs, hr]
    rfl

end Sys2Proof.Machine
end

section
/-! PROOFS. O12: read, write and segment requests complete. -/

namespace Sys2Proof.Machine

/-- Checks 1 and 2 take no time. -/
theorem receive_now {s s1 : State} {svc : Nat} {e : Env} {payload : List Byte} {sizeOk : Bool} {who : Requester}
    (h : receive s svc e payload sizeOk = .go s1 who) : s1.now = s.now := by
  have hm := receive_moves (sc := .engine) (by simp) h
  exact congrArg Clocks.roots (hm.engine_same .clk (by decide))

/-- Settles O12: each request is followed through the checks that its hypotheses pass. -/
theorem requestCommandsComplete : Obligations.RequestCommandsComplete := by
  refine ⟨?_, ?_, ?_, ?_, ?_, ?_, ?_, ?_, ?_, ?_, ?_⟩
  · intro e r s s1 s2 who n bs hr hn ht hd
    change execRead e r s = _
    simp only [execRead, hr, hn, ht, hd]
    rfl
  · intro e r s s1 s2 who hr hn ht hw hd
    rw [receive_now hr] at hd
    have hroom : ¬ (who = .anonymous ∧ 8 ≤ anonymousWaiting s1) := fun ⟨ha, h8⟩ => absurd (hw ha) (Nat.not_lt.mpr h8)
    change execRead e r s = _
    simp only [execRead, hr, hn, ht, hd, if_neg hroom]
    rfl
  · intro e w s s1 s2 who hr hn ht hd
    change execWrite e w s = _
    rw [receive_now hr] at hd
    simp [execWrite, anyWrite, tapWrite, hr, hn, ht, hd]
  · intro e w s s1 n hr hn ht hseg hlast hc
    change execWrite e w s = _
    simp [execWrite, anyWrite, serveWrite, beginSegmented, hr, hn, ht, hseg, hlast, hc]
  · intro e w s s1 who ht h
    change execWrite e w s = _
    simp [execWrite, anyWrite, ht, serveWrite_goes h]
  · intro e w s s1 who ht h
    change execPairedWrite e w s = _
    simp [execPairedWrite, anyWrite, ht, serveWrite_goes h]
  · intro e offset data s s1 who x hr hw hx hgap hseg hlast hoff hlen
    have htake : takeSegment s1 x (isSegment e) (isLast e) offset.toNat data = ({ s1 with dict := { s1.dict with
        transfers := s1.dict.transfers.map fun y => if y = x then { y with buf := x.buf ++ data, lastAt := s1.now } else y } }, 0) := by
      rw [List.length_append] at hlen
      simp [takeSegment, hgap, hseg, hlast, hoff, Nat.not_lt.mpr hlen]
    refine ⟨(takeSegment s1 x (isSegment e) (isLast e) offset.toNat data).1, ?_, by rw [htake]⟩
    change execSegment e offset data s = _
    simp only [execSegment, hr, if_neg hw, hx, htake]
  · intro e offset data s s1 v who x hr hw hx hgap hseg hlast hoff hlen hv
    have htake : takeSegment s1 x (isSegment e) (isLast e) offset.toNat data = (v, 0) := by
      simp [takeSegment, hgap, hseg, hlast, hoff, hlen, hv]
    change execSegment e offset data s = _
    simp only [execSegment, hr, if_neg hw, hx, htake]
  · intro n transfer s x hx hgap
    change execSegmentTimeout n transfer s = _
    simp only [execSegmentTimeout, hx, hgap]
    rfl
  · intro e code s s1 who hr
    have hexec : exec (.abort e code) s = execAbort e code s := rfl
    simp only [hexec, execAbort, hr]
    refine ⟨_, rfl, rfl, fun x hx => ?_, fun hwho x hx hmine => ?_⟩
    · exact of_decide_eq_true (List.mem_filter.mp hx).2
    · obtain ⟨hmem, hnot⟩ := List.mem_filter.mp hx
      simp [hmem, hmine, hwho] at hnot
  · intro e service payload s s1 n hs he hr
    change execUnknownService e service payload s = _
    simp only [execUnknownService, statusOnly, List.contains_iff_mem, hs, if_neg he, hr, if_false]
    rfl

end Sys2Proof.Machine
end

section
/-! PROOFS. O13: the dictionary's own settings complete. -/

namespace Sys2Proof.Machine

/-- The dictionary part without what sessions, transfers, taps and replication keep there: its keys, settings and images. -/
def State.dictSettings (s : State) : Dict := { s.dict with sessions := [], transfers := [], taps := [], tapLate := [], frerTx := 0 }

theorem keys_of_settings {s t : State} (h : t.dictSettings = s.dictSettings) : t.dict.keys = s.dict.keys := by
  have hkeys := congrArg Dict.keys h
  exact hkeys

theorem levelFault_of_settings {s t : State} (h : t.dictSettings = s.dictSettings) : t.dict.levelFault = s.dict.levelFault := by
  have hlevelFault := congrArg Dict.levelFault h
  exact hlevelFault

theorem can_of_settings {s t : State} (h : t.dictSettings = s.dictSettings) : t.dict.can = s.dict.can := by
  have hcan := congrArg Dict.can h
  exact hcan

@[simp] theorem event_dictSettings (s : State) (src code : Nat) (p : List Byte) : (event s src code p).dictSettings = s.dictSettings := by
  simp only [State.dictSettings, event_dict]

@[simp] theorem sendFrame_dictSettings (s : State) (o : Out) : (s.sendFrame o).dictSettings = s.dictSettings := by
  obtain ⟨k, h⟩ := sendFrame_dict s o
  simp only [State.dictSettings, h]

@[simp] theorem setSession_dictSettings (s : State) (n : Nat) (x : Session) : (s.setSession n x).dictSettings = s.dictSettings := rfl

@[simp] theorem respond_dictSettings (s : State) (svc : Nat) (e : Env) (p : List Byte) : (respond s svc e p).dictSettings = s.dictSettings := by
  unfold respond
  dsimp only
  split
  · rw [sendFrame_dictSettings, setSession_dictSettings]
  · exact sendFrame_dictSettings ..

@[simp] theorem answerTap_dictSettings (s : State) (t : TapReq) (status length : Nat) (data : List Byte) :
    (answerTap s t status length data).dictSettings = s.dictSettings := by
  unfold answerTap
  split
  · exact respond_dictSettings ..
  · rfl
  · rfl

@[simp] theorem closeSession_dictSettings (s : State) (n reason : Nat) : (closeSession s n reason).dictSettings = s.dictSettings := by
  unfold closeSession
  split
  · rfl
  · rw [event_dictSettings, setSession_dictSettings]
    exact foldl_keeps State.dictSettings (fun s t => answerTap_dictSettings s t abSession 0 []) _ s

@[simp] theorem endSession_dictSettings (s : State) (n reason : Nat) : (endSession s n reason).dictSettings = s.dictSettings := by
  unfold endSession
  split
  · exact closeSession_dictSettings ..
  · rfl
  · rfl

@[simp] theorem closeDue_dictSettings (s : State) : (closeDue s).dictSettings = s.dictSettings := by
  refine foldl_keeps State.dictSettings (fun s k => ?_) _ s
  split
  · rfl
  · exact closeSession_dictSettings ..

@[simp] theorem writeAnswered_dictSettings (s1 : State) (who : Requester) (e : Env) (paired : Bool) (w : WriteReq) (a : Action) :
    (writeAnswered s1 who e paired w a).dictSettings = (written s1 who paired w a).dictSettings := respond_dictSettings ..

/-- A key that is written is held; the sessions of its level end, or are to end. -/
theorem actLevelKey_dictSettings (n : Nat) (s : State) (who : Requester) (old v : List Byte) :
    ((actLevelKey n).apply s who old v).dictSettings =
      State.dictSettings { s with dict := { s.dict with keys := AMap.set [] s.dict.keys n ((unwrapBy s who v).getD []) } } := by
  have hend (own : Option Nat) (s : State) (l : List Nat) :
      (l.foldl (fun s k => if (s.session k).level = n ∧ own ≠ some k then endSession s k 2 else s) s).dictSettings = s.dictSettings :=
    foldl_keeps State.dictSettings (fun s k => by split <;> simp) l s
  unfold actLevelKey
  dsimp only
  split <;> simp only [setSession_dictSettings, hend, event_dictSettings]

/-- A write of the enabled levels ends their fault. -/
theorem actLevelEnable_dictSettings (s : State) (who : Requester) (old v : List Byte) :
    (actLevelEnable.apply s who old v).dictSettings = State.dictSettings { s with dict := { s.dict with levelFault := false } } := by
  unfold actLevelEnable
  refine foldl_keeps State.dictSettings (fun s p => foldl_keeps State.dictSettings (fun s k => ?_) _ s) _ _
  split
  · rfl
  · split
    · rfl
    · exact endSession_dictSettings ..

theorem bytesOf_putObj_same (s : State) (idx sub : Nat) (v : List Byte) (h : v ≠ []) : (s.putObj idx sub v).bytesOf idx sub = v := by
  have hstored : (s.putObj idx sub v).stored idx sub = ⟨v, if isRwp idx sub then complBytes v else []⟩ := AMap.get_set_same ..
  unfold State.bytesOf
  rw [hstored, if_neg fun hdefault => h (congrArg ObjVal.val hdefault)]

theorem bytesOf_putObj_other (s : State) {idx sub jdx jsub : Nat} (v : List Byte) (h : objKey jdx jsub ≠ objKey idx sub) :
    (s.putObj idx sub v).bytesOf jdx jsub = s.bytesOf jdx jsub := by
  have hstored : (s.putObj idx sub v).stored jdx jsub = s.stored jdx jsub := AMap.get_set_other _ _ _ _ _ h
  unfold State.bytesOf
  rw [hstored]
  rfl

theorem num_putObj_other (s : State) {idx sub jdx jsub : Nat} (v : List Byte) (h : objKey jdx jsub ≠ objKey idx sub) :
    (s.putObj idx sub v).num jdx jsub = s.num jdx jsub := congrArg leNat (bytesOf_putObj_other s v h)

/-- Settles O13: what each of these writes leaves of the dictionary's settings, where the rest of the write leaves them alone. -/
theorem dictionarySettingsComplete : Obligations.DictionarySettingsComplete := by
  refine ⟨?_, ?_, ?_, ?_, ?_⟩
  · intro e key wrap s s1 who h
    have hk := key.isLt
    refine ⟨_, rfl, by rw [serveWrite_goes h], ?_⟩
    rw [serveWrite_goes h]
    rw [keys_of_settings (closeDue_dictSettings _), keys_of_settings (writeAnswered_dictSettings ..),
      written_wo (by omega) (by omega) (row_dictKeysWrite key) rfl rfl]
    exact keys_of_settings (actLevelKey_dictSettings (key.val + 1) s1 who (s1.bytesOf 0x1120 (key.val + 1)) wrap)
  · intro e v c s s1 who h
    refine ⟨_, rfl, by rw [serveWrite_goes h], ?_⟩
    rw [serveWrite_goes h]
    rw [levelFault_of_settings (closeDue_dictSettings _), levelFault_of_settings (writeAnswered_dictSettings ..),
      written_rwp (v := [v]) (c := [c]) (a := actLevelEnable) (by decide) (by decide) row_dictLevelEnableWrite rfl rfl rfl]
    exact levelFault_of_settings (actLevelEnable_dictSettings ..)
  · intro e v
    refine rowCompletes_host (fun _ => rfl) fun s s1 who h => ?_
    rw [can_of_settings (writeAnswered_dictSettings ..), written_rw (by decide) (by decide) row_canEnable rfl rfl rfl]
    have hnum (sub : Nat) (hsub : objKey 0x1040 sub ≠ objKey 0x1040 1) := num_putObj_other s1 [v] hsub
    refine ⟨fun hv => ?_, fun hv hold => ?_⟩
    · subst hv
      exact ⟨rfl, rfl⟩
    · subst hv
      have hold' : leNat (s1.bytesOf 0x1040 1) = 0 := hold
      simp only [actCanEnable, hold', hnum 2 (by decide), hnum 3 (by decide), hnum 4 (by decide), hnum 5 (by decide)]
      exact ⟨rfl, rfl, rfl, rfl, rfl⟩
  · intro s at_ l hp ht
    change execGateListTakesEffect s = _
    simp only [execGateListTakesEffect, hp]
    exact if_pos ht
  · intro state tec recv s hr hs
    change ∃ t, execCanBusOff state tec recv s = .next t ∧ _
    simp only [execCanBusOff, hr, hs, not_true_eq_false, or_self, if_false]
    exact ⟨_, rfl, by split <;> simp⟩

end Sys2Proof.Machine
end

section
/-! PROOFS. O14: CAN, process-data and tap commands complete. -/

namespace Sys2Proof.Machine

/-! #### A CANopen FD client's request, by its kind -/

section
variable {node : Fin 128} {r : UsdoReq} {s : State} (ha : s.available = true) (hr : s.dict.can.running = true)
  (hb : s.dict.can.busState ≠ 3) (hn : r.server.val = s.dict.can.node)
include ha hr hb hn

theorem execUsdoRequest_segment (hk : r.kind = 3) : exec (.usdoRequest node r) s = .next (canSegment (counted s 0 1 0 1) node r false) := by
  change execUsdoRequest node r s = _
  simp [execUsdoRequest, ha, hr, hb, hn, hk]

theorem execUsdoRequest_last (hk : r.kind = 4) : exec (.usdoRequest node r) s = .next (canSegment (counted s 0 1 0 1) node r true) := by
  change execUsdoRequest node r s = _
  simp [execUsdoRequest, ha, hr, hb, hn, hk]

theorem execUsdoRequest_other (hk : r.kind = 5) :
    exec (.usdoRequest node r) s = .next (canAnswer (counted s 0 1 0 1) node r.index r.sub 0x05040001 []) := by
  change execUsdoRequest node r s = _
  simp [execUsdoRequest, ha, hr, hb, hn, hk, abService]

variable (hbusy : canBusy (counted s 0 1 0 1) node = false) (hc : canClients (counted s 0 1 0 1) node < 4)
include hbusy hc

theorem execUsdoRequest_read (hk : r.kind = 0) : exec (.usdoRequest node r) s = .next (canRead (counted s 0 1 0 1) node r) := by
  change execUsdoRequest node r s = _
  simp [execUsdoRequest, ha, hr, hb, hn, hk, hbusy, Nat.not_le.mpr hc]

theorem execUsdoRequest_write (hk : r.kind = 1) : exec (.usdoRequest node r) s = .next (canWrite (counted s 0 1 0 1) node r) := by
  change execUsdoRequest node r s = _
  simp [execUsdoRequest, ha, hr, hb, hn, hk, hbusy, Nat.not_le.mpr hc]

theorem execUsdoRequest_begin (hk : r.kind = 2) : exec (.usdoRequest node r) s = .next (canBegin (counted s 0 1 0 1) node r) := by
  change execUsdoRequest node r s = _
  simp [execUsdoRequest, ha, hr, hb, hn, hk, hbusy, Nat.not_le.mpr hc]

end

/-! #### Process-data images -/

/-- The state that an image frame is judged in differs in the stream's recovery alone. -/
theorem execProcessData_held {port : Fin 2} {srcMac : BitVec 48} {rtag : Option (BitVec 16)} {cycle : BitVec 32} {status : Byte}
    {image mac : List Byte} {s u : State} (hrun : imagesRun s = true) (hdup : notDuplicate s (frerStream srcMac.toNat 2) rtag = true)
    (hu : u = recovered s (frerStream srcMac.toNat 2) rtag) (hsrc : u.num 0x1060 9 = 0 ∨ u.num 0x1060 9 = srcMac.toNat)
    (hlen : image.length = mapLength u 0x1062)
    (hmac : u.num 0x1060 11 = 1 → AMap.get [] u.dict.keys 2 ≠ [] ∧ mac = imageMac u 0x08 cycle (imagePayload status image))
    (htime : u.tai ≤ cycleNamed u cycle * cycleNs u + u.num 0x1060 6) (hnew : u.dict.pd.lastBoundary < cycleNamed u cycle) :
    exec (.processData port srcMac rtag cycle status image mac) s = .next { u with dict := { u.dict with pd := { u.dict.pd with
      held := AMap.ins u.dict.pd.held (cycleNamed u cycle) (status :: image) } } } := by
  have hcycle : cycleNamed s cycle = cycleNamed u cycle := by
    obtain ⟨x, hx⟩ := recovered_eq s (frerStream srcMac.toNat 2) rtag
    rw [hu, hx]
    rfl
  have hform : ¬ ((u.num 0x1060 9 ≠ 0 ∧ u.num 0x1060 9 ≠ srcMac.toNat) ∨ image.length ≠ mapLength u 0x1062) := by
    rintro (⟨h0, h1⟩ | h)
    · exact hsrc.elim h0 h1
    · exact h hlen
  have hauth : ¬ (u.num 0x1060 11 = 1 ∧ (AMap.get [] u.dict.keys 2 = [] ∨ mac ≠ imageMac u 0x08 cycle (imagePayload status image))) := by
    rintro ⟨h1, h | h⟩
    · exact (hmac h1).1 h
    · exact h (hmac h1).2
  have hdue : ¬ (cycleNamed u cycle * cycleNs u + u.num 0x1060 6 < u.tai ∨ cycleNamed u cycle ≤ u.dict.pd.lastBoundary) := by omega
  change execProcessData port srcMac rtag cycle status image mac s = _
  simp only [execProcessData, hrun, hdup, ← hu, hcycle, if_neg hform, if_neg hauth, if_neg hdue]
  rfl

/-- Where enough images are missed, the fault and the taps' stale flag are set, and the enabled teams fall back. -/
theorem execPdReceiveFault_missed {s : State} (hrun : imagesRun s = true) (hf : s.dict.pd.fault = false)
    (hm : s.num 0x1060 7 ≤ s.dict.pd.missed) : ∃ t u, exec .pdReceiveFault s = .next t ∧
      t.dict.pd = { s.dict.pd with fault := true, tapStale := true } ∧ u.dict.pd = t.dict.pd ∧
      t.teams = (triggerFallbacks u ((List.range 16).filter fun n => causeEnabled u n 4) 4).teams := by
  have hdict (s : State) (ts : List Nat) : (triggerFallbacks s ts 4).dict = s.dict :=
    (triggerFallbacks_links s ts 4 (by simp)).same (ps := [.stage, .grants, .teams, .board, .obs]) .dict
  have hpair (s : State) (l : List Nat) : (l.foldl (fun s t => usePair s (0x6210 + t) 5) s).dict = s.dict :=
    foldl_keeps State.dict (fun s t => (usePair_links s (0x6210 + t) 5 (by simp)).same (ps := [.obj, .ecc, .board, .obs]) .dict) l s
  have hexec : exec .pdReceiveFault s = execPdReceiveFault s := rfl
  simp only [hexec, execPdReceiveFault, hrun, hf, Nat.not_lt.mpr hm, not_true_eq_false, or_self, if_false, Bool.false_eq_true]
  refine ⟨_, _, rfl, ?_, ?_, rfl⟩
  · rw [hdict, hpair, event_dict]
  · rw [hdict]

/-! #### An image's sampling leaves the images' settings -/

/-- No setting of the images is protected, so none falls back. -/
theorem isRwp_images (sub : Nat) : isRwp 0x1060 sub = false := by
  have hrows : objTable.all (fun r => decide (r.lo ≤ 0x1060 → 0x1060 ≤ r.hi → r.acc ≠ .rwp)) = true := by decide +kernel
  rw [← Bool.not_eq_true]
  intro h
  unfold isRwp at h
  split at h
  · next r hr =>
    have hacc := of_decide_eq_true (List.all_eq_true.mp hrows r (List.mem_of_find?_eq_some hr))
    have hcov := List.find?_some hr
    simp only [ObjRow.covers, Bool.and_eq_true, decide_eq_true_eq] at hcov
    exact hacc (by omega) (by omega) (of_decide_eq_true h)
  · cases h

theorem num_images_of_stored {s t : State} {sub : Nat} (h : t.stored 0x1060 sub = s.stored 0x1060 sub) :
    t.num 0x1060 sub = s.num 0x1060 sub := by
  have hdefault : defaultBytes t 0x1060 sub = defaultBytes s 0x1060 sub := by simp [defaultBytes]
  unfold State.num State.bytesOf
  rw [h, hdefault]

theorem stored_putObj_other (s : State) {idx sub jdx jsub : Nat} (v : List Byte) (h : objKey jdx jsub ≠ objKey idx sub) :
    (s.putObj idx sub v).stored jdx jsub = s.stored jdx jsub := AMap.get_set_other _ _ _ _ _ h

theorem stored_resetObj_other (s : State) {idx sub jdx jsub : Nat} (h : objKey jdx jsub ≠ objKey idx sub) :
    (s.resetObj idx sub).stored jdx jsub = s.stored jdx jsub := AMap.get_del_other _ _ _ _ h

theorem objFallback_stored (s : State) {idx sub : Nat} (jdx jsub : Nat) (hi : jdx ≠ idx) (hj : jsub < 256) (hs : sub < 256) :
    (objFallback s idx sub).stored jdx jsub = s.stored jdx jsub := by
  have hkey (k : Nat) (hk : k < 256) : objKey jdx jsub ≠ objKey idx k := by
    intro h
    have h' : jdx * 256 + jsub = idx * 256 + k := h
    omega
  have hobj {t u : State} (h : t.obj = u.obj) : t.stored jdx jsub = u.stored jdx jsub := by rw [State.stored, h, State.stored]
  have hcomp (t : State) (i k : Nat) : (compEvent t i k).obj = t.obj := (compEvent_links t i k (by simp)).same (ps := [.ecc, .board, .obs]) .obj
  have hclose (t : State) (l : Nat) : (closeLevel t l 3).obj = t.obj :=
    (closeLevel_links t l 3 (by simp)).same (ps := [.outs, .dict, .board, .obs]) .obj
  have hcount (t : State) (i k : Nat) : (countComp t i k).obj = t.obj := (countComp_links t i k (by simp)).same (ps := [.ecc, .board, .obs]) .obj
  have hput (t : State) (k : Nat) (hk : k < 256) (v : List Byte) := stored_putObj_other t v (hkey k hk)
  have hreset (t : State) (k : Nat) (hk : k < 256) := stored_resetObj_other t (hkey k hk)
  unfold objFallback
  split
  · next h =>
    subst h
    have hlevels (l : List Nat) (t : State) : (l.foldl (fun s l => closeLevel s l 3) t).obj = t.obj :=
      foldl_keeps State.obj (fun t l => hclose t l) l t
    unfold levelFault
    have hset (u : State) : { u with dict.levelFault := true }.obj = u.obj := rfl
    rw [hobj ((hlevels _ _).trans ((hset _).trans (hcomp (s.putObj 0x1110 0 [0x08]) _ _)))]
    exact hput s 0 (by decide) _
  split
  · exact hobj ((teamFault_links s (idx - 0x6210) sub (by simp)).same (ps := [.grants, .teams, .ecc, .board, .obs]) .obj)
  split
  · exact (hobj (hcomp _ _ _)).trans (hput _ _ hs _)
  split
  · exact (hobj (hcomp _ _ _)).trans (hput _ _ hs _)
  split
  · next h =>
    subst h
    exact (hobj (hcomp _ _ _)).trans (hput _ _ hs _)
  split
  · next h =>
    subst h
    unfold scrubFallback
    rw [hobj (event_obj ..), hobj (hcount _ _ _), hreset _ _ (by decide), hreset _ _ (by decide)]
  split
  · split
    · rfl
    · exact hobj ((regionCompFault_links s (idx - 0x6810) sub (by simp)).same (ps := [.ecc, .crypt, .board, .obs]) .obj)
  split
  · next hp =>
    have hidx : 0x6920 + (idx - 0x6920) = idx := by omega
    unfold pinFallback
    rw [hobj (hcomp _ _ _), hidx, hreset _ _ (by omega)]
    exact hobj ((applySafe_links s _ _ _ (by simp)).same (ps := [.banks, .pins, .board, .obs]) .obj)
  split
  · next h =>
    subst h
    unfold thresholdFault
    rw [hobj (event_obj ..), hobj (hcount _ _ _), hreset _ _ hs]
  · exact (hobj (hcomp _ _ _)).trans (hreset _ _ hs)

theorem readFault_images {s t : State} {idx sub : Nat} (hs : sub < 256) (h : readFault s idx sub = some t) (k : Nat) (hk : k < 256) :
    t.stored 0x1060 k = s.stored 0x1060 k := by
  have hobj {t : State} (h : t.obj = s.obj) : t.stored 0x1060 k = s.stored 0x1060 k := by rw [State.stored, h, State.stored]
  unfold readFault at h
  split at h
  · next hr =>
    cases h
    refine objFallback_stored s _ _ (fun hi => ?_) hk hs
    rw [← hi, isRwp_images] at hr
    exact absurd hr.1 Bool.false_ne_true
  split at h
  · cases h
    exact hobj ((checkRoot_links s _ (by simp)).same (ps := [.ecc, .crypt, .board, .obs]) .obj)
  split at h
  · cases h
    exact hobj ((checkTable_links (sc := { Scope.quiet [.pan, .ecc, .sealed, .board, .obs] with panBytes := True }) s (by simp) trivial).moves.frame .obj
      (by decide))
  · cases h

theorem sampleEntry_images (taps : List (Nat × List Byte)) (s : State) (v k : Nat) (hk : k < 256) :
    (sampleEntry taps s v).1.stored 0x1060 k = s.stored 0x1060 k := by
  have hsub : field v 15 8 < 256 := Nat.mod_lt _ (by decide)
  unfold sampleEntry
  dsimp only
  split
  · split <;> rfl
  · have hread : ((readFault s (field v 31 16) (field v 15 8)).getD s).stored 0x1060 k = s.stored 0x1060 k := by
      cases hf : readFault s (field v 31 16) (field v 15 8) with
      | none => rfl
      | some t => exact readFault_images hsub hf k hk
    split <;> exact hread

theorem sampleEntries_images (taps : List (Nat × List Byte)) (l : List Nat) (s : State) (k : Nat) (hk : k < 256) :
    (sampleEntries taps l s).1.num 0x1060 k = s.num 0x1060 k := by
  refine num_images_of_stored ?_
  induction l generalizing s with
  | nil => rfl
  | cons v rest ih => exact (ih _).trans (sampleEntry_images taps s v k hk)

/-- Settles O14: a client's request by its kind, an image by its boundary, and a tap's request by its answer. -/
theorem transportCommandsComplete : Obligations.TransportCommandsComplete := by
  refine ⟨?_, fun _ _ _ _ _ _ _ _ _ hrun hdup hu hsrc hlen hmac htime hnew => execProcessData_held hrun hdup hu hsrc hlen hmac htime hnew,
    ?_, fun _ hrun hf hm => execPdReceiveFault_missed hrun hf hm, ?_, ?_, ?_, ?_⟩
  · intro node r s u ha hr hb hn hu
    subst hu
    refine ⟨fun hbusy hc htap => ⟨fun v n bs hk hd hlen => ?_, fun v hk hd => ?_, fun hk hlen hcheck => ?_⟩,
      fun hbusy hc htap => ⟨fun v hk hd => ?_, fun v hk hd => ?_⟩, fun x v hk hx hv => ?_, fun x v hk hx htap hv => ?_,
      execUsdoRequest_other ha hr hb hn⟩
    · rw [execUsdoRequest_read ha hr hb hn hbusy hc hk]
      simp only [canRead, htap, hd, Nat.not_lt.mpr hlen, Bool.false_eq_true, if_false, ne_eq, not_true_eq_false]
    · rw [execUsdoRequest_write ha hr hb hn hbusy hc hk]
      simp only [canWrite, htap, hd, Bool.false_eq_true, if_false]
    · rw [execUsdoRequest_begin ha hr hb hn hbusy hc hk]
      simp only [canBegin, htap, Nat.not_lt.mpr hlen, hcheck, Bool.false_eq_true, false_and, or_false, if_false]
      have hnow : (counted s 0 1 0 1).now = s.now := by rw [State.now, counted_clk, State.now]
      exact ⟨_, by rw [hnow]⟩
    · rw [execUsdoRequest_read ha hr hb hn hbusy hc hk]
      simp only [canRead, htap, hd, if_true]
    · rw [execUsdoRequest_write ha hr hb hn hbusy hc hk]
      unfold canTapReq at hd
      simp only [canWrite, htap, hd, if_true]
    · rw [execUsdoRequest_segment ha hr hb hn hk]
      simp only [canSegment, hx, hv, Bool.false_eq_true, false_and, and_false, if_false]
    · rw [execUsdoRequest_last ha hr hb hn hk]
      simp only [canSegment, hx, htap, hv, Bool.false_eq_true, false_and, if_false]
  · intro s k hrun ht hk hne
    subst hk
    refine ⟨fun status image v hheld hv => ?_, fun hheld => ?_⟩
    · change execRxImageApply s = _
      subst hv
      simp only [execRxImageApply, hrun, Nat.not_lt.mpr ht, hne, hheld, not_true_eq_false, or_self, if_false]
    · change execRxImageApply s = _
      simp only [execRxImageApply, hrun, Nat.not_lt.mpr ht, hne, hheld, not_true_eq_false, or_self, if_false]
  · intro taps s v k image stale hrun ht hk hne hs
    subst hk
    have hexec : exec (.txImageSample taps) s = execTxImageSample taps s := rfl
    have hnum (sub : Nat) (hsub : sub < 256) : { v with dict.pd := { v.dict.pd with lastTx := cycleCount s (s.num 0x1060 5) } }.num 0x1060 sub = s.num 0x1060 sub := by
      have h := sampleEntries_images taps (mapEntries s 0x1061) s sub hsub
      rw [hs] at h
      exact (num_images_of_stored rfl).trans h
    simp only [hexec, execTxImageSample, hrun, Nat.not_lt.mpr ht, hne, hs, not_true_eq_false, or_self, if_false, hnum 8 (by decide), hnum 10 (by decide)]
    exact ⟨fun h11 => by simp only [h11, if_true], fun h11 hkey => by simp only [h11, hkey, if_false]⟩
  · intro tap s r hr hs hc
    change execTapForward tap s = _
    simp [execTapForward, hr, hs, hc]
    rfl
  · intro tap status data s r hr hs
    subst hs
    refine ⟨fun hw ho => ?_, fun hw => ?_⟩
    · change execTapAnswer tap false 0 data s = _
      simp [execTapAnswer, hr, hw, Nat.not_lt.mpr ho]
    · change execTapAnswer tap false 0 data s = _
      simp [execTapAnswer, hr, hw]
  · intro tap s r hr he
    refine ⟨{ s with dict := { s.dict with taps := s.dict.taps.erase r, tapLate := s.dict.tapLate ++ [r],
                                              tapTimeouts := AMap.upd 0 s.dict.tapTimeouts (timeoutKey tap r.ctx) (satInc · 0xFFFF) } }, ?_, rfl⟩
    change execTapTimeout tap s = _
    simp [execTapTimeout, hr, he, abTapTimeout]

end Sys2Proof.Machine
end

section
/-! PROOFS. O15: clock edges of the fabric cells complete. -/

namespace Sys2Proof.Machine

/-! #### The edge of a block memory's ports -/

@[simp] theorem State.opened_at (s : State) : s.opened.edge.at_ = s.now + 1 := by
  unfold State.opened
  split
  · assumption
  · rfl

@[simp] theorem State.opened_clk (s : State) : s.opened.clk = s.clk := by
  unfold State.opened
  split <;> rfl

@[simp] theorem flipRow_at (s : State) (p : Option PortAct) (flips : BitVec 72) : (flipRow s p flips).edge.at_ = s.edge.at_ := by
  cases p <;> rfl

@[simp] theorem writeRow_at (s : State) (p : Option PortAct) (keep : Nat) : (writeRow s p keep).edge.at_ = s.edge.at_ := by
  cases p with
  | none => rfl
  | some p =>
    rw [writeRow]
    split <;> rfl

@[simp] theorem latchRead_at (s : State) (p : Nat) (reg : Bool) (i : BmPortIn) (r : Option (BitVec 72 × Nat)) :
    (latchRead s p reg i r).edge.at_ = s.edge.at_ := by
  rfl

@[simp] theorem bmError_at (s : State) (u : UnitId) (flags : Nat) : (bmError s u flags).edge.at_ = s.edge.at_  := by
  rw [show (bmError s u flags).edge = s.edge from (bmError_links s u flags (by simp)).same (ps := [.ecc, .board, .obs])   .edge]

theorem blockmemEdge_at (s : State) (u : UnitId) (a b : Option BmPortIn) (idleDin : BitVec 36) (unordered : Bool) (flips : BitVec 72) :
    (blockmemEdge s u a b idleDin unordered flips).edge.at_ = s.edge.at_ := by
  unfold blockmemEdge
  dsimp only
  repeat' split
  all_goals simp [State.drew]

theorem edgeDone_edgeTaken {s : State} (h : s.edge.at_ = s.now + 1) (x : Elem) : (s.edgeTaken x).edgeDone x = true := by
  have hnow : (s.edgeTaken x).edge.at_ = (s.edgeTaken x).now + 1 := h
  have hmem : (s.edgeTaken x).edge.done.contains x = true := by simp [State.edgeTaken]
  rw [State.edgeDone, hmem, decide_eq_true hnow]
  rfl

theorem edgeDone_later {s : State} (x y : Elem) (h : s.edgeDone y = true) : (s.edgeTaken x).edgeDone y = true := by
  have hs := (Bool.and_eq_true _ _).mp h
  have hat : decide ((s.edgeTaken x).edge.at_ = (s.edgeTaken x).now + 1) = true := hs.1
  have hmem : s.edge.done.contains y = true := hs.2
  rw [State.edgeDone, hat, Bool.true_and]
  simp only [State.edgeTaken, List.contains_cons, hmem, Bool.or_true]

theorem edgeTaken_boot (s : State) (x : Elem) : (s.opened.edgeTaken x).boot = s.boot := by
  unfold State.opened
  split <;> rfl

theorem edgeTaken_activePlane (s : State) (x : Elem) (g : Nat) : (s.opened.edgeTaken x).activePlane g = s.activePlane g := by
  unfold State.opened
  split <;> rfl

theorem filter_portTakes {s : State} {u : UnitId} {b : Bool} {p : Option BmPortIn} (h : p.isSome = true → portTakes s u b = true) :
    p.filter (fun _ => portTakes s u b) = p := by
  cases p with
  | none => rfl
  | some i => rw [Option.filter_some, if_pos (h rfl)]

/-- The edge of the ports that take it: what it leaves, and that each has taken it. -/
theorem takeBlockEdge_taken {s : State} {u : UnitId} {a b : Option BmPortIn} {idleDin : BitVec 36} {unordered : Bool} {flips : BitVec 72}
    (hab : a.isSome = true ∨ b.isSome = true) (ha : a.isSome = true → portTakes s u false = true)
    (hb : b.isSome = true → portTakes s u true = true) :
    let t := takeBlockEdge s u a b idleDin unordered flips
    let t' := blockmemEdge s.opened u a b idleDin unordered flips
    t.fab = t'.fab ∧ t.ecc = t'.ecc ∧ (a.isSome = true → t.edgeDone (.port (unitNum u * 2)) = true) ∧
      (b.isSome = true → t.edgeDone (.port (unitNum u * 2 + 1)) = true) := by
  intro t t'
  have hat : t'.edge.at_ = t'.now + 1 := by
    have hclk : t'.clk = s.opened.clk := (blockmemEdge_links s.opened u a b idleDin unordered flips (by simp)).same
      (ps := [.freeCtr, .fab, .edge, .ecc, .board, .obs]) .clk
    rw [blockmemEdge_at, State.opened_at, State.now, State.now, hclk, State.opened_clk]
  have htake : t = if b.isSome = true then (if a.isSome = true then t'.edgeTaken (.port (unitNum u * 2)) else t').edgeTaken (.port (unitNum u * 2 + 1))
      else if a.isSome = true then t'.edgeTaken (.port (unitNum u * 2)) else t' := by
    have hnone : ¬ (a.isNone = true ∧ b.isNone = true) := by
      rintro ⟨h, h'⟩
      cases a <;> cases b <;> simp_all
    unfold t takeBlockEdge
    rw [filter_portTakes ha, filter_portTakes hb, if_neg hnone]
  have hat' (x : Elem) : (t'.edgeTaken x).edge.at_ = (t'.edgeTaken x).now + 1 := hat
  rw [htake]
  refine ⟨by split <;> split <;> rfl, by split <;> split <;> rfl, fun h => ?_, fun h => ?_⟩
  · rw [if_pos h]
    split
    · exact edgeDone_later _ _ (edgeDone_edgeTaken hat _)
    · exact edgeDone_edgeTaken hat _
  · rw [if_pos h]
    split
    · exact edgeDone_edgeTaken (hat' _) _
    · exact edgeDone_edgeTaken hat _

/-- Settles O15: each edge by the model's own edge function, where the element takes the edge. -/
theorem fabricCellEdgesComplete : Obligations.FabricCellEdgesComplete := by
  refine ⟨fun u a b unordered flips s hab ha hb => ⟨_, rfl, takeBlockEdge_taken hab ha hb⟩, ?_, ?_, ?_, ?_⟩
  · intro u i s cfg hcfg hclk hdone
    subst hcfg
    change Host.Outcome.next (takeSliceEdge s u i) = _
    simp only [takeSliceEdge, hclk, hdone, not_true_eq_false, Bool.false_eq_true, or_self, if_false]
  · intro u i s hclk hdone
    change Host.Outcome.next (takeQueueEdge s u i) = _
    simp only [takeQueueEdge, hclk, hdone, not_true_eq_false, Bool.false_eq_true, or_self, if_false]
  · intro clk s u gs cs hu hrise hdone hgs hcs
    subst hu hgs hcs
    change execFabricClockEdge clk s = _
    simp only [execFabricClockEdge, hrise, hdone, not_true_eq_false, Bool.false_eq_true, false_and, or_self, if_false, if_true,
      edgeTaken_boot, edgeTaken_activePlane]
  · intro clk s u cs hu hrise hfall hdone hcs
    subst hu hcs
    change execFabricClockEdge clk s = _
    simp only [execFabricClockEdge, hrise, hfall, hdone, not_true_eq_false, Bool.false_eq_true, and_false, or_self, if_false,
      edgeTaken_boot, edgeTaken_activePlane]

end Sys2Proof.Machine
end

section
/-! PROOFS. O16: readback, divisors, delay lines and base ports complete. -/

namespace Sys2Proof.Machine

theorem edgeTaken_planes (s : State) (x : Elem) : (s.opened.edgeTaken x).planes = s.planes := by
  unfold State.opened
  split <;> rfl

/-- A whole write of a stored object whose row keeps the bits outside its mask. -/
theorem written_rw_fields {s1 : State} {who : Requester} {idx sub : Nat} {v : List Byte} {a : Action} {r : ObjRow} (hi : idx < 65536)
    (hs : sub < 256) (hr : rowOf idx sub = some r) (hw : r.acc = .rw) (ha : a.stores = true) (hc : a.clean v = v := by rfl) :
    written s1 who false (wholeWrite idx sub v) a = a.late (a.apply (s1.putObj idx sub (keepFields r (s1.bytesOf idx sub) v)) who
      (s1.bytesOf idx sub) (keepFields r (s1.bytesOf idx sub) v)) v 0 := by
  simp [written, valueOf, wholeWrite, applyWrite, hr, hw, ha, storedForm, hc, Nat.mod_eq_of_lt hi, Nat.mod_eq_of_lt hs]

/-- The low four bits of a field that the row's mask has are the ones written. -/
theorem keepFields_nibble {r : ObjRow} (hm : r.mask = 15) (hr : tySize r.ty = 1) (old : List Byte) (v : Byte) :
    leNat (keepFields r old [v]) % 16 = v.toNat % 16 := by
  have hone (x : Nat) : leNat (leBytes x 1) = x % 256 := by simp [leBytes]
  have hlow (x : Nat) : x % 256 % 16 = x % 16 := by omega
  rw [keepFields, hm, hr, if_neg (by decide), hone, hlow, leNat_u8]
  change ((leNat old &&& (2 ^ 64 - 1 - 15)) ||| (v.toNat &&& 15)) % 2 ^ 4 = v.toNat % 2 ^ 4
  rw [Nat.or_mod_two_pow, Nat.and_mod_two_pow, Nat.and_mod_two_pow]
  simpa using (Nat.and_two_pow_sub_one_eq_mod (v.toNat % 16) 4).trans (Nat.mod_mod ..)

@[simp] theorem lineStep_target (now target : Nat) (l : DelayLine) (h : l.movedAt ≠ some now) : (lineStep now target l).target = target := by
  rw [lineStep, if_neg h]
  repeat' split
  all_goals rfl

theorem lineStep_below {now target : Nat} {l : DelayLine} (h : l.movedAt ≠ some now) (hl : l.now < target) :
    (lineStep now target l).now = l.now + 1 := by
  rw [lineStep, if_neg h, if_pos hl]

theorem lineStep_above {now target : Nat} {l : DelayLine} (h : l.movedAt ≠ some now) (hl : target < l.now) :
    (lineStep now target l).now = l.now - 1 := by
  rw [lineStep, if_neg h, if_neg (by omega), if_pos hl]

theorem lineStep_there {now : Nat} {l : DelayLine} (h : l.movedAt ≠ some now) : (lineStep now l.now l).now = l.now := by
  rw [lineStep, if_neg h, if_neg (by omega), if_neg (by omega)]

/-- Settles O16: each clause by the branch of its command that the state takes. -/
theorem fabricServicesComplete : Obligations.FabricServicesComplete := by
  refine ⟨?_, ?_, ?_, ?_, ?_, ?_, ?_⟩
  · refine fun e v => rowCompletes_host (fun _ => rfl) fun s s1 who h => ?_
    rw [writeAnswered, respond_fab, written_wo (by decide) (by decide) row_fabMemReadCommand rfl rfl]
    rfl
  · intro s h
    exact (if_neg (not_not.mpr h)).trans (if_pos rfl)
  · intro s n h hn
    subst hn
    exact (if_neg (not_not.mpr h)).trans (if_neg Bool.false_ne_true)
  · refine fun e n v => rowCompletes_host (fun _ => rfl) fun s s1 who h => ?_
    rw [writeAnswered, respond_clk, written_rw_fields (by decide) (by have := n.isLt; omega) (row_fabFclkWrite n) rfl rfl]
    have hnibble := keepFields_nibble (r := ⟨0x6310, 0x6310, 1, 8, 0x05, .rw, 4, 2, [], 0, 0, 15⟩) rfl rfl (s1.bytesOf 0x6310 (n.val + 1)) v
    simp only [actFclk, hnibble, State.putObj_clk]
  · intro n s hb hn
    change Host.Outcome.next (if s.atBoundary then takeDivisor s n.val else s) = _
    rw [if_pos hb, takeDivisor, if_neg hn]
  · intro line s hb hmoved
    refine ⟨lineStep s.now (lineTarget s line) (AMap.get {} s.test.lines line), congrArg _ (if_pos hb), lineStep_target _ _ _ hmoved,
      lineStep_below hmoved, lineStep_above hmoved, fun h => ?_⟩
    rw [← h]
    exact lineStep_there hmoved
  · intro sector cluster ws s b k hmoves hfence htakes hk hb
    subst hk hb
    have htaken : exec (.baseportTransaction sector cluster ws) s =
        .next (portTaken (s.opened.edgeTaken (.base (sector.val * 64 + cluster.val))) sector.val cluster.val ws) := by
      change Host.Outcome.next _ = _
      simp only [hmoves, hfence, htakes, not_true_eq_false, Bool.false_eq_true, or_self, if_false]
    refine ⟨fun hk => ?_, fun hk => ?_⟩
    · rw [htaken, portTaken, portTransaction, if_pos hk, edgeTaken_planes]
    · rw [htaken, portTaken, portTransaction, if_neg (by omega), if_pos hk, edgeTaken_planes]

end Sys2Proof.Machine
end

section
/-! PROOFS. O17: the operations of CTX_SWITCH complete. -/

namespace Sys2Proof.Machine

/-! #### Teams, through the operations on them -/

@[simp] theorem team_updTeam_same (s : State) (t : Nat) (f : Team → Team) : (s.updTeam t f).team t = f (s.team t) := AMap.get_upd_same ..

theorem team_updTeam_other (s : State) {t k : Nat} (f : Team → Team) (h : k ≠ t) : (s.updTeam t f).team k = s.team k :=
  AMap.get_upd_other _ _ _ _ _ h

@[simp] theorem event_team (s : State) (src code : Nat) (p : List Byte) (k : Nat) : (event s src code p).team k = s.team k := by
  rw [State.team, event_teams, State.team]

/-- What a pending switch was asked with: all but its edge and how it came by it. -/
structure Pending.SameRequest (p q : Pending) : Prop where
  trigger : q.trigger = p.trigger
  plane : q.plane = p.plane
  due : q.due = p.due
  acceptedAt : q.acceptedAt = p.acceptedAt
  drainAt : q.drainAt = p.drainAt

theorem event_if_team (c : Prop) [Decidable c] (s : State) (src code : Nat) (p : List Byte) (k : Nat) :
    (if c then event s src code p else s).team k = s.team k := by
  split
  · exact event_team ..
  · rfl

/-- A grant that is sought leaves the pending switch's request. -/
theorem tryGrant_pending {s : State} {t : Nat} {p : Pending} (h : (s.team t).pending = some p) :
    ∃ q, ((tryGrant s t).team t).pending = some q ∧ p.SameRequest q := by
  rw [tryGrant, h]
  dsimp only
  split
  · exact ⟨p, h, rfl, rfl, rfl, rfl, rfl⟩
  · split
    · split
      · exact ⟨p, h, rfl, rfl, rfl, rfl, rfl⟩
      · rw [team_updTeam_same]
        exact ⟨_, rfl, rfl, rfl, rfl, rfl, rfl⟩
    · rw [event_if_team, event_if_team, event_if_team, team_updTeam_same]
      exact ⟨_, rfl, rfl, rfl, rfl, rfl, rfl⟩

theorem tryGrant_asked (s : State) (t : Nat) (p : Pending) :
    ∃ q, ((tryGrant (s.updTeam t fun x => { x with pending := some p }) t).team t).pending = some q ∧ p.SameRequest q :=
  tryGrant_pending (congrArg Team.pending (team_updTeam_same ..))

theorem cancelPending_team_same (s : State) (t reason : Nat) : ((cancelPending s t reason).team t).pending = none := by
  unfold cancelPending
  split
  · rw [event_team, team_updTeam_same]
  · next h => simpa using h

theorem cancelPending_team_other (s : State) {t k : Nat} (reason : Nat) (h : k ≠ t) : (cancelPending s t reason).team k = s.team k := by
  unfold cancelPending
  split
  · rw [event_team, team_updTeam_other _ _ h]
    rfl
  · rfl

theorem acceptTimed_pending (s : State) (t p time : Nat) : ∃ q, ((acceptTimed s t p time).team t).pending = some q ∧
    q.trigger = 0 ∧ q.plane = p ∧ q.due = time ∧ q.acceptedAt = s.now := by
  unfold acceptTimed
  dsimp only
  generalize (if stagedAll _ t p then _ else queueStaging _ _ _ : State) = s1
  obtain ⟨q, hq, h⟩ := tryGrant_asked s1 t _
  exact ⟨q, hq, h.trigger, h.plane, h.due, h.acceptedAt⟩

/-! #### CTX_SWITCH's request -/

section
variable (s1 : State) (who : Requester) (e : Env) (team op plane check : Byte) (time : Nat)

theorem written_switch : written s1 who false (wholeWrite 0x6220 1 (switchRequest team op plane check time)) actSwitch =
    { switchApply s1 team.toNat op.toNat plane.toNat (natAt (switchRequest team op plane check time) 8 8) with dict.switchStatus := 0 } := by
  rw [written_wo (by decide) (by decide) row_cancelPendingSwitch rfl rfl]
  have hbytes : natAt (switchRequest team op plane check time) 0 1 = team.toNat ∧ natAt (switchRequest team op plane check time) 1 1 = op.toNat ∧
      natAt (switchRequest team op plane check time) 2 1 = plane.toNat := by simp [natAt, bytesAt, switchRequest]
  obtain ⟨hteam, hop, hplane⟩ := hbytes
  simp only [actSwitch, hteam, hop, hplane]

theorem natAt_switchRequest (time : U64) : natAt (switchRequest team op plane check time.toNat) 8 8 = time.toNat := by
  have hbytes : bytesAt (switchRequest team op plane check time.toNat) 8 8 = u64 time.toNat := by
    simp [bytesAt, switchRequest, zeros, List.take_of_length_le, u64]
  rw [natAt, hbytes, leNat_u64]

theorem switchStatus_answered :
    (writeAnswered s1 who e false (wholeWrite 0x6220 1 (switchRequest team op plane check time)) actSwitch).dict.switchStatus = 0 := by
  have h := congrArg Dict.switchStatus (writeAnswered_dictSettings s1 who e false (wholeWrite 0x6220 1 (switchRequest team op plane check time)) actSwitch)
  rw [written_switch] at h
  exact h

theorem teams_answered : (writeAnswered s1 who e false (wholeWrite 0x6220 1 (switchRequest team op plane check time)) actSwitch).teams =
    (switchApply s1 team.toNat op.toNat plane.toNat (natAt (switchRequest team op plane check time) 8 8)).teams := by
  rw [writeAnswered, respond_teams, written_switch]

theorem team_answered (k : Nat) :
    (writeAnswered s1 who e false (wholeWrite 0x6220 1 (switchRequest team op plane check time)) actSwitch).team k =
    (switchApply s1 team.toNat op.toNat plane.toNat (natAt (switchRequest team op plane check time) 8 8)).team k := by
  rw [State.team, teams_answered, State.team]

theorem stage_answered : (writeAnswered s1 who e false (wholeWrite 0x6220 1 (switchRequest team op plane check time)) actSwitch).stage =
    (switchApply s1 team.toNat op.toNat plane.toNat (natAt (switchRequest team op plane check time) 8 8)).stage := by
  rw [writeAnswered, respond_stage, written_switch]

theorem planes_answered : (writeAnswered s1 who e false (wholeWrite 0x6220 1 (switchRequest team op plane check time)) actSwitch).planes =
    (switchApply s1 team.toNat op.toNat plane.toNat (natAt (switchRequest team op plane check time) 8 8)).planes := by
  rw [writeAnswered, respond_planes, written_switch]

end

section
variable {s : State} {t : Nat}

theorem switchApply_timed (p time : Nat) (h : ((teamUsed s t).team t).frozen = 0) :
    switchApply s t 1 p time = acceptTimed (teamUsed s t) t p time := by
  unfold switchApply
  dsimp only
  rw [if_neg fun g => g.1 h]
  rfl

theorem switchApply_stage (p time : Nat) (h : ((teamUsed s t).team t).frozen = 0) :
    switchApply s t 2 p time = queueStaging (teamUsed s t) [(t, p)] false := by
  unfold switchApply
  dsimp only
  rw [if_neg fun g => g.1 h]
  rfl

theorem switchApply_unstage (p time : Nat) (h : ((teamUsed s t).team t).frozen = 0) :
    switchApply s t 3 p time = unstageTeam (teamUsed s t) t := by
  unfold switchApply
  dsimp only
  rw [if_neg fun g => g.1 h]
  rfl

theorem switchApply_cancel (p time : Nat) :
    switchApply s t 4 p time = cancelPending (teamUsed s t) t 0 := by
  unfold switchApply
  dsimp only
  rw [if_neg (by omega)]
  rfl

theorem switchApply_fallBack (p time : Nat) :
    switchApply s t 5 p time = triggerFallback (teamUsed s t) t 1 := by
  unfold switchApply
  dsimp only
  rw [if_neg (by omega)]
  rfl

theorem switchApply_release (p time : Nat) :
    switchApply s t 6 p time = releaseTeam (teamUsed s t) t := by
  unfold switchApply
  dsimp only
  rw [if_neg (by omega)]
  rfl

theorem unstageTeam_teams (s : State) (t : Nat) : (unstageTeam s t).teams = s.teams :=
  foldl_keeps State.teams (fun s g => by cases s.stagedPlane g <;> rfl) _ s

theorem switchApply_teams {op p time : Nat} (hop : op = 2 ∨ op = 3) : (switchApply s t op p time).teams = (teamUsed s t).teams := by
  by_cases h : ((teamUsed s t).team t).frozen = 0
  · rcases hop with rfl | rfl
    · rw [switchApply_stage _ _ h]
      exact (queueStaging_links _ _ _ (by simp)).same (ps := [.stage]) .teams
    · rw [switchApply_unstage _ _ h, unstageTeam_teams]
  · unfold switchApply
    dsimp only
    rw [if_pos ⟨h, by omega⟩]

end

/-- Settles O17: the operation's own effect, of the team as its pairs' comparison leaves it. -/
theorem switchCommandsComplete : Obligations.SwitchCommandsComplete := by
  refine ⟨?_, ?_, ?_, ?_, ?_, ?_⟩
  · refine fun e team plane check time => rowCompletes_host (fun _ => rfl) fun s s1 who h => ⟨switchStatus_answered .., fun hrun => ?_⟩
    have hnow : (teamUsed s1 team.toNat).now = s1.now := by
      have hclk : (teamUsed s1 team.toNat).clk = s1.clk := (teamUsed_links s1 team.toNat (by simp)).same
        (ps := [.stage, .grants, .teams, .ecc, .board, .obs]) .clk
      rw [State.now, hclk, State.now]
    obtain ⟨q, hq, htrigger, hplane, hdue, hat⟩ := acceptTimed_pending (teamUsed s1 team.toNat) team.toNat plane.toNat time.toNat
    refine ⟨q, ?_, htrigger, hplane, hdue, hat.trans hnow⟩
    rw [team_answered, natAt_switchRequest, show (1 : Byte).toNat = 1 from rfl, switchApply_timed _ _ hrun]
    exact hq
  · refine fun e team plane check => rowCompletes_host (fun _ => rfl) fun s s1 who h => ⟨switchStatus_answered .., ?_, fun hrun => ?_⟩
    · exact (teams_answered ..).trans (switchApply_teams (.inl rfl))
    · rw [stage_answered]
      exact congrArg State.stage (switchApply_stage _ _ hrun)
  · refine fun e team plane check => rowCompletes_host (fun _ => rfl) fun s s1 who h => ⟨switchStatus_answered .., ?_, fun hrun => ?_⟩
    · exact (teams_answered ..).trans (switchApply_teams (.inr rfl))
    · rw [planes_answered]
      exact congrArg State.planes (switchApply_unstage _ _ hrun)
  · refine fun e team plane check => rowCompletes_host (fun _ => rfl) fun s s1 who h => ⟨switchStatus_answered .., ?_, fun k hk => ?_⟩
    · rw [team_answered, show (4 : Byte).toNat = 4 from rfl, switchApply_cancel, cancelPending_team_same]
    · rw [team_answered, show (4 : Byte).toNat = 4 from rfl, switchApply_cancel, cancelPending_team_other _ _ hk]
  · refine fun e team plane check => rowCompletes_host (fun _ => rfl) fun s s1 who h => ⟨switchStatus_answered .., ?_, ?_⟩
    · exact (teams_answered ..).trans (congrArg State.teams (switchApply_fallBack ..))
    · exact (stage_answered ..).trans (congrArg State.stage (switchApply_fallBack ..))
  · refine fun e team plane check => rowCompletes_host (fun _ => rfl) fun s s1 who h => ⟨switchStatus_answered .., ?_⟩
    rw [teams_answered, show (6 : Byte).toNat = 6 from rfl, switchApply_release, releaseTeam, event_teams, State.updTeam_teams]

end Sys2Proof.Machine
end

section
/-! PROOFS. O18: staging, switch and fall-back events complete. -/

namespace Sys2Proof.Machine

/-! #### What grants and a switch leave of the teams -/

theorem tryGrant_active (s : State) (t k : Nat) : ((tryGrant s t).team k).active = (s.team k).active := by
  have hupd (s : State) (x : Option Pending) : ((s.updTeam t fun y => { y with pending := x }).team k).active = (s.team k).active := by
    by_cases h : k = t
    · rw [h, team_updTeam_same]
    · rw [team_updTeam_other _ _ h]
  unfold tryGrant
  split
  · rfl
  · next p hp =>
    split
    · rfl
    · dsimp only
      split
      · split
        · rfl
        · exact hupd ..
      · rw [event_if_team, event_if_team, event_if_team, hupd]
        rfl

theorem grantFallback_active (s : State) (t k : Nat) : ((grantFallback s t).team k).active = (s.team k).active := by
  have hupd (s : State) (x : Option Fallback) : ((s.updTeam t fun y => { y with fallback := x }).team k).active = (s.team k).active := by
    by_cases h : k = t
    · rw [h, team_updTeam_same]
    · rw [team_updTeam_other _ _ h]
  unfold grantFallback
  dsimp only
  split
  · rfl
  · split
    · rfl
    · split
      · exact hupd ..
      · rw [event_if_team, hupd]
        rfl

theorem grantAll_active (s : State) (k : Nat) : ((grantAll s).team k).active = (s.team k).active := by
  have hgrant := foldl_keeps (fun s : State => (s.team k).active) (fun s t => grantFallback_active s t k) (List.range 16) s
  exact (foldl_keeps (fun s : State => (s.team k).active) (fun s t => tryGrant_active s t k) _ _).trans hgrant

theorem performSwitch_active (s : State) (t q trigger r : Nat) : ((performSwitch s t q trigger r).team t).active = BitVec.ofNat 8 q := by
  have habsent (s : State) : (dropAbsent s).teams = s.teams := (dropAbsent_links s (by simp)).same (ps := [.fab, .board, .obs]) .teams
  have huncovered (s : State) : (dropUncovered s).teams = s.teams := (dropUncovered_links s (by simp)).same (ps := [.outs, .dict]) .teams
  have hsettle (s : State) : (settle 64 s).teams = s.teams := (settle_links 64 s (by simp)).same (ps := [.freeCtr, .fab]) .teams
  have hcounted (l : List Nat) (s : State) : (l.foldl (fun s g => counted s (0x1000 + g) 0x04 0 1) s).teams = s.teams :=
    foldl_keeps State.teams (fun s g => counted_teams ..) l s
  unfold performSwitch
  dsimp only
  rw [State.team, habsent, huncovered, event_teams, hsettle, hcounted, State.updTeam_teams, AMap.get_upd_same]

/-! #### Staging, seen on the planes -/

theorem stageSector_planes {s t : State} (h : t.planes = s.planes) (g p : Nat) : (stageSector t g p).planes = (stageSector s g p).planes := by
  have hstate (g p : Nat) : t.planeSt g p = s.planeSt g p := by rw [State.planeSt, State.plane, h, State.planeSt, State.plane]
  have hstaged : t.stagedPlane g = s.stagedPlane g := by
    rw [State.stagedPlane, State.planeIn, State.stagedPlane, State.planeIn]
    simp only [hstate]
  unfold stageSector
  rw [hstate]
  split
  · rw [hstaged]
    cases s.stagedPlane g <;> simp only [State.setPlane, h]
  · exact h

theorem stageSectors_planes {s t : State} (h : t.planes = s.planes) (p : Nat) (l : List Nat) :
    (l.foldl (fun s g => stageSector s g p) t).planes = (l.foldl (fun s g => stageSector s g p) s).planes := by
  induction l generalizing s t with
  | nil => exact h
  | cons g rest ih => exact ih (stageSector_planes h g p)

/-- Parts staged one after another leave the same planes, whatever else is done to the teams between them. -/
theorem stageParts_planes {s t : State} (h : t.planes = s.planes) {f : State → StagePart → State → State}
    (hf : ∀ s part u, (f s part u).planes = u.planes)
    (l : List StagePart) : (l.foldl (fun s part => f s part ((bitsSet part.sectors.toNat 48).foldl (fun s g => stageSector s g part.plane) s)) t).planes =
    (l.foldl (fun s part => (bitsSet part.sectors.toNat 48).foldl (fun s g => stageSector s g part.plane) s) s).planes := by
  induction l generalizing s t with
  | nil => exact h
  | cons part rest ih => exact ih ((hf _ _ _).trans (stageSectors_planes h part.plane _))

/-! #### REIN, and the switch edge -/

section
variable {sector : Fin 48} {plane : Fin 8} {s : State} {n : Nat} (hteam : s.teamOf sector.val = some n)
  (hleader : (s.team n).goodLeader = sector.val) (hhold : s.mode ≠ .hold) (hmode : switchMode s = true)
include hteam hleader hhold hmode

theorem execReinRequest_refused {r : Nat} (hr : reinRefusal (teamUsed s n) n plane.val = some r) : exec (.reinRequest sector plane) s =
    .next (event (teamUsed s n) (teamSrc n) 0x2008 (u8 n ++ u8 plane.val ++ u8 r)) := by
  have hserved : ¬ ((s.team n).goodLeader ≠ sector.val ∨ s.mode = .hold ∨ ¬ switchMode s) := by
    rintro (h | h | h)
    exacts [h hleader, hhold h, h hmode]
  change execReinRequest sector plane s = _
  unfold execReinRequest
  rw [hteam]
  dsimp only
  rw [if_neg hserved, hr]

theorem execReinRequest_pends (hr : reinRefusal (teamUsed s n) n plane.val = none) : ∃ t p, exec (.reinRequest sector plane) s = .next t ∧
    (t.team n).pending = some p ∧ p.trigger = 1 ∧ p.plane = plane.val ∧ p.acceptedAt = (teamUsed s n).now ∧ p.drainAt =
      some (firstEdge (teamUsed s n) ((teamUsed s n).teamTowers n) ((teamUsed s n).teamN n) (edgeBase (teamUsed s n))) := by
  have hserved : ¬ ((s.team n).goodLeader ≠ sector.val ∨ s.mode = .hold ∨ ¬ switchMode s) := by
    rintro (h | h | h)
    exacts [h hleader, hhold h, h hmode]
  change ∃ t p, execReinRequest sector plane s = _ ∧ _
  unfold execReinRequest
  rw [hteam]
  dsimp only
  rw [if_neg hserved, hr]
  clear hserved hr
  generalize teamUsed s n = u
  obtain ⟨q, hq, h⟩ := tryGrant_asked u n _
  exact ⟨_, q, rfl, hq, h.trigger, h.plane, h.acceptedAt, h.drainAt⟩

end

section
variable {team : Fin 16} {s : State} {r : Nat}

theorem execSwitchEdge_pending {p : Pending} (hf : ((tryGrant (teamUsed s team.val) team.val).team team.val).fallback = none)
    (hp : ((tryGrant (teamUsed s team.val) team.val).team team.val).pending = some p) (he : p.edge = some r)
    (hr : r ≤ (tryGrant (teamUsed s team.val) team.val).now) (hhold : (tryGrant (teamUsed s team.val) team.val).mode ≠ .hold) :
    exec (.switchEdge team) s = .next (grantAll (performSwitch ((tryGrant (teamUsed s team.val) team.val).updTeam team.val
      fun x => { x with pending := none }) team.val p.plane p.trigger r)) := by
  change execSwitchEdge team s = _
  unfold execSwitchEdge
  dsimp only
  rw [hf]
  dsimp only
  rw [hp]
  dsimp only
  rw [he]
  dsimp only
  rw [if_pos ⟨hr, hhold⟩]

theorem execSwitchEdge_fallback {f : Fallback} (hf : ((tryGrant (teamUsed s team.val) team.val).team team.val).fallback = some f)
    (he : f.edge = some r) (hr : r ≤ (tryGrant (teamUsed s team.val) team.val).now) :
    exec (.switchEdge team) s = .next (grantAll (event (performSwitch ((tryGrant (teamUsed s team.val) team.val).updTeam team.val
      fun x => { x with fallback := none }) team.val ((tryGrant (teamUsed s team.val) team.val).team team.val).goodSafe 2 r) (teamSrc team.val)
      0x2006 (u8 team.val ++ u8 f.cause ++ u64 ((tryGrant (teamUsed s team.val) team.val).taiAt r)))) := by
  change execSwitchEdge team s = _
  unfold execSwitchEdge
  dsimp only
  rw [hf]
  dsimp only
  rw [he]
  dsimp only
  rw [if_pos hr]

end

/-- Settles O18: the branch of each event's command, and the teams and planes that it leaves. -/
theorem switchEventsComplete : Obligations.SwitchEventsComplete := by
  refine ⟨?_, ?_, ?_, ?_, ?_, ?_, ?_⟩
  · intro tower s op rest hcur hwait hturn
    change execStagingStart tower s = _
    simp only [execStagingStart, hcur, hwait]
    rw [if_pos (hturn.imp_right fun h => by rw [h]; exact Bool.false_ne_true)]
  · intro tower s op hcur
    change ∃ t, execStagingComplete tower s = _ ∧ _
    rw [execStagingComplete]
    dsimp only
    rw [hcur]
    have hall (s : State) : (grantAll s).stage = s.stage ∧ (grantAll s).planes = s.planes :=
      ⟨(grantAll_links s (by simp)).same (ps := [.grants, .teams, .board, .obs]) .stage,
        (grantAll_links s (by simp)).same (ps := [.grants, .teams, .board, .obs]) .planes⟩
    have hsector (p : Nat) (s : State) (l : List Nat) : (l.foldl (fun s g => stageSector s g p) s).stage = s.stage :=
      foldl_keeps State.stage (fun s g => (stageSector_links s g p (by simp)).same (ps := [.fab, .planes]) .stage) l s
    refine ⟨_, rfl, (hall _).1.trans ?_, (hall _).2.trans (stageParts_planes (State.updEngine_planes ..) (f := fun s part u => u.updTeam part.team fun x =>
      { x with pending := x.pending.map fun p => if p.trigger = 0 ∧ s.fineTai s.now > p.due * 2 ^ 32 then { p with late := true } else p })
      (fun s part u => rfl) _)⟩
    exact foldl_keeps State.stage (fun s part => (State.updTeam_stage ..).trans (hsector ..)) _ _
  · intro sector plane s u n hteam hleader hhold hmode hu
    obtain rfl := hu.symm
    exact ⟨execReinRequest_pends hteam hleader hhold hmode, fun r => execReinRequest_refused hteam hleader hhold hmode⟩
  · intro team s u p r hu hf hp he hr hhold
    obtain rfl := hu.symm
    exact ⟨_, execSwitchEdge_pending hf hp he hr hhold, rfl, (grantAll_active ..).trans (performSwitch_active ..)⟩
  · intro team s u f r hu hf he hr
    obtain rfl := hu.symm
    exact ⟨_, execSwitchEdge_fallback hf he hr, rfl, (grantAll_active ..).trans ((congrArg Team.active (event_team ..)).trans (performSwitch_active ..))⟩
  · intro team s p d hp he hdone hbusy hd hle helapsed
    have hexec : exec (.fenceTimeout team) s = execFenceTimeout team s := rfl
    have hdrain : (p.drainAt.any fun d => decide (d ≤ s.now) && s.elapsed d (s.num (0x6210 + team.val) 6)) = true := by
      rw [hd, Option.any_some, decide_eq_true hle, helapsed]
      rfl
    simp only [hexec, execFenceTimeout, hp]
    rw [if_pos ⟨by rw [he]; rfl, by rw [hdone]; exact Bool.false_ne_true, hbusy, hdrain⟩]
  · intro team cause s u hc hu
    obtain rfl := hu.symm
    have hc0 : ¬ cause.val = 0 := fun h => hc (Fin.ext h)
    have hexec : exec (.fallbackTrigger team cause) s = execFallbackTrigger team cause s := rfl
    refine ⟨fun h => ?_, fun h => ?_⟩
    · simp only [hexec, execFallbackTrigger, hc0, h, not_true_eq_false, or_self, if_false]
    · simp only [hexec, execFallbackTrigger, h, Bool.false_eq_true, not_false_eq_true, or_true, if_true]

end Sys2Proof.Machine
end

section
/-! PROOFS. O19: team settings, plane clear and capture complete. -/

namespace Sys2Proof.Machine

@[simp] theorem criticalWritten_teams (s : State) (who : Requester) (idx sub : Nat) (old new : List Byte) :
    (criticalWritten s who idx sub old new).teams = s.teams := by
  unfold criticalWritten
  dsimp only
  split
  · exact event_teams ..
  · rw [event_teams, event_teams]

/-- A mask of every bit keeps nothing of the old value. -/
theorem keepFields_full {r : ObjRow} (hm : r.mask = 0xFFFFFFFFFFFFFFFF) (ht : tySize r.ty = 8) (old : List Byte) (v : U64) :
    keepFields r old (u64 v.toNat) = u64 v.toNat := by
  have hand : v.toNat &&& 0xFFFFFFFFFFFFFFFF = v.toNat := (Nat.and_two_pow_sub_one_eq_mod v.toNat 64).trans (Nat.mod_eq_of_lt v.isLt)
  rw [keepFields, hm, ht, if_neg (by decide), leNat_u64, hand]
  simp [u64]

theorem row_teamSetting (team : Fin 16) (setting : Fin 3) : ∃ r, rowOf (0x6210 + team.val) (setting.val + 2) = some r ∧ r.acc = .rwp ∧ r.mask = 0 := by
  have hcovers (sub : Nat) (r : ObjRow) (hr : r ∈ rows62) (hlo : r.lo = 0x6210) (hhi : r.hi = 0x621F) (hs : r.slo = sub) (hs' : r.shi = sub) :
      rowOf (0x6210 + team.val) sub = some r := by
    refine rowOf_eq (mem_rows62 hr) ?_
    simp only [ObjRow.covers, hlo, hhi, hs, hs', Bool.and_eq_true, decide_eq_true_eq]
    omega
  match setting with
  | 0 => exact ⟨_, hcovers 2 _ (List.mem_of_getElem? (i := 4) rfl) rfl rfl rfl rfl, rfl, rfl⟩
  | 1 => exact ⟨_, hcovers 3 _ (List.mem_of_getElem? (i := 5) rfl) rfl rfl rfl rfl, rfl, rfl⟩
  | 2 => exact ⟨_, hcovers 4 _ (List.mem_of_getElem? (i := 6) rfl) rfl rfl rfl rfl, rfl, rfl⟩

theorem setMembers_members {s : State} {t v : Nat} (h : v ≠ 0) : ((setMembers s t v).team t).goodMembers = BitVec.ofNat 48 v := by
  rw [setMembers, if_neg h]
  dsimp only
  split
  · rw [team_updTeam_same]
  · split
    · rw [team_updTeam_same, team_updTeam_same]
    · rw [team_updTeam_same]

theorem emits_outs (l : List Nat) (f : Nat → Out) (s : State) : (l.foldl (fun s g => s.emit (f g)) s).outs = s.outs ++ l.map f := by
  induction l generalizing s with
  | nil => exact (List.append_nil _).symm
  | cons g rest ih => rw [List.foldl_cons, ih, State.emit_outs, List.map_cons, List.append_assoc, List.singleton_append]

/-- Settles O19: each write by its object's action, each capture event by the capture's state. -/
theorem teamAndCaptureCommandsComplete : Obligations.TeamAndCaptureCommandsComplete := by
  refine ⟨?_, ?_, ?_, ?_, ?_, ?_, ?_, ?_, ?_, ?_⟩
  · refine fun e team v c => rowCompletes_paired (fun _ => rfl) fun s s1 who h hv => ?_
    have hv' : leNat (u64 v.toNat) ≠ 0 := by
      rw [leNat_u64]
      exact fun h0 => hv (BitVec.eq_of_toNat_eq h0)
    have hteams : (writeAnswered s1 who e true (pairWrite (0x6210 + team.val) 1 (u64 v.toNat) (u64 c.toNat)) (actMembers team.val)).team team.val =
        (written s1 who true (pairWrite (0x6210 + team.val) 1 (u64 v.toNat) (u64 c.toNat)) (actMembers team.val)).team team.val := by
      rw [writeAnswered, State.team, respond_teams, State.team]
    rw [hteams, written_rwp (v := u64 v.toNat) (c := u64 c.toNat) (a := actMembers team.val) (by omega) (by decide) (row_teamMembersWrite team) rfl rfl
      (by simp [u64]), keepFields_full rfl rfl]
    have hset := setMembers_members (s := criticalWritten (s1.putObj (0x6210 + team.val) 1 (u64 v.toNat)) who (0x6210 + team.val) 1
      (s1.bytesOf (0x6210 + team.val) 1) (u64 v.toNat)) (t := team.val) hv'
    rw [leNat_u64, BitVec.ofNat_toNat] at hset
    simpa only [actMembers, leNat_u64] using hset
  · refine fun e team setting v c => rowCompletes_paired (fun _ => rfl) fun s s1 who h => ?_
    obtain ⟨r, hr, hacc, hmask⟩ := row_teamSetting team setting
    rw [writeAnswered, respond_teams, written_rwp (v := [v]) (c := [c]) (a := actTeamSetting team.val (setting.val + 2)) (by omega) (by omega) hr hacc rfl rfl]
    rw [keepFields, if_pos hmask]
    simp only [actTeamSetting, State.updTeam_teams, criticalWritten_teams, State.putObj_teams, leNat_u8]
    congr 1
    funext x
    match setting with
    | 0 => rfl
    | 1 => rfl
    | 2 => rfl
  · refine fun e v => rowCompletes_host (fun _ => rfl) fun s s1 who h => ?_
    rw [writeAnswered, respond_planes, written_wo (by decide) (by decide) row_planeClear rfl rfl]
    simp only [actPlaneClear, leNat_u64]
  · refine fun e => rowCompletes_host (fun _ => rfl) fun s s1 who h => ?_
    rw [writeAnswered, respond_cap, written_wo (by decide) (by decide) row_captureArm rfl rfl]
    rfl
  · refine fun e => rowCompletes_host (fun _ => rfl) fun s s1 who h => ?_
    rw [writeAnswered, respond_cap, written_wo (by decide) (by decide) row_captureArm rfl rfl]
    rfl
  · refine fun e => rowCompletes_host (fun _ => rfl) fun s s1 who h => ?_
    rw [writeAnswered, respond_cap, written_wo (by decide) (by decide) row_captureArm rfl rfl]
    rfl
  · intro sector s hg hstate htrigger hedge hhold
    have hexec : exec (.captureTrigger sector) s = execCaptureTrigger sector s := rfl
    have h0 : ¬ (¬ s.cap.sectors.getLsbD sector.val ∨ s.cap.state = 0) := by
      rintro (h | h)
      · exact h hg
      · omega
    rw [hexec, execCaptureTrigger]
    dsimp only
    rw [if_neg h0, if_pos hstate, if_pos ⟨htrigger, by rw [hedge]; rfl, hhold⟩]
    refine ⟨_, _, rfl, rfl, ?_⟩
    rw [counted_cap]
  · intro sector s hg hstate
    change execCaptureTrigger sector s = _
    have h1 : ¬ (¬ s.cap.sectors.getLsbD sector.val ∨ s.cap.state = 0) := by
      rintro (h | h)
      · exact h hg
      · omega
    unfold execCaptureTrigger
    dsimp only
    rw [if_neg h1, if_neg (by omega)]
  · intro routed s r hedge hstate hr hhold
    change execCaptureEdge routed s = _
    unfold execCaptureEdge
    dsimp only
    rw [hedge]
    dsimp only
    rw [if_neg]
    rintro (h | h | h)
    exacts [h hstate, absurd h (Nat.not_lt.mpr hr), hhold h]
  · intro s hstate
    have hexec : exec .captureCopyDone s = execCaptureCopyDone s := rfl
    rw [hexec, execCaptureCopyDone, if_neg (not_not.mpr hstate)]
    refine ⟨_, rfl, ?_, ?_⟩
    · rw [event_cap]
      exact foldl_keeps State.cap (fun s g => State.emit_cap s (.capture g)) _ _
    · rw [event_outs]
      exact emits_outs _ Out.capture _

end Sys2Proof.Machine
end

section
/-! PROOFS. O20: stream header, chunk, unknown opcode and END complete. -/

namespace Sys2Proof.Machine

/-! #### The stream in progress and the last result, through the loader's operations -/

/-- The stream in progress and the result of the last one. -/
def State.streaming (s : State) : Option Stream × StreamResult := (s.loader.cur, s.loader.result)

theorem chainSend_loader (s : State) (bs : List Byte) : (chainSend s bs).loader = s.loader :=
  (chainSend_links s bs (by simp)).same (ps := [.outs, .chain, .lanes]) .loader

theorem dropSource_streaming (s : State) (src : StreamSrc) (n fwd : Nat) : (dropSource s src n fwd).streaming = s.streaming := by
  have hfeed (s : State) (bs : List Byte) : (takeFeed s bs).streaming = s.streaming := by
    unfold takeFeed State.streaming
    dsimp only
    split
    · rfl
    · rw [chainSend_loader]
  cases src
  case feed => exact (hfeed _ _).trans rfl
  all_goals rfl

theorem event_streaming (s : State) (src code : Nat) (p : List Byte) : (event s src code p).streaming = s.streaming := by
  rw [State.streaming, event_loader, State.streaming]

theorem noteSource_streaming (s : State) (src : StreamSrc) (status : Nat) : (noteSource s src status).streaming = s.streaming := by
  have hlast : (if status = 0x0104 then s else { s with chain.lastOwnStatus := status }).streaming = s.streaming := by split <;> rfl
  cases src <;> rw [noteSource] <;> dsimp only
  case primary =>
    split
    · rw [event_streaming]
      exact hlast
    · exact hlast
  case chain => split <;> rfl
  case library => rfl
  all_goals exact hlast

/-- A stream that ends leaves none in progress, and its result. -/
theorem endStream_streaming (s : State) (st : Stream) (status addr : Nat) :
    (endStream s st status addr).streaming = (none, ⟨status, addr, st.packets, st.cursor, hdrOwner st.header, hdrBuild st.header, s.tai⟩) := by
  unfold endStream
  dsimp only
  rw [noteSource_streaming]
  split
  · rw [dropSource_streaming]
    rfl
  · have hsend (s : State) (bs : List Byte) (n : Nat) :
        { chainSend s bs with loader := { s.loader with forwarded := n } }.streaming = s.streaming := rfl
    rw [chainSend_loader, hsend, dropSource_streaming]
    rfl

theorem nextPacket_some {s : State} {st : Stream} {op len : Nat} {d : List Byte} (h : nextPacket s = some (st, op, len, d)) :
    s.loader.cur = some st ∧ st.cursor + 8 ≤ st.payload.length := by
  unfold nextPacket at h
  split at h
  · cases h
  · next st' hcur =>
    split at h
    · cases h
    · next hlen =>
      dsimp only at h
      split at h
      · cases h
        exact ⟨hcur, Nat.not_lt.mp hlen⟩
      · cases h

theorem abortStream_streaming {s : State} {st : Stream} (h : s.loader.cur = some st) (status addr : Nat) :
    (abortStream s status addr).loader.cur = none ∧ (abortStream s status addr).loader.result.status = status := by
  have hend (s : State) := endStream_streaming s st status addr
  unfold abortStream abortWith
  rw [h]
  exact ⟨congrArg Prod.fst (hend _), congrArg (fun p => p.2.status) (hend _)⟩

theorem completeStream_streaming (s : State) (st : Stream) :
    (completeStream s st).loader.cur = none ∧ (completeStream s st).loader.result.status = 0 := by
  have hend (s : State) := endStream_streaming s st 0 0
  have hready (u : State) : (if u.boot.phase = 9 ∧ contextsReady u then
      { enterPhase u 6 with boot.failReason := 0, board.cfgErr := false } else u).loader = u.loader := by split <;> rfl
  unfold completeStream
  dsimp only
  rw [hready]
  exact ⟨congrArg Prod.fst (hend _), congrArg (fun p => p.2.status) (hend _)⟩

/-! #### A header, a chunk and END -/

theorem signed_accepts {s : State} {h tags : List Byte} (src : StreamSrc) (hsig : signatureOk h tags = true) (hregion : regionHeld s h = true) :
    (if ¬ signatureOk h tags then refuseHeader s src h tags 0x010A
      else if ¬ regionHeld s h then refuseHeader s src h tags 0x010B else acceptHeader s src h tags) = acceptHeader s src h tags := by
  rw [if_neg (not_not.mpr hsig), if_neg (not_not.mpr hregion)]

theorem execStreamHeader_accepts {src : StreamSrc} {header tags h tg : List Byte} {s s1 s2 : State} (hcur : s.loader.cur = none)
    (hopen : sourceOpen s src = true) (hread : readSource (useOwners s) src 0 512 (padTo header 512) = (s1, .bytes h))
    (hcheck : headerChecks s1 h = none)
    (htags : (src = .chain ∧ s2 = s1 ∧ 512 + 16 * hdrChunks h ≤ s1.chain.buf.length ∧
        tg = (s1.chain.buf.drop 512).take (16 * hdrChunks h)) ∨
      (src = .feed ∧ s2 = s1 ∧ 512 + 16 * hdrChunks h ≤ s1.loader.feedBuf.length ∧
        tg = (s1.loader.feedBuf.drop 512).take (16 * hdrChunks h)) ∨
      (src ≠ .chain ∧ src ≠ .feed ∧ readSource s1 src 512 (16 * hdrChunks h) tags = (s2, .bytes tg)))
    (hsig : signatureOk h tg = true) (hregion : regionHeld s2 h = true) :
    exec (.streamHeader src header tags) s = .next (acceptHeader s2 src h tg) := by
  change execStreamHeader src header tags s = _
  unfold execStreamHeader
  have hfree : ¬ (s.loader.cur.isSome ∨ ¬ sourceOpen s src) := by
    rw [hcur, hopen]
    decide
  rw [if_neg hfree, hread]
  dsimp only
  rw [hcheck]
  dsimp only
  rcases htags with ⟨rfl, rfl, hlen, htg⟩ | ⟨rfl, rfl, hlen, htg⟩ | ⟨hchain, hfeed, htg⟩
  · dsimp only
    rw [if_neg (Nat.not_lt.mpr hlen), ← htg, signed_accepts _ hsig hregion]
  · dsimp only
    rw [if_neg (Nat.not_lt.mpr hlen), ← htg, signed_accepts _ hsig hregion]
  · cases src
    case chain => exact absurd rfl hchain
    case feed => exact absurd rfl hfeed
    all_goals
      dsimp only
      rw [htg]
      dsimp only
      rw [signed_accepts _ hsig hregion]

/-- The stream with the key and the nonce that its next chunk is read under. -/
def Stream.atChunk (st : Stream) : Stream :=
  match st.rolled with
  | some k => { st with key := k.1, nonce := k.2, rolled := none }
  | none => st

theorem execChunkVerified_joins {chunk c : List Byte} {s s1 : State} {st st1 : Stream} (hcur : s.loader.cur = some st)
    (hleft : st.chunk < hdrChunks st.header) (hrolled : hdrRolled st.header = true → st.chunk = 0 ∨ st.rolled.isSome = true)
    (hst : st1 = st.atChunk)
    (hread : readSource s st.src (512 + 16 * hdrChunks st.header + 65536 * st.chunk) (chunkSize st.header st.chunk) chunk = (s1, .bytes c))
    (htag : chunkTagOk st1 st.chunk c = true) (hrule : rollRule st1 st.chunk (st.payload ++ chunkText st1 st.chunk c) = true) :
    ∃ t, exec (.chunkVerified chunk) s = .next t ∧ t.loader.cur =
      some { st1 with chunk := st.chunk + 1, payload := st.payload ++ chunkText st1 st.chunk c } := by
  change ∃ t, execChunkVerified chunk s = _ ∧ _
  have hgo : ¬ (hdrChunks st.header ≤ st.chunk ∨ (hdrRolled st.header ∧ 0 < st.chunk ∧ st.rolled.isNone)) := by
    rintro (h | ⟨hr, h0, hn⟩)
    · omega
    · rcases hrolled hr with h | h
      · omega
      · rw [Option.isNone_iff_eq_none] at hn
        rw [hn] at h
        cases h
  unfold execChunkVerified
  rw [hcur]
  dsimp only
  rw [if_neg hgo]
  unfold Stream.atChunk at hst
  cases hkey : st.rolled
  all_goals
    rw [hkey] at hst
    subst hst
    dsimp only
    rw [hread]
    dsimp only
    rw [if_neg (not_not.mpr htag), if_neg (not_not.mpr hrule)]
    refine ⟨_, rfl, ?_⟩
    rw [counted_loader]
    exact congrArg Prod.fst (dropSource_streaming ..)

theorem execEndPacket_last {s : State} {st : Stream} {d : List Byte} (h : nextPacket s = some (st, 0x0D, 8, d)) :
    exec .endPacket s = .next (endWork s st d) := by
  obtain ⟨hcur, hlen⟩ := nextPacket_some h
  change execEndPacket s = _
  unfold execEndPacket
  rw [hcur]
  dsimp only
  rw [if_neg fun h => absurd h.2 (Nat.not_lt.mpr hlen), h]
  rfl

theorem endWork_open {s : State} {st : Stream} {d : List Byte} (hcursor : st.cursor + 16 = hdrPayload st.header)
    (hpackets : natAt d 0 4 = st.packets) (hsel : ∀ kv ∈ st.sel, kv.2 ≠ 1) :
    endWork s st d = if hdrSealed st.header then
      (if (sealedHash s (Crypto.sha256 st.payload)).2 then completeStream (takeSealed (sealedHash s (Crypto.sha256 st.payload)).1 st) st
        else abortStream (sealedHash s (Crypto.sha256 st.payload)).1 0x0606 0)
      else completeStream s st := by
  have hnone : ¬ (st.sel.any fun kv => decide (kv.2 = 1)) = true := by
    rw [List.any_eq_true]
    rintro ⟨kv, hkv, h⟩
    exact hsel kv hkv (of_decide_eq_true h)
  unfold endWork
  rw [if_neg (not_or.mpr ⟨not_not.mpr hcursor, not_not.mpr hpackets⟩), if_neg hnone]

/-- Settles O20: a header and a chunk by the loader's checks in their order, the end of a stream by what it leaves. -/
theorem streamProgressCompletes : Obligations.StreamProgressCompletes := by
  refine ⟨?_, fun _ _ _ _ _ _ hcur hleft hrolled hst hread htag hrule =>
    execChunkVerified_joins hcur hleft hrolled (hst.trans (by unfold Stream.atChunk; rfl)) hread htag hrule, ?_, ?_, ?_⟩
  · intro src header tags h tg s s1 s2 hcur hopen hread hcheck htags hsig hregion
    exact ⟨_, _, execStreamHeader_accepts hcur hopen hread hcheck htags hsig hregion, rfl, congrArg Loader.cur (event_loader ..), rfl, rfl, rfl, rfl, rfl⟩
  · intro s st op len d h hop
    change ∃ t, execUnknownOpcode s = _ ∧ _
    unfold execUnknownOpcode
    rw [h]
    dsimp only
    rw [if_neg hop]
    exact ⟨_, rfl, rfl, abortStream_streaming (nextPacket_some h).1 ..⟩
  · intro s st d h hcursor hpackets hsel hsealed
    refine ⟨_, (execEndPacket_last h).trans ?_, rfl, completeStream_streaming ..⟩
    rw [endWork_open hcursor hpackets hsel, hsealed]
    rfl
  · intro s s1 st d h hcursor hpackets hsel hsealed hhash
    refine ⟨_, (execEndPacket_last h).trans ?_, rfl, completeStream_streaming ..⟩
    rw [endWork_open hcursor hpackets hsel, hsealed, hhash]
    rfl

end Sys2Proof.Machine
end

section
/-! PROOFS. O21: stream packets complete. -/

namespace Sys2Proof.Machine

/-! #### A packet that goes -/

section
variable {s s1 : State} {st : Stream} {op len : Nat} {d : List Byte} {act : State → Stream → List Byte → Acted}

/-- A packet that step 13 of R300 lets go does its own work, on the state as the ownership table's comparison leaves it. -/
theorem packetWork_done (h : PacketGoes s op st len d) (next_ : State → Nat → State) (hact : act (useOwners s) st d = done s1) :
    packetWork op act next_ s = .next (next_ s1 len) := by
  obtain ⟨hnext, hfits, hallowed, hinside⟩ := h
  unfold packetWork
  rw [hnext]
  dsimp only
  rw [if_neg (not_not.mpr rfl), if_neg (not_not.mpr hfits), if_neg (not_not.mpr hallowed), if_neg (Nat.not_lt.mpr hinside), hact]
  rfl

theorem packetRow_done (h : PacketGoes s op st len d) (hact : act (useOwners s) st d = done s1) :
    packetRow op act s = .next (passPacket s1 len) := packetWork_done h passPacket hact

theorem useOwners_loader (s : State) : (useOwners s).loader = s.loader :=
  (useOwners_links s (by simp)).same (ps := [.obj, .ecc, .board, .obs]) .loader

/-- A packet whose work is a change of the stream in progress. -/
theorem packetRow_stream (h : PacketGoes s op st len d) {f : Stream → Stream} (hact : act (useOwners s) st d = done (updStream (useOwners s) f)) :
    ∃ t, packetRow op act s = .next t ∧ t.loader.cur =
      some { f st with cursor := (f st).cursor + 8 + len, packets := (f st).packets + 1, words := 0 } := by
  refine ⟨_, packetRow_done h hact, ?_⟩
  have hcur := (nextPacket_some h.next).1
  simp only [passPacket, updStream, useOwners_loader, hcur, Option.map_some]

end

/-! #### SELECT_PLANE -/

theorem setPlane_state_same (s : State) (g p : Nat) (x : PlaneState) : ((s.setPlane g p x).plane g p).state = x := by
  rw [State.plane, State.setPlane_planes, AMap.get_upd_same]

theorem setPlane_loading {s : State} {h : Nat} (g p : Nat) (hl : (s.plane h p).state = .loading) :
    ((s.setPlane g p .loading).plane h p).state = .loading := by
  by_cases hg : h = g
  · rw [hg, setPlane_state_same]
  · rw [State.plane, State.setPlane_planes, AMap.get_upd_other _ _ _ _ _ (by omega)]
    exact hl

/-- The planes selected are loading, and those that were stay so. -/
theorem selectSector_loading (p : Nat) (l : List Nat) (s : State) : ∃ t, selectSector p l s = done t ∧
    (∀ g, (s.plane g p).state = .loading → (t.plane g p).state = .loading) ∧ ∀ g ∈ l, (t.plane g p).state = .loading := by
  induction l generalizing s with
  | nil => exact ⟨s, rfl, fun _ => id, fun _ h => absurd h List.not_mem_nil⟩
  | cons g rest ih =>
    obtain ⟨t, ht, hkept, hrest⟩ := ih (updStream ((clearPlane s g p).setPlane g p .loading) fun st =>
      { st with sel := AMap.set 0 st.sel (g * 8 + p) 1 })
    refine ⟨t, ht, fun k hk => hkept k (setPlane_loading g p hk), fun k hk => ?_⟩
    rcases List.mem_cons.mp hk with rfl | hk
    · exact hkept k (setPlane_state_same (clearPlane s k p) k p .loading)
    · exact hrest k hk

/-- Settles O21: each packet's own work, in the branch that its checks leave. -/
theorem streamPacketsComplete : Obligations.StreamPacketsComplete := by
  refine ⟨?_, ?_, ?_, ?_, ?_, ?_, ?_, ?_, ?_, ?_, ?_, ?_⟩
  · intro s u st len d h hu hplane hmask hcheck
    obtain rfl := hu.symm
    change ∃ t, execSelectPlane s = _ ∧ _
    unfold execSelectPlane
    obtain ⟨t, ht, -, hloading⟩ := selectSector_loading (natAt d 0 1) (maskSectors (natAt d 4 8)) (useOwners s)
    refine ⟨passPacket t len, packetRow_done h ?_, hloading⟩
    dsimp only
    rw [if_neg (by omega), hcheck]
    exact ht
  · intro s u s1 st len d h hu hwork
    obtain rfl := hu.symm
    change execWriteFrames s = _
    unfold execWriteFrames
    refine packetRow_done h ?_
    exact hwork
  · intro s u s1 st len d bs h hu hruns hlen hwork
    obtain rfl := hu.symm
    change execWriteFramesZr s = _
    unfold execWriteFramesZr
    refine packetRow_done h ?_
    dsimp only
    rw [hruns]
    exact (if_neg fun hbad => hbad.2 hlen).trans hwork
  · intro s u s1 st len d h hu hmin hmax hend hword hwork
    obtain rfl := hu.symm
    change execInitBlockmem s = _
    unfold execInitBlockmem
    refine packetWork_done h passWords ?_
    dsimp only
    rw [if_neg (not_not.mpr ⟨hmin, hmax, hend⟩), hword]
    exact hwork
  · intro s u s1 st len d h hu htype haddr hwithin hwork
    obtain rfl := hu.symm
    change execInitState s = _
    unfold execInitState
    refine packetRow_done h ?_
    dsimp only
    rw [if_neg, hwork]
    rintro (hbad | hbad | hbad)
    exacts [hbad htype, hbad haddr, hbad hwithin]
  · intro s u s1 st len d h hu hcompl hteam hown hwork
    obtain rfl := hu.symm
    change execSetTeam s = _
    unfold execSetTeam
    refine packetRow_done h ?_
    have hmay : (hdrStartup st.header || (maskSectors (natAt d 8 8)).all fun g =>
        bit (hdrSectors st.header) g && decide (ownerOf (useOwners s) g = hdrOwner st.header)) = true := by
      simpa only [Bool.or_eq_true, List.all_eq_true, Bool.and_eq_true, decide_eq_true_eq] using hown
    dsimp only
    rw [hmay, if_neg (not_or.mpr ⟨by omega, not_not.mpr rfl⟩), if_neg (not_not.mpr hcompl), hwork]
    rfl
  · intro s u s1 st len d h hu hwork
    obtain rfl := hu.symm
    change execSetStartupOrder s = _
    unfold execSetStartupOrder
    refine packetRow_done h ?_
    dsimp only
    rw [hwork]
    rfl
  · intro s st len d h hcrc
    change ∃ t, execCheckCrc s = _ ∧ _
    unfold execCheckCrc
    exact packetRow_stream h (f := fun x => { x with crcFrom := x.cursor + 12 }) (if_pos hcrc)
  · intro s st len d h
    change ∃ t, execKeyRoll s = _ ∧ _
    unfold execKeyRoll
    exact packetRow_stream h (f := fun x => { x with rolled := some (d.take 32, bytesAt d 32 12) }) rfl
  · intro follow s st len d h hmin hmax hup
    change ∃ t, execForwardToChain follow s = _ ∧ _
    unfold execForwardToChain
    have hlink : ((useOwners s).link false).up = true := by
      have hlanes : (useOwners s).lanes = s.lanes := (useOwners_links s (by simp)).same (ps := [.obj, .ecc, .board, .obs]) .lanes
      rw [State.link, hlanes]
      exact hup
    refine Exists.imp (fun t => And.imp_right fun hcur => hcur.trans ?_) (packetRow_stream h (f := fun x =>
      if st.src = .feed then { x with forward := natAt d 8 8 } else { x with follow := follow.take (natAt d 8 8) }) ?_)
    · dsimp only
      rw [if_neg (not_not.mpr ⟨hmin, hmax⟩), if_neg (not_not.mpr hlink)]
    · split <;> rfl
  · intro s u s1 st len d h hu hwork
    obtain rfl := hu.symm
    change execSetObjectDefault s = _
    unfold execSetObjectDefault
    refine packetRow_done h ?_
    dsimp only
    rw [hwork]
    rfl
  · intro s u s1 st len d h hu hplane hmask hwork
    obtain rfl := hu.symm
    change execMarkValid s = _
    unfold execMarkValid
    refine packetRow_done h ?_
    dsimp only
    rw [if_neg (by omega), hwork]

end Sys2Proof.Machine
end

section
/-! PROOFS. O22: KEY_PROG closes a JTAG that only a mismatched pair holds open. -/

namespace Sys2Proof.Machine

/-- Start-up, with JTAG opened by an object whose complement does not match, and by nothing else. -/
def mispairedOpening : State := { State.reset with
  power.mode := .startUp
  obj := [(objKey 0x6C20 1, { val := [1] })] }

/-- A key of 32 zero bytes. -/
def zeroKey : List Byte := zeros 32

/-- KEY_PROG compares the pair at its use: the opening falls back to its default, and the instruction is refused. -/
theorem keyProg_mispairedOpening (check : List Byte) :
    exec (.keyProg true zeroKey check) mispairedOpening = .next (jtagRefused (useJtag mispairedOpening)) := by
  have hclosed : ¬ jtagOpen (useJtag mispairedOpening) ∨ (useJtag mispairedOpening).mode ≠ .startUp := by decide +kernel
  show execKeyProg true zeroKey check mispairedOpening = _
  unfold execKeyProg
  dsimp only
  rw [if_pos hclosed]

theorem jtagRefused_fuses (s : State) : (jtagRefused s).fuses = s.fuses := by
  unfold jtagRefused
  dsimp only
  split
  · rfl
  · exact event_fuses ..

/-- Refutes O22: KEY_PROG is refused in a state whose JTAG is open by a mismatched pair, which the instruction's own comparison closes. -/
theorem not_keyAndOwnerCommandsComplete : ¬ Obligations.KeyAndOwnerCommandsComplete := by
  unfold Obligations.KeyAndOwnerCommandsComplete
  rintro ⟨-, -, -, -, -, hkey, -⟩
  obtain ⟨t, ht, hfuses, -⟩ := hkey true zeroKey (checkValue zeroKey) mispairedOpening (by decide +kernel) rfl rfl rfl (.inl rfl)
  obtain rfl : jtagRefused (useJtag mispairedOpening) = t := by
    rw [keyProg_mispairedOpening] at ht
    exact Host.Outcome.next.inj ht
  rw [jtagRefused_fuses] at hfuses
  have hbattery : (useJtag mispairedOpening).fuses.bbramKey = zeroKey := congrArg Fuses.bbramKey hfuses
  have hunwritten : (useJtag mispairedOpening).fuses.bbramKey = [] := by decide +kernel
  rw [hunwritten] at hbattery
  exact absurd hbattery (by decide)

end Sys2Proof.Machine
end

section
/-! PROOFS. O23: the reset inputs complete. -/

namespace Sys2Proof.Machine

theorem setMode_mode (s : State) (m : Mode) (cause : Nat) : (setMode s m cause).mode = m := by
  rw [State.mode, setMode, event_power]

/-- A part that a change of the mode leaves alone. -/
theorem setMode_same (s : State) (m : Mode) (cause : Nat) (p : Part) (hp : p ∉ [Part.power, .board, .obs] := by decide) :
    Part.same s (setMode s m cause) p := (setMode_links s m cause (by simp)).same p hp

/-- The device leaves the reset phase where PORST_N is high and the supplies have been reached. -/
theorem leaveReset_phase {s : State} (h : s.boot.phase = 0) :
    (leaveReset s).boot.phase = if s.boot.porstLow ∨ ¬ s.boot.suppliesReached then 0 else 1 := by
  unfold leaveReset
  by_cases hout : s.boot.porstLow ∨ ¬ s.boot.suppliesReached
  · rw [if_pos (hout.elim .inl fun h => .inr (.inl h)), if_pos hout, h]
  · rw [if_neg fun hstay => hstay.elim (fun h => hout (.inl h)) fun hr => hr.elim (fun h => hout (.inr h)) fun hp => hp h, event_boot,
      if_neg hout]

/-- Leaving the reset phase changes nothing of the reset inputs. -/
theorem leaveReset_inputs (s : State) : (leaveReset s).boot.porstLow = s.boot.porstLow ∧ (leaveReset s).boot.strapBoot = s.boot.strapBoot ∧
    (leaveReset s).boot.strapBist = s.boot.strapBist ∧ (leaveReset s).boot.bdef = s.boot.bdef ∧
    (leaveReset s).boot.suppliesReached = s.boot.suppliesReached := by
  unfold leaveReset
  split
  · exact ⟨rfl, rfl, rfl, rfl, rfl⟩
  · rw [event_boot]
    exact ⟨rfl, rfl, rfl, rfl, rfl⟩

/-- An abort leaves no stream in progress. -/
theorem abortStream_idle (s : State) (status addr : Nat) : (abortStream s status addr).loader.cur = none := by
  cases h : s.loader.cur with
  | none => rw [abortStream, abortWith, h, h]
  | some st => exact (abortStream_streaming h status addr).1

/-- A start-up from calibration: its phase, and what it takes away from the loader and the chain. -/
theorem enterCal_starts (s : State) (cause : Nat) : (enterCal s cause).mode = .startUp ∧ (enterCal s cause).boot.phase = 4 ∧
    (enterCal s cause).boot.cause = cause ∧ (enterCal s cause).loader.queue = [] ∧ (enterCal s cause).chain.goAt = none := by
  have hlanes (s : State) (p : Part) (hp : p ∉ [Part.lanes]) : Part.same s (calLanes s) p := (calLanes_links s (by simp)).same p hp
  have hpower (s : State) : (calLanes s).power = s.power := hlanes s .power (by decide)
  have hboot (s : State) : (calLanes s).boot = s.boot := hlanes s .boot (by decide)
  have hloader (s : State) : (calLanes s).loader = s.loader := hlanes s .loader (by decide)
  have hchain (s : State) : (calLanes s).chain = s.chain := hlanes s .chain (by decide)
  have hmboot (s : State) (c : Nat) : (setMode s .startUp c).boot = s.boot := setMode_same s _ c .boot
  have hmloader (s : State) (c : Nat) : (setMode s .startUp c).loader = s.loader := setMode_same s _ c .loader
  have hmchain (s : State) (c : Nat) : (setMode s .startUp c).chain = s.chain := setMode_same s _ c .chain
  have hmode (s : State) (c : Nat) : (setMode s .startUp c).power.mode = .startUp := setMode_mode s _ c
  unfold enterCal
  refine ⟨?_, ?_, ?_, ?_, ?_⟩
  · rw [State.mode, event_power, hpower, hmode]
  · rw [event_boot, hboot, hmboot]
    rfl
  · rw [event_boot, hboot, hmboot]
    rfl
  · rw [event_loader, hloader, hmloader]
    rfl
  · rw [event_chain, hchain, hmchain]
    rfl

/-- Settles O23: PORST_N and the supplies by the reset phase, SYSRST_N by the phase that it finds. -/
theorem resetInputsComplete : Obligations.ResetInputsComplete := by
  refine ⟨?_, ?_, ?_, ?_, ?_, ?_⟩
  · intro straps s
    have hboot (s : State) : (setMode s .startUp 0).boot = s.boot := setMode_same s _ 0 .boot
    have hobj (s : State) : (setMode s .startUp 0).obj = s.obj := setMode_same s _ 0 .obj
    have hplanes (s : State) : (setMode s .startUp 0).planes = s.planes := setMode_same s _ 0 .planes
    have htime (s : State) : (setMode s .startUp 0).time = s.time := setMode_same s _ 0 .time
    have hfuses (s : State) : (setMode s .startUp 0).fuses = s.fuses := setMode_same s _ 0 .fuses
    have hsealed (s : State) : (setMode s .startUp 0).sealed = s.sealed := setMode_same s _ 0 .sealed
    have hexec : exec (.porstN true straps) s =
        .next { assertPorst s with boot.bdef := straps.bdef, boot.suppliesReached := s.boot.suppliesReached } := rfl
    refine ⟨_, hexec, (setMode_mode ..), ?_⟩
    simp only [assertPorst, hboot, hobj, hplanes, htime, hfuses, hsealed]
    exact ⟨trivial, trivial, trivial, rfl, rfl, rfl, trivial, trivial, trivial, trivial⟩
  · intro straps s hlow
    have hexec : exec (.porstN false straps) s = .next (leaveReset { s with boot := { s.boot with
        porstLow := false, strapBoot := straps.boot, strapBist := straps.bistOverride, bdef := straps.bdef } }) := by
      change execPorstN false straps s = _
      rw [execPorstN, if_neg Bool.false_ne_true, if_neg (not_not.mpr hlow)]
    obtain ⟨hporst, hboot, hbist, hbdef, -⟩ := leaveReset_inputs { s with boot := { s.boot with
        porstLow := false, strapBoot := straps.boot, strapBist := straps.bistOverride, bdef := straps.bdef } }
    refine ⟨_, hexec, hporst, hboot, hbist, hbdef, fun h0 => ?_⟩
    refine (leaveReset_phase (by exact h0)).trans ?_
    dsimp only
    cases s.boot.suppliesReached <;> rfl
  · intro vaux vin s ha ha' hv hv'
    have hresume (s : State) : (noteResume s).boot = s.boot := (noteResume_links s (by simp)).same (ps := [.power]) .boot
    have hmeasured (s : State) (mv : Int) (ok : Bool) : (measured s 0 mv ok).boot = s.boot :=
      (measured_links s 0 mv ok (by simp)).same (ps := [.board]) .boot
    have hexec : exec (.vauxVinCoreReached vaux vin) s = execVauxVinCoreReached vaux vin s := rfl
    rw [hexec, execVauxVinCoreReached, if_neg (by omega)]
    dsimp only
    rw [if_pos ⟨ha, hv⟩]
    refine ⟨_, rfl, ?_, fun h0 => ?_⟩
    · rw [hresume]
      exact (leaveReset_inputs _).2.2.2.2
    · have hphase (s1 : State) (h1 : s1.boot = s.boot) :
          (leaveReset { s1 with boot.suppliesReached := true }).boot.phase = if s.boot.porstLow then 0 else 1 := by
        rw [leaveReset_phase (by exact (congrArg Boot.phase h1).trans h0)]
        dsimp only
        rw [h1]
        cases s.boot.porstLow <;> rfl
      rw [hresume]
      exact hphase _ (hmeasured ..)
  · intro widthNs s hw hmode h0 h4
    change execSysrstN widthNs s = _
    unfold execSysrstN
    dsimp only
    rw [if_neg, if_pos ⟨hmode, h4⟩]
    rintro (h | ⟨-, h⟩ | ⟨h, -⟩)
    · omega
    · exact h0 h
    · rw [hmode] at h
      cases h
  · intro widthNs s hw hstart hstop
    change ∃ t, execSysrstN widthNs s = _ ∧ _
    unfold execSysrstN
    dsimp only
    have hgo : ¬ (widthNs < 1000 ∨ (s.mode = .startUp ∧ s.boot.phase = 0) ∨ (s.mode = .safeStop ∧ 6 ≤ s.power.lastCause)) := by
      rintro (h | ⟨hm, h⟩ | ⟨hm, h⟩)
      · omega
      · have := hstart hm
        omega
      · have := hstop hm
        omega
    rw [if_neg hgo, if_neg fun h => absurd (hstart h.1) (Nat.not_le.mpr h.2)]
    exact ⟨_, rfl, rfl, abortStream_idle ..⟩
  · intro s hheld
    refine ⟨_, rfl, ?_⟩
    rw [if_pos hheld]
    exact enterCal_starts ..

end Sys2Proof.Machine
end

section
/-! PROOFS. O24: the phases of Start-up complete. -/

namespace Sys2Proof.Machine

/-- A part that an operation's scope leaves alone. -/
theorem Links.keeps {ps : List Part} {s t : State} (h : Links (.wide ps) s t) (p : Part) (hp : p ∉ ps := by decide) : Part.same s t p :=
  h.moves.frame p hp

theorem atPhase_true {s : State} {ph : Nat} (h : atPhase s ph = true) : s.mode = .startUp ∧ s.boot.phase = ph := by
  simp only [atPhase, Bool.and_eq_true, decide_eq_true_eq] at h
  exact h.1.1

theorem event_cfgErr (s : State) (src code : Nat) (p : List Byte) : (event s src code p).board.cfgErr = s.board.cfgErr := by
  obtain ⟨a, o, h⟩ := event_eq s src code p
  rw [h]

/-! #### Safe Stop, and a failure to start -/

/-- What the entry of Safe Stop leaves of the clocks, and of the supplies' record, the mode, its time and the domains apart. -/
theorem enterSafeStop_leaves {β : Type} (f : Power → β)
    (hf : ∀ (x : Power) (m : Mode) (at_ : Nat) (domain : AMap Nat), f { x with mode := m, entered := at_, domain := domain } = f x) (s : State) (cause : Nat) :
    f (enterSafeStop s cause).power = f { s.power with stop := none, lastCause := cause } ∧
      (enterSafeStop s cause).clk = { s.clk with stopped := true, changeAt := 0 } := by
  have hset (s : State) (m : Mode) : f (setMode s m cause).power = f s.power ∧ (setMode s m cause).clk = s.clk := by
    rw [setMode, event_power, event_clk]
    exact ⟨hf s.power m s.tai s.power.domain, rfl⟩
  have hdomain (s : State) (domain : AMap Nat) : f { s.power with domain := domain } = f s.power := hf s.power s.power.mode s.power.entered domain
  have hkept {ps : List Part} {s t : State} (h : Moves (.wide ps) s t) (hps : Part.power ∉ ps ∧ Part.clk ∉ ps) : t.power = s.power ∧ t.clk = s.clk :=
    ⟨h.frame .power hps.1, h.frame .clk hps.2⟩
  have hrefresh (s : State) (m : Nat) (c : Prop) [Decidable c] :
      (if c then selfRefresh s m else s).power = s.power ∧ (if c then selfRefresh s m else s).clk = s.clk := by
    split
    · exact hkept (selfRefresh_links (sc := .wide [.freeCtr, .obj, .noc, .wale, .dram, .ecc, .crypt, .board, .obs]) s m (by simp) trivial).moves (by decide)
    · exact ⟨rfl, rfl⟩
  have hmovers (s : State) : ((List.range 16).foldl stopMover s).power = s.power ∧ ((List.range 16).foldl stopMover s).clk = s.clk :=
    hkept (foldl_moves _ s fun s m => (stopMover_links (sc := .wide [.noc, .board, .obs]) s m (by simp)).moves) (by decide)
  have hlanes (s : State) : (stopLanes (disarmCapture s) false).power = s.power ∧ (stopLanes (disarmCapture s) false).clk = s.clk :=
    hkept (show Moves (.wide [.lanes, .board, .obs, .cap]) s _ by simp (disch := decide)) (by decide)
  have hdrop (s : State) (gs : List Nat) (gone : Nat → Bool) : (loseCounters (loseSectors (dropPorts s gs 7) gs) gone).power = s.power ∧
      (loseCounters (loseSectors (dropPorts s gs 7) gs) gone).clk = s.clk :=
    hkept (show Moves (.wide [.noc, .fab, .edge, .obs]) s _ by simp (disch := decide)) (by decide)
  have hstop (s : State) (b : Bool) : (cancelAllSwitches (abortStream (applySafeAll s 2) 0x0604 0) 6 b).power = s.power ∧
      (cancelAllSwitches (abortStream (applySafeAll s 2) 0x0604 0) 6 b).clk = s.clk :=
    hkept (show Moves (.wide [.outs, .planes, .loader, .chain, .lanes, .banks, .pins, .grants, .teams, .board, .obs]) s _ by simp (disch := decide)) (by decide)
  have hsave (s : State) (gs : List Nat) : (saveFfs s gs).power = s.power ∧ (saveFfs s gs).clk = s.clk :=
    hkept (saveFfs_links (sc := .wide [.fab]) s gs (by simp)).moves (by decide)
  unfold enterSafeStop
  dsimp only
  constructor
  · rw [(hset ..).1]
    dsimp only
    rw [(hlanes _).1, (hmovers _).1, (hrefresh ..).1, (hrefresh ..).1]
    dsimp only
    rw [hdomain, (hdrop ..).1, (hsave ..).1]
    dsimp only
    rw [(hstop ..).1]
  · rw [(hset ..).2]
    dsimp only
    rw [(hlanes _).2, (hmovers _).2, (hrefresh ..).2, (hrefresh ..).2]
    dsimp only
    rw [(hdrop ..).2, (hsave ..).2]
    dsimp only
    rw [(hstop ..).2]

/-- Safe Stop is entered with its cause. -/
theorem enterSafeStop_stops (s : State) (cause : Nat) : (enterSafeStop s cause).mode = .safeStop ∧ (enterSafeStop s cause).power.lastCause = cause :=
  ⟨setMode_mode .., (enterSafeStop_leaves Power.lastCause (fun _ _ _ _ => rfl) s cause).1⟩

theorem enterSafeStop_clk (s : State) (cause : Nat) : (enterSafeStop s cause).clk = { s.clk with stopped := true, changeAt := 0 } :=
  (enterSafeStop_leaves Power.stop (fun _ _ _ _ => rfl) s cause).2

/-- No orderly stop goes on where Safe Stop has been entered. -/
theorem enterSafeStop_stop (s : State) (cause : Nat) : (enterSafeStop s cause).power.stop = none :=
  (enterSafeStop_leaves Power.stop (fun _ _ _ _ => rfl) s cause).1

theorem criticalFailure_stops (s : State) (block : Nat) :
    (criticalFailure s block).mode = .safeStop ∧ (criticalFailure s block).power.lastCause = 6 := by
  unfold criticalFailure
  exact enterSafeStop_stops _ 6

theorem criticalFailure_boot (s : State) (block : Nat) : (criticalFailure s block).boot = { s.boot with bist := 3 } := by
  have h (s : State) : (enterSafeStop s 6).boot = s.boot := (enterSafeStop_links (sc := .wide [.outs, .freeCtr, .obj, .clk, .fab, .edge, .planes,
    .grants, .teams, .cap, .loader, .chain, .noc, .wale, .dram, .ecc, .crypt, .banks, .pins, .lanes, .power, .board, .test, .obs]) s 6
    (by simp) trivial).keeps .boot
  rw [criticalFailure, h, event_boot]

/-- A failure to start: its phase and reason, and the error pin. -/
theorem failStart_fails (s : State) (reason : Nat) : (failStart s reason).boot = { s.boot with phase := 9, failReason := reason } ∧
    (failStart s reason).board.cfgErr = true := by
  have hsend (s : State) : (hitchSend s true 3 0 (u8 s.chain.position ++ u8 (reportFlags s false) ++ u8 s.boot.failReason ++ zeros 1 ++ u16 (ownStatus s) ++
      zeros 2)).board = s.board := (hitchSend_links (sc := .wide [.outs, .lanes]) s _ _ _ _ (by simp)).keeps .board
  have hreport (s : State) (flags reason status : Nat) : (noteReport s 0 flags reason status).board.cfgErr = s.board.cfgErr := by
    unfold noteReport
    dsimp only
    split
    · rfl
    · rw [event_cfgErr]
  have hcfg (s : State) : (sendReport s false).board.cfgErr = s.board.cfgErr := by
    unfold sendReport
    dsimp only
    split
    · exact hreport ..
    · rw [hsend]
  have hboot (s : State) : (sendReport s false).boot = s.boot :=
    (sendReport_links (sc := .wide [.outs, .chain, .lanes, .board, .obs]) s false (by simp)).keeps .boot
  unfold failStart
  dsimp only
  rw [hboot, hcfg, event_boot, event_cfgErr]
  exact ⟨rfl, rfl⟩

theorem beginLoad_begins (s : State) : ((beginLoad s).boot.phase = 5 ∨ (beginLoad s).boot.phase = 9) ∧ (beginLoad s).boot.verifying = false := by
  have hfail (s : State) (reason : Nat) : (failStart s reason).boot.phase = 9 ∧ (failStart s reason).boot.verifying = s.boot.verifying := by
    rw [(failStart_fails s reason).1]
    exact ⟨rfl, rfl⟩
  have hnote (c : Prop) [Decidable c] (s : State) (p : List Byte) : (if c then s else event s loaderSrc 0x1005 p).boot = s.boot := by
    split
    · rfl
    · exact event_boot ..
  unfold beginLoad
  dsimp only
  split
  · exact ⟨.inl rfl, rfl⟩
  · split
    · exact ⟨.inr (hfail _ _).1, (hfail _ _).2⟩
    · split
      · exact ⟨.inr (hfail _ _).1, (hfail _ _).2.trans (congrArg Boot.verifying (hnote ..))⟩
      · rw [hnote]
        exact ⟨.inl rfl, rfl⟩

/-! #### The phases -/

section
variable {s : State}

theorem sealedRun_enabled (s : State) : (sealedRun s).sealed.enabled = s.sealed.enabled := by
  have hid (s : State) : (reidentify s).sealed.enabled = s.sealed.enabled := by
    unfold reidentify
    dsimp only
    split
    · rfl
    · rw [event_sealed]
  unfold sealedRun
  split
  · rfl
  · dsimp only
    rw [event_sealed, hid]

/-- What the rest of the fuse load leaves of what the fuses gave. -/
structure FuseLoad.Same (s t : State) : Prop where
  boot : t.boot = s.boot
  clk : t.clk = s.clk
  test : t.test = s.test
  pan : t.pan = s.pan
  enabled : t.sealed.enabled = s.sealed.enabled

theorem FuseLoad.Same.trans {s t u : State} (a : FuseLoad.Same s t) (b : FuseLoad.Same t u) : FuseLoad.Same s u :=
  ⟨b.boot.trans a.boot, b.clk.trans a.clk, b.test.trans a.test, b.pan.trans a.pan, b.enabled.trans a.enabled⟩

theorem FuseLoad.Same.of_moves {s t : State} (h : Moves (.wide [.banks, .board, .obs]) s t) : FuseLoad.Same s t :=
  ⟨h.frame .boot (by decide), h.frame .clk (by decide), h.frame .test (by decide), h.frame .pan (by decide),
    congrArg Sealed.enabled (h.frame .sealed (by decide))⟩

theorem FuseLoad.same_event (s : State) (src code : Nat) (p : List Byte) : FuseLoad.Same s (event s src code p) :=
  .of_moves (by simp (disch := decide))

theorem FuseLoad.same_sealedRun (s : State) : FuseLoad.Same s (sealedRun s) := by
  have h (p : Part) (hp : p ∉ [Part.sealed, .board, .obs]) := (sealedRun_links (sc := .wide [.sealed, .board, .obs]) s (by simp)).keeps p hp
  exact ⟨h .boot (by decide), h .clk (by decide), h .test (by decide), h .pan (by decide), sealedRun_enabled s⟩

/-- The measurement of the banks, and the events of the shifted rows. -/
theorem FuseLoad.same_banks (mv : List (BitVec 16)) (shifts : List (Nat × Nat)) (s : State) : FuseLoad.Same s
    (shifts.foldl (fun s kv => event s (testSectorSrc kv.1) 0xA003 (u8 kv.1 ++ u8 (kv.2 % 8) ++ u8 0)) ((List.range 8).foldl (measureBank mv) s)) := by
  refine .of_moves (.trans (foldl_moves _ _ fun s b => (measureBank_links mv s b (by simp)).moves) (foldl_moves _ _ fun s kv => ?_))
  simp (disch := decide)

/-- A tamper event noted before the fuse load is reported. -/
theorem FuseLoad.same_report (s : State) (x : Fuses) (p : List Byte) (c : Prop) [Decidable c] :
    FuseLoad.Same s (if c then event { s with fuses := x } loaderSrc 0x1016 p else s) := by
  split
  · exact .trans (t := { s with fuses := x }) ⟨rfl, rfl, rfl, rfl, rfl⟩ (FuseLoad.same_event ..)
  · exact ⟨rfl, rfl, rfl, rfl, rfl⟩

theorem execFuseLoadDone_loads (mv : List (BitVec 16)) (h : atPhase s 1 = true) : ∃ t, exec (.fuseLoadDone 0 mv) s = .next t ∧ t.boot.phase = 2 ∧
    t.clk.rootLocked = true ∧ t.test.shifted = s.fuses.rowShift ∧ t.pan.spares = s.fuses.panColumns ∧
    t.test.spareVias = s.fuses.viaSpares ∧ t.test.badSites = s.fuses.badSites ∧ t.sealed.enabled = s.sealed.provisioned := by
  have hgiven (u t : State) (same : FuseLoad.Same u t) (hphase : u.boot.phase = 2) (hlock : u.clk.rootLocked = true)
      (htest : u.test.shifted = s.fuses.rowShift ∧ u.test.spareVias = s.fuses.viaSpares ∧ u.test.badSites = s.fuses.badSites)
      (hpan : u.pan.spares = s.fuses.panColumns) (hsealed : u.sealed.enabled = s.sealed.provisioned) :
      t.boot.phase = 2 ∧ t.clk.rootLocked = true ∧ t.test.shifted = s.fuses.rowShift ∧ t.pan.spares = s.fuses.panColumns ∧
      t.test.spareVias = s.fuses.viaSpares ∧ t.test.badSites = s.fuses.badSites ∧ t.sealed.enabled = s.sealed.provisioned := by
    rw [same.boot, same.clk, same.test, same.pan, same.enabled]
    exact ⟨hphase, hlock, htest.1, hpan, htest.2.1, htest.2.2, hsealed⟩
  have hexec : exec (.fuseLoadDone 0 mv) s = execFuseLoadDone 0 mv s := rfl
  rw [hexec, execFuseLoadDone, if_neg (not_not.mpr h), if_neg (show ¬ (0 : Fin 4).val ≠ 0 from not_not.mpr rfl)]
  refine ⟨_, rfl, hgiven _ _ (((FuseLoad.same_banks mv s.fuses.rowShift _).trans (FuseLoad.same_event ..)).trans
    (FuseLoad.same_sealedRun _) |>.trans (FuseLoad.same_report ..)) rfl rfl ⟨rfl, rfl, rfl⟩ rfl rfl⟩

theorem execBistDone_tested (critical : Fin 4) (fails : List FailUnit) (h : atPhase s 2 = true) (hrun : s.boot.bistRunning = true) :
    ∃ t, exec (.bistDone critical fails) s = .next t ∧ t.boot.bistRunning = false ∧
      (criticalOf critical.val fails = 0 → t.boot.phase = 3) ∧
      (criticalOf critical.val fails ≠ 0 → t.mode = .safeStop ∧ t.power.lastCause = 6) := by
  have hexec : exec (.bistDone critical fails) s = execBistDone critical fails s := rfl
  have hgo : ¬ (¬ atPhase s 2 ∨ ¬ s.boot.bistRunning) := by simp [h, hrun]
  rw [hexec, execBistDone, if_neg hgo]
  dsimp only
  by_cases hc : criticalOf critical.val fails = 0
  · have hfind (s : State) : (fails.foldl (findFail true) s).boot = s.boot := foldl_keeps State.boot (fun s f => (findFail_links (sc := .wide
      [.outs, .obj, .fab, .stage, .grants, .teams, .noc, .wale, .pan, .ecc, .banks, .power, .board, .test, .obs]) true s f (by simp)).keeps .boot) _ s
    have hnote (s : State) : (noteBist s).boot.bistRunning = s.boot.bistRunning ∧ (noteBist s).boot.phase = s.boot.phase := by
      unfold noteBist
      split <;> exact ⟨rfl, rfl⟩
    rw [if_neg (not_not.mpr hc)]
    refine ⟨_, rfl, ?_, fun _ => ?_, fun hcrit => absurd hc hcrit⟩
    · rw [event_boot, (hnote _).1, hfind]
    · rw [event_boot, (hnote _).2, hfind]
  · rw [if_pos hc]
    refine ⟨_, rfl, ?_, fun h0 => absurd h0 hc, fun _ => criticalFailure_stops ..⟩
    rw [criticalFailure_boot, event_boot]

theorem execRepairDone_calibrates (h : atPhase s 3 = true) : ∃ t, exec .repairDone s = .next t ∧ t.mode = .startUp ∧ t.boot.phase = 4 := by
  have hlanes (s : State) (p : Part) (hp : p ∉ [Part.lanes]) := (calLanes_links (sc := .wide [.lanes]) s (by simp)).keeps p hp
  have hpower (s : State) : (calLanes s).power = s.power := hlanes s .power (by decide)
  have hboot (s : State) : (calLanes s).boot = s.boot := hlanes s .boot (by decide)
  have hrepair : (noteBist (repairAll s)).power = s.power := by
    have h : Moves (.wide [.outs, .fuses, .obj, .fab, .stage, .grants, .teams, .noc, .pan, .ecc, .board, .test, .obs, .boot]) s
      (noteBist (repairAll s)) := by simp (disch := decide)
    exact h.frame .power (by decide)
  have hexec : exec .repairDone s = execRepairDone s := rfl
  rw [hexec, execRepairDone, if_neg (not_not.mpr h)]
  refine ⟨_, rfl, ?_⟩
  split
  · have hcal (u : State) : (enterCal u 1).mode = .startUp ∧ (enterCal u 1).boot.phase = 4 :=
      (enterCal_starts u 1).imp_right fun h => h.1
    exact hcal _
  · rw [State.mode, hpower, hboot]
    dsimp only
    rw [hrepair]
    exact ⟨(atPhase_true h).1, rfl⟩

theorem execCalibrationDone_goes (runs : List CalRun) (answers octal : Bool) (flashId : BitVec 32) (d0 d1 : List Byte) (h : atPhase s 4 = true)
    (hver : s.boot.verifying = false) (hmode : (calibrateAll s runs 0).mode = .startUp) :
    ∃ t, exec (.calibrationDone runs answers octal flashId d0 d1) s = .next t ∧
      (s.boot.strapBoot = 3 → t.mode = .service) ∧
      (s.boot.strapBoot ≠ 3 → s.boot.cause ≠ 0 → t.boot.verifying = true ∧ t.mode = .startUp) ∧
      (s.boot.strapBoot ≠ 3 → s.boot.cause = 0 → t.boot.phase = 5 ∨ t.boot.phase = 9) := by
  have hexec : exec (.calibrationDone runs answers octal flashId d0 d1) s = execCalibrationDone runs answers octal flashId d0 d1 s := rfl
  have hgo : ¬ (¬ atPhase s 4 ∨ s.boot.verifying) := by simp [h, hver]
  rw [hexec, execCalibrationDone, if_neg hgo]
  dsimp only
  rw [if_neg (not_not.mpr hmode)]
  by_cases hservice : s.boot.strapBoot = 3
  · rw [if_pos hservice]
    exact ⟨_, rfl, fun _ => setMode_mode .., fun hnot => absurd hservice hnot, fun hnot => absurd hservice hnot⟩
  · rw [if_neg hservice]
    refine ⟨_, rfl, fun hnot => absurd hnot hservice, fun _ hcause => ?_, fun _ hcause => ?_⟩
    · rw [if_neg hcause]
      refine ⟨rfl, ?_⟩
      have htrain (s : State) : (sealedImage (trainDram s)).power = s.power := by
        have h : Moves (.wide [.freeCtr, .obj, .loader, .noc, .wale, .dram, .ecc, .crypt, .board, .obs, .pan, .sealed]) s
            (sealedImage (trainDram s)) :=
          (sealedImage_links _ (by simp) trivial).after (trainDram_links _ (by simp) trivial fun _ => trivial).moves
        exact h.frame .power (by decide)
      have hprobe (c : Prop) [Decidable c] (s : State) : (if c then probeFlash s answers octal flashId d0 d1 else s).power = s.power := by
        split <;> rfl
      rw [State.mode]
      dsimp only
      rw [hprobe, htrain]
      exact hmode
    · rw [if_pos hcause]
      exact (beginLoad_begins _).1

theorem beginLoad_same (s : State) (p : Part) (hp : p ∉ [Part.outs, .boot, .chain, .lanes, .board, .obs] := by decide) : Part.same s (beginLoad s) p :=
  (beginLoad_links (sc := .wide [.outs, .boot, .chain, .lanes, .board, .obs]) s (by simp)).keeps p hp

theorem execStartupVerifyDone_verified (cells : List (Fin 48 × Fin 8)) (h : atPhase s 4 = true) (hver : s.boot.verifying = true) :
    ∃ t, exec (.startupVerifyDone cells) s = .next t ∧ t.boot.verifying = false ∧
      (((keptPlanes s).any fun kv => verifyFails s cells kv.1 kv.2) = false →
        ((List.range 48).all fun g => !sectorUsable s g || (s.activePlane g).isSome) = true →
          t.boot.phase = 6 ∧ t.boot.image = 5) ∧
      (((keptPlanes s).any fun kv => verifyFails s cells kv.1 kv.2) = true ∨
          ((List.range 48).all fun g => !sectorUsable s g || (s.activePlane g).isSome) = false →
        t.planes = [] ∧ t.obj = [] ∧ t.teams = [] ∧ (t.boot.phase = 5 ∨ t.boot.phase = 9)) := by
  have hexec : exec (.startupVerifyDone cells) s = execStartupVerifyDone cells s := rfl
  have hgo : ¬ (¬ atPhase s 4 ∨ ¬ s.boot.verifying) := by simp [h, hver]
  have hbad : (keptPlanes s).filter (fun kv => verifyFails s cells kv.1 kv.2) = [] ↔
      ((keptPlanes s).any fun kv => verifyFails s cells kv.1 kv.2) = false := by
    rw [List.filter_eq_nil_iff, List.any_eq_false]
  rw [hexec, execStartupVerifyDone, if_neg hgo]
  dsimp only
  split
  · next hgood =>
    refine ⟨_, rfl, ?_, fun _ _ => ?_, fun hfail => ?_⟩
    · rw [event_boot]
    · rw [event_boot]
      exact ⟨rfl, rfl⟩
    · rw [hbad.mp hgood.1, hgood.2] at hfail
      exact absurd hfail (by decide)
  · next hfail =>
    refine ⟨_, rfl, (beginLoad_begins _).2, fun hb ha => absurd ⟨hbad.mpr hb, ha⟩ hfail, fun _ => ⟨?_, ?_, ?_, (beginLoad_begins _).1⟩⟩
    · exact beginLoad_same _ .planes
    · exact beginLoad_same _ .obj
    · exact beginLoad_same _ .teams

end

/-- Settles O24: each phase by the branch that ends it. -/
theorem startUpPhasesComplete : Obligations.StartUpPhasesComplete := by
  refine ⟨fun mv s h => execFuseLoadDone_loads mv h, ?_, ?_, ?_, ?_, ?_, ?_, ?_, ?_, ?_, ?_, ?_⟩
  · intro critical mv s h hc
    have hexec : exec (.fuseLoadDone critical mv) s = execFuseLoadDone critical mv s := rfl
    rw [hexec, execFuseLoadDone, if_neg (not_not.mpr h), if_pos (show critical.val ≠ 0 from fun h0 => hc (Fin.ext h0))]
    exact ⟨_, rfl, criticalFailure_stops ..⟩
  · intro ppm s h hrun hstrap
    have hexec : exec (.bistStart ppm) s = execBistStart ppm s := rfl
    have hgo : ¬ (¬ atPhase s 2 ∨ s.boot.bistRunning) := by simp [h, hrun]
    rw [hexec, execBistStart, if_neg hgo, if_pos hstrap]
    refine ⟨_, rfl, ?_, ?_, ?_⟩
    · rw [event_boot]
    · rw [event_boot]
    · rw [event_test]
  · intro ppm s h hrun hstrap hready
    change execBistStart ppm s = _
    have hgo : ¬ (¬ atPhase s 2 ∨ s.boot.bistRunning) := by simp [h, hrun]
    rw [execBistStart, if_neg hgo, hstrap, if_neg Bool.false_ne_true, if_pos hready]
  · intro ppm s h hrun hstrap hready hwait
    have hexec : exec (.bistWaitTick ppm) s = execBistWaitTick ppm s := rfl
    have hgo : ¬ (¬ atPhase s 2 ∨ s.boot.bistRunning ∨ s.boot.strapBist ∨ bistReady s ppm ∨ ¬ s.elapsed s.boot.bistTickAt 1000000000) := by
      simp [h, hrun, hstrap, hready, hwait]
    rw [hexec, execBistWaitTick, if_neg hgo]
    refine ⟨_, rfl, ?_⟩
    rw [event_boot]
  · exact fun critical fails s h hrun => execBistDone_tested critical fails h hrun
  · exact fun s h => execRepairDone_calibrates h
  · exact fun runs answers octal flashId d0 d1 s h hver hmode => execCalibrationDone_goes runs answers octal flashId d0 d1 h hver hmode
  · intro runs answers octal flashId d0 d1 s h hver hmode
    change execCalibrationDone runs answers octal flashId d0 d1 s = _
    have hgo : ¬ (¬ atPhase s 4 ∨ s.boot.verifying) := by simp [h, hver]
    unfold execCalibrationDone
    dsimp only
    rw [if_neg hgo, if_pos hmode]
  · exact fun cells s h hver => execStartupVerifyDone_verified cells h hver
  · intro s h hdone
    have hexec : exec .loadPhaseEnd s = execLoadPhaseEnd s := rfl
    have hgo : ¬ (¬ atPhase s 5 ∨ ¬ sourceDone s) := by simp [h, hdone]
    rw [hexec, execLoadPhaseEnd, if_neg hgo]
    by_cases hready : contextsReady s = true
    · rw [if_pos hready]
      have hboot (s : State) : (checkGo (sendReport s true)).boot = s.boot := by
        have h : Moves (.wide [.outs, .freeCtr, .chain, .lanes, .board, .obs]) s (checkGo (sendReport s true)) := by simp (disch := decide)
        exact h.frame .boot (by decide)
      refine ⟨_, rfl, fun _ => ?_, fun hnot => absurd hready (by rw [hnot]; exact Bool.false_ne_true)⟩
      rw [hboot]
      rfl
    · rw [if_neg hready]
      obtain ⟨hboot, hcfg⟩ := failStart_fails s (loadReason s)
      exact ⟨_, rfl, fun h => absurd h hready, fun _ => ⟨congrArg Boot.phase hboot, congrArg Boot.failReason hboot, hcfg⟩⟩
  · intro s h
    have hexec : exec .activation s = execActivation s := rfl
    rw [hexec, execActivation, if_neg (not_not.mpr h)]
    exact ⟨_, rfl, rfl, rfl, rfl⟩

end Sys2Proof.Machine
end

section
/-! PROOFS. O25: the steps of the start-up order complete. -/

namespace Sys2Proof.Machine

/-! #### What a write that passes its checks has met -/

theorem firstOf_none {l : List (Option Nat)} (h : firstOf l = none) : ∀ x ∈ l, x = none := by
  induction l with
  | nil => exact fun x hx => absurd hx List.not_mem_nil
  | cons y rest ih =>
    cases y with
    | some c => cases h
    | none =>
      intro x hx
      rcases List.mem_cons.mp hx with rfl | hx
      · rfl
      · exact ih h x hx

/-- Checks 5 to 9 of a whole write. -/
structure WriteMet (s1 : State) (who : Requester) (r : ObjRow) (a : Action) (v f : List Byte) : Prop where
  access : writeAccess s1 who false r = none
  state : a.state s1 who f = none
  length : lengthOk r v.length = true
  range : rangeOk r f = true
  value : a.value s1 who f = none

theorem need_none {ok : Bool} {c : Nat} (h : need ok c = none) : ok = true := by
  cases ok
  · cases h
  · rfl

theorem WriteGoes.met {s s1 : State} {e : Env} {who : Requester} {idx sub : Nat} {v : List Byte} {a : Action} {r : ObjRow}
    (h : WriteGoes s e false (wholeWrite idx sub v) a s1 who) (hi : idx < 65536) (hs : sub < 256) (hr : rowOf idx sub = some r) :
    WriteMet s1 who r a v (storedForm s1 r idx sub a v) := by
  have hchecked := h.checked
  unfold writeCheck at hchecked
  simp only [wholeWrite, BitVec.toNat_ofNat, Nat.mod_eq_of_lt hi, Nat.mod_eq_of_lt hs, Nat.reducePow, hr, Bool.false_eq_true, if_false, ne_eq,
    not_true_eq_false, false_and, not_false_eq_true, true_and, or_false, one_mul] at hchecked
  split at hchecked
  · cases hchecked
  next haccess =>
  split at hchecked
  · cases hchecked
  next hstate =>
  split at hchecked
  · cases hchecked
  next hlength =>
  split at hchecked
  · cases hchecked
  next hvalue =>
  obtain ⟨-, hlen, hwhole⟩ : (some r).elim 0 ObjRow.ty % 256 = r.ty ∧ lengthOk r (v.length % 4294967296) = true ∧
      v.length = v.length % 4294967296 := by
    simpa only [not_or, not_not] using hlength
  rw [← hwhole] at hlen
  exact ⟨haccess, firstOf_none hstate _ (by simp), hlen, need_none (firstOf_none hvalue _ (List.mem_cons_self ..)),
    firstOf_none hvalue _ (by simp)⟩

/-- A whole write of a stored object, in its stored form. -/
theorem written_rw_stored {s1 : State} {who : Requester} {idx sub : Nat} {v : List Byte} {a : Action} {r : ObjRow} (hi : idx < 65536)
    (hs : sub < 256) (hr : rowOf idx sub = some r) (hw : r.acc = .rw) (ha : a.stores = true) :
    written s1 who false (wholeWrite idx sub v) a = a.late (a.apply (s1.putObj idx sub (storedForm s1 r idx sub a v)) who
      (s1.bytesOf idx sub) (storedForm s1 r idx sub a v)) v 0 := by
  simp [written, valueOf, wholeWrite, applyWrite, hr, hw, ha, Nat.mod_eq_of_lt hi, Nat.mod_eq_of_lt hs]

/-- The bytes of an object, in states with one object table and one value kept for it. -/
theorem bytesOf_of_obj {s t : State} {idx sub : Nat} {v : List Byte} (h : t.obj = s.obj) (hs : s.stored idx sub ≠ {}) (hv : s.bytesOf idx sub = v) :
    t.bytesOf idx sub = v := by
  have hstored : t.stored idx sub = s.stored idx sub := by rw [State.stored, h, State.stored]
  unfold State.bytesOf at hv ⊢
  rw [if_neg hs] at hv
  rw [hstored, if_neg hs, hv]

theorem stored_putObj_ne (s : State) (idx sub : Nat) {v : List Byte} (h : v ≠ []) : (s.putObj idx sub v).stored idx sub ≠ {} := by
  have hstored : (s.putObj idx sub v).stored idx sub = ⟨v, if isRwp idx sub then complBytes v else []⟩ := AMap.get_set_same ..
  rw [hstored]
  exact fun hdefault => h (congrArg ObjVal.val hdefault)

/-- An object holds what has been put, wherever the objects are as the put left them. -/
theorem bytesOf_put {s t : State} {idx sub : Nat} {v : List Byte} (h : t.obj = (s.putObj idx sub v).obj) (hv : v ≠ []) : t.bytesOf idx sub = v :=
  bytesOf_of_obj h (stored_putObj_ne s idx sub hv) (bytesOf_putObj_same s idx sub v hv)

/-! #### The steps of the start-up order -/

theorem enterRun_runs (s : State) : (enterRun s).mode = .run ∧ (enterRun s).boot = { s.boot with phase := 8, startupNs := s.nsSince s.boot.enteredAt, doneOnce := true } ∧
    (enterRun s).clk = s.clk ∧ (enterRun s).board.cfgDone = true := by
  have hset (s : State) : (setMode s .run 0).board.cfgDone = s.board.cfgDone := by
    obtain ⟨a, o, h⟩ := event_eq { s with power := { s.power with mode := .run, entered := s.tai } } modeSrc 0x9001
      (u8 (modeCode s.mode) ++ u8 (modeCode .run) ++ u8 0)
    unfold setMode
    rw [h]
  have hcfg (s : State) (src code : Nat) (p : List Byte) : (event s src code p).board.cfgDone = s.board.cfgDone := by
    obtain ⟨a, o, h⟩ := event_eq s src code p
    rw [h]
  unfold enterRun
  dsimp only
  refine ⟨?_, ?_, ?_, ?_⟩
  · rw [State.mode, event_power]
    exact setMode_mode ..
  · rw [event_boot]
    exact setMode_same _ _ _ .boot
  · rw [event_clk]
    exact setMode_same _ _ _ .clk
  · rw [hcfg, hset]

/-- A step that is due: what its act leaves, one step more taken, and Run entered with the fourth. -/
theorem takeStep_due {s : State} {k : Nat} (h : stepDue s k = true) (act : State → State)
    (hact : ∀ u, (act u).boot.progress = u.boot.progress) :
    let u := act { s with boot := { s.boot with progress := s.boot.progress + 1, lastStepAt := s.now } }
    let t := takeStep s k act
    t.boot.progress = s.boot.progress + 1 ∧ t.clk = u.clk ∧ t.boot.outputsReleased = u.boot.outputsReleased ∧
      t.boot.srReleased = u.boot.srReleased ∧ t.boot.writesEnabled = u.boot.writesEnabled ∧
      (s.boot.progress = 3 → t.mode = .run ∧ t.boot.phase = 8 ∧ t.board.cfgDone = true) := by
  intro u t
  have hprogress : u.boot.progress = s.boot.progress + 1 := hact _
  have ht : t = if s.boot.progress + 1 = 4 then enterRun (event u loaderSrc 0x1007 (u8 k ++ u64 s.tai)) else event u loaderSrc 0x1007 (u8 k ++ u64 s.tai) := by
    unfold t takeStep
    rw [if_neg (not_not.mpr h)]
  rw [ht]
  split
  · obtain ⟨hmode, hboot, hclk, hcfg⟩ := enterRun_runs (event u loaderSrc 0x1007 (u8 k ++ u64 s.tai))
    rw [hboot, hclk, event_boot, event_clk]
    exact ⟨hprogress, rfl, rfl, rfl, rfl, fun _ => ⟨hmode, rfl, hcfg⟩⟩
  · rw [event_boot, event_clk]
    exact ⟨hprogress, rfl, rfl, rfl, rfl, fun h => by omega⟩

/-- Settles O25: each step by its act, where it is due. -/
theorem startUpOrderCompletes : Obligations.StartUpOrderCompletes := by
  refine ⟨?_, ?_, ?_, ?_, ?_⟩
  · intro s h
    have hdiv (s : State) : ((List.range 8).foldl takeDivisor s).boot = s.boot := foldl_keeps State.boot (fun s n => by
      unfold takeDivisor
      dsimp only
      split <;> rfl) _ s
    have hstart (u : State) : { u with clk.started := true, clk.stopped := false, clk.changeAt := 0 }.boot = u.boot := rfl
    obtain ⟨hprogress, hclk, -, -, -, hrun⟩ := takeStep_due h
      (fun s => { (List.range 8).foldl takeDivisor s with clk.started := true, clk.stopped := false, clk.changeAt := 0 })
      fun u => congrArg Boot.progress ((hstart _).trans (hdiv u))
    exact ⟨_, rfl, hprogress, congrArg Clocks.started hclk, congrArg Clocks.stopped hclk, hrun⟩
  · intro s h
    have hheads (s : State) : (releaseHeads s).boot = s.boot := (releaseHeads_links (sc := .wide [.banks]) s (by simp)).keeps .boot
    obtain ⟨hprogress, -, hout, -, -, hrun⟩ := takeStep_due h (fun s => releaseHeads { s with boot.outputsReleased := true })
      fun u => by rw [hheads]
    exact ⟨_, rfl, hprogress, hout.trans (congrArg Boot.outputsReleased (hheads _)), hrun⟩
  · intro s h
    obtain ⟨hprogress, -, -, hsr, -, hrun⟩ := takeStep_due h (fun s => { s with boot.srReleased := true }) fun u => rfl
    exact ⟨_, rfl, hprogress, hsr, hrun⟩
  · intro s h
    have hstart (s : State) : (startLanes (startBanks s)).boot = s.boot := by
      have h : Moves (.wide [.lanes, .banks, .board, .obs]) s (startLanes (startBanks s)) := by simp (disch := decide)
      exact h.frame .boot (by decide)
    obtain ⟨hprogress, -, -, -, hwrites, hrun⟩ := takeStep_due h (fun s => startLanes (startBanks { s with boot.writesEnabled := true }))
      fun u => by rw [hstart]
    exact ⟨_, rfl, hprogress, hwrites.trans (congrArg Boot.writesEnabled (hstart _)), hrun⟩
  · refine fun e data => rowCompletes_host (fun _ => rfl) fun s s1 who h => ?_
    have hmet := h.met (by decide) (by decide) row_startupOrderWrite
    have hdata : actStartupOrder.clean data ≠ [] := by
      intro hnil
      have hlen := congrArg List.length hnil
      have h32 : data.length = 0 := by simpa [actStartupOrder, cleanEntries] using hlen
      have hok := hmet.length
      rw [h32] at hok
      exact absurd hok (by decide)
    refine bytesOf_put (s := s1) ?_ hdata
    rw [writeAnswered, respond_obj, written_rw_stored (by decide) (by decide) row_startupOrderWrite rfl rfl]
    rfl

end Sys2Proof.Machine
end

section
/-! PROOFS. O26: the loader's sources at run time complete. -/

namespace Sys2Proof.Machine

/-- An abort leaves the loads that wait. -/
theorem abortStream_queue (s : State) (status addr : Nat) : (abortStream s status addr).loader.queue = s.loader.queue := by
  have hdrop (s : State) (src : StreamSrc) (n fwd : Nat) : (dropSource s src n fwd).loader.queue = s.loader.queue := by
    have hfeed (s : State) (bs : List Byte) : (takeFeed s bs).loader.queue = s.loader.queue := by
      unfold takeFeed
      dsimp only
      split
      · rfl
      · rw [chainSend_loader]
    cases src
    case feed => exact (hfeed _ _).trans rfl
    all_goals rfl
  have hnote (s : State) (src : StreamSrc) (status : Nat) : (noteSource s src status).loader.queue = s.loader.queue := by
    have hlast : (if status = 0x0104 then s else { s with chain.lastOwnStatus := status }).loader.queue = s.loader.queue := by split <;> rfl
    cases src <;> rw [noteSource] <;> dsimp only
    case primary =>
      split
      · rw [event_loader]
        exact hlast
      · exact hlast
    case chain => split <;> rfl
    all_goals exact hlast
  have hend (s : State) (st : Stream) : (endStream s st status addr).loader.queue = s.loader.queue := by
    unfold endStream
    dsimp only
    rw [hnote]
    split
    · rw [hdrop]
      rfl
    · dsimp only
      rw [chainSend_loader, hdrop]
      rfl
  have hplanes (s : State) (st : Stream) : (invalidateLoading s st).loader = s.loader :=
    (invalidateLoading_links (sc := .wide [.planes]) s st (by simp)).keeps .loader
  unfold abortStream abortWith
  split
  · rfl
  · dsimp only
    rw [hend]
    split <;> rw [event_loader, hplanes]

/-- Bytes fed: how many there were, and how many the skip still takes. -/
theorem takeFeed_counts (s : State) (bs : List Byte) : (takeFeed s bs).loader.fed = s.loader.fed ∧
    (takeFeed s bs).loader.feedSkip = s.loader.feedSkip - min s.loader.feedSkip bs.length := by
  unfold takeFeed
  dsimp only
  split
  · exact ⟨rfl, rfl⟩
  · rw [chainSend_loader]
    exact ⟨rfl, rfl⟩

@[simp] theorem setLib_same (s : State) (n : Nat) (x : LibEntry) : (setLib s n x).libEntry n = x := AMap.get_set_same ..

theorem num_put {s t : State} {idx sub : Nat} {v : List Byte} (h : t.obj = (s.putObj idx sub v).obj) (hv : v ≠ []) : t.num idx sub = leNat v := by
  rw [State.num, bytesOf_put h hv]

/-- Settles O26: the loader's part as each command's action leaves it, seen through what follows the action. -/
theorem libraryCommandsComplete : Obligations.LibraryCommandsComplete := by
  refine ⟨?_, ?_, ?_, ?_, ?_, ?_, ?_, ?_, ?_, ?_⟩
  · refine fun e data => rowCompletes_host (fun _ => rfl) fun s s1 who h => ?_
    rw [writeAnswered, respond_loader, written_wo (by decide) (by decide) row_hostFeedData rfl rfl]
    exact takeFeed_counts { s1 with loader.fed := s1.loader.fed + data.length } data
  · intro images s hmode hcopy hlib hentry hlen
    change execLibraryCopy images s = _
    rw [execLibraryCopy, if_neg]
    rintro (h | h | h | h | h)
    exacts [h hmode, h hcopy, hlib h, h hentry, absurd h (Nat.not_lt.mpr hlen)]
  · intro bad s hcopy
    have hexec : exec (.libraryCopyDone bad) s = execLibraryCopyDone bad s := rfl
    rw [hexec, execLibraryCopyDone, if_neg (not_not.mpr hcopy)]
    cases bad
    · refine ⟨_, if_neg Bool.false_ne_true, ?_⟩
      rw [event_loader]
      rfl
    · refine ⟨_, if_pos rfl, ?_⟩
      rw [copyFailed, event_loader]
      rfl
  · refine fun e size v => rowCompletes_host (fun _ => rfl) fun s s1 who h => ?_
    have hu : u64 v.toNat ≠ [] := fun h => absurd (congrArg List.length h) (by simp [u64])
    refine (num_put (s := s1) ?_ hu).trans (leNat_u64 v)
    rw [writeAnswered, respond_obj, written_rw (by decide) (by cases size <;> decide) (row_libraryAreaWrite size) (by cases size <;> rfl)
      (by cases size <;> rfl) rfl]
    rfl
  · refine fun e v => rowCompletes_host (fun _ => rfl) fun s s1 who h => ?_
    have hclose (s : State) : ((List.range 64).foldl (fun s k => if (s.libEntry k).writing then
        setLib s k { s.libEntry k with present := true, writing := false } else s) s).obj = s.obj :=
      foldl_keeps State.obj (fun s k => by split <;> rfl) _ s
    refine ⟨?_, fun hv => ?_⟩
    · refine (num_put (s := s1) ?_ (by simp)).trans (leNat_u8 v)
      rw [writeAnswered, respond_obj, written_rw (by decide) (by decide) row_writeEntry rfl rfl rfl]
      dsimp only [actWriteEntry]
      split
      · exact hclose _
      · rfl
    · have hv' : leNat [v] ≠ 0xFF := fun h => hv (BitVec.eq_of_toNat_eq ((leNat_u8 v).symm.trans h))
      rw [State.libEntry, writeAnswered, respond_loader, written_rw (by decide) (by decide) row_writeEntry rfl rfl rfl]
      dsimp only [actWriteEntry]
      rw [if_neg hv', leNat_u8]
      exact setLib_same ..
  · refine fun e data => rowCompletes_host (fun _ => rfl) fun s s1 who h => ?_
    rw [State.libEntry, writeAnswered, respond_loader, written_wo (by decide) (by decide) row_writeData rfl rfl]
    exact setLib_same ..
  · refine fun e v => rowCompletes_host (fun _ => rfl) fun s s1 who h => ?_
    rw [writeAnswered, respond_loader, written_wo (by decide) (by decide) row_loadEntry rfl rfl]
    simp only [actLoadEntry, leNat_u8]
  · intro s n rest hq hcur hload
    have hexec : exec .loadStart s = execLoadStart s := rfl
    have hfree : ¬ (s.loader.cur.isSome ∨ s.loader.loading.isSome) := by
      rw [hcur, hload]
      decide
    rw [hexec, execLoadStart, hq]
    refine ⟨_, if_neg hfree, ?_⟩
    rw [event_loader]
  · refine fun e => rowCompletes_host (fun _ => rfl) fun s s1 who h => ?_
    rw [writeAnswered, respond_loader, written_wo (by decide) (by decide) row_cancelAll rfl rfl]
    exact ⟨abortStream_idle .., rfl, abortStream_queue ..⟩
  · refine fun e => rowCompletes_host (fun _ => rfl) fun s s1 who h => ?_
    rw [writeAnswered, respond_loader, written_wo (by decide) (by decide) row_cancelAll rfl rfl]
    exact ⟨abortStream_idle .., rfl, rfl⟩

end Sys2Proof.Machine
end

section
/-! PROOFS. O27: chain frames and timeouts complete. -/

namespace Sys2Proof.Machine

/-! #### A frame of the chain that is taken here -/

theorem hitchFrame_taken {s s1 : State} {f : HFrame} (h : hitchTake s f = (s1, true)) (hhere : passesOn s1 f = false) (type : Nat) (payload : List Byte)
    (take : State → State) : hitchFrame s f type payload take = take s1 := by
  unfold hitchFrame
  dsimp only
  rw [h]
  dsimp only
  rw [if_neg (not_not.mpr rfl), hhere]
  exact if_neg Bool.false_ne_true

@[simp] theorem link_updLink_same (s : State) (up : Bool) (f : Hitch → Hitch) : (s.updLink up f).link up = f (s.link up) := by cases up <;> rfl

theorem hitchSend_chain (s : State) (up : Bool) (type dst : Nat) (p : List Byte) : (hitchSend s up type dst p).chain = s.chain :=
  (hitchSend_links (sc := .wide [.outs, .lanes]) s up type dst p (by simp)).keeps .chain

theorem chainSend_chain (s : State) (bs : List Byte) : (chainSend s bs).chain = { s.chain with lastForwardAt := s.now } := by
  unfold chainSend
  exact foldl_keeps State.chain (fun s p => hitchSend_chain ..) _ _

theorem passGo_chain (s : State) (countdown : Nat) : (passGo s countdown).chain = s.chain :=
  (passGo_links (sc := .wide [.outs, .lanes]) s countdown (by simp)).keeps .chain

theorem passGo_freeCtr (s : State) (countdown : Nat) : (passGo s countdown).freeCtr = s.freeCtr :=
  (passGo_links (sc := .wide [.outs, .lanes]) s countdown (by simp)).keeps .freeCtr

/-- Passing a position on tells nothing of the device's own. -/
theorem sendPosition_kept (s : State) : (sendPosition s).chain.position = s.chain.position ∧ (sendPosition s).chain.joined = s.chain.joined := by
  have hnote (s : State) (n : Nat) : (noteDevice s n).chain.position = s.chain.position ∧ (noteDevice s n).chain.joined = s.chain.joined := by
    unfold noteDevice
    split <;> exact ⟨rfl, rfl⟩
  unfold sendPosition
  split
  · exact ⟨rfl, rfl⟩
  · split
    · rw [event_chain]
      exact ⟨rfl, rfl⟩
    · rw [(hnote _ _).1, (hnote _ _).2, hitchSend_chain]
      exact ⟨rfl, rfl⟩

theorem checkGo_reports (s : State) : (checkGo s).chain.reports = s.chain.reports ∧ (checkGo s).chain.reported = s.chain.reported := by
  unfold checkGo
  split
  · rw [sendGo, passGo_chain]
    exact ⟨rfl, rfl⟩
  · exact ⟨rfl, rfl⟩

theorem noteReport_reports (s : State) (pos flags reason status : Nat) :
    (noteReport s pos flags reason status).chain.reports = AMap.set 0 s.chain.reports pos (flags * 0x1000000 + reason * 0x10000 + status) ∧
      (noteReport s pos flags reason status).chain.reported = AMap.set false s.chain.reported pos true := by
  unfold noteReport
  dsimp only
  split
  · exact ⟨rfl, rfl⟩
  · rw [event_chain]
    exact ⟨rfl, rfl⟩

/-- A report missed at its time is an event, and 0 is held for it. -/
def reportMissed (s : State) (p : Nat) : State :=
  if p = 0 ∨ AMap.get false s.chain.reported p then s else event { s with chain.reports := AMap.set 0 s.chain.reports p 0 } (chainSrc p) 0x100E (u8 p)

theorem reportMissed_kept (s : State) (p : Nat) :
    (reportMissed s p).chain.lastForwardAt = s.chain.lastForwardAt ∧ (reportMissed s p).chain.reported = s.chain.reported := by
  unfold reportMissed
  split
  · exact ⟨rfl, rfl⟩
  · rw [event_chain]
    exact ⟨rfl, rfl⟩

/-- Settles O27: each frame by what the device that takes it does, each timeout by its condition. -/
theorem chainCommandsComplete : Obligations.ChainCommandsComplete := by
  refine ⟨?_, ?_, ?_, ?_, ?_, ?_, ?_, ?_, ?_, ?_, ?_⟩
  · intro f pos s s1 h hhere hup hhead hpos
    refine ⟨_, congrArg Host.Outcome.next (hitchFrame_taken h hhere ..), ?_⟩
    dsimp only
    rw [if_neg (by rw [hup, hhead]; simp; omega), (sendPosition_kept _).1, (sendPosition_kept _).2, event_chain]
    exact ⟨rfl, rfl⟩
  · intro f bytes s s1 h hhere hup hhead hmode hphase
    have hsend (c : Prop) [Decidable c] : (if c then chainSend s1 bytes else s1).chain.buf = s1.chain.buf ∧
        (if c then chainSend s1 bytes else s1).chain.skip = s1.chain.skip := by
      split
      · rw [chainSend_chain]
        exact ⟨rfl, rfl⟩
      · exact ⟨rfl, rfl⟩
    refine ⟨_, congrArg Host.Outcome.next (hitchFrame_taken h hhere ..), ?_⟩
    dsimp only
    rw [if_pos ⟨hup, by rw [hhead]; exact Bool.false_ne_true, hmode, hphase⟩]
    simp only [takeChain, (hsend _).1, (hsend _).2]
    exact ⟨trivial, trivial⟩
  · intro f pos flags reason status s s1 h hhere hup hhead hpos
    have hnote (s : State) (n : Nat) : (noteDevice s n).chain.reports = s.chain.reports := by
      unfold noteDevice
      split <;> rfl
    refine ⟨_, congrArg Host.Outcome.next (hitchFrame_taken h hhere ..), ?_⟩
    rw [hup, if_neg Bool.false_ne_true, if_pos hhead, if_neg (Nat.not_le.mpr hpos), (checkGo_reports _).1, (checkGo_reports _).2,
      (noteReport_reports ..).1, (noteReport_reports ..).2, hnote]
    exact ⟨AMap.get_set_same .., rfl⟩
  · intro f pos flags reason status s s1 h hhere hup hhead
    refine congrArg Host.Outcome.next ((hitchFrame_taken h hhere ..).trans ?_)
    rw [hup, if_neg Bool.false_ne_true, hhead]
    exact if_neg Bool.false_ne_true
  · intro s hhead hforward hwait
    have hexec : exec .reportTimeout s = execReportTimeout s := rfl
    have hgo : ¬ (¬ chainHead s ∨ s.chain.lastForwardAt = 0 ∨ ¬ s.elapsed s.chain.lastForwardAt (reportTimeoutNs s)) := by simp [hhead, hforward, hwait]
    rw [hexec, execReportTimeout, if_neg hgo]
    have hall {α : Type} (part : State → α) (h : ∀ s p, part (reportMissed s p) = part s) := foldl_keeps part h (List.range s.chain.devices) { s with chain.lastForwardAt := 0 }
    exact ⟨_, rfl, hall (·.chain.lastForwardAt) fun s p => (reportMissed_kept s p).1, hall (·.chain.reported) fun s p => (reportMissed_kept s p).2⟩
  · intro f countdown s s1 h hhere hup hhead
    refine ⟨_, congrArg Host.Outcome.next (hitchFrame_taken h hhere ..), ?_⟩
    dsimp only
    rw [if_neg (by rw [hup, hhead]; simp), passGo_chain]
    exact ⟨rfl, rfl⟩
  · refine fun e v => rowCompletes_host (fun _ => rfl) fun s s1 who h => ?_
    rw [writeAnswered, respond_chain, respond_freeCtr, written_wo (by decide) (by decide) row_forceGo rfl rfl]
    simp only [actForceGo, sendGo, passGo_chain, passGo_freeCtr]
    exact ⟨rfl, trivial, rfl⟩
  · intro s at_ hfrom hphase hgo hwait
    have hexec : exec .goWaitTimeout s = execGoWaitTimeout s := rfl
    rw [hexec, execGoWaitTimeout, hfrom]
    dsimp only
    rw [if_pos ⟨hphase, hgo, hwait⟩]
    obtain ⟨hboot, hcfg⟩ := failStart_fails { s with chain.goWaitFrom := none } 7
    exact ⟨_, rfl, congrArg Boot.phase hboot, congrArg Boot.failReason hboot, hcfg⟩
  · intro s hphase hstrap hcur hwait
    have hexec : exec .chainDataTimeout s = execChainDataTimeout s := rfl
    rw [hexec, execChainDataTimeout, if_pos ⟨hphase, hstrap, by rw [hcur]; rfl, hwait⟩]
    obtain ⟨hboot, hcfg⟩ := failStart_fails s 6
    exact ⟨_, rfl, congrArg Boot.phase hboot, congrArg Boot.failReason hboot, hcfg⟩
  · intro f t1 s s1 h hhere
    exact congrArg Host.Outcome.next (hitchFrame_taken h hhere ..)
  · intro f t1 t2 t3 t4 s s1 h hhere hcount
    refine ⟨_, congrArg Host.Outcome.next (hitchFrame_taken h hhere ..), ?_⟩
    dsimp only
    rw [if_neg (Nat.not_le.mpr hcount), link_updLink_same]
    exact ⟨rfl, rfl, rfl⟩

end Sys2Proof.Machine
end

section
/-! PROOFS. O28: hitch unit commands complete. -/

namespace Sys2Proof.Machine

/-! #### The hitch unit's commands -/

theorem find?_of_indexOf? {α : Type} {p : α → Bool} {l : List α} {i : Nat} (h : indexOf? p l = some i) : ∃ x, l.find? p = some x := by
  induction l generalizing i with
  | nil => nomatch h
  | cons x xs ih =>
    cases hx : p x with
    | true => exact ⟨x, by rw [List.find?_cons, hx]⟩
    | false =>
      rw [indexOf?, hx, if_neg Bool.false_ne_true] at h
      obtain ⟨j, hj, -⟩ := Option.map_eq_some_iff.mp h
      obtain ⟨y, hy⟩ := ih hj
      exact ⟨y, by rw [List.find?_cons, hx]; exact hy⟩

theorem foldl_outs {α : Type} (out : α → Out) (l : List α) (s : State) : (l.foldl (fun s x => s.emit (out x)) s).outs = s.outs ++ l.map out := by
  induction l generalizing s with
  | nil => exact (List.append_nil _).symm
  | cons x xs ih => rw [List.foldl_cons, ih, State.emit_outs, List.append_assoc, List.map_cons, List.singleton_append]

theorem foldl_emit_lanes {α : Type} (out : α → Out) (l : List α) (s : State) : (l.foldl (fun s x => s.emit (out x)) s).lanes = s.lanes :=
  foldl_keeps State.lanes (fun s x => State.emit_lanes s (out x)) l s

theorem updLink_outs (s : State) (up : Bool) (f : Hitch → Hitch) : (s.updLink up f).outs = s.outs := by cases up <;> rfl

/-- A resend repeats every frame unacknowledged, and only then counts it. -/
theorem execHitchResend_again {up : Bool} {s : State} (hup : (s.link up).up = true) (hwait : (s.link up).unacked ≠ [])
    (hlong : s.elapsed (s.link up).sentAt 5000 = true) (hfew : (s.link up).resends < 16) :
    ∃ t, execHitchResend up s = .next t ∧ (t.link up).unacked = (s.link up).unacked ∧ (t.link up).resends = (s.link up).resends + 1 ∧
      t.outs = s.outs ++ (s.link up).unacked.map fun x => .hitch up x.2.type x.1 (ackNow (s.link up)) x.2.dst x.2.src x.2.payload := by
  have hlanes (s1 : State) (n : Nat) : ({ s1 with lanes.resends := n }).link up = s1.link up := by cases up <;> rfl
  have hlink (s1 s2 : State) (h : s1.lanes = s2.lanes) : s1.link up = s2.link up := by unfold State.link; rw [h]
  unfold execHitchResend
  dsimp only
  split
  · next h => exact absurd h hwait
  · rw [if_neg (by simp [hup, hlong]), if_neg (Nat.not_le.mpr hfew)]
    refine ⟨_, rfl, ?_, ?_, ?_⟩
    · rw [hlanes, link_updLink_same, hlink _ s (foldl_emit_lanes ..)]
    · rw [hlanes, link_updLink_same, hlink _ s (foldl_emit_lanes ..)]
    · exact (updLink_outs ..).trans (foldl_outs ..)

/-- Settles O28: a frame taken here by its own act, the windows' messages by their pushes and pops. -/
theorem hitchCommandsComplete : Obligations.HitchCommandsComplete := by
  refine ⟨?_, ?_, ?_, ?_, fun up s hup hwait hlong hfew => execHitchResend_again hup hwait hlong hfew, ?_, ?_⟩
  · intro f message s s1 hcredit h hhere hset hmode hsrc hop hlen
    have hexec : exec (.remoteReq f message) s = execRemoteReq f message s := rfl
    rw [hexec, execRemoteReq, if_neg (by simp [hcredit]), hitchFrame_taken h hhere]
    dsimp only
    rw [if_neg (by simp [hset, hmode]), if_neg (by omega)]
    exact ⟨_, rfl, rfl, rfl, rfl, rfl, rfl⟩
  · intro f message s s1 i h hhere hi
    have hexec : exec (.remoteResp f message) s = execRemoteResp f message s := rfl
    obtain ⟨r, hr⟩ := find?_of_indexOf? hi
    rw [hexec, execRemoteResp, hitchFrame_taken h hhere]
    dsimp only
    rw [hr]
    dsimp only
    rw [hi]
    rfl
  · intro f s hup hcrc hack
    exact congrArg Host.Outcome.next (if_pos ⟨hup, hcrc, hack⟩)
  · intro up s hup howed
    refine ⟨_, congrArg Host.Outcome.next (if_pos ⟨hup, howed⟩), ?_, ?_⟩
    · cases up <;> rfl
    · cases up <;> rfl
  · intro s s1 h msg hw hon hh hfill hsize hroom hresp hpop hdst hlow hop hlen hup
    have hexec : exec .remoteRequestPush s = execRemoteRequestPush s := rfl
    rw [hexec, execRemoteRequestPush, if_neg (by simp [hon]; omega)]
    dsimp only
    rw [← hh, if_neg (by simp only [Nat.add_assoc, Nat.reduceAdd]; omega), hpop]
    dsimp only
    rw [if_neg (not_not.mpr rfl), if_neg (by omega), if_neg (not_not.mpr hup)]
  · intro tag s i r hi hr
    have hexec : exec (.remoteTimeout tag) s = execRemoteTimeout tag s := rfl
    rw [hexec, execRemoteTimeout, hi]
    dsimp only
    rw [hr]
    exact ⟨_, rfl, event_lanes ..⟩

end Sys2Proof.Machine
end

section
/-! PROOFS. O29: NoC packets are served and answered. -/

namespace Sys2Proof.Machine

/-! #### A packet whose turn it is -/

theorem requestArrives_served {s s1 u t : State} {k kind : Nat} {link : LinkFault} {tag : TagErr} {err : MemErr} {p : Pkt}
    (htake : takePacket s k kind = some (p, s1)) (hlink : link = .none ∧ u = s1 ∨ link = .corrected ∧ u = linkCorrected s1 p)
    (hserve : serveRequest u p tag err = some t) : requestArrives s k kind link tag err = t := by
  obtain ⟨rfl, rfl⟩ | ⟨rfl, rfl⟩ := hlink
  · rw [requestArrives, htake]
    dsimp only
    rw [hserve, Option.getD_some]
  · rw [requestArrives, htake]
    dsimp only
    rw [hserve, Option.getD_some]

theorem serveRequest_off {u : State} {p : Pkt} (hoff : routeOff u p = true) (tag : TagErr) (err : MemErr) :
    serveRequest u p tag err = some (answer u p 7 [] 0) :=
  if_pos hoff

theorem serveRequest_tap {u : State} {p : Pkt} (hon : routeOff u p = false) (htap : isTap p.use = true) (tag : TagErr) (err : MemErr) :
    serveRequest u p tag err = some (answer u p (if u.sectorOn (p.address / 2 ^ 32 % 4096) then 0 else 7) [] 0) := by
  rw [serveRequest, if_neg (by rw [hon]; exact Bool.false_ne_true), if_pos htap]

/-- The work of a request at what its address decodes to. -/
def servedAt (u : State) (p : Pkt) (tag : TagErr) (err : MemErr) : Target → Option State
  | .bad st code => some (refuse u p st code)
  | .dram _ => some (reachSlice u p tag err)
  | .pan off => some (panServe u p off err)
  | .window n off => some (answer (windowAccess (windowCycle u n off p) n off p err).1 p
      (windowAccess (windowCycle u n off p) n off p err).2.1 (windowAccess (windowCycle u n off p) n off p err).2.2 0)
  | .fabric g c off => portServe u p g c off
  | .service off => some (serviceServe u p off)

/-- A request that is routed and not a tap's is served by what its address decodes to. -/
theorem serveRequest_target {u : State} {p : Pkt} {tag : TagErr} {err : MemErr} {target : Target} (hon : routeOff u p = false)
    (htap : isTap p.use = false) (hdec : decode u p.initiator p.address p.length (decide (p.kind = 0x02)) = target) :
    serveRequest u p tag err = servedAt u p tag err target := by
  rw [serveRequest, if_neg (by rw [hon]; exact Bool.false_ne_true), if_neg (by rw [htap]; exact Bool.false_ne_true), hdec]
  cases target <;> rfl

theorem responseArrives_taken {s s1 u : State} {k kind : Nat} {link : LinkFault} {r p : Pkt} (htake : takePacket s k kind = some (r, s1))
    (hopen : u.noc.open_.find? (fun q => decide (q.id = r.id)) = some p) :
    ((link = .none ∧ u = s1 ∨ link = .corrected ∧ u = linkCorrected s1 r) → responseArrives s k kind link =
      finish (statDone u p r.status) p r.status r.outcome (if r.status = 0 then r.data else zeros r.data.length)) ∧
    (link = .poisoned → u = s1 → responseArrives s k kind link =
      finish (statDone u p (if r.status = 0 then 3 else r.status)) p (if r.status = 0 then 3 else r.status) r.outcome (zeros r.data.length)) ∧
    (link = .headerLost → responseArrives s k kind link = headerLost s1 r) := by
  have htaken (status : Nat) : responseTaken u r status = finish (statDone u p status) p status r.outcome (if status = 0 then r.data else zeros r.data.length) := by
    rw [responseTaken, hopen]
  rw [responseArrives, htake]
  refine ⟨?_, ?_, ?_⟩
  · rintro (⟨rfl, rfl⟩ | ⟨rfl, rfl⟩)
    · exact htaken _
    · exact htaken _
  · rintro rfl rfl
    refine (htaken _).trans ?_
    cases Nat.decEq r.status 0 with
    | isTrue h => rw [h]; rfl
    | isFalse h => rw [if_neg h, if_neg h]
  · rintro rfl
    rfl

/-- Settles O29: what is taken from the network is served as its address decodes, or ends what waits for it. -/
theorem packetCommandsComplete : Obligations.PacketCommandsComplete := by
  refine ⟨?_, ?_, ?_, ?_, ?_, ?_⟩
  · intro k kind link tag err s s1 u p c hc htake hlink
    have hexec : exec c s = .next (requestArrives s k kind link tag err) := by
      obtain ⟨rfl, rfl⟩ | ⟨rfl, rfl⟩ := hc <;> rfl
    have hserved {t : State} (h : serveRequest u p tag err = some t) : exec c s = .next t := by
      rw [hexec, requestArrives_served htake hlink h]
    refine ⟨fun hoff => hserved (serveRequest_off hoff ..), fun hon htap => hserved (serveRequest_tap hon htap ..), fun hon htap => ?_⟩
    exact ⟨fun st code h => hserved (serveRequest_target hon htap h), fun a h => hserved (serveRequest_target hon htap h),
      fun off h => hserved (serveRequest_target hon htap h), fun n off h => hserved (serveRequest_target hon htap h),
      fun g cl off t h hport => hserved ((serveRequest_target hon htap h).trans hport),
      fun off h => hserved (serveRequest_target hon htap h)⟩
  · intro k tag err s s1 p htake
    have hexec (link : LinkFault) : exec (.nocReadRequest k link tag err) s = .next (requestArrives s k 0x01 link tag err) := rfl
    rw [hexec, hexec, requestArrives, requestArrives, htake]
    exact ⟨rfl, rfl⟩
  · intro k tag err s s1 p htake
    have hexec (link : LinkFault) : exec (.nocWriteRequest k link tag err) s = .next (requestArrives s k 0x02 link tag err) := rfl
    rw [hexec, hexec, requestArrives, requestArrives, htake]
    exact ⟨rfl, rfl⟩
  · intro k kind link s s1 u r p c hc htake hopen
    have hexec : exec c s = .next (responseArrives s k kind link) := by
      obtain ⟨rfl, rfl⟩ | ⟨rfl, rfl⟩ := hc <;> rfl
    obtain ⟨hgood, hpoisoned, hlost⟩ := responseArrives_taken (link := link) htake hopen
    exact ⟨fun h => by rw [hexec, hgood h], fun h hu => by rw [hexec, hpoisoned h hu], fun h => by rw [hexec, hlost h]⟩
  · intro k s p hk hlong
    have hexec : exec (.responseTimeout k) s = execResponseTimeout k s := rfl
    rw [hexec, execResponseTimeout, hk]
    dsimp only
    rw [if_neg (not_not.mpr hlong)]
    refine ⟨_, rfl, ?_⟩
    rw [event_noc]
    exact ⟨rfl, rfl, rfl⟩
  · intro k s p hk hgt hdirect hurgent hold
    have hexec : exec (.packetPromotedUrgent k) s = execPacketPromotedUrgent k s := rfl
    rw [hexec, execPacketPromotedUrgent, hk]
    dsimp only
    rw [if_neg (by simp [hgt, hdirect, hurgent, hold])]
    exact ⟨_, rfl, counted_noc ..⟩

end Sys2Proof.Machine
end

section
/-! PROOFS. O30: reservations, movers and figures complete. -/

namespace Sys2Proof.Machine

/-! #### What a request of a mover leaves of the movers -/

theorem mover_updMover_same (s : State) (m : Nat) (f : Mover → Mover) : (updMover s m f).mover m = f (s.mover m) := AMap.get_upd_same ..

theorem mover_of_movers {s t : State} (h : t.noc.movers = s.noc.movers) (m : Nat) : t.mover m = s.mover m := by
  rw [State.mover, h, State.mover]

theorem issue_movers (s : State) (p : Pkt) : (issue s p).noc.movers = s.noc.movers := by
  have hmissed (c : Prop) [Decidable c] (u : State) (i : Nat) (f : NocStat → NocStat) (src code : Nat) (q : List Byte)
      (h : u.noc.movers = s.noc.movers) : (if c then event (updStat u i f) src code q else u).noc.movers = s.noc.movers := by
    split
    · rw [event_noc]
      exact h
    · exact h
  unfold issue
  exact hmissed _ _ _ _ _ _ _ rfl

theorem request_movers (s : State) (kind init addr len cls : Nat) (data : List Byte) (use : TxnUse) (gt : Bool) :
    (request s kind init addr len cls data use gt).noc.movers = s.noc.movers :=
  issue_movers ..

theorem readDescriptor_mover (s : State) (m addr : Nat) : (readDescriptor s m addr).mover m =
    { s.mover m with descAddr := addr, desc := [], row := 0, col := 0, outstanding := (s.mover m).outstanding + 1 } :=
  (mover_of_movers (request_movers ..) m).trans (mover_updMover_same ..)

theorem startMover_mover (s : State) (m addr : Nat) : ((startMover s m addr).mover m).state = 1 ∧ ((startMover s m addr).mover m).descAddr = addr := by
  rw [startMover, readDescriptor_mover, mover_updMover_same]
  exact ⟨rfl, rfl⟩

theorem issue_outs (s : State) (p : Pkt) : (issue s p).outs = s.outs :=
  (issue_links (sc := .wide [.noc, .board, .obs]) s p (by simp)).keeps .outs

/-- A mover that settles keeps what it has completed and its next descriptor. -/
theorem moverSettle_kept (s : State) (m : Nat) :
    ((moverSettle s m).mover m).completed = (s.mover m).completed ∧ ((moverSettle s m).mover m).descAddr = (s.mover m).descAddr := by
  have hevent (u : State) (src code : Nat) (p : List Byte) : (event u src code p).mover m = u.mover m :=
    mover_of_movers (congrArg Noc.movers (event_noc ..)) m
  unfold moverSettle
  dsimp only
  split
  · exact ⟨rfl, rfl⟩
  · split
    · rw [hevent, mover_updMover_same]
      exact ⟨rfl, rfl⟩
    · split
      · rw [mover_updMover_same]
        exact ⟨rfl, rfl⟩
      · exact ⟨rfl, rfl⟩

/-- The last bit of a reservation's stored word is the one written. -/
theorem keepFields_top {r : ObjRow} (hm : r.mask = 0xA0FF3F000000FFFF) (ht : tySize r.ty = 8) (old : List Byte) (v : U64) :
    bit (leNat (keepFields r old (u64 v.toNat))) 63 = bit v.toNat 63 := by
  have hrest : (2 ^ 64 - 1 - 0xA0FF3F000000FFFF).testBit 63 = false := by decide
  have hmask : Nat.testBit 0xA0FF3F000000FFFF 63 = true := by decide
  have hlt : (leNat old &&& (2 ^ 64 - 1 - 0xA0FF3F000000FFFF) ||| v.toNat &&& 0xA0FF3F000000FFFF) < 2 ^ 64 :=
    Nat.or_lt_two_pow (Nat.and_lt_two_pow _ (by decide)) (Nat.and_lt_two_pow _ (by decide))
  rw [keepFields, hm, if_neg (by decide), ht, leNat_u64, leNat_leBytes _ _ hlt]
  rw [bit, Nat.testBit_or, Nat.testBit_and, Nat.testBit_and, hrest, hmask, Bool.and_false, Bool.false_or, Bool.and_true]
  rfl

/-- A mover that goes on to its next descriptor, or has none, keeps what it has completed. -/
theorem mover_next (s : State) (m next : Nat) (h : (s.mover m).descAddr = next) :
    ((if next = 0 then moverSettle s m else readDescriptor s m next).mover m).completed = (s.mover m).completed ∧
      ((if next = 0 then moverSettle s m else readDescriptor s m next).mover m).descAddr = next := by
  split
  · exact ⟨(moverSettle_kept s m).1, (moverSettle_kept s m).2.trans h⟩
  · rw [readDescriptor_mover]
    exact ⟨rfl, rfl⟩

/-- What a descriptor's end asks of the network and tells. -/
def descriptorEnded (s : State) (k : Nat) (x : Mover) : State :=
  let s2 := if bit (descFlags x.desc) 6 then
      request (updMover s k fun y => { y with outstanding := y.outstanding + 1 }) 0x02 (0x30 + k) (x.descAddr + 56) 8 (descCls x.desc) (u64 s.tai)
        (.moverDone k) false
    else s
  if bit (descFlags x.desc) 7 then event s2 (moverSrc k) 0x3009 (u8 k ++ leBytes x.descAddr 7 ++ u64 s.tai) else s2

theorem descriptorEnded_mover (s : State) (k : Nat) (x : Mover) : ((descriptorEnded s k x).mover k).completed = (s.mover k).completed ∧
    ((descriptorEnded s k x).mover k).descAddr = (s.mover k).descAddr := by
  have htold (c : Prop) [Decidable c] (u : State) (src code : Nat) (p : List Byte) : (if c then event u src code p else u).mover k = u.mover k := by
    split
    · exact mover_of_movers (congrArg Noc.movers (event_noc ..)) k
    · rfl
  unfold descriptorEnded
  dsimp only
  rw [htold]
  split
  · rw [mover_of_movers (request_movers ..), mover_updMover_same]
    exact ⟨rfl, rfl⟩
  · exact ⟨rfl, rfl⟩

theorem execMoverDescriptorDone_next {m : Fin 16} {s : State} (hstate : (s.mover m.val).state = 1) (hdesc : (s.mover m.val).desc ≠ [])
    (hstop : (s.mover m.val).stopping = false) (hfail : (s.mover m.val).failed = 0) (hout : (s.mover m.val).outstanding = 0)
    (hrow : descRows (s.mover m.val).desc ≤ (s.mover m.val).row) :
    ∃ t, exec (.moverDescriptorDone m) s = .next t ∧ (t.mover m.val).completed = satInc (s.mover m.val).completed 0xFFFFFF ∧
      (t.mover m.val).descAddr = natAt (s.mover m.val).desc 40 8 := by
  have hgo : ¬ ((s.mover m.val).state ≠ 1 ∨ (s.mover m.val).desc = [] ∨ (s.mover m.val).stopping ∨ (s.mover m.val).failed ≠ 0 ∨
      (s.mover m.val).outstanding ≠ 0 ∨ (s.mover m.val).row < descRows (s.mover m.val).desc) := by
    simp [hstate, hdesc, hstop, hfail, hout, hrow]
  let s1 := updMover s m.val fun y => { y with completed := satInc y.completed 0xFFFFFF, desc := [], descAddr := natAt (s.mover m.val).desc 40 8 }
  have hs1 : s1.mover m.val = { s.mover m.val with completed := satInc (s.mover m.val).completed 0xFFFFFF, desc := [],
                                                    descAddr := natAt (s.mover m.val).desc 40 8 } := mover_updMover_same ..
  obtain ⟨hcompleted, haddr⟩ := descriptorEnded_mover s1 m.val (s.mover m.val)
  obtain ⟨hlast, hnext⟩ := mover_next (descriptorEnded s1 m.val (s.mover m.val)) m.val _ (haddr.trans (congrArg Mover.descAddr hs1))
  refine ⟨_, if_neg hgo, ?_, hnext⟩
  exact hlast.trans (hcompleted.trans (congrArg Mover.completed hs1))

theorem moverStart_completes (e : Env) (m : Byte) (addr : U64) :
    rowCompletes (.moverStart e m addr) e false (wholeWrite 0x6431 1 ([m] ++ u64 addr.toNat)) actMoverStart fun _ t =>
      (t.mover m.toNat).state = 1 ∧ (t.mover m.toNat).descAddr = addr.toNat := by
  refine rowCompletes_host (fun _ => rfl) fun s s1 who h => ?_
  have hbytes : natAt ([m] ++ u64 addr.toNat) 0 1 = m.toNat ∧ natAt ([m] ++ u64 addr.toNat) 1 8 = addr.toNat := by
    simp [natAt, bytesAt, u64, List.take_of_length_le]
  rw [writeAnswered, mover_of_movers (congrArg Noc.movers (respond_noc ..)), written_wo (by decide) (by decide) row_moverStart rfl rfl]
  simp only [actMoverStart, hbytes.1, hbytes.2]
  exact startMover_mover ..

/-- Settles O30: each act on its reservation, mover or figures alone. -/
theorem moverCommandsComplete : Obligations.MoverCommandsComplete := by
  refine ⟨?_, ?_, ?_, ?_, ?_, ?_, ?_, ?_, ?_, ?_⟩
  · intro e n v
    refine rowCompletes_host (fun _ => rfl) fun s s1 who h => ?_
    have htop := keepFields_top (r := ⟨0x6410, 0x6410, 1, 64, 0x1B, .rw, 4, 0, [], 0, 0, 0xA0FF3F000000FFFF⟩) (by decide) rfl
      (s1.bytesOf 0x6410 (n.val + 1)) v
    rw [writeAnswered, respond_noc, written_rw_fields (by decide) (by have := n.isLt; omega) (row_reservationWrite n) rfl rfl]
    simp only [actReservation, htop]
    constructor
    · intro hne
      rw [if_neg (show ¬ bit (leNat (s1.bytesOf 0x6410 (n.val + 1))) 63 = _ from hne)]
      rfl
    · split <;> rfl
  · intro n s hpend hdue
    have hexec : exec (.reservationTakesEffect n) s = execReservationTakesEffect n s := rfl
    rw [hexec, execReservationTakesEffect]
    dsimp only
    rw [if_neg (by omega)]
    exact ⟨_, rfl, event_noc ..⟩
  · intro initiator m addr s hout hseal hidle hserve
    have hinit : s.sealed.enabled = true → initiator.toNat ≠ 0 := fun h h0 => hseal h (BitVec.eq_of_toNat_eq h0)
    have hbell : moverDoorbell s initiator.toNat m.val addr.toNat = (startMover s m.val addr.toNat, 0) := by
      rw [moverDoorbell, if_neg (by rw [hout]; simpa using hinit), if_neg (by simp [hidle, hserve])]
    have hexec : exec (.moverDoorbell initiator m addr) s = execMoverDoorbell initiator m addr s := rfl
    rw [hexec, execMoverDoorbell, hbell]
    have hemit (u : State) (o : Out) : (u.emit o).mover m.val = u.mover m.val := mover_of_movers rfl _
    obtain ⟨hrun, haddr⟩ := startMover_mover s m.val addr.toNat
    refine ⟨_, rfl, ?_, ?_, ?_⟩
    · rw [hemit, hrun]
    · rw [hemit, haddr]
    · rw [State.emit_outs, startMover, readDescriptor, request, issue_outs]
      rfl
  · exact moverStart_completes
  · intro e mask
    refine rowCompletes_host (fun _ => rfl) fun s s1 who h => ?_
    rw [writeAnswered, respond_noc, written_wo (by decide) (by decide) row_moverStop rfl rfl]
    simp only [actMoverStop, leNat_u16]
  · intro m s hstate hdue
    exact congrArg Host.Outcome.next (if_pos ⟨hstate, hdue⟩)
  · exact fun m s => execMoverDescriptorDone_next
  · intro e
    refine rowCompletes_host (fun _ => rfl) fun s s1 who h => ?_
    rw [writeAnswered, respond_noc, written_wo (by decide) (by decide) row_statClearAll rfl rfl]
    rfl
  · intro e
    refine rowCompletes_host (fun _ => rfl) fun s s1 who h => ?_
    rw [writeAnswered, respond_noc, written_wo (by decide) (by decide) row_statClearAll rfl rfl]
    rfl
  · intro s hlong
    have hexec : exec .statWindowEnd s = execStatWindowEnd s := rfl
    rw [hexec, execStatWindowEnd, if_neg (not_not.mpr hlong)]
    refine ⟨_, rfl, fun kv hkv => ?_⟩
    obtain ⟨old, hold, rfl⟩ := List.mem_map.mp (List.mem_filter.mp hkv).1
    exact ⟨rfl, rfl, old, hold, rfl, rfl, rfl⟩

end Sys2Proof.Machine
end

section
/-! PROOFS. O31: Wale commands complete. -/

namespace Sys2Proof.Machine

/-! #### Wale's answers -/

/-- A fill that has been answered. -/
theorem execLineFillDone_answered {k : Nat} {s : State} {f : Fill} {st : Nat} {data : List Byte} (hk : s.wale.fills[k]? = some f)
    (ha : f.answer = some (st, data)) : execLineFillDone k s =
      if st ≠ 0 then .next (serveUnallocated { s with wale.fills := delAt s.wale.fills k } f.slice f.line st data)
      else (victim s f.slice f.line).elim
        (.next (serveUnallocated (event { s with wale.fills := delAt s.wale.fills k } (sliceSrc f.slice) 0x4808
          (u8 f.slice ++ u16 (setOf (f.line * 64)))) f.slice f.line 0 data))
        fun w => if victimsHeld s f.slice < 16 then
          .next (runSlices (placeLine { s with wale.fills := delAt s.wale.fills k } f.slice w { line := f.line, data := data })) else .next s := by
  unfold execLineFillDone
  rw [hk]
  dsimp only
  rw [ha]
  dsimp only
  congr 1
  cases victim s f.slice f.line <;> rfl

/-- What is left of a line whose write-back came to nothing. -/
def backLost (s : State) : Option (Nat × WLine) → State
  | some (j, x) => if x.pinned ∧ ¬ x.dirty then setWay s j none else s
  | none => s

theorem execWriteBackAnswered_lost {k : Nat} {s s1 : State} {b : WriteBack} {status : Fin 8} (hk : s.wale.backs[k]? = some b)
    (ha : b.answer = some status.val) (h0 : status ≠ 0) (h7 : status ≠ 7)
    (hs1 : s1 = flushLine { s with wale := { s.wale with backs := delAt s.wale.backs k } } b.slice b.line status.val) :
    execWriteBackAnswered k status s = .next (runSlices (event (backLost s1 (lookup s1 b.slice b.line)) (sliceSrc b.slice) 0x4807
      (u8 b.slice ++ u64 (b.line * 64) ++ u8 status.val))) := by
  have hne0 : ¬ status.val = 0 := fun h => h0 (Fin.ext h)
  have hne7 : ¬ status.val = 7 := fun h => h7 (Fin.ext h)
  unfold execWriteBackAnswered
  rw [hk]
  dsimp only
  rw [if_neg (not_not.mpr ha), if_neg hne0, if_neg hne7, ← hs1]
  rfl

/-- Settles O31: each answer by its status, each order by the slices it names. -/
theorem waleCommandsComplete : Obligations.WaleCommandsComplete := by
  refine ⟨?_, ?_, ?_, ?_, ?_, ?_, ?_, ?_⟩
  · intro k s f data hk ha
    have hexec : exec (.lineFillDone k) s = execLineFillDone k s := rfl
    rw [hexec, execLineFillDone_answered hk ha, if_neg (not_not.mpr rfl)]
    constructor
    · intro w hw hroom
      rw [hw, Option.elim_some, if_pos hroom]
    · intro hw
      rw [hw]
      exact ⟨_, rfl, event_wale ..⟩
  · intro k s f st data hk ha hst
    have hexec : exec (.lineFillDone k) s = execLineFillDone k s := rfl
    rw [hexec, execLineFillDone_answered hk ha, if_pos hst]
  · intro k s b hk ha
    have hexec : exec (.writeBackAnswered k 0) s = execWriteBackAnswered k 0 s := rfl
    rw [hexec, execWriteBackAnswered, hk]
    dsimp only
    have ha0 : ¬ b.answer ≠ some (0 : Fin 8).val := not_not.mpr ha
    rw [if_neg ha0]
    exact (if_pos rfl).trans rfl
  · intro k s b status hk ha hst
    have hexec : exec (.writeBackAnswered k status) s = execWriteBackAnswered k status s := rfl
    constructor
    · rintro rfl
      rw [hexec, execWriteBackAnswered, hk]
      dsimp only
      have ha7 : ¬ b.answer ≠ some (7 : Fin 8).val := not_not.mpr ha
      rw [if_neg ha7]
      exact (if_neg (by decide)).trans ((if_pos rfl).trans rfl)
    · intro h7
      refine ⟨_, _, hexec.trans (execWriteBackAnswered_lost hk ha hst h7 rfl), rfl, fun hnone => by rw [hnone, backLost], fun j x hsome => ?_⟩
      rw [hsome, backLost]
      simp only [Bool.not_eq_true]
  · intro slice line s hold
    exact congrArg Host.Outcome.next (if_pos hold)
  · intro e mask
    refine rowCompletes_host (fun _ => rfl) fun s s1 who h => ?_
    rw [writeAnswered, respond_wale, written_wo (by decide) (by decide) row_waleFlush rfl rfl]
    simp only [actFlush, leNat_u16]
  · intro e mask
    refine rowCompletes_host (fun _ => rfl) fun s s1 who h => ?_
    rw [writeAnswered, respond_wale, written_wo (by decide) (by decide) row_waleInvalidate rfl rfl]
    simp only [actFlush, leNat_u16]
  · intro slice s hflush hleft
    have hexec : exec (.flushDone slice) s = execFlushDone slice s := rfl
    have hgo : ¬ (¬ (s.slice slice.val).flushing ∨ (s.slice slice.val).flushLeft ≠ []) := by simp [hflush, hleft]
    rw [hexec, execFlushDone]
    dsimp only
    rw [if_neg hgo]
    exact ⟨_, rfl, congrArg Wale.slices (event_wale ..)⟩

end Sys2Proof.Machine
end

section
/-! PROOFS. O32: pannier window and test commands complete. -/

namespace Sys2Proof.Machine

/-! #### The windows' accesses that are served -/

section Window

variable {s : State} {n : Nat}

theorem window_updWindow_same (s : State) (n : Nat) (f : Window → Window) : (updWindow s n f).window n = f (s.window n) := AMap.get_upd_same ..

theorem windowPush_room {data : List Byte} (hon : windowOn s n = true) (hlo : 8 ≤ data.length) (hhi : data.length ≤ 1024) (hw : data.length % 8 = 0)
    (hroom : data.length ≤ windowSize s n - (s.window n).fill) (hbanks : windowBanks s n (s.window n).wr data.length = 0) :
    windowPush s n data = (updWindow (windowServed (panWrite (windowPlace s n (s.window n).wr) 0 data s) (windowSpans s n (s.window n).wr data.length)) n
      fun x => { x with wr := ((s.window n).wr + data.length) % windowSize s n, fill := (s.window n).fill + data.length }, 0, []) := by
  unfold windowPush
  dsimp only
  rw [if_neg (by simp [hon]; omega), if_neg (not_not.mpr hbanks), if_pos hroom]

theorem windowPop_full {len : Nat} (hon : windowOn s n = true) (hlo : 8 ≤ len) (hhi : len ≤ 1024) (hw : len % 8 = 0)
    (hfill : len ≤ (s.window n).fill) (hbanks : windowBanks s n (s.window n).rd len = 0) :
    windowPop s n len .good = (updWindow (windowServed s (windowSpans s n (s.window n).rd len)) n
      fun x => { x with rd := ((s.window n).rd + len) % windowSize s n, fill := (s.window n).fill - len }, 0,
        panBytes s (windowPlace s n (s.window n).rd) len) := by
  unfold windowPop
  dsimp only
  rw [if_neg (by simp [hon]; omega), if_neg (Nat.not_lt.mpr hfill), if_neg (not_not.mpr hbanks)]
  exact if_neg Bool.false_ne_true

theorem windowRelease_full {len : Nat} (hon : windowOn s n = true) (hw : len % 8 = 0) (hfill : len ≤ (s.window n).fill) :
    windowRelease s n len = (updWindow s n fun x => { x with rd := ((s.window n).rd + len) % windowSize s n, fill := (s.window n).fill - len }, 0, []) := by
  unfold windowRelease
  dsimp only
  rw [if_neg (by simp [hon, hw]), if_neg (Nat.not_lt.mpr hfill)]

theorem windowIndexed_read {off len : Nat} (hon : windowOn s n = true) (hlo : 0 < len) (hhi : len ≤ 1024) (hin : off + len ≤ windowSize s n)
    (hbanks : windowBanks s n ((s.window n).rd + off) len = 0) : windowIndexed s n off len none .good =
      (windowServed s (windowSpans s n ((s.window n).rd + off) len), 0, panBytes s (windowPlace s n ((s.window n).rd + off)) len) := by
  unfold windowIndexed
  dsimp only [Option.elim]
  rw [if_neg (by simp [hon]; omega), if_neg (not_not.mpr hbanks)]
  simp [panErr]

theorem windowIndexed_write {off len : Nat} {bs : List Byte} (hon : windowOn s n = true) (hlo : bs ≠ []) (hhi : bs.length ≤ 1024)
    (hin : off + bs.length ≤ windowSize s n) (hbanks : windowBanks s n ((s.window n).rd + off) bs.length = 0) :
    windowIndexed s n off len (some bs) .good = (panWrite (windowPlace s n ((s.window n).rd + off)) 0 bs
      (windowServed s (windowSpans s n ((s.window n).rd + off) bs.length)), 0, []) := by
  have hlen : bs.length ≠ 0 := fun h => hlo (List.eq_nil_of_length_eq_zero h)
  unfold windowIndexed
  dsimp only [Option.elim]
  rw [if_neg (by simp [hon, hlo]; omega), if_neg (not_not.mpr hbanks)]
  simp [panErr]

end Window

/-- What a background test holds beside the bytes that it keeps. -/
def BankTest.course (x : BankTest) : BankTest := { x with shadow := [] }

theorem panPut_course (s : State) (off : Nat) (b : Byte) (k : Bool) : (bankTest (panPut s off b) k).course = (bankTest s k).course := by
  unfold panPut
  split
  · next j i _ => cases j <;> cases k <;> rfl
  · cases k <;> rfl

theorem panWrite_course (place : Nat → Nat) (i : Nat) (bs : List Byte) (s : State) (k : Bool) :
    (bankTest (panWrite place i bs s) k).course = (bankTest s k).course := by
  induction bs generalizing i s with
  | nil => rfl
  | cons b bs ih => exact (ih ..).trans (panPut_course ..)

theorem bankTest_setBankTest (s : State) (k : Bool) (x : BankTest) : bankTest (setBankTest s k x) k = x := by cases k <;> rfl

theorem bankTest_of_pan {s t : State} (h : t.pan = s.pan) (k : Bool) : bankTest t k = bankTest s k := by
  unfold bankTest
  rw [h]

theorem setBankTest_pan_congr {s t : State} (h : t.pan = s.pan) (k : Bool) (x : BankTest) : (setBankTest t k x).pan = (setBankTest s k x).pan := by
  cases k
  · exact congrArg (fun p : Pannier => { p with test30 := x }) h
  · exact congrArg (fun p : Pannier => { p with test31 := x }) h

theorem panPut_pan_congr {s t : State} (h : t.pan = s.pan) (off : Nat) (b : Byte) : (panPut t off b).pan = (panPut s off b).pan := by
  have hshadow : shadowAt t off = shadowAt s off := shadowAt_congr (fun k => by rw [bankTest_of_pan h]; exact ⟨rfl, rfl, rfl⟩) off
  unfold panPut
  rw [hshadow]
  split
  · rw [bankTest_of_pan h]
    exact setBankTest_pan_congr h ..
  · exact congrArg (fun p : Pannier => { p with mem := Memory.put p.mem off b }) h

/-- What bytes written leave of the pannier depends on the pannier alone. -/
theorem panWrite_pan_congr (place : Nat → Nat) (bs : List Byte) (i : Nat) {s t : State} (h : t.pan = s.pan) :
    (panWrite place i bs t).pan = (panWrite place i bs s).pan := by
  induction bs generalizing i s t with
  | nil => exact h
  | cons b bs ih => exact ih _ (panPut_pan_congr h ..)

theorem controllerWrite_course (off : Nat) (data : List Byte) (s : State) (k : Bool) :
    (bankTest (controllerWrite off data s) k).course = (bankTest s k).course :=
  (panWrite_course ..).trans rfl

theorem writeSealedStatus_course (s : State) (k : Bool) : (bankTest (writeSealedStatus s) k).course = (bankTest s k).course := by
  unfold writeSealedStatus
  split
  · rw [controllerWrite_course]
  · rfl

theorem bankTest_event (s : State) (src code : Nat) (p : List Byte) (k : Bool) : bankTest (event s src code p) k = bankTest s k :=
  bankTest_of_pan (event_pan ..) _

theorem nextRegion_region (s : State) (bank31 : Bool) :
    (bankTest (nextRegion s bank31) bank31).region = ((bankTest s bank31).region + 1) % 512 := by
  unfold nextRegion
  dsimp only
  split
  · rw [bankTest_event, bankTest_setBankTest]
  · exact congrArg BankTest.region (bankTest_setBankTest ..)

/-- A region found failing ends its bank's test. -/
theorem execBackgroundTestRegion_fails {bank31 : Bool} {s u : State} (hu : u = startRegion s bank31) (ht : (bankTest u bank31).testing = true) :
    ∃ t, exec (.backgroundTestRegion bank31 true) s = .next t ∧ (bankTest t bank31).failed = true ∧ (bankTest t bank31).running = false ∧
      (bankTest t bank31).testing = false := by
  have hexec : exec (.backgroundTestRegion bank31 true) s = execBackgroundTestRegion bank31 true s := rfl
  have hends {x y : BankTest} (h : x.course = y.course) (hy : y.failed = true ∧ y.running = false ∧ y.testing = false) :
      x.failed = true ∧ x.running = false ∧ x.testing = false := by
    obtain ⟨hf, hr, ht⟩ := hy
    exact ⟨(congrArg BankTest.failed h).trans hf, (congrArg BankTest.running h).trans hr, (congrArg BankTest.testing h).trans ht⟩
  have hevent (v : State) (src code : Nat) (p : List Byte) : (bankTest (event v src code p) bank31).course = (bankTest v bank31).course :=
    congrArg BankTest.course (bankTest_event ..)
  have hfaults (v : State) (n : Nat) : (bankTest { v with sealed.faults := n } bank31).course = (bankTest v bank31).course := rfl
  rw [hexec, execBackgroundTestRegion, ← hu]
  dsimp only
  rw [if_neg (not_not.mpr ht), if_pos rfl]
  refine ⟨_, rfl, hends (y := { bankTest u bank31 with failed := true, running := false, testing := false }) ?_ ⟨rfl, rfl, rfl⟩⟩
  split
  · rw [writeSealedStatus_course, hevent, hfaults, hevent, bankTest_setBankTest]
  · rw [hevent, bankTest_setBankTest]

theorem execBankClearingDone_clears {b : Fin 32} {s : State} (h : bankState s b.val = 3) :
    ∃ t, exec (.bankClearingDone b) s = .next t ∧ t.pan = { s.pan with
      mem := s.pan.mem.filter (fun c => decide (panBank c.1 ≠ b.val)), bank := AMap.set 0 s.pan.bank b.val 0 } := by
  have hother : ¬ bankState (clearBank s b.val) b.val = 0 := fun h0 => by
    have : bankState (clearBank s b.val) b.val = 3 := h
    omega
  refine ⟨_, congrArg Host.Outcome.next (if_pos h), ?_⟩
  rw [setBank, if_neg hother, event_pan]
  rfl

/-- Settles O32: each access served by the window's pointers, each test by its bank. -/
theorem pannierCommandsComplete : Obligations.PannierCommandsComplete := by
  refine ⟨?_, ?_, ?_, ?_, ?_, ?_, ?_, ?_, ?_, ?_, fun b s h => execBankClearingDone_clears h⟩
  · intro initiator n data s hon hlo hhi hw hroom hbanks
    have hexec : exec (.windowPush initiator n data) s = windowAnswer initiator (windowPush s n.val data) := rfl
    have hwindow (u : State) (o : Out) : (u.emit o).window n.val = u.window n.val := window_of_pan rfl _
    have houts : (windowServed (panWrite (windowPlace s n.val (s.window n.val).wr) 0 data s) (windowSpans s n.val (s.window n.val).wr data.length)).outs =
        s.outs := (windowServed_links (sc := .wide [.board, .obs]) _ _ (by simp)).keeps .outs |>.trans
      ((panWrite_links (sc := .wide [.pan]) _ _ _ s (by simp) trivial).keeps .outs)
    rw [hexec, windowPush_room hon hlo hhi hw hroom hbanks]
    refine ⟨_, rfl, ?_, ?_, ?_, ?_⟩
    · rw [State.emit_outs, updWindow_outs, houts]
    · rw [hwindow, window_updWindow_same]
    · rw [hwindow, window_updWindow_same]
    · rw [hwindow, window_updWindow_same, windowServed_window, panWrite_window]
  · intro initiator n len s hon hlo hhi hw hfill hbanks
    have hexec : exec (.windowPop initiator n len) s = windowAnswer initiator (windowPop s n.val len .good) := rfl
    rw [hexec, windowPop_full hon hlo hhi hw hfill hbanks]
    refine ⟨_, rfl, ?_, ?_⟩
    · rw [State.emit_outs, updWindow_outs, (windowServed_links (sc := .wide [.board, .obs]) s _ (by simp)).keeps .outs]
    · rw [State.emit_pan, updWindow_pan, windowServed_pan]
  · intro initiator n len s hon hw hfill
    have hexec : exec (.windowRelease initiator n len) s = windowAnswer initiator (windowRelease s n.val len) := rfl
    rw [hexec, windowRelease_full hon hw hfill]
    exact ⟨_, rfl, rfl, rfl⟩
  · intro initiator n off len s hon hlo hhi hin hbanks
    have hexec : exec (.windowIndexedAccess initiator n off len none) s = windowAnswer initiator (windowIndexed s n.val off len none .good) := rfl
    rw [hexec, windowIndexed_read hon hlo hhi hin hbanks]
    refine ⟨_, rfl, ?_, ?_⟩
    · rw [State.emit_outs, (windowServed_links (sc := .wide [.board, .obs]) s _ (by simp)).keeps .outs]
    · rw [State.emit_pan, windowServed_pan]
  · intro initiator n off len bs s hon hlo hhi hin hbanks
    have hexec : exec (.windowIndexedAccess initiator n off len (some bs)) s = windowAnswer initiator (windowIndexed s n.val off len (some bs) .good) := rfl
    have houts : (panWrite (windowPlace s n.val ((s.window n.val).rd + off)) 0 bs
        (windowServed s (windowSpans s n.val ((s.window n.val).rd + off) bs.length))).outs = s.outs :=
      ((panWrite_links (sc := .wide [.pan]) _ _ _ _ (by simp) trivial).keeps .outs).trans
        ((windowServed_links (sc := .wide [.board, .obs]) s _ (by simp)).keeps .outs)
    rw [hexec, windowIndexed_write hon hlo hhi hin hbanks]
    refine ⟨_, rfl, ?_, ?_⟩
    · rw [State.emit_outs, houts]
    · rw [State.emit_pan]
      exact panWrite_pan_congr _ _ _ (windowServed_pan ..)
  · intro initiator n s hon
    have hexec : exec (.windowStatusRead initiator n) s = windowAnswer initiator (windowStatus s n.val) := rfl
    rw [hexec, windowStatus, if_neg (by simp [hon])]
    rfl
  · intro e n v
    have hn : 0x6520 + n.val < 65536 := by have := n.isLt; omega
    refine rowCompletes_host (fun _ => rfl) fun s s1 who h => ⟨?_, fun h0 hv => ?_⟩
    · refine (num_put (s := s1) ?_ (by simp)).trans (leNat_u8 v)
      rw [writeAnswered, respond_obj, written_rw hn (by decide) (row_panWindowEnable n) rfl rfl rfl]
      simp only [actWindowEnable]
      split <;> rfl
    · rw [writeAnswered, respond_pan, written_rw hn (by decide) (row_panWindowEnable n) rfl rfl rfl]
      have hgo : leNat (s1.bytesOf (0x6520 + n.val) 1) = 0 ∧ leNat [v] = 1 := ⟨h0, by rw [hv]; rfl⟩
      simp only [actWindowEnable]
      rw [if_pos hgo]
      rfl
  · intro e v
    refine rowCompletes_host (fun _ => rfl) fun s s1 who h => ?_
    rw [writeAnswered, respond_pan, written_wo (by decide) (by decide) row_panConflictClear rfl rfl]
    rfl
  · intro bank31 s u hu ht
    have hexec : exec (.backgroundTestRegion bank31 false) s = execBackgroundTestRegion bank31 false s := rfl
    refine ⟨?_, nextRegion_region .., execBackgroundTestRegion_fails hu ht⟩
    rw [hexec, execBackgroundTestRegion, ← hu]
    dsimp only
    rw [if_neg (not_not.mpr ht)]
    exact if_neg Bool.false_ne_true
  · intro bank31 s ht hlong
    have hgo : ¬ (¬ (bankTest s bank31).testing ∨ ¬ s.elapsed (bankTest s bank31).startedAt 100000) := by simp [ht, hlong]
    exact if_neg hgo

end Sys2Proof.Machine
end

section
/-! PROOFS. O33: DRAM requests and command slots complete. -/

namespace Sys2Proof.Machine

/-! #### A request at its channel, and a command slot -/

@[simp] theorem chan_updChan_same (s : State) (c : Nat) (f : Channel → Channel) : (s.updChan c f).chan c = f (s.chan c) := AMap.get_upd_same ..

theorem drainMode_queues (c : Channel) : (drainMode c).writeQ = c.writeQ ∧ (drainMode c).readQ = c.readQ := by
  unfold drainMode
  repeat' split
  all_goals exact ⟨rfl, rfl⟩

/-- What a request of the slices does, when no earlier one of its line waits. -/
theorem execDramRequest_first {k : Nat} {s : State} {r : DReq} (hk : s.wale.toDram[k]? = some r)
    (hfirst : ((s.wale.toDram.take k).any fun q => decide (q.line = r.line)) = false) : execDramRequest k s =
      if stackState s ((dloc (r.line * 64)).chan / 16) ≠ 2 then .next (dramAnswer { s with wale.toDram := delAt s.wale.toDram k } r 7 (zeros 64))
      else (forwardFrom s (s.chan (dloc (r.line * 64)).chan) r).elim
        (if ¬ entryFree (s.chan (dloc (r.line * 64)).chan) r.write r.cls ∨
            (r.write ∧ r.data.length < 64 ∧ ¬ entryFree (s.chan (dloc (r.line * 64)).chan) false r.cls) then .next s
          else .next (({ s with wale.toDram := delAt s.wale.toDram k } : State).updChan (dloc (r.line * 64)).chan fun c =>
            drainMode (if r.write then { c with writeQ := c.writeQ ++ [{ r with at_ := s.now }] }
                       else { c with readQ := c.readQ ++ [{ r with at_ := s.now }] })))
        fun w => .next (dramAnswer { s with wale.toDram := delAt s.wale.toDram k } r (if w.poison then 3 else 0) w.data) := by
  unfold execDramRequest
  rw [hk]
  dsimp only
  rw [if_neg (by rw [hfirst]; exact Bool.false_ne_true)]
  congr 1
  cases forwardFrom s (s.chan (dloc (r.line * 64)).chan) r <;> rfl

/-- What a command slot of a refreshed stack does. -/
theorem execDramCommandSlot_refreshing {channel : Fin 32} {pcB : Bool} {errs : List (Nat × Nat)} {spareErrs : List Bool} {s u : State}
    (h : refreshing s (channel.val / 16) = true) (hu : u = refillHeat (refillBudget s channel.val) channel.val) :
    execDramCommandSlot channel pcB errs spareErrs s = (dueNow u channel.val (b2n pcB)).elim
      (((if stackState u (channel.val / 16) = 2 then pick u channel.val (b2n pcB) else none)).elim
        ((idleRefresh u channel.val (b2n pcB)).elim (.next u) fun key => .next (refreshBank u key))
        fun r => .next (serveDram u channel.val r errs spareErrs))
      fun x => if x.2.2 then .next (refreshBank u x.1) else .next (neighbourBank u x.1) := by
  unfold execDramCommandSlot
  dsimp only
  rw [if_neg (not_not.mpr h), ← hu]
  cases dueNow u channel.val (b2n pcB) with
  | some x =>
    obtain ⟨key, at_, forced⟩ := x
    cases forced <;> rfl
  | none =>
    dsimp only [Option.elim_none]
    cases (if stackState u (channel.val / 16) = 2 then pick u channel.val (b2n pcB) else none) with
    | some r => rfl
    | none => cases idleRefresh u channel.val (b2n pcB) <;> rfl

/-- Settles O33: a request by its stack and its queue, a slot by what is due. -/
theorem dramQueueCommandsComplete : Obligations.DramQueueCommandsComplete := by
  constructor
  · intro k s r hk hfirst
    have hexec : exec (.dramRequest k) s = execDramRequest k s := rfl
    rw [hexec, execDramRequest_first hk hfirst]
    refine ⟨fun hstack => if_pos hstack, fun w hstack hw => ?_, fun hstack hnone hfree hread => ?_⟩
    · rw [if_neg (not_not.mpr hstack), hw]
      rfl
    · have hroom : ¬ (¬ entryFree (s.chan (dloc (r.line * 64)).chan) r.write r.cls ∨
          (r.write ∧ r.data.length < 64 ∧ ¬ entryFree (s.chan (dloc (r.line * 64)).chan) false r.cls)) := by
        rintro (h | ⟨hw, hlen, h⟩)
        · exact h hfree
        · exact h (hread hw hlen)
      rw [if_neg (not_not.mpr hstack), hnone, Option.elim_none, if_neg hroom]
      refine ⟨_, rfl, rfl, ?_, ?_⟩
      · rw [chan_updChan_same, (drainMode_queues _).1]
        split
        · rfl
        · exact (List.append_nil _).symm
      · rw [chan_updChan_same, (drainMode_queues _).2]
        split
        · exact (List.append_nil _).symm
        · rfl
  · intro channel pcB errs spareErrs s u href hu
    have hexec : exec (.dramCommandSlot channel pcB errs spareErrs) s = execDramCommandSlot channel pcB errs spareErrs s := rfl
    rw [hexec, execDramCommandSlot_refreshing href hu]
    refine ⟨fun key at_ h => by rw [h]; rfl, fun key at_ h => by rw [h]; rfl, fun r h hstack hr => ?_, fun key h hno hkey => ?_⟩
    · rw [h, Option.elim_none, if_pos hstack, hr]
      rfl
    · have hnone : (if stackState u (channel.val / 16) = 2 then pick u channel.val (b2n pcB) else none) = none := by
        split
        · next hstack => exact hno.resolve_left (not_not.mpr hstack)
        · rfl
      rw [h, Option.elim_none, hnone, Option.elim_none, hkey]
      rfl

end Sys2Proof.Machine
end

section
/-! PROOFS. O34: DRAM channel events complete. -/

namespace Sys2Proof.Machine

/-! #### The events of a channel -/

theorem getElem?_setAt_same {α : Type} {l : List α} {i : Nat} {x : α} (y : α) (h : l[i]? = some x) : (setAt l i y)[i]? = some y := by
  induction l generalizing i with
  | nil => nomatch h
  | cons z zs ih =>
    cases i with
    | zero => rfl
    | succ i => exact ih h

theorem bit_setBit_true (v n : Nat) : bit (setBit v n true) n = true := by
  unfold setBit
  split
  · next h => exact h
  · next h =>
    have hclear : v.testBit n = false := Bool.eq_false_iff.mpr h
    rw [if_pos rfl, bit, Nat.add_comm, Nat.testBit_two_pow_add_eq, hclear]
    rfl

/-- A channel without what lane repair changes. -/
def Channel.unrepaired (c : Channel) : Channel := { c with lanesA := 0, lanesB := 0, pcDown := 0 }

/-- A spare given to one failing lane. -/
def laneRepaired (ch pc : Nat) (acc : State × Nat) (l : Nat) : State × Nat :=
  (event (acc.1.updChan ch fun c => if pc = 0 then { c with lanesA := acc.2 + 1 } else { c with lanesB := acc.2 + 1 })
    (chanSrc ch) 0x4002 (u8 ch ++ u8 pc ++ u8 l ++ u8 acc.2), acc.2 + 1)

theorem laneRepaired_unrepaired (ch pc : Nat) (acc : State × Nat) (l : Nat) :
    ((laneRepaired ch pc acc l).1.chan ch).unrepaired = (acc.1.chan ch).unrepaired := by
  rw [laneRepaired, event_chan, chan_updChan_same]
  split <;> rfl

theorem repairLanes_unrepaired (s : State) (ch pc : Nat) (failing : List Nat) :
    ((repairLanes s ch pc failing).chan ch).unrepaired = (s.chan ch).unrepaired := by
  unfold repairLanes
  by_cases h : (if pc = 0 then (s.chan ch).lanesA else (s.chan ch).lanesB) + failing.length ≤ 2
  · rw [if_pos h]
    exact foldl_keeps (f := laneRepaired ch pc) (fun acc : State × Nat => (acc.1.chan ch).unrepaired) (laneRepaired_unrepaired ch pc) failing (s, _)
  · rw [if_neg h, event_chan, chan_updChan_same]
    rfl

/-- Lanes that find no spare leave their pseudo-channel down. -/
theorem repairLanes_down {s : State} {ch pc : Nat} {failing : List Nat}
    (h : 2 < (if pc = 0 then (s.chan ch).lanesA else (s.chan ch).lanesB) + failing.length) :
    bit ((repairLanes s ch pc failing).chan ch).pcDown pc = true := by
  unfold repairLanes
  dsimp only
  rw [if_neg (Nat.not_le.mpr h), event_chan, chan_updChan_same]
  exact bit_setBit_true ..

/-- A burst noted in its channel. -/
def burstNoted (n now : Nat) (pcB : Bool) (found : List Nat) (c : Channel) : Channel :=
  if pcB then { c with burstsB := n + 1, burstAtB := now, foundB := found } else { c with burstsA := n + 1, burstAtA := now, foundA := found }

/-- A training that ends with its last burst. -/
def trainingChecked (d : Channel) : Channel := if 64 ≤ d.burstsA ∧ 64 ≤ d.burstsB then { d with training := 0 } else d

theorem trainingChecked_eq (d : Channel) : ∃ n, trainingChecked d = { d with training := n } := by
  unfold trainingChecked
  split
  · exact ⟨0, rfl⟩
  · exact ⟨d.training, rfl⟩

theorem trainingChecked_zero {d : Channel} (h : d.training ≠ 0) : (trainingChecked d).training = 0 ↔ 64 ≤ d.burstsA ∧ 64 ≤ d.burstsB := by
  unfold trainingChecked
  split
  · next hd => exact ⟨fun _ => hd, fun _ => rfl⟩
  · next hd => exact ⟨fun h0 => absurd h0 h, fun h0 => absurd h0 hd⟩

/-- A burst counted in its channel. -/
def burstCounted (n now : Nat) (pcB : Bool) (found : List Nat) (c : Channel) : Channel := trainingChecked (burstNoted n now pcB found c)

/-- The lanes of a pseudo-channel that have taken a spare. -/
def Channel.lanes (c : Channel) (pcB : Bool) : Nat := if pcB then c.lanesB else c.lanesA

section Burst

variable {n now : Nat} {found : List Nat} {c : Channel}

theorem burstCounted_a : (burstCounted n now false found c).burstsA = n + 1 ∧ (burstCounted n now false found c).burstsB = c.burstsB ∧
    (burstCounted n now false found c).foundA = found := by
  obtain ⟨k, hk⟩ := trainingChecked_eq (burstNoted n now false found c)
  rw [burstCounted, hk]
  exact ⟨rfl, rfl, rfl⟩

theorem burstCounted_b : (burstCounted n now true found c).burstsB = n + 1 ∧ (burstCounted n now true found c).burstsA = c.burstsA ∧
    (burstCounted n now true found c).foundB = found := by
  obtain ⟨k, hk⟩ := trainingChecked_eq (burstNoted n now true found c)
  rw [burstCounted, hk]
  exact ⟨rfl, rfl, rfl⟩

theorem burstCounted_kept (pcB : Bool) : (burstCounted n now pcB found c).lanesA = c.lanesA ∧ (burstCounted n now pcB found c).lanesB = c.lanesB ∧
    (burstCounted n now pcB found c).pcDown = c.pcDown := by
  obtain ⟨k, hk⟩ := trainingChecked_eq (burstNoted n now pcB found c)
  rw [burstCounted, hk]
  cases pcB <;> exact ⟨rfl, rfl, rfl⟩

theorem burstCounted_training (pcB : Bool) (h : c.training = 1) : (burstCounted n now pcB found c).training = 0 ↔
    64 ≤ (burstNoted n now pcB found c).burstsA ∧ 64 ≤ (burstNoted n now pcB found c).burstsB :=
  trainingChecked_zero (by cases pcB <;> exact fun h0 => absurd (h.symm.trans h0) Nat.one_ne_zero)

end Burst

/-- What a burst leaves: it is counted, and lanes that find no spare are repaired in vain. -/
def burstLeft (u : State) (ch n now : Nat) (pcB : Bool) (next : List Nat) : State :=
  if (u.chan ch).lanes pcB + next.length ≤ 2 then u.updChan ch (burstCounted n now pcB next)
  else repairLanes (u.updChan ch (burstCounted n now pcB [])) ch (b2n pcB) next

theorem burstLeft_held {u : State} {ch n now : Nat} {pcB : Bool} {next : List Nat} (h : (u.chan ch).lanes pcB + next.length ≤ 2) :
    (burstLeft u ch n now pcB next).chan ch = burstCounted n now pcB next (u.chan ch) := by
  rw [burstLeft, if_pos h, chan_updChan_same]

theorem burstLeft_down {u : State} {ch n now : Nat} {pcB : Bool} {next : List Nat} (h : 2 < (u.chan ch).lanes pcB + next.length) :
    bit ((burstLeft u ch n now pcB next).chan ch).pcDown (b2n pcB) = true := by
  obtain ⟨ha, hb, -⟩ := burstCounted_kept (n := n) (now := now) (found := []) (c := u.chan ch) pcB
  rw [burstLeft, if_neg (Nat.not_le.mpr h)]
  refine repairLanes_down ?_
  rw [chan_updChan_same, ha, hb]
  cases pcB <;> exact h

theorem burstLeft_unrepaired (u : State) (ch n now : Nat) (pcB : Bool) (next : List Nat) :
    ∃ found, ((burstLeft u ch n now pcB next).chan ch).unrepaired = (burstCounted n now pcB found (u.chan ch)).unrepaired := by
  unfold burstLeft
  split
  · exact ⟨next, by rw [chan_updChan_same]⟩
  · exact ⟨[], by rw [repairLanes_unrepaired, chan_updChan_same]⟩

theorem execRetrainBurst_counts {channel : Fin 32} {pcB : Bool} {failing : List (Fin 36)} {s u : State} {n t : Nat} {found : List Nat}
    (hn : (if pcB then (s.chan channel.val).burstsB else (s.chan channel.val).burstsA) = n)
    (ht : (if pcB then (s.chan channel.val).burstAtB else (s.chan channel.val).burstAtA) = t)
    (hf : (if pcB then (s.chan channel.val).foundB else (s.chan channel.val).foundA) = found)
    (htrain : (s.chan channel.val).training = 1) (hlt : n < 64) (hwait : n ≠ 0 → s.elapsed t 10000 = true)
    (hu : u = if found = [] then s else repairLanes s channel.val (b2n pcB) found) :
    execRetrainBurst channel pcB failing s = .next (burstLeft u channel.val n s.now pcB (failing.map Fin.val)) := by
  have hgo : ¬ ((s.chan channel.val).training ≠ 1 ∨ 64 ≤ n ∨ (n ≠ 0 ∧ ¬ s.elapsed t 10000)) := by
    rintro (h | h | ⟨h0, h⟩)
    · exact h htrain
    · omega
    · exact h (hwait h0)
  unfold execRetrainBurst
  dsimp only
  rw [hn, ht, hf, if_neg hgo, ← hu, burstLeft]
  congr 1
  by_cases h : (u.chan channel.val).lanes pcB + (failing.map Fin.val).length ≤ 2
  · have h' : (if pcB then (u.chan channel.val).lanesB else (u.chan channel.val).lanesA) + (failing.map Fin.val).length ≤ 2 := h
    rw [if_pos h, if_pos h', if_pos h']
    rfl
  · have h' : ¬ (if pcB then (u.chan channel.val).lanesB else (u.chan channel.val).lanesA) + (failing.map Fin.val).length ≤ 2 := h
    rw [if_neg h, if_neg h', if_neg h']
    rfl

theorem burstLeft_fields (u : State) (ch n now : Nat) (pcB : Bool) (next : List Nat) : ∃ found,
    ((burstLeft u ch n now pcB next).chan ch).burstsA = (burstCounted n now pcB found (u.chan ch)).burstsA ∧
    ((burstLeft u ch n now pcB next).chan ch).burstsB = (burstCounted n now pcB found (u.chan ch)).burstsB ∧
    ((burstLeft u ch n now pcB next).chan ch).training = (burstCounted n now pcB found (u.chan ch)).training := by
  obtain ⟨found, h⟩ := burstLeft_unrepaired u ch n now pcB next
  exact ⟨found, (congrArg Channel.burstsA h :), (congrArg Channel.burstsB h :), (congrArg Channel.training h :)⟩

/-- The repair that a burst begins with leaves the counts and the training. -/
theorem repaired_counts {s u : State} {ch pc : Nat} {found : List Nat} (hu : u = if found = [] then s else repairLanes s ch pc found) :
    (u.chan ch).burstsA = (s.chan ch).burstsA ∧ (u.chan ch).burstsB = (s.chan ch).burstsB ∧ (u.chan ch).training = (s.chan ch).training := by
  rw [hu]
  split
  · exact ⟨rfl, rfl, rfl⟩
  · have h := repairLanes_unrepaired s ch pc found
    exact ⟨(congrArg Channel.burstsA h :), (congrArg Channel.burstsB h :), (congrArg Channel.training h :)⟩

theorem retrainBurst_first {channel : Fin 32} {failing : List (Fin 36)} {s u : State} (htrain : (s.chan channel.val).training = 1)
    (hlt : (s.chan channel.val).burstsA < 64) (hwait : (s.chan channel.val).burstsA ≠ 0 → s.elapsed (s.chan channel.val).burstAtA 10000 = true)
    (hu : u = if (s.chan channel.val).foundA = [] then s else repairLanes s channel.val 0 (s.chan channel.val).foundA) :
    ∃ t, exec (.retrainBurst channel false failing) s = .next t ∧
      (t.chan channel.val).burstsA = (s.chan channel.val).burstsA + 1 ∧ (t.chan channel.val).burstsB = (s.chan channel.val).burstsB ∧
      ((u.chan channel.val).lanesA + failing.length ≤ 2 → (t.chan channel.val).foundA = failing.map Fin.val ∧
        (t.chan channel.val).lanesA = (u.chan channel.val).lanesA ∧ (t.chan channel.val).pcDown = (u.chan channel.val).pcDown) ∧
      (2 < (u.chan channel.val).lanesA + failing.length → bit (t.chan channel.val).pcDown 0 = true) ∧
      ((t.chan channel.val).training = 0 ↔ (s.chan channel.val).burstsA = 63 ∧ 64 ≤ (s.chan channel.val).burstsB) := by
  obtain ⟨hua, hub, hutrain⟩ := repaired_counts hu
  obtain ⟨found, hta, htb, httrain⟩ := burstLeft_fields u channel.val (s.chan channel.val).burstsA s.now false (failing.map Fin.val)
  have hlen : (failing.map Fin.val).length = failing.length := List.length_map ..
  refine ⟨_, execRetrainBurst_counts (pcB := false) (n := (s.chan channel.val).burstsA) rfl rfl rfl htrain hlt hwait hu, hta.trans burstCounted_a.1,
    (htb.trans burstCounted_a.2.1).trans hub, fun h => ?_, fun h => burstLeft_down (by rw [hlen]; exact h), ?_⟩
  · obtain ⟨ha, -, hdown⟩ := burstCounted_kept (n := (s.chan channel.val).burstsA) (now := s.now) (found := failing.map Fin.val) (c := u.chan channel.val) false
    rw [burstLeft_held (by rw [hlen]; exact h)]
    exact ⟨burstCounted_a.2.2, ha, hdown⟩
  · rw [httrain, burstCounted_training false (hutrain.trans htrain)]
    have hnoted : (burstNoted (s.chan channel.val).burstsA s.now false found (u.chan channel.val)).burstsA = (s.chan channel.val).burstsA + 1 ∧
        (burstNoted (s.chan channel.val).burstsA s.now false found (u.chan channel.val)).burstsB = (s.chan channel.val).burstsB := ⟨rfl, hub⟩
    rw [hnoted.1, hnoted.2]
    omega

theorem retrainBurst_second {channel : Fin 32} {failing : List (Fin 36)} {s u : State} (htrain : (s.chan channel.val).training = 1)
    (hlt : (s.chan channel.val).burstsB < 64) (hwait : (s.chan channel.val).burstsB ≠ 0 → s.elapsed (s.chan channel.val).burstAtB 10000 = true)
    (hu : u = if (s.chan channel.val).foundB = [] then s else repairLanes s channel.val 1 (s.chan channel.val).foundB) :
    ∃ t, exec (.retrainBurst channel true failing) s = .next t ∧
      (t.chan channel.val).burstsB = (s.chan channel.val).burstsB + 1 ∧ (t.chan channel.val).burstsA = (s.chan channel.val).burstsA ∧
      ((u.chan channel.val).lanesB + failing.length ≤ 2 → (t.chan channel.val).foundB = failing.map Fin.val ∧
        (t.chan channel.val).lanesB = (u.chan channel.val).lanesB ∧ (t.chan channel.val).pcDown = (u.chan channel.val).pcDown) ∧
      (2 < (u.chan channel.val).lanesB + failing.length → bit (t.chan channel.val).pcDown 1 = true) ∧
      ((t.chan channel.val).training = 0 ↔ 64 ≤ (s.chan channel.val).burstsA ∧ (s.chan channel.val).burstsB = 63) := by
  obtain ⟨hua, hub, hutrain⟩ := repaired_counts hu
  obtain ⟨found, hta, htb, httrain⟩ := burstLeft_fields u channel.val (s.chan channel.val).burstsB s.now true (failing.map Fin.val)
  have hlen : (failing.map Fin.val).length = failing.length := List.length_map ..
  refine ⟨_, execRetrainBurst_counts (pcB := true) (n := (s.chan channel.val).burstsB) rfl rfl rfl htrain hlt hwait hu, htb.trans burstCounted_b.1,
    (hta.trans burstCounted_b.2.1).trans hua, fun h => ?_, fun h => burstLeft_down (by rw [hlen]; exact h), ?_⟩
  · obtain ⟨-, hb, hdown⟩ := burstCounted_kept (n := (s.chan channel.val).burstsB) (now := s.now) (found := failing.map Fin.val) (c := u.chan channel.val) true
    rw [burstLeft_held (by rw [hlen]; exact h)]
    exact ⟨burstCounted_b.2.2, hb, hdown⟩
  · rw [httrain, burstCounted_training true (hutrain.trans htrain)]
    have hnoted : (burstNoted (s.chan channel.val).burstsB s.now true found (u.chan channel.val)).burstsA = (s.chan channel.val).burstsA ∧
        (burstNoted (s.chan channel.val).burstsB s.now true found (u.chan channel.val)).burstsB = (s.chan channel.val).burstsB + 1 := ⟨hua, rfl⟩
    rw [hnoted.1, hnoted.2]
    omega

/-- A retired rank's channel keeps its count of parity errors. -/
theorem retireRank_caErr (s : State) (ch k cause : Nat) : ((retireRank s ch k cause).chan ch).caErr = (s.chan ch).caErr := by
  have hsettle : ((settleRet s ch).chan ch).caErr = (s.chan ch).caErr := by
    unfold settleRet
    dsimp only
    split
    · rfl
    · rw [event_chan, chan_updChan_same]
  have hset (u : State) (r : RetCopy) : ((setRet u ch r).chan ch).caErr = (u.chan ch).caErr := by rw [setRet, chan_updChan_same]
  unfold retireRank
  dsimp only
  split
  · exact hsettle
  · split
    · rw [event_chan, hset, hsettle]
    · split
      · rw [retireEvents_chan, chan_updChan_same]
        exact (hset ..).trans hsettle
      · rw [retireEvents_chan, chan_updChan_same]
        split <;> exact (hset ..).trans hsettle

theorem execCaParityError_counts {channel : Fin 32} {rank : Fin 4} {s : State} (h : stackState s (channel.val / 16) = 2) :
    ∃ t, exec (.caParityError channel rank) s = .next t ∧
      (t.chan channel.val).caErr = AMap.upd 0 (s.chan channel.val).caErr rank.val (satInc · 255) := by
  have hexec : exec (.caParityError channel rank) s = execCaParityError channel rank s := rfl
  have hretired (c : Prop) [Decidable c] (u : State) : ((if c then retireRank u channel.val rank.val 1 else u).chan channel.val).caErr =
      (u.chan channel.val).caErr := by
    split
    · exact retireRank_caErr ..
    · rfl
  rw [hexec, execCaParityError]
  dsimp only
  rw [if_neg (not_not.mpr h)]
  refine ⟨_, rfl, ?_⟩
  rw [hretired, event_chan, chan_updChan_same]

/-- Settles O34: each event by what its channel or its bank holds. -/
theorem dramEventsComplete : Obligations.DramEventsComplete := by
  refine ⟨?_, ?_, ?_, ?_, fun channel failing s u => retrainBurst_first, fun channel failing s u => retrainBurst_second,
    fun channel rank s => execCaParityError_counts, ?_⟩
  · intro channel write k s r hk hurgent hcls hold
    have hexec : exec (.requestUrgent channel write k) s = execRequestUrgent channel write k s := rfl
    have hgo : ¬ (r.urgent ∨ r.cls = 3 ∨ ¬ s.elapsed r.at_ (s.num 0x6601 2)) := by simp [hurgent, hcls, hold]
    rw [hexec, execRequestUrgent]
    dsimp only
    rw [hk]
    dsimp only
    rw [if_neg hgo]
    refine ⟨_, rfl, ?_⟩
    rw [counted_chan, chan_updChan_same]
    cases write
    · exact getElem?_setAt_same _ hk
    · exact getElem?_setAt_same _ hk
  · intro b s ends href hends hdue
    have hexec : exec (.refreshInterval b) s = execRefreshInterval b s := rfl
    have hgo : ¬ (¬ refreshing s (b.channel.val / 16) ∨ s.now < ends) := by
      rintro (h | h)
      · exact h href
      · omega
    rw [hexec, execRefreshInterval]
    dsimp only
    rw [← hends, if_neg hgo]
    split
    · refine ⟨_, rfl, ?_⟩
      rw [counted_dram, event_dram]
      rfl
    · exact ⟨_, rfl, rfl⟩
  · intro b s href
    exact congrArg Host.Outcome.next (if_pos href)
  · intro b s h
    exact congrArg Host.Outcome.next (if_neg (Nat.not_lt.mpr h))
  · intro channel s at_ hheld hlong
    have hexec : exec (.migrationLineTimeout channel) s = execMigrationLineTimeout channel s := rfl
    rw [hexec, execMigrationLineTimeout, hheld]
    exact congrArg Host.Outcome.next (if_pos hlong)

end Sys2Proof.Machine
end

section
/-! PROOFS. O35: retire, retrain, spares and migration complete. -/

namespace Sys2Proof.Machine

/-! #### The copies of a channel's ranks, and the spares -/

theorem majority_same (n : Nat) : majority n n n = n := by simp [majority]

theorem retOf_setRet (s : State) (ch : Nat) (r : RetCopy) : retOf ((setRet s ch r).chan ch) = r := by
  rw [setRet, chan_updChan_same, retOf]
  simp only [majority_same]

theorem migAdvance_pointer (s : State) (ch : Nat) : (retOf ((migAdvance s ch).chan ch)).pointer = (retOf (s.chan ch)).pointer + 1 := by
  have hsame {c d : Channel} (h0 : d.c0 = c.c0) (h1 : d.c1 = c.c1) (h2 : d.c2 = c.c2) : retOf d = retOf c := by
    rw [retOf, h0, h1, h2, retOf]
  have hset {c : Channel} (u : State) (r : RetCopy) (h0 : c.c0 = ((setRet u ch r).chan ch).c0) (h1 : c.c1 = ((setRet u ch r).chan ch).c1)
      (h2 : c.c2 = ((setRet u ch r).chan ch).c2) : (retOf c).pointer = r.pointer := by rw [hsame h0 h1 h2, retOf_setRet]
  unfold migAdvance
  dsimp only
  split
  · rw [chan_updChan_same]
    exact hset s _ rfl rfl rfl
  · rw [event_chan, chan_updChan_same]
    exact hset s _ rfl rfl rfl

theorem criticalWritten_dram (s : State) (who : Requester) (idx sub : Nat) (old new : List Byte) :
    (criticalWritten s who idx sub old new).dram = s.dram :=
  (criticalWritten_links (sc := .wide [.board, .obs]) s who idx sub old new (by simp)).keeps .dram

theorem setRet_kept (s : State) (ch : Nat) (r : RetCopy) :
    (setRet s ch r).dram.sparesInForce = s.dram.sparesInForce ∧ (setRet s ch r).dram.mem = s.dram.mem := ⟨rfl, rfl⟩

/-- The spares setting put in force reaches the copies of the ranks, and no byte. -/
theorem actSpares_sets (s : State) (who : Requester) (old : List Byte) (v : Byte) :
    (actSpares.apply s who old [v]).dram.sparesInForce = decide (v = 1) ∧ (actSpares.apply s who old [v]).dram.mem = s.dram.mem ∧
      (s.dram.sparesInForce = decide (v = 1) → (actSpares.apply s who old [v]).dram = s.dram) := by
  have hv : decide (leNat [v] = 1) = decide (v = 1) := by
    rw [leNat_u8, decide_eq_decide]
    exact ⟨fun h => BitVec.eq_of_toNat_eq h, fun h => by rw [h]; rfl⟩
  simp only [actSpares, hv]
  split
  · next h => exact ⟨h.symm, rfl, fun _ => rfl⟩
  · next h =>
    refine ⟨?_, ?_, fun h' => absurd h'.symm h⟩
    · exact foldl_keeps (·.dram.sparesInForce) (fun s ch => (setRet_kept s ch _).1) _ _
    · exact foldl_keeps (·.dram.mem) (fun s ch => (setRet_kept s ch _).2) _ _

/-- A migration's line that has its budget and its maintenance entry. -/
theorem execMigrationCopy_line {channel : Fin 32} {symbols : Nat} {s u v w : State} {a sl : Nat}
    (hu : u = refillBudget (settleRet s channel.val) channel.val) (hmig : (u.chan channel.val).mig = 1)
    (hstack : stackState u (channel.val / 16) = 2) (hbudget : 0 < (u.chan channel.val).budget) (ha : a = migAddr u channel.val)
    (hsl : sl = homeSlice u a) (hroom : copyHeld u channel.val = false → (u.slice sl).maint.length < 64)
    (hv : v = if copyHeld u channel.val then u else
      counted (debit (updSlice u sl fun x => { x with maint := x.maint ++ [(a / 64, u.now)] }) channel.val 1) (chanSrc channel.val) 0x0D 0 1)
    (hw : w = updSlice (counted (debit v channel.val 1) (chanSrc channel.val) 0x0D 0 1) sl
      (fun x => { x with maint := x.maint.filter fun e => decide (e.1 ≠ a / 64) })) :
    execMigrationCopy channel symbols s =
      if (v.chan channel.val).budget ≤ 0 then .next (v.updChan channel.val fun c => { c with migHeldAt := some u.now })
      else (newerCopy w a).elim (.next (migWrite w channel.val a symbols)) fun x =>
        .next (migAdvance (event w x.1 x.2 (if x.2 = 0x4806 then u8 sl ++ u64 a else u64 a)) channel.val) := by
  have hgo : ¬ ((u.chan channel.val).mig ≠ 1 ∨ stackState u (channel.val / 16) ≠ 2 ∨ (u.chan channel.val).budget ≤ 0) := by
    rintro (h | h | h)
    · exact h hmig
    · exact h hstack
    · omega
  have hmaint : ¬ (¬ copyHeld u channel.val ∧ 64 ≤ (u.slice sl).maint.length) := by
    rintro ⟨h, h64⟩
    have := hroom (Bool.eq_false_iff.mpr h)
    omega
  unfold execMigrationCopy
  dsimp only
  rw [← hu, if_neg hgo, ← ha, ← hsl, if_neg hmaint, ← hv, ← hw]
  congr 1
  cases newerCopy w a <;> rfl

/-- Settles O35: each order by the retire machine's own act, the migration's line by its budget and its copies. -/
theorem dramCommandsComplete : Obligations.DramCommandsComplete := by
  refine ⟨?_, ?_, ?_, ?_, migAdvance_pointer⟩
  · refine fun e v => rowCompletes_host (fun _ => rfl) fun s s1 who h => ?_
    rw [writeAnswered, respond_dram, written_wo (by decide) (by decide) row_retire rfl rfl]
    simp only [actRetire, leNat_u16]
  · refine fun e v => rowCompletes_host (fun _ => rfl) fun s s1 who h => ?_
    rw [writeAnswered, respond_dram, written_wo (by decide) (by decide) row_retrain rfl rfl]
    simp only [actRetrain, leNat_u32]
  · refine fun e v c => rowCompletes_paired (fun _ => rfl) fun s s1 who h => ?_
    rw [writeAnswered, respond_dram, written_rwp (v := [v]) (c := [c]) (a := actSpares) (by decide) (by decide) row_sparesWrite rfl rfl rfl]
    have hset := actSpares_sets (criticalWritten (s1.putObj 0x6601 1 [v]) who 0x6601 1 (s1.bytesOf 0x6601 1) [v]) who (s1.bytesOf 0x6601 1) v
    rw [criticalWritten_dram] at hset
    exact hset
  · intro channel symbols s u v w a sl hu hmig hstack hbudget ha hsl hroom hv hw
    have hexec : exec (.migrationCopy channel symbols) s = execMigrationCopy channel symbols s := rfl
    rw [hexec, execMigrationCopy_line hu hmig hstack hbudget ha hsl hroom hv hw]
    refine ⟨fun h => if_pos h, fun h hnone => ?_, fun src code h hsome => ?_⟩
    · rw [if_neg (by omega), hnone]
      rfl
    · rw [if_neg (by omega), hsome]
      rfl

end Sys2Proof.Machine
end

section
/-! PROOFS. O36: scrub, upset and complement checks complete. -/

namespace Sys2Proof.Machine

/-! #### The scrubber's steps and the monitors' checks -/

/-- A channel's counts cleared. -/
def chanCleared (s : State) (ch : Nat) : State :=
  s.updChan ch fun c => { c with corrected := 0, uncorrectable := 0, poisoned := 0, hardFaults := 0, saturated := false }

/-- Counts cleared in every channel leave the rest of integrity. -/
theorem chansCleared_ecc (l : List Nat) (s : State) : (l.foldl chanCleared s).ecc = s.ecc :=
  foldl_keeps State.ecc (fun s ch => (rfl : (chanCleared s ch).ecc = s.ecc)) l s

theorem actClearCounts_clears (s : State) (who : Requester) (old v : List Byte) :
    (actClearCounts.apply s who old v).ecc = { s.ecc with wale := [], pan := [], blockmem := [], compFaults := 0, lastRef := 0 } ∧
      (actClearCounts.apply s who old v).dram.chans = ((List.range 32).foldl chanCleared s).dram.chans := by
  have happly : actClearCounts.apply s who old v =
      { (List.range 32).foldl chanCleared s with
        ecc := { ((List.range 32).foldl chanCleared s).ecc with wale := [], pan := [], blockmem := [], compFaults := 0, lastRef := 0 }
        obs.errorReg := ((List.range 32).foldl chanCleared s).obs.errorReg &&& 0xDF } := rfl
  rw [happly]
  generalize hu : (List.range 32).foldl chanCleared s = u
  have hecc : u.ecc = s.ecc := hu ▸ chansCleared_ecc ..
  dsimp only
  rw [hecc]
  exact ⟨rfl, rfl⟩

/-- Every pair, every running sector's active plane, every root, every channel's copies and the table compared. -/
def pairsCompared (s : State) : State :=
  checkTable ((List.range 32).foldl (fun s ch => checkRemaps (settleRet s ch) ch) ((List.range 16).foldl checkRoot ((List.range 16).foldl checkActive
    ((badPairs (dropPairFaults s)).foldl (fun s k => if s.pairOk (k / 256) (k % 256) then s else objFallback s (k / 256) (k % 256))
      (dropPairFaults s)))))

theorem execComplementCheck_quiet {s : State} (h : s.available = true) : exec (.complementCheck none) s = .next (pairsCompared s) := by
  have hexec : exec (.complementCheck none) s = execComplementCheck none s := rfl
  rw [hexec, execComplementCheck]
  dsimp only
  rw [if_neg (not_not.mpr h)]
  rfl

theorem execComplementCheck_struck {s : State} {p : PairRef} {m : U64} (h : (strike s p m).available = true) :
    exec (.complementCheck (some (p, m))) s = .next (pairsCompared (strike s p m)) := by
  have hexec : exec (.complementCheck (some (p, m))) s = execComplementCheck (some (p, m)) s := rfl
  have hboot : (strike s p m).boot = s.boot :=
    (strike_links (sc := .wide [.obj, .teams, .dram, .crypt, .sealed]) s p m (by simp) (fun _ => trivial)).keeps .boot
  have hwas : s.available = true := by
    rw [State.available, ← hboot]
    exact h
  rw [hexec, execComplementCheck]
  dsimp only
  rw [if_neg (not_not.mpr hwas)]
  rfl

/-- A line read by the scrubber, with its maintenance entry. -/
def lineScrubbed (u s2 : State) (ch symbols : Nat) (verifyErrs : Bool) (spareErrs : List Bool) (a phys : Nat) (spare : Bool) : State :=
  scrubOutcome ((updSlice (maintTransfer s2 ch) (homeSlice s2 a) fun x => { x with maint := x.maint ++ [(a / 64, u.now)] }).updChan ch
    fun c => { c with scrubAt := u.now }) ch phys a spare symbols verifyErrs spareErrs

section ScrubRead

variable {channel : Fin 32} {symbols : Nat} {verifyErrs : Bool} {spareErrs : List Bool} {s s1 s2 : State} {phys : Nat}
  (hon : scrubOn (useScrub s) channel.val = true)
  (hs1 : s1 = refillBudget (checkRemaps (settleRet (if (useScrub s).ecc.scrubStopped then beginPass (useScrub s) else useScrub s) channel.val) channel.val)
    channel.val)
  (hbudget : 0 < (s1.chan channel.val).budget)
include hon hs1 hbudget

/-- A scrub read with budget and nothing held reads the next line that is due. -/
theorem execScrubRead_line {p : Nat × Nat} {a : Nat} {spare : Bool} (hgo : ¬ (4 ≤ (s1.chan channel.val).scrubRank ∨ ¬ scrubDue s1 channel.val))
    (hheld : (s1.chan channel.val).scrubHeld = none)
    (hp : p = nextScrub s1 channel.val 16 (s1.chan channel.val).scrubRank (s1.chan channel.val).scrubLine) (hs2 : s2 = scrubTo s1 channel.val p)
    (hplace : scrubPlace s2 channel.val p.1 p.2 = some (phys, spare)) (ha : a = deviceAddr s2 channel.val p.1 p.2)
    (hroom : (s2.slice (homeSlice s2 a)).maint.length < 64) : execScrubRead channel symbols verifyErrs spareErrs s =
      .next (lineScrubbed (useScrub s) s2 channel.val symbols verifyErrs spareErrs a phys spare) := by
  have key : ∀ read, read = execScrubRead → read channel symbols verifyErrs spareErrs s =
      .next (lineScrubbed (useScrub s) s2 channel.val symbols verifyErrs spareErrs a phys spare) := by
    intro read hr
    delta execScrubRead at hr
    rw [hr]
    beta_reduce
    extract_lets +onlyGivenNames s0 ch
    have hon' : scrubOn s0 ch = true := hon
    rw [if_neg (not_not.mpr hon')]
    extract_lets +onlyGivenNames sa sb c
    have hsb : sb = s1 := hs1.symm
    have hc : c = s1.chan channel.val := by rw [← hsb]
    rw [hsb, hc, if_neg (Int.not_le.mpr hbudget), if_neg (by rw [hheld]; exact Bool.false_ne_true), if_neg hgo]
    extract_lets +onlyGivenNames q st
    have hq : q = p := hp.symm
    have hst : st = s2 := by rw [hs2, ← hq]
    rw [hst, hq, hplace]
    dsimp only
    rw [← ha]
    exact if_neg (Nat.not_le.mpr hroom)
  exact key _ rfl

/-- A scrub read with a write-back held goes on with it. -/
theorem execScrubRead_held {at_ : Nat} (hheld : (s1.chan channel.val).scrubHeld = some (phys, at_)) :
    execScrubRead channel symbols verifyErrs spareErrs s = .next (scrubAdvance (if s1.elapsed at_ 10000 then s1
      else scrubWrite s1 channel.val (s1.chan channel.val).scrubData verifyErrs spareErrs) channel.val) := by
  have key : ∀ read, read = execScrubRead → read channel symbols verifyErrs spareErrs s = .next (scrubAdvance (if s1.elapsed at_ 10000 then s1
      else scrubWrite s1 channel.val (s1.chan channel.val).scrubData verifyErrs spareErrs) channel.val) := by
    intro read hr
    delta execScrubRead at hr
    rw [hr]
    beta_reduce
    extract_lets +onlyGivenNames s0 ch
    have hon' : scrubOn s0 ch = true := hon
    rw [if_neg (not_not.mpr hon')]
    extract_lets +onlyGivenNames sa sb c
    have hsb : sb = s1 := hs1.symm
    have hc : c = s1.chan channel.val := by rw [← hsb]
    rw [hsb, hc, if_neg (Int.not_le.mpr hbudget), if_pos (by rw [hheld]; rfl), hheld, Option.any_some]
  exact key _ rfl

end ScrubRead

/-- Settles O36: a scrub read by its channel's budget and place, the rest by what is held. -/
theorem scrubCommandsComplete : Obligations.ScrubCommandsComplete := by
  refine ⟨?_, ?_, ?_, ?_, ?_, ?_⟩
  · intro channel symbols verifyErrs spareErrs s u s1 p phys spare hu hon hs1 hbudget hheld hrank hdue hp hplace hroom
    have hgo : ¬ (4 ≤ (s1.chan channel.val).scrubRank ∨ ¬ scrubDue s1 channel.val) := by
      rintro (h | h)
      · omega
      · exact h hdue
    subst hu
    exact execScrubRead_line hon hs1 hbudget hgo hheld hp rfl hplace rfl hroom
  · intro channel symbols verifyErrs spareErrs s u s1 phys at_ hu hon hs1 hbudget hheld
    subst hu
    have hexec : exec (.scrubRead channel symbols verifyErrs spareErrs) s = execScrubRead channel symbols verifyErrs spareErrs s := rfl
    rw [hexec, execScrubRead_held hon hs1 hbudget hheld]
    exact ⟨fun h => by rw [h, if_neg Bool.false_ne_true], fun h => by rw [h, if_pos rfl]⟩
  · intro channel s at_ hheld hlong
    have hexec : exec (.scrubWritebackTimeout channel) s = execScrubWritebackTimeout channel s := rfl
    obtain ⟨⟨phys, t⟩, hsome, rfl⟩ := Option.map_eq_some_iff.mp hheld
    rw [hexec, execScrubWritebackTimeout, hsome]
    exact congrArg Host.Outcome.next (if_pos hlong)
  · intro channel s u hu hrun hlate hrank hlong
    have hexec : exec (.scrubPassLate channel) s = execScrubPassLate channel s := rfl
    have hgo : ¬ (u.ecc.scrubStopped ∨ (u.chan channel.val).scrubLate ∨ 4 ≤ (u.chan channel.val).scrubRank ∨
        ¬ u.elapsed (u.chan channel.val).passAt (u.setting 0x6700 2 * 3600000000000)) := by
      simp [hrun, hlate, hrank, hlong]
    rw [hexec, execScrubPassLate, ← hu]
    exact if_neg hgo
  · intro upset s h
    cases upset with
    | none => exact ⟨_, execComplementCheck_quiet h, rfl⟩
    | some x => exact ⟨_, execComplementCheck_struck (p := x.1) (m := x.2) h, rfl⟩
  · refine fun e v => rowCompletes_host (fun _ => rfl) fun s s1 who h => ?_
    rw [writeAnswered, respond_ecc, respond_dram, written_wo (by decide) (by decide) row_clearCounts rfl rfl]
    exact actClearCounts_clears s1 who (s1.bytesOf 0x6730 1) [v]

end Sys2Proof.Machine
end

section
/-! PROOFS. O37: verify commands complete. -/

namespace Sys2Proof.Machine

/-! #### The verify's progress -/

theorem verifyEnded_more {s : State} (h : s.ecc.verifyQ ≠ []) : verifyEnded s = s := if_pos (.inr h)

/-- A sector-plane's verify, by whether it finds a mismatch. -/
theorem execVerifySectorPlaneDone_found {cellFault bad : Bool} {s : State} {k : Nat} {rest : List Nat} (hq : s.ecc.verifyQ = k :: rest)
    (hrun : s.ecc.verifyRunning = true) (hstream : streamIn s (towerOf (k / 8)) = false)
    (hbad : (verifiable s (k / 8) (k % 8) && (cellFault || decide (planeCrc s (k / 8) (k % 8) ≠ (s.plane (k / 8) (k % 8)).crc.toNat))) = bad) :
    execVerifySectorPlaneDone cellFault s = .next (verifyEnded
      (if bad then planeMismatch { s with ecc := { s.ecc with verifyQ := rest, verifyDone := s.ecc.verifyDone + 1,
                                                              mismatches := s.ecc.mismatches + b2n bad } } (k / 8) (k % 8)
      else { s with ecc := { s.ecc with verifyQ := rest, verifyDone := s.ecc.verifyDone + 1, mismatches := s.ecc.mismatches + b2n bad } })) := by
  unfold execVerifySectorPlaneDone
  rw [hq]
  dsimp only
  rw [if_neg (by simp [hrun, hstream]), hbad]

/-- Settles O37: a request by its planes, a round by its interval, an end by what it finds. -/
theorem verifyCommandsComplete : Obligations.VerifyCommandsComplete := by
  refine ⟨?_, ?_, ?_⟩
  · refine fun e v => rowCompletes_host (fun _ => rfl) fun s s1 who h hsome => ?_
    rw [writeAnswered, respond_ecc, written_wo (by decide) (by decide) row_verify rfl rfl]
    simp only [actVerify, leNat_u64]
    rw [verifyEnded_more hsome]
    exact ⟨rfl, rfl, rfl, rfl, rfl⟩
  · intro s hset hmode hlong hwaits
    have hexec : exec .verifyRound s = execVerifyRound s := rfl
    rw [hexec, execVerifyRound]
    dsimp only
    refine ⟨fun hrun => ?_, fun hrun hround => ?_⟩
    · rw [if_neg (by simp [hset, hmode, hlong, hwaits, hrun])]
      exact if_neg (by rw [hrun]; exact Bool.false_ne_true)
    · rw [if_neg (by simp [hset, hmode, hlong, hwaits, hround])]
      exact if_pos hrun
  · intro cellFault s k rest hq hrun hstream
    have hexec : exec (.verifySectorPlaneDone cellFault) s = execVerifySectorPlaneDone cellFault s := rfl
    rw [hexec]
    refine ⟨fun hver hcell hcrc => ?_, fun hver hbad => ?_, fun hver => ?_⟩
    · rw [execVerifySectorPlaneDone_found (bad := false) hq hrun hstream (by simp [hcell, hcrc])]
      rfl
    · have hfound : (cellFault || decide (planeCrc s (k / 8) (k % 8) ≠ (s.plane (k / 8) (k % 8)).crc.toNat)) = true := by
        rcases hbad with h | h
        · rw [h, Bool.true_or]
        · rw [decide_eq_true h, Bool.or_true]
      rw [execVerifySectorPlaneDone_found (bad := true) hq hrun hstream (by rw [hver, hfound]; rfl)]
      rfl
    · rw [execVerifySectorPlaneDone_found (bad := false) hq hrun hstream (by rw [hver, Bool.false_and])]
      rfl

end Sys2Proof.Machine
end

section
/-! PROOFS. O38: disabling a region may let a mismatched pair of the row settings fall back. -/

namespace Sys2Proof.Machine

/-- Region 0 enabled, a line on its way to the DRAM, and the row settings held with a complement that does not match. -/
def mispairedRows : State := { Tests.running with
  crypt := { regions := [(0, { state := 2 })] }
  dram := { stack := [(0, 2), (1, 2)] }
  wale := { toDram := [{ src := 9, slice := 0, line := 0, write := true, cls := 1, initiator := 0, data := zeros 64 }] }
  obj := [(objKey 0x6601 4, { val := [1, 0] })] }

/-- Disabling the region flushes the caches first: the line opens its row, and the setting falls back to its default. -/
theorem disableRegion_mispairedRows : ((disableRegion (afterChecks mispairedRows 0) 0).stored 0x6601 4).val = [0, 1] := by decide +kernel

theorem written_regionDisable (s1 : State) (who : Requester) (r : Fin 16) :
    written s1 who false (wholeWrite (0x6810 + r.val) 7 [3]) (actRegion r.val) = disableRegion s1 r.val := by
  rw [written_wo (by omega) (by decide) (row_regionDisable r) rfl rfl]
  simp only [actRegion]
  exact if_pos rfl

/-- Refutes O38: disabling a region flushes what waits, and an activation on the way compares the pair of the row settings, so that more than the
region's own mode object may change. -/
theorem not_cryptCommandsComplete : ¬ Obligations.CryptCommandsComplete := by
  unfold Obligations.CryptCommandsComplete
  rintro ⟨-, -, -, -, -, -, hdisable, -⟩
  have hgoes : WriteGoes mispairedRows (signedWrite mispairedRows false (wholeWrite 0x6810 7 [3])) false (wholeWrite 0x6810 7 [3]) (actRegion 0)
      (afterChecks mispairedRows 0) (.session 0) := writeGoes_signed (by decide +kernel)
  obtain ⟨t, ht, -, -, hobj⟩ := hdisable _ 0 _ _ _ hgoes
  have hexec : exec (.regionDisable (signedWrite mispairedRows false (wholeWrite 0x6810 7 [3])) 0) mispairedRows =
      .next (writeAnswered (afterChecks mispairedRows 0) (.session 0) (signedWrite mispairedRows false (wholeWrite 0x6810 7 [3])) false
        (wholeWrite 0x6810 7 [3]) (actRegion 0)) := congrArg Host.Outcome.next (serveWrite_goes hgoes)
  rw [← Host.Outcome.next.inj (hexec.symm.trans ht), writeAnswered, respond_obj] at hobj
  have hkept : (AMap.get {} (AMap.del (afterChecks mispairedRows 0).obj (objKey 0x6810 1)) (objKey 0x6601 4)).val = [1, 0] := by decide +kernel
  have hval : ((disableRegion (afterChecks mispairedRows 0) 0).stored 0x6601 4).val =
      (AMap.get {} (AMap.del (afterChecks mispairedRows 0).obj (objKey 0x6810 1)) (objKey 0x6601 4)).val := by
    have hwritten : written (afterChecks mispairedRows 0) (.session 0) false (wholeWrite 0x6810 7 [3]) (actRegion 0) =
        disableRegion (afterChecks mispairedRows 0) 0 := written_regionDisable _ _ 0
    rw [State.stored, ← hwritten]
    exact congrArg (fun o => (AMap.get {} o (objKey 0x6601 4)).val) hobj
  rw [disableRegion_mispairedRows, hkept] at hval
  exact absurd hval (by decide)

end Sys2Proof.Machine
end

section
/-! PROOFS. O39: time messages complete. -/

namespace Sys2Proof.Machine

/-! #### The time base's messages -/

/-- A Sync that is taken, as the time base's state takes it. -/
theorem execSync_taken {m : SyncMsg} {s : State} (hav : s.available = true) (hdom : ourDomain s m.domain = true)
    (hfrom : s.time.best = some (m.port.val, m.gm) ∨ (s.time.state = 4 ∧ s.time.gm = m.gm ∧ s.time.gmPort = m.port.val)) :
    execSync m s = .next (discipline
      (if s.time.state = 2 ∨ s.time.state = 3 then { s with time := { s.time with gmPort := m.port.val, gm := m.gm } }
        else timeState { s with time := { s.time with gmPort := m.port.val, good := 0 } } 2 m.gm)
      ((m.ingress : Int) - s.int 0x6901 (0x0B + 2 * m.port.val) 4 / 1000 - (m.gmTime + (if m.port.val = 0 then s.time.delay0 else s.time.delay1)))) := by
  unfold execSync
  dsimp only
  rw [if_neg (by simpa [hav, hdom, and_assoc] using or_iff_not_imp_left.mp hfrom)]

/-- Settles O39: each message by the state that takes it. -/
theorem timeCommandsComplete : Obligations.TimeCommandsComplete := by
  refine ⟨?_, ?_, ?_, ?_, ?_, ?_, ?_⟩
  · intro m s hav hdom hbest hstate
    have hexec : exec (.sync m) s = execSync m s := rfl
    rw [hexec, execSync_taken hav hdom (.inl hbest), if_pos hstate]
  · intro m s hav hdom hfrom h2 h3
    have hexec : exec (.sync m) s = execSync m s := rfl
    rw [hexec, execSync_taken hav hdom hfrom, if_neg (not_or.mpr ⟨h2, h3⟩)]
  · intro m s v hav hdom hv
    have hexec : exec (.announce m) s = execAnnounce m s := rfl
    rw [hexec, execAnnounce, if_neg (by simp [hav, hdom]), hv]
  · intro m s hav
    have hexec : exec (.pdelay m) s = execPdelay m s := rfl
    rw [hexec, execPdelay, if_neg (not_not.mpr hav)]
    dsimp only
    by_cases hp : m.port.val = 0
    · rw [if_pos hp, hp]
      exact ⟨_, rfl, fun _ => ⟨rfl, rfl, rfl⟩, fun h1 => absurd h1 (by decide)⟩
    · have hp1 : m.port.val = 1 := by omega
      rw [if_neg hp, hp1]
      exact ⟨_, rfl, fun h0 => absurd h0 (by decide), fun _ => ⟨rfl, rfl, rfl⟩⟩
  · intro s hstate hlong
    have hexec : exec .syncTimeout s = execSyncTimeout s := rfl
    rw [hexec, execSyncTimeout, if_neg (by simp [hstate, hlong])]
    refine ⟨_, _, rfl, rfl, ?_⟩
    split
    · dsimp only
      rw [event_time]
      exact ⟨rfl, rfl⟩
    · dsimp only
      rw [event_time]
      exact ⟨rfl, rfl⟩
  · refine fun e v => rowCompletes_host (fun _ => rfl) fun s s1 who h => ?_
    rw [writeAnswered, respond_time, written_wo (by decide) (by decide) row_timeSet rfl rfl]
    simp only [actTimeSet, event_time, leNat_u64, BitVec.ofNat_toNat, BitVec.setWidth_eq]
  · intro port s hav hrole hup hlong
    have hexec : exec (.syncInterval port) s = execSyncInterval port s := rfl
    have hgo : ¬ (¬ s.available ∨ field s.time.roles (4 * port.val + 3) (4 * port.val) ≠ 1 ∨
        ¬ decide ((AMap.get {} s.lanes.lanes (48 + port.val)).state = 5) = true ∨
        ¬ s.elapsed (if port.val = 0 then s.time.sent0 else s.time.sent1) (syncInterval s)) := by
      have hlane : (AMap.get {} s.lanes.lanes (48 + port.val)).state = 5 := hup
      rintro (h | h | h | h)
      · exact h hav
      · exact h hrole
      · exact h (decide_eq_true hlane)
      · exact h hlong
    rw [hexec, execSyncInterval]
    dsimp only
    rw [if_neg hgo]
    by_cases hp : port.val = 0
    · rw [if_pos hp, hp]
      exact ⟨_, rfl, List.append_assoc .., fun _ => rfl, fun h1 => absurd h1 (by decide)⟩
    · have hp1 : port.val = 1 := by omega
      rw [if_neg hp, hp1]
      exact ⟨_, rfl, List.append_assoc .., fun h0 => absurd h0 (by decide), fun _ => rfl⟩

end Sys2Proof.Machine
end

section
/-! PROOFS. O40: pin and I/O bank commands complete. -/

namespace Sys2Proof.Machine

/-! #### Edges at the input pins -/

@[simp] theorem bank_updBank_same (s : State) (b : Nat) (f : IoBank → IoBank) : (updBank s b f).bank b = f (s.bank b) := AMap.get_upd_same ..

theorem dropEdge_counts (s : State) (b pin : Nat) : ((dropEdge s b pin).bank b).inQ = (s.bank b).inQ ∧
    ((dropEdge s b pin).bank b).droppedIn = satInc (s.bank b).droppedIn maxU32 := by
  rw [dropEdge, event_bank, bank_updBank_same]
  exact ⟨rfl, rfl⟩

theorem execInputEdge_stamped {b : Fin 8} {pin : Fin 48} {rising : Bool} {time : U64} {fraction : Byte} {s u : State} {up : Bool} {cyc : Nat}
    (hu : u = usePin s b.val pin.val) (hup : up = (rising != bit (pinSet u b.val pin.val) 25)) (hstate : (u.bank b.val).state = 1)
    (hobeys : pinObeys u b.val pin.val = true) (hin : bit (pinSet u b.val pin.val) 0 = true)
    (hedge : bit (pinSet u b.val pin.val) (if up then 3 else 4) = true) (hcyc : cyc = rootOf u time.toNat fraction.toNat / 16 + 1)
    (hnew : (u.pin b.val pin.val).recordedAt = cyc → bit (u.pin b.val pin.val).recordedEdges (if up then 0 else 1) = false) :
    ∃ v, (∀ k, v.bank k = u.bank k) ∧ execInputEdge b pin rising time fraction s = .next
      (if 32 ≤ (u.bank b.val).inQ.length then dropEdge v b.val pin.val
      else updBank v b.val fun x => { x with
        inQ := x.inQ.take (x.draining.getD 0) ++ inStampOrder ⟨time, BitVec.ofNat 32 (fraction.toNat * 0x1000000 + pin.val * 0x40000 +
          (if up then 1 else 2) * 0x10000 + (u.bank b.val).droppedSince)⟩ (x.inQ.drop (x.draining.getD 0))
        seq := (x.seq + 1) % 65536
        droppedSince := 0 }) := by
  have hseen : bit (if (u.pin b.val pin.val).recordedAt = cyc then (u.pin b.val pin.val).recordedEdges else 0) ((if up then 1 else 2) - 1) = false := by
    have hmark : (if up then 1 else 2) - 1 = if up then 0 else 1 := by cases up <;> rfl
    rw [hmark]
    split
    · next h => exact hnew h
    · exact Nat.zero_testBit _
  have hgo : ¬ ((u.bank b.val).state ≠ 1 ∨ ¬ pinObeys u b.val pin.val ∨ ¬ bit (pinSet u b.val pin.val) 0 ∨
      ¬ bit (pinSet u b.val pin.val) (if up then 3 else 4) ∨
      bit (if (u.pin b.val pin.val).recordedAt = cyc then (u.pin b.val pin.val).recordedEdges else 0) ((if up then 1 else 2) - 1)) := by
    rintro (h | h | h | h | h)
    · exact h hstate
    · exact h hobeys
    · exact h hin
    · exact h hedge
    · rw [hseen] at h
      exact Bool.false_ne_true h
  unfold execInputEdge
  dsimp only
  rw [← hu, ← hup, ← hcyc, if_neg hgo]
  refine ⟨_, fun k => ?_, rfl⟩
  rw [counted_bank, updPin_bank]

theorem inputEdge_queued {b : Fin 8} {pin : Fin 48} {rising : Bool} {time : U64} {fraction : Byte} {s u : State} {up : Bool} {n : Nat}
    (hu : u = usePin s b.val pin.val) (hup : up = (rising != bit (pinSet u b.val pin.val) 25)) (hstate : (u.bank b.val).state = 1)
    (hobeys : pinObeys u b.val pin.val = true) (hin : bit (pinSet u b.val pin.val) 0 = true)
    (hedge : bit (pinSet u b.val pin.val) (if up then 3 else 4) = true)
    (hnew : (u.pin b.val pin.val).recordedAt = rootOf u time.toNat fraction.toNat / 16 + 1 →
      bit (u.pin b.val pin.val).recordedEdges (if up then 0 else 1) = false)
    (hn : n = (u.bank b.val).draining.getD 0) :
    ∃ t, exec (.inputEdge b pin rising time fraction) s = .next t ∧
      ((u.bank b.val).inQ.length < 32 → (t.bank b.val).inQ = (u.bank b.val).inQ.take n ++ inStampOrder ⟨time, BitVec.ofNat 32
          (fraction.toNat * 0x1000000 + pin.val * 0x40000 + (if up then 1 else 2) * 0x10000 + (u.bank b.val).droppedSince)⟩
          ((u.bank b.val).inQ.drop n) ∧
        (t.bank b.val).droppedSince = 0) ∧
      (32 ≤ (u.bank b.val).inQ.length → (t.bank b.val).inQ = (u.bank b.val).inQ ∧
        (t.bank b.val).droppedIn = satInc (u.bank b.val).droppedIn maxU32) := by
  obtain ⟨v, hv, hexec⟩ := execInputEdge_stamped hu hup hstate hobeys hin hedge rfl hnew
  refine ⟨_, hexec, fun hroom => ?_, fun hfull => ?_⟩
  · rw [if_neg (Nat.not_le.mpr hroom), bank_updBank_same, hv, hn]
    exact ⟨rfl, rfl⟩
  · rw [if_pos hfull, (dropEdge_counts ..).1, (dropEdge_counts ..).2, hv]
    exact ⟨rfl, rfl⟩

/-! #### The rows of the pins' settings -/

theorem pinRows : objTable.all (fun r => !(decide (r.lo ≤ 0x6927) && decide (0x6920 ≤ r.hi) && decide (1 ≤ r.shi)) ||
    (decide (r.acc = .rwp) && decide (r.mask ≠ 0) && decide (tySize r.ty = 4))) = true := by decide +kernel

theorem row_ioPin {idx sub : Nat} {r : ObjRow} (hlo : 0x6920 ≤ idx) (hhi : idx ≤ 0x6927) (hsub : 1 ≤ sub) (h : rowOf idx sub = some r) :
    r.acc = .rwp ∧ r.mask ≠ 0 ∧ tySize r.ty = 4 := by
  have hcovers := List.find?_some h
  simp only [ObjRow.covers, Bool.and_eq_true, decide_eq_true_eq] at hcovers
  have hrow := List.all_eq_true.mp pinRows r (List.mem_of_find?_eq_some h)
  simp only [Bool.or_eq_true, Bool.not_eq_true', Bool.and_eq_false_iff, Bool.and_eq_true, decide_eq_false_iff_not, decide_eq_true_eq] at hrow
  rcases hrow with hout | ⟨⟨hacc, hmask⟩, hty⟩
  · omega
  · exact ⟨hacc, hmask, hty⟩

theorem criticalWritten_obj (s : State) (who : Requester) (idx sub : Nat) (old new : List Byte) :
    (criticalWritten s who idx sub old new).obj = s.obj :=
  (criticalWritten_links (sc := .wide [.board, .obs]) s who idx sub old new (by simp)).keeps .obj

/-! #### The entries at the output pins -/

section Entry

variable {b : Fin 8} {s u : State} {e : IoEntry} {rest : List IoEntry}

/-- The head of a running bank's output queue, at the pin's pair compared. -/
theorem execOutputEntryExecute_head {at_ : Nat} (hq : (s.bank b.val).outQ = e :: rest) (hu : u = usePin s b.val (entryPin e))
    (huq : (u.bank b.val).outQ = e :: rest) (hstate : (u.bank b.val).state = 1) (hout : u.boot.outputsReleased = true)
    (hdrain : (u.bank b.val).drainUntil = none)
    (hat : at_ = if decide (e.time = 0) = true then firstPlace u b.val e else max (entryRoot u e) (firstPlace u b.val e)) (hnow : at_ / 16 ≤ u.now / 16) :
    execOutputEntryExecute b s =
      if ¬ decide (e.time = 0) = true ∧ entryRoot u e < firstPlace u b.val e then
        (if u.num (0x6910 + b.val) 5 = 1 then
          .next (event (updBank (counted (dropHead u b.val) (ioSrc b.val) 0x02 ((firstPlace u b.val e - entryRoot u e) * 5 / 48) 1) b.val
            fun x => { x with refused := satInc x.refused maxU32 }) (ioSrc b.val) 0x7006
            (u8 (entryPin e) ++ u64 ((firstPlace u b.val e - entryRoot u e) * 5 / 48)))
        else .next (runBatch b.val (firstPlace u b.val e / 16) 7 [entryPin e] (runEntry
          (event (updBank (counted (dropHead u b.val) (ioSrc b.val) 0x02 ((firstPlace u b.val e - entryRoot u e) * 5 / 48) 1) b.val
            fun x => { x with late := satInc x.late maxU32 }) (ioSrc b.val) 0x7005
            (u8 (entryPin e) ++ u64 ((firstPlace u b.val e - entryRoot u e) * 5 / 48))) b.val e (firstPlace u b.val e))))
      else .next (runBatch b.val (at_ / 16) 7 [entryPin e] (runEntry (dropHead u b.val) b.val e at_)) := by
  obtain rfl := hu.symm
  have hgo : ¬ (((usePin s b.val (entryPin e)).bank b.val).state ≠ 1 ∨ ¬ (usePin s b.val (entryPin e)).boot.outputsReleased ∨
      (usePin s b.val (entryPin e)).now / 16 < at_ / 16 ∨
      ((usePin s b.val (entryPin e)).bank b.val).drainUntil.any (fun t => decide (t < entryRoot (usePin s b.val (entryPin e)) e))) := by
    rintro (h | h | h | h)
    · exact h hstate
    · exact h hout
    · omega
    · rw [hdrain] at h
      exact Bool.false_ne_true h
  unfold execOutputEntryExecute
  dsimp only
  rw [hq]
  dsimp only
  rw [huq]
  dsimp only
  rw [← hat, if_neg hgo]

end Entry

theorem execReturnTimer_due {b : Fin 8} {pin : Fin 48} {s u : State} {t act : Nat} (hu : u = usePin s b.val pin.val)
    (hret : (u.pin b.val pin.val).ret = some (t, act)) (hdue : t / 16 ≤ u.now / 16)
    (hfree : (u.pin b.val pin.val).changedAt ≠ 0 → ((u.pin b.val pin.val).changedAt - 1) / 16 < t / 16 ∨
      ((u.pin b.val pin.val).changedAt - 1) / 16 < u.now / 16) :
    execReturnTimer b pin s = .next
      (if act = 2 then updPin (updPin u b.val pin.val fun p => { p with ret := none }) b.val pin.val
          fun p => { p with level := p.prev, prev := p.level, changedAt := t + 1 }
        else if act = 3 then drivePin (updPin u b.val pin.val fun p => { p with ret := none }) b.val pin.val 3 t
        else drivePin (updPin u b.val pin.val fun p => { p with ret := none }) b.val pin.val (1 - act) t) := by
  unfold execReturnTimer
  dsimp only
  rw [← hu, hret]
  dsimp only
  rw [if_neg (by omega)]

theorem startBank_starts (s : State) (b : Nat) : ((startBank s b).bank b).state = 1 ∧
    ((s.bank b).state ≠ 1 → ((startBank s b).bank b).polledAt = s.now) := by
  unfold startBank
  split
  · next h => exact ⟨h, fun h0 => absurd h h0⟩
  · rw [event_bank, bank_updBank_same]
    exact ⟨rfl, fun _ => rfl⟩

/-- Settles O40: each edge, entry, timer and bank by the state that takes it. -/
theorem pinCommandsComplete : Obligations.PinCommandsComplete := by
  refine ⟨fun b pin rising time fraction s u up n => inputEdge_queued, ?_, ?_, ?_, ?_, ?_, ?_, ?_, ?_⟩
  · intro b s hdrains hretry
    exact congrArg Host.Outcome.next (if_pos ⟨hdrains, hretry⟩)
  · intro b s hdrains hretry hlong
    exact congrArg Host.Outcome.next (if_pos ⟨hdrains, hretry, hlong⟩)
  · intro b s u n bs hu hstate hdrain hw hroom hstatus hn
    have hexec : exec (.outputPoll b) s = execOutputPoll b s := rfl
    rw [hexec, execOutputPoll]
    dsimp only
    rw [if_neg (by simp [hstate, hdrain]; omega), ← hu, if_neg (not_not.mpr hstatus), ← hn]
    refine ⟨fun h0 => if_pos h0, fun h0 hpop hbs => ?_⟩
    rw [if_neg h0, if_neg (not_not.mpr hpop), hbs]
  · intro b s u e rest hq hu huq hstate hout hdrain
    have hexec : exec (.outputEntryExecute b) s = execOutputEntryExecute b s := rfl
    refine ⟨fun himm hnow => ?_, fun htime hfirst hnow => ?_, fun htime hlate hnow => ⟨_, _, rfl, rfl, fun hpolicy => ?_, fun hpolicy => ?_⟩⟩
    · rw [hexec, execOutputEntryExecute_head hq hu huq hstate hout hdrain (by rw [if_pos (decide_eq_true himm)]) hnow, if_neg (by simp [himm])]
    · rw [hexec, execOutputEntryExecute_head hq hu huq hstate hout hdrain (by rw [if_neg (by simpa using htime), Nat.max_eq_left hfirst]) hnow,
        if_neg (by omega)]
    · rw [hexec, execOutputEntryExecute_head hq hu huq hstate hout hdrain
        (by rw [if_neg (by simpa using htime), Nat.max_eq_right (Nat.le_of_lt hlate)]) hnow, if_pos ⟨by simpa using htime, hlate⟩, if_pos hpolicy]
    · rw [hexec, execOutputEntryExecute_head hq hu huq hstate hout hdrain
        (by rw [if_neg (by simpa using htime), Nat.max_eq_right (Nat.le_of_lt hlate)]) hnow, if_pos ⟨by simpa using htime, hlate⟩, if_neg hpolicy]
  · intro b pin s u t act hu hret hdue hfree
    have hexec : exec (.returnTimer b pin) s = execReturnTimer b pin s := rfl
    rw [hexec, execReturnTimer_due hu hret hdue hfree]
    refine ⟨fun hact => ?_, fun hact => ?_, fun hact => ?_⟩
    · rw [if_neg (by omega), if_neg (by omega)]
    · rw [if_pos hact]
    · rw [if_neg (by omega), if_pos hact]
  · intro e b
    refine rowCompletes_host (fun _ => rfl) fun s s1 who h => ?_
    rw [writeAnswered, bank_of_banks (respond_banks ..), written_wo (by omega) (by decide) (row_ioBankStart b) rfl rfl]
    simp only [actBank]
    rw [if_pos (by decide)]
    exact startBank_starts ..
  · intro e b
    refine rowCompletes_host (fun _ => rfl) fun s s1 who h => ?_
    rw [writeAnswered, respond_banks, respond_pins, written_wo (by omega) (by decide) (row_ioBankStart b) rfl rfl]
    simp only [actBank]
    rw [if_neg (by decide)]
    exact ⟨rfl, rfl⟩
  · intro e b pin v c
    refine rowCompletes_paired (fun _ => rfl) fun s s1 who h r hr => ?_
    obtain ⟨hacc, hmask, hty⟩ := row_ioPin (by omega) (by omega) (by omega) hr
    have hne : keepFields r (s1.bytesOf (0x6920 + b.val) (pin.val + 1)) (u32 v.toNat) ≠ [] := by
      rw [keepFields, if_neg hmask, hty]
      simp [leBytes]
    refine bytesOf_put (s := s1) ?_ hne
    rw [writeAnswered, respond_obj, written_rwp (v := u32 v.toNat) (c := u32 c.toNat) (a := actPin b.val pin.val) (by omega) (by omega) hr hacc rfl
      (by simp [u32])]
    exact criticalWritten_obj ..

end Sys2Proof.Machine
end

section
/-! PROOFS. O41: lane bring-up and data commands complete. -/

namespace Sys2Proof.Machine

/-! #### A lane's own changes -/

@[simp] theorem lane_updLane_same (s : State) (k : Nat) (f : Lane → Lane) : (updLane s k f).lane k = f (s.lane k) := AMap.get_upd_same ..

theorem sendRecords_nil (n fuel : Nat) (s : State) : sendRecords n fuel [] s = s := by
  cases fuel <;> rfl

/-- A lane that locks by a figure of merit that suffices. -/
theorem execLaneLocked_good {l : LaneId} {fom : Nat} {s u : State} (hfom : fomMin s (laneKey l) ≤ fom) (hsup : lanesSupplied s = true)
    (hu : u = updLane s (laneKey l) fun x => { x with fom := min 1023 fom }) : execLaneLocked l fom s =
      if (s.lane (laneKey l)).state = 2 ∧ (s.lane (laneKey l)).step = 4 then
        .next (if laneMode s (laneKey l) = 2 then updLane u (laneKey l) fun x => { x with state := 3, step := 5, stepAt := s.now }
          else updLane u (laneKey l) fun x => { x with step := 7, stepAt := s.now })
      else if (s.lane (laneKey l)).state = 7 ∧ (s.lane (laneKey l)).step = 4 then
        .next (marker (updLane u (laneKey l) fun x => { x with state := activeState x, step := 0 }) (laneKey l) 7 0 [])
      else if (s.lane (laneKey l)).state = 4 ∧ (s.lane (laneKey l)).step = 8 then .next (afterStep u (laneKey l))
      else if (s.lane (laneKey l)).state = 4 ∧ (s.lane (laneKey l)).step = 9 then
        .next (updLane u (laneKey l) fun x => { x with step := 7, stepAt := s.now })
      else .next s := by
  unfold execLaneLocked
  dsimp only
  rw [if_neg (by simp [hfom, hsup]), ← hu]

/-- A lane whose lock is lost begins again at the step of its mode. -/
theorem loseLock_again {s : State} {k : Nat} (h : (s.lane k).state = 5 ∨ (s.lane k).state = 8) : ((loseLock s k).lane k).step ≠ 0 ∧
    (laneMode s k = 2 → ((loseLock s k).lane k).state = 1) ∧ (laneMode s k ≠ 2 → k < 48 → ((loseLock s k).lane k).state = 7) ∧
    (laneMode s k ≠ 2 → 48 ≤ k → ((loseLock s k).lane k).state = 2) := by
  have hlink (c : Prop) [Decidable c] (u : State) (up : Bool) (f : Hitch → Hitch) : (if c then u.updLink up f else u).lane k = u.lane k := by
    split
    · exact updLink_lane ..
    · rfl
  unfold loseLock
  dsimp only
  rw [if_neg (by omega), hlink]
  by_cases hm : laneMode s k = 2
  · rw [if_pos hm, lane_updLane_same]
    exact ⟨Nat.one_ne_zero, fun _ => rfl, fun h => absurd hm h, fun h => absurd hm h⟩
  · rw [if_neg hm]
    by_cases hk : k < 48
    · rw [if_pos hk, lane_updLane_same]
      exact ⟨Nat.succ_ne_zero 3, fun h => absurd h hm, fun _ _ => rfl, fun _ h => absurd hk (Nat.not_lt.mpr h)⟩
    · rw [if_neg hk, lane_updLane_same]
      exact ⟨Nat.succ_ne_zero 3, fun h => absurd h hm, fun _ h => absurd h hk, fun _ _ => rfl⟩

theorem execLaneActive_last {l : LaneId} {slow : Bool} {s : State} (hstep : (s.lane (laneKey l)).step = 7)
    (hslow : slow = true → 48 ≤ laneKey l → laneKey l < 50 → (s.lane (laneKey l)).rate ≠ 0) :
    ∃ t, exec (.laneActive l slow) s = .next t ∧ (t.lane (laneKey l)).state = activeState (s.lane (laneKey l)) ∧
      (t.lane (laneKey l)).step = 0 ∧ (t.lane (laneKey l)).rate = (s.lane (laneKey l)).rate := by
  have hexec : exec (.laneActive l slow) s = execLaneActive l slow s := rfl
  have hgo : ¬ ((s.lane (laneKey l)).step ≠ 7 ∨ (slow = true ∧ 48 ≤ laneKey l ∧ laneKey l < 50 ∧ (s.lane (laneKey l)).rate = 0)) := by
    rintro (h | ⟨h1, h2, h3, h4⟩)
    · exact h hstep
    · exact hslow h1 h2 h3 h4
  have hlink (c : Prop) [Decidable c] (u : State) (up : Bool) : (if c then u else linkUp u up).lane (laneKey l) = u.lane (laneKey l) := by
    split
    · rfl
    · exact linkUp_lane ..
  rw [hexec, execLaneActive]
  dsimp only
  rw [if_neg hgo]
  refine ⟨_, rfl, ?_⟩
  rw [hlink, event_lane, lane_updLane_same]
  exact ⟨rfl, rfl, rfl⟩

theorem bringupLimits (l : LaneId) (s : State) :
    ((s.lane (laneKey l)).state = 1 → s.elapsed (s.lane (laneKey l)).stepAt 100000 = true → exec (.laneBringupLimit l) s =
      .next (updLane s (laneKey l) fun x => { x with stepAt := s.now })) ∧
    ((s.lane (laneKey l)).state = 2 ∨ (s.lane (laneKey l)).state = 7 → (s.lane (laneKey l)).step = 4 →
      laneKey l < 48 ∨ 50 ≤ laneKey l → s.elapsed (s.lane (laneKey l)).stepAt 2000000 = true →
      exec (.laneBringupLimit l) s = .next (failLane s (laneKey l) 4 0)) ∧
    ((s.lane (laneKey l)).state = 4 → (s.lane (laneKey l)).step = 9 → s.elapsed (s.lane (laneKey l)).stepAt 2000000 = true →
      exec (.laneBringupLimit l) s = .next (failLane s (laneKey l) 4 0)) ∧
    ((s.lane (laneKey l)).state = 3 → (s.lane (laneKey l)).step = 5 → s.elapsed (s.lane (laneKey l)).stepAt 1000000 = true →
      exec (.laneBringupLimit l) s = .next (failLane s (laneKey l) 5 0)) ∧
    ((s.lane (laneKey l)).state = 4 → (s.lane (laneKey l)).step = 6 → s.elapsed (s.lane (laneKey l)).stepAt 2000000 = true →
      exec (.laneBringupLimit l) s = .next (stepFailed s (laneKey l) ((nextRate s (laneKey l)).getD 0xFF) (s.lane (laneKey l)).rate)) ∧
    ((s.lane (laneKey l)).state = 4 → (s.lane (laneKey l)).step = 8 → s.elapsed (s.lane (laneKey l)).stepAt 2000000 = true →
      exec (.laneBringupLimit l) s = .next (stepFailed s (laneKey l) (s.lane (laneKey l)).rate
        (prevRate (laneKey l) (s.lane (laneKey l)).rate))) := by
  have hexec : exec (.laneBringupLimit l) s = execLaneBringupLimit l s := rfl
  rw [hexec, execLaneBringupLimit]
  dsimp only
  refine ⟨fun hst h => ?_, fun hst hstep hk h => ?_, fun hst hstep h => ?_, fun hst hstep h => ?_, fun hst hstep h => ?_, fun hst hstep h => ?_⟩
  · rw [if_pos ⟨hst, h⟩]
  · rw [if_neg (by omega), if_pos ⟨hst, hstep, h, hk⟩]
  · rw [if_neg (by omega), if_neg (by omega), if_neg (by omega), if_neg (by omega), if_neg (by omega), if_pos ⟨hst, hstep, h⟩]
  · rw [if_neg (by omega), if_neg (by omega), if_pos ⟨hst, hstep, h⟩]
  · rw [if_neg (by omega), if_neg (by omega), if_neg (by omega), if_pos ⟨hst, hstep, h⟩]
  · rw [if_neg (by omega), if_neg (by omega), if_neg (by omega), if_neg (by omega), if_pos ⟨hst, hstep, h⟩]

theorem laneTxPop_records {n : Fin 48} {s u : State} {w len : Nat} {bad : Bool} {ahead : List Byte} (hw : w = s.num (0x6A00 + n.val) 4)
    (hsends : laneSends s n.val = true) (hlow : w < 16) (hstatus : (windowStatus s w).2.1 = 0)
    (hahead : ahead = (windowIndexed s w 0 (min 1024 ((s.window w).fill / 8 * 8)) none .good).2.2) (hwhole : wholeRecords 129 0 ahead = (len, bad))
    (hpop : len = 0 ∧ u = s ∨ len ≠ 0 ∧ (windowPop s w len .good).2.1 = 0 ∧
      u = sendRecords n.val 129 (windowPop s w len .good).2.2 (windowPop s w len .good).1) :
    exec (.laneTxPop n) s = .next (if bad then event (updLane u n.val fun l =>
      { l with state := if l.state = 5 then 8 else l.state, txStopped := true }) (laneSrc n.val) 0x8008 (bytesAt ahead len 8) else u) := by
  have hexec : exec (.laneTxPop n) s = execLaneTxPop n s := rfl
  rw [hexec, execLaneTxPop]
  dsimp only
  rw [← hw, if_neg (by simp [hsends, hstatus]; omega), ← hahead, hwhole]
  dsimp only
  rcases hpop with ⟨h0, hu⟩ | ⟨h0, hgood, hu⟩
  · rw [if_pos h0, if_neg (not_not.mpr rfl), sendRecords_nil, hu]
  · rw [if_neg h0, if_neg (not_not.mpr hgood), ← hu]

/-- Settles O41: each step of the bring-up and each unit of data by the lane's state. -/
theorem laneCommandsComplete : Obligations.LaneCommandsComplete := by
  refine ⟨?_, ?_, ?_, ?_, ?_, ?_, fun l slow s => execLaneActive_last, ?_, bringupLimits, ?_, ?_, ?_, ?_, ?_, ?_, ?_, ?_⟩
  · refine fun e n => rowCompletes_host (fun _ => rfl) fun s s1 who h => ?_
    rw [writeAnswered, respond_lanes, written_wo (by omega) (by decide) (row_laneStart n) rfl rfl]
    simp only [actLane]
    rw [if_pos (by decide)]
  · refine fun e n => rowCompletes_host (fun _ => rfl) fun s s1 who h => ?_
    rw [writeAnswered, respond_lanes, written_wo (by omega) (by decide) (row_laneStart n) rfl rfl]
    simp only [actLane]
    rw [if_neg (by decide)]
  · intro l s hstate hsup
    exact congrArg Host.Outcome.next (if_pos ⟨hstate, hsup⟩)
  · intro l fom s u hfom hsup hu
    have hexec : exec (.laneLocked l fom) s = execLaneLocked l fom s := rfl
    rw [hexec, execLaneLocked_good hfom hsup hu]
    refine ⟨fun hst hstep hm => ?_, fun hst hstep hm => ?_, fun hst hstep => ?_, fun hst hstep => ?_, fun hst hstep => ?_⟩
    · rw [if_pos ⟨hst, hstep⟩, if_pos hm]
    · rw [if_pos ⟨hst, hstep⟩, if_neg hm]
    · rw [if_neg (by omega), if_pos ⟨hst, hstep⟩]
    · rw [if_neg (by omega), if_neg (by omega), if_pos ⟨hst, hstep⟩]
    · rw [if_neg (by omega), if_neg (by omega), if_neg (by omega), if_pos ⟨hst, hstep⟩]
  · intro l maxRate hitch pre post s hst hstep hhitch
    have hexec : exec (.laneTs2Received l maxRate hitch pre post) s = execLaneTs2Received l maxRate hitch pre post s := rfl
    have hpartner : ¬ (50 ≤ laneKey l ∧ ¬ hitch) := fun ⟨h50, hno⟩ => hno (hhitch h50)
    rw [hexec, execLaneTs2Received]
    dsimp only
    rw [if_neg (by omega), if_neg hpartner]
  · intro l s r hnext hst hstep
    have hexec : exec (.laneStep l) s = execLaneStep l s := rfl
    rw [hexec, execLaneStep]
    rw [hnext]
    exact congrArg Host.Outcome.next (if_pos ⟨hst, hstep⟩)
  · intro l s hstep hlo hhi hrate
    exact if_pos (.inr ⟨rfl, hlo, hhi, hrate⟩)
  · intro l s hst hlong
    exact congrArg Host.Outcome.next (if_pos ⟨hst, hlong⟩)
  · intro l s hst
    exact ⟨_, rfl, loseLock_again hst⟩
  · intro p s hset hst hstep hlong
    have hexec : exec (.serviceLaneAutoTry p) s = execServiceLaneAutoTry p s := rfl
    rw [hexec, execServiceLaneAutoTry]
    dsimp only
    rw [if_neg (by simp [hset, hst, hstep, hlong])]
    refine ⟨_, rfl, ?_⟩
    rw [lane_updLane_same]
    exact ⟨rfl, rfl⟩
  · intro n units s u v hst hu hv
    have hexec : exec (.laneRxPush n units) s = execLaneRxPush n units s := rfl
    rw [hexec, execLaneRxPush]
    dsimp only
    rw [if_neg (by omega), ← hu, ← hv]
  · intro n s hretry hlong hmark
    have hexec : exec (.lanePushRetry n) s = execLanePushRetry n s := rfl
    rw [hexec, execLanePushRetry]
    rw [if_neg (fun h => h.1 hmark), if_pos ⟨hretry, hlong⟩]
  · intro n s hmark hlong hretry
    have hexec : exec (.lanePushRetry n) s = execLanePushRetry n s := rfl
    rw [hexec, execLanePushRetry]
    rw [if_pos ⟨hmark, hlong⟩, if_neg (fun h => h.1 hretry)]
  · intro n s u w len bad ahead hw hsends hlow hstatus hahead hwhole hpop
    rw [laneTxPop_records hw hsends hlow hstatus hahead hwhole hpop]
    exact ⟨fun h => by rw [h]; rfl, fun h => by rw [h]; rfl⟩
  · intro l setting up s hst hlong
    have hexec : exec (.laneAdaptStep l setting up) s = execLaneAdaptStep l setting up s := rfl
    rw [hexec, execLaneAdaptStep]
    dsimp only
    rw [if_neg (by rintro (h | h) <;> [omega; exact h hlong])]

end Sys2Proof.Machine
end

section
/-! PROOFS. O42: sealed partition commands complete. -/

namespace Sys2Proof.Machine

/-! #### What the writes of the controller's areas leave of the sealed partition -/

theorem controllerWrite_sealed (off : Nat) (data : List Byte) (s : State) :
    (controllerWrite off data s).sealed = { s.sealed with image := Memory.write s.sealed.image off data } :=
  (panWrite_links (sc := .wide [.pan]) _ _ _ _ (by simp) trivial).keeps .sealed

theorem writeSealedStatus_sealed (s : State) : ∃ m, (writeSealedStatus s).sealed = { s.sealed with image := m } := by
  unfold writeSealedStatus
  split
  · exact ⟨_, controllerWrite_sealed ..⟩
  · exact ⟨s.sealed.image, rfl⟩

theorem writeImage_sealed (s : State) (p : Nat) : ∃ m, (writeImage s p).sealed = { s.sealed with image := m } := ⟨_, controllerWrite_sealed ..⟩

theorem writeImages_table (s : State) : (writeImages s).sealed.table = s.sealed.table ∧ (writeImages s).sealed.store = s.sealed.store := by
  have hstep (s : State) (p : Nat) : (writeImage s p).sealed.table = s.sealed.table ∧ (writeImage s p).sealed.store = s.sealed.store := by
    obtain ⟨m, hm⟩ := writeImage_sealed s p
    rw [hm]
    exact ⟨rfl, rfl⟩
  exact ⟨foldl_keeps (·.sealed.table) (fun s p => (hstep s p).1) _ _, foldl_keeps (·.sealed.store) (fun s p => (hstep s p).2) _ _⟩

theorem reidentify_sealed (s : State) : ∃ i, (reidentify s).sealed = { s.sealed with identification := i } := by
  unfold reidentify
  dsimp only
  split
  · exact ⟨s.sealed.identification, rfl⟩
  · exact ⟨_, event_sealed ..⟩

/-- The sealed partition with a change recorded. -/
def changeRecorded (x : Sealed) (tai param level session : Nat) (old new : U64) : Sealed :=
  { x with
    flips := if x.changed then x.flips else AMap.set 0 x.flips 0 0
    counter := if x.changed then x.counter else x.counter + 1
    changed := true
    audit := x.audit ++ [⟨tai, if x.changed then x.counter else x.counter + 1, param, level, session, old, new⟩] }

theorem recordChange_sealed (s : State) (param level session : Nat) (old new : U64) :
    (recordChange s param level session old new).sealed = changeRecorded s.sealed s.tai param level session old new := by
  unfold recordChange
  dsimp only
  split
  · rw [event_sealed, event_sealed]
    rfl
  · rw [event_sealed]
    rfl

theorem setParam_sealed (s : State) (who : Requester) (p : Nat) (v : U64) : ∃ m i, (setParam s who p v).sealed =
    { changeRecorded s.sealed s.tai p (levelOf s who) (reqSession who) (sealParam s p).val v with
      store := AMap.set {} s.sealed.store p ⟨v, ~~~v⟩, table := AMap.set {} s.sealed.table p ⟨v, ~~~v⟩, image := m, identification := i } := by
  have hrec := recordChange_sealed s p (levelOf s who) (reqSession who) (sealParam s p).val v
  unfold setParam
  dsimp only
  generalize recordChange s p (levelOf s who) (reqSession who) (sealParam s p).val v = s1 at hrec ⊢
  rw [hrec]
  generalize hs2 : ({ s1 with sealed := _ } : State) = s2
  have hs2' := congrArg State.sealed hs2
  obtain ⟨m, hm⟩ := writeSealedStatus_sealed (reidentify (writeImage s2 p))
  obtain ⟨i, hi⟩ := reidentify_sealed (writeImage s2 p)
  obtain ⟨m', hm'⟩ := writeImage_sealed s2 p
  refine ⟨m, i, ?_⟩
  rw [hm, hi, hm', ← hs2']
  rfl

/-! #### What is written over in the controller's areas, and what a table fault leaves -/

theorem panPut_sealed (s : State) (o : Nat) (b : Byte) : (panPut s o b).sealed = s.sealed :=
  (panPut_links (sc := .wide [.pan]) s o b (by simp) trivial).keeps .sealed

theorem undoWrites_sealed (s : State) : (undoWrites s).sealed = s.sealed :=
  foldl_keeps State.sealed (fun s _ => panPut_sealed s _ _) _ s

theorem undoWrites_nothing {s : State} (h : overwritten s = []) : undoWrites s = s := by
  rw [undoWrites, h, List.foldl_nil]

theorem writeSealedStatus_records (s : State) :
    (writeSealedStatus s).sealed.store = s.sealed.store ∧ (writeSealedStatus s).sealed.table = s.sealed.table := by
  obtain ⟨m, hm⟩ := writeSealedStatus_sealed s
  rw [hm]
  exact ⟨rfl, rfl⟩

theorem storeCheck_store (s : State) : (storeCheck s).sealed.store = s.sealed.store := by
  unfold storeCheck
  split
  · rfl
  next a ha =>
    split
    · rfl
    · rw [(writeSealedStatus_records _).1, event_sealed]

theorem tableFault_records (s : State) (p : Nat) :
    (tableFault s p).sealed.table = s.sealed.store ∧ (tableFault s p).sealed.store = s.sealed.store := by
  unfold tableFault
  dsimp only
  rw [event_sealed]
  generalize hs1 : ({ s with sealed := { s.sealed with table := s.sealed.store, faults := s.sealed.faults ||| 1 } } : State) = s1
  have hsealed := congrArg State.sealed hs1
  obtain ⟨hstore, htable⟩ := writeSealedStatus_records (writeImages s1)
  obtain ⟨htable', hstore'⟩ := writeImages_table s1
  rw [hstore, htable, htable', hstore', ← hsealed]
  exact ⟨rfl, rfl⟩

/-! #### The writes of the sealed table -/

theorem sealParam_apply (s : State) (who : Requester) (old : List Byte) (param : Byte) (v c : U64) :
    actSealParam.apply s who old ([param, 0, 0, 0] ++ u64 v.toNat ++ u64 c.toNat) =
      setParam s who param.toNat (BitVec.ofNat 64 (paramKept param.toNat v.toNat)) := by
  have hp : natAt ([param, 0, 0, 0] ++ u64 v.toNat ++ u64 c.toNat) 0 1 = param.toNat := by simp [natAt, bytesAt]
  have hv : natAt ([param, 0, 0, 0] ++ u64 v.toNat ++ u64 c.toNat) 4 8 = v.toNat := by
    rw [← leNat_u64 v]
    exact congrArg leNat (by simp [bytesAt])
  simp only [actSealParam, hp, hv]

theorem sealKey_sealed (s : State) (who : Requester) (old wrap : List Byte) : ∃ v w f m i, (actSealKey.apply s who old wrap).sealed =
    { changeRecorded s.sealed s.tai 0xFFFE (levelOf s who) (reqSession who) v w with
      key := (unwrapBy s who wrap).getD [], flips := f, image := m, identification := i } := by
  have hrec := recordChange_sealed s 0xFFFE (levelOf s who) (reqSession who) (BitVec.ofNat 64 (leNat (checkValue s.sealed.key)))
    (BitVec.ofNat 64 (leNat (checkValue ((unwrapBy s who wrap).getD []))))
  simp only [actSealKey]
  generalize recordChange s 0xFFFE (levelOf s who) (reqSession who) _ _ = s1 at hrec ⊢
  rw [hrec]
  generalize hs2 : ({ s1 with sealed := _ } : State) = s2
  have hs2' := congrArg State.sealed hs2
  obtain ⟨m, hm⟩ := writeSealedStatus_sealed (reidentify s2)
  obtain ⟨i, hi⟩ := reidentify_sealed s2
  rw [hm, hi, ← hs2']
  exact ⟨_, _, _, m, i, rfl⟩

theorem controllerWrite_pan_congr (off : Nat) (data : List Byte) {s t : State} (h : t.pan = s.pan) :
    (controllerWrite off data t).pan = (controllerWrite off data s).pan :=
  panWrite_pan_congr _ _ _ h

theorem sealCommand_writes (c : Nat) (s : State) (who : Requester) (old v : List Byte) :
    (actSealCommand c |>.apply s who old v).sealed =
        { (controllerWrite 0xE00 (u64 (s.sealed.commands + 1)) (controllerWrite (0xA00 + s.sealed.commands % 64 * 16)
          (u64 s.tai ++ u8 c ++ u8 (natAt v 3 1) ++ zeros 2 ++ u32 (natAt v 0 3)) s)).sealed with commands := s.sealed.commands + 1 } ∧
      (actSealCommand c |>.apply s who old v).pan =
        (controllerWrite 0xE00 (u64 (s.sealed.commands + 1)) (controllerWrite (0xA00 + s.sealed.commands % 64 * 16)
          (u64 s.tai ++ u8 c ++ u8 (natAt v 3 1) ++ zeros 2 ++ u32 (natAt v 0 3)) s)).pan := by
  simp only [actSealCommand]
  generalize controllerWrite (0xA00 + s.sealed.commands % 64 * 16) _ s = s1
  rw [event_sealed, event_pan, controllerWrite_sealed, controllerWrite_sealed]
  exact ⟨rfl, controllerWrite_pan_congr _ _ rfl⟩

/-! #### The seal's level -/

/-- Withdraws the sealed right of session n. -/
def withdrawRight (s : State) (n : Nat) : State :=
  if (s.session n).sealedRight then s.setSession n { s.session n with sealedRight := false } else s

theorem withdrawRight_sealed (s : State) (n : Nat) : (withdrawRight s n).sealed = s.sealed := by
  unfold withdrawRight
  split <;> rfl

theorem withdrawRight_dict {s t : State} (h : t.dict = s.dict) (n : Nat) : (withdrawRight t n).dict = (withdrawRight s n).dict := by
  have hsession : t.session n = s.session n := congrArg (fun d : Dict => AMap.get ({} : Session) d.sessions n) h
  unfold withdrawRight
  rw [hsession]
  split
  · exact congrArg (fun d : Dict => { d with sessions := AMap.set {} d.sessions n { s.session n with sealedRight := false } }) h
  · exact h

theorem foldl_withdrawRight_dict (l : List Nat) {s t : State} (h : t.dict = s.dict) :
    (l.foldl withdrawRight t).dict = (l.foldl withdrawRight s).dict := by
  induction l generalizing s t with
  | nil => exact h
  | cons n l ih => exact ih (withdrawRight_dict h n)

theorem writeSealedStatus_dict (s : State) : (writeSealedStatus s).dict = s.dict :=
  (writeSealedStatus_links (sc := .wide [.pan, .sealed]) s (by simp) trivial).keeps .dict

theorem sealN_level (opened : Bool) (widthMs : Nat) (s : State) (hen : s.sealed.enabled = true) (hw : 10 ≤ widthMs)
    (hopen : s.sealed.isOpen ≠ opened) : ∃ t, exec (.sealN opened widthMs) s = .next t ∧
      t.sealed = { s.sealed with isOpen := opened, changed := false, image := t.sealed.image } ∧
      (opened = false → t.dict = ((List.range 16).foldl withdrawRight s).dict) := by
  have hexec : exec (.sealN opened widthMs) s = execSealN opened widthMs s := rfl
  rw [hexec, execSealN, if_neg (not_or.mpr ⟨by omega, hopen⟩), if_neg (not_not.mpr hen)]
  refine ⟨_, rfl, ?_, ?_⟩
  · obtain ⟨m, hm⟩ := writeSealedStatus_sealed (event (if opened = true then { s with sealed := { s.sealed with isOpen := opened, changed := false } }
      else (List.range 16).foldl withdrawRight { s with sealed := { s.sealed with isOpen := opened, changed := false } }) sealSrc 0xC002 (u8 (b2n opened)))
    refine (hm.trans ?_).trans (congrArg (fun x : Sealed => ({ s.sealed with isOpen := opened, changed := false, image := x.image } : Sealed)) hm.symm)
    dsimp only
    rw [event_sealed]
    split
    · rfl
    · rw [foldl_keeps State.sealed withdrawRight_sealed]
  · rintro rfl
    exact (writeSealedStatus_dict _).trans ((event_dict ..).trans (foldl_withdrawRight_dict _ rfl))

/-! #### The sample ports -/

theorem samplePort_updPort_same (s : State) (p : Nat) (f : SamplePort → SamplePort) :
    samplePort (updPort s p f) p = f (samplePort s p) := AMap.get_upd_same ..

theorem appendSample_sealed_congr {s t : State} (h : t.sealed = s.sealed) (p at_ w flags raw : Nat) :
    (appendSample t p at_ w flags raw).sealed = (appendSample s p at_ w flags raw).sealed := by
  have hport : samplePort t p = samplePort s p := congrArg (fun x : Sealed => AMap.get ({} : SamplePort) x.ports p) h
  simp only [appendSample, updPort, controllerWrite_sealed, h, hport]

theorem foldl_appendSample_sealed (p at_ flags : Nat) (raw : Nat → Nat) (l : List Nat) {s t : State} (h : t.sealed = s.sealed) :
    (l.foldl (fun s w => appendSample s p at_ w flags (raw w)) t).sealed = (l.foldl (fun s w => appendSample s p at_ w flags (raw w)) s).sealed := by
  induction l generalizing s t with
  | nil => exact h
  | cons w l ih =>
    rw [List.foldl_cons, List.foldl_cons]
    exact ih (appendSample_sealed_congr h p at_ w flags (raw w))

/-! #### The periodic check -/

theorem imageCheck_agrees {s : State} (hen : s.sealed.enabled = true) (h : ∀ p < 256, imageOk (storeCheck s) p = true) :
    exec .parameterImageCheck s = .next (if overwritten (storeCheck s) = [] then faultOver (undoWrites (storeCheck s))
      else event (faultOver (undoWrites (storeCheck s))) sealSrc 0xC008 (u8 0xFF)) := by
  have hnone : (List.range 256).find? (fun p => !imageOk (storeCheck s) p) = none :=
    List.find?_eq_none.mpr fun p hp => by simp [h p (List.mem_range.mp hp)]
  have hexec : exec .parameterImageCheck s = execParameterImageCheck s := rfl
  rw [hexec, execParameterImageCheck, if_neg (not_not.mpr hen)]
  dsimp only
  rw [hnone]

theorem imageCheck_differs {s : State} {p : Nat} (hen : s.sealed.enabled = true) (hp : p < 256) (h : imageOk (storeCheck s) p = false)
    (hfirst : ∀ q < p, imageOk (storeCheck s) q = true) :
    exec .parameterImageCheck s = .next (tableFault (undoWrites (storeCheck s)) p) := by
  have hsome : (List.range 256).find? (fun p => !imageOk (storeCheck s) p) = some p := by
    rw [List.find?_range_eq_some]
    exact ⟨by rw [h]; rfl, List.mem_range.mpr hp, fun q hq => by rw [hfirst q hq]; rfl⟩
  have hexec : exec .parameterImageCheck s = execParameterImageCheck s := rfl
  rw [hexec, execParameterImageCheck, if_neg (not_not.mpr hen)]
  dsimp only
  rw [hsome]

theorem sampleFrame_taken {p : Fin 8} {bits : List Bool} {s : State} {at_ : Nat} (hdue : (samplePort s p.val).due = some at_)
    (hon : portOn s p.val = true) (hlen : bits.length = field (portParam s p.val) 47 40)
    (htime : at_ + field (portParam s p.val) 31 16 * 100 + bits.length * (field (portParam s p.val) 55 48 + 1) * 5 ≤ s.tai)
    {stuck : Bool} (hstuck : (bits.all (· = true) || bits.all (· = false)) = stuck) :
    exec (.sampleFrame p bits) s = .next ((List.range (field (portParam s p.val) 39 38 + 1)).foldl (fun s' w =>
        appendSample s' p.val at_ w (b2n stuck) (msbWord ((bits.drop (w * field (portParam s p.val) 37 32)).take (field (portParam s p.val) 37 32))))
      (if stuck then event (updPort s p.val fun x => { x with due := none, faults := if stuck then satInc x.faults 0xFFFF else x.faults })
          (portSrc p.val) 0xC007 (u8 p.val ++ u64 at_)
        else updPort s p.val fun x => { x with due := none, faults := if stuck then satInc x.faults 0xFFFF else x.faults })) := by
  have hexec : exec (.sampleFrame p bits) s = execSampleFrame p bits s := rfl
  rw [hexec, execSampleFrame]
  dsimp only
  rw [hdue]
  dsimp only
  rw [hstuck, if_neg]
  rintro (h | h | h)
  · exact h hon
  · exact h hlen
  · rw [← hlen] at h
    omega

/-- Settles O42: each clause by the writes it makes in the sealed partition and by what the controller's areas leave of it. -/
theorem sealCommandsComplete : Obligations.SealCommandsComplete := by
  refine ⟨?_, ?_, ?_, ?_, ?_, ?_, ?_, ?_, ?_, ?_⟩
  · refine fun e ownerHash wrap hlen => rowCompletes_host (fun _ => rfl) fun s s1 who h => ?_
    rw [writeAnswered, respond_sealed, written_wo (by decide) (by decide) row_sealProvision rfl rfl]
    exact ⟨rfl, List.take_left' hlen, rfl, rfl, rfl, rfl⟩
  · refine fun e param v c => rowCompletes_host (fun _ => rfl) fun s s1 who h => ?_
    rw [writeAnswered, respond_sealed, written_wo (by decide) (by decide) row_sealParamWrite rfl rfl]
    obtain ⟨m, i, hsealed⟩ := setParam_sealed s1 who param.toNat (BitVec.ofNat 64 (paramKept param.toNat v.toNat))
    have happly := sealParam_apply s1 who (s1.bytesOf 0x7024 0) param v c
    have hlate (s : State) (v : List Byte) : actSealParam.late s v 0 = s := rfl
    rw [hlate, happly, hsealed]
    exact ⟨_, rfl, rfl, rfl, rfl, rfl, _, rfl, rfl, rfl, rfl, rfl⟩
  · refine fun e wrap => rowCompletes_host (fun _ => rfl) fun s s1 who h => ?_
    have hmet := (h.met (by decide) (by decide) row_sealKey).value
    rw [storedForm_whole rfl rfl] at hmet
    have hsome : (unwrapBy s1 who wrap).isSome = true := need_none (firstOf_none hmet _ (List.mem_cons_self ..))
    have hwrap : some ((unwrapBy s1 who wrap).getD []) = unwrapBy s1 who wrap := by
      obtain ⟨k, hk⟩ := Option.isSome_iff_exists.mp hsome
      rw [hk, Option.getD_some]
    rw [writeAnswered, respond_sealed, written_wo (by decide) (by decide) row_sealKey rfl rfl]
    obtain ⟨v, w, f, m, i, hsealed⟩ := sealKey_sealed s1 who (s1.bytesOf 0x7008 0) wrap
    have hlate (s : State) (v : List Byte) : actSealKey.late s v 0 = s := rfl
    rw [hlate, hsealed]
    exact ⟨rfl, rfl, rfl, who, _, hwrap, rfl, rfl⟩
  · refine fun e channel v => rowCompletes_host (fun _ => rfl) fun s s1 who h => ⟨_, rfl, ?_⟩
    rw [writeAnswered, respond_sealed, respond_pan, written_wo (by decide) (by have := channel.isLt; omega) (row_sealCommand channel) rfl rfl]
    have hlate (s : State) (v : List Byte) : (actSealCommand channel.val).late s v 0 = s := rfl
    rw [hlate]
    exact sealCommand_writes channel.val s1 who _ (u32 v.toNat)
  · exact sealN_level
  · intro opened widthMs s hen hw hopen
    have hexec : exec (.sealN opened widthMs) s = execSealN opened widthMs s := rfl
    rw [hexec, execSealN, if_neg (not_or.mpr ⟨by omega, hopen⟩), if_pos (by rw [hen]; exact Bool.false_ne_true)]
  · intro s hen h
    rw [imageCheck_agrees hen h]
    refine ⟨fun hnone => ?_, fun hsome => ?_⟩
    · rw [if_pos hnone, undoWrites_nothing hnone]
    · rw [if_neg hsome]
  · intro s p hen hp h hfirst
    obtain ⟨htable, hstore⟩ := tableFault_records (undoWrites (storeCheck s)) p
    rw [undoWrites_sealed, storeCheck_store] at htable hstore
    exact ⟨imageCheck_differs hen hp h hfirst, htable, hstore⟩
  · intro p s hon hsync
    have hexec : exec (.sampleSync p) s = execSampleSync p s := rfl
    rw [hexec, execSampleSync, if_neg (not_or.mpr ⟨not_not.mpr hon, by omega⟩)]
    refine ⟨_, rfl, ?_, rfl⟩
    exact congrArg SamplePort.due (samplePort_updPort_same ..)
  · intro p bits s at_ hdue hon hlen htime
    refine ⟨fun hones hzeros => ?_, fun hstuck => ⟨_, sampleFrame_taken hdue hon hlen htime (stuck := true) ?_, ?_⟩⟩
    · have h := sampleFrame_taken hdue hon hlen htime (stuck := false) (by rw [hones, hzeros]; rfl)
      simpa only [Bool.false_eq_true, if_false, show b2n false = 0 from rfl] using h
    · rcases hstuck with h | h <;> simp only [h, Bool.true_or, Bool.or_true]
    · simp only [if_true, show b2n true = 1 from rfl]
      exact foldl_appendSample_sealed _ _ 1 _ _ (event_sealed ..)

end Sys2Proof.Machine
end

section
/-! PROOFS. O43: mode commands and orderly stop complete. -/

namespace Sys2Proof.Machine

/-! #### What each mode command leaves of the mode -/

theorem Links.keepsMode {ps : List Part} {s t : State} (h : Links (.wide ps) s t) (hp : Part.power ∉ ps := by decide) : t.mode = s.mode :=
  congrArg Power.mode (h.keeps .power hp)

theorem leaveHold_mode (s : State) : (leaveHold s).mode = .run := by
  have hgrant (s : State) : (grantAll s).mode = s.mode := (grantAll_links (sc := .wide [.grants, .teams, .board, .obs]) s (by simp)).keepsMode
  have hedges (s : State) (n : Nat) (c : Prop) [Decidable c] : (if c then resumeEdges s n else s).mode = s.mode := by
    split
    · exact (resumeEdges_links (sc := .wide [.grants, .teams, .cap, .board, .obs]) s n (by simp)).keepsMode
    · rfl
  rw [leaveHold, hgrant, event_mode, hedges, setMode_mode]

theorem wake_mode (s : State) (source : Nat) : (wake s source).mode = .run := by
  have hlanes (s : State) : (chainLanesOn (resumeLanes s)).mode = s.mode :=
    (chainLanesOn_links (sc := .wide [.lanes]) _ (by simp)).keepsMode.trans (resumeLanes_links (sc := .wide [.lanes]) s (by simp)).keepsMode
  have hbanks (s : State) : (banksOn s).mode = s.mode := (banksOn_links (sc := .wide [.banks, .board, .obs]) s (by simp)).keepsMode
  unfold wake
  dsimp only
  rw [hlanes, hbanks, setMode_mode]

theorem enterHold_mode (s : State) : (enterHold s).mode = .hold := by rw [enterHold, event_mode, setMode_mode]

theorem enterStable_mode (s : State) : (enterStable s).mode = .stable := setMode_mode ..

theorem enterService_mode (s : State) : (enterService s).mode = .service := setMode_mode ..

theorem request_power (s : State) (kind init addr len cls : Nat) (data : List Byte) (use : TxnUse) (gt : Bool) :
    (request s kind init addr len cls data use gt).power = s.power :=
  (request_links (sc := .wide [.noc, .board, .obs]) s kind init addr len cls data use gt (by simp)).keeps .power

theorem beginStop_power (s : State) (host : Bool) (sensor us : Nat) : ∃ drain, (beginStop s host sensor us).power =
    { s.power with stop := some { at_ := s.now, step := if s.mode = .stable then 1 else 0, host := host, drain := drain, stepAt := s.now } } := by
  have hask (s : State) (c : Prop) [Decidable c] (a tai : Nat) :
      (if c then s else request s 0x02 0x41 a 8 1 (u64 tai) .notify false).power = s.power := by
    split
    · rfl
    · exact request_power ..
  unfold beginStop
  dsimp only
  rw [hask, event_power]
  simp only [decide_eq_true_eq]
  exact ⟨_, rfl⟩

theorem resumeNow_starts (s : State) (auto : Bool) : (resumeNow s auto).mode = .startUp ∧ (resumeNow s auto).boot.phase = 4 ∧
    (resumeNow s auto).boot.cause = 2 := by
  unfold resumeNow
  generalize event _ _ _ _ = s'
  obtain ⟨hmode, hphase, hcause, -, -⟩ := enterCal_starts s' 2
  exact ⟨hmode, hphase, hcause⟩

theorem noteResume_power (s : State) : ∃ x, (noteResume s).power = { s.power with resumeOkAt := x } := by
  unfold noteResume
  split
  · exact ⟨_, rfl⟩
  · exact ⟨s.power.resumeOkAt, rfl⟩

theorem noteResume_enterSafeStop (s : State) (cause : Nat) : (noteResume (enterSafeStop s cause)).mode = .safeStop ∧
    (noteResume (enterSafeStop s cause)).power.stop = none ∧ (noteResume (enterSafeStop s cause)).power.lastCause = cause := by
  obtain ⟨hmode, hcause⟩ := enterSafeStop_stops s cause
  have hstop := enterSafeStop_stop s cause
  generalize enterSafeStop s cause = t at hmode hcause hstop ⊢
  obtain ⟨x, hnote⟩ := noteResume_power t
  refine ⟨(congrArg Power.mode hnote).trans hmode, ?_, ?_⟩
  · rw [hnote, hstop]
  · rw [hnote, hcause]

/-! #### MODE_CMD -/

/-- The conditions under which a MODE_CMD of code v goes. -/
theorem modeCommand_state {s s1 : State} {e : Env} {who : Requester} {v : Byte} (h : WriteGoes s e false (wholeWrite 0x6001 0 [v]) actMode s1 who) :
    (v = 1 → s1.mode = .hold ∨ s1.mode = .stable) ∧ (v = 2 → s1.mode = .run) ∧ (v = 3 ∨ v = 4 → s1.mode = .run ∨ s1.mode = .hold) ∧
      (v = 6 → resumable s1 = true) ∧ (v = 7 → s1.mode = .service) := by
  have hmet := (h.met (by decide) (by decide) row_modeHold).state
  rw [storedForm_whole rfl rfl] at hmet
  have hall (x : Option Nat) (hx : x ∈ _) := firstOf_none hmet x hx
  simp only [List.forall_mem_cons] at hall
  obtain ⟨-, hrun, hhold, hstop, -, hresume, hrestart, -⟩ := hall
  have of_need {p : Prop} [Decidable p] {c : Nat} (hp : need (decide p) c = none) : p := of_decide_eq_true (need_none hp)
  refine ⟨?_, ?_, ?_, ?_, ?_⟩
  · rintro rfl
    exact ((of_need hrun).resolve_left (not_not.mpr rfl)).1
  · rintro rfl
    exact ((of_need hhold).resolve_left (not_not.mpr rfl)).1
  · intro hv
    have hfree := ((of_need hstop).resolve_left (by rcases hv with rfl | rfl <;> decide)).1
    simpa [State.runOrHold] using hfree
  · rintro rfl
    exact (of_need hresume).resolve_left (not_not.mpr rfl)
  · rintro rfl
    exact (of_need hrestart).resolve_left (not_not.mpr rfl)

/-- Settles O43: each command of MODE_CMD by the mode that it needs and the one it sets; each step of a stop by its own act. -/
theorem modeCommandsComplete : Obligations.ModeCommandsComplete := by
  have hwritten (s1 : State) (who : Requester) (v : Byte) : written s1 who false (wholeWrite 0x6001 0 [v]) actMode =
      actMode.apply s1 who (s1.bytesOf 0x6001 0) [v] := written_wo (by decide) (by decide) row_modeHold rfl rfl
  refine ⟨?_, ?_, ?_, ?_, ?_, ?_, ?_, ?_, ?_, ?_, ?_, ?_, ?_, ?_, ?_⟩
  · refine fun e => rowCompletes_host (fun _ => rfl) fun s s1 who h => ⟨?_, (modeCommand_state h).1 rfl⟩
    have happly : actMode.apply s1 who (s1.bytesOf 0x6001 0) [1] = if s1.mode = .hold then leaveHold s1 else wake s1 0 := by
      simp only [actMode, show leNat [(1 : Byte)] = 1 from rfl]
    rw [writeAnswered, respond_mode, hwritten, happly]
    split
    · exact leaveHold_mode s1
    · exact wake_mode s1 0
  · refine fun e => rowCompletes_host (fun _ => rfl) fun s s1 who h => ⟨?_, (modeCommand_state h).2.1 rfl⟩
    have happly : actMode.apply s1 who (s1.bytesOf 0x6001 0) [2] = enterHold s1 := by
      simp only [actMode, show leNat [(2 : Byte)] = 2 from rfl]
    rw [writeAnswered, respond_mode, hwritten, happly, enterHold_mode]
  · refine fun e => rowCompletes_host (fun _ => rfl) fun s s1 who h => ⟨?_, (modeCommand_state h).2.2.1 (.inl rfl)⟩
    have happly : actMode.apply s1 who (s1.bytesOf 0x6001 0) [3] = enterStable s1 := by
      simp only [actMode, show leNat [(3 : Byte)] = 3 from rfl]
    rw [writeAnswered, respond_mode, hwritten, happly, enterStable_mode]
  · refine fun e => rowCompletes_host (fun _ => rfl) fun s s1 who h => ⟨?_, (modeCommand_state h).2.2.1 (.inr rfl)⟩
    have happly : actMode.apply s1 who (s1.bytesOf 0x6001 0) [4] = enterService s1 := by
      simp only [actMode, show leNat [(4 : Byte)] = 4 from rfl]
    rw [writeAnswered, respond_mode, hwritten, happly, enterService_mode]
  · refine fun e => rowCompletes_host (fun _ => rfl) fun s s1 who h => ?_
    have happly : actMode.apply s1 who (s1.bytesOf 0x6001 0) [5] = beginStop s1 true 0 0 := by
      simp only [actMode, show leNat [(5 : Byte)] = 5 from rfl]
    obtain ⟨drain, hpower⟩ := beginStop_power s1 true 0 0
    rw [writeAnswered, respond_mode, State.mode, respond_power, hwritten, happly, hpower]
    exact ⟨rfl, _, rfl, rfl, rfl, rfl⟩
  · refine fun e => rowCompletes_host (fun _ => rfl) fun s s1 who h => ?_
    have happly : actMode.apply s1 who (s1.bytesOf 0x6001 0) [6] = resumeNow s1 false := by
      simp only [actMode, show leNat [(6 : Byte)] = 6 from rfl]
    obtain ⟨hmode, hphase, hcause⟩ := resumeNow_starts s1 false
    have hresumable : resumable s1 = true := (modeCommand_state h).2.2.2.1 rfl
    have hstopped : s1.mode = .safeStop := by
      simp only [resumable, Bool.and_eq_true, decide_eq_true_eq] at hresumable
      simp only [hresumable]
    rw [writeAnswered, respond_mode, respond_boot, hwritten, happly]
    exact ⟨hmode, hphase, hcause, hstopped⟩
  · refine fun e => rowCompletes_host (fun _ => rfl) fun s s1 who h => ?_
    have happly : actMode.apply s1 who (s1.bytesOf 0x6001 0) [7] = enterCal s1 1 := by
      simp only [actMode, show leNat [(7 : Byte)] = 7 from rfl]
    obtain ⟨hmode, hphase, hcause, -, -⟩ := enterCal_starts s1 1
    rw [writeAnswered, respond_mode, respond_boot, hwritten, happly]
    exact ⟨hmode, hphase, hcause, (modeCommand_state h).2.2.2.2 rfl⟩
  · intro widthNs s hmode hwidth hpin
    exact congrArg Host.Outcome.next (if_pos ⟨hmode, hwidth, hpin⟩)
  · intro s hmode hset htime
    exact congrArg Host.Outcome.next (if_pos ⟨hmode, hset, htime⟩)
  · intro s hstop
    exact congrArg Host.Outcome.next (if_pos hstop)
  · intro s hstop
    exact congrArg Host.Outcome.next (if_pos hstop)
  · intro s hstop hmode
    exact (congrArg Host.Outcome.next (if_pos hstop)).trans (congrArg (fun t => Host.Outcome.next (nextStop t 3)) (if_neg hmode))
  · intro s hstop hmode
    exact (congrArg Host.Outcome.next (if_pos hstop)).trans (congrArg (fun t => Host.Outcome.next (nextStop t 3)) (if_pos hmode))
  · intro s hstop hdone
    have hgoing : ((List.range 16).any fun t => (s.team t).fallback.isSome) = false := by
      rw [List.any_eq_false]
      intro n hn
      rw [hdone n (List.mem_range.mp hn)]
      exact Bool.false_ne_true
    have hexec : exec .safeStopEntry s = execSafeStopEntry s := rfl
    rw [hexec, execSafeStopEntry, hgoing, if_pos ⟨hstop, Bool.false_ne_true⟩]
    obtain ⟨hmode, hstopped, hcause⟩ := noteResume_enterSafeStop s (if s.power.stop.any (·.host) then 3 else 2)
    exact ⟨_, rfl, rfl, hmode, hstopped, hcause⟩
  · intro s u at_ hu hauto hresumable hcause hok helapsed hrecent
    have hexec : exec .autoResume s = execAutoResume s := rfl
    rw [hexec, execAutoResume, ← hu]
    dsimp only
    rw [hok]
    dsimp only
    rw [if_pos ⟨hauto, hresumable, hcause, helapsed, hrecent⟩]
    exact ⟨_, rfl, resumeNow_starts ..⟩

end Sys2Proof.Machine
end

section
/-! PROOFS. O44: sensor and gait commands complete. -/

namespace Sys2Proof.Machine

/-! #### A sensor changed, and the gaits -/

theorem sensor_updSensor_same (s : State) (n : Nat) (f : Sensor → Sensor) : (updSensor s n f).sensor n = f (s.sensor n) := AMap.get_upd_same ..

theorem updateGaits_wait (s : State) : (updateGaits s).power.gaitWait = false := by
  have hgrant (s : State) : (regrant s).power = s.power :=
    (regrant_links (sc := .wide [.grants, .teams, .cap, .board, .obs]) s (by simp)).keeps .power
  unfold updateGaits
  dsimp only
  rw [hgrant]

theorem sensorExcluded_takes {n : Fin 288} {s : State} {at_ : Nat} (hfar : (s.sensor n.val).farAt = some at_)
    (hexcluded : (s.sensor n.val).excluded = false) (hoff : sensorOff s n.val = false) (henough : 3 ≤ (usableReadings s n.val).length)
    (htime : s.elapsed at_ 50000000 = true) : ∃ t, exec (.sensorExcluded n) s = .next t ∧ (t.sensor n.val).excluded = true ∧
      (t.sensor n.val).reading = medianInt (usableReadings s n.val) := by
  have hgo : ¬ ((s.sensor n.val).excluded ∨ sensorOff s n.val ∨ (usableReadings s n.val).length < 3 ∨ ¬ s.elapsed at_ 50000000) := by
    simp only [hexcluded, hoff, htime, not_or, Bool.false_eq_true, not_false_eq_true, not_true_eq_false, true_and, and_true]
    omega
  have hexec : exec (.sensorExcluded n) s = execSensorExcluded n s := rfl
  rw [hexec, execSensorExcluded]
  dsimp only
  rw [hfar]
  dsimp only
  rw [if_neg hgo]
  refine ⟨_, rfl, ?_⟩
  rw [State.sensor, event_power]
  exact ⟨congrArg Sensor.excluded (sensor_updSensor_same ..), congrArg Sensor.reading (sensor_updSensor_same ..)⟩

theorem sensorReadmitted_takes {n : Fin 288} {s : State} {at_ : Nat} (hnear : (s.sensor n.val).nearAt = some at_)
    (hexcluded : (s.sensor n.val).excluded = true) (hoff : sensorOff s n.val = false) (hoffset : offsetDegraded s n.val = false)
    (htime : s.elapsed at_ 1000000000 = true) : ∃ t, exec (.sensorReadmitted n) s = .next t ∧
      t.power.sensors = AMap.upd {} s.power.sensors n.val fun x => { x with excluded := false, nearAt := none, reading := ownReading s n.val } := by
  have hgo : ¬ (¬ (s.sensor n.val).excluded ∨ sensorOff s n.val ∨ offsetDegraded s n.val ∨ ¬ s.elapsed at_ 1000000000) := by
    simp [hexcluded, hoff, hoffset, htime]
  have hexec : exec (.sensorReadmitted n) s = execSensorReadmitted n s := rfl
  rw [hexec, execSensorReadmitted]
  rw [hnear]
  dsimp only
  rw [if_neg hgo]
  refine ⟨_, rfl, ?_⟩
  rw [event_power]
  rfl

theorem readsLowFlag_sets {n : Fin 288} {s : State} {x : Int} (hx : estimateOf s n.val = some x) (hlow : (s.sensor n.val).readsLow = false)
    (htime : (s.sensor n.val).lowAt.any (fun at_ => s.elapsed at_ 100000000) = true) :
    ∃ t, exec (.readsLowFlag n) s = .next t ∧ (t.sensor n.val).readsLow = true := by
  have hexec : exec (.readsLowFlag n) s = execReadsLowFlag n s := rfl
  rw [hexec, execReadsLowFlag]
  dsimp only
  rw [hx]
  dsimp only
  rw [if_pos ⟨by rw [hlow]; exact Bool.false_ne_true, htime⟩]
  refine ⟨_, rfl, ?_⟩
  rw [State.sensor, event_power]
  exact congrArg Sensor.readsLow (sensor_updSensor_same ..)

theorem readsLowFlag_clears {n : Fin 288} {s : State} {x : Int} (hx : estimateOf s n.val = some x) (hlow : (s.sensor n.val).readsLow = true)
    (htime : (s.sensor n.val).okAt.any (fun at_ => s.elapsed at_ 1000000000) = true) :
    exec (.readsLowFlag n) s = .next (updSensor s n.val fun x => { x with readsLow := false }) := by
  have hexec : exec (.readsLowFlag n) s = execReadsLowFlag n s := rfl
  rw [hexec, execReadsLowFlag]
  dsimp only
  rw [hx]
  dsimp only
  rw [if_neg fun h => h.1 hlow, if_pos ⟨hlow, htime⟩]

/-- Settles O44: each clause by the conditions of its command, and a floor written between boundaries waits for the next. -/
theorem sensorCommandsComplete : Obligations.SensorCommandsComplete := by
  refine ⟨fun raw powerMw s => rfl, fun n s at_ => sensorExcluded_takes, fun n s at_ => sensorReadmitted_takes,
    fun n s x hx => ⟨readsLowFlag_sets hx, readsLowFlag_clears hx⟩, ?_, ?_, ?_⟩
  · intro tower s hb hcrossed hstep
    refine if_neg ?_
    rintro (h | h | ⟨h, -⟩)
    · exact h hb
    · exact h hcrossed
    · exact h hstep
  · intro tower s hb hcrossed hclear hthermal htime
    refine if_neg ?_
    rintro (h | h | h | h | h)
    · exact h hb
    · exact absurd (hcrossed.symm.trans h) Bool.false_ne_true
    · exact hclear h
    · exact hthermal h
    · exact h htime
  · refine fun e v => rowCompletes_host (fun _ => rfl) fun s s1 who h => ?_
    rw [writeAnswered, respond_power, written_rw (by decide) (by decide) row_gaitFloorWrite rfl rfl rfl]
    have happly (s : State) : actGait.apply s who (s1.bytesOf 0x6B30 2) [v] = if s.atBoundary then updateGaits s else { s with power.gaitWait := true } := rfl
    have hboundary : (s1.putObj 0x6B30 2 [v]).atBoundary = s1.atBoundary := rfl
    have hlate (s : State) (v : List Byte) : actGait.late s v 0 = s := rfl
    rw [hlate, happly, hboundary]
    refine ⟨fun hb => ?_, fun hb => ?_⟩
    · rw [if_neg (by rw [hb]; exact Bool.false_ne_true)]
      rfl
    · rw [if_pos hb, updateGaits_wait]

end Sys2Proof.Machine
end

section
/-! PROOFS. O45: supply, power-pin and clock-loss commands complete. -/

namespace Sys2Proof.Machine

/-! #### What Safe Stop leaves of the mode, its cause and the board's notes -/

theorem immediate_stops (s : State) (cause : Nat) :
    (immediate s cause).mode = .safeStop ∧ (s.mode ≠ .safeStop → (immediate s cause).power.lastCause = cause) := by
  unfold immediate
  split
  next h => exact ⟨h, absurd h⟩
  · exact ⟨(enterSafeStop_stops s cause).1, fun _ => (enterSafeStop_stops s cause).2⟩

theorem immediate_dramLost {s : State} (h : s.board.dramLost = true) (cause : Nat) : (immediate s cause).board.dramLost = true := by
  have hmove := (immediate_links (sc := .of [.outs, .freeCtr, .obj, .clk, .fab, .edge, .planes, .grants, .teams, .cap, .loader, .chain,
    .noc, .wale, .dram, .ecc, .crypt, .banks, .pins, .lanes, .power, .board, .test, .obs]) s cause (by simp) trivial).moves.dramLost
  exact hmove.elim (·.trans h) fun h => h.resolve_right id

theorem excursion_power (s : State) (n : Nat) (mv : Int) : (excursion s n mv).power = s.power :=
  (excursion_links (sc := .wide [.board, .obs]) s n mv (by simp)).keeps .power

theorem measured_power (s : State) (n : Nat) (mv : Int) (ok : Bool) : (measured s n mv ok).power = s.power := rfl

theorem not_beyond {mv hi : Int} (hlow : -300 ≤ mv) (hhigh : mv ≤ hi) : ¬ beyond mv hi = true := by
  simp only [beyond, Bool.or_eq_true, decide_eq_true_eq]
  omega

theorem noteResume_mode (s : State) : (noteResume s).mode = s.mode := by
  obtain ⟨x, h⟩ := noteResume_power s
  rw [State.mode, h, State.mode]

theorem noteResume_lastCause (s : State) : (noteResume s).power.lastCause = s.power.lastCause := by
  obtain ⟨x, h⟩ := noteResume_power s
  rw [h]

theorem noteResume_board (s : State) : (noteResume s).board = s.board := (noteResume_links (sc := .wide [.power]) s (by simp)).keeps .board

/-! #### The supplies out of their ranges -/

theorem safeN_low {widthNs : Nat} {s u : State} (hw : 1000 ≤ widthNs) (ha : s.available = true)
    (hu : u = usePair { s with power := { s.power with safeLowOutside := true } } 0x6002 4) :
    (s.mode ≠ .safeStop → u.num 0x6002 4 = 1 → ∃ t, exec (.safeN true widthNs) s = .next t ∧ t.mode = .safeStop ∧ t.power.lastCause = 4) ∧
      (s.mode = .safeStop ∨ u.num 0x6002 4 ≠ 1 → exec (.safeN true widthNs) s = .next (noteResume u)) := by
  have hgo : ¬ (widthNs < 1000 ∨ ¬ s.available) := not_or.mpr ⟨by omega, not_not.mpr ha⟩
  have hexec : exec (.safeN true widthNs) s = execSafeN true widthNs s := rfl
  rw [hexec, execSafeN, if_neg (not_not.mpr rfl), if_neg hgo]
  dsimp only
  rw [← hu]
  refine ⟨fun hmode hset => ?_, fun hnot => if_neg fun h => ?_⟩
  · rw [if_pos ⟨hmode, hset⟩]
    obtain ⟨hstop, hcause⟩ := enterSafeStop_stops (event u modeSrc 0x9010 []) 4
    exact ⟨_, rfl, (noteResume_mode _).trans hstop, (noteResume_lastCause _).trans hcause⟩
  · exact hnot.elim h.1 fun hne => hne h.2

theorem vinCore_outOfRange {mv : Int} {widthNs : Nat} {s : State} (hlow : -300 ≤ mv) (hhigh : mv ≤ 2100) (hout : mv < 1700 ∨ 1900 < mv)
    (hw : 10000 ≤ widthNs) (hphase : s.boot.phase ≠ 0) : ∃ t, exec (.vinCoreOutOfRange mv widthNs) s = .next t ∧ t.mode = .safeStop ∧
      (s.mode ≠ .safeStop → t.power.lastCause = 5) := by
  have hgo : ¬ ((1700 ≤ mv ∧ mv ≤ 1900) ∨ widthNs < 10000 ∨ s.boot.phase = 0) := by omega
  have hexec : exec (.vinCoreOutOfRange mv widthNs) s = execVinCoreOutOfRange mv widthNs s := rfl
  rw [hexec, execVinCoreOutOfRange, if_neg (not_beyond hlow hhigh)]
  dsimp only
  rw [if_neg hgo]
  generalize hx : excursion _ 0 mv = x
  have hpower : x.power = s.power := by rw [← hx, excursion_power, event_power, measured_power]
  obtain ⟨hmode, hcause⟩ := immediate_stops x 5
  refine ⟨_, rfl, (noteResume_mode _).trans hmode, fun hs => (noteResume_lastCause _).trans (hcause ?_)⟩
  rwa [State.mode, hpower]

theorem vauxLow_asserts {mv : Int} {widthNs : Nat} {s : State} (hlow : -300 ≤ mv) (hout : mv < 1620) (hw : 1000 ≤ widthNs) :
    ∃ t, exec (.vauxLow mv widthNs) s = .next t ∧ t.mode = .startUp ∧ t.boot.phase = 0 ∧ t.boot.suppliesReached = false ∧
      t.obj = [] ∧ t.fuses = s.fuses := by
  have hgo : ¬ (1620 ≤ mv ∨ widthNs < 1000) := by omega
  have hboot (s : State) : (setMode s .startUp 0).boot = s.boot := setMode_same s _ 0 .boot
  have hobj (s : State) : (setMode s .startUp 0).obj = s.obj := setMode_same s _ 0 .obj
  have hfuses (s : State) : (setMode s .startUp 0).fuses = s.fuses := setMode_same s _ 0 .fuses
  have hexec : exec (.vauxLow mv widthNs) s = execVauxLow mv widthNs s := rfl
  rw [hexec, execVauxLow, if_neg (not_beyond hlow (by omega))]
  dsimp only
  rw [if_neg hgo]
  refine ⟨_, rfl, setMode_mode .., ?_⟩
  simp only [assertPorst, hboot, hobj, hfuses]
  exact ⟨trivial, trivial, rfl, trivial⟩

theorem vdramVpp_outOfRange {vpp : Bool} {mv : Int} {widthNs : Nat} {s : State} (hbeyond : ¬ beyond mv (if vpp then 2100 else 1400) = true)
    (hout : (if vpp then decide (1710 ≤ mv ∧ mv ≤ 1890) else decide (1067 ≤ mv ∧ mv ≤ 1133)) = false) (hw : 10000 ≤ widthNs)
    (hphase : s.boot.phase ≠ 0) :
    ∃ t, exec (.vdramVppOutOfRange vpp mv widthNs) s = .next t ∧ t.mode = .safeStop ∧ t.board.dramLost = true := by
  have hexec : exec (.vdramVppOutOfRange vpp mv widthNs) s = execVdramVppOutOfRange vpp mv widthNs s := rfl
  rw [hexec, execVdramVppOutOfRange]
  dsimp only
  rw [if_neg hbeyond, if_neg (by rw [hout, not_or, not_or]; exact ⟨Bool.false_ne_true, by omega, hphase⟩)]
  generalize hx : excursion _ (if vpp then 2 else 1) mv = x
  have hlost : x.board.dramLost = true := by
    rw [← hx, excursion, recordAt_dramLost]
  refine ⟨_, rfl, (noteResume_mode _).trans (immediate_stops x 5).1, ?_⟩
  rw [noteResume_board]
  exact immediate_dramLost hlost 5

/-- Settles O45: each supply by its range, its time and its absolute maximum. -/
theorem supplyCommandsComplete : Obligations.SupplyCommandsComplete := by
  refine ⟨fun widthNs s u hw ha hu => safeN_low hw ha hu, ?_, ?_, ?_, ?_, ?_, ?_, ?_, ?_, ?_⟩
  · intro widthNs s
    have hexec : exec (.safeN false widthNs) s = execSafeN false widthNs s := rfl
    rw [hexec, execSafeN, if_pos Bool.false_ne_true]
    refine ⟨_, rfl, ?_, noteResume_mode _⟩
    obtain ⟨x, h⟩ := noteResume_power { s with power := { s.power with
      safeLowOutside := false, safeHighAt := if s.power.safeLowOutside then s.now else s.power.safeHighAt } }
    rw [h]
  · intro mv widthNs s hlow hhigh hok
    exact (if_neg (not_beyond hlow hhigh)).trans (if_pos hok)
  · exact fun mv widthNs s => vinCore_outOfRange
  · intro mv widthNs s hlow hhigh hok
    exact (if_neg (not_beyond hlow hhigh)).trans (if_pos hok)
  · exact fun mv widthNs s => vauxLow_asserts
  · refine fun mv widthNs s hlow => ⟨fun hhigh hout hw hphase => ?_, fun hhigh hout hw hphase => ?_, fun hmin hmax => ?_⟩
    · exact vdramVpp_outOfRange (not_beyond hlow hhigh) (by simp; omega) hw hphase
    · exact vdramVpp_outOfRange (not_beyond hlow hhigh) (by simp; omega) hw hphase
    · have hexec : exec (.vdramVppOutOfRange false mv widthNs) s = execVdramVppOutOfRange false mv widthNs s := rfl
      have hok : decide (1067 ≤ mv ∧ mv ≤ 1133) = true := decide_eq_true ⟨hmin, hmax⟩
      have hbeyond : ¬ beyond mv 1400 = true := not_beyond hlow (by omega)
      simp only [hexec, execVdramVppOutOfRange, Bool.false_eq_true, if_false, hok, hbeyond, true_or, if_true]
  · refine fun mv widthNs s hlow => ⟨fun hhigh hout hw hphase => ?_, fun hhigh hout hw hphase => ?_⟩
    · have hexec : exec (.vlaneOutOfRange true mv widthNs) s = execVlaneOutOfRange true mv widthNs s := rfl
      have hok : decide (1164 ≤ mv ∧ mv ≤ 1236) = false := decide_eq_false (by omega)
      have hbeyond : ¬ beyond mv 1500 = true := not_beyond hlow hhigh
      have hgo : ¬ (widthNs < 10000 ∨ s.boot.phase = 0) := by omega
      simp only [hexec, execVlaneOutOfRange, if_true, hok, hbeyond, hgo, Bool.false_eq_true, if_false, or_false]
    · have hexec : exec (.vlaneOutOfRange false mv widthNs) s = execVlaneOutOfRange false mv widthNs s := rfl
      have hok : decide (873 ≤ mv ∧ mv ≤ 927) = false := decide_eq_false (by omega)
      have hbeyond : ¬ beyond mv 1100 = true := not_beyond hlow hhigh
      have hgo : ¬ (widthNs < 10000 ∨ s.boot.phase = 0) := by omega
      simp only [hexec, execVlaneOutOfRange, hok, hbeyond, hgo, Bool.false_eq_true, if_false, or_false]
  · intro b mv widthNs s hlow hhigh
    have hexec : exec (.vccioOutOfRange b mv widthNs) s = execVccioOutOfRange b mv widthNs s := rfl
    have hkeep (s : State) (n : Nat) : (excursion s n mv).banks = s.banks :=
      (excursion_links (sc := .wide [.board, .obs]) s n mv (by simp)).keeps .banks
    rw [hexec, execVccioOutOfRange]
    dsimp only
    rw [if_neg (not_beyond hlow hhigh)]
    refine ⟨_, rfl, fun hw => if_pos (.inr (.inl hw)), fun hneg hw hphase hstd => ?_⟩
    rw [if_neg, hkeep]
    rintro (h | h | h | h)
    · simp only [Bool.and_eq_true, decide_eq_true_eq] at h
      omega
    · omega
    · omega
    · exact hstd h
  · intro s hphase hmode
    have hexec : exec .rootPllLockLoss s = execRootPllLockLoss s := rfl
    rw [hexec, execRootPllLockLoss, if_neg (not_or.mpr ⟨by omega, hmode⟩)]
    dsimp only
    generalize hx : event _ modeSrc 0x900F _ = x
    obtain ⟨hstop, hcause⟩ := enterSafeStop_stops x 6
    refine ⟨_, rfl, hstop, hcause, ?_⟩
    rw [enterSafeStop_clk, ← hx, event_clk]

end Sys2Proof.Machine
end

section
/-! PROOFS. O46: repair, calibration, test and JTAG commands complete. -/

namespace Sys2Proof.Machine

/-! #### A pair's own conditions, and the tests' effects on the test record -/

theorem WriteGoes.pairState {s s1 : State} {e : Env} {who : Requester} {idx sub : Nat} {v k : List Byte} {a : Action} {r : ObjRow}
    (h : WriteGoes s e true (pairWrite idx sub v k) a s1 who) (hi : idx < 65536) (hs : sub < 256) (hr : rowOf idx sub = some r) :
    ∃ f, a.state s1 who f = none := by
  have hchecked := h.checked
  unfold writeCheck at hchecked
  simp only [pairWrite, BitVec.toNat_ofNat, Nat.mod_eq_of_lt hi, Nat.mod_eq_of_lt hs, Nat.reducePow, hr] at hchecked
  split at hchecked
  · cases hchecked
  next haccess =>
  split at hchecked
  · cases hchecked
  next hstate => exact ⟨_, firstOf_none hstate _ (.tail _ (.head _))⟩

theorem testBegins_test (s : State) (kind target : Nat) : (testBegins s kind target).test = s.test :=
  (testBegins_links (sc := .wide [.freeCtr, .obj, .fab, .edge, .planes, .frames, .cap, .noc, .wale, .pan, .dram, .ecc, .crypt, .board, .obs])
    s kind target (by simp) trivial (fun _ => trivial)).keeps .test

/-! #### Repair, calibration and tests -/

/-- The tower of a stake group. -/
def groupTower : StakeGroup → Nat
  | .cluster x _ => towerOf x.val
  | .tower x _ _ => x.val

theorem stakeMonitorError_counts {g : StakeGroup} {vias : List (Fin 81)} {s : State} {at_ : AMap Nat} (hmon : monitored s g = true)
    (hfailed : groupFailed s (groupKey g) = false) (hat : at_ = AMap.set 0 s.test.monAt (groupTower g) (s.now + 1)) :
    (((AMap.get [] s.test.monErr (groupKey g)).filter fun x => !s.elapsed x 1000000).length < 2 →
      exec (.stakeMonitorError g vias) s = .next { s with test := { s.test with
        monAt := at_,
        monErr := AMap.set [] s.test.monErr (groupKey g)
          (((AMap.get [] s.test.monErr (groupKey g)).filter fun x => !s.elapsed x 1000000) ++ [s.now]) } }) ∧
    (2 ≤ ((AMap.get [] s.test.monErr (groupKey g)).filter fun x => !s.elapsed x 1000000).length →
      exec (.stakeMonitorError g vias) s = .next (vias.foldl (replaceVia g) { s with test := { s.test with
        monAt := at_,
        monErr := AMap.set [] s.test.monErr (groupKey g) [] } })) := by
  have hexec : exec (.stakeMonitorError g vias) s = execStakeMonitorError g vias s := rfl
  have hgo : ¬ (¬ monitored s g ∨ groupFailed s (groupKey g)) := by
    rw [hmon, hfailed]
    decide
  rw [hexec]
  unfold execStakeMonitorError
  dsimp only
  rw [if_neg hgo, List.length_append, List.length_singleton, hat]
  refine ⟨fun hfew => ?_, fun hmany => ?_⟩
  · rw [if_pos (by omega)]
    cases g <;> rfl
  · rw [if_neg (by omega)]
    cases g <;> rfl

theorem applyShift_leaves (s : State) (g row source : Nat) : (applyShift s g row source).test = { s.test with shifted := AMap.set 0 s.test.shifted g (0x80 + row) } ∧
    (applyShift s g row source).fuses = { s.fuses with rowShift := AMap.set 0 s.fuses.rowShift g (0x80 + row) } ∧
    (applyShift s g row source).cap = s.cap := by
  rw [applyShift, event_test, event_fuses, event_cap]
  exact ⟨rfl, rfl, rfl⟩

theorem rowShiftDone_shifts {s : State} {g row at_ : Nat} (hbusy : s.test.shiftBusy = some (g, row, at_))
    (htime : s.elapsed at_ ((8 - row) * 25000) = true) : ∃ t, exec .rowShiftDone s = .next t ∧ t = applyShift (moveRows { s with
        test := { s.test with shiftBusy := none },
        cap := { s.cap with buffers := s.cap.buffers.filter fun kv => decide (kv.1 / 524288 ≠ g) } } g row) g row 2 ∧
      t.test.shiftBusy = none ∧ t.test.shifted = AMap.set 0 s.test.shifted g (0x80 + row) ∧
      t.fuses = { s.fuses with rowShift := AMap.set 0 s.fuses.rowShift g (0x80 + row) } ∧
      t.cap.buffers = s.cap.buffers.filter fun kv => decide (kv.1 / 524288 ≠ g) := by
  have hexec : exec .rowShiftDone s = execRowShiftDone s := rfl
  rw [hexec, execRowShiftDone, hbusy]
  dsimp only
  rw [if_neg (not_not.mpr htime)]
  refine ⟨_, rfl, rfl, ?_⟩
  generalize hu : moveRows _ g row = u
  obtain ⟨htest, hfuses, hcap⟩ := applyShift_leaves u g row 2
  rw [htest, hfuses, hcap, ← hu]
  exact ⟨rfl, rfl, rfl, rfl⟩

/-! #### JTAG -/

theorem samplePreload_loads {preload : List (Nat × Bool)} {s u : State} (hu : u = useJtag s) (hopen : jtagOpen u = true) :
    ∃ t bits, exec (.samplePreload preload) s = .next t ∧
      t.test.preload = setCells u u.test.preload (preload.filter fun c => cellReached u c.1) ∧ t.test.cells = u.test.cells ∧
      t.outs = u.outs ++ [.jtag bits] ∧ bits.length = (preload.filter fun c => cellReached u c.1).length := by
  have hexec : exec (.samplePreload preload) s = execSamplePreload preload s := rfl
  rw [hexec, execSamplePreload, ← hu]
  dsimp only
  rw [if_neg (not_not.mpr hopen)]
  refine ⟨_, _, rfl, rfl, rfl, rfl, ?_⟩
  rw [List.length_map, List.length_mapIdx]

theorem debug_issues {write : Bool} {addr : BitVec 48} {len : Nat} {data : List Byte} {s u : State} (hu : u = useJtag s) (hopen : jtagOpen u = true)
    (hmin : 0 < len) (hmax : len ≤ 1024) (hcredit : hasCredit u
      { kind := if write then 2 else 1, initiator := 0x70, src := 0, dst := 0, tag := 0, address := addr.toNat, length := len, use := .debug } = true) :
    exec (.debug write addr len data) s = .next (request { u with test := { u.test with instruction := 0x20 } }
      (if write then 2 else 1) 0x70 addr.toNat len 1 (if write then padTo data len else []) .debug false) := by
  have hexec : exec (.debug write addr len data) s = execDebug write addr len data s := rfl
  rw [hexec, execDebug, ← hu]
  dsimp only
  rw [if_neg (not_not.mpr hopen), if_neg]
  rintro (h | h | h)
  · omega
  · omega
  · exact h hcredit

theorem dieSelect_selects {die : Fin 25} {s u : State} (hu : u = useJtag s) :
    (jtagOpen u = true → u.mode = .service → (∀ n, dieTower die.val = some n → towerGroupFailed u n 11 = false) →
      exec (.dieSelect die) s = .next { u with test := { u.test with instruction := 0x30, dieSelected := some die.val } }) ∧
    (∀ n, jtagOpen u = true → u.mode = .service → dieTower die.val = some n → towerGroupFailed u n 11 = true →
      exec (.dieSelect die) s = .next (event { u with test := { u.test with instruction := 0xFF } } testSrc 0xA00E (u8 2))) ∧
    (jtagOpen u = false ∨ u.mode ≠ .service → exec (.dieSelect die) s = .next (jtagRefused u)) := by
  have hexec : exec (.dieSelect die) s = execDieSelect die s := rfl
  rw [hexec, execDieSelect, ← hu]
  dsimp only
  refine ⟨fun hopen hmode hgood => ?_, fun n hopen hmode hn hbad => ?_, fun hnot => ?_⟩
  · rw [if_neg (not_or.mpr ⟨not_not.mpr hopen, not_not.mpr hmode⟩), if_neg]
    cases hn : dieTower die.val with
    | none => exact Bool.false_ne_true
    | some n => exact fun h => absurd ((hgood n hn).symm.trans h) Bool.false_ne_true
  · rw [if_neg (not_or.mpr ⟨not_not.mpr hopen, not_not.mpr hmode⟩), if_pos (by rw [hn]; exact hbad)]
  · rw [if_pos (hnot.imp (fun h => by rw [h]; exact Bool.false_ne_true) id)]

/-- Settles O46: each repair and test by its own act, each JTAG instruction by the conditions under which it acts. -/
theorem testCommandsComplete : Obligations.TestCommandsComplete := by
  refine ⟨fun g vias s at_ hmon hfailed hat => stakeMonitorError_counts hmon hfailed (by cases g <;> exact hat), ?_, fun s g row at_ => rowShiftDone_shifts, ?_, ?_, ?_, ?_, ?_, ?_, ?_, ?_,
    fun s => rfl, fun preload s u => samplePreload_loads, ?_, ?_, fun write addr len data s u => debug_issues,
    fun die s u => dieSelect_selects, fun tdi s => rfl⟩
  · refine fun e v => rowCompletes_host (fun _ => rfl) fun s s1 who h => ?_
    rw [writeAnswered, respond_test, written_wo (by decide) (by decide) row_shift rfl rfl]
    simp only [actShift, leNat_u16]
  · intro r s hmode hmoved hkind
    exact congrArg Host.Outcome.next (if_pos ⟨hmode, hmoved, hkind⟩)
  · refine fun e runs => rowCompletes_host (fun _ => rfl) fun s s1 who h => ?_
    rw [writeAnswered, respond_test, respond_dram, written_wo (by decide) (by decide) row_calibrateNow rfl rfl]
    exact ⟨rfl, rfl⟩
  · refine fun e => rowCompletes_host (fun _ => rfl) fun s s1 who h => ?_
    rw [writeAnswered, respond_test, written_wo (by decide) (by decide) row_testRunStart rfl rfl]
    have hlate (s : State) (v : List Byte) : actTestRun.late s v 0 = s := rfl
    rw [hlate]
    simp only [actTestRun, testBegins_test]
  · intro fails found bad s hstate htime hfound hbad
    have hexec : exec (.testComplete fails) s = execTestComplete fails s := rfl
    rw [hexec, execTestComplete]
    dsimp only
    rw [if_neg (not_or.mpr ⟨not_not.mpr hstate, not_not.mpr htime⟩), ← hfound, ← hbad]
    refine ⟨_, rfl, ?_⟩
    rw [event_test]
    exact ⟨rfl, rfl⟩
  · refine fun e v c => rowCompletes_paired (fun _ => rfl) fun s s1 who h => ?_
    obtain ⟨f, hstate⟩ := h.pairState (by decide) (by decide) row_jtagOpenWrite
    have hlock : s1.fuses.debugLock = false := by simpa using of_decide_eq_true (need_none hstate)
    have hwritten := written_rwp (s1 := s1) (who := who) (v := [v]) (c := [c]) (a := actJtagOpen) (by decide) (by decide) row_jtagOpenWrite rfl rfl rfl
    have hobj : (writeAnswered s1 who e true (pairWrite 0x6C20 1 [v] [c]) actJtagOpen).obj = (s1.putObj 0x6C20 1 [v]).obj := by
      rw [writeAnswered, respond_obj, hwritten]
      exact (event_obj ..).trans (criticalWritten_obj ..)
    have hfuses : (writeAnswered s1 who e true (pairWrite 0x6C20 1 [v] [c]) actJtagOpen).fuses = s1.fuses := by
      rw [writeAnswered, respond_fuses, hwritten]
      exact (event_fuses ..).trans ((criticalWritten_links (sc := .wide [.board, .obs]) _ who _ _ _ _ (by simp)).keeps .fuses)
    exact ⟨(num_put hobj (by simp)).trans (leNat_u8 v), by rw [hfuses, hlock]⟩
  · refine fun e v => rowCompletes_host (fun _ => rfl) fun s s1 who h => ?_
    rw [writeAnswered, respond_fuses, written_wo (by decide) (by decide) row_lockCmd rfl rfl]
    rfl
  · intro cells s u hu hacts
    obtain rfl := hu.symm
    exact congrArg Host.Outcome.next (if_pos hacts)
  · intro cells s u hu hacts
    obtain rfl := hu.symm
    exact congrArg Host.Outcome.next (if_neg (by rw [hacts]; exact Bool.false_ne_true))
  · intro l s u hu hacts
    obtain rfl := hu.symm
    exact congrArg Host.Outcome.next (if_pos hacts)
  · intro l s u hu hacts
    obtain rfl := hu.symm
    exact congrArg Host.Outcome.next (if_pos hacts)

end Sys2Proof.Machine
end

section
/-! PROOFS. O47: counter, tally, sample and monitor commands complete. -/

namespace Sys2Proof.Machine

/-! #### What an event leaves of the observation part -/

/-- A record made changes the chronicle and the error register alone. -/
theorem recordAt_observe (s : State) (tai src code sev flags : Nat) (payload : List Byte) : ∃ c e,
    (recordAt s tai src code sev flags payload).obs = { s.obs with chron := c, errorReg := e } := by
  unfold recordAt raiseAlarm sourceTake
  dsimp only
  split <;> split <;> exact ⟨_, _, rfl⟩

/-- The tally's own record: what is latched, the last time, the snapshots and the values. -/
def tallyRecord (x : Observe) : Option (Nat × List U64) × Nat × Nat × AMap U64 := (x.latched, x.tallyLast, x.snapshots, x.tally)

theorem event_tallyRecord (s : State) (src code : Nat) (p : List Byte) : tallyRecord (event s src code p).obs = tallyRecord s.obs := by
  obtain ⟨c, e, h⟩ := recordAt_observe s s.tai src code (severityOf code) 0 p
  rw [event, h]
  rfl

theorem issue_tallyRecord (s : State) (p : Pkt) : tallyRecord (issue s p).obs = tallyRecord s.obs := by
  have hmissed (c : Prop) [Decidable c] (u : State) (i : Nat) (f : NocStat → NocStat) (src code : Nat) (q : List Byte)
      (h : tallyRecord u.obs = tallyRecord s.obs) : tallyRecord (if c then event (updStat u i f) src code q else u).obs = tallyRecord s.obs := by
    split
    · rw [event_tallyRecord]
      exact h
    · exact h
  unfold issue
  exact hmissed _ _ _ _ _ _ _ rfl

theorem writeCopy_tallyRecord (dest fuel off : Nat) (data : List Byte) (s : State) :
    tallyRecord (writeCopy dest fuel off data s).obs = tallyRecord s.obs := by
  induction fuel generalizing off data s with
  | zero => rfl
  | succ fuel ih =>
    rw [writeCopy]
    split
    · rfl
    · exact (ih ..).trans (issue_tallyRecord ..)

/-! #### Counters, the tally and the monitors -/

theorem counterConfig_written {s1 : State} (who : Requester) (v : List Byte) {r : ObjRow} (hr : rowOf 0x6D10 3 = some r) :
    (written s1 who false (wholeWrite 0x6D10 3 v) actCounterConfig).obs =
      { s1.obs with counters := AMap.upd {} s1.obs.counters (selCounter s1) fun c =>
        { config := BitVec.ofNat 64 (leNat (keepFields r (s1.bytesOf 0x6D10 3) v)), due := c.due } } := by
  obtain rfl := Option.some.inj (row_counterConfigWrite.symm.trans hr)
  simp [written, valueOf, wholeWrite, applyWrite, row_counterConfigWrite, storedForm, actCounterConfig]

theorem blockRight_of_anonymous {s : State} {src : Nat} (h : blockRight s .anonymous src = true) (who : Requester) : blockRight s who src = true := by
  have hnone : sealedRight s .anonymous = false := rfl
  rw [blockRight, hnone, Bool.or_false] at h
  rw [blockRight, h, Bool.true_or]

theorem snapshotReadDone_copies {s : State} {at_ : Nat} {vs : List U64} (hlatched : s.obs.latched = some (at_, vs)) :
    ∃ t, exec .snapshotReadDone s = .next t ∧ t.obs.latched = none ∧ t.obs.tallyLast = at_ ∧
      t.obs.snapshots = satInc s.obs.snapshots maxU32 ∧
      t.obs.tally = (vs.zipIdx 1).foldl (fun m v => AMap.set 0 m v.2 v.1) [] := by
  have hcopied (u : State) (dest n : Nat) (copy : List Byte) :
      tallyRecord (event (if dest = 0 then u else writeCopy dest 3 0 copy u) tallySrc 0xB012 (u32 n)).obs = tallyRecord u.obs := by
    rw [event_tallyRecord]
    split
    · rfl
    · exact writeCopy_tallyRecord ..
  have hexec : exec .snapshotReadDone s = execSnapshotReadDone s := rfl
  rw [hexec, execSnapshotReadDone, hlatched]
  dsimp only
  refine ⟨_, rfl, ?_⟩
  generalize hu : ({ s with obs := _ } : State) = u
  have hrecord := hcopied u (u.num 0x6D22 3) (satInc s.obs.snapshots maxU32)
    (u64 at_ ++ u32 (satInc s.obs.snapshots maxU32) ++ u16 vs.length ++ zeros 2 ++ vs.flatMap fun v => u64 v.toNat)
  generalize event _ tallySrc 0xB012 _ = t at hrecord ⊢
  have hset : tallyRecord u.obs = (none, at_, satInc s.obs.snapshots maxU32, (vs.zipIdx 1).foldl (fun m v => AMap.set 0 m v.2 v.1) []) := by
    rw [← hu]
    rfl
  rw [hset] at hrecord
  exact ⟨congrArg (·.1) hrecord, congrArg (·.2.1) hrecord, congrArg (·.2.2.1) hrecord, congrArg (·.2.2.2) hrecord⟩

/-- Settles O47: each counter, tally, sample and monitor command by its own act on the observation part. -/
theorem observeCommandsComplete : Obligations.ObserveCommandsComplete := by
  refine ⟨?_, ?_, ?_, ?_, ?_, ?_, fun s at_ vs => snapshotReadDone_copies, ?_, ?_, ?_, ?_, ?_⟩
  · refine fun e v => rowCompletes_host (fun _ => rfl) fun s s1 who h r hr => ?_
    rw [writeAnswered, respond_obs]
    exact counterConfig_written who (u64 v.toNat) hr
  · refine fun e => rowCompletes_host (fun _ => rfl) fun s s1 who h => ?_
    rw [writeAnswered, respond_obs, written_wo (by decide) (by decide) row_counterClearAll rfl rfl]
    rfl
  · refine fun e => rowCompletes_host (fun _ => rfl) fun s s1 who h => ?_
    rw [writeAnswered, respond_obs, written_wo (by decide) (by decide) row_counterClearAll rfl rfl]
    refine ⟨(s1.obs.counters.map (·.1)).filter fun k => blockRight s1 who (k / 16), rfl, fun k hk => (List.mem_filter.mp hk).1,
      fun k hk hright => List.mem_filter.mpr ⟨hk, blockRight_of_anonymous hright who⟩⟩
  · intro block counter s at_ w rest hdue
    have hexec : exec (.counterMilestone block counter) s = execCounterMilestone block counter s := rfl
    rw [hexec, execCounterMilestone]
    dsimp only
    rw [hdue]
  · intro s hnext htime hmode
    have hexec : exec .tallySnapshot s = execTallySnapshot s := rfl
    have hstep : (s.num 0x6D22 2 * 1000 = 0) = (s.num 0x6D22 2 = 0) := propext (by omega)
    rw [hexec, execTallySnapshot]
    dsimp only
    rw [if_neg (by rintro (h | h | h) <;> [exact hnext h; omega; exact hmode h])]
    simp only [hstep]
  · refine fun e => rowCompletes_host (fun _ => rfl) fun s s1 who h => ?_
    rw [writeAnswered, respond_obs, written_wo (by decide) (by decide) row_snapshotNow rfl rfl]
    rfl
  · refine fun e => rowCompletes_host (fun _ => rfl) fun s s1 who h => ?_
    rw [writeAnswered, respond_obs, written_wo (by decide) (by decide) row_sampleBufferClear rfl rfl]
    rfl
  · refine fun e n => rowCompletes_host (fun _ => rfl) fun s s1 who h => ?_
    rw [writeAnswered, respond_obs, written_wo (by have := n.isLt; omega) (by decide) (row_monitorClear n) rfl rfl]
    rfl
  · refine fun e n => rowCompletes_host (fun _ => rfl) fun s s1 who h => ?_
    rw [writeAnswered, respond_obs, written_wo (by have := n.isLt; omega) (by decide) (row_monitorClear n) rfl rfl]
    rfl
  · refine fun e n => rowCompletes_host (fun _ => rfl) fun s s1 who h => ?_
    rw [writeAnswered, respond_obs, written_wo (by have := n.isLt; omega) (by decide) (row_monitorClear n) rfl rfl]
    rfl
  · intro n level s hrun htime
    exact if_neg (not_or.mpr ⟨not_not.mpr hrun, by omega⟩)

end Sys2Proof.Machine
end

section
/-! PROOFS. O48: chronicle commands complete. -/

namespace Sys2Proof.Machine

/-! #### The chronicle's writer and its gap records -/

theorem gapRecord_reports {source : BitVec 16} {s : State} {l : Loss} (hsource : source.toNat ≠ writerSrc)
    (hloss : AMap.get none s.obs.chron.loss source.toNat = some l) (hheld : heldAt s source.toNat < 6)
    (htime : s.elapsed l.lastAt 1000 = true ∨ s.elapsed l.firstAt 10000 = true) :
    exec (.gapRecord source) s = .next (recordAt { s with obs := { s.obs with chron := { s.obs.chron with
      loss := AMap.set none s.obs.chron.loss source.toNat none } } } l.last source.toNat 0xB001 1 4 (lossPayload l)) := by
  have hexec : exec (.gapRecord source) s = execGapRecord source s := rfl
  rw [hexec, execGapRecord]
  dsimp only
  rw [if_neg fun h => hsource h.1, if_neg fun h => hsource h.1, hloss]
  dsimp only
  rw [if_pos ⟨hheld, htime⟩]

/-- A quiet event raises no alarm. -/
theorem event_alarm {code : Nat} (h : severityOf code < 2) (s : State) (src : Nat) (p : List Byte) : (event s src code p).board = s.board := by
  unfold event recordAt raiseAlarm sourceTake
  dsimp only
  rw [if_pos h]
  split <;> rfl

theorem event_chron_ring (s : State) (src code : Nat) (p : List Byte) :
    (event s src code p).obs.chron.wraps = s.obs.chron.wraps ∧ (event s src code p).obs.chron.written = s.obs.chron.written := by
  unfold event recordAt raiseAlarm sourceTake
  dsimp only
  split <;> split <;> exact ⟨rfl, rfl⟩

theorem chronEnable_empties {s : State} {who : Requester} {old new : List Byte} (hne : old ≠ new) (h : leNat new = 1) :
    (actChronEnable.apply s who old new).obs.chron.wraps = 0 ∧ (actChronEnable.apply s who old new).obs.chron.written = 0 := by
  simp only [actChronEnable, if_neg hne, if_pos h]
  generalize hu : ({ s with obs := _ } : State) = u
  obtain ⟨hwraps, hwritten⟩ := event_chron_ring u writerSrc 0xB004 (u64 (s.num 0x6D60 2) ++ u64 (s.num 0x6D60 3))
  rw [hwraps, hwritten, ← hu]
  exact ⟨rfl, rfl⟩

theorem chronEnable_obj (s : State) (who : Requester) (old new : List Byte) : (actChronEnable.apply s who old new).obj = s.obj := by
  unfold actChronEnable
  dsimp only
  split
  · rfl
  · split <;> exact event_obj ..

/-- Settles O48: each command of the chronicle by its own act on the sources' queue, the writer's areas and the ring. -/
theorem chronicleCommandsComplete : Obligations.ChronicleCommandsComplete := by
  refine ⟨?_, ?_, ?_, fun s => rfl, fun source s l => gapRecord_reports, ?_, ?_⟩
  · intro s i r hnext hr hwait
    have hexec : exec .chronicleRecord s = execChronicleRecord s := rfl
    rw [hexec, execChronicleRecord, hnext]
    dsimp only
    rw [hr]
    dsimp only
    rw [if_neg (by rw [hwait]; exact Bool.false_ne_true)]
  · intro status s hring halarms
    have hexec : exec (.ringPacketWrite status) s = execRingPacketWrite status s := rfl
    rw [hexec, execRingPacketWrite, if_neg (not_not.mpr hring)]
    exact congrArg Host.Outcome.next (if_pos halarms)
  · intro status s hring halarms hroom
    have hexec : exec (.ringPacketWrite status) s = execRingPacketWrite status s := rfl
    rw [hexec, execRingPacketWrite, if_neg (not_not.mpr hring)]
    exact congrArg Host.Outcome.next ((if_neg (not_not.mpr halarms)).trans (if_pos (.inl hroom)))
  · refine fun e => rowCompletes_host (fun _ => rfl) fun s s1 who h => ⟨who, ?_⟩
    rw [writeAnswered, respond_obs, respond_board, written_wo (by decide) (by decide) row_ackAlarm rfl rfl]
    refine ⟨rfl, ?_⟩
    exact congrArg Pins.alarm (event_alarm (by decide) ..)
  · refine fun e v => rowCompletes_host (fun _ => rfl) fun s s1 who h => ?_
    have hwritten : written s1 who false (wholeWrite 0x6D60 1 [v]) actChronEnable =
        actChronEnable.apply (s1.putObj 0x6D60 1 [v]) who (s1.bytesOf 0x6D60 1) [v] :=
      written_rw (by decide) (by decide) row_chronicleEnable rfl rfl rfl
    refine ⟨(num_put (s := s1) ?_ (by simp)).trans (leNat_u8 v), fun hold hv => ?_⟩
    · rw [writeAnswered, respond_obj, hwritten]
      exact chronEnable_obj ..
    · subst hv
      rw [writeAnswered, respond_obs, hwritten]
      refine chronEnable_empties (fun hne => ?_) rfl
      rw [State.num, hne] at hold
      exact absurd hold (by decide)

end Sys2Proof.Machine
end

end
